-- ==== Sys2Proof/Word.lean ====
section
/-! DEFINITION. The plain words of the DQH-3240 model: bytes, words, register fields and clock domains
(spec 00_scope, Registers, R2 to R10; spec 01, R33). -/

namespace Sys2Proof

/-- A byte of memory. -/
abbrev Byte := BitVec 8

/-- A Synosh general register (R320). -/
abbrev DWord := BitVec 64

/-- A 32-bit register word as software sees it (R6). -/
abbrev Word := BitVec 32

/-- A register field: its home in the register store (the bit address of its least significant bit,
8 x byte address + lsb, R2), its width, and its value after reset (R9). -/
structure Fld where
  key : Nat
  w   : Nat
  rst : Nat
  deriving DecidableEq, Repr

/-- The access codes of R10, the A suffix apart. -/
inductive Access where
  | rw | ro | wo | w1c | w1s | rws
  deriving DecidableEq, Repr

/-- One row of a register table (R9): position, width, access code, A suffix, reset value. -/
structure FieldDef where
  lsb   : Nat
  w     : Nat
  acc   : Access
  acap  : Bool
  rst   : Nat
  deriving DecidableEq, Repr

/-- The clock domains of R33. -/
inductive ClkDom where
  | aon | ref | core | ctl | time | ddr | usb | pcie | aud
  | trk (e : Nat) | tyc (n : Nat) | eth (n : Nat) | pix (n : Nat)
  deriving DecidableEq, Repr

/-- Where the clock domain of a register comes from: one domain, or the first index of its table. -/
inductive DomOf where
  | one (d : ClkDom)
  | trk | tyc | eth | pix
  deriving DecidableEq, Repr

/-- The clock domain of the register whose first index is `i`. -/
def DomOf.at (i : Nat) : DomOf → ClkDom
  | .one d => d
  | .trk => .trk i
  | .tyc => .tyc i
  | .eth => .eth i
  | .pix => .pix i

end Sys2Proof
end

