-- ==== Sys2Proof/Payload.lean ====
section
/-! DEFINITION. What commands carry and queues hold: times, blocks and control-block bodies (R77, R94), tunnel headers
(R146), and the names of windows (R595). -/

namespace Sys2Proof.Machine

/-- The indirect table windows (R595). -/
inductive Window where
  | ctx | queue | gate | qstate | pstate | keySlot | mem
  deriving DecidableEq, Repr

/-- A time in the formats of R4: seconds, nanoseconds, fraction in 2^-32 ns. -/
structure Ts where
  sec  : Nat
  ns   : Nat
  frac : Nat
  deriving DecidableEq, Repr

/-- A CAP block (R94): `lanes` gives for each physical lane whether it passed and its blotter error count. -/
structure Cap where
  subtype : Nat
  unitId  : Nat
  stnValid : Bool
  station : Nat
  plan    : Nat
  allow   : Nat
  medium  : Bool
  byp     : Bool
  ring    : Bool
  segLen  : Nat
  cur     : Nat
  port    : Nat
  reqSer  : Nat
  lanes   : List (Bool × Nat)
  rev     : Nat
  deriving DecidableEq, Repr

/-- A TICK block (R94): CORR is signed, in 2^-16 ns. -/
structure Tick where
  origin  : Ts
  corr    : Int
  count   : Nat
  source  : Nat
  quality : Nat
  deriving DecidableEq, Repr

/-- A DELAY block (R94): a REPLY where `reply`. -/
structure Delay where
  reply : Bool
  dseq  : Nat
  t1    : Ts
  t2    : Ts
  t3    : Ts
  deriving DecidableEq, Repr

/-- An ACCORD block (R94): subtype 0 PREPARE, 1 VOTE, 2 GO, 3 ABANDON; `raw` is the payload in which it came, whose reserved bits
a forwarded block keeps (R5), empty in a block this hub builds. -/
structure AcMsg where
  subtype : Nat
  id      : Nat
  epoch   : Nat
  commit  : Ts
  coord   : Nat
  vote    : Bool
  noStn   : Nat
  voters  : Nat
  hops    : Nat
  fenced  : Nat
  raw     : List Byte
  deriving DecidableEq, Repr

/-- A WRAP block (R94): an UNWRAP notice where `unwrap`; `raw` as in an ACCORD block (R5). -/
structure WrapMsg where
  unwrap  : Bool
  port    : Nat
  cause   : Nat
  station : Nat
  hops    : Nat
  whenAt  : Ts
  raw     : List Byte
  deriving DecidableEq, Repr

/-- The header fields of a block (R77); `nonce` is the first field of an unsequenced block's payload (R94). -/
structure BlkHdr where
  ty    : Nat
  first : Bool
  last  : Bool
  poison : Bool
  seq   : Nat
  ack   : Nat
  akind : Nat
  sq    : Nat
  pid   : Nat
  len   : Nat
  ccls  : Nat
  ccnt  : Nat
  nonce : Nat
  deriving DecidableEq, Repr

/-- The content of a block after its header; an AUTH block carries one fragment of a message. -/
inductive Body where
  | data (bytes : List Byte)
  | idle
  | cap (c : Cap)
  | credit (cum : List Nat)
  | tick (t : Tick)
  | delay (x : Delay)
  | accord (m : AcMsg)
  | wrap (m : WrapMsg)
  | auth (msg idx cnt total : Nat) (bytes : List Byte)
  deriving DecidableEq, Repr

/-- A block (R77). -/
structure Block where
  hdr  : BlkHdr
  body : Body
  deriving DecidableEq, Repr

/-- A block as it comes off the lanes of a port: its 272 bytes, and the FEC work on each physical lane since the block before it:
corrected symbols, and uncorrectable codewords with pair-mark errors (R50, R75). -/
structure RxBlk where
  bytes : List Byte
  fec   : List (Nat × Nat)
  deriving DecidableEq, Repr

/-- A tunnel header (R146). -/
structure THdr where
  ver    : Nat
  cls    : Nat
  g      : Bool
  dest   : Nat
  origin : Nat
  index  : Nat
  colour : Nat
  rel    : Bool
  dir    : Bool
  kind   : Nat
  len    : Nat
  akv    : Bool
  tseq   : Nat
  aux    : Nat
  deriving DecidableEq, Repr

/-- What the checker found on a read of a protected memory (R563, R564). -/
inductive Ecc where
  | ok | ce | ue
  deriving DecidableEq, Repr

/-- How a self-test slice ended (R571, R572): the spec leaves the expected MISR to the boot ROM. -/
inductive BistEnd where
  | pass | fail | aborted
  deriving DecidableEq, Repr

/-- The immediate of a Synosh instruction: its own field of `n` bits, or the 32 bits of a LIMM pair (R354). -/
inductive Imm (n : Nat) where
  | short (v : BitVec n)
  | pair (v : BitVec 32)
  deriving DecidableEq, Repr

/-- The conditions of CMP and CMPI (R359). -/
inductive Cond where
  | eq | ne | lt | ge | ltu | geu | tstz | tstnz
  deriving DecidableEq, Repr

/-- What the hardware meets when a register write acts, where the write itself does not say it: the checker's finding at a word
that is read; `seen`, whether the sink reports PSR (R448), or whether a frame was being sent (R390); and of a scrub pass that ends the
words read, the corrected and the uncorrectable ones (R566). -/
structure ActEnv where
  ecc  : Ecc
  seen : Bool
  read : Nat
  ces  : List Nat
  ues  : List Nat
  deriving DecidableEq, Repr

end Sys2Proof.Machine
end

