-- ==== Sys2Proof/Syntax.lean ====
section
/-! DEFINITION. The commands of the block, one constructor for each row of the table of operations and events
(spec/opcode_table.json), in its order, with the operands the row's rule gives it. The docstring is the rule and the
table's words. -/

namespace Sys2Proof

open Sys2Proof.Machine

/-- A command: an operation of a thread, a register write that acts, a block received, an edge on a pin or a timer. -/
inductive Instr where
  /-- R10: A thread stores to a register field that has no row of its own; the write is posted to the register's domain according to the field's access code. -/
  | regWrite (t : Fin 32) (a : BitVec 40) (v : Word)
  /-- R17: A posted register write reaches its domain after its settle time, or within 2 µs on the power die, and takes effect there. -/
  | regWriteActs (k : Nat) (e : ActEnv)
  /-- R7: An access to an unmapped register offset: a read returns zero, a write is discarded, and a record is posted. -/
  | unmappedRegAccess (t : Fin 32) (a : BitVec 40)
  /-- R40: An access to a register whose power domain is not ON completes without effect and posts BUS_DOMAIN_OFF. -/
  | domainOffAccess (t : Fin 32) (a : BitVec 40)
  /-- R16: An indirect-window command register receives an OP value that its window does not list; nothing happens and DONE stays 1. -/
  | windowUnlistedOp (w : Window) (op : Nat)
  /-- R39: A domain clock stops or changes frequency; its registers switch glitch-free to REF, and any held write takes effect once the switch completes. -/
  | domainClockSwitch (c : ClkDom) (held : Nat) (e : ActEnv)
  /-- R28: An entry frees in the full AON queue, and the power die posts one overflow record carrying the number of records it lost. -/
  | aonEvqOverflow
  /-- R29: A bridge transfer has not completed for 50 µs; BUS_BRIDGE_LOST is posted and bridge retraining starts. -/
  | bridgeTransferTimeout (done : Nat) (e : ActEnv)
  /-- R29: Bridge retraining completes; power-die accesses resume, and the held AON records are delivered. -/
  | bridgeRetrained
  /-- R61: TRK_CTL.EN is written 1; the sequencer latches and checks the plan and enters PLAN_TX. -/
  | seqEnable (p : Fin 2)
  /-- R61: TRK_CTL.EN is written 0; the lanes go to electrical idle and the sequencer enters OFF. -/
  | seqDisable (p : Fin 2)
  /-- R61: TRK_CTL.RETRAIN is written 1; the retrain-used mark is cleared and the sequencer restarts at PLAN_TX. -/
  | trkRetrain (p : Fin 2)
  /-- R51: An L10 alignment set is received on a lane and counts towards lane alignment and deskew. -/
  | alignmentSetRx (p : Fin 10) (n : Fin 4) (skew : BitVec 8) (set : BitVec 24) (own : BitVec 8)
  /-- R54: A comma block is received on a lane in an FEC mode and counts towards alignment acquisition or presence. -/
  | commaBlockRx (p : Fin 10) (n : Fin 4) (skew : BitVec 8) (blk : BitVec 120) (own : BitVec 8)
  /-- R55: An expected alignment set or comma block fails to arrive at its position and counts towards loss of alignment. -/
  | alignMarkerMissing (p : Fin 10) (n : Fin 4)
  /-- R52: Invalid code groups, or uncorrectable codewords, reach the count at which a lane loses alignment. -/
  | codeErrorThreshold (p : Fin 10) (n : Fin 4)
  /-- R55: The signal detector has reported loss of signal for 1 µs, and the lane loses alignment. -/
  | losTimeout (p : Fin 10) (n : Fin 4)
  /-- R61: 4 ms pass in PLAN_TX without alignment; FALLBACK is raised and the sequencer enters LADDER_L25 or LADDER_L10. -/
  | planTxTimeout (p : Fin 2)
  /-- R61: 4 ms pass in LADDER_L25 without alignment; the sequencer enters LADDER_L10. -/
  | ladderL25Timeout (p : Fin 2)
  /-- R61: 100 ms pass in LADDER_L10 without alignment; the sequencer returns to PLAN_TX. -/
  | ladderL10Timeout (p : Fin 2)
  /-- R61: The 1 ms CAP timer expires; LOCK_LOST is raised and the sequencer returns to PLAN_TX. -/
  | capTimeout (p : Fin 10)
  /-- R61: The target lanes have not aligned 4 ms into RETRAIN; RETRAIN_FAIL and DOWNGRADED are set and the sequencer enters LADDER_L10. -/
  | retrainTimeout (p : Fin 2)
  /-- R96: The 10 µs interval passes in CAP and the port sends a CAP block. -/
  | capSendTimer (p : Fin 10)
  /-- R61: A partner CAP block of SUBTYPE CAP is received; the best common mode is computed and the sequencer moves on. -/
  | capRx (p : Fin 10) (b : RxBlk)
  /-- R64: The 1 ms blotter window ends; the per-lane error counts are judged and the port starts sending BLOT_RESULT. -/
  | blotWindowEnd (p : Fin 10) (bits : List (List Bool))
  /-- R96: The 10 µs interval passes and BLOT_RESULT is repeated. -/
  | blotResultRepeat (p : Fin 10)
  /-- R61: The partner's BLOT_RESULT arrives; the sequencer enters SERVICE, remaps lanes into RETRAIN, or falls back to the ladder. -/
  | blotResultRx (p : Fin 10) (b : RxBlk)
  /-- R61: No BLOT_RESULT has arrived 100 µs after the window; every lane is counted as failed at the partner and BLOT_FAIL is raised. -/
  | blotResultTimeout (p : Fin 10)
  /-- R190: Free cells satisfy a pending reserve claim, and the port sends its first CREDIT block. -/
  | reserveClaimMet (p : Fin 10)
  /-- R67: TRK_BYP_CTL.INLINE is written; the write is refused with PLAN_MISMATCH, or the power die drives TRK_BYP. -/
  | bypassInlineWrite (v : Bool)
  /-- R84: A good sequenced block is received; it is accepted, discarded as duplicate or answered with a NAK, and its ACK and credit fields are processed. -/
  | dataBlockRx (p : Fin 10) (b : RxBlk)
  /-- R79: A block fails its check or its CTRL/TYPE match; it is discarded and counted, and a NAK is owed. -/
  | blockRxBad (p : Fin 10) (b : RxBlk)
  /-- R92: An IDLE block is received; its acknowledgement and credit fields are processed and the block is dropped. -/
  | idleBlockRx (p : Fin 10) (b : RxBlk)
  /-- R91: A CREDIT block is received, and the cumulative granted counts of all eight classes are updated. -/
  | creditRx (p : Fin 10) (b : RxBlk)
  /-- R91: 100 µs pass since the last CREDIT block, and another CREDIT block is sent. -/
  | creditSendTimer (p : Fin 10)
  /-- R93: A block boundary arrives at a Tirrun egress, and the sender picks the next block to send in priority order. -/
  | txBlockBoundary (p : Fin 10) (ecc : Ecc)
  /-- R86: No acknowledgement advances for LNK_ACKTO, and the sender replays from the oldest unacknowledged block. -/
  | ackTimeout (p : Fin 10)
  /-- R88: 50 µs pass since a block's first replay without an acknowledgement, and the segment is declared failed with BUDGET_TIME. -/
  | retryBudgetTime (p : Fin 10)
  /-- R102: No block is delimited on aligned lanes for 4 µs, and the segment is declared failed with cause SILENT. -/
  | linkSilent (p : Fin 10)
  /-- R101: The 1 ms INIT timer expires without a CREDIT block, and the link fails with cause INIT. -/
  | linkInitTimeout (p : Fin 10)
  /-- R101: 100 ms pass in AUTH, and the link fails with cause AUTH. -/
  | authTimeout (p : Fin 10)
  /-- R101: 5 µs pass in FAILED; the sequencer goes to PLAN_TX and the link to DOWN. -/
  | linkFailedExpire (p : Fin 10)
  /-- R101: LNK_CTL.ADMIT is written 1 in ADMIT; the port unwraps, enters RUN and sends an UNWRAP notice on a ring. -/
  | linkAdmitWrite (p : Fin 10)
  /-- R101: LNK_CTL.ADMIT is written 0 in RUN; the port returns to ADMIT and wraps or drops non-CTRL traffic. -/
  | linkUnadmitWrite (p : Fin 10)
  /-- R109: LNK_CTL.FAIL is written 1, and the link declares failure with cause SOFTWARE. -/
  | linkFailWrite (p : Fin 10)
  /-- R108: A WRAP notice arrives; WRAP_NOTICE is raised, a Sillage entry is written, and the notice is forwarded or absorbed. -/
  | wrapNoticeRx (p : Fin 10) (b : RxBlk)
  /-- R108: An UNWRAP notice arrives and is recorded and forwarded as a WRAP notice is. -/
  | unwrapNoticeRx (p : Fin 10) (b : RxBlk)
  /-- R218: TB0 crosses a multiple of 62.5 µs, and a TICK block becomes due on every active Tirrun port. -/
  | tickDue
  /-- R220: A TICK block is received and, if it qualifies, gives the servo a sample. -/
  | tickRx (p : Fin 10) (b : RxBlk)
  /-- R219: 1 ms of TB0 passes, offset from the ticks, and a DELAY REQ becomes due on the port. -/
  | delayReqDue (p : Fin 10)
  /-- R219: A DELAY REQ is received, and a REPLY is sent at the first block boundary. -/
  | delayReqRx (p : Fin 10) (b : RxBlk)
  /-- R219: A DELAY REPLY is received; the link delay D is updated, or the measurement is rejected as an outlier. -/
  | delayReplyRx (p : Fin 10) (b : RxBlk)
  /-- R117: A write changes STN_ID, and a CAP block carrying the new STATION is sent on every port in ADMIT or RUN. -/
  | stnIdWrite (v : Word)
  /-- R118: Software writes 1 to STN_STAT.FENCED to clear fencing. -/
  | fenceClearWrite
  /-- R125: A neighbour HELLO is received; it is relayed as JOIN if the hub qualifies, or discarded. -/
  | helloRx (p : Fin 10) (uid : DWord) (hint : BitVec 12) (line epoch : Word) (port depth : Byte)
  /-- R127: ASSIGN is received; STN_ID is written and ASSIGNED is answered, or REFUSE is answered. -/
  | assignRx (relay : Option (Fin 10)) (origin : BitVec 12) (xid : Word) (num : BitVec 12) (role : Fin 4) (depth : Byte)
      (ring : Bool)
  /-- R125: An ALLOT_LOAD fragment is received; it is staged, and on LASTFRAG it is committed as one NOW accord and EPOCH_REPORT is answered. -/
  | allotLoadRx (origin : BitVec 12) (xid epoch : Word) (image : List (Nat × Nat)) (last : Bool)
  /-- R128: An Enique ADMIT is received; epochs are compared, and the hub admits its ports or refuses with EPOCH_STALE. -/
  | admitMsgRx (origin : BitVec 12) (xid : Word) (mask : BitVec 10) (epoch : Word)
  /-- R121: A neighbour's FENCED message is received, and the facing port's ADMIT is written 0. -/
  | fencedMsgRx (p : Fin 10)
  /-- R131: LEAVE is received; all ports are un-admitted, VALID and INLINE are cleared, and SEG_REPORT is answered. -/
  | leaveRx (origin : BitVec 12) (xid : Word)
  /-- R125: SEG_REQ is received; a mode request starts and SEG_REPORT is answered. -/
  | segReqRx (origin : BitVec 12) (xid : Word) (p : Fin 10) (plan : Fin 16) (ring byp : Bool)
  /-- R125: STATUS_QUERY is received, and STATUS is answered with the requested register values. -/
  | statusQueryRx (origin : BitVec 12) (xid : Word) (regs : List Nat)
  /-- R125: A message with an unknown code is received and answered with REFUSE, reason CODE. -/
  | unknownEniqueRx (origin : BitVec 12) (xid : Word)
  /-- R124: A message's repeat interval passes with no answer, and the message is sent again; after 1 s the loss is reported. -/
  | eniqueRepeat (code : Fin 16)
  /-- R124: 5 s pass without a relay of HELLO; the hub slows to one HELLO per second and owes a SEG_REPORT. -/
  | helloSilence
  /-- R134: LNK_MREQ.GO is written 1; a MODE_REQ is sent, or RESULT reads INVALID. -/
  | modeReqGo (p : Fin 10) (plan : Fin 16) (ring byp : Bool)
  /-- R96: 10 µs pass with a MODE_REQ pending, and the request is repeated. -/
  | modeReqRepeat (p : Fin 10)
  /-- R142: 1 ms passes without a MODE_ACK or COLLIDE, and RESULT becomes TIMEOUT. -/
  | modeReqTimeout (p : Fin 10)
  /-- R135: A MODE_REQ is received; it is answered with MODE_ACK or COLLIDE as R135 and R136 give. -/
  | modeReqRx (p : Fin 10) (b : RxBlk)
  /-- R135: A good MODE_ACK with the requester's REQ_SER is received; the plan is written and the sequencer restarts. -/
  | modeAckRx (p : Fin 10) (b : RxBlk)
  /-- R136: A COLLIDE for the own request is received, and the request settles as COLLIDED with a back-off. -/
  | collideRx (p : Fin 10) (b : RxBlk)
  /-- R135: 20 µs pass after the answering end's first MODE_ACK, and it writes the plan and restarts its sequencer. -/
  | modeAckRestartTimer (p : Fin 10)
  /-- R137: The collision back-off ends, and a held request is sent. -/
  | mreqBackoffEnd (p : Fin 10)
  /-- R159: The FIRST block of a tunnel packet arrives; the header is looked up and the packet is forwarded, terminated or discarded. -/
  | packetFirstBlock (p : Fin 10) (ecc : Ecc)
  /-- R194: A packet held under order 5 is decided again in a later cycle, once room may exist. -/
  | admissionRetry (ing : Fin 23) (ecc : Ecc)
  /-- R166: The LAST block of a packet arrives; the end-to-end CRC is checked, and the packet is poisoned, forwarded or delivered. -/
  | packetLastBlock (p : Fin 10) (ecc : Ecc)
  /-- R171: A tunnel ACK packet, or AUX acknowledgement, is received; TX_UNA advances and the SACK is recorded. -/
  | ackPacketRx (c : Fin 1024) (una : Word) (sack : Option (BitVec 16))
  /-- R147: A REFRESH packet arrives at the label origin of a DISP tunnel and is delivered to its local port. -/
  | refreshPacketRx (c : Fin 1024) (payload : List Byte)
  /-- R164: A local source hands a packet to an ORIG context; it is allotted, policed and queued, or discarded. -/
  | localPacketEntry (c : Fin 1024) (ing : Fin 13) (payload : List Byte) (pre : Option (Fin 3)) (aux : Word)
  /-- R263: A reliable packet held at red would no longer be red, and it is marked and sent. -/
  | policerRelease (k : Nat)
  /-- R170: 20 µs pass after the oldest unacknowledged delivery, or 8 packets have been delivered, and an ACK packet is sent. -/
  | tunnelAckTimer (c : Fin 1024)
  /-- R171: The RTO of TX_UNA expires, and the unacknowledged packets are resent. -/
  | tunnelRtoExpire (c : Fin 1024)
  /-- R153: The context window's READ copies all 16 words of a context into DATA0–15. -/
  | ctxRead
  /-- R153: The context window's WRITE copies the RW fields into a disabled context. -/
  | ctxWrite
  /-- R153: The context window's ENABLE checks the configuration and puts the context into RUN. -/
  | ctxEnable
  /-- R153: The context window's DISABLE puts the context into DISABLED and discards its pending packets. -/
  | ctxDisable
  /-- R153: The context window's CLRCNT clears words W8–W15 of a context. -/
  | ctxClrcnt
  /-- R158: A store to a TMT slot outside an accord is discarded, TMT_REFUSED is raised, and the store is counted. -/
  | tmtStoreRefused
  /-- R198: A queue's on-chip part falls below LOW while its spill part is not empty, and the refill engine starts reading spilled cells. -/
  | refillStart (q : Fin 1216)
  /-- R198: A spilled cell read returns from DRAM and is staged into STAGE. -/
  | refillCellArrive (q : Fin 1216) (ecc : Ecc)
  /-- R211: The queue window's READ copies W0–W7 of a queue into DATA0–7. -/
  | swcQRead
  /-- R211: The queue window's WRITE copies W0 and W1 into a queue, or is refused with CONFIG. -/
  | swcQWrite
  /-- R211: The queue window's CLRCNT clears W4–W7 of a queue. -/
  | swcQClrcnt
  /-- R215: TMB_SNAP.GO copies all four time bases into their snapshot registers. -/
  | tbSnapshot
  /-- R216: A write of a time base increment takes effect, or is refused while the servo owns TB0. -/
  | tbIncrWrite (n : Fin 4) (frac : Bool) (val : Word)
  /-- R216: A write of PADJ starts a phase slew at 100 ppm, or is refused. -/
  | tbPhaseSlew (n : Fin 4) (val : Word)
  /-- R216: The whole PADJ amount has been added, and PADJ_BUSY clears. -/
  | padjSlewDone (n : Fin 4)
  /-- R216: TMB_LOAD_CMD.GO loads seconds and nanoseconds into a time base, or is refused. -/
  | tbLoad (n : Fin 4)
  /-- R217: The TIME PLL locks after a reset or a REFSEL change; PLL_LOCK reads 1 and the time bases count. -/
  | timePllLock
  /-- R217: TIMEREF shows no edge for 2 µs or exceeds 200 ppm; the PLL holds and TIMEREF_LOST is raised. -/
  | timerefLost
  /-- R222: TMB_SRV_CTL.EN is written 1, and the servo enters FREERUN. -/
  | servoEnable
  /-- R222: TMB_SRV_CTL.EN is written 0; f is zeroed and the servo enters OFF. -/
  | servoDisable
  /-- R222: REACQ is written 1; f is zeroed and the servo returns to FREERUN. -/
  | servoReacq
  /-- R224: A write changes SRC, and the new port becomes active at once. -/
  | servoSrcWrite (src : Fin 16)
  /-- R222: No sample arrives for 4 × P; the servo switches to ALT or enters HOLDOVER. -/
  | servoSampleTimeout
  /-- R228: A PPS_IN edge is stamped and, with SRC = PPS_IN, gives the servo a sample. -/
  | ppsInEdge (rise : Bool)
  /-- R227: The selected time base crosses a whole second plus the offset, and PPS_OUT rises. -/
  | ppsOutPulse
  /-- R227: OUT_WIDTH µs pass, and PPS_OUT falls. -/
  | ppsOutPulseEnd
  /-- R230: A LOW event is pushed to a pin queue, or refused. -/
  | tioPushLow (k : Fin 16) (width : BitVec 24)
  /-- R230: A HIGH event is pushed to a pin queue, or refused. -/
  | tioPushHigh (k : Fin 16) (width : BitVec 24)
  /-- R230: A PULSE event is pushed to a pin queue, or refused. -/
  | tioPushPulse (k : Fin 16) (width : BitVec 24)
  /-- R230: A START event of a pulse train is pushed to a pin queue, or refused. -/
  | tioPushStart (k : Fin 16) (width : BitVec 24)
  /-- R230: A STOP event is pushed to a pin queue, or refused. -/
  | tioPushStop (k : Fin 16) (width : BitVec 24)
  /-- R230: CLEAR empties the pin's event queue at push time. -/
  | tioPushClear (k : Fin 16)
  /-- R230: The time base reaches a queued event's instant, and the pin acts. -/
  | tioEventDue (k : Fin 16)
  /-- R230: WIDTH × 8 ns pass after a pulse starts, and the pin returns to IDLE. -/
  | tioPulseEnd (k : Fin 16)
  /-- R229: A pulse-train period passes in PERIODIC mode, and the next pulse starts. -/
  | tioTrainPeriod (k : Fin 16)
  /-- R232: A filtered edge of the selected polarity is stamped into the pin's capture FIFO, or dropped when it is full. -/
  | tioCaptureEdge (k : Fin 16) (rise : Bool)
  /-- R232: A write to TIO_CAP_POP removes the oldest stamp of the selected pin. -/
  | tioCapPop
  /-- R245: A write to TIO_CFG changes the mode and empties the pin's event queue and capture FIFO. -/
  | tioCfgWrite (k : Fin 16) (val : Word)
  /-- R238: The Sillage writer writes a posted entry from its FIFO into the DRAM ring, or drops it. -/
  | sillageWrite
  /-- R238: Space frees after drops, and the writer writes a GAP entry with the number dropped. -/
  | sillageGap
  /-- R239: A write to SIL_RD frees ring entries and clears OVERRUN. -/
  | silRdWrite (val : Word)
  /-- R256: A gate cycle starts; a pending bank or EN change applies, and GATE_SWITCH or GATE_CFG is raised. -/
  | gateCycleStart (p : Fin 2)
  /-- R255: An entry's DUR ends, and the next entry's gates apply. -/
  | gateEntryBoundary (p : Fin 2)
  /-- R265: TB0 crosses a multiple of PERIOD, and a telemetry sampling pass starts, or is skipped as an overrun. -/
  | telPassStart
  /-- R273: The gate-entry window's READ copies an entry into DATA0 and DATA1. -/
  | gwRead
  /-- R273: The gate-entry window's WRITE writes an entry, or is refused with BUSY for the bank in use. -/
  | gwWrite
  /-- R276: The queue-state window's READ snapshots W0–W15 of a queue. -/
  | qsRead
  /-- R276: The queue-state window's CLRCNT clears the queue's counters. -/
  | qsClrcnt
  /-- R278: The policer-state window's READ snapshots W0–W5 of a policer. -/
  | psRead
  /-- R278: The policer-state window's CLRCNT clears W2–W5 of a policer. -/
  | psClrcnt
  /-- R293: The commit instant of a CLOSED AT accord arrives, and the accord commits. -/
  | atCommitPoint (n : Fin 16)
  /-- R298: A PREPARE is received; the upstream port is recorded, the own vote is judged, and the PREPARE is forwarded or absorbed. -/
  | accordPrepareRx (p : Fin 10) (b : RxBlk)
  /-- R299: A VOTE arrives from a downstream port; once every port is answered, the combined VOTE is sent upstream or decided. -/
  | accordVoteRx (p : Fin 10) (b : RxBlk)
  /-- R302: A GO is received, held for commit at T, and forwarded. -/
  | accordGoRx (p : Fin 10) (b : RxBlk)
  /-- R302: An ABANDON is received; the accord aborts and the ABANDON is forwarded. -/
  | accordAbandonRx (p : Fin 10) (b : RxBlk)
  /-- R303: T arrives in own TB0; a LINE accord that holds GO commits, and one without a decision aborts LATE. -/
  | lineCommitT (id : Word)
  /-- R301: Votes are incomplete at T − ACD_GO_LEAD, and the coordinator floods ABANDON. -/
  | lineVoteDeadline (id : Word)
  /-- R308: A held accord sees no status stage within 5 s and aborts LATE. -/
  | heldAccordTimeout (n : Fin 16)
  /-- R294: A plain store to ACD_EPOCH is discarded, and EPOCH_REFUSED is raised. -/
  | epochStore
  /-- R319: START is written 1, and an OFF thread starts at SYN_THn_PC. -/
  | threadStart (t : Fin 32)
  /-- R319: STOP is written 1; the thread completes its issued instructions and goes OFF. -/
  | threadStop (t : Fin 32)
  /-- R319: RESET is written 1; the thread's accords abort with RESET, its registers are zeroed, and it goes OFF. -/
  | threadReset (t : Fin 32)
  /-- R324: The missing data returns, run-ahead ends, and the thread resumes from the load. -/
  | dcacheMissReturn (t : Fin 32) (ecc : Ecc)
  /-- R336: A write of SYN_EVQq_RD frees ring slots, and a pending EVQ_OVERFLOW record may be written. -/
  | evqRdWrite (q : Fin 32) (v : BitVec 12)
  /-- R348: A write of SYN_EVQq_CFG that sets EN resets WR and RD; other writes are taken only while EN is 0. -/
  | evqCfgWrite (q : Fin 32) (v : Word)
  /-- R350: A write of SYN_PQq_CFG that sets EN resets WR and RD. -/
  | pqCfgWrite (q : Fin 32) (v : Word)
  /-- R351: A write of SYN_PERF_IDX copies the named counter into SYN_PERF_LO and SYN_PERF_HI. -/
  | perfSnapshot (v : Word)
  /-- R343: The SYN port has finished a packet send, or refused it, and posts PKT_TX_DONE. -/
  | pktTxDone
  /-- R357: RD := RS1 + RS2. -/
  | add (t : Fin 32) (p : Fin 8) (rd rs1 rs2 : Fin 32)
  /-- R357: RD := RS1 − RS2. -/
  | sub (t : Fin 32) (p : Fin 8) (rd rs1 rs2 : Fin 32)
  /-- R357: RD := RS1 & RS2. -/
  | and (t : Fin 32) (p : Fin 8) (rd rs1 rs2 : Fin 32)
  /-- R357: RD := RS1 | RS2. -/
  | or (t : Fin 32) (p : Fin 8) (rd rs1 rs2 : Fin 32)
  /-- R357: RD := RS1 ^ RS2. -/
  | xor (t : Fin 32) (p : Fin 8) (rd rs1 rs2 : Fin 32)
  /-- R357: RD := RS1 & ~RS2. -/
  | andn (t : Fin 32) (p : Fin 8) (rd rs1 rs2 : Fin 32)
  /-- R357: Shift left by RS2[5:0]. -/
  | shl (t : Fin 32) (p : Fin 8) (rd rs1 rs2 : Fin 32)
  /-- R357: Logical shift right by RS2[5:0]. -/
  | shr (t : Fin 32) (p : Fin 8) (rd rs1 rs2 : Fin 32)
  /-- R357: Arithmetic shift right by RS2[5:0]. -/
  | sar (t : Fin 32) (p : Fin 8) (rd rs1 rs2 : Fin 32)
  /-- R357: Low 64 bits of RS1 × RS2. -/
  | mul (t : Fin 32) (p : Fin 8) (rd rs1 rs2 : Fin 32)
  /-- R357: High 64 bits of the unsigned product. -/
  | mulhu (t : Fin 32) (p : Fin 8) (rd rs1 rs2 : Fin 32)
  /-- R357: High 64 bits of the signed product. -/
  | mulhs (t : Fin 32) (p : Fin 8) (rd rs1 rs2 : Fin 32)
  /-- R357: Unsigned division, all ones on division by zero. -/
  | divu (t : Fin 32) (p : Fin 8) (rd rs1 rs2 : Fin 32)
  /-- R357: Signed truncated division, with the stated results for zero and overflow. -/
  | div (t : Fin 32) (p : Fin 8) (rd rs1 rs2 : Fin 32)
  /-- R357: Unsigned remainder. -/
  | remu (t : Fin 32) (p : Fin 8) (rd rs1 rs2 : Fin 32)
  /-- R357: Signed remainder with the sign of RS1. -/
  | rem (t : Fin 32) (p : Fin 8) (rd rs1 rs2 : Fin 32)
  /-- R357: Unsigned minimum. -/
  | minu (t : Fin 32) (p : Fin 8) (rd rs1 rs2 : Fin 32)
  /-- R357: Unsigned maximum. -/
  | maxu (t : Fin 32) (p : Fin 8) (rd rs1 rs2 : Fin 32)
  /-- R357: Signed minimum. -/
  | min (t : Fin 32) (p : Fin 8) (rd rs1 rs2 : Fin 32)
  /-- R357: Signed maximum. -/
  | max (t : Fin 32) (p : Fin 8) (rd rs1 rs2 : Fin 32)
  /-- R357: Count of leading zeros of RS1. -/
  | clz (t : Fin 32) (p : Fin 8) (rd rs1 : Fin 32)
  /-- R357: Count of set bits of RS1. -/
  | popc (t : Fin 32) (p : Fin 8) (rd rs1 : Fin 32)
  /-- R357: Byte-reverse RS1[15:0], zero-extended. -/
  | bswap16 (t : Fin 32) (p : Fin 8) (rd rs1 : Fin 32)
  /-- R357: Byte-reverse RS1[31:0], zero-extended. -/
  | bswap32 (t : Fin 32) (p : Fin 8) (rd rs1 : Fin 32)
  /-- R357: Byte-reverse RS1. -/
  | bswap64 (t : Fin 32) (p : Fin 8) (rd rs1 : Fin 32)
  /-- R358: RD := RS1 + sign-extended immediate. -/
  | addi (t : Fin 32) (p : Fin 8) (rd rs1 : Fin 32) (imm : Imm 13)
  /-- R358: RD := RS1 & zero-extended immediate. -/
  | andi (t : Fin 32) (p : Fin 8) (rd rs1 : Fin 32) (imm : Imm 13)
  /-- R358: RD := RS1 | zero-extended immediate. -/
  | ori (t : Fin 32) (p : Fin 8) (rd rs1 : Fin 32) (imm : Imm 13)
  /-- R358: RD := RS1 ^ zero-extended immediate. -/
  | xori (t : Fin 32) (p : Fin 8) (rd rs1 : Fin 32) (imm : Imm 13)
  /-- R358: Low 64 bits of RS1 × immediate. -/
  | muli (t : Fin 32) (p : Fin 8) (rd rs1 : Fin 32) (imm : Imm 13)
  /-- R358: Shift left by an immediate amount. -/
  | shli (t : Fin 32) (p : Fin 8) (rd rs1 : Fin 32) (sh : BitVec 6)
  /-- R358: Logical shift right by an immediate amount. -/
  | shri (t : Fin 32) (p : Fin 8) (rd rs1 : Fin 32) (sh : BitVec 6)
  /-- R358: Arithmetic shift right by an immediate amount. -/
  | sari (t : Fin 32) (p : Fin 8) (rd rs1 : Fin 32) (sh : BitVec 6)
  /-- R358: Extract a bit field, zero-extended. -/
  | extu (t : Fin 32) (p : Fin 8) (rd rs1 : Fin 32) (pos lenM1 : BitVec 6)
  /-- R358: Extract a bit field, sign-extended. -/
  | exts (t : Fin 32) (p : Fin 8) (rd rs1 : Fin 32) (pos lenM1 : BitVec 6)
  /-- R358: Insert RS1's low bits into a field of RD. -/
  | ins (t : Fin 32) (p : Fin 8) (rd rs1 : Fin 32) (pos lenM1 : BitVec 6)
  /-- R359: Compare two registers under COND and write PD and PDN. -/
  | cmp (t : Fin 32) (p pd pdn : Fin 8) (rs1 rs2 : Fin 32) (cond : Cond)
  /-- R359: Compare a register with an immediate under COND and write PD and PDN. -/
  | cmpi (t : Fin 32) (p pd pdn : Fin 8) (rs1 : Fin 32) (cond : Cond) (imm : Imm 8)
  /-- R359: PD := PA and PB. -/
  | pand (t : Fin 32) (p pd pa pb : Fin 8)
  /-- R359: PD := PA or PB. -/
  | por (t : Fin 32) (p pd pa pb : Fin 8)
  /-- R359: PD := PA xor PB. -/
  | pxor (t : Fin 32) (p pd pa pb : Fin 8)
  /-- R359: PD := PA and not PB. -/
  | pandn (t : Fin 32) (p pd pa pb : Fin 8)
  /-- R359: PD := not PA. -/
  | pnot (t : Fin 32) (p pd pa : Fin 8)
  /-- R359: Copy the predicates into RX. -/
  | pget (t : Fin 32) (p : Fin 8) (rx : Fin 32)
  /-- R359: Load p1–p7 from RX. -/
  | pput (t : Fin 32) (p : Fin 8) (rx : Fin 32)
  /-- R360: Load 1 byte, zero-extended. -/
  | ld8u (t : Fin 32) (p : Fin 8) (rd rs1 : Fin 32) (imm : Imm 13) (miss : Bool) (ecc : Ecc)
  /-- R360: Load 2 bytes, zero-extended. -/
  | ld16u (t : Fin 32) (p : Fin 8) (rd rs1 : Fin 32) (imm : Imm 13) (miss : Bool) (ecc : Ecc)
  /-- R360: Load 4 bytes, zero-extended; also a register-space read. -/
  | ld32u (t : Fin 32) (p : Fin 8) (rd rs1 : Fin 32) (imm : Imm 13) (miss : Bool) (ecc : Ecc)
  /-- R360: Load 8 bytes. -/
  | ld64 (t : Fin 32) (p : Fin 8) (rd rs1 : Fin 32) (imm : Imm 13) (miss : Bool) (ecc : Ecc)
  /-- R360: Load 1 byte, sign-extended. -/
  | ld8s (t : Fin 32) (p : Fin 8) (rd rs1 : Fin 32) (imm : Imm 13) (miss : Bool) (ecc : Ecc)
  /-- R360: Load 2 bytes, sign-extended. -/
  | ld16s (t : Fin 32) (p : Fin 8) (rd rs1 : Fin 32) (imm : Imm 13) (miss : Bool) (ecc : Ecc)
  /-- R360: Load 4 bytes, sign-extended. -/
  | ld32s (t : Fin 32) (p : Fin 8) (rd rs1 : Fin 32) (imm : Imm 13) (miss : Bool) (ecc : Ecc)
  /-- R360: Store 1 byte. -/
  | st8 (t : Fin 32) (p : Fin 8) (rs2 rs1 : Fin 32) (imm : Imm 13)
  /-- R360: Store 2 bytes. -/
  | st16 (t : Fin 32) (p : Fin 8) (rs2 rs1 : Fin 32) (imm : Imm 13)
  /-- R360: Store 4 bytes; in register space, a register write. -/
  | st32 (t : Fin 32) (p : Fin 8) (rs2 rs1 : Fin 32) (imm : Imm 13)
  /-- R360: Store 8 bytes. -/
  | st64 (t : Fin 32) (p : Fin 8) (rs2 rs1 : Fin 32) (imm : Imm 13)
  /-- R361: Atomically replace a word with RS2. -/
  | amoSwap (t : Fin 32) (p : Fin 8) (rd rs1 rs2 : Fin 32) (fence : Bool) (ecc : Ecc)
  /-- R361: Atomically add RS2 to a word. -/
  | amoAdd (t : Fin 32) (p : Fin 8) (rd rs1 rs2 : Fin 32) (fence : Bool) (ecc : Ecc)
  /-- R361: Atomically AND RS2 into a word. -/
  | amoAnd (t : Fin 32) (p : Fin 8) (rd rs1 rs2 : Fin 32) (fence : Bool) (ecc : Ecc)
  /-- R361: Atomically OR RS2 into a word. -/
  | amoOr (t : Fin 32) (p : Fin 8) (rd rs1 rs2 : Fin 32) (fence : Bool) (ecc : Ecc)
  /-- R361: Atomic compare-and-swap. -/
  | amoCas (t : Fin 32) (p : Fin 8) (rd rs1 rs2 : Fin 32) (fence : Bool) (ecc : Ecc)
  /-- R362: Branch to pc + 4 × OFF23. -/
  | b (t : Fin 32) (p : Fin 8) (off : BitVec 23)
  /-- R362: Branch and link into w31. -/
  | bl (t : Fin 32) (p : Fin 8) (off : BitVec 23)
  /-- R362: Jump to RS1. -/
  | jr (t : Fin 32) (p : Fin 8) (rs1 : Fin 32)
  /-- R362: Jump to RS1 and write pc + 4 into RD. -/
  | jrLink (t : Fin 32) (p : Fin 8) (rd rs1 : Fin 32)
  /-- R362: The thread goes to HALT and posts THREAD_HALT with CODE 0. -/
  | halt (t : Fin 32) (p : Fin 8)
  /-- R362: Raise the TRAP exception. -/
  | trap (t : Fin 32) (p : Fin 8)
  /-- R362: Clear ecause.ACTIVE and return to epc. -/
  | eret (t : Fin 32) (p : Fin 8)
  /-- R331: Wait until earlier memory accesses are visible everywhere. -/
  | fence (t : Fin 32) (p : Fin 8)
  /-- R20: Wait until earlier register writes have taken effect in their domains. -/
  | fenceD (t : Fin 32) (p : Fin 8)
  /-- R291: Wait until the thread's closed AT, LINE and held accords have committed or aborted. -/
  | fenceT (t : Fin 32) (p : Fin 8)
  /-- R363: Copy a special register into RD. -/
  | mfs (t : Fin 32) (p : Fin 8) (rd n : Fin 32)
  /-- R363: Copy RS1 into a writable special register. -/
  | mts (t : Fin 32) (p : Fin 8) (rs1 n : Fin 32)
  /-- R364: Invalidate an address range in all I-caches. -/
  | iinv (t : Fin 32) (p : Fin 8) (rs1 rs2 : Fin 32) (fetched : Ecc)
  /-- R364: Prefetch hint for a D-cache line. -/
  | pref (t : Fin 32) (p : Fin 8) (rs1 : Fin 32)
  /-- R365: Wait for an event queue in a mask or for a deadline, or complete at once. -/
  | evw (t : Fin 32) (p : Fin 8) (rd rs1 rs2 : Fin 32)
  /-- R365: A queue of the mask becomes ready, or the deadline passes, and the waiting thread resumes. -/
  | evwResume (t : Fin 32)
  /-- R366: Hand a tunnel packet to the SYN engine port. -/
  | psend (t : Fin 32) (p : Fin 8) (rs1 rs2 : Fin 32)
  /-- R367: Run one command of an indirect table window and return its result word. -/
  | wcmd (t : Fin 32) (p : Fin 8) (rd rs1 rs2 : Fin 32) (e : ActEnv)
  /-- R368: Advance a CRC-32C over one byte. -/
  | crc8 (t : Fin 32) (p : Fin 8) (rd rs1 rs2 : Fin 32)
  /-- R368: Advance a CRC-32C over eight bytes. -/
  | crc64 (t : Fin 32) (p : Fin 8) (rd rs1 rs2 : Fin 32)
  /-- R368: Compute the TMT bucket of a key under a seed. -/
  | tmtb (t : Fin 32) (p : Fin 8) (rd rs1 rs2 : Fin 32)
  /-- R369: Submit one key-unit operation descriptor. -/
  | kop (t : Fin 32) (p : Fin 8) (rs1 rs2 : Fin 32)
  /-- R281: Open a NOW accord. -/
  | acbNow (t : Fin 32) (p : Fin 8) (rd : Fin 32)
  /-- R281: Open an AT accord at instant T of a time base. -/
  | acbAt (t : Fin 32) (p : Fin 8) (rd rs1 : Fin 32) (tb : Fin 4)
  /-- R296: Open a LINE accord with a named ID. -/
  | acbLine (t : Fin 32) (p : Fin 8) (rd rs1 : Fin 32)
  /-- R282: Add a write to the open accord's write set. -/
  | acw (t : Fin 32) (p : Fin 8) (rs1 rs2 : Fin 32) (wide : Bool)
  /-- R280: Close or commit the open accord; a NOW accord commits, an AT or LINE accord closes. -/
  | acc (t : Fin 32) (p : Fin 8) (rd rs1 : Fin 32) (pd pdn : Fin 8)
  /-- R309: Close a NOW accord as held, naming a USB control transfer tag. -/
  | accHeld (t : Fin 32) (p : Fin 8) (rd rs1 : Fin 32) (pd pdn : Fin 8)
  /-- R370: Abort the thread's most recent accord with EXPLICIT. -/
  | aca (t : Fin 32) (p : Fin 8) (rd : Fin 32)
  /-- R370: Return the status of the thread's latest accord. -/
  | acs (t : Fin 32) (p : Fin 8) (rd : Fin 32)
  /-- R370: Return the status of the most recent slot holding a given accord ID. -/
  | acsByid (t : Fin 32) (p : Fin 8) (rd rs1 : Fin 32)
  /-- R378: An Ethernet frame is received; it is checked, stamped and classified to the host path, a tunnel, or a drop. -/
  | ethFrameRx (n : Fin 10) (frame : List Byte)
  /-- R377: The PAUSE quanta expire, and egress resumes. -/
  | pauseExpire (n : Fin 10)
  /-- R381: A frame reaches the head of an egress queue; it is tag-edited, padded, stamped and sent, or dropped. -/
  | ethFrameTx (n : Fin 10) (ecc : Ecc)
  /-- R391: An Ethernet link comes up, after auto-negotiation where enabled. -/
  | ethLinkUp (n : Fin 10) (an pause : Bool)
  /-- R390: An Ethernet link goes down, and a frame being sent is cut. -/
  | ethLinkDown (n : Fin 10) (cut : Bool)
  /-- R390: ETH_CTL.MODE is written while the link is up, and the link drops. -/
  | ethModeWrite (n : Fin 10) (mode : Fin 8) (cut : Bool)
  /-- R385: ETH_HTX_WR advances, and the port takes new host transmit descriptors and queues their frames. -/
  | ethHtxWrWrite (n : Fin 10) (v : BitVec 10)
  /-- R386: A host frame has been sent or dropped, and HTX_DONE is posted. -/
  | htxDone (n : Fin 10)
  /-- R388: A write of ETH_TSF_POP removes the oldest TX stamp entry. -/
  | ethTsfPop (n : Fin 10)
  /-- R396: STO_Sn_CTL.EN is written 1 with the engine running; PERST_N is released and the link trains. -/
  | driveEnable (n : Fin 2)
  /-- R396: The drive's link is up and CSTS.RDY is set; I/O queues are created and the drive enters READY. -/
  | driveReady (n : Fin 2) (gen : Fin 4) (x2 : Bool)
  /-- R396: No link within 100 ms, CAP.TO expired, or an admin command failed; the drive enters FAILED. -/
  | driveLinkTimeout (n : Fin 2)
  /-- R396: The drive in READY loses its link or reports CFS; outstanding requests complete DRIVE_LOST. -/
  | driveLost (n : Fin 2)
  /-- R396: 1 s passes after a drive was lost, and bring-up is retried. -/
  | driveRetry (n : Fin 2)
  /-- R396: EN is written 0; the drive is shut down and outstanding requests complete DRIVE_LOST. -/
  | driveDisable (n : Fin 2)
  /-- R399: A READ request is checked against the duplicate window and submitted. -/
  | storRead (lq : Fin 32)
  /-- R399: A WRITE request is checked against the duplicate window and submitted. -/
  | storWrite (lq : Fin 32)
  /-- R401: A FLUSH request is submitted after the binding's earlier requests have completed. -/
  | storFlush (lq : Fin 32)
  /-- R399: A TRIM request is submitted as Dataset Management deallocate. -/
  | storTrim (lq : Fin 32)
  /-- R400: An IDENTIFY request is answered with the 64-byte identify record. -/
  | storIdentify (lq : Fin 32) (blocks : DWord) (serial : List Byte)
  /-- R401: The drive completes a command; the completion is cached and sent in the reverse direction. -/
  | nvmeCompletion (n : Fin 2) (k : Fin 64) (id : Word) (status : Fin 4) (nvstat : BitVec 16) (data : List Byte)
  /-- R402: A command is outstanding for STO_CMD_TO; it is aborted and completes TIMEOUT. -/
  | stoCmdTimeout (n : Fin 2) (k : Fin 64) (id : Word)
  /-- R402: An Abort is not answered within 1 s, and the drive leaves READY. -/
  | nvmeAbortTimeout (n : Fin 2)
  /-- R398: A write of a binding register; VALID = 0 with requests outstanding sets PENDING. -/
  | stoBindingWrite (n : Fin 2) (k : Fin 64) (v : Word)
  /-- R398: The last outstanding request of a pending binding completes, and the binding and its window clear. -/
  | bindingRelease (n : Fin 2) (k : Fin 64)
  /-- R416: A source port sees Rd and enters AttachWait.SRC, starting reclaims if it is short of power. -/
  | ccRdDetect (n : Fin 8) (cc2 : Bool)
  /-- R417: tCCDebounce ends, and the port attaches with the highest Rp that is funded. -/
  | ccDebounceDone (n : Fin 8) (cur : Fin 3) (epr : Bool) (spd : Fin 8) (debug : Bool)
  /-- R417: 500 ms pass without Default Rp funded; the port goes to Unattached.SNK and SHED is raised. -/
  | attachwaitTimeout (n : Fin 8)
  /-- R424: Detach is confirmed; any transition is abandoned, the switch opens and VBUS discharges. -/
  | detachConfirmed (n : Fin 8)
  /-- R424: VBUS falls below 0.8 V; discharge is released, the allocation returned, and the port is Unattached. -/
  | vbusDischarged (n : Fin 8)
  /-- R414: As a sink, the port evaluates Source_Capabilities against its sink table and sends a Request. -/
  | sourceCapsRx (n id : Fin 8) (rev3 : Bool) (objs : List (BitVec 16 × BitVec 16))
  /-- R412: As a source, the port answers a Request with Accept and charges the budget, or with Reject. -/
  | requestRx (n id : Fin 8) (rev3 : Bool) (pos : Fin 16) (volt : BitVec 12) (cur : BitVec 10)
  /-- R422: An Accept is received for the port's own Request or swap request. -/
  | acceptRx (n id : Fin 8)
  /-- R422: A Reject is received, and the pending command ends REJECT. -/
  | rejectRx (n id : Fin 8) (ns : Bool)
  /-- R422: A Wait is received; the swap is retried once after tPRSwapWait, or ends WAIT. -/
  | waitRx (n id : Fin 8)
  /-- R422: A PS_RDY is received, completing a contract or a swap step. -/
  | psRdyRx (n id : Fin 8)
  /-- R423: A PR_Swap request is answered under the role fields, or settled as a collision. -/
  | prSwapRx (n id : Fin 8)
  /-- R422: A DR_Swap request is answered under DR_PREF. -/
  | drSwapRx (n id : Fin 8)
  /-- R422: A VCONN_Swap request is accepted. -/
  | vconnSwapRx (n id : Fin 8)
  /-- R413: EPR_Mode (Enter) is accepted when every condition holds, otherwise answered Enter Failed. -/
  | eprModeRx (n id : Fin 8)
  /-- R430: A Hard Reset is received; pending swaps end TIMEOUT and the port resets its contract. -/
  | hardResetRx (n : Fin 8)
  /-- R409: An unsupported message is answered with Not_Supported or Reject, and a foreign SVID with NAK. -/
  | unsupportedMsgRx (n id : Fin 8) (vdm : Bool) (svid : BitVec 16) (cmd : Fin 32)
  /-- R426: A Discover Identity, SVIDs or Modes request is answered, listing Tirrun only while TIRRUN_UFP is 1. -/
  | svdmRequestRx (n id : Fin 8) (cmd : Fin 3)
  /-- R426: Enter Mode is ACKed, or NAKed while TE or TW is past PLAN_TX. -/
  | enterModeRx (n id : Fin 8)
  /-- R427: Exit Mode is received; the lanes go idle and the link fails with cause LOCK. -/
  | exitModeRx (n id : Fin 8)
  /-- R427: As UFP, T_CONFIG is ACKed with the spur's masked ALLOW. -/
  | tConfigRx (n id : Fin 8) (allow : BitVec 5)
  /-- R427: T_STATUS is answered with the status VDO. -/
  | tStatusRx (n id : Fin 8)
  /-- R425: An Attention or DP Status message passes HPD state to the routed engine. -/
  | attentionRx (n id : Fin 8) (hpd irq bad : Bool)
  /-- R427: As DFP, a VDM ACK advances discovery, mode entry or T_CONFIG; a T_CONFIG ACK starts the lane group. -/
  | vdmAckRx (n id : Fin 8) (ack tirrun dp : Bool) (allow : BitVec 5) (pins : BitVec 3) (hpd : Bool) (cur : Fin 3)
    (epr : Bool) (spd : Fin 8)
  /-- R427: tVDMSenderResponse passes without an ACK; the VDM is retried, or after three tries Exit Mode is sent. -/
  | vdmResponseTimeout (n : Fin 8)
  /-- R410: tSenderResponse passes without a response, and the port proceeds as USB PD gives, up to Hard Reset. -/
  | senderResponseTimeout (n : Fin 8)
  /-- R422: tPRSwapWait passes after a Wait, and the swap request is sent again. -/
  | swapWaitRetry (n : Fin 8)
  /-- R419: tSrcTransition ends, and the VBUS regulator is written. -/
  | srcTransitionDone (n : Fin 8)
  /-- R419: The VBUS regulator acknowledges the new voltage. -/
  | vbusRegAck (n : Fin 8)
  /-- R419: VBUS has stayed within its window for 1 ms, and PS_RDY is sent. -/
  | vbusInWindow (n : Fin 8) (mv ma : BitVec 16)
  /-- R420: No regulator acknowledgement within 10 ms; Hard Reset and VBUS_FAULT. -/
  | vbusAckTimeout (n : Fin 8)
  /-- R420: VBUS is not in its window within 250 ms, or 700 ms in EPR; Hard Reset and VBUS_FAULT. -/
  | vbusSettleTimeout (n : Fin 8)
  /-- R420: VBUS has been outside its window for 10 ms during a contract; Hard Reset and VBUS_FAULT. -/
  | vbusOutOfWindow (n : Fin 8) (mv ma : BitVec 16)
  /-- R420: VBUS has been above 110 % for 100 µs; the switch opens and Hard Reset follows. -/
  | vbusOvervoltage (n : Fin 8) (mv ma : BitVec 16)
  /-- R421: VCONN current has been above 650 mA for 1 ms; the switch opens and the port enters ErrorRecovery. -/
  | vconnOvercurrent (n : Fin 8)
  /-- R413: A PPS sink sends no Request for 15 s, and Hard Reset follows. -/
  | ppsRequestTimeout (n : Fin 8)
  /-- R413: The EPR keep-alive lapses, and Hard Reset follows. -/
  | eprKeepaliveLapse (n : Fin 8)
  /-- R417: NODE_W is written below the allocations, and reclaims and sheds start. -/
  | pdcNodeWrite (w : BitVec 16)
  /-- R433: Command SEND_CAPS sends Source_Capabilities at once. -/
  | pdcSendCaps (n : Fin 8)
  /-- R433: Command PR_SWAP requests a power role swap. -/
  | pdcPrSwap (n : Fin 8)
  /-- R433: Command DR_SWAP requests a data role swap. -/
  | pdcDrSwap (n : Fin 8)
  /-- R433: Command VCONN_SWAP requests a VCONN swap. -/
  | pdcVconnSwap (n : Fin 8)
  /-- R433: Command HARD_RESET sends Hard Reset. -/
  | pdcHardReset (n : Fin 8)
  /-- R433: Command EXIT_ALT exits the alternate mode. -/
  | pdcExitAlt (n : Fin 8)
  /-- R433: Command DISABLE puts the port into Disabled. -/
  | pdcDisable (n : Fin 8)
  /-- R429: 100 ms pass in START without alignment; TCL_STARTFAIL is counted and LOCK_LOST raised. -/
  | tclStartTimeout (n : Fin 8)
  /-- R429: 4 ms pass in STEP without alignment; DOWNGRADED is set and the target falls back. -/
  | tclStepTimeout (n : Fin 8)
  /-- R429: TCL_CTL.RESTEP is written 1; DOWNGRADED clears and the lane group restarts at START. -/
  | tclRestep (n : Fin 8)
  /-- R429: TCL_CTL.EN is written 0; the lanes go idle and the sequencer enters OFF. -/
  | tclDisable (n : Fin 8)
  /-- R437: DSO_Dn_CTL.EN is written 1; the configuration is checked and the engine trains or waits for HPD. -/
  | dsoEnable (n : Fin 2) (psr : Bool)
  /-- R437: EN is written 0; the lanes go idle and the engine enters OFF. -/
  | dsoDisable (n : Fin 2)
  /-- R437: DisplayPort training succeeds, or fails down to the lowest rate, and the raster starts or TRAIN_FAIL is raised. -/
  | linkTrainingDone (n : Fin 2) (ok : Bool) (lanes : Fin 3) (rate : Fin 4)
  /-- R437: HPD rises in NOLINK, and the engine trains. -/
  | hpdHigh (n : Fin 2)
  /-- R437: HPD has been low for 2 ms, and video stops. -/
  | hpdLowTimeout (n : Fin 2)
  /-- R437: An IRQ_HPD reports link status bad, and the engine retrains. -/
  | irqHpd (n : Fin 2) (bad : Bool)
  /-- R447: Vertical blank starts; a pending commit with GO set is applied to the active set. -/
  | vblankStart (n : Fin 2) (word : BitVec 15) (ecc : Ecc)
  /-- R448: A filtered TE edge with GO set applies the pending set, leaves PSR and sends one frame. -/
  | teEdge (n : Fin 2)
  /-- R448: The single TE-mode frame has been sent, and the engine re-enters PSR. -/
  | teFrameSent (n : Fin 2)
  /-- R448: GO has been 1 for 100 ms with no TE edge; the commit applies on own timing and TE_LOST is raised. -/
  | teTimeout (n : Fin 2)
  /-- R450: No fetched pixel is due in active video; the background is sent, or a locked pair aborts the frame. -/
  | pixelUnderrun (n : Fin 2) (x y : BitVec 14)
  /-- R441: A RECT delta is expanded into the back buffer, or is malformed and requests a refresh. -/
  | deltaRect (n : Fin 2)
  /-- R444: A FLIP delta toggles FRONT in the pending set and sets GO. -/
  | deltaFlip (n : Fin 2)
  /-- R441: A PALETTE delta writes palette entries. -/
  | deltaPalette (n : Fin 2)
  /-- R446: The catch-up copy after a flip completes, and held RECT packets are released. -/
  | catchupCopyDone (n : Fin 2)
  /-- R445: A write to DSO_IN_REQ requests a SOFTWARE refresh of a layer on a context. -/
  | dsoRefreshReq (c : Fin 1024) (layer : Fin 4)
  /-- R445: The 1 ms limit allows it, and a merged REFRESH packet is sent. -/
  | refreshSend (c : Fin 1024)
  /-- R461: With EN = 1 and U0_VBUS high, U0 attaches at SuperSpeed or at high speed. -/
  | usbAttach (speed : Fin 4)
  /-- R474: U0 disconnects; a pending control transfer is abandoned. -/
  | usbDisconnect (vbus : Bool)
  /-- R474: A bus, warm or hot reset abandons a control transfer and discards gateway buffers. -/
  | usbBusReset (warm : Bool) (speed : Fin 4)
  /-- R472: A SETUP on EP0 takes a new tag; hardware serves standard and hub requests, and passes vendor requests to a program. -/
  | usbSetupRx (hub : Fin 4) (ty req : Byte) (val idx len : BitVec 16)
  /-- R472: The data stage of a control write completes, and DATA_DONE is posted. -/
  | usbDataDone (data : List Byte)
  /-- R472: USB_CTRL_CMD ACK arms the status stage. -/
  | ctrlAck (tag : Byte)
  /-- R472: USB_CTRL_CMD STALL answers the pending stage with STALL. -/
  | ctrlStall (tag : Byte)
  /-- R472: USB_CTRL_CMD DATA_IN sends LEN bytes of USB_CBUF as the data stage. -/
  | ctrlDataIn (tag : Byte) (len : BitVec 11)
  /-- R309: The status stage completes, and a held accord of the tag commits. -/
  | statusStageComplete
  /-- R473: USB_CTRL_TO passes with no answer; the stage is STALLed and CTRL_ABORT is posted. -/
  | ctrlTimeout
  /-- R475: Vendor request GET_INFO returns the identity and state block. -/
  | getInfo
  /-- R475: Vendor request GW_BIND binds a gateway to a context as a held accord. -/
  | gwBind (t : Fin 32)
  /-- R475: Vendor request GW_UNBIND disables a gateway. -/
  | gwUnbind (t : Fin 32)
  /-- R475: Vendor request GW_COLOUR sets a gateway's pre-colour. -/
  | gwColour (t : Fin 32)
  /-- R475: Vendor request AUD_TRIM sets USB_AUD_CFG.TRIM. -/
  | audTrim (t : Fin 32)
  /-- R475: Vendor request WAKE_MASK sets USB_WAKE.MASK. -/
  | wakeMask (t : Fin 32)
  /-- R468: A bulk OUT packet is accepted into a gateway, and a short or ZLP ends a tunnel packet. -/
  | gwOutPacket (g : Fin 8) (ping : Bool) (data : List Byte)
  /-- R469: The host reads a bulk IN endpoint and receives a buffered delivered packet. -/
  | gwInTransfer (g : Fin 8)
  /-- R470: The host reads the interrupt endpoint, taking a notice from the queue. -/
  | noticeRead
  /-- R470: USB_NOTE_PUSH queues a program notice, or discards and counts it when the queue is full. -/
  | notePush
  /-- R479: An isochronous OUT packet's frames enter the audio FIFO, or are dropped. -/
  | audIsoOut (data : List Byte)
  /-- R482: The host reads the feedback endpoint and receives F. -/
  | audFeedbackRead
  /-- R481: 128 service intervals are measured; the AUD rate trim and F are updated. -/
  | audTrimUpdate (ns : Word)
  /-- R476: An LPM L1 request is answered ACK or NYET. -/
  | lpmL1Request
  /-- R476: Suspend or U3 suspends the hub and the function. -/
  | usbSuspend
  /-- R477: USB_CTL.WAKE is written 1, and wake reason 2 latches. -/
  | usbWakeWrite
  /-- R477: A masked reason is latched and remote wakeup is enabled; after 5 ms of suspend the function signals wake. -/
  | remoteWakeSignal
  /-- R478: The host resumes the link; a WAKE notice with PEND is queued. -/
  | hostResume (own : Bool)
  /-- R464: Up_OC_N has been low for 2 ms; port power is removed and PORT_OC is raised. -/
  | portOvercurrent (e : Fin 7)
  /-- R490: A feed input has stayed between UV and OV for 1 ms, and becomes valid. -/
  | feedValid (x : Fin 2) (v : BitVec 12)
  /-- R490: A feed has been below UV − 0.5 V or above OV for 10 µs, and becomes invalid. -/
  | feedInvalid (x : Fin 2) (v : BitVec 12)
  /-- R497: The selected feed rises above OV, and the gate is pulled down without a trip. -/
  | feedOv (v : BitVec 12)
  /-- R491: The preferred feed has been valid for 1 s with REVERT set, and a change of feed starts. -/
  | feedRevertTimer
  /-- R491: The old gate is below 1 V and 20 µs have passed, and the new feed ramps. -/
  | switchDeadTimeEnd (us : Fin 10)
  /-- R492: Both seat pins assert, and the 50 ms count starts. -/
  | seatAssert
  /-- R492: 50 ms pass with both seat pins asserted; the module is seated and the controller enters SELECT. -/
  | seatDebounceDone
  /-- R492: A seat pin has been deasserted for 10 µs; gates go off and the retry timer is cancelled. -/
  | seatLost (pin : Fin 2)
  /-- R505: In SELECT, a feed is valid and the earliest restart has passed, and gate drive starts. -/
  | selectStart (us : Fin 10)
  /-- R493: VOUT comes within 1.0 V of the feed input, and the ramp is complete. -/
  | rampComplete (vin vout : BitVec 12)
  /-- R493: A ramp is not complete within its limit, and counts as a slow trip. -/
  | rampTimeout (us : Fin 10)
  /-- R494: The gate reaches 7.0 V; the controller enters ON and PGOOD may rise. -/
  | gateOn
  /-- R494: The gate does not reach its on-threshold within 5 ms; the FET is marked damaged and the feed is locked out. -/
  | gateRiseTimeout
  /-- R495: Sense voltage exceeds FAST, and the gate is pulled down within 1 µs. -/
  | fastTrip (sense : BitVec 13) (us : Fin 10)
  /-- R496: Sense voltage exceeds SLOW; the fault timer starts and current is regulated. -/
  | faultTimerStart (sense : BitVec 12) (us : Fin 10)
  /-- R496: Sense voltage has been below 90 % of SLOW for 100 µs, and the fault timer stops and resets. -/
  | faultTimerReset (sense : BitVec 12)
  /-- R496: The fault timer reaches FAULT_TO; the gate is pulled down and a retry or latch follows. -/
  | slowTrip (us : Fin 10)
  /-- R501: The off time ends; a retry is counted and the controller returns to SELECT. -/
  | retryWaitEnd
  /-- R502: PGOOD has been high for 60 s with no fault timer, and the retry history clears. -/
  | historyClearTimer
  /-- R505: HSW_CTL.EN is written 1, and the controller enters UNSEATED. -/
  | hswEnable
  /-- R505: HSW_CTL.EN is written 0; gates go off and the controller enters OFF. -/
  | hswDisable
  /-- R504: Command CLR_LATCH leaves LATCHED for SELECT and keeps the history. -/
  | hswClrLatch
  /-- R494: Command CLR_LOCK_A clears the lockout of feed A. -/
  | hswClrLockA
  /-- R494: Command CLR_LOCK_B clears the lockout of feed B. -/
  | hswClrLockB
  /-- R502: Command CLR_HIST clears the retry history. -/
  | hswClrHist
  /-- R506: Command CLR_ENERGY clears the energy counter. -/
  | hswClrEnergy
  /-- R506: Command SNAP copies the 64-bit energy count into HSW_E_LO and HSW_E_HI. -/
  | hswSnap
  /-- R506: The 10 µs ADC sample updates the means and adds energy. -/
  | hswAdcSample (va vb vout sense : BitVec 12)
  /-- R510: A read of HSW_I returns the current and clears PEAK. -/
  | hswIRead
  /-- R515: PWR_Dd_REQ is written; a drydown or wake starts, or the request is refused or queued as the next target. -/
  | domainRequestWrite (n : Fin 13) (target : Fin 4)
  /-- R515: QUIESCE completes, including any wait for accords, and DRAIN starts. -/
  | quiesceDone (n : Fin 13)
  /-- R515: Transactions in flight complete, and CLOCKSTOP starts. -/
  | drainDone (n : Fin 13)
  /-- R515: PWR_DRAIN_TO expires; transactions are cut and DRAIN_FORCED is raised. -/
  | drainTimeout (n : Fin 13)
  /-- R515: The clocks have stopped, and HOLD starts. -/
  | clockstopDone (n : Fin 13)
  /-- R517: Outputs are isolated and pads latched, and SAVE or POWER starts. -/
  | holdDone (n : Fin 13)
  /-- R515: Kept memories are on the retention supply, and POWER starts. -/
  | saveDone (n : Fin 13)
  /-- R515: The domain supply is off; STATE shows RET or OFF and DRY_DONE is raised. -/
  | dryDone (n : Fin 13)
  /-- R512: A waking domain reaches ON with its registers at reset, and WAKE_DONE is raised. -/
  | domainWakeDone (n : Fin 13)
  /-- R520: An enabled wake source fires for a domain that is not ON; it latches and the wake starts. -/
  | wakeSourceEvent (src : Fin 8)
  /-- R519: PWR_WTIMER expires, which is a wake event of source 0. -/
  | wakeTimerExpire
  /-- R519: PWR_WAKE_SW.GO is written, which is a wake event of source 7. -/
  | wakeSwGo
  /-- R517: A PWR_PADREL bit releases the held pads of an ON domain. -/
  | padRelease (n : Fin 13)
  /-- R522: A new VDD_CORE target is sent over AVSBus. -/
  | avsTargetWrite (target ret : BitVec 10)
  /-- R522: The regulator acknowledges the voltage, and waiting wakes proceed. -/
  | avsAck
  /-- R522: No AVSBus acknowledgement within 2 ms; the change is retried once, then AVS_FAIL. -/
  | avsAckTimeout (mv : BitVec 10)
  /-- R523: 100 ms pass after AVS_FAIL, and TARGET is tried again. -/
  | avsRetryTimer
  /-- R525: A PMBus transaction completes; the request is acknowledged, retried or failed. -/
  | pmbTransactionDone (ok fault : Bool)
  /-- R524: A slave holds SCL low for 25 ms, and the transaction ends with a failure. -/
  | pmbSclTimeout
  /-- R526: PMB_ALERT_N is low; the alert is served and REG_ALERT is posted. -/
  | pmbAlert (addr : BitVec 7) (status : BitVec 16)
  /-- R527: 100 ms pass, and each enabled rail entry is rewritten and checked. -/
  | railRefreshTimer
  /-- R527: A write of a rail entry triggers its VOUT_COMMAND write and STATUS_WORD check. -/
  | railEntryWrite (k : Fin 8) (v : Word)
  /-- R532: Enfleurage decodes the PUF against the helper record and derives the root and fixed keys, or fails. -/
  | enfleurageDone (ikm : Option (List (BitVec 8)))
  /-- R539: Operation LOAD checks and unwraps a flacon into a slot. -/
  | keyLoad
  /-- R546: Operation EVICT empties a slot and orphans its descendants. -/
  | keyEvict
  /-- R546: Operation ROTATE advances a key's generation and returns a new flacon. -/
  | keyRotate
  /-- R546: Operation EXPORT wraps a key into a flacon with a fresh IV. -/
  | keyExport
  /-- R546: Operation DERIVE derives a key into SLOT2 by HKDF. -/
  | keyDerive
  /-- R546: Operation SEAL encrypts with AES-256-GCM. -/
  | keySeal
  /-- R546: Operation OPEN decrypts and checks the tag. -/
  | keyOpen
  /-- R546: Operation MAC computes HMAC-SHA-384. -/
  | keyMac
  /-- R546: Operation SIGN computes an ECDSA P-384 signature. -/
  | keySign
  /-- R546: Operation PUBKEY returns the public key of a slot. -/
  | keyPubkey
  /-- R546: Operation AGREE computes ECDH Z into SLOT2. -/
  | keyAgree
  /-- R549: Operation PROVE returns the own proof over a challenge. -/
  | keyProve
  /-- R546: Operation RANDOM returns random bytes. -/
  | keyRandom
  /-- R535: Operation ENROLL creates the helper record in BLANK. -/
  | keyEnroll
  /-- R546: Operation VERIFY checks an ECDSA signature. -/
  | keyVerify
  /-- R547: A key operation completes, and DONE is posted with its status. -/
  | keyOpDone (k : Fin 16)
  /-- R541: At each TB0 second, loaded slots past EXPIRY become EXPIRED and are invalidated. -/
  | keyExpiryCheck
  /-- R557: A plain store to KEY_SUBMIT is discarded and counted. -/
  | keySubmitStore
  /-- R558: The slot window's READ copies a slot header into DATA0–7. -/
  | keySlotRead
  /-- R546: The random source's health test fails, and RNG_FAIL is raised. -/
  | rngHealthFail
  /-- R552: A CERT message is received and checked; the port answers FINISH or REFUSE. -/
  | authCertRx (p : Fin 10) (bs : List RxBlk)
  /-- R552: A FINISH is verified, and at the peer's change point encryption is on and AUTH completes. -/
  | authFinishRx (p : Fin 10) (bs : List RxBlk)
  /-- R552: A REFUSE is received; the link fails with AUTH, or with KEY during a re-key unless the reason is BUSY. -/
  | authRefuseRx (p : Fin 10) (bs : List RxBlk)
  /-- R553: Segment keys are orphaned, or reach their block or age limit, and REKEY_REQ is sent. -/
  | rekeyTrigger (p : Fin 10) (reason : Fin 3)
  /-- R553: A REKEY_REQ is checked and answered with REKEY_ACK, or settled as a collision. -/
  | rekeyReqRx (p : Fin 10) (bs : List RxBlk)
  /-- R553: A REKEY_ACK is verified; the requester switches keys and sends REKEY_SWITCH. -/
  | rekeyAckRx (p : Fin 10) (bs : List RxBlk)
  /-- R553: A REKEY_SWITCH is received, and the receiver adopts the new RX key at the change point. -/
  | rekeySwitchRx (p : Fin 10) (bs : List RxBlk)
  /-- R553: No REKEY_ACK arrives within 100 ms; the request is retried once, then the segment fails with KEY. -/
  | rekeyAckTimeout (p : Fin 10)
  /-- R99: An orphaned segment is not re-keyed within 1 ms, and fails with cause KEY. -/
  | rekeyOrphanTimeout (p : Fin 10)
  /-- R565: REL_SCR_CMD.GO starts a scrub pass, or is refused. -/
  | scrubGo
  /-- R566: REL_SCR_CMD.ABORT ends the pass as ABORTED. -/
  | scrubAbort (read : Nat) (ces ues : List Nat)
  /-- R566: The scrub pass ends, leaving its summary and raising SCR_DONE. -/
  | scrubPassDone (ces ues : List Nat)
  /-- R573: The memory window's READ copies a bank's counts and remap entries. -/
  | relMwRead
  /-- R573: The memory window's CLRCNT clears a bank's counters. -/
  | relMwClrcnt
  /-- R567: The memory window's REMAP redirects a word to a spare. -/
  | relMwRemap (ecc : Ecc)
  /-- R567: The memory window's UNMAP clears a word's remap entry. -/
  | relMwUnmap
  /-- R572: REL_BIST_CMD.GO starts one in-service slice, or is refused. -/
  | bistSliceGo (thr : Fin 32)
  /-- R572: A slice ends with PASS, FAIL or ABORTED, and a failing target is marked. -/
  | bistSliceDone (misr : BitVec 64) (res : BistEnd)
  /-- R569: DDR_CTL.EN is set; the controller trains, or leaves self-refresh after RET. -/
  | ddrEnable
  /-- R569: DRAM training completes and the controller serves requests. -/
  | ddrTrainingDone
  /-- R569: No request arrives for IDLE µs and the engine covers allow it, so DRAM enters self-refresh. -/
  | ddrSelfRefreshEnter
  /-- R569: A request arrives, and DRAM leaves self-refresh. -/
  | ddrSelfRefreshExit
  /-- R576: The DRAM wipe completes, and images waiting for DRAM proceed. -/
  | dramWipeDone
  /-- R575: VSTBY first rises, or has been below 2.9 V for 10 µs, and the power die resets. -/
  | powerDiePor
  /-- R575: PORST_N has been low for 10 µs, and every main-die register resets. -/
  | mainDiePor
  /-- R578: All drivers let go of PORST_N, and the main die starts its PLLs. -/
  | porstRelease
  /-- R578: The CTL and CORE PLLs lock, and SC0 logic BIST starts. -/
  | mainPllLock
  /-- R571: A core's boot logic BIST ends; the boot ROM runs on the first core that passed. -/
  | bootCoreBistDone (k : Fin 8) (pass : Bool)
  /-- R581: The boot ROM runs its sequence: directory, enfleurage, images, BIST, tokens, status, start. -/
  | bootRomStart (ikm : Option (List (BitVec 8))) (fails : List (BitVec 8)) (bad : List (Fin 11 × Fin 32 × BitVec 24))
  /-- R575: SYS_RST.SOFT is written; every main-die register except the RWS fields resets and memories are wiped. -/
  | softReset
  /-- R577: A write of SYS_WDOG_CTL that sets EN starts the watchdog with its TIMEOUT. -/
  | wdogCtlWrite (en : Bool) (timeout : BitVec 16)
  /-- R577: A write of SYS_WDOG_KICK restarts the watchdog, or counts as expiry for a wrong value. -/
  | wdogKick (v : Word)
  /-- R577: TIMEOUT ms pass without a kick, and a soft reset with cause WDOG follows. -/
  | wdogExpire
  /-- R332: A register read issued by a thread completes after its crossing latency, or up to 4 µs for the power die, and the waiting thread resumes with the value. -/
  | regReadComplete (t : Fin 32) (e : ActEnv)
  /-- R408: A Sink or DRP port sees Rp and VBUS on its CC lines, debounces, and attaches as Attached.SNK. -/
  | ccRpDetect (n : Fin 8) (cc2 : Bool) (rp : Fin 3)
  /-- R410: The tDRP period elapses and an unattached DRP port switches between presenting Rp and Rd. -/
  | drpToggle (n : Fin 8)
  /-- R410: The tDRPTry dwell of Try.SRC or Try.SNK ends and the port settles its attach role. -/
  | tryDwellExpire (n : Fin 8) (found : Bool)
  /-- R462: A device connects to, disconnects from, or signals resume on an external hub port, and the hub updates its port status and may latch wake reason 3. -/
  | hubPortConnect (e : Fin 15) (what speed : Fin 3)
  /-- R480: At each 48 kHz LRCLK period the I2S output takes one frame from the audio FIFO, or sends zeros and counts an underrun. -/
  | audFrameOut
  /-- R476: At SuperSpeed the function initiates U1 after 2 µs with no traffic, and U2 at the host's inactivity timeout. -/
  | usbLinkIdleTimer (u2 host : Bool)
  /-- R396: The CC.SHN shutdown of a drive completes, or reaches its 5 s limit, and the drive reaches DOWN. -/
  | driveShutdownDone (n : Fin 2)
  /-- R396: 100 ms of REFCLK pass after a drive is enabled; Sn_PERST_N is released and link training starts. -/
  | snPerstNRelease (n : Fin 2)
  /-- R578: VSTBY has been in range for 1 ms with both oscillators running, and the power-die POR is released so that the feed controller starts. -/
  | powerDiePorRelease
  deriving DecidableEq, Repr

end Sys2Proof
end

