-- ==== Sys2Proof/Decode.lean ====
section
/-! DEFINITION. The commands that words spell. The opcode table gives no row any bits, so no word of the table spells a command. Synosh
instruction words are the spec's own encodings (R352 to R356): `synDecode` reads them, and a thread that fetches a reserved one raises
ILLOP. -/

namespace Sys2Proof

open Sys2Proof.Machine

/-- The command that a word of `nbits` bits spells by the opcode table: none, since no row of the table has an encoding. -/
def decodeTableWord (_nbits _w : Nat) : Option Instr := none

/-! ### Fields of an instruction word (R353) -/

/-- Bits `lo` to `lo + n - 1` of a word. -/
def synBits (w lo n : Nat) : Nat := w / 2 ^ lo % 2 ^ n

/-- The opcode of a word. -/
def synOp (w : Nat) : Nat := synBits w 23 6

/-- A general register named by five bits, and a predicate named by three. -/
def synReg (w lo : Nat) : Fin 32 := ⟨w / 2 ^ lo % 32, Nat.mod_lt _ (by decide)⟩
def synPred (w lo : Nat) : Fin 8 := ⟨w / 2 ^ lo % 8, Nat.mod_lt _ (by decide)⟩

/-- The immediate of a word whose own field has `n` bits, with the bits [31:6] that a LIMM gives; in a pair the field's bits above [5]
must be 0 (R354). -/
def synImm (n w : Nat) : Option Nat → Option (Imm n)
  | none => some (.short (BitVec.ofNat n w))
  | some hi => if synBits w 6 (n - 6) = 0 then some (.pair (BitVec.ofNat 32 (64 * hi + w % 64))) else none

/-- The comparison that COND names; 8 to 15 are reserved (R359). -/
def synCond : Nat → Option Cond
  | 0 => some .eq
  | 1 => some .ne
  | 2 => some .lt
  | 3 => some .ge
  | 4 => some .ltu
  | 5 => some .geu
  | 6 => some .tstz
  | 7 => some .tstnz
  | _ => none

/-- What meets a command that only its own execution shows: no miss, no error. -/
def synCalm : ActEnv := ⟨.ok, false, 0, [], []⟩

/-! ### Opcodes with functions of their own -/

/-- The ALU opcode (R357). -/
def synAlu (t : Fin 32) (p : Fin 8) (rd rs1 rs2 : Fin 32) (fn : Nat) : Option Instr :=
  match fn with
  | 0x00 => some (.add t p rd rs1 rs2)
  | 0x01 => some (.sub t p rd rs1 rs2)
  | 0x02 => some (.and t p rd rs1 rs2)
  | 0x03 => some (.or t p rd rs1 rs2)
  | 0x04 => some (.xor t p rd rs1 rs2)
  | 0x05 => some (.andn t p rd rs1 rs2)
  | 0x06 => some (.shl t p rd rs1 rs2)
  | 0x07 => some (.shr t p rd rs1 rs2)
  | 0x08 => some (.sar t p rd rs1 rs2)
  | 0x09 => some (.mul t p rd rs1 rs2)
  | 0x0A => some (.mulhu t p rd rs1 rs2)
  | 0x0B => some (.mulhs t p rd rs1 rs2)
  | 0x0C => some (.divu t p rd rs1 rs2)
  | 0x0D => some (.div t p rd rs1 rs2)
  | 0x0E => some (.remu t p rd rs1 rs2)
  | 0x0F => some (.rem t p rd rs1 rs2)
  | 0x10 => some (.minu t p rd rs1 rs2)
  | 0x11 => some (.maxu t p rd rs1 rs2)
  | 0x12 => some (.min t p rd rs1 rs2)
  | 0x13 => some (.max t p rd rs1 rs2)
  | 0x14 => if rs2 = 0 then some (.clz t p rd rs1) else none
  | 0x15 => if rs2 = 0 then some (.popc t p rd rs1) else none
  | 0x16 => if rs2 = 0 then some (.bswap16 t p rd rs1) else none
  | 0x17 => if rs2 = 0 then some (.bswap32 t p rd rs1) else none
  | 0x18 => if rs2 = 0 then some (.bswap64 t p rd rs1) else none
  | _ => none

/-- PRED: the fields of format PF (R353, R359). -/
def synPredOp (t : Fin 32) (p : Fin 8) (w : Nat) : Option Instr :=
  let pd := synPred w 20
  let pa := synPred w 17
  let pb := synPred w 14
  let rx := synReg w 6
  if synBits w 0 6 ≠ 0 then none
  else match synBits w 11 3 with
    | 0 => if rx = 0 then some (.pand t p pd pa pb) else none
    | 1 => if rx = 0 then some (.por t p pd pa pb) else none
    | 2 => if rx = 0 then some (.pxor t p pd pa pb) else none
    | 3 => if rx = 0 then some (.pandn t p pd pa pb) else none
    | 4 => if rx = 0 ∧ pb = 0 then some (.pnot t p pd pa) else none
    | 5 => if pd = 0 ∧ pa = 0 ∧ pb = 0 then some (.pget t p rx) else none
    | 6 => if pd = 0 ∧ pa = 0 ∧ pb = 0 then some (.pput t p rx) else none
    | _ => none

/-- AMO (R361). -/
def synAmo (t : Fin 32) (p : Fin 8) (rd rs1 rs2 : Fin 32) (fn : Nat) : Option Instr :=
  let fence := fn.testBit 7
  if synBits fn 3 4 ≠ 0 then none
  else match fn % 8 with
    | 0 => some (.amoSwap t p rd rs1 rs2 fence .ok)
    | 1 => some (.amoAdd t p rd rs1 rs2 fence .ok)
    | 2 => some (.amoAnd t p rd rs1 rs2 fence .ok)
    | 3 => some (.amoOr t p rd rs1 rs2 fence .ok)
    | 4 => some (.amoCas t p rd rs1 rs2 fence .ok)
    | _ => none

/-- SYS (R362). -/
def synSys (t : Fin 32) (p : Fin 8) (fn : Nat) : Option Instr :=
  match fn with
  | 0x01 => some (.halt t p)
  | 0x02 => some (.trap t p)
  | 0x03 => some (.eret t p)
  | 0x04 => some (.fence t p)
  | 0x05 => some (.fenceD t p)
  | 0x06 => some (.fenceT t p)
  | _ => none

/-- HASH (R368). -/
def synHash (t : Fin 32) (p : Fin 8) (rd rs1 rs2 : Fin 32) (fn : Nat) : Option Instr :=
  match fn with
  | 0 => some (.crc8 t p rd rs1 rs2)
  | 1 => some (.crc64 t p rd rs1 rs2)
  | 2 => some (.tmtb t p rd rs1 rs2)
  | _ => none

/-- ACB (R370). -/
def synAcb (t : Fin 32) (p : Fin 8) (rd rs1 rs2 : Fin 32) (fn : Nat) : Option Instr :=
  if synBits fn 4 4 ≠ 0 ∨ rs2 ≠ 0 then none
  else match fn % 4 with
    | 0 => if rs1 = 0 then some (.acbNow t p rd) else none
    | 1 => some (.acbAt t p rd rs1 ⟨fn / 4 % 4, Nat.mod_lt _ (by decide)⟩)
    | 2 => some (.acbLine t p rd rs1)
    | _ => none

/-! ### The opcode map -/

/-- An instruction that takes an immediate, which a LIMM may extend (R354, R356, R358, R360). -/
def synImmOp (t : Fin 32) (w : Nat) (hi : Option Nat) : Option Instr :=
  let p := synPred w 29
  let rd := synReg w 18
  let rs1 := synReg w 13
  (synImm 13 w hi).bind (fun imm =>
    match synOp w with
    | 0x01 => some (.addi t p rd rs1 imm)
    | 0x02 => some (.andi t p rd rs1 imm)
    | 0x03 => some (.ori t p rd rs1 imm)
    | 0x04 => some (.xori t p rd rs1 imm)
    | 0x0B => some (.muli t p rd rs1 imm)
    | 0x10 => some (.ld8u t p rd rs1 imm false .ok)
    | 0x11 => some (.ld16u t p rd rs1 imm false .ok)
    | 0x12 => some (.ld32u t p rd rs1 imm false .ok)
    | 0x13 => some (.ld64 t p rd rs1 imm false .ok)
    | 0x14 => some (.ld8s t p rd rs1 imm false .ok)
    | 0x15 => some (.ld16s t p rd rs1 imm false .ok)
    | 0x16 => some (.ld32s t p rd rs1 imm false .ok)
    | 0x18 => some (.st8 t p rd rs1 imm)
    | 0x19 => some (.st16 t p rd rs1 imm)
    | 0x1A => some (.st32 t p rd rs1 imm)
    | 0x1B => some (.st64 t p rd rs1 imm)
    | _ => none)

/-- CMPI (R353, R354, R359). -/
def synCmpi (t : Fin 32) (w : Nat) (hi : Option Nat) : Option Instr :=
  (synCond (synBits w 8 4)).bind (fun c =>
    (synImm 8 w hi).map (fun imm => .cmpi t (synPred w 29) (synPred w 20) (synPred w 17) (synReg w 12) c imm))

/-- An instruction that takes no LIMM (R353, R356 to R370). A field that no rule names is not looked at (DEDUCED, log 94). -/
def synPlain (t : Fin 32) (w : Nat) : Option Instr :=
  let p := synPred w 29
  let rd := synReg w 18
  let rs1 := synReg w 13
  let rs2 := synReg w 8
  let fn := synBits w 0 8
  let sh := BitVec.ofNat 6 w
  let len := BitVec.ofNat 6 (w / 64)
  match synOp w with
  | 0x00 => synAlu t p rd rs1 rs2 fn
  | 0x05 => if synBits w 6 7 = 0 then some (.shli t p rd rs1 sh) else none
  | 0x06 => if synBits w 6 7 = 0 then some (.shri t p rd rs1 sh) else none
  | 0x07 => if synBits w 6 7 = 0 then some (.sari t p rd rs1 sh) else none
  | 0x08 => if synBits w 12 1 = 0 then some (.extu t p rd rs1 sh len) else none
  | 0x09 => if synBits w 12 1 = 0 then some (.exts t p rd rs1 sh len) else none
  | 0x0A => if synBits w 12 1 = 0 then some (.ins t p rd rs1 sh len) else none
  | 0x0C => if synBits w 0 3 = 0 then
      (synCond (synBits w 3 4)).map (fun c => .cmp t p (synPred w 20) (synPred w 17) (synReg w 12) (synReg w 7) c) else none
  | 0x0E => synPredOp t p w
  | 0x1C => synAmo t p rd rs1 rs2 fn
  | 0x1D => if rd = 0 then (if fn = 0 then some (.iinv t p rs1 rs2 .ok) else if fn = 1 then some (.pref t p rs1) else none) else none
  | 0x20 => some (.b t p (BitVec.ofNat 23 w))
  | 0x21 => some (.bl t p (BitVec.ofNat 23 w))
  | 0x22 => if fn = 0 then some (.jr t p rs1) else if fn = 1 then some (.jrLink t p rd rs1) else none
  | 0x23 => if rd = 0 ∧ rs1 = 0 ∧ rs2 = 0 then synSys t p fn else none
  | 0x24 => if synBits w 5 8 = 0 then some (.mfs t p rd (synReg w 0)) else none
  | 0x25 => if synBits w 5 8 = 0 ∧ rd = 0 then some (.mts t p rs1 (synReg w 0)) else none
  | 0x28 => some (.evw t p rd rs1 rs2)
  | 0x29 => if rd = 0 then some (.psend t p rs1 rs2) else none
  | 0x2A => if rd = 0 then some (.kop t p rs1 rs2) else none
  | 0x2B => some (.wcmd t p rd rs1 rs2 synCalm)
  | 0x2C => synHash t p rd rs1 rs2 fn
  | 0x30 => synAcb t p rd rs1 rs2 fn
  | 0x31 => if rd = 0 then
      (if fn % 4 = 2 then some (.acw t p rs1 rs2 false) else if fn % 4 = 3 then some (.acw t p rs1 rs2 true) else none) else none
  | 0x32 => if rs2 = 0 ∧ fn % 2 = 0 then
      (if fn.testBit 1 then some (.accHeld t p rd rs1 (synPred w 5) (synPred w 2)) else some (.acc t p rd rs1 (synPred w 5) (synPred w 2)))
      else none
  | 0x33 => if rs1 = 0 ∧ rs2 = 0 then some (.aca t p rd) else none
  | 0x34 => if rs2 ≠ 0 then none
      else if fn.testBit 0 then some (.acsByid t p rd rs1) else if rs1 = 0 then some (.acs t p rd) else none
  | _ => none

/-- One instruction word, with the bits of a LIMM before it; a LIMM before a word that takes none is reserved (R354). -/
def synWord (t : Fin 32) (w : Nat) (hi : Option Nat) : Option Instr :=
  if synOp w = 0x0D then synCmpi t w hi
  else match synImmOp t w hi, hi with
    | some i, _ => some i
    | none, none => synPlain t w
    | none, some _ => none

/-- The instruction of thread `t` that a word spells, or a LIMM word with the word after it; none where the encoding is reserved (R352,
R354). What only its execution shows (a miss, a checker's finding) is quiet in it. -/
def synDecode (t : Fin 32) (w next : Nat) : Option Instr :=
  if synOp w = 0x3F then synWord t next (some (synBits w 29 3 * 2 ^ 23 + synBits w 0 23))
  else synWord t w none

end Sys2Proof
end

