-- ==== Sys2Proof/Config.lean ====
section
/-! DEFINITION. What an implementation of the DQH-3240 fixes, or the spec leaves open: free values. None has a body a
proof could see; each is applied to the model's own counter of free values (State's `freeCtr`) or to the operands it
depends on, and each is named in a row of the assumption log. -/

namespace Sys2Proof.Config

/-- The random numbers the device draws (R137, R546 RANDOM and fresh keys and IVs): the value drawn, by draw number. -/
opaque randomNat : Nat → Nat

/-- The byte at an offset of the boot ROM (R590): the spec does not give its code. -/
opaque bootRomByte : Nat → BitVec 8

/-- The capacity in bytes that the flash reports in SFDP (R591). -/
opaque flashCapacity : Nat

/-- The number of 64-bit words in a bank of the other arrays (MEM 10), which the spec leaves to `REL_MW` W0 (R561). -/
opaque otherBankWords : Nat → Nat

/-- The bytes of an Enique message's body from its code and its fields: R125 names the fields and gives no layout. -/
opaque eniqueBody : Nat → List Nat → List (BitVec 8)

/-- The parity symbols of a codeword, by lane mode, message symbols and place (R45): the spec names no generator polynomial. -/
opaque rsParity : Nat → List Nat → Nat → Nat

/-- The silicon revision that CAP blocks and bcdDevice carry (R94, R460): the spec gives no value. -/
opaque siliconRev : BitVec 8

/-- The bytes of a descriptor that R465 and R466 do not spell out whole, by wValue of the GET_DESCRIPTOR request; from 2^16 on, what a hub
answers that R460 and R462 do not spell out. -/
opaque usbDescriptor : Nat → List (BitVec 8)

/-- What the one-time-programmable memory holds of the unit identifier (R113, R579): SITE and SERIAL. -/
opaque unitId : BitVec 48

/-- What an X.509 certificate in DER holds, where it is well formed: the bytes that are signed, the subject public key, the subject
serialNumber, and the signature as r, s (R548 names the standard). -/
opaque certParts : List (BitVec 8) → Option (List (BitVec 8) × List (BitVec 8) × List (BitVec 8) × List (BitVec 8))

/-- The message bits and the code offsets of an enrolment, by draw number (R533, R535): the PUF array is the die's, and the spec names
no generator polynomial. -/
opaque enrolBits : Nat → List (BitVec 8)
opaque enrolOffsets : Nat → List (BitVec 8)

/-- The next pc that a thread's predictor names where a run-ahead branch has an invalid source (R324), by prediction number. -/
opaque predictedPc : Nat → BitVec 40

/-- FREE VALUE (R328; log 49): which of the contents that a line of memory has had since it was last invalidated an I-cache still holds
when a core fetches from it, by core, line and the thread's retired instructions; 0 means the present one. -/
opaque heldLine : Nat → Nat → Nat → Nat

/-- How long after the commit point a clock domain swaps (R290), by swap number, in steps of 2 ns: the least residue within its bound. -/
opaque swapDelay : Nat → Nat

end Sys2Proof.Config
end

