-- ==== Sys2Proof/Machine/RegisterNames.lean ====
section
/-! DEFINITION. The names of the registers of the register tables (spec 21, R594) and of the table words reached
through the indirect windows (R151, R212, R255, R276, R278, R559). One constructor per register, spelled as the spec
spells it; the letter of an index (p, n, k, c, q, g, l, d, s, b) stays in the name. -/

namespace Sys2Proof

/-- A register, or an indexed family of registers, by the name its table gives. -/
inductive RegName where
  | TRK_PLAN | TRK_CTL | TRK_STAT | TRK_EVT | TRK_EVT_EN | TRK_BLOT_THR_L10 | TRK_BLOT_THR_L25
  | TRK_BLOT_THR_L53 | TRK_BLOT_THR_L106 | TRK_LnSTAT | TRK_LnBERR | TRK_LnFECC | TRK_LnFECU | TRK_LnBIP
  | TRK_LnTXEQ | TRK_BYP_CTL | LNK_CTL | LNK_STAT | LNK_EVT | LNK_EVT_EN | LNK_RTT | LNK_ACKTO
  | LNK_CRED_INITc | LNK_TXSEQ | LNK_RXSEQ | LNK_RXBAD | LNK_RXOOS | LNK_REPLAY | LNK_NAKRX | LNK_ACKTO_CNT
  | LNK_CLOSE | LNK_FAILS | LNK_WRAPDROP | LNK_LINEDROP | LNK_FENCEDROP | LNK_TRUNC | LNK_RXRSV | STN_ID
  | STN_STAT | STN_UID_LO | STN_UID_HI | STN_EVT | STN_EVT_EN | LNK_MREQ | LNK_MRES | LNK_REQSER
  | LNK_NBR_UIDLO | LNK_NBR_UIDHI | LNK_NBR_INFO | TCL_CFG | TCL_CTL | TCL_STAT | TCL_EVT | TCL_EVT_EN
  | TCL_STARTFAIL | TCL_BLOT_THR_L10 | TCL_BLOT_THR_L25 | TNL_CTL | TNL_STAT | TNL_EVT | TNL_EVT_EN
  | TNL_TMT_SEED | TNL_HASH_KEY0 | TNL_HASH_KEY1 | TNL_HASH_BUCKET | TNL_RS_BASE | TNL_RS_SIZE | TNL_RS_USED
  | TNL_BROKEN | TNL_HDRBAD | TNL_NOCTX | TNL_NOROUTE | TNL_LOOP | TNL_POISONSET | TNL_GRPEND | TNL_NOALLOT
  | TNL_FENCEDROP | TNL_MIRROR | TNL_DROPOVR | TNL_TMTREFUSED | TNL_CTX_IDX | TNL_CTX_CMD | TNL_CTX_RES
  | TNL_CTX_DATAk | TMT_W0 | TMT_W1 | TMT_W2 | TMT_W3 | CTX_W0 | CTX_W1 | CTX_W2 | CTX_W3 | CTX_W4 | CTX_W5
  | CTX_W6 | CTX_W7 | CTX_W8 | CTX_W9 | CTX_W10 | CTX_W11 | CTX_W12 | CTX_W13 | CTX_W14 | CTX_W15 | SWC_CTL
  | SWC_STAT | SWC_EVT | SWC_EVT_EN | SWC_CELLS | SWC_FREE | SWC_RSV_USED | SWC_SHARED_MIN | SWC_HEADROOM
  | SWC_HOLD_MAX | SWC_HOLD_USED | SWC_STAGE | SWC_STAGE_Q | SWC_SPILL_BASE | SWC_SPILL_SIZE | SWC_SPILL_USED
  | SWC_SPILL_RATE | SWC_BANKn_FREE | SWC_ADMIT_PKTS | SWC_DROP_PKTS | SWC_DROP_CELLS | SWC_TRUNC
  | SWC_BUF_ECC | SWC_SPILL_ECC | SWC_SPILL_IN | SWC_SPILL_OUT | SWC_CT_PKTS | SWC_SF_PKTS | SWC_HOLD_DROP
  | SWC_Q_IDX | SWC_Q_CMD | SWC_Q_RES | SWC_Q_DATAk | SWQ_W0 | SWQ_W1 | SWQ_W2 | SWQ_W3 | SWQ_W4 | SWQ_W5
  | SWQ_W6 | SWQ_W7 | SIL_CTL | SIL_STAT | SIL_BASE | SIL_SIZE | SIL_WR | SIL_RD | SIL_SEQ | SIL_DROP
  | SIL_SRC_EN_LO | SIL_SRC_EN_HI | SIL_WATER | SIL_EVT | SIL_EVT_EN | TMB_CLK_CTL | TMB_SNAP | TMB_EVT
  | TMB_EVT_EN | TMB_LOAD_SEC_HI | TMB_LOAD_SEC_LO | TMB_LOAD_NS | TMB_LOAD_CMD | TMB_SRV_CTL | TMB_SRV_GAIN
  | TMB_SRV_STAT | TMB_SRV_OFS | TMB_SRV_FREQ | TMB_SRV_SAMPLES | TMB_SRV_MISSED | TMB_SRV_REFUSED
  | TMB_DLY_OUTLIER | TMB_PORTp_DLY | TMB_PORTp_ASYM | TMB_PPS_CTL | TMB_PPS_OFS | TMB_PPS_IN_SEC
  | TMB_PPS_IN_NS | TMB_TBn_SNAP_SEC_HI | TMB_TBn_SNAP_SEC_LO | TMB_TBn_SNAP_NS | TMB_TBn_SNAP_FRAC
  | TMB_TBn_INCR_NS | TMB_TBn_INCR_FRAC | TMB_TBn_PADJ | TMB_TBn_STEPLIM | TMB_TBn_STAT | TIO_CFGk | TIO_PERk
  | TIO_STATk | TIO_EV_SEC | TIO_EV_NS | TIO_EV_PUSH | TIO_EV_RES | TIO_CAP_SEL | TIO_CAP_SEC | TIO_CAP_NS
  | TIO_CAP_POP | TIO_LATE | TIO_CAPLOST | SCH_CTL | SCH_STAT | SCH_EVT | SCH_EVT_EN | SCH_TEL_CTL | SCH_GUARD
  | SCH_OVERSIZE_TE | SCH_OVERSIZE_TW | SCH_OVERRUN_TE | SCH_OVERRUN_TW | SCH_TEL_OVERRUN | SCH_RESYNC
  | SCH_POL_RED | SCH_POL_HELD | SCH_GATEp_CTL | SCH_GATEp_CYCb | SCH_GATEp_OFSb | SCH_GW_IDX | SCH_GW_CMD
  | SCH_GW_RES | SCH_GW_DATA0 | SCH_GW_DATA1 | SCH_EQMAPn_LO | SCH_EQMAPn_HI | QCFG_W0 | QCFG_W1 | QCFG_W2
  | QCFG_W3 | SCH_QS_IDX | SCH_QS_CMD | SCH_QS_RES | SCH_QS_DATAk | QS_W0 | QS_W1 | QS_W2 | QS_W3 | QS_W4
  | QS_W5 | QS_W6 | QS_W7 | QS_W8 | QS_W9 | QS_W10 | QS_W11 | QS_W12 | QS_W13 | QS_W14 | POL_W0 | POL_W1
  | POL_W2 | POL_W3 | POL_W4 | POL_W5 | POL_W6 | POL_W7 | SCH_PS_IDX | SCH_PS_CMD | SCH_PS_RES | SCH_PS_DATAk
  | PS_W0 | PS_W1 | PS_W2 | PS_W3 | PS_W4 | PS_W5 | GENT_W0 | GENT_W1 | ACD_CTL | ACD_STAT | ACD_EVT
  | ACD_EVT_EN | ACD_EPOCH | ACD_GO_LEAD | ACD_LINE_EXPECT | ACD_LINE_ID | ACD_LINE_STAT | ACD_LINE_INFO
  | ACD_SERIAL | ACD_LINE_FENCED | ACD_COMMITS | ACD_LINE_COMMITS | ACD_ABORTc | ACD_DUPMSG | ACD_SLOTn_STAT
  | ACD_SLOTn_ID | SYN_STAT | SYN_THn_CTL | SYN_THn_PC_LO | SYN_THn_PC_HI | SYN_THn_STAT | SYN_EVQq_CFG
  | SYN_EVQq_WR | SYN_EVQq_RD | SYN_EVQq_DROP | SYN_PQq_BASE | SYN_PQq_CFG | SYN_PQq_WR | SYN_PQq_RD
  | SYN_EVROUTEk | SYN_EV_UNROUTED | SYN_PERF_IDX | SYN_PERF_LO | SYN_PERF_HI | ETH_CTL | ETH_STAT | ETH_EVT
  | ETH_EVT_EN | ETH_VLAN | ETH_TS_CTL | ETH_TS_RXDLY | ETH_TS_TXDLY | ETH_MAC_LO | ETH_MAC_HI | ETH_HOST_CTL
  | ETH_TSF_INFO | ETH_TSF_SEC | ETH_TSF_NS | ETH_TSF_POP | ETH_HTX_BASE | ETH_HTX_CFG | ETH_HTX_WR
  | ETH_HTX_RD | ETH_RX_FRAMES | ETH_RX_FCS | ETH_RX_RUNT | ETH_RX_LONG | ETH_RX_NOMAP | ETH_RX_NOCTX
  | ETH_RX_HOST | ETH_RX_PAUSE | ETH_TX_FRAMES | ETH_TX_LONG | ETH_TX_LINKDOWN | ETH_TSF_LOST | ETH_PTP_IPV6
  | ETH_MAPk | STO_CTL | STO_DW_BASE | STO_DW_SIZE | STO_WORK_BASE | STO_CMD_TO | STO_Sn_CTL | STO_Sn_STAT
  | STO_Sn_EVT | STO_Sn_EVT_EN | STO_Sn_REQS | STO_Sn_DUP_CACHED | STO_Sn_DUP_INFLIGHT | STO_Sn_STALE
  | STO_Sn_TIMEOUTS | STO_Sn_ERRORS | STO_Sn_AER_CORR | STO_Sn_AER_UNCORR | STO_Sn_QPk | PDC_CTL | PDC_NODE
  | PDC_ALLOC | PDC_RECLAIMS | PDC_SHEDS | PDC_SRC_SPRk | PDC_SRC_EPRk | PDC_SNKk | PDC_Pn_CFG | PDC_Pn_LIMIT
  | PDC_Pn_REG | PDC_Pn_STAT | PDC_Pn_CONTRACT | PDC_Pn_ALLOC | PDC_Pn_VBUS | PDC_Pn_EVT | PDC_Pn_EVT_EN
  | PDC_Pn_CMD | PDC_Pn_CMDRES | PDC_Pn_MSG_TX | PDC_Pn_RETRY | PDC_Pn_HRESET | PDC_Pn_DIT | PDC_Pn_VFAULT
  | DSO_CTL | DSO_Dn_CTL | DSO_Dn_STAT | DSO_Dn_EVT | DSO_Dn_EVT_EN | DSO_Dn_HTIM0 | DSO_Dn_HTIM1
  | DSO_Dn_VTIM0 | DSO_Dn_VTIM1 | DSO_Dn_PCLK | DSO_Dn_BG | DSO_Dn_COMMIT | DSO_Dn_LT | DSO_Dn_COVER
  | DSO_Dn_FCOUNT | DSO_Dn_FLIPTS_SEC | DSO_Dn_FLIPTS_NS | DSO_Dn_APPLIED | DSO_Dn_UNDERRUN | DSO_Dn_ABORTS
  | DSO_Dn_TELOST | DSO_Dn_Ll_CFG | DSO_Dn_Ll_POS | DSO_Dn_Ll_SIZE | DSO_Dn_Ll_STRIDE | DSO_Dn_Ll_FB0_LO
  | DSO_Dn_Ll_FB0_HI | DSO_Dn_Ll_FB1_LO | DSO_Dn_Ll_FB1_HI | DSO_IN_CTL | DSO_IN_REQ | DSO_IN_FRAMEn
  | DSO_IN_PKTSn | DSO_IN_FLIPSn | DSO_IN_MALFORMEDn | DSO_IN_BOUNDSn | DSO_IN_REFRESHn | DSO_IN_DMGOVFn
  | DSO_IN_COPYPXn | DSO_PAL | USB_CTL | USB_STAT | USB_EVT | USB_EVT_EN | USB_SETUP0 | USB_SETUP1
  | USB_CTRL_STAT | USB_CTRL_CMD | USB_CTRL_TO | USB_CBUFk | USB_WAKE | USB_AUD_CFG | USB_GWg_CFG
  | USB_NOTE_Wk | USB_NOTE_PUSH | USB_NOTE_STAT | USB_GWg_OUT | USB_GWg_IN | USB_GWg_NAKS | USB_GWg_DROPS
  | USB_HPp | USB_HP_OC | USB_NOTE_LOST | AUD_CTL | AUD_STAT | AUD_FB | AUD_RATE | AUD_UNDER | AUD_OVER
  | HSW_CTL | HSW_STAT | HSW_EVT | HSW_EVT_EN | HSW_CMD | HSW_ILIM | HSW_TIMER | HSW_RETRY | HSW_RAMP
  | HSW_UVOV_A | HSW_UVOV_B | HSW_RSENSE | HSW_VA | HSW_VB | HSW_VOUT | HSW_I | HSW_P | HSW_E_LO | HSW_E_HI
  | HSW_HIST | HSW_FAST_TRIPS | HSW_SLOW_TRIPS | HSW_RETRIES | HSW_SWITCHOVERS | HSW_SEATLOSS | PWR_Dd_REQ
  | PWR_Dd_STAT | PWR_EVT | PWR_EVT_EN | PWR_AVS_CTL | PWR_AVS_STAT | PWR_WTIMER | PWR_WSRCs | PWR_WLATCH
  | PWR_WAKE_SW | PWR_PMB_CFG | PWR_RAILk | PWR_RAIL_STAT | PWR_AVS_RETRIES | PWR_PMB_RETRIES | PWR_PMB_FAILS
  | PWR_ALERTS | PWR_WAKES | PWR_PADREL | PWR_DRAIN_TO | KEY_CTL | KEY_STAT | KEY_EVT | KEY_EVT_EN
  | KEY_ROOTGEN | KEY_LINE | KEY_REKEY | KEY_SUBMIT | KEY_SLOT_IDX | KEY_SLOT_CMD | KEY_SLOT_RES
  | KEY_SLOT_DATAk | KSLOT_W0 | KSLOT_W1 | KSLOT_W2 | KSLOT_W3 | KSLOT_W4 | KSLOT_W5 | KSLOT_W6 | KSLOT_W7
  | KEY_SEGp_STAT | KEY_SEGp_AGE | KEY_OPS | KEY_REFUSED | KEY_AUTHFAIL | KEY_ORPHANS | KEY_REKEYS
  | KEY_BADSUB | REL_EVT | REL_EVT_EN | REL_PARITY | REL_TMT_UE | REL_MW_IDX | REL_MW_CMD | REL_MW_RES
  | REL_MW_ARG | REL_MW_DATAk | REL_SCR_MEM | REL_SCR_START | REL_SCR_END | REL_SCR_CMD | REL_SCR_STAT
  | REL_SCR_READ | REL_SCR_CE | REL_SCR_UE | REL_SCR_UEAk | REL_BIST_TGT | REL_BIST_CMD | REL_BIST_STAT
  | REL_BIST_MISR_LO | REL_BIST_MISR_HI | REL_BIST_FAILS | DDR_CTL | DDR_CFG | DDR_STAT | DDR_SR | SYS_RST
  | SYS_RST_CAUSE | SYS_WDOG_CTL | SYS_WDOG_KICK | SYS_BOOT_STAT | LCS_STATE | LCS_LC_REQ | LCS_SVN
  | LCS_SVN_REQ | LCS_HELPER_OFS | LCS_USBID
  deriving DecidableEq, Repr

end Sys2Proof
end

