-- ==== Sys2Proof/Machine/RegisterMap.lean ====
section
/-! DEFINITION. The register map: every register of R594 with its offset in its block, its index ranges, its clock
domain and its fields (R9, R10), and the same for the table words behind the indirect windows (blocks from 256 on, no
block of the address map). -/

namespace Sys2Proof.Machine

/-- A register of the map: `n1` instances `s1` bytes apart, each with `n2` instances `s2` bytes apart. -/
structure RegDef where
  name  : RegName
  base  : Nat
  n1    : Nat
  s1    : Nat
  n2    : Nat
  s2    : Nat
  dom   : DomOf
  flds  : List FieldDef
  deriving DecidableEq, Repr

def regsTRK0 : List RegDef := [
  ⟨.TRK_PLAN, 0x0, 2, 0x10000, 1, 0x0, .trk, [⟨0, 4, .rw, false, 0⟩, ⟨4, 12, .rw, false, 1⟩, ⟨16, 1, .rw, false, 0⟩, ⟨17, 1, .rw, false, 0⟩, ⟨18, 14, .rw, false, 0⟩]⟩,
  ⟨.TRK_CTL, 0x4, 2, 0x10000, 1, 0x0, .trk, [⟨0, 1, .rw, false, 0⟩, ⟨1, 1, .w1s, false, 0⟩, ⟨8, 4, .rws, false, 0⟩]⟩,
  ⟨.TRK_STAT, 0x8, 2, 0x10000, 1, 0x0, .trk, [⟨0, 3, .ro, false, 0⟩, ⟨4, 4, .ro, false, 0⟩, ⟨8, 4, .ro, false, 0⟩, ⟨12, 1, .ro, false, 0⟩, ⟨13, 1, .ro, false, 0⟩, ⟨16, 8, .ro, false, 0xe4⟩]⟩,
  ⟨.TRK_EVT, 0xc, 2, 0x10000, 1, 0x0, .trk, [⟨0, 1, .w1c, false, 0⟩, ⟨1, 1, .w1c, false, 0⟩, ⟨2, 1, .w1c, false, 0⟩, ⟨3, 1, .w1c, false, 0⟩, ⟨4, 1, .w1c, false, 0⟩, ⟨5, 1, .w1c, false, 0⟩, ⟨6, 1, .w1c, false, 0⟩, ⟨7, 1, .w1c, false, 0⟩]⟩,
  ⟨.TRK_EVT_EN, 0x10, 2, 0x10000, 1, 0x0, .trk, [⟨0, 1, .rw, false, 0⟩, ⟨1, 1, .rw, false, 0⟩, ⟨2, 1, .rw, false, 0⟩, ⟨3, 1, .rw, false, 0⟩, ⟨4, 1, .rw, false, 0⟩, ⟨5, 1, .rw, false, 0⟩, ⟨6, 1, .rw, false, 0⟩, ⟨7, 1, .rw, false, 0⟩]⟩,
  ⟨.TRK_BLOT_THR_L10, 0x20, 2, 0x10000, 1, 0x0, .trk, [⟨0, 24, .rw, false, 0⟩]⟩,
  ⟨.TRK_BLOT_THR_L25, 0x24, 2, 0x10000, 1, 0x0, .trk, [⟨0, 24, .rw, false, 0x182b⟩]⟩,
  ⟨.TRK_BLOT_THR_L53, 0x28, 2, 0x10000, 1, 0x0, .trk, [⟨0, 24, .rw, false, 0x31ce⟩]⟩,
  ⟨.TRK_BLOT_THR_L106, 0x2c, 2, 0x10000, 1, 0x0, .trk, [⟨0, 24, .rw, false, 0x639c⟩]⟩,
  ⟨.TRK_LnSTAT, 0x100, 2, 0x10000, 4, 0x20, .trk, [⟨0, 1, .ro, false, 0⟩, ⟨1, 1, .ro, false, 0⟩, ⟨2, 1, .ro, false, 0⟩, ⟨8, 8, .ro, false, 0⟩, ⟨16, 2, .ro, false, 0⟩]⟩,
  ⟨.TRK_LnSTAT, 0x80100, 8, 0x10000, 2, 0x20, .tyc, [⟨0, 1, .ro, false, 0⟩, ⟨1, 1, .ro, false, 0⟩, ⟨2, 1, .ro, false, 0⟩, ⟨8, 8, .ro, false, 0⟩, ⟨16, 2, .ro, false, 0⟩]⟩,
  ⟨.TRK_LnBERR, 0x104, 2, 0x10000, 4, 0x20, .trk, [⟨0, 32, .ro, false, 0⟩]⟩]

def regsTRK1 : List RegDef := [
  ⟨.TRK_LnBERR, 0x80104, 8, 0x10000, 2, 0x20, .tyc, [⟨0, 32, .ro, false, 0⟩]⟩,
  ⟨.TRK_LnFECC, 0x108, 2, 0x10000, 4, 0x20, .trk, [⟨0, 32, .ro, false, 0⟩]⟩,
  ⟨.TRK_LnFECC, 0x80108, 8, 0x10000, 2, 0x20, .tyc, [⟨0, 32, .ro, false, 0⟩]⟩,
  ⟨.TRK_LnFECU, 0x10c, 2, 0x10000, 4, 0x20, .trk, [⟨0, 32, .ro, false, 0⟩]⟩,
  ⟨.TRK_LnFECU, 0x8010c, 8, 0x10000, 2, 0x20, .tyc, [⟨0, 32, .ro, false, 0⟩]⟩,
  ⟨.TRK_LnBIP, 0x110, 2, 0x10000, 4, 0x20, .trk, [⟨0, 32, .ro, false, 0⟩]⟩,
  ⟨.TRK_LnBIP, 0x80110, 8, 0x10000, 2, 0x20, .tyc, [⟨0, 32, .ro, false, 0⟩]⟩,
  ⟨.TRK_LnTXEQ, 0x114, 2, 0x10000, 4, 0x20, .trk, [⟨0, 6, .rw, false, 4⟩, ⟨8, 6, .rw, false, 0x30⟩, ⟨16, 6, .rw, false, 8⟩]⟩,
  ⟨.TRK_LnTXEQ, 0x80114, 8, 0x10000, 2, 0x20, .tyc, [⟨0, 6, .rw, false, 4⟩, ⟨8, 6, .rw, false, 0x30⟩, ⟨16, 6, .rw, false, 8⟩]⟩,
  ⟨.TRK_BYP_CTL, 0x20000, 1, 0x0, 1, 0x0, .one .ref, [⟨0, 1, .rw, false, 0⟩, ⟨8, 1, .ro, false, 0⟩]⟩,
  ⟨.LNK_CTL, 0x400, 2, 0x10000, 1, 0x0, .trk, [⟨0, 1, .rw, false, 0⟩, ⟨1, 1, .rw, false, 0⟩, ⟨2, 1, .rw, false, 1⟩, ⟨3, 1, .w1s, false, 0⟩]⟩,
  ⟨.LNK_CTL, 0x80400, 8, 0x10000, 1, 0x0, .tyc, [⟨0, 1, .rw, false, 0⟩, ⟨1, 1, .rw, false, 0⟩, ⟨2, 1, .rw, false, 1⟩, ⟨3, 1, .w1s, false, 0⟩]⟩]

def regsTRK2 : List RegDef := [
  ⟨.LNK_STAT, 0x404, 2, 0x10000, 1, 0x0, .trk, [⟨0, 3, .ro, false, 0⟩, ⟨3, 1, .ro, false, 0⟩, ⟨4, 1, .ro, false, 0⟩, ⟨8, 4, .ro, false, 0⟩, ⟨16, 11, .ro, false, 0⟩]⟩,
  ⟨.LNK_STAT, 0x80404, 8, 0x10000, 1, 0x0, .tyc, [⟨0, 3, .ro, false, 0⟩, ⟨3, 1, .ro, false, 0⟩, ⟨4, 1, .ro, false, 0⟩, ⟨8, 4, .ro, false, 0⟩, ⟨16, 11, .ro, false, 0⟩]⟩,
  ⟨.LNK_EVT, 0x408, 2, 0x10000, 1, 0x0, .trk, [⟨0, 1, .w1c, false, 0⟩, ⟨1, 1, .w1c, false, 0⟩, ⟨2, 1, .w1c, false, 0⟩, ⟨3, 1, .w1c, false, 0⟩, ⟨4, 1, .w1c, false, 0⟩, ⟨5, 1, .w1c, false, 0⟩, ⟨6, 1, .w1c, false, 0⟩, ⟨7, 1, .w1c, false, 0⟩, ⟨8, 1, .w1c, false, 0⟩]⟩,
  ⟨.LNK_EVT, 0x80408, 8, 0x10000, 1, 0x0, .tyc, [⟨0, 1, .w1c, false, 0⟩, ⟨1, 1, .w1c, false, 0⟩, ⟨2, 1, .w1c, false, 0⟩, ⟨3, 1, .w1c, false, 0⟩, ⟨4, 1, .w1c, false, 0⟩, ⟨5, 1, .w1c, false, 0⟩, ⟨6, 1, .w1c, false, 0⟩, ⟨7, 1, .w1c, false, 0⟩, ⟨8, 1, .w1c, false, 0⟩]⟩,
  ⟨.LNK_EVT_EN, 0x40c, 2, 0x10000, 1, 0x0, .trk, [⟨0, 1, .rw, false, 0⟩, ⟨1, 1, .rw, false, 0⟩, ⟨2, 1, .rw, false, 0⟩, ⟨3, 1, .rw, false, 0⟩, ⟨4, 1, .rw, false, 0⟩, ⟨5, 1, .rw, false, 0⟩, ⟨6, 1, .rw, false, 0⟩, ⟨7, 1, .rw, false, 0⟩, ⟨8, 1, .rw, false, 0⟩]⟩,
  ⟨.LNK_EVT_EN, 0x8040c, 8, 0x10000, 1, 0x0, .tyc, [⟨0, 1, .rw, false, 0⟩, ⟨1, 1, .rw, false, 0⟩, ⟨2, 1, .rw, false, 0⟩, ⟨3, 1, .rw, false, 0⟩, ⟨4, 1, .rw, false, 0⟩, ⟨5, 1, .rw, false, 0⟩, ⟨6, 1, .rw, false, 0⟩, ⟨7, 1, .rw, false, 0⟩, ⟨8, 1, .rw, false, 0⟩]⟩,
  ⟨.LNK_RTT, 0x410, 2, 0x10000, 1, 0x0, .trk, [⟨0, 24, .ro, false, 0⟩]⟩,
  ⟨.LNK_RTT, 0x80410, 8, 0x10000, 1, 0x0, .tyc, [⟨0, 24, .ro, false, 0⟩]⟩,
  ⟨.LNK_ACKTO, 0x414, 2, 0x10000, 1, 0x0, .trk, [⟨0, 24, .ro, false, 0⟩]⟩,
  ⟨.LNK_ACKTO, 0x80414, 8, 0x10000, 1, 0x0, .tyc, [⟨0, 24, .ro, false, 0⟩]⟩,
  ⟨.LNK_CRED_INITc, 0x420, 2, 0x10000, 8, 0x4, .trk, [⟨0, 16, .rw, false, 0x100⟩]⟩,
  ⟨.LNK_CRED_INITc, 0x80420, 8, 0x10000, 8, 0x4, .tyc, [⟨0, 16, .rw, false, 0x100⟩]⟩]

def regsTRK3 : List RegDef := [
  ⟨.LNK_TXSEQ, 0x440, 2, 0x10000, 1, 0x0, .trk, [⟨0, 32, .ro, false, 0⟩]⟩,
  ⟨.LNK_TXSEQ, 0x80440, 8, 0x10000, 1, 0x0, .tyc, [⟨0, 32, .ro, false, 0⟩]⟩,
  ⟨.LNK_RXSEQ, 0x444, 2, 0x10000, 1, 0x0, .trk, [⟨0, 32, .ro, false, 0⟩]⟩,
  ⟨.LNK_RXSEQ, 0x80444, 8, 0x10000, 1, 0x0, .tyc, [⟨0, 32, .ro, false, 0⟩]⟩,
  ⟨.LNK_RXBAD, 0x448, 2, 0x10000, 1, 0x0, .trk, [⟨0, 32, .ro, false, 0⟩]⟩,
  ⟨.LNK_RXBAD, 0x80448, 8, 0x10000, 1, 0x0, .tyc, [⟨0, 32, .ro, false, 0⟩]⟩,
  ⟨.LNK_RXOOS, 0x44c, 2, 0x10000, 1, 0x0, .trk, [⟨0, 32, .ro, false, 0⟩]⟩,
  ⟨.LNK_RXOOS, 0x8044c, 8, 0x10000, 1, 0x0, .tyc, [⟨0, 32, .ro, false, 0⟩]⟩,
  ⟨.LNK_REPLAY, 0x450, 2, 0x10000, 1, 0x0, .trk, [⟨0, 32, .ro, false, 0⟩]⟩,
  ⟨.LNK_REPLAY, 0x80450, 8, 0x10000, 1, 0x0, .tyc, [⟨0, 32, .ro, false, 0⟩]⟩,
  ⟨.LNK_NAKRX, 0x454, 2, 0x10000, 1, 0x0, .trk, [⟨0, 32, .ro, false, 0⟩]⟩,
  ⟨.LNK_NAKRX, 0x80454, 8, 0x10000, 1, 0x0, .tyc, [⟨0, 32, .ro, false, 0⟩]⟩]

def regsTRK4 : List RegDef := [
  ⟨.LNK_ACKTO_CNT, 0x458, 2, 0x10000, 1, 0x0, .trk, [⟨0, 32, .ro, false, 0⟩]⟩,
  ⟨.LNK_ACKTO_CNT, 0x80458, 8, 0x10000, 1, 0x0, .tyc, [⟨0, 32, .ro, false, 0⟩]⟩,
  ⟨.LNK_CLOSE, 0x45c, 2, 0x10000, 1, 0x0, .trk, [⟨0, 32, .ro, false, 0⟩]⟩,
  ⟨.LNK_CLOSE, 0x8045c, 8, 0x10000, 1, 0x0, .tyc, [⟨0, 32, .ro, false, 0⟩]⟩,
  ⟨.LNK_FAILS, 0x460, 2, 0x10000, 1, 0x0, .trk, [⟨0, 32, .ro, false, 0⟩]⟩,
  ⟨.LNK_FAILS, 0x80460, 8, 0x10000, 1, 0x0, .tyc, [⟨0, 32, .ro, false, 0⟩]⟩,
  ⟨.LNK_WRAPDROP, 0x464, 2, 0x10000, 1, 0x0, .trk, [⟨0, 32, .ro, false, 0⟩]⟩,
  ⟨.LNK_WRAPDROP, 0x80464, 8, 0x10000, 1, 0x0, .tyc, [⟨0, 32, .ro, false, 0⟩]⟩,
  ⟨.LNK_LINEDROP, 0x468, 2, 0x10000, 1, 0x0, .trk, [⟨0, 32, .ro, false, 0⟩]⟩,
  ⟨.LNK_LINEDROP, 0x80468, 8, 0x10000, 1, 0x0, .tyc, [⟨0, 32, .ro, false, 0⟩]⟩,
  ⟨.LNK_FENCEDROP, 0x46c, 2, 0x10000, 1, 0x0, .trk, [⟨0, 32, .ro, false, 0⟩]⟩,
  ⟨.LNK_FENCEDROP, 0x8046c, 8, 0x10000, 1, 0x0, .tyc, [⟨0, 32, .ro, false, 0⟩]⟩]

def regsTRK5 : List RegDef := [
  ⟨.LNK_TRUNC, 0x470, 2, 0x10000, 1, 0x0, .trk, [⟨0, 32, .ro, false, 0⟩]⟩,
  ⟨.LNK_TRUNC, 0x80470, 8, 0x10000, 1, 0x0, .tyc, [⟨0, 32, .ro, false, 0⟩]⟩,
  ⟨.LNK_RXRSV, 0x474, 2, 0x10000, 1, 0x0, .trk, [⟨0, 32, .ro, false, 0⟩]⟩,
  ⟨.LNK_RXRSV, 0x80474, 8, 0x10000, 1, 0x0, .tyc, [⟨0, 32, .ro, false, 0⟩]⟩,
  ⟨.STN_ID, 0x20100, 1, 0x0, 1, 0x0, .one .core, [⟨0, 12, .rw, false, 0⟩, ⟨12, 1, .rw, false, 0⟩, ⟨13, 2, .rw, false, 0⟩, ⟨16, 2, .rw, false, 0⟩]⟩,
  ⟨.STN_STAT, 0x20104, 1, 0x0, 1, 0x0, .one .core, [⟨0, 1, .w1c, false, 1⟩, ⟨1, 1, .ro, false, 1⟩]⟩,
  ⟨.STN_UID_LO, 0x20108, 1, 0x0, 1, 0x0, .one .core, [⟨0, 32, .ro, false, 0⟩]⟩,
  ⟨.STN_UID_HI, 0x2010c, 1, 0x0, 1, 0x0, .one .core, [⟨0, 32, .ro, false, 0⟩]⟩,
  ⟨.STN_EVT, 0x20110, 1, 0x0, 1, 0x0, .one .core, [⟨0, 1, .w1c, false, 0⟩, ⟨1, 1, .w1c, false, 0⟩, ⟨2, 1, .w1c, false, 0⟩, ⟨3, 1, .w1c, false, 0⟩, ⟨4, 1, .w1c, false, 0⟩, ⟨5, 1, .w1c, false, 0⟩, ⟨6, 1, .w1c, false, 0⟩]⟩,
  ⟨.STN_EVT_EN, 0x20114, 1, 0x0, 1, 0x0, .one .core, [⟨0, 1, .rw, false, 0⟩, ⟨1, 1, .rw, false, 0⟩, ⟨2, 1, .rw, false, 0⟩, ⟨3, 1, .rw, false, 0⟩, ⟨4, 1, .rw, false, 0⟩, ⟨5, 1, .rw, false, 0⟩, ⟨6, 1, .rw, false, 0⟩]⟩,
  ⟨.LNK_MREQ, 0x480, 2, 0x10000, 1, 0x0, .trk, [⟨0, 4, .rw, false, 0⟩, ⟨4, 1, .rw, false, 0⟩, ⟨5, 1, .rw, false, 0⟩, ⟨8, 1, .w1s, false, 0⟩]⟩,
  ⟨.LNK_MREQ, 0x80480, 8, 0x10000, 1, 0x0, .tyc, [⟨0, 4, .rw, false, 0⟩, ⟨4, 1, .rw, false, 0⟩, ⟨5, 1, .rw, false, 0⟩, ⟨8, 1, .w1s, false, 0⟩]⟩]

def regsTRK6 : List RegDef := [
  ⟨.LNK_MRES, 0x484, 2, 0x10000, 1, 0x0, .trk, [⟨0, 3, .ro, false, 0⟩, ⟨4, 4, .ro, false, 0⟩, ⟨16, 13, .ro, false, 0⟩]⟩,
  ⟨.LNK_MRES, 0x80484, 8, 0x10000, 1, 0x0, .tyc, [⟨0, 3, .ro, false, 0⟩, ⟨4, 4, .ro, false, 0⟩, ⟨16, 13, .ro, false, 0⟩]⟩,
  ⟨.LNK_REQSER, 0x488, 2, 0x10000, 1, 0x0, .trk, [⟨0, 32, .ro, false, 0⟩]⟩,
  ⟨.LNK_REQSER, 0x80488, 8, 0x10000, 1, 0x0, .tyc, [⟨0, 32, .ro, false, 0⟩]⟩,
  ⟨.LNK_NBR_UIDLO, 0x48c, 2, 0x10000, 1, 0x0, .trk, [⟨0, 32, .ro, false, 0⟩]⟩,
  ⟨.LNK_NBR_UIDLO, 0x8048c, 8, 0x10000, 1, 0x0, .tyc, [⟨0, 32, .ro, false, 0⟩]⟩,
  ⟨.LNK_NBR_UIDHI, 0x490, 2, 0x10000, 1, 0x0, .trk, [⟨0, 32, .ro, false, 0⟩]⟩,
  ⟨.LNK_NBR_UIDHI, 0x80490, 8, 0x10000, 1, 0x0, .tyc, [⟨0, 32, .ro, false, 0⟩]⟩,
  ⟨.LNK_NBR_INFO, 0x494, 2, 0x10000, 1, 0x0, .trk, [⟨0, 12, .ro, false, 0⟩, ⟨12, 1, .ro, false, 0⟩, ⟨13, 2, .ro, false, 0⟩, ⟨16, 8, .ro, false, 0⟩]⟩,
  ⟨.LNK_NBR_INFO, 0x80494, 8, 0x10000, 1, 0x0, .tyc, [⟨0, 12, .ro, false, 0⟩, ⟨12, 1, .ro, false, 0⟩, ⟨13, 2, .ro, false, 0⟩, ⟨16, 8, .ro, false, 0⟩]⟩,
  ⟨.TCL_CFG, 0x80000, 8, 0x10000, 1, 0x0, .tyc, [⟨0, 5, .ro, false, 1⟩]⟩,
  ⟨.TCL_CTL, 0x80004, 8, 0x10000, 1, 0x0, .tyc, [⟨0, 1, .rw, false, 1⟩, ⟨1, 1, .rw, false, 0⟩, ⟨2, 1, .w1s, false, 0⟩, ⟨8, 2, .rws, false, 0⟩]⟩]

def regsTRK7 : List RegDef := [
  ⟨.TCL_STAT, 0x80008, 8, 0x10000, 1, 0x0, .tyc, [⟨0, 3, .ro, false, 0⟩, ⟨4, 4, .ro, false, 0⟩, ⟨8, 2, .ro, false, 0⟩, ⟨12, 1, .ro, false, 0⟩]⟩,
  ⟨.TCL_EVT, 0x8000c, 8, 0x10000, 1, 0x0, .tyc, [⟨0, 1, .w1c, false, 0⟩, ⟨1, 1, .w1c, false, 0⟩, ⟨2, 1, .w1c, false, 0⟩]⟩,
  ⟨.TCL_EVT_EN, 0x80010, 8, 0x10000, 1, 0x0, .tyc, [⟨0, 1, .rw, false, 0⟩, ⟨1, 1, .rw, false, 0⟩, ⟨2, 1, .rw, false, 0⟩]⟩,
  ⟨.TCL_STARTFAIL, 0x80014, 8, 0x10000, 1, 0x0, .tyc, [⟨0, 32, .ro, false, 0⟩]⟩,
  ⟨.TCL_BLOT_THR_L10, 0x80020, 8, 0x10000, 1, 0x0, .tyc, [⟨0, 24, .rw, false, 0⟩]⟩,
  ⟨.TCL_BLOT_THR_L25, 0x80024, 8, 0x10000, 1, 0x0, .tyc, [⟨0, 24, .rw, false, 0x182b⟩]⟩]

/-- The registers of block TRK. -/
def regsTRK : List RegDef :=
  regsTRK0 ++ regsTRK1 ++ regsTRK2 ++ regsTRK3 ++ regsTRK4 ++ regsTRK5 ++ regsTRK6 ++ regsTRK7

def regsTNL0 : List RegDef := [
  ⟨.TNL_CTL, 0x0, 1, 0x0, 1, 0x0, .one .core, [⟨0, 1, .rw, false, 0⟩, ⟨8, 8, .rw, true, 0⟩]⟩,
  ⟨.TNL_STAT, 0x4, 1, 0x0, 1, 0x0, .one .core, [⟨0, 1, .ro, false, 0⟩, ⟨1, 1, .ro, false, 0⟩, ⟨16, 11, .ro, false, 0⟩]⟩,
  ⟨.TNL_EVT, 0x8, 1, 0x0, 1, 0x0, .one .core, [⟨0, 1, .w1c, false, 0⟩, ⟨1, 1, .w1c, false, 0⟩, ⟨2, 1, .w1c, false, 0⟩, ⟨3, 1, .w1c, false, 0⟩, ⟨4, 1, .w1c, false, 0⟩, ⟨5, 1, .w1c, false, 0⟩, ⟨6, 1, .w1c, false, 0⟩, ⟨7, 1, .w1c, false, 0⟩, ⟨8, 1, .w1c, false, 0⟩, ⟨9, 1, .w1c, false, 0⟩, ⟨10, 1, .w1c, false, 0⟩]⟩,
  ⟨.TNL_EVT_EN, 0xc, 1, 0x0, 1, 0x0, .one .core, [⟨0, 1, .rw, false, 0⟩, ⟨1, 1, .rw, false, 0⟩, ⟨2, 1, .rw, false, 0⟩, ⟨3, 1, .rw, false, 0⟩, ⟨4, 1, .rw, false, 0⟩, ⟨5, 1, .rw, false, 0⟩, ⟨6, 1, .rw, false, 0⟩, ⟨7, 1, .rw, false, 0⟩, ⟨8, 1, .rw, false, 0⟩, ⟨9, 1, .rw, false, 0⟩, ⟨10, 1, .rw, false, 0⟩]⟩,
  ⟨.TNL_TMT_SEED, 0x10, 1, 0x0, 1, 0x0, .one .core, [⟨0, 32, .rw, false, 0⟩]⟩,
  ⟨.TNL_HASH_KEY0, 0x14, 1, 0x0, 1, 0x0, .one .core, [⟨0, 32, .rw, false, 0⟩]⟩,
  ⟨.TNL_HASH_KEY1, 0x18, 1, 0x0, 1, 0x0, .one .core, [⟨0, 4, .rw, false, 0⟩]⟩,
  ⟨.TNL_HASH_BUCKET, 0x1c, 1, 0x0, 1, 0x0, .one .core, [⟨0, 12, .ro, false, 0⟩]⟩,
  ⟨.TNL_RS_BASE, 0x20, 1, 0x0, 1, 0x0, .one .core, [⟨0, 23, .rw, false, 0⟩]⟩,
  ⟨.TNL_RS_SIZE, 0x24, 1, 0x0, 1, 0x0, .one .core, [⟨0, 16, .rw, false, 0⟩]⟩,
  ⟨.TNL_RS_USED, 0x28, 1, 0x0, 1, 0x0, .one .core, [⟨0, 25, .ro, false, 0⟩]⟩,
  ⟨.TNL_BROKEN, 0x2c, 1, 0x0, 1, 0x0, .one .core, [⟨0, 10, .ro, false, 0⟩, ⟨31, 1, .ro, false, 0⟩]⟩]

def regsTNL1 : List RegDef := [
  ⟨.TNL_HDRBAD, 0x40, 1, 0x0, 1, 0x0, .one .core, [⟨0, 32, .ro, false, 0⟩]⟩,
  ⟨.TNL_NOCTX, 0x44, 1, 0x0, 1, 0x0, .one .core, [⟨0, 32, .ro, false, 0⟩]⟩,
  ⟨.TNL_NOROUTE, 0x48, 1, 0x0, 1, 0x0, .one .core, [⟨0, 32, .ro, false, 0⟩]⟩,
  ⟨.TNL_LOOP, 0x4c, 1, 0x0, 1, 0x0, .one .core, [⟨0, 32, .ro, false, 0⟩]⟩,
  ⟨.TNL_POISONSET, 0x50, 1, 0x0, 1, 0x0, .one .core, [⟨0, 32, .ro, false, 0⟩]⟩,
  ⟨.TNL_GRPEND, 0x54, 1, 0x0, 1, 0x0, .one .core, [⟨0, 32, .ro, false, 0⟩]⟩,
  ⟨.TNL_NOALLOT, 0x58, 1, 0x0, 1, 0x0, .one .core, [⟨0, 32, .ro, false, 0⟩]⟩,
  ⟨.TNL_FENCEDROP, 0x5c, 1, 0x0, 1, 0x0, .one .core, [⟨0, 32, .ro, false, 0⟩]⟩,
  ⟨.TNL_MIRROR, 0x60, 1, 0x0, 1, 0x0, .one .core, [⟨0, 32, .ro, false, 0⟩]⟩,
  ⟨.TNL_DROPOVR, 0x64, 1, 0x0, 1, 0x0, .one .core, [⟨0, 32, .ro, false, 0⟩]⟩,
  ⟨.TNL_TMTREFUSED, 0x68, 1, 0x0, 1, 0x0, .one .core, [⟨0, 32, .ro, false, 0⟩]⟩,
  ⟨.TNL_CTX_IDX, 0x100, 1, 0x0, 1, 0x0, .one .core, [⟨0, 10, .rw, false, 0⟩]⟩]

def regsTNL2 : List RegDef := [
  ⟨.TNL_CTX_CMD, 0x104, 1, 0x0, 1, 0x0, .one .core, [⟨0, 3, .wo, false, 0⟩]⟩,
  ⟨.TNL_CTX_RES, 0x108, 1, 0x0, 1, 0x0, .one .core, [⟨0, 1, .ro, false, 1⟩, ⟨1, 3, .ro, false, 0⟩]⟩,
  ⟨.TNL_CTX_DATAk, 0x140, 16, 0x4, 1, 0x0, .one .core, [⟨0, 32, .rw, false, 0⟩]⟩,
  ⟨.TMT_W0, 0x80000, 16448, 0x10, 1, 0x0, .one .core, [⟨31, 1, .rw, true, 0⟩, ⟨28, 3, .rw, true, 0⟩, ⟨27, 1, .rw, true, 0⟩, ⟨26, 1, .rw, true, 0⟩, ⟨14, 12, .rw, true, 0⟩, ⟨2, 12, .rw, true, 0⟩]⟩,
  ⟨.TMT_W1, 0x80004, 16448, 0x10, 1, 0x0, .one .core, [⟨0, 10, .rw, true, 0⟩, ⟨10, 10, .rw, true, 0⟩, ⟨20, 8, .rw, true, 0⟩, ⟨28, 1, .rw, true, 0⟩, ⟨29, 1, .rw, true, 0⟩]⟩,
  ⟨.TMT_W2, 0x80008, 16448, 0x10, 1, 0x0, .one .core, [⟨0, 3, .rw, true, 0⟩, ⟨3, 5, .rw, true, 0⟩, ⟨8, 8, .rw, true, 0⟩]⟩,
  ⟨.TMT_W3, 0x8000c, 16448, 0x10, 1, 0x0, .one .core, [⟨0, 32, .rw, true, 0⟩]⟩]

/-- The registers of block TNL. -/
def regsTNL : List RegDef :=
  regsTNL0 ++ regsTNL1 ++ regsTNL2

def regsTAB00 : List RegDef := [
  ⟨.CTX_W0, 0x0, 1024, 0x40, 1, 0x0, .one .core, [⟨1, 3, .rw, false, 0⟩, ⟨4, 1, .rw, false, 0⟩, ⟨5, 1, .rw, false, 0⟩, ⟨6, 1, .rw, false, 0⟩, ⟨8, 12, .rw, false, 0⟩, ⟨20, 10, .rw, false, 0⟩, ⟨30, 2, .ro, false, 0⟩]⟩,
  ⟨.CTX_W1, 0x4, 1024, 0x40, 1, 0x0, .one .core, [⟨0, 4, .rw, false, 0⟩, ⟨4, 5, .rw, false, 0⟩, ⟨16, 5, .rw, false, 0⟩, ⟨24, 8, .rw, false, 0⟩]⟩,
  ⟨.CTX_W2, 0x8, 1024, 0x40, 1, 0x0, .one .core, [⟨0, 7, .rw, false, 0⟩, ⟨8, 4, .rw, false, 0⟩, ⟨16, 14, .rw, false, 0⟩]⟩,
  ⟨.CTX_W3, 0xc, 1024, 0x40, 1, 0x0, .one .core, [⟨0, 32, .rw, false, 0⟩]⟩,
  ⟨.CTX_W4, 0x10, 1024, 0x40, 1, 0x0, .one .core, [⟨0, 32, .ro, false, 0⟩]⟩,
  ⟨.CTX_W5, 0x14, 1024, 0x40, 1, 0x0, .one .core, [⟨0, 32, .rw, false, 0⟩]⟩,
  ⟨.CTX_W6, 0x18, 1024, 0x40, 1, 0x0, .one .core, [⟨0, 16, .ro, false, 0⟩, ⟨16, 5, .ro, false, 0⟩]⟩,
  ⟨.CTX_W7, 0x1c, 1024, 0x40, 1, 0x0, .one .core, [⟨0, 32, .ro, false, 0⟩]⟩,
  ⟨.CTX_W8, 0x20, 1024, 0x40, 1, 0x0, .one .core, [⟨0, 32, .ro, false, 0⟩]⟩,
  ⟨.CTX_W9, 0x24, 1024, 0x40, 1, 0x0, .one .core, [⟨0, 32, .ro, false, 0⟩]⟩,
  ⟨.CTX_W10, 0x28, 1024, 0x40, 1, 0x0, .one .core, [⟨0, 32, .ro, false, 0⟩]⟩,
  ⟨.CTX_W11, 0x2c, 1024, 0x40, 1, 0x0, .one .core, [⟨0, 32, .ro, false, 0⟩]⟩]

def regsTAB01 : List RegDef := [
  ⟨.CTX_W12, 0x30, 1024, 0x40, 1, 0x0, .one .core, [⟨0, 32, .ro, false, 0⟩]⟩,
  ⟨.CTX_W13, 0x34, 1024, 0x40, 1, 0x0, .one .core, [⟨0, 32, .ro, false, 0⟩]⟩,
  ⟨.CTX_W14, 0x38, 1024, 0x40, 1, 0x0, .one .core, [⟨0, 32, .ro, false, 0⟩]⟩,
  ⟨.CTX_W15, 0x3c, 1024, 0x40, 1, 0x0, .one .core, [⟨0, 32, .ro, false, 0⟩]⟩]

/-- The registers of window table TAB0. -/
def regsTAB0 : List RegDef :=
  regsTAB00 ++ regsTAB01

def regsSWC0 : List RegDef := [
  ⟨.SWC_CTL, 0x0, 1, 0x0, 1, 0x0, .one .core, [⟨0, 1, .rw, false, 0⟩, ⟨1, 1, .rw, false, 1⟩, ⟨2, 1, .rw, false, 0⟩]⟩,
  ⟨.SWC_STAT, 0x4, 1, 0x0, 1, 0x0, .one .core, [⟨0, 1, .ro, false, 0⟩, ⟨1, 1, .ro, false, 0⟩, ⟨2, 1, .ro, false, 0⟩, ⟨8, 8, .ro, false, 0xff⟩]⟩,
  ⟨.SWC_EVT, 0x8, 1, 0x0, 1, 0x0, .one .core, [⟨0, 1, .w1c, false, 0⟩, ⟨1, 1, .w1c, false, 0⟩, ⟨2, 1, .w1c, false, 0⟩, ⟨3, 1, .w1c, false, 0⟩, ⟨4, 1, .w1c, false, 0⟩, ⟨5, 1, .w1c, false, 0⟩, ⟨6, 1, .w1c, false, 0⟩]⟩,
  ⟨.SWC_EVT_EN, 0xc, 1, 0x0, 1, 0x0, .one .core, [⟨0, 1, .rw, false, 0⟩, ⟨1, 1, .rw, false, 0⟩, ⟨2, 1, .rw, false, 0⟩, ⟨3, 1, .rw, false, 0⟩, ⟨4, 1, .rw, false, 0⟩, ⟨5, 1, .rw, false, 0⟩, ⟨6, 1, .rw, false, 0⟩]⟩,
  ⟨.SWC_CELLS, 0x10, 1, 0x0, 1, 0x0, .one .core, [⟨0, 18, .ro, false, 0x20000⟩]⟩,
  ⟨.SWC_FREE, 0x14, 1, 0x0, 1, 0x0, .one .core, [⟨0, 18, .ro, false, 0⟩]⟩,
  ⟨.SWC_RSV_USED, 0x18, 1, 0x0, 1, 0x0, .one .core, [⟨0, 18, .ro, false, 0⟩]⟩,
  ⟨.SWC_SHARED_MIN, 0x1c, 1, 0x0, 1, 0x0, .one .core, [⟨0, 18, .rw, false, 0x8000⟩]⟩,
  ⟨.SWC_HEADROOM, 0x20, 1, 0x0, 1, 0x0, .one .core, [⟨0, 16, .rw, false, 0x400⟩]⟩,
  ⟨.SWC_HOLD_MAX, 0x24, 1, 0x0, 1, 0x0, .one .core, [⟨0, 16, .rw, false, 0x1000⟩]⟩,
  ⟨.SWC_HOLD_USED, 0x28, 1, 0x0, 1, 0x0, .one .core, [⟨0, 16, .ro, false, 0⟩]⟩,
  ⟨.SWC_STAGE, 0x2c, 1, 0x0, 1, 0x0, .one .core, [⟨0, 13, .rw, false, 0x1000⟩]⟩]

def regsSWC1 : List RegDef := [
  ⟨.SWC_STAGE_Q, 0x30, 1, 0x0, 1, 0x0, .one .core, [⟨0, 9, .rw, false, 0x80⟩, ⟨16, 9, .rw, false, 0x100⟩]⟩,
  ⟨.SWC_SPILL_BASE, 0x40, 1, 0x0, 1, 0x0, .one .core, [⟨0, 23, .rw, false, 0⟩]⟩,
  ⟨.SWC_SPILL_SIZE, 0x44, 1, 0x0, 1, 0x0, .one .core, [⟨0, 14, .rw, false, 0⟩]⟩,
  ⟨.SWC_SPILL_USED, 0x48, 1, 0x0, 1, 0x0, .one .core, [⟨0, 26, .ro, false, 0⟩]⟩,
  ⟨.SWC_SPILL_RATE, 0x4c, 1, 0x0, 1, 0x0, .one .core, [⟨0, 8, .rw, false, 0xc8⟩]⟩,
  ⟨.SWC_BANKn_FREE, 0x60, 8, 0x4, 1, 0x0, .one .core, [⟨0, 15, .ro, false, 0x4000⟩]⟩,
  ⟨.SWC_ADMIT_PKTS, 0x80, 1, 0x0, 1, 0x0, .one .core, [⟨0, 32, .ro, false, 0⟩]⟩,
  ⟨.SWC_DROP_PKTS, 0x84, 1, 0x0, 1, 0x0, .one .core, [⟨0, 32, .ro, false, 0⟩]⟩,
  ⟨.SWC_DROP_CELLS, 0x88, 1, 0x0, 1, 0x0, .one .core, [⟨0, 32, .ro, false, 0⟩]⟩,
  ⟨.SWC_TRUNC, 0x8c, 1, 0x0, 1, 0x0, .one .core, [⟨0, 32, .ro, false, 0⟩]⟩,
  ⟨.SWC_BUF_ECC, 0x90, 1, 0x0, 1, 0x0, .one .core, [⟨0, 32, .ro, false, 0⟩]⟩,
  ⟨.SWC_SPILL_ECC, 0x94, 1, 0x0, 1, 0x0, .one .core, [⟨0, 32, .ro, false, 0⟩]⟩]

def regsSWC2 : List RegDef := [
  ⟨.SWC_SPILL_IN, 0x98, 1, 0x0, 1, 0x0, .one .core, [⟨0, 32, .ro, false, 0⟩]⟩,
  ⟨.SWC_SPILL_OUT, 0x9c, 1, 0x0, 1, 0x0, .one .core, [⟨0, 32, .ro, false, 0⟩]⟩,
  ⟨.SWC_CT_PKTS, 0xa0, 1, 0x0, 1, 0x0, .one .core, [⟨0, 32, .ro, false, 0⟩]⟩,
  ⟨.SWC_SF_PKTS, 0xa4, 1, 0x0, 1, 0x0, .one .core, [⟨0, 32, .ro, false, 0⟩]⟩,
  ⟨.SWC_HOLD_DROP, 0xa8, 1, 0x0, 1, 0x0, .one .core, [⟨0, 32, .ro, false, 0⟩]⟩,
  ⟨.SWC_Q_IDX, 0x100, 1, 0x0, 1, 0x0, .one .core, [⟨0, 11, .rw, false, 0⟩]⟩,
  ⟨.SWC_Q_CMD, 0x104, 1, 0x0, 1, 0x0, .one .core, [⟨0, 2, .wo, false, 0⟩]⟩,
  ⟨.SWC_Q_RES, 0x108, 1, 0x0, 1, 0x0, .one .core, [⟨0, 1, .ro, false, 1⟩, ⟨1, 2, .ro, false, 0⟩]⟩,
  ⟨.SWC_Q_DATAk, 0x140, 8, 0x4, 1, 0x0, .one .core, [⟨0, 32, .rw, false, 0⟩]⟩]

/-- The registers of block SWC. -/
def regsSWC : List RegDef :=
  regsSWC0 ++ regsSWC1 ++ regsSWC2

def regsTAB10 : List RegDef := [
  ⟨.SWQ_W0, 0x0, 1216, 0x20, 1, 0x0, .one .core, [⟨0, 4, .rw, false, 0⟩, ⟨4, 1, .rw, false, 0⟩]⟩,
  ⟨.SWQ_W1, 0x4, 1216, 0x20, 1, 0x0, .one .core, [⟨0, 14, .rw, false, 0⟩]⟩,
  ⟨.SWQ_W2, 0x8, 1216, 0x20, 1, 0x0, .one .core, [⟨0, 18, .ro, false, 0⟩]⟩,
  ⟨.SWQ_W3, 0xc, 1216, 0x20, 1, 0x0, .one .core, [⟨0, 26, .ro, false, 0⟩]⟩,
  ⟨.SWQ_W4, 0x10, 1216, 0x20, 1, 0x0, .one .core, [⟨0, 32, .ro, false, 0⟩]⟩,
  ⟨.SWQ_W5, 0x14, 1216, 0x20, 1, 0x0, .one .core, [⟨0, 32, .ro, false, 0⟩]⟩,
  ⟨.SWQ_W6, 0x18, 1216, 0x20, 1, 0x0, .one .core, [⟨0, 32, .ro, false, 0⟩]⟩,
  ⟨.SWQ_W7, 0x1c, 1216, 0x20, 1, 0x0, .one .core, [⟨0, 18, .ro, false, 0⟩]⟩]

/-- The registers of window table TAB1. -/
def regsTAB1 : List RegDef :=
  regsTAB10

def regsSIL0 : List RegDef := [
  ⟨.SIL_CTL, 0x0, 1, 0x0, 1, 0x0, .one .core, [⟨0, 1, .rw, false, 0⟩, ⟨1, 1, .rw, false, 0⟩]⟩,
  ⟨.SIL_STAT, 0x4, 1, 0x0, 1, 0x0, .one .core, [⟨0, 1, .ro, false, 0⟩, ⟨1, 1, .ro, false, 0⟩]⟩,
  ⟨.SIL_BASE, 0x8, 1, 0x0, 1, 0x0, .one .core, [⟨0, 23, .rw, false, 0⟩]⟩,
  ⟨.SIL_SIZE, 0xc, 1, 0x0, 1, 0x0, .one .core, [⟨0, 5, .rw, false, 0⟩]⟩,
  ⟨.SIL_WR, 0x10, 1, 0x0, 1, 0x0, .one .core, [⟨0, 25, .ro, false, 0⟩]⟩,
  ⟨.SIL_RD, 0x14, 1, 0x0, 1, 0x0, .one .core, [⟨0, 25, .rw, false, 0⟩]⟩,
  ⟨.SIL_SEQ, 0x18, 1, 0x0, 1, 0x0, .one .core, [⟨0, 32, .ro, false, 0⟩]⟩,
  ⟨.SIL_DROP, 0x1c, 1, 0x0, 1, 0x0, .one .core, [⟨0, 32, .ro, false, 0⟩]⟩,
  ⟨.SIL_SRC_EN_LO, 0x20, 1, 0x0, 1, 0x0, .one .core, [⟨0, 32, .rw, false, 0xffffffff⟩]⟩,
  ⟨.SIL_SRC_EN_HI, 0x24, 1, 0x0, 1, 0x0, .one .core, [⟨0, 32, .rw, false, 0xffffffff⟩]⟩,
  ⟨.SIL_WATER, 0x28, 1, 0x0, 1, 0x0, .one .core, [⟨0, 25, .rw, false, 0x400⟩]⟩,
  ⟨.SIL_EVT, 0x30, 1, 0x0, 1, 0x0, .one .core, [⟨0, 1, .w1c, false, 0⟩, ⟨1, 1, .w1c, false, 0⟩, ⟨2, 1, .w1c, false, 0⟩]⟩]

def regsSIL1 : List RegDef := [
  ⟨.SIL_EVT_EN, 0x34, 1, 0x0, 1, 0x0, .one .core, [⟨0, 1, .rw, false, 0⟩, ⟨1, 1, .rw, false, 0⟩, ⟨2, 1, .rw, false, 0⟩]⟩]

/-- The registers of block SIL. -/
def regsSIL : List RegDef :=
  regsSIL0 ++ regsSIL1

def regsTMB0 : List RegDef := [
  ⟨.TMB_CLK_CTL, 0x0, 1, 0x0, 1, 0x0, .one .time, [⟨0, 2, .rw, false, 0⟩, ⟨8, 1, .ro, false, 0⟩]⟩,
  ⟨.TMB_SNAP, 0x4, 1, 0x0, 1, 0x0, .one .time, [⟨0, 1, .wo, false, 0⟩]⟩,
  ⟨.TMB_EVT, 0x8, 1, 0x0, 1, 0x0, .one .time, [⟨0, 1, .w1c, false, 0⟩, ⟨1, 1, .w1c, false, 0⟩, ⟨2, 1, .w1c, false, 0⟩, ⟨3, 1, .w1c, false, 0⟩, ⟨4, 1, .w1c, false, 0⟩, ⟨5, 1, .w1c, false, 0⟩, ⟨6, 1, .w1c, false, 0⟩, ⟨7, 1, .w1c, false, 0⟩, ⟨8, 1, .w1c, false, 0⟩]⟩,
  ⟨.TMB_EVT_EN, 0xc, 1, 0x0, 1, 0x0, .one .time, [⟨0, 1, .rw, false, 0⟩, ⟨1, 1, .rw, false, 0⟩, ⟨2, 1, .rw, false, 0⟩, ⟨3, 1, .rw, false, 0⟩, ⟨4, 1, .rw, false, 0⟩, ⟨5, 1, .rw, false, 0⟩, ⟨6, 1, .rw, false, 0⟩, ⟨7, 1, .rw, false, 0⟩, ⟨8, 1, .rw, false, 0⟩]⟩,
  ⟨.TMB_LOAD_SEC_HI, 0x10, 1, 0x0, 1, 0x0, .one .time, [⟨0, 16, .rw, false, 0⟩]⟩,
  ⟨.TMB_LOAD_SEC_LO, 0x14, 1, 0x0, 1, 0x0, .one .time, [⟨0, 32, .rw, false, 0⟩]⟩,
  ⟨.TMB_LOAD_NS, 0x18, 1, 0x0, 1, 0x0, .one .time, [⟨0, 30, .rw, false, 0⟩]⟩,
  ⟨.TMB_LOAD_CMD, 0x1c, 1, 0x0, 1, 0x0, .one .time, [⟨0, 2, .wo, false, 0⟩, ⟨8, 1, .wo, false, 0⟩]⟩,
  ⟨.TMB_SRV_CTL, 0x40, 1, 0x0, 1, 0x0, .one .time, [⟨0, 1, .rw, false, 0⟩, ⟨1, 1, .rw, false, 0⟩, ⟨2, 1, .w1s, false, 0⟩, ⟨4, 4, .rw, false, 0xf⟩, ⟨8, 4, .rw, false, 0xf⟩]⟩,
  ⟨.TMB_SRV_GAIN, 0x44, 1, 0x0, 1, 0x0, .one .time, [⟨0, 4, .rw, false, 2⟩, ⟨4, 4, .rw, false, 6⟩, ⟨8, 16, .rw, false, 0x14⟩]⟩,
  ⟨.TMB_SRV_STAT, 0x48, 1, 0x0, 1, 0x0, .one .time, [⟨0, 3, .ro, false, 0⟩, ⟨4, 4, .ro, false, 0xf⟩, ⟨16, 12, .ro, false, 0xfff⟩]⟩,
  ⟨.TMB_SRV_OFS, 0x4c, 1, 0x0, 1, 0x0, .one .time, [⟨0, 32, .ro, false, 0⟩]⟩]

def regsTMB1 : List RegDef := [
  ⟨.TMB_SRV_FREQ, 0x50, 1, 0x0, 1, 0x0, .one .time, [⟨0, 32, .ro, false, 0⟩]⟩,
  ⟨.TMB_SRV_SAMPLES, 0x54, 1, 0x0, 1, 0x0, .one .time, [⟨0, 32, .ro, false, 0⟩]⟩,
  ⟨.TMB_SRV_MISSED, 0x58, 1, 0x0, 1, 0x0, .one .time, [⟨0, 32, .ro, false, 0⟩]⟩,
  ⟨.TMB_SRV_REFUSED, 0x5c, 1, 0x0, 1, 0x0, .one .time, [⟨0, 32, .ro, false, 0⟩]⟩,
  ⟨.TMB_DLY_OUTLIER, 0x60, 1, 0x0, 1, 0x0, .one .time, [⟨0, 32, .ro, false, 0⟩]⟩,
  ⟨.TMB_PORTp_DLY, 0x80, 10, 0x8, 1, 0x0, .one .time, [⟨0, 32, .ro, false, 0⟩]⟩,
  ⟨.TMB_PORTp_ASYM, 0x84, 10, 0x8, 1, 0x0, .one .time, [⟨0, 16, .rw, false, 0⟩]⟩,
  ⟨.TMB_PPS_CTL, 0xd0, 1, 0x0, 1, 0x0, .one .time, [⟨0, 1, .rw, false, 0⟩, ⟨1, 2, .rw, false, 0⟩, ⟨4, 2, .rw, false, 0⟩, ⟨6, 1, .rw, false, 0⟩, ⟨16, 16, .rw, false, 0x64⟩]⟩,
  ⟨.TMB_PPS_OFS, 0xd4, 1, 0x0, 1, 0x0, .one .time, [⟨0, 32, .rw, false, 0⟩]⟩,
  ⟨.TMB_PPS_IN_SEC, 0xd8, 1, 0x0, 1, 0x0, .one .time, [⟨0, 32, .ro, false, 0⟩]⟩,
  ⟨.TMB_PPS_IN_NS, 0xdc, 1, 0x0, 1, 0x0, .one .time, [⟨0, 30, .ro, false, 0⟩]⟩,
  ⟨.TMB_TBn_SNAP_SEC_HI, 0x100, 4, 0x40, 1, 0x0, .one .time, [⟨0, 16, .ro, false, 0⟩]⟩]

def regsTMB2 : List RegDef := [
  ⟨.TMB_TBn_SNAP_SEC_LO, 0x104, 4, 0x40, 1, 0x0, .one .time, [⟨0, 32, .ro, false, 0⟩]⟩,
  ⟨.TMB_TBn_SNAP_NS, 0x108, 4, 0x40, 1, 0x0, .one .time, [⟨0, 30, .ro, false, 0⟩]⟩,
  ⟨.TMB_TBn_SNAP_FRAC, 0x10c, 4, 0x40, 1, 0x0, .one .time, [⟨0, 32, .ro, false, 0⟩]⟩,
  ⟨.TMB_TBn_INCR_NS, 0x110, 4, 0x40, 1, 0x0, .one .time, [⟨0, 8, .rw, false, 2⟩]⟩,
  ⟨.TMB_TBn_INCR_FRAC, 0x114, 4, 0x40, 1, 0x0, .one .time, [⟨0, 32, .rw, false, 0⟩]⟩,
  ⟨.TMB_TBn_PADJ, 0x118, 4, 0x40, 1, 0x0, .one .time, [⟨0, 32, .wo, false, 0⟩]⟩,
  ⟨.TMB_TBn_STEPLIM, 0x11c, 4, 0x40, 1, 0x0, .one .time, [⟨0, 24, .rw, false, 0x3e8⟩]⟩,
  ⟨.TMB_TBn_STAT, 0x120, 4, 0x40, 1, 0x0, .one .time, [⟨0, 1, .ro, false, 0⟩, ⟨1, 1, .ro, false, 0⟩]⟩,
  ⟨.TIO_CFGk, 0x200, 16, 0x10, 1, 0x0, .one .time, [⟨0, 3, .rw, false, 0⟩, ⟨4, 2, .rw, false, 0⟩, ⟨6, 2, .rw, false, 1⟩, ⟨8, 1, .rw, false, 0⟩, ⟨9, 1, .rw, false, 0⟩, ⟨10, 1, .rw, false, 0⟩, ⟨12, 4, .rw, false, 0⟩]⟩,
  ⟨.TIO_PERk, 0x204, 16, 0x10, 1, 0x0, .one .time, [⟨0, 30, .rw, false, 0⟩]⟩,
  ⟨.TIO_STATk, 0x208, 16, 0x10, 1, 0x0, .one .time, [⟨0, 1, .ro, false, 0⟩, ⟨8, 5, .ro, false, 0⟩, ⟨16, 5, .ro, false, 0⟩]⟩,
  ⟨.TIO_EV_SEC, 0x300, 1, 0x0, 1, 0x0, .one .time, [⟨0, 32, .rw, false, 0⟩]⟩]

def regsTMB3 : List RegDef := [
  ⟨.TIO_EV_NS, 0x304, 1, 0x0, 1, 0x0, .one .time, [⟨0, 30, .rw, false, 0⟩]⟩,
  ⟨.TIO_EV_PUSH, 0x308, 1, 0x0, 1, 0x0, .one .time, [⟨0, 4, .wo, false, 0⟩, ⟨4, 3, .wo, false, 0⟩, ⟨8, 24, .wo, false, 0⟩]⟩,
  ⟨.TIO_EV_RES, 0x30c, 1, 0x0, 1, 0x0, .one .time, [⟨0, 2, .ro, false, 0⟩]⟩,
  ⟨.TIO_CAP_SEL, 0x310, 1, 0x0, 1, 0x0, .one .time, [⟨0, 4, .rw, false, 0⟩]⟩,
  ⟨.TIO_CAP_SEC, 0x314, 1, 0x0, 1, 0x0, .one .time, [⟨0, 32, .ro, false, 0⟩]⟩,
  ⟨.TIO_CAP_NS, 0x318, 1, 0x0, 1, 0x0, .one .time, [⟨0, 30, .ro, false, 0⟩, ⟨30, 1, .ro, false, 0⟩, ⟨31, 1, .ro, false, 0⟩]⟩,
  ⟨.TIO_CAP_POP, 0x31c, 1, 0x0, 1, 0x0, .one .time, [⟨0, 1, .wo, false, 0⟩]⟩,
  ⟨.TIO_LATE, 0x320, 1, 0x0, 1, 0x0, .one .time, [⟨0, 32, .ro, false, 0⟩]⟩,
  ⟨.TIO_CAPLOST, 0x324, 1, 0x0, 1, 0x0, .one .time, [⟨0, 32, .ro, false, 0⟩]⟩]

/-- The registers of block TMB. -/
def regsTMB : List RegDef :=
  regsTMB0 ++ regsTMB1 ++ regsTMB2 ++ regsTMB3

def regsSCH0 : List RegDef := [
  ⟨.SCH_CTL, 0x0, 1, 0x0, 1, 0x0, .one .core, [⟨0, 1, .rw, false, 0⟩]⟩,
  ⟨.SCH_STAT, 0x4, 1, 0x0, 1, 0x0, .one .core, [⟨0, 1, .ro, false, 0⟩, ⟨1, 1, .ro, false, 0⟩]⟩,
  ⟨.SCH_EVT, 0x8, 1, 0x0, 1, 0x0, .one .core, [⟨0, 1, .w1c, false, 0⟩, ⟨1, 1, .w1c, false, 0⟩, ⟨2, 1, .w1c, false, 0⟩, ⟨3, 1, .w1c, false, 0⟩, ⟨4, 1, .w1c, false, 0⟩, ⟨5, 1, .w1c, false, 0⟩]⟩,
  ⟨.SCH_EVT_EN, 0xc, 1, 0x0, 1, 0x0, .one .core, [⟨0, 1, .rw, false, 0⟩, ⟨1, 1, .rw, false, 0⟩, ⟨2, 1, .rw, false, 0⟩, ⟨3, 1, .rw, false, 0⟩, ⟨4, 1, .rw, false, 0⟩, ⟨5, 1, .rw, false, 0⟩]⟩,
  ⟨.SCH_TEL_CTL, 0x10, 1, 0x0, 1, 0x0, .one .core, [⟨0, 1, .rw, false, 0⟩, ⟨1, 1, .rw, false, 0⟩, ⟨16, 16, .rw, false, 0x3e8⟩]⟩,
  ⟨.SCH_GUARD, 0x14, 1, 0x0, 1, 0x0, .one .core, [⟨0, 4, .rw, false, 1⟩, ⟨4, 4, .rw, false, 1⟩]⟩,
  ⟨.SCH_OVERSIZE_TE, 0x40, 1, 0x0, 1, 0x0, .one .core, [⟨0, 32, .ro, false, 0⟩]⟩,
  ⟨.SCH_OVERSIZE_TW, 0x44, 1, 0x0, 1, 0x0, .one .core, [⟨0, 32, .ro, false, 0⟩]⟩,
  ⟨.SCH_OVERRUN_TE, 0x48, 1, 0x0, 1, 0x0, .one .core, [⟨0, 32, .ro, false, 0⟩]⟩,
  ⟨.SCH_OVERRUN_TW, 0x4c, 1, 0x0, 1, 0x0, .one .core, [⟨0, 32, .ro, false, 0⟩]⟩,
  ⟨.SCH_TEL_OVERRUN, 0x50, 1, 0x0, 1, 0x0, .one .core, [⟨0, 32, .ro, false, 0⟩]⟩,
  ⟨.SCH_RESYNC, 0x54, 1, 0x0, 1, 0x0, .one .core, [⟨0, 32, .ro, false, 0⟩]⟩]

def regsSCH1 : List RegDef := [
  ⟨.SCH_POL_RED, 0x58, 1, 0x0, 1, 0x0, .one .core, [⟨0, 32, .ro, false, 0⟩]⟩,
  ⟨.SCH_POL_HELD, 0x5c, 1, 0x0, 1, 0x0, .one .core, [⟨0, 32, .ro, false, 0⟩]⟩,
  ⟨.SCH_GATEp_CTL, 0x100, 2, 0x40, 1, 0x0, .one .core, [⟨0, 1, .rw, true, 0⟩, ⟨1, 1, .rw, true, 0⟩, ⟨8, 1, .ro, false, 0⟩, ⟨9, 1, .ro, false, 0⟩]⟩,
  ⟨.SCH_GATEp_CYCb, 0x108, 2, 0x40, 2, 0x8, .one .core, [⟨0, 20, .rw, false, 0⟩, ⟨24, 7, .rw, false, 0⟩]⟩,
  ⟨.SCH_GATEp_OFSb, 0x10c, 2, 0x40, 2, 0x8, .one .core, [⟨0, 20, .rw, false, 0⟩]⟩,
  ⟨.SCH_GW_IDX, 0x180, 1, 0x0, 1, 0x0, .one .core, [⟨0, 6, .rw, false, 0⟩, ⟨8, 1, .rw, false, 0⟩, ⟨9, 1, .rw, false, 0⟩]⟩,
  ⟨.SCH_GW_CMD, 0x184, 1, 0x0, 1, 0x0, .one .core, [⟨0, 2, .wo, false, 0⟩]⟩,
  ⟨.SCH_GW_RES, 0x188, 1, 0x0, 1, 0x0, .one .core, [⟨0, 1, .ro, false, 1⟩, ⟨1, 2, .ro, false, 0⟩]⟩,
  ⟨.SCH_GW_DATA0, 0x18c, 1, 0x0, 1, 0x0, .one .core, [⟨0, 32, .rw, false, 0⟩]⟩,
  ⟨.SCH_GW_DATA1, 0x190, 1, 0x0, 1, 0x0, .one .core, [⟨0, 32, .rw, false, 0⟩]⟩,
  ⟨.SCH_EQMAPn_LO, 0x400, 10, 0x8, 1, 0x0, .one .core, [⟨0, 5, .rw, false, 0⟩, ⟨5, 5, .rw, false, 1⟩, ⟨10, 5, .rw, false, 2⟩, ⟨15, 5, .rw, false, 3⟩, ⟨20, 5, .rw, false, 4⟩, ⟨25, 5, .rw, false, 5⟩]⟩,
  ⟨.SCH_EQMAPn_HI, 0x404, 10, 0x8, 1, 0x0, .one .core, [⟨0, 5, .rw, false, 6⟩, ⟨5, 5, .rw, false, 7⟩, ⟨10, 5, .rw, false, 0⟩]⟩]

def regsSCH2 : List RegDef := [
  ⟨.QCFG_W0, 0x10000, 1216, 0x10, 1, 0x0, .one .core, [⟨0, 2, .rw, true, 0⟩, ⟨4, 4, .rw, true, 0⟩, ⟨8, 4, .rw, true, 0⟩, ⟨12, 1, .rw, true, 0⟩, ⟨13, 1, .rw, true, 0⟩, ⟨14, 1, .rw, true, 0⟩, ⟨16, 16, .rw, true, 0⟩]⟩,
  ⟨.QCFG_W1, 0x10004, 1216, 0x10, 1, 0x0, .one .core, [⟨0, 19, .rw, true, 0⟩]⟩,
  ⟨.QCFG_W2, 0x10008, 1216, 0x10, 1, 0x0, .one .core, [⟨0, 24, .rw, true, 0⟩]⟩,
  ⟨.QCFG_W3, 0x1000c, 1216, 0x10, 1, 0x0, .one .core, []⟩,
  ⟨.SCH_QS_IDX, 0x200, 1, 0x0, 1, 0x0, .one .core, [⟨0, 11, .rw, false, 0⟩]⟩,
  ⟨.SCH_QS_CMD, 0x204, 1, 0x0, 1, 0x0, .one .core, [⟨0, 2, .wo, false, 0⟩]⟩,
  ⟨.SCH_QS_RES, 0x208, 1, 0x0, 1, 0x0, .one .core, [⟨0, 1, .ro, false, 1⟩]⟩,
  ⟨.SCH_QS_DATAk, 0x240, 16, 0x4, 1, 0x0, .one .core, [⟨0, 32, .ro, false, 0⟩]⟩,
  ⟨.POL_W0, 0x20000, 1024, 0x20, 1, 0x0, .one .core, [⟨0, 1, .rw, true, 0⟩]⟩,
  ⟨.POL_W1, 0x20004, 1024, 0x20, 1, 0x0, .one .core, [⟨0, 19, .rw, true, 0⟩]⟩,
  ⟨.POL_W2, 0x20008, 1024, 0x20, 1, 0x0, .one .core, [⟨0, 19, .rw, true, 0⟩]⟩,
  ⟨.POL_W3, 0x2000c, 1024, 0x20, 1, 0x0, .one .core, [⟨0, 24, .rw, true, 0⟩]⟩]

def regsSCH3 : List RegDef := [
  ⟨.POL_W4, 0x20010, 1024, 0x20, 1, 0x0, .one .core, [⟨0, 24, .rw, true, 0⟩]⟩,
  ⟨.POL_W5, 0x20014, 1024, 0x20, 1, 0x0, .one .core, []⟩,
  ⟨.POL_W6, 0x20018, 1024, 0x20, 1, 0x0, .one .core, []⟩,
  ⟨.POL_W7, 0x2001c, 1024, 0x20, 1, 0x0, .one .core, []⟩,
  ⟨.SCH_PS_IDX, 0x300, 1, 0x0, 1, 0x0, .one .core, [⟨0, 10, .rw, false, 0⟩]⟩,
  ⟨.SCH_PS_CMD, 0x304, 1, 0x0, 1, 0x0, .one .core, [⟨0, 2, .wo, false, 0⟩]⟩,
  ⟨.SCH_PS_RES, 0x308, 1, 0x0, 1, 0x0, .one .core, [⟨0, 1, .ro, false, 1⟩]⟩,
  ⟨.SCH_PS_DATAk, 0x340, 6, 0x4, 1, 0x0, .one .core, [⟨0, 32, .ro, false, 0⟩]⟩]

/-- The registers of block SCH. -/
def regsSCH : List RegDef :=
  regsSCH0 ++ regsSCH1 ++ regsSCH2 ++ regsSCH3

def regsTAB20 : List RegDef := [
  ⟨.QS_W0, 0x0, 1216, 0x40, 1, 0x0, .one .core, [⟨0, 32, .ro, false, 0⟩]⟩,
  ⟨.QS_W1, 0x4, 1216, 0x40, 1, 0x0, .one .core, [⟨0, 16, .ro, false, 0⟩]⟩,
  ⟨.QS_W2, 0x8, 1216, 0x40, 1, 0x0, .one .core, [⟨0, 32, .ro, false, 0⟩]⟩,
  ⟨.QS_W3, 0xc, 1216, 0x40, 1, 0x0, .one .core, [⟨0, 1, .ro, false, 0⟩, ⟨1, 1, .ro, false, 0⟩, ⟨2, 1, .ro, false, 0⟩, ⟨3, 1, .ro, false, 0⟩, ⟨4, 1, .ro, false, 0⟩, ⟨5, 1, .ro, false, 0⟩]⟩,
  ⟨.QS_W4, 0x10, 1216, 0x40, 1, 0x0, .one .core, [⟨0, 32, .ro, false, 0⟩]⟩,
  ⟨.QS_W5, 0x14, 1216, 0x40, 1, 0x0, .one .core, [⟨0, 32, .ro, false, 0⟩]⟩,
  ⟨.QS_W6, 0x18, 1216, 0x40, 1, 0x0, .one .core, [⟨0, 32, .ro, false, 0⟩]⟩,
  ⟨.QS_W7, 0x1c, 1216, 0x40, 1, 0x0, .one .core, [⟨0, 32, .ro, false, 0⟩]⟩,
  ⟨.QS_W8, 0x20, 1216, 0x40, 1, 0x0, .one .core, [⟨0, 32, .ro, false, 0⟩]⟩,
  ⟨.QS_W9, 0x24, 1216, 0x40, 1, 0x0, .one .core, [⟨0, 27, .ro, false, 0⟩]⟩,
  ⟨.QS_W10, 0x28, 1216, 0x40, 1, 0x0, .one .core, [⟨0, 32, .ro, false, 0⟩]⟩,
  ⟨.QS_W11, 0x2c, 1216, 0x40, 1, 0x0, .one .core, [⟨0, 27, .ro, false, 0⟩]⟩]

def regsTAB21 : List RegDef := [
  ⟨.QS_W12, 0x30, 1216, 0x40, 1, 0x0, .one .core, [⟨0, 32, .ro, false, 0⟩]⟩,
  ⟨.QS_W13, 0x34, 1216, 0x40, 1, 0x0, .one .core, [⟨0, 32, .ro, false, 0⟩]⟩,
  ⟨.QS_W14, 0x38, 1216, 0x40, 1, 0x0, .one .core, [⟨0, 32, .ro, false, 0⟩]⟩]

/-- The registers of window table TAB2. -/
def regsTAB2 : List RegDef :=
  regsTAB20 ++ regsTAB21

def regsTAB30 : List RegDef := [
  ⟨.PS_W0, 0x0, 1024, 0x20, 1, 0x0, .one .core, [⟨0, 32, .ro, false, 0⟩]⟩,
  ⟨.PS_W1, 0x4, 1024, 0x20, 1, 0x0, .one .core, [⟨0, 32, .ro, false, 0⟩]⟩,
  ⟨.PS_W2, 0x8, 1024, 0x20, 1, 0x0, .one .core, [⟨0, 32, .ro, false, 0⟩]⟩,
  ⟨.PS_W3, 0xc, 1024, 0x20, 1, 0x0, .one .core, [⟨0, 32, .ro, false, 0⟩]⟩,
  ⟨.PS_W4, 0x10, 1024, 0x20, 1, 0x0, .one .core, [⟨0, 32, .ro, false, 0⟩]⟩,
  ⟨.PS_W5, 0x14, 1024, 0x20, 1, 0x0, .one .core, [⟨0, 32, .ro, false, 0⟩]⟩]

/-- The registers of window table TAB3. -/
def regsTAB3 : List RegDef :=
  regsTAB30

def regsTAB40 : List RegDef := [
  ⟨.GENT_W0, 0x0, 4, 0x200, 64, 0x8, .one .core, [⟨0, 20, .rw, false, 0⟩, ⟨31, 1, .rw, false, 0⟩]⟩,
  ⟨.GENT_W1, 0x4, 4, 0x200, 64, 0x8, .one .core, [⟨0, 16, .rw, false, 0⟩]⟩]

/-- The registers of window table TAB4. -/
def regsTAB4 : List RegDef :=
  regsTAB40

def regsACD0 : List RegDef := [
  ⟨.ACD_CTL, 0x0, 1, 0x0, 1, 0x0, .one .core, [⟨0, 1, .rw, false, 0⟩, ⟨1, 5, .rw, false, 0⟩, ⟨6, 1, .rw, false, 1⟩]⟩,
  ⟨.ACD_STAT, 0x4, 1, 0x0, 1, 0x0, .one .core, [⟨0, 5, .ro, false, 0⟩, ⟨5, 1, .ro, false, 0⟩]⟩,
  ⟨.ACD_EVT, 0x8, 1, 0x0, 1, 0x0, .one .core, [⟨0, 1, .w1c, false, 0⟩, ⟨1, 1, .w1c, false, 0⟩, ⟨2, 1, .w1c, false, 0⟩, ⟨3, 1, .w1c, false, 0⟩, ⟨4, 1, .w1c, false, 0⟩, ⟨5, 1, .w1c, false, 0⟩]⟩,
  ⟨.ACD_EVT_EN, 0xc, 1, 0x0, 1, 0x0, .one .core, [⟨0, 1, .rw, false, 0⟩, ⟨1, 1, .rw, false, 0⟩, ⟨2, 1, .rw, false, 0⟩, ⟨3, 1, .rw, false, 0⟩, ⟨4, 1, .rw, false, 0⟩, ⟨5, 1, .rw, false, 0⟩]⟩,
  ⟨.ACD_EPOCH, 0x10, 1, 0x0, 1, 0x0, .one .core, [⟨0, 32, .rw, true, 0⟩]⟩,
  ⟨.ACD_GO_LEAD, 0x14, 1, 0x0, 1, 0x0, .one .core, [⟨0, 16, .rw, false, 0x1f4⟩]⟩,
  ⟨.ACD_LINE_EXPECT, 0x18, 1, 0x0, 1, 0x0, .one .core, [⟨0, 12, .rw, false, 0⟩]⟩,
  ⟨.ACD_LINE_ID, 0x1c, 1, 0x0, 1, 0x0, .one .core, [⟨0, 32, .ro, false, 0⟩]⟩,
  ⟨.ACD_LINE_STAT, 0x20, 1, 0x0, 1, 0x0, .one .core, [⟨0, 3, .ro, false, 0⟩, ⟨3, 1, .ro, false, 0⟩, ⟨4, 4, .ro, false, 0⟩, ⟨8, 4, .ro, false, 0xf⟩, ⟨16, 12, .ro, false, 0⟩]⟩,
  ⟨.ACD_LINE_INFO, 0x24, 1, 0x0, 1, 0x0, .one .core, [⟨0, 16, .ro, false, 0⟩, ⟨16, 12, .ro, false, 0xfff⟩]⟩,
  ⟨.ACD_SERIAL, 0x28, 1, 0x0, 1, 0x0, .one .core, [⟨0, 20, .ro, false, 0⟩]⟩,
  ⟨.ACD_LINE_FENCED, 0x2c, 1, 0x0, 1, 0x0, .one .core, [⟨0, 12, .ro, false, 0⟩]⟩]

def regsACD1 : List RegDef := [
  ⟨.ACD_COMMITS, 0x40, 1, 0x0, 1, 0x0, .one .core, [⟨0, 32, .ro, false, 0⟩]⟩,
  ⟨.ACD_LINE_COMMITS, 0x44, 1, 0x0, 1, 0x0, .one .core, [⟨0, 32, .ro, false, 0⟩]⟩,
  ⟨.ACD_ABORTc, 0x48, 9, 0x4, 1, 0x0, .one .core, [⟨0, 32, .ro, false, 0⟩]⟩,
  ⟨.ACD_DUPMSG, 0x6c, 1, 0x0, 1, 0x0, .one .core, [⟨0, 32, .ro, false, 0⟩]⟩,
  ⟨.ACD_SLOTn_STAT, 0x100, 16, 0x8, 1, 0x0, .one .core, [⟨0, 3, .ro, false, 0⟩, ⟨3, 2, .ro, false, 0⟩, ⟨5, 2, .ro, false, 0⟩, ⟨7, 5, .ro, false, 0⟩, ⟨12, 4, .ro, false, 0⟩, ⟨16, 9, .ro, false, 0⟩]⟩,
  ⟨.ACD_SLOTn_ID, 0x104, 16, 0x8, 1, 0x0, .one .core, [⟨0, 32, .ro, false, 0⟩]⟩]

/-- The registers of block ACD. -/
def regsACD : List RegDef :=
  regsACD0 ++ regsACD1

def regsSYN0 : List RegDef := [
  ⟨.SYN_STAT, 0x0, 1, 0x0, 1, 0x0, .one .ctl, [⟨0, 8, .ro, false, 0xff⟩]⟩,
  ⟨.SYN_THn_CTL, 0x100, 32, 0x10, 1, 0x0, .one .ctl, [⟨0, 1, .w1s, false, 0⟩, ⟨1, 1, .w1s, false, 0⟩, ⟨2, 1, .w1s, false, 0⟩]⟩,
  ⟨.SYN_THn_PC_LO, 0x104, 32, 0x10, 1, 0x0, .one .ctl, [⟨0, 32, .rw, false, 0⟩]⟩,
  ⟨.SYN_THn_PC_HI, 0x108, 32, 0x10, 1, 0x0, .one .ctl, [⟨0, 8, .rw, false, 0⟩]⟩,
  ⟨.SYN_THn_STAT, 0x10c, 32, 0x10, 1, 0x0, .one .ctl, [⟨0, 2, .ro, false, 0⟩, ⟨4, 4, .ro, false, 0⟩, ⟨8, 1, .ro, false, 0⟩]⟩,
  ⟨.SYN_EVQq_CFG, 0x400, 32, 0x10, 1, 0x0, .one .ctl, [⟨0, 17, .rw, false, 0⟩, ⟨20, 4, .rw, false, 0⟩, ⟨31, 1, .rw, false, 0⟩]⟩,
  ⟨.SYN_EVQq_WR, 0x404, 32, 0x10, 1, 0x0, .one .ctl, [⟨0, 12, .ro, false, 0⟩]⟩,
  ⟨.SYN_EVQq_RD, 0x408, 32, 0x10, 1, 0x0, .one .ctl, [⟨0, 12, .rw, false, 0⟩]⟩,
  ⟨.SYN_EVQq_DROP, 0x40c, 32, 0x10, 1, 0x0, .one .ctl, [⟨0, 32, .ro, false, 0⟩]⟩,
  ⟨.SYN_PQq_BASE, 0x800, 32, 0x10, 1, 0x0, .one .ctl, [⟨0, 23, .rw, false, 0⟩, ⟨31, 1, .rw, false, 0⟩]⟩,
  ⟨.SYN_PQq_CFG, 0x804, 32, 0x10, 1, 0x0, .one .ctl, [⟨0, 4, .rw, false, 0⟩, ⟨8, 5, .rw, false, 0⟩, ⟨16, 1, .rw, false, 0⟩]⟩,
  ⟨.SYN_PQq_WR, 0x808, 32, 0x10, 1, 0x0, .one .ctl, [⟨0, 14, .ro, false, 0⟩]⟩]

def regsSYN1 : List RegDef := [
  ⟨.SYN_PQq_RD, 0x80c, 32, 0x10, 1, 0x0, .one .ctl, [⟨0, 14, .rw, false, 0⟩]⟩,
  ⟨.SYN_EVROUTEk, 0x600, 16, 0x4, 1, 0x0, .one .ctl, [⟨0, 5, .rw, false, 0⟩, ⟨7, 1, .rw, false, 0⟩, ⟨8, 5, .rw, false, 0⟩, ⟨15, 1, .rw, false, 0⟩, ⟨16, 5, .rw, false, 0⟩, ⟨23, 1, .rw, false, 0⟩, ⟨24, 5, .rw, false, 0⟩, ⟨31, 1, .rw, false, 0⟩]⟩,
  ⟨.SYN_EV_UNROUTED, 0x640, 1, 0x0, 1, 0x0, .one .ctl, [⟨0, 32, .ro, false, 0⟩]⟩,
  ⟨.SYN_PERF_IDX, 0xc00, 1, 0x0, 1, 0x0, .one .ctl, [⟨0, 5, .rw, false, 0⟩, ⟨8, 4, .rw, false, 0⟩]⟩,
  ⟨.SYN_PERF_LO, 0xc04, 1, 0x0, 1, 0x0, .one .ctl, [⟨0, 32, .ro, false, 0⟩]⟩,
  ⟨.SYN_PERF_HI, 0xc08, 1, 0x0, 1, 0x0, .one .ctl, [⟨0, 32, .ro, false, 0⟩]⟩]

/-- The registers of block SYN. -/
def regsSYN : List RegDef :=
  regsSYN0 ++ regsSYN1

def regsETH0 : List RegDef := [
  ⟨.ETH_CTL, 0x0, 10, 0x1000, 1, 0x0, .eth, [⟨0, 1, .rw, false, 0⟩, ⟨1, 3, .rw, false, 0⟩, ⟨4, 1, .rw, false, 1⟩, ⟨5, 1, .rw, false, 1⟩, ⟨8, 14, .rw, false, 0x2400⟩]⟩,
  ⟨.ETH_STAT, 0x4, 10, 0x1000, 1, 0x0, .eth, [⟨0, 1, .ro, false, 0⟩, ⟨1, 1, .ro, false, 0⟩, ⟨2, 1, .ro, false, 0⟩, ⟨3, 1, .ro, false, 0⟩]⟩,
  ⟨.ETH_EVT, 0x8, 10, 0x1000, 1, 0x0, .eth, [⟨0, 1, .w1c, false, 0⟩, ⟨1, 1, .w1c, false, 0⟩, ⟨2, 1, .w1c, false, 0⟩, ⟨3, 1, .w1c, false, 0⟩]⟩,
  ⟨.ETH_EVT_EN, 0xc, 10, 0x1000, 1, 0x0, .eth, [⟨0, 1, .rw, false, 0⟩, ⟨1, 1, .rw, false, 0⟩, ⟨2, 1, .rw, false, 0⟩, ⟨3, 1, .rw, false, 0⟩]⟩,
  ⟨.ETH_VLAN, 0x10, 10, 0x1000, 1, 0x0, .eth, [⟨0, 12, .rw, false, 1⟩, ⟨16, 16, .rw, false, 0⟩]⟩,
  ⟨.ETH_TS_CTL, 0x14, 10, 0x1000, 1, 0x0, .eth, [⟨0, 2, .rw, false, 0⟩, ⟨2, 1, .rw, false, 0⟩]⟩,
  ⟨.ETH_TS_RXDLY, 0x18, 10, 0x1000, 1, 0x0, .eth, [⟨0, 16, .rw, false, 0⟩]⟩,
  ⟨.ETH_TS_TXDLY, 0x1c, 10, 0x1000, 1, 0x0, .eth, [⟨0, 16, .rw, false, 0⟩]⟩,
  ⟨.ETH_MAC_LO, 0x20, 10, 0x1000, 1, 0x0, .eth, [⟨0, 32, .rw, false, 0⟩]⟩,
  ⟨.ETH_MAC_HI, 0x24, 10, 0x1000, 1, 0x0, .eth, [⟨0, 16, .rw, false, 0⟩]⟩,
  ⟨.ETH_HOST_CTL, 0x28, 10, 0x1000, 1, 0x0, .eth, [⟨0, 1, .rw, false, 0⟩, ⟨1, 1, .rw, false, 0⟩, ⟨8, 5, .rw, false, 0⟩]⟩,
  ⟨.ETH_TSF_INFO, 0x30, 10, 0x1000, 1, 0x0, .eth, [⟨0, 16, .ro, false, 0⟩, ⟨16, 4, .ro, false, 0⟩, ⟨20, 8, .ro, false, 0⟩, ⟨31, 1, .ro, false, 0⟩]⟩]

def regsETH1 : List RegDef := [
  ⟨.ETH_TSF_SEC, 0x34, 10, 0x1000, 1, 0x0, .eth, [⟨0, 32, .ro, false, 0⟩]⟩,
  ⟨.ETH_TSF_NS, 0x38, 10, 0x1000, 1, 0x0, .eth, [⟨0, 30, .ro, false, 0⟩]⟩,
  ⟨.ETH_TSF_POP, 0x3c, 10, 0x1000, 1, 0x0, .eth, [⟨0, 1, .wo, false, 0⟩]⟩,
  ⟨.ETH_HTX_BASE, 0x40, 10, 0x1000, 1, 0x0, .eth, [⟨0, 23, .rw, false, 0⟩, ⟨31, 1, .rw, false, 0⟩]⟩,
  ⟨.ETH_HTX_CFG, 0x44, 10, 0x1000, 1, 0x0, .eth, [⟨0, 4, .rw, false, 0⟩, ⟨8, 5, .rw, false, 0⟩, ⟨16, 1, .rw, false, 0⟩]⟩,
  ⟨.ETH_HTX_WR, 0x48, 10, 0x1000, 1, 0x0, .eth, [⟨0, 10, .rw, false, 0⟩]⟩,
  ⟨.ETH_HTX_RD, 0x4c, 10, 0x1000, 1, 0x0, .eth, [⟨0, 10, .ro, false, 0⟩]⟩,
  ⟨.ETH_RX_FRAMES, 0x80, 10, 0x1000, 1, 0x0, .eth, [⟨0, 32, .ro, false, 0⟩]⟩,
  ⟨.ETH_RX_FCS, 0x84, 10, 0x1000, 1, 0x0, .eth, [⟨0, 32, .ro, false, 0⟩]⟩,
  ⟨.ETH_RX_RUNT, 0x88, 10, 0x1000, 1, 0x0, .eth, [⟨0, 32, .ro, false, 0⟩]⟩,
  ⟨.ETH_RX_LONG, 0x8c, 10, 0x1000, 1, 0x0, .eth, [⟨0, 32, .ro, false, 0⟩]⟩,
  ⟨.ETH_RX_NOMAP, 0x90, 10, 0x1000, 1, 0x0, .eth, [⟨0, 32, .ro, false, 0⟩]⟩]

def regsETH2 : List RegDef := [
  ⟨.ETH_RX_NOCTX, 0x94, 10, 0x1000, 1, 0x0, .eth, [⟨0, 32, .ro, false, 0⟩]⟩,
  ⟨.ETH_RX_HOST, 0x98, 10, 0x1000, 1, 0x0, .eth, [⟨0, 32, .ro, false, 0⟩]⟩,
  ⟨.ETH_RX_PAUSE, 0x9c, 10, 0x1000, 1, 0x0, .eth, [⟨0, 32, .ro, false, 0⟩]⟩,
  ⟨.ETH_TX_FRAMES, 0xa0, 10, 0x1000, 1, 0x0, .eth, [⟨0, 32, .ro, false, 0⟩]⟩,
  ⟨.ETH_TX_LONG, 0xa4, 10, 0x1000, 1, 0x0, .eth, [⟨0, 32, .ro, false, 0⟩]⟩,
  ⟨.ETH_TX_LINKDOWN, 0xa8, 10, 0x1000, 1, 0x0, .eth, [⟨0, 32, .ro, false, 0⟩]⟩,
  ⟨.ETH_TSF_LOST, 0xac, 10, 0x1000, 1, 0x0, .eth, [⟨0, 32, .ro, false, 0⟩]⟩,
  ⟨.ETH_PTP_IPV6, 0xb0, 10, 0x1000, 1, 0x0, .eth, [⟨0, 32, .ro, false, 0⟩]⟩,
  ⟨.ETH_MAPk, 0x800, 10, 0x1000, 64, 0x4, .eth, [⟨0, 12, .rw, true, 0⟩, ⟨12, 10, .rw, true, 0⟩, ⟨22, 2, .rw, true, 0⟩, ⟨24, 3, .rw, true, 0⟩, ⟨31, 1, .rw, true, 0⟩]⟩]

/-- The registers of block ETH. -/
def regsETH : List RegDef :=
  regsETH0 ++ regsETH1 ++ regsETH2

def regsSTO0 : List RegDef := [
  ⟨.STO_CTL, 0x0, 1, 0x0, 1, 0x0, .one .core, [⟨0, 1, .rw, false, 0⟩]⟩,
  ⟨.STO_DW_BASE, 0x10, 1, 0x0, 1, 0x0, .one .core, [⟨0, 23, .rw, false, 0⟩]⟩,
  ⟨.STO_DW_SIZE, 0x14, 1, 0x0, 1, 0x0, .one .core, [⟨0, 10, .rw, false, 0⟩]⟩,
  ⟨.STO_WORK_BASE, 0x18, 1, 0x0, 1, 0x0, .one .core, [⟨0, 23, .rw, false, 0⟩]⟩,
  ⟨.STO_CMD_TO, 0x1c, 1, 0x0, 1, 0x0, .one .core, [⟨0, 16, .rw, false, 0x7d0⟩]⟩,
  ⟨.STO_Sn_CTL, 0x1000, 2, 0x1000, 1, 0x0, .one .pcie, [⟨0, 1, .rw, false, 0⟩, ⟨1, 2, .rw, false, 3⟩, ⟨3, 1, .rw, false, 0⟩]⟩,
  ⟨.STO_Sn_STAT, 0x1004, 2, 0x1000, 1, 0x0, .one .pcie, [⟨0, 3, .ro, false, 0⟩, ⟨4, 2, .ro, false, 0⟩, ⟨6, 2, .ro, false, 0⟩]⟩,
  ⟨.STO_Sn_EVT, 0x1008, 2, 0x1000, 1, 0x0, .one .pcie, [⟨0, 1, .w1c, false, 0⟩, ⟨1, 1, .w1c, false, 0⟩, ⟨2, 1, .w1c, false, 0⟩, ⟨3, 1, .w1c, false, 0⟩]⟩,
  ⟨.STO_Sn_EVT_EN, 0x100c, 2, 0x1000, 1, 0x0, .one .pcie, [⟨0, 1, .rw, false, 0⟩, ⟨1, 1, .rw, false, 0⟩, ⟨2, 1, .rw, false, 0⟩, ⟨3, 1, .rw, false, 0⟩]⟩,
  ⟨.STO_Sn_REQS, 0x1040, 2, 0x1000, 1, 0x0, .one .core, [⟨0, 32, .ro, false, 0⟩]⟩,
  ⟨.STO_Sn_DUP_CACHED, 0x1044, 2, 0x1000, 1, 0x0, .one .core, [⟨0, 32, .ro, false, 0⟩]⟩,
  ⟨.STO_Sn_DUP_INFLIGHT, 0x1048, 2, 0x1000, 1, 0x0, .one .core, [⟨0, 32, .ro, false, 0⟩]⟩]

def regsSTO1 : List RegDef := [
  ⟨.STO_Sn_STALE, 0x104c, 2, 0x1000, 1, 0x0, .one .core, [⟨0, 32, .ro, false, 0⟩]⟩,
  ⟨.STO_Sn_TIMEOUTS, 0x1050, 2, 0x1000, 1, 0x0, .one .core, [⟨0, 32, .ro, false, 0⟩]⟩,
  ⟨.STO_Sn_ERRORS, 0x1054, 2, 0x1000, 1, 0x0, .one .core, [⟨0, 32, .ro, false, 0⟩]⟩,
  ⟨.STO_Sn_AER_CORR, 0x1058, 2, 0x1000, 1, 0x0, .one .pcie, [⟨0, 32, .ro, false, 0⟩]⟩,
  ⟨.STO_Sn_AER_UNCORR, 0x105c, 2, 0x1000, 1, 0x0, .one .pcie, [⟨0, 32, .ro, false, 0⟩]⟩,
  ⟨.STO_Sn_QPk, 0x1200, 2, 0x1000, 64, 0x4, .one .core, [⟨0, 10, .rw, false, 0⟩, ⟨30, 1, .ro, false, 0⟩, ⟨31, 1, .rw, false, 0⟩]⟩]

/-- The registers of block STO. -/
def regsSTO : List RegDef :=
  regsSTO0 ++ regsSTO1

def regsPDC0 : List RegDef := [
  ⟨.PDC_CTL, 0x0, 1, 0x0, 1, 0x0, .one .aon, [⟨0, 1, .rw, false, 0⟩]⟩,
  ⟨.PDC_NODE, 0x4, 1, 0x0, 1, 0x0, .one .aon, [⟨0, 16, .rw, false, 0⟩]⟩,
  ⟨.PDC_ALLOC, 0x8, 1, 0x0, 1, 0x0, .one .aon, [⟨0, 16, .ro, false, 0⟩]⟩,
  ⟨.PDC_RECLAIMS, 0x10, 1, 0x0, 1, 0x0, .one .aon, [⟨0, 32, .ro, false, 0⟩]⟩,
  ⟨.PDC_SHEDS, 0x14, 1, 0x0, 1, 0x0, .one .aon, [⟨0, 32, .ro, false, 0⟩]⟩,
  ⟨.PDC_SRC_SPRk, 0x100, 7, 0x4, 1, 0x0, .one .aon, [⟨0, 1, .rw, false, 0⟩, ⟨1, 2, .rw, false, 0⟩, ⟨3, 10, .rw, false, 0⟩, ⟨13, 10, .rw, false, 0⟩, ⟨23, 8, .rw, false, 0⟩]⟩,
  ⟨.PDC_SRC_EPRk, 0x120, 4, 0x4, 1, 0x0, .one .aon, [⟨0, 1, .rw, false, 0⟩, ⟨1, 2, .rw, false, 0⟩, ⟨3, 10, .rw, false, 0⟩, ⟨13, 10, .rw, false, 0⟩, ⟨23, 8, .rw, false, 0⟩]⟩,
  ⟨.PDC_SNKk, 0x140, 4, 0x4, 1, 0x0, .one .aon, [⟨0, 1, .rw, false, 0⟩, ⟨1, 2, .rw, false, 0⟩, ⟨3, 10, .rw, false, 0⟩, ⟨13, 10, .rw, false, 0⟩, ⟨23, 8, .rw, false, 0⟩]⟩,
  ⟨.PDC_Pn_CFG, 0x1000, 8, 0x100, 1, 0x0, .one .aon, [⟨0, 1, .rw, false, 0⟩, ⟨1, 2, .rw, false, 2⟩, ⟨3, 2, .rw, false, 0⟩, ⟨5, 2, .rw, false, 2⟩, ⟨8, 3, .rw, false, 7⟩, ⟨11, 1, .rw, false, 1⟩, ⟨12, 1, .rw, false, 0⟩, ⟨13, 1, .rw, false, 0⟩, ⟨14, 1, .rw, false, 0⟩, ⟨15, 1, .rw, false, 0⟩]⟩,
  ⟨.PDC_Pn_LIMIT, 0x1004, 8, 0x100, 1, 0x0, .one .aon, [⟨0, 16, .rw, false, 0x960⟩, ⟨16, 16, .rw, false, 0x19⟩]⟩,
  ⟨.PDC_Pn_REG, 0x1008, 8, 0x100, 1, 0x0, .one .aon, [⟨0, 7, .rw, false, 0⟩, ⟨8, 8, .rw, false, 0⟩]⟩,
  ⟨.PDC_Pn_STAT, 0x100c, 8, 0x100, 1, 0x0, .one .aon, [⟨0, 3, .ro, false, 0⟩, ⟨3, 1, .ro, false, 0⟩, ⟨4, 1, .ro, false, 0⟩, ⟨5, 1, .ro, false, 0⟩, ⟨6, 2, .ro, false, 0⟩, ⟨8, 2, .ro, false, 0⟩, ⟨10, 1, .ro, false, 0⟩, ⟨11, 1, .ro, false, 0⟩, ⟨12, 2, .ro, false, 0⟩, ⟨14, 2, .ro, false, 0⟩, ⟨16, 1, .ro, false, 0⟩, ⟨17, 2, .ro, false, 0⟩, ⟨19, 1, .ro, false, 0⟩, ⟨20, 3, .ro, false, 0⟩]⟩]

def regsPDC1 : List RegDef := [
  ⟨.PDC_Pn_CONTRACT, 0x1010, 8, 0x100, 1, 0x0, .one .aon, [⟨0, 12, .ro, false, 0⟩, ⟨12, 10, .ro, false, 0⟩, ⟨22, 4, .ro, false, 0⟩, ⟨26, 2, .ro, false, 0⟩, ⟨28, 1, .ro, false, 0⟩]⟩,
  ⟨.PDC_Pn_ALLOC, 0x1014, 8, 0x100, 1, 0x0, .one .aon, [⟨0, 16, .ro, false, 0⟩]⟩,
  ⟨.PDC_Pn_VBUS, 0x1018, 8, 0x100, 1, 0x0, .one .aon, [⟨0, 16, .ro, false, 0⟩, ⟨16, 16, .ro, false, 0⟩]⟩,
  ⟨.PDC_Pn_EVT, 0x1020, 8, 0x100, 1, 0x0, .one .aon, [⟨0, 1, .w1c, false, 0⟩, ⟨1, 1, .w1c, false, 0⟩, ⟨2, 1, .w1c, false, 0⟩, ⟨3, 1, .w1c, false, 0⟩, ⟨4, 1, .w1c, false, 0⟩, ⟨5, 1, .w1c, false, 0⟩, ⟨6, 1, .w1c, false, 0⟩, ⟨7, 1, .w1c, false, 0⟩, ⟨8, 1, .w1c, false, 0⟩, ⟨9, 1, .w1c, false, 0⟩, ⟨10, 1, .w1c, false, 0⟩, ⟨11, 1, .w1c, false, 0⟩]⟩,
  ⟨.PDC_Pn_EVT_EN, 0x1024, 8, 0x100, 1, 0x0, .one .aon, [⟨0, 1, .rw, false, 0⟩, ⟨1, 1, .rw, false, 0⟩, ⟨2, 1, .rw, false, 0⟩, ⟨3, 1, .rw, false, 0⟩, ⟨4, 1, .rw, false, 0⟩, ⟨5, 1, .rw, false, 0⟩, ⟨6, 1, .rw, false, 0⟩, ⟨7, 1, .rw, false, 0⟩, ⟨8, 1, .rw, false, 0⟩, ⟨9, 1, .rw, false, 0⟩, ⟨10, 1, .rw, false, 0⟩, ⟨11, 1, .rw, false, 0⟩]⟩,
  ⟨.PDC_Pn_CMD, 0x1028, 8, 0x100, 1, 0x0, .one .aon, [⟨0, 4, .wo, false, 0⟩]⟩,
  ⟨.PDC_Pn_CMDRES, 0x102c, 8, 0x100, 1, 0x0, .one .aon, [⟨0, 1, .ro, false, 1⟩, ⟨1, 3, .ro, false, 0⟩]⟩,
  ⟨.PDC_Pn_MSG_TX, 0x1040, 8, 0x100, 1, 0x0, .one .aon, [⟨0, 32, .ro, false, 0⟩]⟩,
  ⟨.PDC_Pn_RETRY, 0x1044, 8, 0x100, 1, 0x0, .one .aon, [⟨0, 32, .ro, false, 0⟩]⟩,
  ⟨.PDC_Pn_HRESET, 0x1048, 8, 0x100, 1, 0x0, .one .aon, [⟨0, 32, .ro, false, 0⟩]⟩,
  ⟨.PDC_Pn_DIT, 0x104c, 8, 0x100, 1, 0x0, .one .aon, [⟨0, 32, .ro, false, 0⟩]⟩,
  ⟨.PDC_Pn_VFAULT, 0x1050, 8, 0x100, 1, 0x0, .one .aon, [⟨0, 32, .ro, false, 0⟩]⟩]

/-- The registers of block PDC. -/
def regsPDC : List RegDef :=
  regsPDC0 ++ regsPDC1

def regsDSO0 : List RegDef := [
  ⟨.DSO_CTL, 0x0, 1, 0x0, 1, 0x0, .one (.pix 0), [⟨0, 1, .rw, false, 0⟩, ⟨1, 1, .ro, false, 0⟩]⟩,
  ⟨.DSO_Dn_CTL, 0x1000, 2, 0x1000, 1, 0x0, .pix, [⟨0, 1, .rw, false, 0⟩, ⟨1, 4, .rw, false, 0⟩, ⟨5, 2, .rw, false, 2⟩, ⟨8, 2, .rw, false, 3⟩, ⟨10, 1, .rw, false, 0⟩, ⟨11, 1, .rw, false, 0⟩, ⟨12, 1, .rw, false, 1⟩]⟩,
  ⟨.DSO_Dn_STAT, 0x1004, 2, 0x1000, 1, 0x0, .pix, [⟨0, 3, .ro, false, 0⟩, ⟨4, 2, .ro, false, 0⟩, ⟨6, 2, .ro, false, 0⟩, ⟨8, 1, .ro, false, 0⟩]⟩,
  ⟨.DSO_Dn_EVT, 0x1008, 2, 0x1000, 1, 0x0, .pix, [⟨0, 1, .w1c, false, 0⟩, ⟨1, 1, .w1c, false, 0⟩, ⟨2, 1, .w1c, false, 0⟩, ⟨3, 1, .w1c, false, 0⟩, ⟨4, 1, .w1c, false, 0⟩, ⟨5, 1, .w1c, false, 0⟩, ⟨6, 1, .w1c, false, 0⟩, ⟨7, 1, .w1c, false, 0⟩]⟩,
  ⟨.DSO_Dn_EVT_EN, 0x100c, 2, 0x1000, 1, 0x0, .pix, [⟨0, 1, .rw, false, 0⟩, ⟨1, 1, .rw, false, 0⟩, ⟨2, 1, .rw, false, 0⟩, ⟨3, 1, .rw, false, 0⟩, ⟨4, 1, .rw, false, 0⟩, ⟨5, 1, .rw, false, 0⟩, ⟨6, 1, .rw, false, 0⟩, ⟨7, 1, .rw, false, 0⟩]⟩,
  ⟨.DSO_Dn_HTIM0, 0x1010, 2, 0x1000, 1, 0x0, .pix, [⟨0, 14, .rw, false, 0⟩, ⟨16, 14, .rw, false, 0⟩]⟩,
  ⟨.DSO_Dn_HTIM1, 0x1014, 2, 0x1000, 1, 0x0, .pix, [⟨0, 14, .rw, false, 0⟩, ⟨16, 14, .rw, false, 0⟩, ⟨31, 1, .rw, false, 0⟩]⟩,
  ⟨.DSO_Dn_VTIM0, 0x1018, 2, 0x1000, 1, 0x0, .pix, [⟨0, 14, .rw, false, 0⟩, ⟨16, 14, .rw, false, 0⟩]⟩,
  ⟨.DSO_Dn_VTIM1, 0x101c, 2, 0x1000, 1, 0x0, .pix, [⟨0, 14, .rw, false, 0⟩, ⟨16, 14, .rw, false, 0⟩, ⟨31, 1, .rw, false, 0⟩]⟩,
  ⟨.DSO_Dn_PCLK, 0x1020, 2, 0x1000, 1, 0x0, .pix, [⟨0, 20, .rw, false, 0⟩]⟩,
  ⟨.DSO_Dn_BG, 0x1024, 2, 0x1000, 1, 0x0, .pix, [⟨0, 30, .rw, true, 0⟩]⟩,
  ⟨.DSO_Dn_COMMIT, 0x1028, 2, 0x1000, 1, 0x0, .pix, [⟨0, 1, .rw, true, 0⟩]⟩]

def regsDSO1 : List RegDef := [
  ⟨.DSO_Dn_LT, 0x102c, 2, 0x1000, 1, 0x0, .pix, [⟨0, 20, .rw, false, 0x4e20⟩]⟩,
  ⟨.DSO_Dn_COVER, 0x1030, 2, 0x1000, 1, 0x0, .pix, [⟨0, 20, .ro, false, 0xfffff⟩]⟩,
  ⟨.DSO_Dn_FCOUNT, 0x1040, 2, 0x1000, 1, 0x0, .pix, [⟨0, 32, .ro, false, 0⟩]⟩,
  ⟨.DSO_Dn_FLIPTS_SEC, 0x1044, 2, 0x1000, 1, 0x0, .pix, [⟨0, 32, .ro, false, 0⟩]⟩,
  ⟨.DSO_Dn_FLIPTS_NS, 0x1048, 2, 0x1000, 1, 0x0, .pix, [⟨0, 30, .ro, false, 0⟩]⟩,
  ⟨.DSO_Dn_APPLIED, 0x104c, 2, 0x1000, 1, 0x0, .pix, [⟨0, 32, .ro, false, 0⟩]⟩,
  ⟨.DSO_Dn_UNDERRUN, 0x1050, 2, 0x1000, 1, 0x0, .pix, [⟨0, 32, .ro, false, 0⟩]⟩,
  ⟨.DSO_Dn_ABORTS, 0x1054, 2, 0x1000, 1, 0x0, .pix, [⟨0, 32, .ro, false, 0⟩]⟩,
  ⟨.DSO_Dn_TELOST, 0x1058, 2, 0x1000, 1, 0x0, .pix, [⟨0, 32, .ro, false, 0⟩]⟩,
  ⟨.DSO_Dn_Ll_CFG, 0x1100, 2, 0x1000, 4, 0x40, .pix, [⟨0, 1, .rw, true, 0⟩, ⟨1, 2, .rw, true, 0⟩, ⟨3, 1, .rw, true, 0⟩, ⟨4, 1, .rw, true, 0⟩, ⟨8, 8, .rw, true, 0⟩]⟩,
  ⟨.DSO_Dn_Ll_POS, 0x1104, 2, 0x1000, 4, 0x40, .pix, [⟨0, 14, .rw, true, 0⟩, ⟨16, 14, .rw, true, 0⟩]⟩,
  ⟨.DSO_Dn_Ll_SIZE, 0x1108, 2, 0x1000, 4, 0x40, .pix, [⟨0, 14, .rw, true, 0⟩, ⟨16, 14, .rw, true, 0⟩]⟩]

def regsDSO2 : List RegDef := [
  ⟨.DSO_Dn_Ll_STRIDE, 0x110c, 2, 0x1000, 4, 0x40, .pix, [⟨0, 18, .rw, true, 0⟩]⟩,
  ⟨.DSO_Dn_Ll_FB0_LO, 0x1110, 2, 0x1000, 4, 0x40, .pix, [⟨0, 32, .rw, true, 0⟩]⟩,
  ⟨.DSO_Dn_Ll_FB0_HI, 0x1114, 2, 0x1000, 4, 0x40, .pix, [⟨0, 8, .rw, true, 0⟩]⟩,
  ⟨.DSO_Dn_Ll_FB1_LO, 0x1118, 2, 0x1000, 4, 0x40, .pix, [⟨0, 32, .rw, true, 0⟩]⟩,
  ⟨.DSO_Dn_Ll_FB1_HI, 0x111c, 2, 0x1000, 4, 0x40, .pix, [⟨0, 8, .rw, true, 0⟩]⟩,
  ⟨.DSO_IN_CTL, 0x8000, 1, 0x0, 1, 0x0, .one .core, [⟨0, 1, .rw, false, 0⟩]⟩,
  ⟨.DSO_IN_REQ, 0x8004, 1, 0x0, 1, 0x0, .one .core, [⟨0, 10, .wo, false, 0⟩, ⟨12, 2, .wo, false, 0⟩]⟩,
  ⟨.DSO_IN_FRAMEn, 0x8010, 2, 0x4, 1, 0x0, .one .core, [⟨0, 32, .ro, false, 0⟩]⟩,
  ⟨.DSO_IN_PKTSn, 0x8100, 2, 0x40, 1, 0x0, .one .core, [⟨0, 32, .ro, false, 0⟩]⟩,
  ⟨.DSO_IN_FLIPSn, 0x8104, 2, 0x40, 1, 0x0, .one .core, [⟨0, 32, .ro, false, 0⟩]⟩,
  ⟨.DSO_IN_MALFORMEDn, 0x8108, 2, 0x40, 1, 0x0, .one .core, [⟨0, 32, .ro, false, 0⟩]⟩,
  ⟨.DSO_IN_BOUNDSn, 0x810c, 2, 0x40, 1, 0x0, .one .core, [⟨0, 32, .ro, false, 0⟩]⟩]

def regsDSO3 : List RegDef := [
  ⟨.DSO_IN_REFRESHn, 0x8110, 2, 0x40, 1, 0x0, .one .core, [⟨0, 32, .ro, false, 0⟩]⟩,
  ⟨.DSO_IN_DMGOVFn, 0x8114, 2, 0x40, 1, 0x0, .one .core, [⟨0, 32, .ro, false, 0⟩]⟩,
  ⟨.DSO_IN_COPYPXn, 0x8118, 2, 0x40, 1, 0x0, .one .core, [⟨0, 32, .ro, false, 0⟩]⟩,
  ⟨.DSO_PAL, 0x9000, 8, 0x400, 256, 0x4, .one .core, [⟨0, 32, .rw, false, 0⟩]⟩]

/-- The registers of block DSO. -/
def regsDSO : List RegDef :=
  regsDSO0 ++ regsDSO1 ++ regsDSO2 ++ regsDSO3

def regsUSB0 : List RegDef := [
  ⟨.USB_CTL, 0x0, 1, 0x0, 1, 0x0, .one .usb, [⟨0, 1, .rw, false, 0⟩, ⟨1, 1, .rw, false, 1⟩, ⟨2, 1, .rw, false, 1⟩, ⟨3, 1, .w1s, false, 0⟩, ⟨8, 5, .rw, false, 0⟩]⟩,
  ⟨.USB_STAT, 0x4, 1, 0x0, 1, 0x0, .one .usb, [⟨0, 2, .ro, false, 0⟩, ⟨2, 1, .ro, false, 0⟩, ⟨3, 1, .ro, false, 0⟩, ⟨4, 1, .ro, false, 0⟩, ⟨5, 2, .ro, false, 0⟩, ⟨7, 1, .ro, false, 0⟩, ⟨8, 7, .ro, false, 0⟩, ⟨16, 1, .ro, false, 0⟩]⟩,
  ⟨.USB_EVT, 0x8, 1, 0x0, 1, 0x0, .one .usb, [⟨0, 1, .w1c, false, 0⟩, ⟨1, 1, .w1c, false, 0⟩, ⟨2, 1, .w1c, false, 0⟩, ⟨3, 1, .w1c, false, 0⟩, ⟨4, 1, .w1c, false, 0⟩, ⟨5, 1, .w1c, false, 0⟩, ⟨6, 1, .w1c, false, 0⟩, ⟨7, 1, .w1c, false, 0⟩, ⟨8, 1, .w1c, false, 0⟩, ⟨9, 1, .w1c, false, 0⟩, ⟨10, 1, .w1c, false, 0⟩, ⟨11, 1, .w1c, false, 0⟩]⟩,
  ⟨.USB_EVT_EN, 0xc, 1, 0x0, 1, 0x0, .one .usb, [⟨0, 1, .rw, false, 0⟩, ⟨1, 1, .rw, false, 0⟩, ⟨2, 1, .rw, false, 0⟩, ⟨3, 1, .rw, false, 0⟩, ⟨4, 1, .rw, false, 0⟩, ⟨5, 1, .rw, false, 0⟩, ⟨6, 1, .rw, false, 0⟩, ⟨7, 1, .rw, false, 0⟩, ⟨8, 1, .rw, false, 0⟩, ⟨9, 1, .rw, false, 0⟩, ⟨10, 1, .rw, false, 0⟩, ⟨11, 1, .rw, false, 0⟩]⟩,
  ⟨.USB_SETUP0, 0x10, 1, 0x0, 1, 0x0, .one .usb, [⟨0, 8, .ro, false, 0⟩, ⟨8, 8, .ro, false, 0⟩, ⟨16, 16, .ro, false, 0⟩]⟩,
  ⟨.USB_SETUP1, 0x14, 1, 0x0, 1, 0x0, .one .usb, [⟨0, 16, .ro, false, 0⟩, ⟨16, 16, .ro, false, 0⟩]⟩,
  ⟨.USB_CTRL_STAT, 0x18, 1, 0x0, 1, 0x0, .one .usb, [⟨0, 8, .ro, false, 0⟩, ⟨8, 3, .ro, false, 0⟩, ⟨16, 11, .ro, false, 0⟩]⟩,
  ⟨.USB_CTRL_CMD, 0x1c, 1, 0x0, 1, 0x0, .one .usb, [⟨0, 2, .wo, false, 0⟩, ⟨8, 8, .wo, false, 0⟩, ⟨16, 11, .wo, false, 0⟩]⟩,
  ⟨.USB_CTRL_TO, 0x20, 1, 0x0, 1, 0x0, .one .usb, [⟨0, 13, .rw, false, 0x1194⟩]⟩,
  ⟨.USB_CBUFk, 0x1000, 256, 0x4, 1, 0x0, .one .usb, [⟨0, 32, .rw, false, 0⟩]⟩,
  ⟨.USB_WAKE, 0x30, 1, 0x0, 1, 0x0, .one .usb, [⟨0, 8, .ro, false, 0⟩, ⟨8, 8, .rw, true, 0xff⟩]⟩,
  ⟨.USB_AUD_CFG, 0x34, 1, 0x0, 1, 0x0, .one .usb, [⟨0, 1, .rw, true, 1⟩]⟩]

def regsUSB1 : List RegDef := [
  ⟨.USB_GWg_CFG, 0x40, 8, 0x4, 1, 0x0, .one .usb, [⟨0, 10, .rw, true, 0⟩, ⟨12, 2, .rw, true, 0⟩, ⟨15, 1, .rw, true, 0⟩]⟩,
  ⟨.USB_NOTE_Wk, 0x80, 4, 0x4, 1, 0x0, .one .usb, [⟨0, 32, .rw, false, 0⟩]⟩,
  ⟨.USB_NOTE_PUSH, 0x90, 1, 0x0, 1, 0x0, .one .usb, [⟨0, 1, .wo, false, 0⟩]⟩,
  ⟨.USB_NOTE_STAT, 0x94, 1, 0x0, 1, 0x0, .one .usb, [⟨0, 6, .ro, false, 0⟩]⟩,
  ⟨.USB_GWg_OUT, 0x100, 8, 0x10, 1, 0x0, .one .usb, [⟨0, 32, .ro, false, 0⟩]⟩,
  ⟨.USB_GWg_IN, 0x104, 8, 0x10, 1, 0x0, .one .usb, [⟨0, 32, .ro, false, 0⟩]⟩,
  ⟨.USB_GWg_NAKS, 0x108, 8, 0x10, 1, 0x0, .one .usb, [⟨0, 32, .ro, false, 0⟩]⟩,
  ⟨.USB_GWg_DROPS, 0x10c, 8, 0x10, 1, 0x0, .one .usb, [⟨0, 32, .ro, false, 0⟩]⟩,
  ⟨.USB_HPp, 0x200, 15, 0x4, 1, 0x0, .one .usb, [⟨0, 1, .ro, false, 0⟩, ⟨1, 1, .ro, false, 0⟩, ⟨2, 1, .ro, false, 0⟩, ⟨3, 1, .ro, false, 0⟩, ⟨4, 1, .ro, false, 0⟩, ⟨5, 2, .ro, false, 0⟩, ⟨8, 1, .rw, false, 0⟩]⟩,
  ⟨.USB_HP_OC, 0x240, 1, 0x0, 1, 0x0, .one .usb, [⟨0, 32, .ro, false, 0⟩]⟩,
  ⟨.USB_NOTE_LOST, 0x244, 1, 0x0, 1, 0x0, .one .usb, [⟨0, 32, .ro, false, 0⟩]⟩,
  ⟨.AUD_CTL, 0x2000, 1, 0x0, 1, 0x0, .one .aud, [⟨0, 1, .rw, false, 0⟩]⟩]

def regsUSB2 : List RegDef := [
  ⟨.AUD_STAT, 0x2004, 1, 0x0, 1, 0x0, .one .aud, [⟨0, 11, .ro, false, 0⟩, ⟨16, 1, .ro, false, 0⟩]⟩,
  ⟨.AUD_FB, 0x2008, 1, 0x0, 1, 0x0, .one .aud, [⟨0, 32, .ro, false, 0x60000⟩]⟩,
  ⟨.AUD_RATE, 0x200c, 1, 0x0, 1, 0x0, .one .aud, [⟨0, 32, .ro, false, 0⟩]⟩,
  ⟨.AUD_UNDER, 0x2010, 1, 0x0, 1, 0x0, .one .aud, [⟨0, 32, .ro, false, 0⟩]⟩,
  ⟨.AUD_OVER, 0x2014, 1, 0x0, 1, 0x0, .one .aud, [⟨0, 32, .ro, false, 0⟩]⟩]

/-- The registers of block USB. -/
def regsUSB : List RegDef :=
  regsUSB0 ++ regsUSB1 ++ regsUSB2

def regsHSW0 : List RegDef := [
  ⟨.HSW_CTL, 0x0, 1, 0x0, 1, 0x0, .one .aon, [⟨0, 1, .rw, false, 1⟩, ⟨1, 1, .rw, false, 1⟩, ⟨2, 1, .rw, false, 1⟩, ⟨3, 1, .rw, false, 0⟩, ⟨4, 1, .rw, false, 1⟩]⟩,
  ⟨.HSW_STAT, 0x4, 1, 0x0, 1, 0x0, .one .aon, [⟨0, 4, .ro, false, 1⟩, ⟨4, 1, .ro, false, 0⟩, ⟨5, 1, .ro, false, 0⟩, ⟨6, 1, .ro, false, 0⟩, ⟨7, 1, .ro, false, 0⟩, ⟨8, 1, .ro, false, 0⟩, ⟨9, 1, .ro, false, 0⟩, ⟨10, 1, .ro, false, 0⟩, ⟨11, 1, .ro, false, 0⟩, ⟨12, 1, .ro, false, 0⟩]⟩,
  ⟨.HSW_EVT, 0x8, 1, 0x0, 1, 0x0, .one .aon, [⟨0, 1, .w1c, false, 0⟩, ⟨1, 1, .w1c, false, 0⟩, ⟨2, 1, .w1c, false, 0⟩, ⟨3, 1, .w1c, false, 0⟩, ⟨4, 1, .w1c, false, 0⟩, ⟨5, 1, .w1c, false, 0⟩, ⟨6, 1, .w1c, false, 0⟩, ⟨7, 1, .w1c, false, 0⟩, ⟨8, 1, .w1c, false, 0⟩, ⟨9, 1, .w1c, false, 0⟩, ⟨10, 1, .w1c, false, 0⟩]⟩,
  ⟨.HSW_EVT_EN, 0xc, 1, 0x0, 1, 0x0, .one .aon, [⟨0, 1, .rw, false, 0⟩, ⟨1, 1, .rw, false, 0⟩, ⟨2, 1, .rw, false, 0⟩, ⟨3, 1, .rw, false, 0⟩, ⟨4, 1, .rw, false, 0⟩, ⟨5, 1, .rw, false, 0⟩, ⟨6, 1, .rw, false, 0⟩, ⟨7, 1, .rw, false, 0⟩, ⟨8, 1, .rw, false, 0⟩, ⟨9, 1, .rw, false, 0⟩, ⟨10, 1, .rw, false, 0⟩]⟩,
  ⟨.HSW_CMD, 0x10, 1, 0x0, 1, 0x0, .one .aon, [⟨0, 3, .wo, false, 0⟩]⟩,
  ⟨.HSW_ILIM, 0x20, 1, 0x0, 1, 0x0, .one .aon, [⟨0, 10, .rw, false, 0xfa⟩, ⟨16, 10, .rw, false, 0x1f4⟩]⟩,
  ⟨.HSW_TIMER, 0x24, 1, 0x0, 1, 0x0, .one .aon, [⟨0, 9, .rw, false, 0x64⟩, ⟨16, 10, .rw, false, 0x64⟩]⟩,
  ⟨.HSW_RETRY, 0x28, 1, 0x0, 1, 0x0, .one .aon, [⟨0, 8, .rw, false, 8⟩]⟩,
  ⟨.HSW_RAMP, 0x2c, 1, 0x0, 1, 0x0, .one .aon, [⟨0, 8, .rw, false, 0xa⟩]⟩,
  ⟨.HSW_UVOV_A, 0x30, 1, 0x0, 1, 0x0, .one .aon, [⟨0, 12, .rw, false, 0x3e8⟩, ⟨16, 12, .rw, false, 0xc4e⟩]⟩,
  ⟨.HSW_UVOV_B, 0x34, 1, 0x0, 1, 0x0, .one .aon, [⟨0, 12, .rw, false, 0x3e8⟩, ⟨16, 12, .rw, false, 0xc4e⟩]⟩,
  ⟨.HSW_RSENSE, 0x38, 1, 0x0, 1, 0x0, .one .aon, [⟨0, 20, .rw, false, 0x9c4⟩]⟩]

def regsHSW1 : List RegDef := [
  ⟨.HSW_VA, 0x40, 1, 0x0, 1, 0x0, .one .aon, [⟨0, 12, .ro, false, 0⟩]⟩,
  ⟨.HSW_VB, 0x44, 1, 0x0, 1, 0x0, .one .aon, [⟨0, 12, .ro, false, 0⟩]⟩,
  ⟨.HSW_VOUT, 0x48, 1, 0x0, 1, 0x0, .one .aon, [⟨0, 12, .ro, false, 0⟩]⟩,
  ⟨.HSW_I, 0x4c, 1, 0x0, 1, 0x0, .one .aon, [⟨0, 16, .ro, false, 0⟩, ⟨16, 16, .ro, false, 0⟩]⟩,
  ⟨.HSW_P, 0x50, 1, 0x0, 1, 0x0, .one .aon, [⟨0, 32, .ro, false, 0⟩]⟩,
  ⟨.HSW_E_LO, 0x54, 1, 0x0, 1, 0x0, .one .aon, [⟨0, 32, .ro, false, 0⟩]⟩,
  ⟨.HSW_E_HI, 0x58, 1, 0x0, 1, 0x0, .one .aon, [⟨0, 32, .ro, false, 0⟩]⟩,
  ⟨.HSW_HIST, 0x60, 1, 0x0, 1, 0x0, .one .aon, [⟨0, 8, .ro, false, 0⟩, ⟨8, 8, .ro, false, 0⟩, ⟨16, 16, .ro, false, 0⟩]⟩,
  ⟨.HSW_FAST_TRIPS, 0x80, 1, 0x0, 1, 0x0, .one .aon, [⟨0, 32, .ro, false, 0⟩]⟩,
  ⟨.HSW_SLOW_TRIPS, 0x84, 1, 0x0, 1, 0x0, .one .aon, [⟨0, 32, .ro, false, 0⟩]⟩,
  ⟨.HSW_RETRIES, 0x88, 1, 0x0, 1, 0x0, .one .aon, [⟨0, 32, .ro, false, 0⟩]⟩,
  ⟨.HSW_SWITCHOVERS, 0x8c, 1, 0x0, 1, 0x0, .one .aon, [⟨0, 32, .ro, false, 0⟩]⟩]

def regsHSW2 : List RegDef := [
  ⟨.HSW_SEATLOSS, 0x90, 1, 0x0, 1, 0x0, .one .aon, [⟨0, 32, .ro, false, 0⟩]⟩]

/-- The registers of block HSW. -/
def regsHSW : List RegDef :=
  regsHSW0 ++ regsHSW1 ++ regsHSW2

def regsPWR0 : List RegDef := [
  ⟨.PWR_Dd_REQ, 0x100, 13, 0x8, 1, 0x0, .one .aon, [⟨0, 2, .rw, false, 0⟩]⟩,
  ⟨.PWR_Dd_STAT, 0x104, 13, 0x8, 1, 0x0, .one .aon, [⟨0, 2, .ro, false, 0⟩, ⟨2, 3, .ro, false, 0⟩, ⟨5, 1, .ro, false, 0⟩, ⟨8, 2, .ro, false, 3⟩, ⟨12, 2, .ro, false, 0⟩]⟩,
  ⟨.PWR_EVT, 0x0, 1, 0x0, 1, 0x0, .one .aon, [⟨0, 1, .w1c, false, 0⟩, ⟨1, 1, .w1c, false, 0⟩, ⟨2, 1, .w1c, false, 0⟩, ⟨3, 1, .w1c, false, 0⟩, ⟨4, 1, .w1c, false, 0⟩, ⟨5, 1, .w1c, false, 0⟩, ⟨6, 1, .w1c, false, 0⟩]⟩,
  ⟨.PWR_EVT_EN, 0x4, 1, 0x0, 1, 0x0, .one .aon, [⟨0, 1, .rw, false, 0⟩, ⟨1, 1, .rw, false, 0⟩, ⟨2, 1, .rw, false, 0⟩, ⟨3, 1, .rw, false, 0⟩, ⟨4, 1, .rw, false, 0⟩, ⟨5, 1, .rw, false, 0⟩, ⟨6, 1, .rw, false, 0⟩]⟩,
  ⟨.PWR_AVS_CTL, 0x10, 1, 0x0, 1, 0x0, .one .aon, [⟨0, 10, .rw, false, 0x320⟩, ⟨16, 10, .rw, false, 0x28a⟩]⟩,
  ⟨.PWR_AVS_STAT, 0x14, 1, 0x0, 1, 0x0, .one .aon, [⟨0, 10, .ro, false, 0⟩, ⟨16, 1, .ro, false, 0⟩, ⟨17, 1, .ro, false, 0⟩]⟩,
  ⟨.PWR_WTIMER, 0x18, 1, 0x0, 1, 0x0, .one .aon, [⟨0, 32, .rw, false, 0⟩]⟩,
  ⟨.PWR_WSRCs, 0x20, 8, 0x4, 1, 0x0, .one .aon, [⟨0, 13, .rw, false, 0⟩, ⟨31, 1, .rw, false, 0⟩]⟩,
  ⟨.PWR_WLATCH, 0x40, 1, 0x0, 1, 0x0, .one .aon, [⟨0, 8, .ro, false, 0⟩]⟩,
  ⟨.PWR_WAKE_SW, 0x44, 1, 0x0, 1, 0x0, .one .aon, [⟨0, 1, .wo, false, 0⟩]⟩,
  ⟨.PWR_PMB_CFG, 0x50, 1, 0x0, 1, 0x0, .one .aon, [⟨0, 1, .rw, false, 1⟩, ⟨1, 1, .rw, false, 1⟩]⟩,
  ⟨.PWR_RAILk, 0x60, 8, 0x4, 1, 0x0, .one .aon, [⟨0, 7, .rw, false, 0⟩, ⟨8, 8, .rw, false, 0⟩, ⟨16, 12, .rw, false, 0⟩, ⟨31, 1, .rw, false, 0⟩]⟩]

def regsPWR1 : List RegDef := [
  ⟨.PWR_RAIL_STAT, 0x80, 1, 0x0, 1, 0x0, .one .aon, [⟨0, 8, .ro, false, 0⟩, ⟨8, 8, .ro, false, 0⟩]⟩,
  ⟨.PWR_AVS_RETRIES, 0x90, 1, 0x0, 1, 0x0, .one .aon, [⟨0, 32, .ro, false, 0⟩]⟩,
  ⟨.PWR_PMB_RETRIES, 0x94, 1, 0x0, 1, 0x0, .one .aon, [⟨0, 32, .ro, false, 0⟩]⟩,
  ⟨.PWR_PMB_FAILS, 0x98, 1, 0x0, 1, 0x0, .one .aon, [⟨0, 32, .ro, false, 0⟩]⟩,
  ⟨.PWR_ALERTS, 0x9c, 1, 0x0, 1, 0x0, .one .aon, [⟨0, 32, .ro, false, 0⟩]⟩,
  ⟨.PWR_WAKES, 0xa0, 1, 0x0, 1, 0x0, .one .aon, [⟨0, 32, .ro, false, 0⟩]⟩,
  ⟨.PWR_PADREL, 0x8000, 1, 0x0, 1, 0x0, .one .ctl, [⟨1, 12, .w1s, false, 0⟩]⟩,
  ⟨.PWR_DRAIN_TO, 0x8004, 1, 0x0, 1, 0x0, .one .ctl, [⟨0, 16, .rw, false, 0x64⟩]⟩]

/-- The registers of block PWR. -/
def regsPWR : List RegDef :=
  regsPWR0 ++ regsPWR1

def regsKEY0 : List RegDef := [
  ⟨.KEY_CTL, 0x0, 1, 0x0, 1, 0x0, .one .core, [⟨0, 1, .rw, false, 1⟩, ⟨8, 5, .rw, false, 0⟩]⟩,
  ⟨.KEY_STAT, 0x4, 1, 0x0, 1, 0x0, .one .core, [⟨0, 1, .ro, false, 0⟩, ⟨1, 1, .ro, false, 0⟩, ⟨2, 1, .ro, false, 0⟩, ⟨3, 1, .ro, false, 0⟩, ⟨8, 5, .ro, false, 0⟩]⟩,
  ⟨.KEY_EVT, 0x8, 1, 0x0, 1, 0x0, .one .core, [⟨0, 1, .w1c, false, 0⟩, ⟨1, 1, .w1c, false, 0⟩, ⟨2, 1, .w1c, false, 0⟩, ⟨3, 1, .w1c, false, 0⟩, ⟨4, 1, .w1c, false, 0⟩, ⟨5, 1, .w1c, false, 0⟩]⟩,
  ⟨.KEY_EVT_EN, 0xc, 1, 0x0, 1, 0x0, .one .core, [⟨0, 1, .rw, false, 0⟩, ⟨1, 1, .rw, false, 0⟩, ⟨2, 1, .rw, false, 0⟩, ⟨3, 1, .rw, false, 0⟩, ⟨4, 1, .rw, false, 0⟩, ⟨5, 1, .rw, false, 0⟩]⟩,
  ⟨.KEY_ROOTGEN, 0x14, 1, 0x0, 1, 0x0, .one .core, [⟨0, 6, .ro, false, 0⟩]⟩,
  ⟨.KEY_LINE, 0x18, 1, 0x0, 1, 0x0, .one .core, [⟨0, 6, .rw, false, 0⟩, ⟨7, 1, .ro, false, 0⟩]⟩,
  ⟨.KEY_REKEY, 0x1c, 1, 0x0, 1, 0x0, .one .core, [⟨0, 5, .rw, false, 0x17⟩, ⟨8, 5, .rw, false, 0x1f⟩]⟩,
  ⟨.KEY_SUBMIT, 0x10, 1, 0x0, 1, 0x0, .one .core, []⟩,
  ⟨.KEY_SLOT_IDX, 0x40, 1, 0x0, 1, 0x0, .one .core, [⟨0, 6, .rw, false, 0⟩]⟩,
  ⟨.KEY_SLOT_CMD, 0x44, 1, 0x0, 1, 0x0, .one .core, [⟨0, 2, .wo, false, 0⟩]⟩,
  ⟨.KEY_SLOT_RES, 0x48, 1, 0x0, 1, 0x0, .one .core, [⟨0, 1, .ro, false, 1⟩]⟩,
  ⟨.KEY_SLOT_DATAk, 0x60, 8, 0x4, 1, 0x0, .one .core, [⟨0, 32, .ro, false, 0⟩]⟩]

def regsKEY1 : List RegDef := [
  ⟨.KEY_SEGp_STAT, 0x200, 10, 0x8, 1, 0x0, .one .core, [⟨0, 1, .ro, false, 0⟩, ⟨1, 1, .ro, false, 0⟩, ⟨2, 1, .ro, false, 0⟩, ⟨8, 6, .ro, false, 0⟩]⟩,
  ⟨.KEY_SEGp_AGE, 0x204, 10, 0x8, 1, 0x0, .one .core, [⟨0, 32, .ro, false, 0⟩]⟩,
  ⟨.KEY_OPS, 0x300, 1, 0x0, 1, 0x0, .one .core, [⟨0, 32, .ro, false, 0⟩]⟩,
  ⟨.KEY_REFUSED, 0x304, 1, 0x0, 1, 0x0, .one .core, [⟨0, 32, .ro, false, 0⟩]⟩,
  ⟨.KEY_AUTHFAIL, 0x308, 1, 0x0, 1, 0x0, .one .core, [⟨0, 32, .ro, false, 0⟩]⟩,
  ⟨.KEY_ORPHANS, 0x30c, 1, 0x0, 1, 0x0, .one .core, [⟨0, 32, .ro, false, 0⟩]⟩,
  ⟨.KEY_REKEYS, 0x310, 1, 0x0, 1, 0x0, .one .core, [⟨0, 32, .ro, false, 0⟩]⟩,
  ⟨.KEY_BADSUB, 0x314, 1, 0x0, 1, 0x0, .one .core, [⟨0, 32, .ro, false, 0⟩]⟩]

/-- The registers of block KEY. -/
def regsKEY : List RegDef :=
  regsKEY0 ++ regsKEY1

def regsTAB50 : List RegDef := [
  ⟨.KSLOT_W0, 0x0, 64, 0x20, 1, 0x0, .one .core, [⟨0, 3, .ro, false, 0⟩, ⟨3, 3, .ro, false, 0⟩, ⟨6, 1, .ro, false, 0⟩, ⟨8, 6, .ro, false, 0⟩, ⟨16, 16, .ro, false, 0⟩]⟩,
  ⟨.KSLOT_W1, 0x4, 64, 0x20, 1, 0x0, .one .core, [⟨0, 32, .ro, false, 0⟩]⟩,
  ⟨.KSLOT_W2, 0x8, 64, 0x20, 1, 0x0, .one .core, [⟨0, 16, .ro, false, 0⟩, ⟨16, 16, .ro, false, 0⟩]⟩,
  ⟨.KSLOT_W3, 0xc, 64, 0x20, 1, 0x0, .one .core, [⟨0, 32, .ro, false, 0⟩]⟩,
  ⟨.KSLOT_W4, 0x10, 64, 0x20, 1, 0x0, .one .core, [⟨0, 32, .ro, false, 0⟩]⟩,
  ⟨.KSLOT_W5, 0x14, 64, 0x20, 1, 0x0, .one .core, [⟨0, 16, .ro, false, 0⟩]⟩,
  ⟨.KSLOT_W6, 0x18, 64, 0x20, 1, 0x0, .one .core, [⟨0, 32, .ro, false, 0⟩]⟩,
  ⟨.KSLOT_W7, 0x1c, 64, 0x20, 1, 0x0, .one .core, [⟨0, 8, .ro, false, 0⟩]⟩]

/-- The registers of window table TAB5. -/
def regsTAB5 : List RegDef :=
  regsTAB50

def regsREL0 : List RegDef := [
  ⟨.REL_EVT, 0x8, 1, 0x0, 1, 0x0, .one .core, [⟨0, 1, .w1c, false, 0⟩, ⟨1, 1, .w1c, false, 0⟩, ⟨2, 1, .w1c, false, 0⟩, ⟨3, 1, .w1c, false, 0⟩, ⟨4, 1, .w1c, false, 0⟩]⟩,
  ⟨.REL_EVT_EN, 0xc, 1, 0x0, 1, 0x0, .one .core, [⟨0, 1, .rw, false, 0⟩, ⟨1, 1, .rw, false, 0⟩, ⟨2, 1, .rw, false, 0⟩, ⟨3, 1, .rw, false, 0⟩, ⟨4, 1, .rw, false, 0⟩]⟩,
  ⟨.REL_PARITY, 0x10, 1, 0x0, 1, 0x0, .one .core, [⟨0, 32, .ro, false, 0⟩]⟩,
  ⟨.REL_TMT_UE, 0x14, 1, 0x0, 1, 0x0, .one .core, [⟨0, 32, .ro, false, 0⟩]⟩,
  ⟨.REL_MW_IDX, 0x40, 1, 0x0, 1, 0x0, .one .core, [⟨0, 4, .rw, false, 0⟩, ⟨8, 5, .rw, false, 0⟩]⟩,
  ⟨.REL_MW_CMD, 0x44, 1, 0x0, 1, 0x0, .one .core, [⟨0, 3, .wo, false, 0⟩]⟩,
  ⟨.REL_MW_RES, 0x48, 1, 0x0, 1, 0x0, .one .core, [⟨0, 1, .ro, false, 1⟩, ⟨1, 3, .ro, false, 0⟩]⟩,
  ⟨.REL_MW_ARG, 0x4c, 1, 0x0, 1, 0x0, .one .core, [⟨0, 32, .rw, false, 0⟩]⟩,
  ⟨.REL_MW_DATAk, 0x80, 14, 0x4, 1, 0x0, .one .core, [⟨0, 32, .ro, false, 0⟩]⟩,
  ⟨.REL_SCR_MEM, 0x100, 1, 0x0, 1, 0x0, .one .core, [⟨0, 4, .rw, false, 0⟩, ⟨8, 5, .rw, false, 0⟩]⟩,
  ⟨.REL_SCR_START, 0x104, 1, 0x0, 1, 0x0, .one .core, [⟨0, 32, .rw, false, 0⟩]⟩,
  ⟨.REL_SCR_END, 0x108, 1, 0x0, 1, 0x0, .one .core, [⟨0, 32, .rw, false, 0⟩]⟩]

def regsREL1 : List RegDef := [
  ⟨.REL_SCR_CMD, 0x10c, 1, 0x0, 1, 0x0, .one .core, [⟨0, 1, .wo, false, 0⟩, ⟨1, 1, .wo, false, 0⟩]⟩,
  ⟨.REL_SCR_STAT, 0x110, 1, 0x0, 1, 0x0, .one .core, [⟨0, 1, .ro, false, 0⟩, ⟨1, 2, .ro, false, 0⟩]⟩,
  ⟨.REL_SCR_READ, 0x114, 1, 0x0, 1, 0x0, .one .core, [⟨0, 32, .ro, false, 0⟩]⟩,
  ⟨.REL_SCR_CE, 0x118, 1, 0x0, 1, 0x0, .one .core, [⟨0, 32, .ro, false, 0⟩]⟩,
  ⟨.REL_SCR_UE, 0x11c, 1, 0x0, 1, 0x0, .one .core, [⟨0, 32, .ro, false, 0⟩]⟩,
  ⟨.REL_SCR_UEAk, 0x120, 8, 0x4, 1, 0x0, .one .core, [⟨0, 32, .ro, false, 0⟩]⟩,
  ⟨.REL_BIST_TGT, 0x180, 1, 0x0, 1, 0x0, .one .core, [⟨0, 8, .rw, false, 0⟩, ⟨16, 9, .rw, false, 0⟩]⟩,
  ⟨.REL_BIST_CMD, 0x184, 1, 0x0, 1, 0x0, .one .core, [⟨0, 1, .wo, false, 0⟩]⟩,
  ⟨.REL_BIST_STAT, 0x188, 1, 0x0, 1, 0x0, .one .core, [⟨0, 1, .ro, false, 0⟩, ⟨1, 2, .ro, false, 0⟩, ⟨4, 3, .ro, false, 0⟩]⟩,
  ⟨.REL_BIST_MISR_LO, 0x18c, 1, 0x0, 1, 0x0, .one .core, [⟨0, 32, .ro, false, 0⟩]⟩,
  ⟨.REL_BIST_MISR_HI, 0x190, 1, 0x0, 1, 0x0, .one .core, [⟨0, 32, .ro, false, 0⟩]⟩,
  ⟨.REL_BIST_FAILS, 0x194, 1, 0x0, 1, 0x0, .one .core, [⟨0, 32, .ro, false, 0⟩]⟩]

/-- The registers of block REL. -/
def regsREL : List RegDef :=
  regsREL0 ++ regsREL1

def regsDDR0 : List RegDef := [
  ⟨.DDR_CTL, 0x0, 1, 0x0, 1, 0x0, .one .ddr, [⟨0, 1, .rw, false, 0⟩, ⟨1, 1, .rw, false, 1⟩, ⟨2, 1, .rw, false, 1⟩]⟩,
  ⟨.DDR_CFG, 0x4, 1, 0x0, 1, 0x0, .one .ddr, [⟨0, 6, .rw, false, 0⟩, ⟨8, 1, .rw, false, 1⟩, ⟨16, 4, .rw, false, 0⟩]⟩,
  ⟨.DDR_STAT, 0x8, 1, 0x0, 1, 0x0, .one .ddr, [⟨0, 1, .ro, false, 0⟩, ⟨1, 1, .ro, false, 0⟩]⟩,
  ⟨.DDR_SR, 0xc, 1, 0x0, 1, 0x0, .one .ddr, [⟨0, 16, .rw, false, 0xa⟩, ⟨16, 16, .rw, false, 5⟩]⟩]

/-- The registers of block DDR. -/
def regsDDR : List RegDef :=
  regsDDR0

def regsSYS0 : List RegDef := [
  ⟨.SYS_RST, 0x0, 1, 0x0, 1, 0x0, .one .ctl, [⟨0, 1, .w1s, false, 0⟩]⟩,
  ⟨.SYS_RST_CAUSE, 0x4, 1, 0x0, 1, 0x0, .one .ctl, [⟨0, 3, .rws, false, 0⟩, ⟨8, 8, .rws, false, 0⟩]⟩,
  ⟨.SYS_WDOG_CTL, 0x10, 1, 0x0, 1, 0x0, .one .ctl, [⟨0, 1, .rw, false, 0⟩, ⟨16, 16, .rw, false, 0x3e8⟩]⟩,
  ⟨.SYS_WDOG_KICK, 0x14, 1, 0x0, 1, 0x0, .one .ctl, [⟨0, 32, .wo, false, 0⟩]⟩,
  ⟨.SYS_BOOT_STAT, 0x20, 1, 0x0, 1, 0x0, .one .ctl, [⟨0, 32, .ro, false, 0⟩]⟩]

/-- The registers of block SYS. -/
def regsSYS : List RegDef :=
  regsSYS0

def regsLCS0 : List RegDef := [
  ⟨.LCS_STATE, 0x0, 1, 0x0, 1, 0x0, .one .core, [⟨0, 3, .ro, false, 0⟩]⟩,
  ⟨.LCS_LC_REQ, 0x4, 1, 0x0, 1, 0x0, .one .core, [⟨0, 3, .rws, false, 0⟩, ⟨7, 1, .rws, false, 0⟩]⟩,
  ⟨.LCS_SVN, 0x8, 1, 0x0, 1, 0x0, .one .core, [⟨0, 6, .ro, false, 0⟩, ⟨8, 6, .ro, false, 0⟩]⟩,
  ⟨.LCS_SVN_REQ, 0xc, 1, 0x0, 1, 0x0, .one .core, [⟨0, 6, .rws, false, 0⟩, ⟨8, 6, .rws, false, 0⟩]⟩,
  ⟨.LCS_HELPER_OFS, 0x10, 1, 0x0, 1, 0x0, .one .core, [⟨0, 28, .ro, false, 0⟩]⟩,
  ⟨.LCS_USBID, 0x14, 1, 0x0, 1, 0x0, .one .core, [⟨0, 16, .ro, false, 0x3c5e⟩, ⟨16, 16, .ro, false, 0x3240⟩]⟩]

/-- The registers of block LCS. -/
def regsLCS : List RegDef :=
  regsLCS0

/-- The registers of block k (R593); window tables from 256 on. -/
def regsOf : Nat → List RegDef
  | 4 => regsTRK
  | 5 => regsTNL
  | 256 => regsTAB0
  | 6 => regsSWC
  | 257 => regsTAB1
  | 19 => regsSIL
  | 3 => regsTMB
  | 7 => regsSCH
  | 258 => regsTAB2
  | 259 => regsTAB3
  | 260 => regsTAB4
  | 8 => regsACD
  | 9 => regsSYN
  | 10 => regsETH
  | 11 => regsSTO
  | 12 => regsPDC
  | 13 => regsDSO
  | 14 => regsUSB
  | 2 => regsHSW
  | 1 => regsPWR
  | 15 => regsKEY
  | 261 => regsTAB5
  | 16 => regsREL
  | 17 => regsDDR
  | 0 => regsSYS
  | 18 => regsLCS
  | _ => []

end Sys2Proof.Machine
end

