-- ==== Sys2Proof/Machine/RegsCore.lean ====
section
/-! DEFINITION. Named fields of the registers of blocks TNL, SWC, TMB, SIL, as their register tables give them.
Each field is named BLOCK_REGISTER_FIELD (00_scope, Registers); a field of an indexed register takes its index.
The table words behind an indirect window have homes above the 40-bit address space. -/

namespace Sys2Proof.Machine

/-- Address of `TNL_CTL` (R175). -/
def TNL_CTL_A : Nat := 0x10500000
def TNL_CTL_EN : Fld := ⟨8 * TNL_CTL_A + 0, 1, 0⟩
def TNL_CTL_CTRL_SQ : Fld := ⟨8 * TNL_CTL_A + 8, 8, 0⟩
/-- Address of `TNL_STAT` (R176). -/
def TNL_STAT_A : Nat := 0x10500004
def TNL_STAT_RUNNING : Fld := ⟨8 * TNL_STAT_A + 0, 1, 0⟩
def TNL_STAT_RS_FULL : Fld := ⟨8 * TNL_STAT_A + 1, 1, 0⟩
def TNL_STAT_CTX_RUN : Fld := ⟨8 * TNL_STAT_A + 16, 11, 0⟩
/-- Address of `TNL_EVT` (R177). -/
def TNL_EVT_A : Nat := 0x10500008
def TNL_EVT_HDR_BAD : Fld := ⟨8 * TNL_EVT_A + 0, 1, 0⟩
def TNL_EVT_NOCTX : Fld := ⟨8 * TNL_EVT_A + 1, 1, 0⟩
def TNL_EVT_NOROUTE : Fld := ⟨8 * TNL_EVT_A + 2, 1, 0⟩
def TNL_EVT_LOOP : Fld := ⟨8 * TNL_EVT_A + 3, 1, 0⟩
def TNL_EVT_CTX_BROKEN : Fld := ⟨8 * TNL_EVT_A + 4, 1, 0⟩
def TNL_EVT_TMT_DUPKEY : Fld := ⟨8 * TNL_EVT_A + 5, 1, 0⟩
def TNL_EVT_TMT_MISPLACED : Fld := ⟨8 * TNL_EVT_A + 6, 1, 0⟩
def TNL_EVT_TMT_REFUSED : Fld := ⟨8 * TNL_EVT_A + 7, 1, 0⟩
def TNL_EVT_RS_FULL : Fld := ⟨8 * TNL_EVT_A + 8, 1, 0⟩
def TNL_EVT_NOALLOT : Fld := ⟨8 * TNL_EVT_A + 9, 1, 0⟩
def TNL_EVT_POISON_SET : Fld := ⟨8 * TNL_EVT_A + 10, 1, 0⟩
/-- Address of `TNL_EVT_EN` (R177). -/
def TNL_EVT_EN_A : Nat := 0x1050000c
def TNL_EVT_EN_HDR_BAD : Fld := ⟨8 * TNL_EVT_EN_A + 0, 1, 0⟩
def TNL_EVT_EN_NOCTX : Fld := ⟨8 * TNL_EVT_EN_A + 1, 1, 0⟩
def TNL_EVT_EN_NOROUTE : Fld := ⟨8 * TNL_EVT_EN_A + 2, 1, 0⟩
def TNL_EVT_EN_LOOP : Fld := ⟨8 * TNL_EVT_EN_A + 3, 1, 0⟩
def TNL_EVT_EN_CTX_BROKEN : Fld := ⟨8 * TNL_EVT_EN_A + 4, 1, 0⟩
def TNL_EVT_EN_TMT_DUPKEY : Fld := ⟨8 * TNL_EVT_EN_A + 5, 1, 0⟩
def TNL_EVT_EN_TMT_MISPLACED : Fld := ⟨8 * TNL_EVT_EN_A + 6, 1, 0⟩
def TNL_EVT_EN_TMT_REFUSED : Fld := ⟨8 * TNL_EVT_EN_A + 7, 1, 0⟩
def TNL_EVT_EN_RS_FULL : Fld := ⟨8 * TNL_EVT_EN_A + 8, 1, 0⟩
def TNL_EVT_EN_NOALLOT : Fld := ⟨8 * TNL_EVT_EN_A + 9, 1, 0⟩
def TNL_EVT_EN_POISON_SET : Fld := ⟨8 * TNL_EVT_EN_A + 10, 1, 0⟩
/-- Address of `TNL_TMT_SEED` (R178). -/
def TNL_TMT_SEED_A : Nat := 0x10500010
def TNL_TMT_SEED_SEED : Fld := ⟨8 * TNL_TMT_SEED_A + 0, 32, 0⟩
/-- Address of `TNL_HASH_KEY0` (R178). -/
def TNL_HASH_KEY0_A : Nat := 0x10500014
def TNL_HASH_KEY0_KEY : Fld := ⟨8 * TNL_HASH_KEY0_A + 0, 32, 0⟩
/-- Address of `TNL_HASH_KEY1` (R178). -/
def TNL_HASH_KEY1_A : Nat := 0x10500018
def TNL_HASH_KEY1_KEY : Fld := ⟨8 * TNL_HASH_KEY1_A + 0, 4, 0⟩
/-- Address of `TNL_HASH_BUCKET` (R178). -/
def TNL_HASH_BUCKET_A : Nat := 0x1050001c
def TNL_HASH_BUCKET_BUCKET : Fld := ⟨8 * TNL_HASH_BUCKET_A + 0, 12, 0⟩
/-- Address of `TNL_RS_BASE` (R178). -/
def TNL_RS_BASE_A : Nat := 0x10500020
def TNL_RS_BASE_BASE : Fld := ⟨8 * TNL_RS_BASE_A + 0, 23, 0⟩
/-- Address of `TNL_RS_SIZE` (R178). -/
def TNL_RS_SIZE_A : Nat := 0x10500024
def TNL_RS_SIZE_MIB : Fld := ⟨8 * TNL_RS_SIZE_A + 0, 16, 0⟩
/-- Address of `TNL_RS_USED` (R178). -/
def TNL_RS_USED_A : Nat := 0x10500028
def TNL_RS_USED_CELLS : Fld := ⟨8 * TNL_RS_USED_A + 0, 25, 0⟩
/-- Address of `TNL_BROKEN` (R178). -/
def TNL_BROKEN_A : Nat := 0x1050002c
def TNL_BROKEN_CTX : Fld := ⟨8 * TNL_BROKEN_A + 0, 10, 0⟩
def TNL_BROKEN_VALID : Fld := ⟨8 * TNL_BROKEN_A + 31, 1, 0⟩
/-- Address of `TNL_HDRBAD` (R179). -/
def TNL_HDRBAD_A : Nat := 0x10500040
def TNL_HDRBAD_COUNT : Fld := ⟨8 * TNL_HDRBAD_A + 0, 32, 0⟩
/-- Address of `TNL_NOCTX` (R179). -/
def TNL_NOCTX_A : Nat := 0x10500044
def TNL_NOCTX_COUNT : Fld := ⟨8 * TNL_NOCTX_A + 0, 32, 0⟩
/-- Address of `TNL_NOROUTE` (R179). -/
def TNL_NOROUTE_A : Nat := 0x10500048
def TNL_NOROUTE_COUNT : Fld := ⟨8 * TNL_NOROUTE_A + 0, 32, 0⟩
/-- Address of `TNL_LOOP` (R179). -/
def TNL_LOOP_A : Nat := 0x1050004c
def TNL_LOOP_COUNT : Fld := ⟨8 * TNL_LOOP_A + 0, 32, 0⟩
/-- Address of `TNL_POISONSET` (R179). -/
def TNL_POISONSET_A : Nat := 0x10500050
def TNL_POISONSET_COUNT : Fld := ⟨8 * TNL_POISONSET_A + 0, 32, 0⟩
/-- Address of `TNL_GRPEND` (R179). -/
def TNL_GRPEND_A : Nat := 0x10500054
def TNL_GRPEND_COUNT : Fld := ⟨8 * TNL_GRPEND_A + 0, 32, 0⟩
/-- Address of `TNL_NOALLOT` (R179). -/
def TNL_NOALLOT_A : Nat := 0x10500058
def TNL_NOALLOT_COUNT : Fld := ⟨8 * TNL_NOALLOT_A + 0, 32, 0⟩
/-- Address of `TNL_FENCEDROP` (R179). -/
def TNL_FENCEDROP_A : Nat := 0x1050005c
def TNL_FENCEDROP_COUNT : Fld := ⟨8 * TNL_FENCEDROP_A + 0, 32, 0⟩
/-- Address of `TNL_MIRROR` (R179). -/
def TNL_MIRROR_A : Nat := 0x10500060
def TNL_MIRROR_COUNT : Fld := ⟨8 * TNL_MIRROR_A + 0, 32, 0⟩
/-- Address of `TNL_DROPOVR` (R179). -/
def TNL_DROPOVR_A : Nat := 0x10500064
def TNL_DROPOVR_COUNT : Fld := ⟨8 * TNL_DROPOVR_A + 0, 32, 0⟩
/-- Address of `TNL_TMTREFUSED` (R179). -/
def TNL_TMTREFUSED_A : Nat := 0x10500068
def TNL_TMTREFUSED_COUNT : Fld := ⟨8 * TNL_TMTREFUSED_A + 0, 32, 0⟩
/-- Address of `TNL_CTX_IDX` (R180). -/
def TNL_CTX_IDX_A : Nat := 0x10500100
def TNL_CTX_IDX_CTX : Fld := ⟨8 * TNL_CTX_IDX_A + 0, 10, 0⟩
/-- Address of `TNL_CTX_CMD` (R180). -/
def TNL_CTX_CMD_A : Nat := 0x10500104
def TNL_CTX_CMD_OP : Fld := ⟨8 * TNL_CTX_CMD_A + 0, 3, 0⟩
/-- Address of `TNL_CTX_RES` (R180). -/
def TNL_CTX_RES_A : Nat := 0x10500108
def TNL_CTX_RES_DONE : Fld := ⟨8 * TNL_CTX_RES_A + 0, 1, 1⟩
def TNL_CTX_RES_ERR : Fld := ⟨8 * TNL_CTX_RES_A + 1, 3, 0⟩
/-- Address of `TNL_CTX_DATAk` (R180). -/
def TNL_CTX_DATAk_A (i : Nat) : Nat := 0x10500140 + 4 * i
def TNL_CTX_DATAk_WORD (i : Nat) : Fld := ⟨8 * (TNL_CTX_DATAk_A i) + 0, 32, 0⟩
/-- Address of `TMT_W0` (R155). -/
def TMT_W0_A (i : Nat) : Nat := 0x10580000 + 16 * i
def TMT_W0_VALID (i : Nat) : Fld := ⟨8 * (TMT_W0_A i) + 31, 1, 0⟩
def TMT_W0_KIND (i : Nat) : Fld := ⟨8 * (TMT_W0_A i) + 28, 3, 0⟩
def TMT_W0_S (i : Nat) : Fld := ⟨8 * (TMT_W0_A i) + 27, 1, 0⟩
def TMT_W0_G (i : Nat) : Fld := ⟨8 * (TMT_W0_A i) + 26, 1, 0⟩
def TMT_W0_DEST (i : Nat) : Fld := ⟨8 * (TMT_W0_A i) + 14, 12, 0⟩
def TMT_W0_LORIG (i : Nat) : Fld := ⟨8 * (TMT_W0_A i) + 2, 12, 0⟩
/-- Address of `TMT_W1` (R155). -/
def TMT_W1_A (i : Nat) : Nat := 0x10580004 + 16 * i
def TMT_W1_INDEX (i : Nat) : Fld := ⟨8 * (TMT_W1_A i) + 0, 10, 0⟩
def TMT_W1_CTX (i : Nat) : Fld := ⟨8 * (TMT_W1_A i) + 10, 10, 0⟩
def TMT_W1_SQ (i : Nat) : Fld := ⟨8 * (TMT_W1_A i) + 20, 8, 0⟩
def TMT_W1_POL_EN (i : Nat) : Fld := ⟨8 * (TMT_W1_A i) + 28, 1, 0⟩
def TMT_W1_CAWARE (i : Nat) : Fld := ⟨8 * (TMT_W1_A i) + 29, 1, 0⟩
/-- Address of `TMT_W2` (R155). -/
def TMT_W2_A (i : Nat) : Nat := 0x10580008 + 16 * i
def TMT_W2_ACTION (i : Nat) : Fld := ⟨8 * (TMT_W2_A i) + 0, 3, 0⟩
def TMT_W2_PORT (i : Nat) : Fld := ⟨8 * (TMT_W2_A i) + 3, 5, 0⟩
def TMT_W2_SPUR (i : Nat) : Fld := ⟨8 * (TMT_W2_A i) + 8, 8, 0⟩
/-- Address of `TMT_W3` (R155). -/
def TMT_W3_A (i : Nat) : Nat := 0x1058000c + 16 * i
def TMT_W3_EPOCH (i : Nat) : Fld := ⟨8 * (TMT_W3_A i) + 0, 32, 0⟩
/-- Address of `CTX_W0` (R151). -/
def CTX_W0_A (i : Nat) : Nat := 0x10000000000 + 64 * i
def CTX_W0_CLASS (i : Nat) : Fld := ⟨8 * (CTX_W0_A i) + 1, 3, 0⟩
def CTX_W0_REL (i : Nat) : Fld := ⟨8 * (CTX_W0_A i) + 4, 1, 0⟩
def CTX_W0_ROLE (i : Nat) : Fld := ⟨8 * (CTX_W0_A i) + 5, 1, 0⟩
def CTX_W0_G (i : Nat) : Fld := ⟨8 * (CTX_W0_A i) + 6, 1, 0⟩
def CTX_W0_PEER (i : Nat) : Fld := ⟨8 * (CTX_W0_A i) + 8, 12, 0⟩
def CTX_W0_INDEX (i : Nat) : Fld := ⟨8 * (CTX_W0_A i) + 20, 10, 0⟩
def CTX_W0_STATE (i : Nat) : Fld := ⟨8 * (CTX_W0_A i) + 30, 2, 0⟩
/-- Address of `CTX_W1` (R151). -/
def CTX_W1_A (i : Nat) : Nat := 0x10000000004 + 64 * i
def CTX_W1_EGRESS (i : Nat) : Fld := ⟨8 * (CTX_W1_A i) + 0, 4, 0⟩
def CTX_W1_LPORT (i : Nat) : Fld := ⟨8 * (CTX_W1_A i) + 4, 5, 0⟩
def CTX_W1_LQ (i : Nat) : Fld := ⟨8 * (CTX_W1_A i) + 16, 5, 0⟩
def CTX_W1_RTO (i : Nat) : Fld := ⟨8 * (CTX_W1_A i) + 24, 8, 0⟩
/-- Address of `CTX_W2` (R151). -/
def CTX_W2_A (i : Nat) : Nat := 0x10000000008 + 64 * i
def CTX_W2_WIN (i : Nat) : Fld := ⟨8 * (CTX_W2_A i) + 0, 7, 0⟩
def CTX_W2_RETRY (i : Nat) : Fld := ⟨8 * (CTX_W2_A i) + 8, 4, 0⟩
def CTX_W2_MAXLEN (i : Nat) : Fld := ⟨8 * (CTX_W2_A i) + 16, 14, 0⟩
/-- Address of `CTX_W3` (R151). -/
def CTX_W3_A (i : Nat) : Nat := 0x1000000000c + 64 * i
def CTX_W3_TX_NEXT (i : Nat) : Fld := ⟨8 * (CTX_W3_A i) + 0, 32, 0⟩
/-- Address of `CTX_W4` (R151). -/
def CTX_W4_A (i : Nat) : Nat := 0x10000000010 + 64 * i
def CTX_W4_TX_UNA (i : Nat) : Fld := ⟨8 * (CTX_W4_A i) + 0, 32, 0⟩
/-- Address of `CTX_W5` (R151). -/
def CTX_W5_A (i : Nat) : Nat := 0x10000000014 + 64 * i
def CTX_W5_RX_EXP (i : Nat) : Fld := ⟨8 * (CTX_W5_A i) + 0, 32, 0⟩
/-- Address of `CTX_W6` (R151). -/
def CTX_W6_A (i : Nat) : Nat := 0x10000000018 + 64 * i
def CTX_W6_HELD (i : Nat) : Fld := ⟨8 * (CTX_W6_A i) + 0, 16, 0⟩
def CTX_W6_HELDN (i : Nat) : Fld := ⟨8 * (CTX_W6_A i) + 16, 5, 0⟩
/-- Address of `CTX_W7` (R151). -/
def CTX_W7_A (i : Nat) : Nat := 0x1000000001c + 64 * i
def CTX_W7_LAT (i : Nat) : Fld := ⟨8 * (CTX_W7_A i) + 0, 32, 0⟩
/-- Address of `CTX_W8` (R151). -/
def CTX_W8_A (i : Nat) : Nat := 0x10000000020 + 64 * i
def CTX_W8_TX_PKTS (i : Nat) : Fld := ⟨8 * (CTX_W8_A i) + 0, 32, 0⟩
/-- Address of `CTX_W9` (R151). -/
def CTX_W9_A (i : Nat) : Nat := 0x10000000024 + 64 * i
def CTX_W9_RX_PKTS (i : Nat) : Fld := ⟨8 * (CTX_W9_A i) + 0, 32, 0⟩
/-- Address of `CTX_W10` (R151). -/
def CTX_W10_A (i : Nat) : Nat := 0x10000000028 + 64 * i
def CTX_W10_RESENT (i : Nat) : Fld := ⟨8 * (CTX_W10_A i) + 0, 32, 0⟩
/-- Address of `CTX_W11` (R151). -/
def CTX_W11_A (i : Nat) : Nat := 0x1000000002c + 64 * i
def CTX_W11_DUP (i : Nat) : Fld := ⟨8 * (CTX_W11_A i) + 0, 32, 0⟩
/-- Address of `CTX_W12` (R151). -/
def CTX_W12_A (i : Nat) : Nat := 0x10000000030 + 64 * i
def CTX_W12_LOST (i : Nat) : Fld := ⟨8 * (CTX_W12_A i) + 0, 32, 0⟩
/-- Address of `CTX_W13` (R151). -/
def CTX_W13_A (i : Nat) : Nat := 0x10000000034 + 64 * i
def CTX_W13_POISONED (i : Nat) : Fld := ⟨8 * (CTX_W13_A i) + 0, 32, 0⟩
/-- Address of `CTX_W14` (R151). -/
def CTX_W14_A (i : Nat) : Nat := 0x10000000038 + 64 * i
def CTX_W14_STALE (i : Nat) : Fld := ⟨8 * (CTX_W14_A i) + 0, 32, 0⟩
/-- Address of `CTX_W15` (R151). -/
def CTX_W15_A (i : Nat) : Nat := 0x1000000003c + 64 * i
def CTX_W15_RXFULL (i : Nat) : Fld := ⟨8 * (CTX_W15_A i) + 0, 32, 0⟩
/-- Address of `SWC_CTL` (R206). -/
def SWC_CTL_A : Nat := 0x10600000
def SWC_CTL_EN : Fld := ⟨8 * SWC_CTL_A + 0, 1, 0⟩
def SWC_CTL_CT_EN : Fld := ⟨8 * SWC_CTL_A + 1, 1, 1⟩
def SWC_CTL_SPILL_EN : Fld := ⟨8 * SWC_CTL_A + 2, 1, 0⟩
/-- Address of `SWC_STAT` (R207). -/
def SWC_STAT_A : Nat := 0x10600004
def SWC_STAT_RUNNING : Fld := ⟨8 * SWC_STAT_A + 0, 1, 0⟩
def SWC_STAT_SPILLING : Fld := ⟨8 * SWC_STAT_A + 1, 1, 0⟩
def SWC_STAT_CLAIM_PENDING : Fld := ⟨8 * SWC_STAT_A + 2, 1, 0⟩
def SWC_STAT_BANK_OK : Fld := ⟨8 * SWC_STAT_A + 8, 8, 0xff⟩
/-- Address of `SWC_EVT` (R208). -/
def SWC_EVT_A : Nat := 0x10600008
def SWC_EVT_RSV_REFUSED : Fld := ⟨8 * SWC_EVT_A + 0, 1, 0⟩
def SWC_EVT_SHARED_LOW : Fld := ⟨8 * SWC_EVT_A + 1, 1, 0⟩
def SWC_EVT_SPILL_FULL : Fld := ⟨8 * SWC_EVT_A + 2, 1, 0⟩
def SWC_EVT_SPILL_ECC : Fld := ⟨8 * SWC_EVT_A + 3, 1, 0⟩
def SWC_EVT_BUF_ECC : Fld := ⟨8 * SWC_EVT_A + 4, 1, 0⟩
def SWC_EVT_TRUNC : Fld := ⟨8 * SWC_EVT_A + 5, 1, 0⟩
def SWC_EVT_HOLD_FULL : Fld := ⟨8 * SWC_EVT_A + 6, 1, 0⟩
/-- Address of `SWC_EVT_EN` (R208). -/
def SWC_EVT_EN_A : Nat := 0x1060000c
def SWC_EVT_EN_RSV_REFUSED : Fld := ⟨8 * SWC_EVT_EN_A + 0, 1, 0⟩
def SWC_EVT_EN_SHARED_LOW : Fld := ⟨8 * SWC_EVT_EN_A + 1, 1, 0⟩
def SWC_EVT_EN_SPILL_FULL : Fld := ⟨8 * SWC_EVT_EN_A + 2, 1, 0⟩
def SWC_EVT_EN_SPILL_ECC : Fld := ⟨8 * SWC_EVT_EN_A + 3, 1, 0⟩
def SWC_EVT_EN_BUF_ECC : Fld := ⟨8 * SWC_EVT_EN_A + 4, 1, 0⟩
def SWC_EVT_EN_TRUNC : Fld := ⟨8 * SWC_EVT_EN_A + 5, 1, 0⟩
def SWC_EVT_EN_HOLD_FULL : Fld := ⟨8 * SWC_EVT_EN_A + 6, 1, 0⟩
/-- Address of `SWC_CELLS` (R209). -/
def SWC_CELLS_A : Nat := 0x10600010
def SWC_CELLS_CELLS : Fld := ⟨8 * SWC_CELLS_A + 0, 18, 0x20000⟩
/-- Address of `SWC_FREE` (R209). -/
def SWC_FREE_A : Nat := 0x10600014
def SWC_FREE_CELLS : Fld := ⟨8 * SWC_FREE_A + 0, 18, 0⟩
/-- Address of `SWC_RSV_USED` (R209). -/
def SWC_RSV_USED_A : Nat := 0x10600018
def SWC_RSV_USED_CELLS : Fld := ⟨8 * SWC_RSV_USED_A + 0, 18, 0⟩
/-- Address of `SWC_SHARED_MIN` (R209). -/
def SWC_SHARED_MIN_A : Nat := 0x1060001c
def SWC_SHARED_MIN_CELLS : Fld := ⟨8 * SWC_SHARED_MIN_A + 0, 18, 0x8000⟩
/-- Address of `SWC_HEADROOM` (R209). -/
def SWC_HEADROOM_A : Nat := 0x10600020
def SWC_HEADROOM_CELLS : Fld := ⟨8 * SWC_HEADROOM_A + 0, 16, 0x400⟩
/-- Address of `SWC_HOLD_MAX` (R209). -/
def SWC_HOLD_MAX_A : Nat := 0x10600024
def SWC_HOLD_MAX_CELLS : Fld := ⟨8 * SWC_HOLD_MAX_A + 0, 16, 0x1000⟩
/-- Address of `SWC_HOLD_USED` (R209). -/
def SWC_HOLD_USED_A : Nat := 0x10600028
def SWC_HOLD_USED_CELLS : Fld := ⟨8 * SWC_HOLD_USED_A + 0, 16, 0⟩
/-- Address of `SWC_STAGE` (R209). -/
def SWC_STAGE_A : Nat := 0x1060002c
def SWC_STAGE_POOL : Fld := ⟨8 * SWC_STAGE_A + 0, 13, 0x1000⟩
/-- Address of `SWC_STAGE_Q` (R209). -/
def SWC_STAGE_Q_A : Nat := 0x10600030
def SWC_STAGE_Q_LOW : Fld := ⟨8 * SWC_STAGE_Q_A + 0, 9, 0x80⟩
def SWC_STAGE_Q_PERQ : Fld := ⟨8 * SWC_STAGE_Q_A + 16, 9, 0x100⟩
/-- Address of `SWC_SPILL_BASE` (R209). -/
def SWC_SPILL_BASE_A : Nat := 0x10600040
def SWC_SPILL_BASE_BASE : Fld := ⟨8 * SWC_SPILL_BASE_A + 0, 23, 0⟩
/-- Address of `SWC_SPILL_SIZE` (R209). -/
def SWC_SPILL_SIZE_A : Nat := 0x10600044
def SWC_SPILL_SIZE_MIB : Fld := ⟨8 * SWC_SPILL_SIZE_A + 0, 14, 0⟩
/-- Address of `SWC_SPILL_USED` (R209). -/
def SWC_SPILL_USED_A : Nat := 0x10600048
def SWC_SPILL_USED_CELLS : Fld := ⟨8 * SWC_SPILL_USED_A + 0, 26, 0⟩
/-- Address of `SWC_SPILL_RATE` (R209). -/
def SWC_SPILL_RATE_A : Nat := 0x1060004c
def SWC_SPILL_RATE_GBPS : Fld := ⟨8 * SWC_SPILL_RATE_A + 0, 8, 0xc8⟩
/-- Address of `SWC_BANKn_FREE` (R209). -/
def SWC_BANKn_FREE_A (i : Nat) : Nat := 0x10600060 + 4 * i
def SWC_BANKn_FREE_CELLS (i : Nat) : Fld := ⟨8 * (SWC_BANKn_FREE_A i) + 0, 15, 0x4000⟩
/-- Address of `SWC_ADMIT_PKTS` (R210). -/
def SWC_ADMIT_PKTS_A : Nat := 0x10600080
def SWC_ADMIT_PKTS_COUNT : Fld := ⟨8 * SWC_ADMIT_PKTS_A + 0, 32, 0⟩
/-- Address of `SWC_DROP_PKTS` (R210). -/
def SWC_DROP_PKTS_A : Nat := 0x10600084
def SWC_DROP_PKTS_COUNT : Fld := ⟨8 * SWC_DROP_PKTS_A + 0, 32, 0⟩
/-- Address of `SWC_DROP_CELLS` (R210). -/
def SWC_DROP_CELLS_A : Nat := 0x10600088
def SWC_DROP_CELLS_COUNT : Fld := ⟨8 * SWC_DROP_CELLS_A + 0, 32, 0⟩
/-- Address of `SWC_TRUNC` (R210). -/
def SWC_TRUNC_A : Nat := 0x1060008c
def SWC_TRUNC_COUNT : Fld := ⟨8 * SWC_TRUNC_A + 0, 32, 0⟩
/-- Address of `SWC_BUF_ECC` (R210). -/
def SWC_BUF_ECC_A : Nat := 0x10600090
def SWC_BUF_ECC_COUNT : Fld := ⟨8 * SWC_BUF_ECC_A + 0, 32, 0⟩
/-- Address of `SWC_SPILL_ECC` (R210). -/
def SWC_SPILL_ECC_A : Nat := 0x10600094
def SWC_SPILL_ECC_COUNT : Fld := ⟨8 * SWC_SPILL_ECC_A + 0, 32, 0⟩
/-- Address of `SWC_SPILL_IN` (R210). -/
def SWC_SPILL_IN_A : Nat := 0x10600098
def SWC_SPILL_IN_COUNT : Fld := ⟨8 * SWC_SPILL_IN_A + 0, 32, 0⟩
/-- Address of `SWC_SPILL_OUT` (R210). -/
def SWC_SPILL_OUT_A : Nat := 0x1060009c
def SWC_SPILL_OUT_COUNT : Fld := ⟨8 * SWC_SPILL_OUT_A + 0, 32, 0⟩
/-- Address of `SWC_CT_PKTS` (R210). -/
def SWC_CT_PKTS_A : Nat := 0x106000a0
def SWC_CT_PKTS_COUNT : Fld := ⟨8 * SWC_CT_PKTS_A + 0, 32, 0⟩
/-- Address of `SWC_SF_PKTS` (R210). -/
def SWC_SF_PKTS_A : Nat := 0x106000a4
def SWC_SF_PKTS_COUNT : Fld := ⟨8 * SWC_SF_PKTS_A + 0, 32, 0⟩
/-- Address of `SWC_HOLD_DROP` (R210). -/
def SWC_HOLD_DROP_A : Nat := 0x106000a8
def SWC_HOLD_DROP_COUNT : Fld := ⟨8 * SWC_HOLD_DROP_A + 0, 32, 0⟩
/-- Address of `SWC_Q_IDX` (R211). -/
def SWC_Q_IDX_A : Nat := 0x10600100
def SWC_Q_IDX_Q : Fld := ⟨8 * SWC_Q_IDX_A + 0, 11, 0⟩
/-- Address of `SWC_Q_CMD` (R211). -/
def SWC_Q_CMD_A : Nat := 0x10600104
def SWC_Q_CMD_OP : Fld := ⟨8 * SWC_Q_CMD_A + 0, 2, 0⟩
/-- Address of `SWC_Q_RES` (R211). -/
def SWC_Q_RES_A : Nat := 0x10600108
def SWC_Q_RES_DONE : Fld := ⟨8 * SWC_Q_RES_A + 0, 1, 1⟩
def SWC_Q_RES_ERR : Fld := ⟨8 * SWC_Q_RES_A + 1, 2, 0⟩
/-- Address of `SWC_Q_DATAk` (R211). -/
def SWC_Q_DATAk_A (i : Nat) : Nat := 0x10600140 + 4 * i
def SWC_Q_DATAk_WORD (i : Nat) : Fld := ⟨8 * (SWC_Q_DATAk_A i) + 0, 32, 0⟩
/-- Address of `SWQ_W0` (R212). -/
def SWQ_W0_A (i : Nat) : Nat := 0x10000100000 + 32 * i
def SWQ_W0_K (i : Nat) : Fld := ⟨8 * (SWQ_W0_A i) + 0, 4, 0⟩
def SWQ_W0_SPILL_EN (i : Nat) : Fld := ⟨8 * (SWQ_W0_A i) + 4, 1, 0⟩
/-- Address of `SWQ_W1` (R212). -/
def SWQ_W1_A (i : Nat) : Nat := 0x10000100004 + 32 * i
def SWQ_W1_SPILL_CAP (i : Nat) : Fld := ⟨8 * (SWQ_W1_A i) + 0, 14, 0⟩
/-- Address of `SWQ_W2` (R212). -/
def SWQ_W2_A (i : Nat) : Nat := 0x10000100008 + 32 * i
def SWQ_W2_OCC (i : Nat) : Fld := ⟨8 * (SWQ_W2_A i) + 0, 18, 0⟩
/-- Address of `SWQ_W3` (R212). -/
def SWQ_W3_A (i : Nat) : Nat := 0x1000010000c + 32 * i
def SWQ_W3_SPILLED (i : Nat) : Fld := ⟨8 * (SWQ_W3_A i) + 0, 26, 0⟩
/-- Address of `SWQ_W4` (R212). -/
def SWQ_W4_A (i : Nat) : Nat := 0x10000100010 + 32 * i
def SWQ_W4_ADMIT_PKTS (i : Nat) : Fld := ⟨8 * (SWQ_W4_A i) + 0, 32, 0⟩
/-- Address of `SWQ_W5` (R212). -/
def SWQ_W5_A (i : Nat) : Nat := 0x10000100014 + 32 * i
def SWQ_W5_DROP_PKTS (i : Nat) : Fld := ⟨8 * (SWQ_W5_A i) + 0, 32, 0⟩
/-- Address of `SWQ_W6` (R212). -/
def SWQ_W6_A (i : Nat) : Nat := 0x10000100018 + 32 * i
def SWQ_W6_SPILL_PKTS (i : Nat) : Fld := ⟨8 * (SWQ_W6_A i) + 0, 32, 0⟩
/-- Address of `SWQ_W7` (R212). -/
def SWQ_W7_A (i : Nat) : Nat := 0x1000010001c + 32 * i
def SWQ_W7_PEAK (i : Nat) : Fld := ⟨8 * (SWQ_W7_A i) + 0, 18, 0⟩
/-- Address of `SIL_CTL` (R241). -/
def SIL_CTL_A : Nat := 0x11300000
def SIL_CTL_EN : Fld := ⟨8 * SIL_CTL_A + 0, 1, 0⟩
def SIL_CTL_MODE : Fld := ⟨8 * SIL_CTL_A + 1, 1, 0⟩
/-- Address of `SIL_STAT` (R241). -/
def SIL_STAT_A : Nat := 0x11300004
def SIL_STAT_RUNNING : Fld := ⟨8 * SIL_STAT_A + 0, 1, 0⟩
def SIL_STAT_OVERRUN : Fld := ⟨8 * SIL_STAT_A + 1, 1, 0⟩
/-- Address of `SIL_BASE` (R241). -/
def SIL_BASE_A : Nat := 0x11300008
def SIL_BASE_BASE : Fld := ⟨8 * SIL_BASE_A + 0, 23, 0⟩
/-- Address of `SIL_SIZE` (R241). -/
def SIL_SIZE_A : Nat := 0x1130000c
def SIL_SIZE_LOG2 : Fld := ⟨8 * SIL_SIZE_A + 0, 5, 0⟩
/-- Address of `SIL_WR` (R241). -/
def SIL_WR_A : Nat := 0x11300010
def SIL_WR_IDX : Fld := ⟨8 * SIL_WR_A + 0, 25, 0⟩
/-- Address of `SIL_RD` (R241). -/
def SIL_RD_A : Nat := 0x11300014
def SIL_RD_IDX : Fld := ⟨8 * SIL_RD_A + 0, 25, 0⟩
/-- Address of `SIL_SEQ` (R241). -/
def SIL_SEQ_A : Nat := 0x11300018
def SIL_SEQ_SEQ : Fld := ⟨8 * SIL_SEQ_A + 0, 32, 0⟩
/-- Address of `SIL_DROP` (R241). -/
def SIL_DROP_A : Nat := 0x1130001c
def SIL_DROP_COUNT : Fld := ⟨8 * SIL_DROP_A + 0, 32, 0⟩
/-- Address of `SIL_SRC_EN_LO` (R241). -/
def SIL_SRC_EN_LO_A : Nat := 0x11300020
def SIL_SRC_EN_LO_MASK : Fld := ⟨8 * SIL_SRC_EN_LO_A + 0, 32, 0xffffffff⟩
/-- Address of `SIL_SRC_EN_HI` (R241). -/
def SIL_SRC_EN_HI_A : Nat := 0x11300024
def SIL_SRC_EN_HI_MASK : Fld := ⟨8 * SIL_SRC_EN_HI_A + 0, 32, 0xffffffff⟩
/-- Address of `SIL_WATER` (R241). -/
def SIL_WATER_A : Nat := 0x11300028
def SIL_WATER_ENTRIES : Fld := ⟨8 * SIL_WATER_A + 0, 25, 0x400⟩
/-- Address of `SIL_EVT` (R241). -/
def SIL_EVT_A : Nat := 0x11300030
def SIL_EVT_WATER : Fld := ⟨8 * SIL_EVT_A + 0, 1, 0⟩
def SIL_EVT_FULL : Fld := ⟨8 * SIL_EVT_A + 1, 1, 0⟩
def SIL_EVT_DROP : Fld := ⟨8 * SIL_EVT_A + 2, 1, 0⟩
/-- Address of `SIL_EVT_EN` (R241). -/
def SIL_EVT_EN_A : Nat := 0x11300034
def SIL_EVT_EN_WATER : Fld := ⟨8 * SIL_EVT_EN_A + 0, 1, 0⟩
def SIL_EVT_EN_FULL : Fld := ⟨8 * SIL_EVT_EN_A + 1, 1, 0⟩
def SIL_EVT_EN_DROP : Fld := ⟨8 * SIL_EVT_EN_A + 2, 1, 0⟩
/-- Address of `TMB_CLK_CTL` (R242). -/
def TMB_CLK_CTL_A : Nat := 0x10300000
def TMB_CLK_CTL_REFSEL : Fld := ⟨8 * TMB_CLK_CTL_A + 0, 2, 0⟩
def TMB_CLK_CTL_PLL_LOCK : Fld := ⟨8 * TMB_CLK_CTL_A + 8, 1, 0⟩
/-- Address of `TMB_SNAP` (R242). -/
def TMB_SNAP_A : Nat := 0x10300004
def TMB_SNAP_GO : Fld := ⟨8 * TMB_SNAP_A + 0, 1, 0⟩
/-- Address of `TMB_EVT` (R242). -/
def TMB_EVT_A : Nat := 0x10300008
def TMB_EVT_JUMP_REFUSED : Fld := ⟨8 * TMB_EVT_A + 0, 1, 0⟩
def TMB_EVT_SW_REFUSED : Fld := ⟨8 * TMB_EVT_A + 1, 1, 0⟩
def TMB_EVT_LOCKED : Fld := ⟨8 * TMB_EVT_A + 2, 1, 0⟩
def TMB_EVT_HOLDOVER : Fld := ⟨8 * TMB_EVT_A + 3, 1, 0⟩
def TMB_EVT_SRC_SWITCH : Fld := ⟨8 * TMB_EVT_A + 4, 1, 0⟩
def TMB_EVT_SOURCE_CONFLICT : Fld := ⟨8 * TMB_EVT_A + 5, 1, 0⟩
def TMB_EVT_TIMEREF_LOST : Fld := ⟨8 * TMB_EVT_A + 6, 1, 0⟩
def TMB_EVT_PPS_IN : Fld := ⟨8 * TMB_EVT_A + 7, 1, 0⟩
def TMB_EVT_TIO_LATE : Fld := ⟨8 * TMB_EVT_A + 8, 1, 0⟩
/-- Address of `TMB_EVT_EN` (R242). -/
def TMB_EVT_EN_A : Nat := 0x1030000c
def TMB_EVT_EN_JUMP_REFUSED : Fld := ⟨8 * TMB_EVT_EN_A + 0, 1, 0⟩
def TMB_EVT_EN_SW_REFUSED : Fld := ⟨8 * TMB_EVT_EN_A + 1, 1, 0⟩
def TMB_EVT_EN_LOCKED : Fld := ⟨8 * TMB_EVT_EN_A + 2, 1, 0⟩
def TMB_EVT_EN_HOLDOVER : Fld := ⟨8 * TMB_EVT_EN_A + 3, 1, 0⟩
def TMB_EVT_EN_SRC_SWITCH : Fld := ⟨8 * TMB_EVT_EN_A + 4, 1, 0⟩
def TMB_EVT_EN_SOURCE_CONFLICT : Fld := ⟨8 * TMB_EVT_EN_A + 5, 1, 0⟩
def TMB_EVT_EN_TIMEREF_LOST : Fld := ⟨8 * TMB_EVT_EN_A + 6, 1, 0⟩
def TMB_EVT_EN_PPS_IN : Fld := ⟨8 * TMB_EVT_EN_A + 7, 1, 0⟩
def TMB_EVT_EN_TIO_LATE : Fld := ⟨8 * TMB_EVT_EN_A + 8, 1, 0⟩
/-- Address of `TMB_LOAD_SEC_HI` (R242). -/
def TMB_LOAD_SEC_HI_A : Nat := 0x10300010
def TMB_LOAD_SEC_HI_SEC : Fld := ⟨8 * TMB_LOAD_SEC_HI_A + 0, 16, 0⟩
/-- Address of `TMB_LOAD_SEC_LO` (R242). -/
def TMB_LOAD_SEC_LO_A : Nat := 0x10300014
def TMB_LOAD_SEC_LO_SEC : Fld := ⟨8 * TMB_LOAD_SEC_LO_A + 0, 32, 0⟩
/-- Address of `TMB_LOAD_NS` (R242). -/
def TMB_LOAD_NS_A : Nat := 0x10300018
def TMB_LOAD_NS_NS : Fld := ⟨8 * TMB_LOAD_NS_A + 0, 30, 0⟩
/-- Address of `TMB_LOAD_CMD` (R242). -/
def TMB_LOAD_CMD_A : Nat := 0x1030001c
def TMB_LOAD_CMD_TB : Fld := ⟨8 * TMB_LOAD_CMD_A + 0, 2, 0⟩
def TMB_LOAD_CMD_GO : Fld := ⟨8 * TMB_LOAD_CMD_A + 8, 1, 0⟩
/-- Address of `TMB_SRV_CTL` (R243). -/
def TMB_SRV_CTL_A : Nat := 0x10300040
def TMB_SRV_CTL_EN : Fld := ⟨8 * TMB_SRV_CTL_A + 0, 1, 0⟩
def TMB_SRV_CTL_REF : Fld := ⟨8 * TMB_SRV_CTL_A + 1, 1, 0⟩
def TMB_SRV_CTL_REACQ : Fld := ⟨8 * TMB_SRV_CTL_A + 2, 1, 0⟩
def TMB_SRV_CTL_SRC : Fld := ⟨8 * TMB_SRV_CTL_A + 4, 4, 0xf⟩
def TMB_SRV_CTL_ALT : Fld := ⟨8 * TMB_SRV_CTL_A + 8, 4, 0xf⟩
/-- Address of `TMB_SRV_GAIN` (R243). -/
def TMB_SRV_GAIN_A : Nat := 0x10300044
def TMB_SRV_GAIN_KP_SH : Fld := ⟨8 * TMB_SRV_GAIN_A + 0, 4, 2⟩
def TMB_SRV_GAIN_KI_SH : Fld := ⟨8 * TMB_SRV_GAIN_A + 4, 4, 6⟩
def TMB_SRV_GAIN_LOCK_THR : Fld := ⟨8 * TMB_SRV_GAIN_A + 8, 16, 0x14⟩
/-- Address of `TMB_SRV_STAT` (R243). -/
def TMB_SRV_STAT_A : Nat := 0x10300048
def TMB_SRV_STAT_STATE : Fld := ⟨8 * TMB_SRV_STAT_A + 0, 3, 0⟩
def TMB_SRV_STAT_ACTIVE : Fld := ⟨8 * TMB_SRV_STAT_A + 4, 4, 0xf⟩
def TMB_SRV_STAT_SOURCE : Fld := ⟨8 * TMB_SRV_STAT_A + 16, 12, 0xfff⟩
/-- Address of `TMB_SRV_OFS` (R243). -/
def TMB_SRV_OFS_A : Nat := 0x1030004c
def TMB_SRV_OFS_E : Fld := ⟨8 * TMB_SRV_OFS_A + 0, 32, 0⟩
/-- Address of `TMB_SRV_FREQ` (R243). -/
def TMB_SRV_FREQ_A : Nat := 0x10300050
def TMB_SRV_FREQ_F : Fld := ⟨8 * TMB_SRV_FREQ_A + 0, 32, 0⟩
/-- Address of `TMB_SRV_SAMPLES` (R243). -/
def TMB_SRV_SAMPLES_A : Nat := 0x10300054
def TMB_SRV_SAMPLES_COUNT : Fld := ⟨8 * TMB_SRV_SAMPLES_A + 0, 32, 0⟩
/-- Address of `TMB_SRV_MISSED` (R243). -/
def TMB_SRV_MISSED_A : Nat := 0x10300058
def TMB_SRV_MISSED_COUNT : Fld := ⟨8 * TMB_SRV_MISSED_A + 0, 32, 0⟩
/-- Address of `TMB_SRV_REFUSED` (R243). -/
def TMB_SRV_REFUSED_A : Nat := 0x1030005c
def TMB_SRV_REFUSED_COUNT : Fld := ⟨8 * TMB_SRV_REFUSED_A + 0, 32, 0⟩
/-- Address of `TMB_DLY_OUTLIER` (R243). -/
def TMB_DLY_OUTLIER_A : Nat := 0x10300060
def TMB_DLY_OUTLIER_COUNT : Fld := ⟨8 * TMB_DLY_OUTLIER_A + 0, 32, 0⟩
/-- Address of `TMB_PORTp_DLY` (R243). -/
def TMB_PORTp_DLY_A (i : Nat) : Nat := 0x10300080 + 8 * i
def TMB_PORTp_DLY_D (i : Nat) : Fld := ⟨8 * (TMB_PORTp_DLY_A i) + 0, 32, 0⟩
/-- Address of `TMB_PORTp_ASYM` (R243). -/
def TMB_PORTp_ASYM_A (i : Nat) : Nat := 0x10300084 + 8 * i
def TMB_PORTp_ASYM_PS (i : Nat) : Fld := ⟨8 * (TMB_PORTp_ASYM_A i) + 0, 16, 0⟩
/-- Address of `TMB_PPS_CTL` (R244). -/
def TMB_PPS_CTL_A : Nat := 0x103000d0
def TMB_PPS_CTL_OUT_EN : Fld := ⟨8 * TMB_PPS_CTL_A + 0, 1, 0⟩
def TMB_PPS_CTL_OUT_TB : Fld := ⟨8 * TMB_PPS_CTL_A + 1, 2, 0⟩
def TMB_PPS_CTL_IN_TB : Fld := ⟨8 * TMB_PPS_CTL_A + 4, 2, 0⟩
def TMB_PPS_CTL_IN_EDGE : Fld := ⟨8 * TMB_PPS_CTL_A + 6, 1, 0⟩
def TMB_PPS_CTL_OUT_WIDTH : Fld := ⟨8 * TMB_PPS_CTL_A + 16, 16, 0x64⟩
/-- Address of `TMB_PPS_OFS` (R244). -/
def TMB_PPS_OFS_A : Nat := 0x103000d4
def TMB_PPS_OFS_NS : Fld := ⟨8 * TMB_PPS_OFS_A + 0, 32, 0⟩
/-- Address of `TMB_PPS_IN_SEC` (R244). -/
def TMB_PPS_IN_SEC_A : Nat := 0x103000d8
def TMB_PPS_IN_SEC_SEC : Fld := ⟨8 * TMB_PPS_IN_SEC_A + 0, 32, 0⟩
/-- Address of `TMB_PPS_IN_NS` (R244). -/
def TMB_PPS_IN_NS_A : Nat := 0x103000dc
def TMB_PPS_IN_NS_NS : Fld := ⟨8 * TMB_PPS_IN_NS_A + 0, 30, 0⟩
/-- Address of `TMB_TBn_SNAP_SEC_HI` (R244). -/
def TMB_TBn_SNAP_SEC_HI_A (i : Nat) : Nat := 0x10300100 + 64 * i
def TMB_TBn_SNAP_SEC_HI_SEC (i : Nat) : Fld := ⟨8 * (TMB_TBn_SNAP_SEC_HI_A i) + 0, 16, 0⟩
/-- Address of `TMB_TBn_SNAP_SEC_LO` (R244). -/
def TMB_TBn_SNAP_SEC_LO_A (i : Nat) : Nat := 0x10300104 + 64 * i
def TMB_TBn_SNAP_SEC_LO_SEC (i : Nat) : Fld := ⟨8 * (TMB_TBn_SNAP_SEC_LO_A i) + 0, 32, 0⟩
/-- Address of `TMB_TBn_SNAP_NS` (R244). -/
def TMB_TBn_SNAP_NS_A (i : Nat) : Nat := 0x10300108 + 64 * i
def TMB_TBn_SNAP_NS_NS (i : Nat) : Fld := ⟨8 * (TMB_TBn_SNAP_NS_A i) + 0, 30, 0⟩
/-- Address of `TMB_TBn_SNAP_FRAC` (R244). -/
def TMB_TBn_SNAP_FRAC_A (i : Nat) : Nat := 0x1030010c + 64 * i
def TMB_TBn_SNAP_FRAC_FRAC (i : Nat) : Fld := ⟨8 * (TMB_TBn_SNAP_FRAC_A i) + 0, 32, 0⟩
/-- Address of `TMB_TBn_INCR_NS` (R244). -/
def TMB_TBn_INCR_NS_A (i : Nat) : Nat := 0x10300110 + 64 * i
def TMB_TBn_INCR_NS_NS (i : Nat) : Fld := ⟨8 * (TMB_TBn_INCR_NS_A i) + 0, 8, 2⟩
/-- Address of `TMB_TBn_INCR_FRAC` (R244). -/
def TMB_TBn_INCR_FRAC_A (i : Nat) : Nat := 0x10300114 + 64 * i
def TMB_TBn_INCR_FRAC_FRAC (i : Nat) : Fld := ⟨8 * (TMB_TBn_INCR_FRAC_A i) + 0, 32, 0⟩
/-- Address of `TMB_TBn_PADJ` (R244). -/
def TMB_TBn_PADJ_A (i : Nat) : Nat := 0x10300118 + 64 * i
def TMB_TBn_PADJ_NS (i : Nat) : Fld := ⟨8 * (TMB_TBn_PADJ_A i) + 0, 32, 0⟩
/-- Address of `TMB_TBn_STEPLIM` (R244). -/
def TMB_TBn_STEPLIM_A (i : Nat) : Nat := 0x1030011c + 64 * i
def TMB_TBn_STEPLIM_NS (i : Nat) : Fld := ⟨8 * (TMB_TBn_STEPLIM_A i) + 0, 24, 0x3e8⟩
/-- Address of `TMB_TBn_STAT` (R244). -/
def TMB_TBn_STAT_A (i : Nat) : Nat := 0x10300120 + 64 * i
def TMB_TBn_STAT_PADJ_BUSY (i : Nat) : Fld := ⟨8 * (TMB_TBn_STAT_A i) + 0, 1, 0⟩
def TMB_TBn_STAT_OWNED (i : Nat) : Fld := ⟨8 * (TMB_TBn_STAT_A i) + 1, 1, 0⟩
/-- Address of `TIO_CFGk` (R245). -/
def TIO_CFGk_A (i : Nat) : Nat := 0x10300200 + 16 * i
def TIO_CFGk_MODE (i : Nat) : Fld := ⟨8 * (TIO_CFGk_A i) + 0, 3, 0⟩
def TIO_CFGk_TB (i : Nat) : Fld := ⟨8 * (TIO_CFGk_A i) + 4, 2, 0⟩
def TIO_CFGk_EDGE (i : Nat) : Fld := ⟨8 * (TIO_CFGk_A i) + 6, 2, 1⟩
def TIO_CFGk_LATE (i : Nat) : Fld := ⟨8 * (TIO_CFGk_A i) + 8, 1, 0⟩
def TIO_CFGk_OUT (i : Nat) : Fld := ⟨8 * (TIO_CFGk_A i) + 9, 1, 0⟩
def TIO_CFGk_IDLE (i : Nat) : Fld := ⟨8 * (TIO_CFGk_A i) + 10, 1, 0⟩
def TIO_CFGk_FILT (i : Nat) : Fld := ⟨8 * (TIO_CFGk_A i) + 12, 4, 0⟩
/-- Address of `TIO_PERk` (R245). -/
def TIO_PERk_A (i : Nat) : Nat := 0x10300204 + 16 * i
def TIO_PERk_NS (i : Nat) : Fld := ⟨8 * (TIO_PERk_A i) + 0, 30, 0⟩
/-- Address of `TIO_STATk` (R245). -/
def TIO_STATk_A (i : Nat) : Nat := 0x10300208 + 16 * i
def TIO_STATk_LEVEL (i : Nat) : Fld := ⟨8 * (TIO_STATk_A i) + 0, 1, 0⟩
def TIO_STATk_QDEPTH (i : Nat) : Fld := ⟨8 * (TIO_STATk_A i) + 8, 5, 0⟩
def TIO_STATk_CDEPTH (i : Nat) : Fld := ⟨8 * (TIO_STATk_A i) + 16, 5, 0⟩
/-- Address of `TIO_EV_SEC` (R245). -/
def TIO_EV_SEC_A : Nat := 0x10300300
def TIO_EV_SEC_SEC : Fld := ⟨8 * TIO_EV_SEC_A + 0, 32, 0⟩
/-- Address of `TIO_EV_NS` (R245). -/
def TIO_EV_NS_A : Nat := 0x10300304
def TIO_EV_NS_NS : Fld := ⟨8 * TIO_EV_NS_A + 0, 30, 0⟩
/-- Address of `TIO_EV_PUSH` (R245). -/
def TIO_EV_PUSH_A : Nat := 0x10300308
def TIO_EV_PUSH_PIN : Fld := ⟨8 * TIO_EV_PUSH_A + 0, 4, 0⟩
def TIO_EV_PUSH_ACT : Fld := ⟨8 * TIO_EV_PUSH_A + 4, 3, 0⟩
def TIO_EV_PUSH_WIDTH : Fld := ⟨8 * TIO_EV_PUSH_A + 8, 24, 0⟩
/-- Address of `TIO_EV_RES` (R245). -/
def TIO_EV_RES_A : Nat := 0x1030030c
def TIO_EV_RES_ERR : Fld := ⟨8 * TIO_EV_RES_A + 0, 2, 0⟩
/-- Address of `TIO_CAP_SEL` (R245). -/
def TIO_CAP_SEL_A : Nat := 0x10300310
def TIO_CAP_SEL_PIN : Fld := ⟨8 * TIO_CAP_SEL_A + 0, 4, 0⟩
/-- Address of `TIO_CAP_SEC` (R245). -/
def TIO_CAP_SEC_A : Nat := 0x10300314
def TIO_CAP_SEC_SEC : Fld := ⟨8 * TIO_CAP_SEC_A + 0, 32, 0⟩
/-- Address of `TIO_CAP_NS` (R245). -/
def TIO_CAP_NS_A : Nat := 0x10300318
def TIO_CAP_NS_NS : Fld := ⟨8 * TIO_CAP_NS_A + 0, 30, 0⟩
def TIO_CAP_NS_VALID : Fld := ⟨8 * TIO_CAP_NS_A + 30, 1, 0⟩
def TIO_CAP_NS_RISE : Fld := ⟨8 * TIO_CAP_NS_A + 31, 1, 0⟩
/-- Address of `TIO_CAP_POP` (R245). -/
def TIO_CAP_POP_A : Nat := 0x1030031c
def TIO_CAP_POP_POP : Fld := ⟨8 * TIO_CAP_POP_A + 0, 1, 0⟩
/-- Address of `TIO_LATE` (R245). -/
def TIO_LATE_A : Nat := 0x10300320
def TIO_LATE_COUNT : Fld := ⟨8 * TIO_LATE_A + 0, 32, 0⟩
/-- Address of `TIO_CAPLOST` (R245). -/
def TIO_CAPLOST_A : Nat := 0x10300324
def TIO_CAPLOST_COUNT : Fld := ⟨8 * TIO_CAPLOST_A + 0, 32, 0⟩

end Sys2Proof.Machine
end

