-- ==== Sys2Proof/Machine/RegsPorts.lean ====
section
/-! DEFINITION. Named fields of the registers of blocks ETH, STO, PDC, DSO, USB, as their register tables give them.
Each field is named BLOCK_REGISTER_FIELD (00_scope, Registers); a field of an indexed register takes its index.
The table words behind an indirect window have homes above the 40-bit address space. -/

namespace Sys2Proof.Machine

/-- Address of `ETH_CTL` (R391). -/
def ETH_CTL_A (i : Nat) : Nat := 0x10a00000 + 4096 * i
def ETH_CTL_EN (i : Nat) : Fld := ⟨8 * (ETH_CTL_A i) + 0, 1, 0⟩
def ETH_CTL_MODE (i : Nat) : Fld := ⟨8 * (ETH_CTL_A i) + 1, 3, 0⟩
def ETH_CTL_AN_EN (i : Nat) : Fld := ⟨8 * (ETH_CTL_A i) + 4, 1, 1⟩
def ETH_CTL_PAUSE_RX (i : Nat) : Fld := ⟨8 * (ETH_CTL_A i) + 5, 1, 1⟩
def ETH_CTL_MAXFRM (i : Nat) : Fld := ⟨8 * (ETH_CTL_A i) + 8, 14, 0x2400⟩
/-- Address of `ETH_STAT` (R391). -/
def ETH_STAT_A (i : Nat) : Nat := 0x10a00004 + 4096 * i
def ETH_STAT_LINK (i : Nat) : Fld := ⟨8 * (ETH_STAT_A i) + 0, 1, 0⟩
def ETH_STAT_AN_DONE (i : Nat) : Fld := ⟨8 * (ETH_STAT_A i) + 1, 1, 0⟩
def ETH_STAT_LP_PAUSE (i : Nat) : Fld := ⟨8 * (ETH_STAT_A i) + 2, 1, 0⟩
def ETH_STAT_PAUSED (i : Nat) : Fld := ⟨8 * (ETH_STAT_A i) + 3, 1, 0⟩
/-- Address of `ETH_EVT` (R391). -/
def ETH_EVT_A (i : Nat) : Nat := 0x10a00008 + 4096 * i
def ETH_EVT_LINK_UP (i : Nat) : Fld := ⟨8 * (ETH_EVT_A i) + 0, 1, 0⟩
def ETH_EVT_LINK_DOWN (i : Nat) : Fld := ⟨8 * (ETH_EVT_A i) + 1, 1, 0⟩
def ETH_EVT_TSF_OVF (i : Nat) : Fld := ⟨8 * (ETH_EVT_A i) + 2, 1, 0⟩
def ETH_EVT_HTX_ERR (i : Nat) : Fld := ⟨8 * (ETH_EVT_A i) + 3, 1, 0⟩
/-- Address of `ETH_EVT_EN` (R391). -/
def ETH_EVT_EN_A (i : Nat) : Nat := 0x10a0000c + 4096 * i
def ETH_EVT_EN_LINK_UP (i : Nat) : Fld := ⟨8 * (ETH_EVT_EN_A i) + 0, 1, 0⟩
def ETH_EVT_EN_LINK_DOWN (i : Nat) : Fld := ⟨8 * (ETH_EVT_EN_A i) + 1, 1, 0⟩
def ETH_EVT_EN_TSF_OVF (i : Nat) : Fld := ⟨8 * (ETH_EVT_EN_A i) + 2, 1, 0⟩
def ETH_EVT_EN_HTX_ERR (i : Nat) : Fld := ⟨8 * (ETH_EVT_EN_A i) + 3, 1, 0⟩
/-- Address of `ETH_VLAN` (R392). -/
def ETH_VLAN_A (i : Nat) : Nat := 0x10a00010 + 4096 * i
def ETH_VLAN_PVID (i : Nat) : Fld := ⟨8 * (ETH_VLAN_A i) + 0, 12, 1⟩
def ETH_VLAN_COLMAP (i : Nat) : Fld := ⟨8 * (ETH_VLAN_A i) + 16, 16, 0⟩
/-- Address of `ETH_TS_CTL` (R392). -/
def ETH_TS_CTL_A (i : Nat) : Nat := 0x10a00014 + 4096 * i
def ETH_TS_CTL_TB (i : Nat) : Fld := ⟨8 * (ETH_TS_CTL_A i) + 0, 2, 0⟩
def ETH_TS_CTL_TC (i : Nat) : Fld := ⟨8 * (ETH_TS_CTL_A i) + 2, 1, 0⟩
/-- Address of `ETH_TS_RXDLY` (R392). -/
def ETH_TS_RXDLY_A (i : Nat) : Nat := 0x10a00018 + 4096 * i
def ETH_TS_RXDLY_PS (i : Nat) : Fld := ⟨8 * (ETH_TS_RXDLY_A i) + 0, 16, 0⟩
/-- Address of `ETH_TS_TXDLY` (R392). -/
def ETH_TS_TXDLY_A (i : Nat) : Nat := 0x10a0001c + 4096 * i
def ETH_TS_TXDLY_PS (i : Nat) : Fld := ⟨8 * (ETH_TS_TXDLY_A i) + 0, 16, 0⟩
/-- Address of `ETH_MAC_LO` (R392). -/
def ETH_MAC_LO_A (i : Nat) : Nat := 0x10a00020 + 4096 * i
def ETH_MAC_LO_ADDR (i : Nat) : Fld := ⟨8 * (ETH_MAC_LO_A i) + 0, 32, 0⟩
/-- Address of `ETH_MAC_HI` (R392). -/
def ETH_MAC_HI_A (i : Nat) : Nat := 0x10a00024 + 4096 * i
def ETH_MAC_HI_ADDR (i : Nat) : Fld := ⟨8 * (ETH_MAC_HI_A i) + 0, 16, 0⟩
/-- Address of `ETH_HOST_CTL` (R392). -/
def ETH_HOST_CTL_A (i : Nat) : Nat := 0x10a00028 + 4096 * i
def ETH_HOST_CTL_PTP (i : Nat) : Fld := ⟨8 * (ETH_HOST_CTL_A i) + 0, 1, 0⟩
def ETH_HOST_CTL_MYMAC (i : Nat) : Fld := ⟨8 * (ETH_HOST_CTL_A i) + 1, 1, 0⟩
def ETH_HOST_CTL_PQ (i : Nat) : Fld := ⟨8 * (ETH_HOST_CTL_A i) + 8, 5, 0⟩
/-- Address of `ETH_TSF_INFO` (R392). -/
def ETH_TSF_INFO_A (i : Nat) : Nat := 0x10a00030 + 4096 * i
def ETH_TSF_INFO_SEQID (i : Nat) : Fld := ⟨8 * (ETH_TSF_INFO_A i) + 0, 16, 0⟩
def ETH_TSF_INFO_MSGTYPE (i : Nat) : Fld := ⟨8 * (ETH_TSF_INFO_A i) + 16, 4, 0⟩
def ETH_TSF_INFO_TAG (i : Nat) : Fld := ⟨8 * (ETH_TSF_INFO_A i) + 20, 8, 0⟩
def ETH_TSF_INFO_VALID (i : Nat) : Fld := ⟨8 * (ETH_TSF_INFO_A i) + 31, 1, 0⟩
/-- Address of `ETH_TSF_SEC` (R392). -/
def ETH_TSF_SEC_A (i : Nat) : Nat := 0x10a00034 + 4096 * i
def ETH_TSF_SEC_SEC (i : Nat) : Fld := ⟨8 * (ETH_TSF_SEC_A i) + 0, 32, 0⟩
/-- Address of `ETH_TSF_NS` (R392). -/
def ETH_TSF_NS_A (i : Nat) : Nat := 0x10a00038 + 4096 * i
def ETH_TSF_NS_NS (i : Nat) : Fld := ⟨8 * (ETH_TSF_NS_A i) + 0, 30, 0⟩
/-- Address of `ETH_TSF_POP` (R392). -/
def ETH_TSF_POP_A (i : Nat) : Nat := 0x10a0003c + 4096 * i
def ETH_TSF_POP_POP (i : Nat) : Fld := ⟨8 * (ETH_TSF_POP_A i) + 0, 1, 0⟩
/-- Address of `ETH_HTX_BASE` (R392). -/
def ETH_HTX_BASE_A (i : Nat) : Nat := 0x10a00040 + 4096 * i
def ETH_HTX_BASE_BASE (i : Nat) : Fld := ⟨8 * (ETH_HTX_BASE_A i) + 0, 23, 0⟩
def ETH_HTX_BASE_MEM (i : Nat) : Fld := ⟨8 * (ETH_HTX_BASE_A i) + 31, 1, 0⟩
/-- Address of `ETH_HTX_CFG` (R392). -/
def ETH_HTX_CFG_A (i : Nat) : Nat := 0x10a00044 + 4096 * i
def ETH_HTX_CFG_LOG2 (i : Nat) : Fld := ⟨8 * (ETH_HTX_CFG_A i) + 0, 4, 0⟩
def ETH_HTX_CFG_EVQ (i : Nat) : Fld := ⟨8 * (ETH_HTX_CFG_A i) + 8, 5, 0⟩
def ETH_HTX_CFG_EN (i : Nat) : Fld := ⟨8 * (ETH_HTX_CFG_A i) + 16, 1, 0⟩
/-- Address of `ETH_HTX_WR` (R392). -/
def ETH_HTX_WR_A (i : Nat) : Nat := 0x10a00048 + 4096 * i
def ETH_HTX_WR_IDX (i : Nat) : Fld := ⟨8 * (ETH_HTX_WR_A i) + 0, 10, 0⟩
/-- Address of `ETH_HTX_RD` (R392). -/
def ETH_HTX_RD_A (i : Nat) : Nat := 0x10a0004c + 4096 * i
def ETH_HTX_RD_IDX (i : Nat) : Fld := ⟨8 * (ETH_HTX_RD_A i) + 0, 10, 0⟩
/-- Address of `ETH_RX_FRAMES` (R393). -/
def ETH_RX_FRAMES_A (i : Nat) : Nat := 0x10a00080 + 4096 * i
def ETH_RX_FRAMES_COUNT (i : Nat) : Fld := ⟨8 * (ETH_RX_FRAMES_A i) + 0, 32, 0⟩
/-- Address of `ETH_RX_FCS` (R393). -/
def ETH_RX_FCS_A (i : Nat) : Nat := 0x10a00084 + 4096 * i
def ETH_RX_FCS_COUNT (i : Nat) : Fld := ⟨8 * (ETH_RX_FCS_A i) + 0, 32, 0⟩
/-- Address of `ETH_RX_RUNT` (R393). -/
def ETH_RX_RUNT_A (i : Nat) : Nat := 0x10a00088 + 4096 * i
def ETH_RX_RUNT_COUNT (i : Nat) : Fld := ⟨8 * (ETH_RX_RUNT_A i) + 0, 32, 0⟩
/-- Address of `ETH_RX_LONG` (R393). -/
def ETH_RX_LONG_A (i : Nat) : Nat := 0x10a0008c + 4096 * i
def ETH_RX_LONG_COUNT (i : Nat) : Fld := ⟨8 * (ETH_RX_LONG_A i) + 0, 32, 0⟩
/-- Address of `ETH_RX_NOMAP` (R393). -/
def ETH_RX_NOMAP_A (i : Nat) : Nat := 0x10a00090 + 4096 * i
def ETH_RX_NOMAP_COUNT (i : Nat) : Fld := ⟨8 * (ETH_RX_NOMAP_A i) + 0, 32, 0⟩
/-- Address of `ETH_RX_NOCTX` (R393). -/
def ETH_RX_NOCTX_A (i : Nat) : Nat := 0x10a00094 + 4096 * i
def ETH_RX_NOCTX_COUNT (i : Nat) : Fld := ⟨8 * (ETH_RX_NOCTX_A i) + 0, 32, 0⟩
/-- Address of `ETH_RX_HOST` (R393). -/
def ETH_RX_HOST_A (i : Nat) : Nat := 0x10a00098 + 4096 * i
def ETH_RX_HOST_COUNT (i : Nat) : Fld := ⟨8 * (ETH_RX_HOST_A i) + 0, 32, 0⟩
/-- Address of `ETH_RX_PAUSE` (R393). -/
def ETH_RX_PAUSE_A (i : Nat) : Nat := 0x10a0009c + 4096 * i
def ETH_RX_PAUSE_COUNT (i : Nat) : Fld := ⟨8 * (ETH_RX_PAUSE_A i) + 0, 32, 0⟩
/-- Address of `ETH_TX_FRAMES` (R393). -/
def ETH_TX_FRAMES_A (i : Nat) : Nat := 0x10a000a0 + 4096 * i
def ETH_TX_FRAMES_COUNT (i : Nat) : Fld := ⟨8 * (ETH_TX_FRAMES_A i) + 0, 32, 0⟩
/-- Address of `ETH_TX_LONG` (R393). -/
def ETH_TX_LONG_A (i : Nat) : Nat := 0x10a000a4 + 4096 * i
def ETH_TX_LONG_COUNT (i : Nat) : Fld := ⟨8 * (ETH_TX_LONG_A i) + 0, 32, 0⟩
/-- Address of `ETH_TX_LINKDOWN` (R393). -/
def ETH_TX_LINKDOWN_A (i : Nat) : Nat := 0x10a000a8 + 4096 * i
def ETH_TX_LINKDOWN_COUNT (i : Nat) : Fld := ⟨8 * (ETH_TX_LINKDOWN_A i) + 0, 32, 0⟩
/-- Address of `ETH_TSF_LOST` (R393). -/
def ETH_TSF_LOST_A (i : Nat) : Nat := 0x10a000ac + 4096 * i
def ETH_TSF_LOST_COUNT (i : Nat) : Fld := ⟨8 * (ETH_TSF_LOST_A i) + 0, 32, 0⟩
/-- Address of `ETH_PTP_IPV6` (R393). -/
def ETH_PTP_IPV6_A (i : Nat) : Nat := 0x10a000b0 + 4096 * i
def ETH_PTP_IPV6_COUNT (i : Nat) : Fld := ⟨8 * (ETH_PTP_IPV6_A i) + 0, 32, 0⟩
/-- Address of `ETH_MAPk` (R394). -/
def ETH_MAPk_A (i j : Nat) : Nat := 0x10a00800 + 4096 * i + 4 * j
def ETH_MAPk_VID (i j : Nat) : Fld := ⟨8 * (ETH_MAPk_A i j) + 0, 12, 0⟩
def ETH_MAPk_CTX (i j : Nat) : Fld := ⟨8 * (ETH_MAPk_A i j) + 12, 10, 0⟩
def ETH_MAPk_TAG (i j : Nat) : Fld := ⟨8 * (ETH_MAPk_A i j) + 22, 2, 0⟩
def ETH_MAPk_PCP (i j : Nat) : Fld := ⟨8 * (ETH_MAPk_A i j) + 24, 3, 0⟩
def ETH_MAPk_VALID (i j : Nat) : Fld := ⟨8 * (ETH_MAPk_A i j) + 31, 1, 0⟩
/-- Address of `STO_CTL` (R405). -/
def STO_CTL_A : Nat := 0x10b00000
def STO_CTL_EN : Fld := ⟨8 * STO_CTL_A + 0, 1, 0⟩
/-- Address of `STO_DW_BASE` (R405). -/
def STO_DW_BASE_A : Nat := 0x10b00010
def STO_DW_BASE_BASE : Fld := ⟨8 * STO_DW_BASE_A + 0, 23, 0⟩
/-- Address of `STO_DW_SIZE` (R405). -/
def STO_DW_SIZE_A : Nat := 0x10b00014
def STO_DW_SIZE_MIB : Fld := ⟨8 * STO_DW_SIZE_A + 0, 10, 0⟩
/-- Address of `STO_WORK_BASE` (R405). -/
def STO_WORK_BASE_A : Nat := 0x10b00018
def STO_WORK_BASE_BASE : Fld := ⟨8 * STO_WORK_BASE_A + 0, 23, 0⟩
/-- Address of `STO_CMD_TO` (R405). -/
def STO_CMD_TO_A : Nat := 0x10b0001c
def STO_CMD_TO_MS : Fld := ⟨8 * STO_CMD_TO_A + 0, 16, 0x7d0⟩
/-- Address of `STO_Sn_CTL` (R405). -/
def STO_Sn_CTL_A (i : Nat) : Nat := 0x10b01000 + 4096 * i
def STO_Sn_CTL_EN (i : Nat) : Fld := ⟨8 * (STO_Sn_CTL_A i) + 0, 1, 0⟩
def STO_Sn_CTL_MAXGEN (i : Nat) : Fld := ⟨8 * (STO_Sn_CTL_A i) + 1, 2, 3⟩
def STO_Sn_CTL_ASPM_L1 (i : Nat) : Fld := ⟨8 * (STO_Sn_CTL_A i) + 3, 1, 0⟩
/-- Address of `STO_Sn_STAT` (R405). -/
def STO_Sn_STAT_A (i : Nat) : Nat := 0x10b01004 + 4096 * i
def STO_Sn_STAT_STATE (i : Nat) : Fld := ⟨8 * (STO_Sn_STAT_A i) + 0, 3, 0⟩
def STO_Sn_STAT_GEN (i : Nat) : Fld := ⟨8 * (STO_Sn_STAT_A i) + 4, 2, 0⟩
def STO_Sn_STAT_WIDTH (i : Nat) : Fld := ⟨8 * (STO_Sn_STAT_A i) + 6, 2, 0⟩
/-- Address of `STO_Sn_EVT` (R405). -/
def STO_Sn_EVT_A (i : Nat) : Nat := 0x10b01008 + 4096 * i
def STO_Sn_EVT_READY (i : Nat) : Fld := ⟨8 * (STO_Sn_EVT_A i) + 0, 1, 0⟩
def STO_Sn_EVT_LOST (i : Nat) : Fld := ⟨8 * (STO_Sn_EVT_A i) + 1, 1, 0⟩
def STO_Sn_EVT_FAILED (i : Nat) : Fld := ⟨8 * (STO_Sn_EVT_A i) + 2, 1, 0⟩
def STO_Sn_EVT_TIMEOUT (i : Nat) : Fld := ⟨8 * (STO_Sn_EVT_A i) + 3, 1, 0⟩
/-- Address of `STO_Sn_EVT_EN` (R405). -/
def STO_Sn_EVT_EN_A (i : Nat) : Nat := 0x10b0100c + 4096 * i
def STO_Sn_EVT_EN_READY (i : Nat) : Fld := ⟨8 * (STO_Sn_EVT_EN_A i) + 0, 1, 0⟩
def STO_Sn_EVT_EN_LOST (i : Nat) : Fld := ⟨8 * (STO_Sn_EVT_EN_A i) + 1, 1, 0⟩
def STO_Sn_EVT_EN_FAILED (i : Nat) : Fld := ⟨8 * (STO_Sn_EVT_EN_A i) + 2, 1, 0⟩
def STO_Sn_EVT_EN_TIMEOUT (i : Nat) : Fld := ⟨8 * (STO_Sn_EVT_EN_A i) + 3, 1, 0⟩
/-- Address of `STO_Sn_REQS` (R405). -/
def STO_Sn_REQS_A (i : Nat) : Nat := 0x10b01040 + 4096 * i
def STO_Sn_REQS_COUNT (i : Nat) : Fld := ⟨8 * (STO_Sn_REQS_A i) + 0, 32, 0⟩
/-- Address of `STO_Sn_DUP_CACHED` (R405). -/
def STO_Sn_DUP_CACHED_A (i : Nat) : Nat := 0x10b01044 + 4096 * i
def STO_Sn_DUP_CACHED_COUNT (i : Nat) : Fld := ⟨8 * (STO_Sn_DUP_CACHED_A i) + 0, 32, 0⟩
/-- Address of `STO_Sn_DUP_INFLIGHT` (R405). -/
def STO_Sn_DUP_INFLIGHT_A (i : Nat) : Nat := 0x10b01048 + 4096 * i
def STO_Sn_DUP_INFLIGHT_COUNT (i : Nat) : Fld := ⟨8 * (STO_Sn_DUP_INFLIGHT_A i) + 0, 32, 0⟩
/-- Address of `STO_Sn_STALE` (R405). -/
def STO_Sn_STALE_A (i : Nat) : Nat := 0x10b0104c + 4096 * i
def STO_Sn_STALE_COUNT (i : Nat) : Fld := ⟨8 * (STO_Sn_STALE_A i) + 0, 32, 0⟩
/-- Address of `STO_Sn_TIMEOUTS` (R405). -/
def STO_Sn_TIMEOUTS_A (i : Nat) : Nat := 0x10b01050 + 4096 * i
def STO_Sn_TIMEOUTS_COUNT (i : Nat) : Fld := ⟨8 * (STO_Sn_TIMEOUTS_A i) + 0, 32, 0⟩
/-- Address of `STO_Sn_ERRORS` (R405). -/
def STO_Sn_ERRORS_A (i : Nat) : Nat := 0x10b01054 + 4096 * i
def STO_Sn_ERRORS_COUNT (i : Nat) : Fld := ⟨8 * (STO_Sn_ERRORS_A i) + 0, 32, 0⟩
/-- Address of `STO_Sn_AER_CORR` (R405). -/
def STO_Sn_AER_CORR_A (i : Nat) : Nat := 0x10b01058 + 4096 * i
def STO_Sn_AER_CORR_COUNT (i : Nat) : Fld := ⟨8 * (STO_Sn_AER_CORR_A i) + 0, 32, 0⟩
/-- Address of `STO_Sn_AER_UNCORR` (R405). -/
def STO_Sn_AER_UNCORR_A (i : Nat) : Nat := 0x10b0105c + 4096 * i
def STO_Sn_AER_UNCORR_COUNT (i : Nat) : Fld := ⟨8 * (STO_Sn_AER_UNCORR_A i) + 0, 32, 0⟩
/-- Address of `STO_Sn_QPk` (R405). -/
def STO_Sn_QPk_A (i j : Nat) : Nat := 0x10b01200 + 4096 * i + 4 * j
def STO_Sn_QPk_CTX (i j : Nat) : Fld := ⟨8 * (STO_Sn_QPk_A i j) + 0, 10, 0⟩
def STO_Sn_QPk_PENDING (i j : Nat) : Fld := ⟨8 * (STO_Sn_QPk_A i j) + 30, 1, 0⟩
def STO_Sn_QPk_VALID (i j : Nat) : Fld := ⟨8 * (STO_Sn_QPk_A i j) + 31, 1, 0⟩
/-- Address of `PDC_CTL` (R431). -/
def PDC_CTL_A : Nat := 0x10c00000
def PDC_CTL_EN : Fld := ⟨8 * PDC_CTL_A + 0, 1, 0⟩
/-- Address of `PDC_NODE` (R431). -/
def PDC_NODE_A : Nat := 0x10c00004
def PDC_NODE_NODE_W : Fld := ⟨8 * PDC_NODE_A + 0, 16, 0⟩
/-- Address of `PDC_ALLOC` (R431). -/
def PDC_ALLOC_A : Nat := 0x10c00008
def PDC_ALLOC_SUM_W : Fld := ⟨8 * PDC_ALLOC_A + 0, 16, 0⟩
/-- Address of `PDC_RECLAIMS` (R431). -/
def PDC_RECLAIMS_A : Nat := 0x10c00010
def PDC_RECLAIMS_COUNT : Fld := ⟨8 * PDC_RECLAIMS_A + 0, 32, 0⟩
/-- Address of `PDC_SHEDS` (R431). -/
def PDC_SHEDS_A : Nat := 0x10c00014
def PDC_SHEDS_COUNT : Fld := ⟨8 * PDC_SHEDS_A + 0, 32, 0⟩
/-- Address of `PDC_SRC_SPRk` (R431). -/
def PDC_SRC_SPRk_A (i : Nat) : Nat := 0x10c00100 + 4 * i
def PDC_SRC_SPRk_EN (i : Nat) : Fld := ⟨8 * (PDC_SRC_SPRk_A i) + 0, 1, 0⟩
def PDC_SRC_SPRk_TYPE (i : Nat) : Fld := ⟨8 * (PDC_SRC_SPRk_A i) + 1, 2, 0⟩
def PDC_SRC_SPRk_VMAX (i : Nat) : Fld := ⟨8 * (PDC_SRC_SPRk_A i) + 3, 10, 0⟩
def PDC_SRC_SPRk_VMIN (i : Nat) : Fld := ⟨8 * (PDC_SRC_SPRk_A i) + 13, 10, 0⟩
def PDC_SRC_SPRk_IMAX (i : Nat) : Fld := ⟨8 * (PDC_SRC_SPRk_A i) + 23, 8, 0⟩
/-- Address of `PDC_SRC_EPRk` (R431). -/
def PDC_SRC_EPRk_A (i : Nat) : Nat := 0x10c00120 + 4 * i
def PDC_SRC_EPRk_EN (i : Nat) : Fld := ⟨8 * (PDC_SRC_EPRk_A i) + 0, 1, 0⟩
def PDC_SRC_EPRk_TYPE (i : Nat) : Fld := ⟨8 * (PDC_SRC_EPRk_A i) + 1, 2, 0⟩
def PDC_SRC_EPRk_VMAX (i : Nat) : Fld := ⟨8 * (PDC_SRC_EPRk_A i) + 3, 10, 0⟩
def PDC_SRC_EPRk_VMIN (i : Nat) : Fld := ⟨8 * (PDC_SRC_EPRk_A i) + 13, 10, 0⟩
def PDC_SRC_EPRk_IMAX (i : Nat) : Fld := ⟨8 * (PDC_SRC_EPRk_A i) + 23, 8, 0⟩
/-- Address of `PDC_SNKk` (R431). -/
def PDC_SNKk_A (i : Nat) : Nat := 0x10c00140 + 4 * i
def PDC_SNKk_EN (i : Nat) : Fld := ⟨8 * (PDC_SNKk_A i) + 0, 1, 0⟩
def PDC_SNKk_TYPE (i : Nat) : Fld := ⟨8 * (PDC_SNKk_A i) + 1, 2, 0⟩
def PDC_SNKk_VMAX (i : Nat) : Fld := ⟨8 * (PDC_SNKk_A i) + 3, 10, 0⟩
def PDC_SNKk_VMIN (i : Nat) : Fld := ⟨8 * (PDC_SNKk_A i) + 13, 10, 0⟩
def PDC_SNKk_IMAX (i : Nat) : Fld := ⟨8 * (PDC_SNKk_A i) + 23, 8, 0⟩
/-- Address of `PDC_Pn_CFG` (R432). -/
def PDC_Pn_CFG_A (i : Nat) : Nat := 0x10c01000 + 256 * i
def PDC_Pn_CFG_EN (i : Nat) : Fld := ⟨8 * (PDC_Pn_CFG_A i) + 0, 1, 0⟩
def PDC_Pn_CFG_ROLE (i : Nat) : Fld := ⟨8 * (PDC_Pn_CFG_A i) + 1, 2, 2⟩
def PDC_Pn_CFG_TRY (i : Nat) : Fld := ⟨8 * (PDC_Pn_CFG_A i) + 3, 2, 0⟩
def PDC_Pn_CFG_RP (i : Nat) : Fld := ⟨8 * (PDC_Pn_CFG_A i) + 5, 2, 2⟩
def PDC_Pn_CFG_PRIO (i : Nat) : Fld := ⟨8 * (PDC_Pn_CFG_A i) + 8, 3, 7⟩
def PDC_Pn_CFG_DR_PREF (i : Nat) : Fld := ⟨8 * (PDC_Pn_CFG_A i) + 11, 1, 1⟩
def PDC_Pn_CFG_EPR_EN (i : Nat) : Fld := ⟨8 * (PDC_Pn_CFG_A i) + 12, 1, 0⟩
def PDC_Pn_CFG_DP_EN (i : Nat) : Fld := ⟨8 * (PDC_Pn_CFG_A i) + 13, 1, 0⟩
def PDC_Pn_CFG_TIRRUN_DFP (i : Nat) : Fld := ⟨8 * (PDC_Pn_CFG_A i) + 14, 1, 0⟩
def PDC_Pn_CFG_TIRRUN_UFP (i : Nat) : Fld := ⟨8 * (PDC_Pn_CFG_A i) + 15, 1, 0⟩
/-- Address of `PDC_Pn_LIMIT` (R432). -/
def PDC_Pn_LIMIT_A (i : Nat) : Nat := 0x10c01004 + 256 * i
def PDC_Pn_LIMIT_MAX_W (i : Nat) : Fld := ⟨8 * (PDC_Pn_LIMIT_A i) + 0, 16, 0x960⟩
def PDC_Pn_LIMIT_MIN_W (i : Nat) : Fld := ⟨8 * (PDC_Pn_LIMIT_A i) + 16, 16, 0x19⟩
/-- Address of `PDC_Pn_REG` (R432). -/
def PDC_Pn_REG_A (i : Nat) : Nat := 0x10c01008 + 256 * i
def PDC_Pn_REG_ADDR (i : Nat) : Fld := ⟨8 * (PDC_Pn_REG_A i) + 0, 7, 0⟩
def PDC_Pn_REG_PAGE (i : Nat) : Fld := ⟨8 * (PDC_Pn_REG_A i) + 8, 8, 0⟩
/-- Address of `PDC_Pn_STAT` (R432). -/
def PDC_Pn_STAT_A (i : Nat) : Nat := 0x10c0100c + 256 * i
def PDC_Pn_STAT_CONN (i : Nat) : Fld := ⟨8 * (PDC_Pn_STAT_A i) + 0, 3, 0⟩
def PDC_Pn_STAT_FLIP (i : Nat) : Fld := ⟨8 * (PDC_Pn_STAT_A i) + 3, 1, 0⟩
def PDC_Pn_STAT_DFP (i : Nat) : Fld := ⟨8 * (PDC_Pn_STAT_A i) + 4, 1, 0⟩
def PDC_Pn_STAT_VCONN (i : Nat) : Fld := ⟨8 * (PDC_Pn_STAT_A i) + 5, 1, 0⟩
def PDC_Pn_STAT_RPCUR (i : Nat) : Fld := ⟨8 * (PDC_Pn_STAT_A i) + 6, 2, 0⟩
def PDC_Pn_STAT_REV (i : Nat) : Fld := ⟨8 * (PDC_Pn_STAT_A i) + 8, 2, 0⟩
def PDC_Pn_STAT_EXPLICIT (i : Nat) : Fld := ⟨8 * (PDC_Pn_STAT_A i) + 10, 1, 0⟩
def PDC_Pn_STAT_EPR (i : Nat) : Fld := ⟨8 * (PDC_Pn_STAT_A i) + 11, 1, 0⟩
def PDC_Pn_STAT_ALT (i : Nat) : Fld := ⟨8 * (PDC_Pn_STAT_A i) + 12, 2, 0⟩
def PDC_Pn_STAT_PIN (i : Nat) : Fld := ⟨8 * (PDC_Pn_STAT_A i) + 14, 2, 0⟩
def PDC_Pn_STAT_HPD (i : Nat) : Fld := ⟨8 * (PDC_Pn_STAT_A i) + 16, 1, 0⟩
def PDC_Pn_STAT_CABLE_I (i : Nat) : Fld := ⟨8 * (PDC_Pn_STAT_A i) + 17, 2, 0⟩
def PDC_Pn_STAT_CABLE_EPR (i : Nat) : Fld := ⟨8 * (PDC_Pn_STAT_A i) + 19, 1, 0⟩
def PDC_Pn_STAT_CABLE_SPD (i : Nat) : Fld := ⟨8 * (PDC_Pn_STAT_A i) + 20, 3, 0⟩
/-- Address of `PDC_Pn_CONTRACT` (R432). -/
def PDC_Pn_CONTRACT_A (i : Nat) : Nat := 0x10c01010 + 256 * i
def PDC_Pn_CONTRACT_VOLT (i : Nat) : Fld := ⟨8 * (PDC_Pn_CONTRACT_A i) + 0, 12, 0⟩
def PDC_Pn_CONTRACT_CUR (i : Nat) : Fld := ⟨8 * (PDC_Pn_CONTRACT_A i) + 12, 10, 0⟩
def PDC_Pn_CONTRACT_POS (i : Nat) : Fld := ⟨8 * (PDC_Pn_CONTRACT_A i) + 22, 4, 0⟩
def PDC_Pn_CONTRACT_TYPE (i : Nat) : Fld := ⟨8 * (PDC_Pn_CONTRACT_A i) + 26, 2, 0⟩
def PDC_Pn_CONTRACT_SINK (i : Nat) : Fld := ⟨8 * (PDC_Pn_CONTRACT_A i) + 28, 1, 0⟩
/-- Address of `PDC_Pn_ALLOC` (R432). -/
def PDC_Pn_ALLOC_A (i : Nat) : Nat := 0x10c01014 + 256 * i
def PDC_Pn_ALLOC_W (i : Nat) : Fld := ⟨8 * (PDC_Pn_ALLOC_A i) + 0, 16, 0⟩
/-- Address of `PDC_Pn_VBUS` (R432). -/
def PDC_Pn_VBUS_A (i : Nat) : Nat := 0x10c01018 + 256 * i
def PDC_Pn_VBUS_MV (i : Nat) : Fld := ⟨8 * (PDC_Pn_VBUS_A i) + 0, 16, 0⟩
def PDC_Pn_VBUS_MA (i : Nat) : Fld := ⟨8 * (PDC_Pn_VBUS_A i) + 16, 16, 0⟩
/-- Address of `PDC_Pn_EVT` (R433). -/
def PDC_Pn_EVT_A (i : Nat) : Nat := 0x10c01020 + 256 * i
def PDC_Pn_EVT_ATTACH (i : Nat) : Fld := ⟨8 * (PDC_Pn_EVT_A i) + 0, 1, 0⟩
def PDC_Pn_EVT_DETACH (i : Nat) : Fld := ⟨8 * (PDC_Pn_EVT_A i) + 1, 1, 0⟩
def PDC_Pn_EVT_CONTRACT (i : Nat) : Fld := ⟨8 * (PDC_Pn_EVT_A i) + 2, 1, 0⟩
def PDC_Pn_EVT_DETACH_IN_TRANSITION (i : Nat) : Fld := ⟨8 * (PDC_Pn_EVT_A i) + 3, 1, 0⟩
def PDC_Pn_EVT_SWAP_DONE (i : Nat) : Fld := ⟨8 * (PDC_Pn_EVT_A i) + 4, 1, 0⟩
def PDC_Pn_EVT_VBUS_FAULT (i : Nat) : Fld := ⟨8 * (PDC_Pn_EVT_A i) + 5, 1, 0⟩
def PDC_Pn_EVT_HARD_RESET (i : Nat) : Fld := ⟨8 * (PDC_Pn_EVT_A i) + 6, 1, 0⟩
def PDC_Pn_EVT_SHED (i : Nat) : Fld := ⟨8 * (PDC_Pn_EVT_A i) + 7, 1, 0⟩
def PDC_Pn_EVT_VCONN_OC (i : Nat) : Fld := ⟨8 * (PDC_Pn_EVT_A i) + 8, 1, 0⟩
def PDC_Pn_EVT_ALT_CHANGE (i : Nat) : Fld := ⟨8 * (PDC_Pn_EVT_A i) + 9, 1, 0⟩
def PDC_Pn_EVT_ALT_NO_LANES (i : Nat) : Fld := ⟨8 * (PDC_Pn_EVT_A i) + 10, 1, 0⟩
def PDC_Pn_EVT_CMD_DONE (i : Nat) : Fld := ⟨8 * (PDC_Pn_EVT_A i) + 11, 1, 0⟩
/-- Address of `PDC_Pn_EVT_EN` (R433). -/
def PDC_Pn_EVT_EN_A (i : Nat) : Nat := 0x10c01024 + 256 * i
def PDC_Pn_EVT_EN_ATTACH (i : Nat) : Fld := ⟨8 * (PDC_Pn_EVT_EN_A i) + 0, 1, 0⟩
def PDC_Pn_EVT_EN_DETACH (i : Nat) : Fld := ⟨8 * (PDC_Pn_EVT_EN_A i) + 1, 1, 0⟩
def PDC_Pn_EVT_EN_CONTRACT (i : Nat) : Fld := ⟨8 * (PDC_Pn_EVT_EN_A i) + 2, 1, 0⟩
def PDC_Pn_EVT_EN_DETACH_IN_TRANSITION (i : Nat) : Fld := ⟨8 * (PDC_Pn_EVT_EN_A i) + 3, 1, 0⟩
def PDC_Pn_EVT_EN_SWAP_DONE (i : Nat) : Fld := ⟨8 * (PDC_Pn_EVT_EN_A i) + 4, 1, 0⟩
def PDC_Pn_EVT_EN_VBUS_FAULT (i : Nat) : Fld := ⟨8 * (PDC_Pn_EVT_EN_A i) + 5, 1, 0⟩
def PDC_Pn_EVT_EN_HARD_RESET (i : Nat) : Fld := ⟨8 * (PDC_Pn_EVT_EN_A i) + 6, 1, 0⟩
def PDC_Pn_EVT_EN_SHED (i : Nat) : Fld := ⟨8 * (PDC_Pn_EVT_EN_A i) + 7, 1, 0⟩
def PDC_Pn_EVT_EN_VCONN_OC (i : Nat) : Fld := ⟨8 * (PDC_Pn_EVT_EN_A i) + 8, 1, 0⟩
def PDC_Pn_EVT_EN_ALT_CHANGE (i : Nat) : Fld := ⟨8 * (PDC_Pn_EVT_EN_A i) + 9, 1, 0⟩
def PDC_Pn_EVT_EN_ALT_NO_LANES (i : Nat) : Fld := ⟨8 * (PDC_Pn_EVT_EN_A i) + 10, 1, 0⟩
def PDC_Pn_EVT_EN_CMD_DONE (i : Nat) : Fld := ⟨8 * (PDC_Pn_EVT_EN_A i) + 11, 1, 0⟩
/-- Address of `PDC_Pn_CMD` (R433). -/
def PDC_Pn_CMD_A (i : Nat) : Nat := 0x10c01028 + 256 * i
def PDC_Pn_CMD_OP (i : Nat) : Fld := ⟨8 * (PDC_Pn_CMD_A i) + 0, 4, 0⟩
/-- Address of `PDC_Pn_CMDRES` (R433). -/
def PDC_Pn_CMDRES_A (i : Nat) : Nat := 0x10c0102c + 256 * i
def PDC_Pn_CMDRES_DONE (i : Nat) : Fld := ⟨8 * (PDC_Pn_CMDRES_A i) + 0, 1, 1⟩
def PDC_Pn_CMDRES_RESULT (i : Nat) : Fld := ⟨8 * (PDC_Pn_CMDRES_A i) + 1, 3, 0⟩
/-- Address of `PDC_Pn_MSG_TX` (R433). -/
def PDC_Pn_MSG_TX_A (i : Nat) : Nat := 0x10c01040 + 256 * i
def PDC_Pn_MSG_TX_COUNT (i : Nat) : Fld := ⟨8 * (PDC_Pn_MSG_TX_A i) + 0, 32, 0⟩
/-- Address of `PDC_Pn_RETRY` (R433). -/
def PDC_Pn_RETRY_A (i : Nat) : Nat := 0x10c01044 + 256 * i
def PDC_Pn_RETRY_COUNT (i : Nat) : Fld := ⟨8 * (PDC_Pn_RETRY_A i) + 0, 32, 0⟩
/-- Address of `PDC_Pn_HRESET` (R433). -/
def PDC_Pn_HRESET_A (i : Nat) : Nat := 0x10c01048 + 256 * i
def PDC_Pn_HRESET_COUNT (i : Nat) : Fld := ⟨8 * (PDC_Pn_HRESET_A i) + 0, 32, 0⟩
/-- Address of `PDC_Pn_DIT` (R433). -/
def PDC_Pn_DIT_A (i : Nat) : Nat := 0x10c0104c + 256 * i
def PDC_Pn_DIT_COUNT (i : Nat) : Fld := ⟨8 * (PDC_Pn_DIT_A i) + 0, 32, 0⟩
/-- Address of `PDC_Pn_VFAULT` (R433). -/
def PDC_Pn_VFAULT_A (i : Nat) : Nat := 0x10c01050 + 256 * i
def PDC_Pn_VFAULT_COUNT (i : Nat) : Fld := ⟨8 * (PDC_Pn_VFAULT_A i) + 0, 32, 0⟩
/-- Address of `DSO_CTL` (R455). -/
def DSO_CTL_A : Nat := 0x10d00000
def DSO_CTL_LOCK : Fld := ⟨8 * DSO_CTL_A + 0, 1, 0⟩
def DSO_CTL_LOCK_OK : Fld := ⟨8 * DSO_CTL_A + 1, 1, 0⟩
/-- Address of `DSO_Dn_CTL` (R455). -/
def DSO_Dn_CTL_A (i : Nat) : Nat := 0x10d01000 + 4096 * i
def DSO_Dn_CTL_EN (i : Nat) : Fld := ⟨8 * (DSO_Dn_CTL_A i) + 0, 1, 0⟩
def DSO_Dn_CTL_ROUTE (i : Nat) : Fld := ⟨8 * (DSO_Dn_CTL_A i) + 1, 4, 0⟩
def DSO_Dn_CTL_LANES (i : Nat) : Fld := ⟨8 * (DSO_Dn_CTL_A i) + 5, 2, 2⟩
def DSO_Dn_CTL_RATE (i : Nat) : Fld := ⟨8 * (DSO_Dn_CTL_A i) + 8, 2, 3⟩
def DSO_Dn_CTL_UPD (i : Nat) : Fld := ⟨8 * (DSO_Dn_CTL_A i) + 10, 1, 0⟩
def DSO_Dn_CTL_TEPOL (i : Nat) : Fld := ⟨8 * (DSO_Dn_CTL_A i) + 11, 1, 0⟩
def DSO_Dn_CTL_BPC10 (i : Nat) : Fld := ⟨8 * (DSO_Dn_CTL_A i) + 12, 1, 1⟩
/-- Address of `DSO_Dn_STAT` (R455). -/
def DSO_Dn_STAT_A (i : Nat) : Nat := 0x10d01004 + 4096 * i
def DSO_Dn_STAT_STATE (i : Nat) : Fld := ⟨8 * (DSO_Dn_STAT_A i) + 0, 3, 0⟩
def DSO_Dn_STAT_LANES_ACT (i : Nat) : Fld := ⟨8 * (DSO_Dn_STAT_A i) + 4, 2, 0⟩
def DSO_Dn_STAT_RATE_ACT (i : Nat) : Fld := ⟨8 * (DSO_Dn_STAT_A i) + 6, 2, 0⟩
def DSO_Dn_STAT_HPD (i : Nat) : Fld := ⟨8 * (DSO_Dn_STAT_A i) + 8, 1, 0⟩
/-- Address of `DSO_Dn_EVT` (R455). -/
def DSO_Dn_EVT_A (i : Nat) : Nat := 0x10d01008 + 4096 * i
def DSO_Dn_EVT_VBLANK (i : Nat) : Fld := ⟨8 * (DSO_Dn_EVT_A i) + 0, 1, 0⟩
def DSO_Dn_EVT_FLIP (i : Nat) : Fld := ⟨8 * (DSO_Dn_EVT_A i) + 1, 1, 0⟩
def DSO_Dn_EVT_UNDERRUN (i : Nat) : Fld := ⟨8 * (DSO_Dn_EVT_A i) + 2, 1, 0⟩
def DSO_Dn_EVT_ABORT (i : Nat) : Fld := ⟨8 * (DSO_Dn_EVT_A i) + 3, 1, 0⟩
def DSO_Dn_EVT_TE_LOST (i : Nat) : Fld := ⟨8 * (DSO_Dn_EVT_A i) + 4, 1, 0⟩
def DSO_Dn_EVT_TRAIN_FAIL (i : Nat) : Fld := ⟨8 * (DSO_Dn_EVT_A i) + 5, 1, 0⟩
def DSO_Dn_EVT_CFG_ERR (i : Nat) : Fld := ⟨8 * (DSO_Dn_EVT_A i) + 6, 1, 0⟩
def DSO_Dn_EVT_HPD_CHANGE (i : Nat) : Fld := ⟨8 * (DSO_Dn_EVT_A i) + 7, 1, 0⟩
/-- Address of `DSO_Dn_EVT_EN` (R455). -/
def DSO_Dn_EVT_EN_A (i : Nat) : Nat := 0x10d0100c + 4096 * i
def DSO_Dn_EVT_EN_VBLANK (i : Nat) : Fld := ⟨8 * (DSO_Dn_EVT_EN_A i) + 0, 1, 0⟩
def DSO_Dn_EVT_EN_FLIP (i : Nat) : Fld := ⟨8 * (DSO_Dn_EVT_EN_A i) + 1, 1, 0⟩
def DSO_Dn_EVT_EN_UNDERRUN (i : Nat) : Fld := ⟨8 * (DSO_Dn_EVT_EN_A i) + 2, 1, 0⟩
def DSO_Dn_EVT_EN_ABORT (i : Nat) : Fld := ⟨8 * (DSO_Dn_EVT_EN_A i) + 3, 1, 0⟩
def DSO_Dn_EVT_EN_TE_LOST (i : Nat) : Fld := ⟨8 * (DSO_Dn_EVT_EN_A i) + 4, 1, 0⟩
def DSO_Dn_EVT_EN_TRAIN_FAIL (i : Nat) : Fld := ⟨8 * (DSO_Dn_EVT_EN_A i) + 5, 1, 0⟩
def DSO_Dn_EVT_EN_CFG_ERR (i : Nat) : Fld := ⟨8 * (DSO_Dn_EVT_EN_A i) + 6, 1, 0⟩
def DSO_Dn_EVT_EN_HPD_CHANGE (i : Nat) : Fld := ⟨8 * (DSO_Dn_EVT_EN_A i) + 7, 1, 0⟩
/-- Address of `DSO_Dn_HTIM0` (R456). -/
def DSO_Dn_HTIM0_A (i : Nat) : Nat := 0x10d01010 + 4096 * i
def DSO_Dn_HTIM0_HACTIVE (i : Nat) : Fld := ⟨8 * (DSO_Dn_HTIM0_A i) + 0, 14, 0⟩
def DSO_Dn_HTIM0_HFP (i : Nat) : Fld := ⟨8 * (DSO_Dn_HTIM0_A i) + 16, 14, 0⟩
/-- Address of `DSO_Dn_HTIM1` (R456). -/
def DSO_Dn_HTIM1_A (i : Nat) : Nat := 0x10d01014 + 4096 * i
def DSO_Dn_HTIM1_HSYNC (i : Nat) : Fld := ⟨8 * (DSO_Dn_HTIM1_A i) + 0, 14, 0⟩
def DSO_Dn_HTIM1_HBP (i : Nat) : Fld := ⟨8 * (DSO_Dn_HTIM1_A i) + 16, 14, 0⟩
def DSO_Dn_HTIM1_HPOL (i : Nat) : Fld := ⟨8 * (DSO_Dn_HTIM1_A i) + 31, 1, 0⟩
/-- Address of `DSO_Dn_VTIM0` (R456). -/
def DSO_Dn_VTIM0_A (i : Nat) : Nat := 0x10d01018 + 4096 * i
def DSO_Dn_VTIM0_VACTIVE (i : Nat) : Fld := ⟨8 * (DSO_Dn_VTIM0_A i) + 0, 14, 0⟩
def DSO_Dn_VTIM0_VFP (i : Nat) : Fld := ⟨8 * (DSO_Dn_VTIM0_A i) + 16, 14, 0⟩
/-- Address of `DSO_Dn_VTIM1` (R456). -/
def DSO_Dn_VTIM1_A (i : Nat) : Nat := 0x10d0101c + 4096 * i
def DSO_Dn_VTIM1_VSYNC (i : Nat) : Fld := ⟨8 * (DSO_Dn_VTIM1_A i) + 0, 14, 0⟩
def DSO_Dn_VTIM1_VBP (i : Nat) : Fld := ⟨8 * (DSO_Dn_VTIM1_A i) + 16, 14, 0⟩
def DSO_Dn_VTIM1_VPOL (i : Nat) : Fld := ⟨8 * (DSO_Dn_VTIM1_A i) + 31, 1, 0⟩
/-- Address of `DSO_Dn_PCLK` (R456). -/
def DSO_Dn_PCLK_A (i : Nat) : Nat := 0x10d01020 + 4096 * i
def DSO_Dn_PCLK_KHZ (i : Nat) : Fld := ⟨8 * (DSO_Dn_PCLK_A i) + 0, 20, 0⟩
/-- Address of `DSO_Dn_BG` (R456). -/
def DSO_Dn_BG_A (i : Nat) : Nat := 0x10d01024 + 4096 * i
def DSO_Dn_BG_RGB (i : Nat) : Fld := ⟨8 * (DSO_Dn_BG_A i) + 0, 30, 0⟩
/-- Address of `DSO_Dn_COMMIT` (R456). -/
def DSO_Dn_COMMIT_A (i : Nat) : Nat := 0x10d01028 + 4096 * i
def DSO_Dn_COMMIT_GO (i : Nat) : Fld := ⟨8 * (DSO_Dn_COMMIT_A i) + 0, 1, 0⟩
/-- Address of `DSO_Dn_LT` (R456). -/
def DSO_Dn_LT_A (i : Nat) : Nat := 0x10d0102c + 4096 * i
def DSO_Dn_LT_TOL (i : Nat) : Fld := ⟨8 * (DSO_Dn_LT_A i) + 0, 20, 0x4e20⟩
/-- Address of `DSO_Dn_COVER` (R456). -/
def DSO_Dn_COVER_A (i : Nat) : Nat := 0x10d01030 + 4096 * i
def DSO_Dn_COVER_NS (i : Nat) : Fld := ⟨8 * (DSO_Dn_COVER_A i) + 0, 20, 0xfffff⟩
/-- Address of `DSO_Dn_FCOUNT` (R456). -/
def DSO_Dn_FCOUNT_A (i : Nat) : Nat := 0x10d01040 + 4096 * i
def DSO_Dn_FCOUNT_COUNT (i : Nat) : Fld := ⟨8 * (DSO_Dn_FCOUNT_A i) + 0, 32, 0⟩
/-- Address of `DSO_Dn_FLIPTS_SEC` (R456). -/
def DSO_Dn_FLIPTS_SEC_A (i : Nat) : Nat := 0x10d01044 + 4096 * i
def DSO_Dn_FLIPTS_SEC_SEC (i : Nat) : Fld := ⟨8 * (DSO_Dn_FLIPTS_SEC_A i) + 0, 32, 0⟩
/-- Address of `DSO_Dn_FLIPTS_NS` (R456). -/
def DSO_Dn_FLIPTS_NS_A (i : Nat) : Nat := 0x10d01048 + 4096 * i
def DSO_Dn_FLIPTS_NS_NS (i : Nat) : Fld := ⟨8 * (DSO_Dn_FLIPTS_NS_A i) + 0, 30, 0⟩
/-- Address of `DSO_Dn_APPLIED` (R456). -/
def DSO_Dn_APPLIED_A (i : Nat) : Nat := 0x10d0104c + 4096 * i
def DSO_Dn_APPLIED_COUNT (i : Nat) : Fld := ⟨8 * (DSO_Dn_APPLIED_A i) + 0, 32, 0⟩
/-- Address of `DSO_Dn_UNDERRUN` (R456). -/
def DSO_Dn_UNDERRUN_A (i : Nat) : Nat := 0x10d01050 + 4096 * i
def DSO_Dn_UNDERRUN_COUNT (i : Nat) : Fld := ⟨8 * (DSO_Dn_UNDERRUN_A i) + 0, 32, 0⟩
/-- Address of `DSO_Dn_ABORTS` (R456). -/
def DSO_Dn_ABORTS_A (i : Nat) : Nat := 0x10d01054 + 4096 * i
def DSO_Dn_ABORTS_COUNT (i : Nat) : Fld := ⟨8 * (DSO_Dn_ABORTS_A i) + 0, 32, 0⟩
/-- Address of `DSO_Dn_TELOST` (R456). -/
def DSO_Dn_TELOST_A (i : Nat) : Nat := 0x10d01058 + 4096 * i
def DSO_Dn_TELOST_COUNT (i : Nat) : Fld := ⟨8 * (DSO_Dn_TELOST_A i) + 0, 32, 0⟩
/-- Address of `DSO_Dn_Ll_CFG` (R457). -/
def DSO_Dn_Ll_CFG_A (i j : Nat) : Nat := 0x10d01100 + 4096 * i + 64 * j
def DSO_Dn_Ll_CFG_EN (i j : Nat) : Fld := ⟨8 * (DSO_Dn_Ll_CFG_A i j) + 0, 1, 0⟩
def DSO_Dn_Ll_CFG_FMT (i j : Nat) : Fld := ⟨8 * (DSO_Dn_Ll_CFG_A i j) + 1, 2, 0⟩
def DSO_Dn_Ll_CFG_DBL (i j : Nat) : Fld := ⟨8 * (DSO_Dn_Ll_CFG_A i j) + 3, 1, 0⟩
def DSO_Dn_Ll_CFG_FRONT (i j : Nat) : Fld := ⟨8 * (DSO_Dn_Ll_CFG_A i j) + 4, 1, 0⟩
def DSO_Dn_Ll_CFG_ALPHA (i j : Nat) : Fld := ⟨8 * (DSO_Dn_Ll_CFG_A i j) + 8, 8, 0⟩
/-- Address of `DSO_Dn_Ll_POS` (R457). -/
def DSO_Dn_Ll_POS_A (i j : Nat) : Nat := 0x10d01104 + 4096 * i + 64 * j
def DSO_Dn_Ll_POS_X (i j : Nat) : Fld := ⟨8 * (DSO_Dn_Ll_POS_A i j) + 0, 14, 0⟩
def DSO_Dn_Ll_POS_Y (i j : Nat) : Fld := ⟨8 * (DSO_Dn_Ll_POS_A i j) + 16, 14, 0⟩
/-- Address of `DSO_Dn_Ll_SIZE` (R457). -/
def DSO_Dn_Ll_SIZE_A (i j : Nat) : Nat := 0x10d01108 + 4096 * i + 64 * j
def DSO_Dn_Ll_SIZE_W (i j : Nat) : Fld := ⟨8 * (DSO_Dn_Ll_SIZE_A i j) + 0, 14, 0⟩
def DSO_Dn_Ll_SIZE_H (i j : Nat) : Fld := ⟨8 * (DSO_Dn_Ll_SIZE_A i j) + 16, 14, 0⟩
/-- Address of `DSO_Dn_Ll_STRIDE` (R457). -/
def DSO_Dn_Ll_STRIDE_A (i j : Nat) : Nat := 0x10d0110c + 4096 * i + 64 * j
def DSO_Dn_Ll_STRIDE_BYTES (i j : Nat) : Fld := ⟨8 * (DSO_Dn_Ll_STRIDE_A i j) + 0, 18, 0⟩
/-- Address of `DSO_Dn_Ll_FB0_LO` (R457). -/
def DSO_Dn_Ll_FB0_LO_A (i j : Nat) : Nat := 0x10d01110 + 4096 * i + 64 * j
def DSO_Dn_Ll_FB0_LO_ADDR (i j : Nat) : Fld := ⟨8 * (DSO_Dn_Ll_FB0_LO_A i j) + 0, 32, 0⟩
/-- Address of `DSO_Dn_Ll_FB0_HI` (R457). -/
def DSO_Dn_Ll_FB0_HI_A (i j : Nat) : Nat := 0x10d01114 + 4096 * i + 64 * j
def DSO_Dn_Ll_FB0_HI_ADDR (i j : Nat) : Fld := ⟨8 * (DSO_Dn_Ll_FB0_HI_A i j) + 0, 8, 0⟩
/-- Address of `DSO_Dn_Ll_FB1_LO` (R457). -/
def DSO_Dn_Ll_FB1_LO_A (i j : Nat) : Nat := 0x10d01118 + 4096 * i + 64 * j
def DSO_Dn_Ll_FB1_LO_ADDR (i j : Nat) : Fld := ⟨8 * (DSO_Dn_Ll_FB1_LO_A i j) + 0, 32, 0⟩
/-- Address of `DSO_Dn_Ll_FB1_HI` (R457). -/
def DSO_Dn_Ll_FB1_HI_A (i j : Nat) : Nat := 0x10d0111c + 4096 * i + 64 * j
def DSO_Dn_Ll_FB1_HI_ADDR (i j : Nat) : Fld := ⟨8 * (DSO_Dn_Ll_FB1_HI_A i j) + 0, 8, 0⟩
/-- Address of `DSO_IN_CTL` (R458). -/
def DSO_IN_CTL_A : Nat := 0x10d08000
def DSO_IN_CTL_EN : Fld := ⟨8 * DSO_IN_CTL_A + 0, 1, 0⟩
/-- Address of `DSO_IN_REQ` (R458). -/
def DSO_IN_REQ_A : Nat := 0x10d08004
def DSO_IN_REQ_CTX : Fld := ⟨8 * DSO_IN_REQ_A + 0, 10, 0⟩
def DSO_IN_REQ_LAYER : Fld := ⟨8 * DSO_IN_REQ_A + 12, 2, 0⟩
/-- Address of `DSO_IN_FRAMEn` (R458). -/
def DSO_IN_FRAMEn_A (i : Nat) : Nat := 0x10d08010 + 4 * i
def DSO_IN_FRAMEn_FRAME (i : Nat) : Fld := ⟨8 * (DSO_IN_FRAMEn_A i) + 0, 32, 0⟩
/-- Address of `DSO_IN_PKTSn` (R458). -/
def DSO_IN_PKTSn_A (i : Nat) : Nat := 0x10d08100 + 64 * i
def DSO_IN_PKTSn_COUNT (i : Nat) : Fld := ⟨8 * (DSO_IN_PKTSn_A i) + 0, 32, 0⟩
/-- Address of `DSO_IN_FLIPSn` (R458). -/
def DSO_IN_FLIPSn_A (i : Nat) : Nat := 0x10d08104 + 64 * i
def DSO_IN_FLIPSn_COUNT (i : Nat) : Fld := ⟨8 * (DSO_IN_FLIPSn_A i) + 0, 32, 0⟩
/-- Address of `DSO_IN_MALFORMEDn` (R458). -/
def DSO_IN_MALFORMEDn_A (i : Nat) : Nat := 0x10d08108 + 64 * i
def DSO_IN_MALFORMEDn_COUNT (i : Nat) : Fld := ⟨8 * (DSO_IN_MALFORMEDn_A i) + 0, 32, 0⟩
/-- Address of `DSO_IN_BOUNDSn` (R458). -/
def DSO_IN_BOUNDSn_A (i : Nat) : Nat := 0x10d0810c + 64 * i
def DSO_IN_BOUNDSn_COUNT (i : Nat) : Fld := ⟨8 * (DSO_IN_BOUNDSn_A i) + 0, 32, 0⟩
/-- Address of `DSO_IN_REFRESHn` (R458). -/
def DSO_IN_REFRESHn_A (i : Nat) : Nat := 0x10d08110 + 64 * i
def DSO_IN_REFRESHn_COUNT (i : Nat) : Fld := ⟨8 * (DSO_IN_REFRESHn_A i) + 0, 32, 0⟩
/-- Address of `DSO_IN_DMGOVFn` (R458). -/
def DSO_IN_DMGOVFn_A (i : Nat) : Nat := 0x10d08114 + 64 * i
def DSO_IN_DMGOVFn_COUNT (i : Nat) : Fld := ⟨8 * (DSO_IN_DMGOVFn_A i) + 0, 32, 0⟩
/-- Address of `DSO_IN_COPYPXn` (R458). -/
def DSO_IN_COPYPXn_A (i : Nat) : Nat := 0x10d08118 + 64 * i
def DSO_IN_COPYPXn_COUNT (i : Nat) : Fld := ⟨8 * (DSO_IN_COPYPXn_A i) + 0, 32, 0⟩
/-- Address of `DSO_PAL` (R458). -/
def DSO_PAL_A (i j : Nat) : Nat := 0x10d09000 + 1024 * i + 4 * j
def DSO_PAL_WORD (i j : Nat) : Fld := ⟨8 * (DSO_PAL_A i j) + 0, 32, 0⟩
/-- Address of `USB_CTL` (R484). -/
def USB_CTL_A : Nat := 0x10e00000
def USB_CTL_EN : Fld := ⟨8 * USB_CTL_A + 0, 1, 0⟩
def USB_CTL_SS_EN : Fld := ⟨8 * USB_CTL_A + 1, 1, 1⟩
def USB_CTL_LPM_EN : Fld := ⟨8 * USB_CTL_A + 2, 1, 1⟩
def USB_CTL_WAKE : Fld := ⟨8 * USB_CTL_A + 3, 1, 0⟩
def USB_CTL_EVQ : Fld := ⟨8 * USB_CTL_A + 8, 5, 0⟩
/-- Address of `USB_STAT` (R484). -/
def USB_STAT_A : Nat := 0x10e00004
def USB_STAT_SPEED : Fld := ⟨8 * USB_STAT_A + 0, 2, 0⟩
def USB_STAT_CONFIGURED : Fld := ⟨8 * USB_STAT_A + 2, 1, 0⟩
def USB_STAT_SUSPENDED : Fld := ⟨8 * USB_STAT_A + 3, 1, 0⟩
def USB_STAT_L1 : Fld := ⟨8 * USB_STAT_A + 4, 1, 0⟩
def USB_STAT_ULINK : Fld := ⟨8 * USB_STAT_A + 5, 2, 0⟩
def USB_STAT_RWAKE_EN : Fld := ⟨8 * USB_STAT_A + 7, 1, 0⟩
def USB_STAT_ADDR : Fld := ⟨8 * USB_STAT_A + 8, 7, 0⟩
def USB_STAT_VBUS : Fld := ⟨8 * USB_STAT_A + 16, 1, 0⟩
/-- Address of `USB_EVT` (R484). -/
def USB_EVT_A : Nat := 0x10e00008
def USB_EVT_BUS_RESET : Fld := ⟨8 * USB_EVT_A + 0, 1, 0⟩
def USB_EVT_SUSPEND : Fld := ⟨8 * USB_EVT_A + 1, 1, 0⟩
def USB_EVT_RESUME : Fld := ⟨8 * USB_EVT_A + 2, 1, 0⟩
def USB_EVT_CONFIG : Fld := ⟨8 * USB_EVT_A + 3, 1, 0⟩
def USB_EVT_CTRL_ABORT : Fld := ⟨8 * USB_EVT_A + 4, 1, 0⟩
def USB_EVT_CTRL_TIMEOUT : Fld := ⟨8 * USB_EVT_A + 5, 1, 0⟩
def USB_EVT_WAKE_COLLIDE : Fld := ⟨8 * USB_EVT_A + 6, 1, 0⟩
def USB_EVT_NOTE_OVF : Fld := ⟨8 * USB_EVT_A + 7, 1, 0⟩
def USB_EVT_AUD_UNDER : Fld := ⟨8 * USB_EVT_A + 8, 1, 0⟩
def USB_EVT_AUD_OVER : Fld := ⟨8 * USB_EVT_A + 9, 1, 0⟩
def USB_EVT_PORT_OC : Fld := ⟨8 * USB_EVT_A + 10, 1, 0⟩
def USB_EVT_FS_HOST : Fld := ⟨8 * USB_EVT_A + 11, 1, 0⟩
/-- Address of `USB_EVT_EN` (R484). -/
def USB_EVT_EN_A : Nat := 0x10e0000c
def USB_EVT_EN_BUS_RESET : Fld := ⟨8 * USB_EVT_EN_A + 0, 1, 0⟩
def USB_EVT_EN_SUSPEND : Fld := ⟨8 * USB_EVT_EN_A + 1, 1, 0⟩
def USB_EVT_EN_RESUME : Fld := ⟨8 * USB_EVT_EN_A + 2, 1, 0⟩
def USB_EVT_EN_CONFIG : Fld := ⟨8 * USB_EVT_EN_A + 3, 1, 0⟩
def USB_EVT_EN_CTRL_ABORT : Fld := ⟨8 * USB_EVT_EN_A + 4, 1, 0⟩
def USB_EVT_EN_CTRL_TIMEOUT : Fld := ⟨8 * USB_EVT_EN_A + 5, 1, 0⟩
def USB_EVT_EN_WAKE_COLLIDE : Fld := ⟨8 * USB_EVT_EN_A + 6, 1, 0⟩
def USB_EVT_EN_NOTE_OVF : Fld := ⟨8 * USB_EVT_EN_A + 7, 1, 0⟩
def USB_EVT_EN_AUD_UNDER : Fld := ⟨8 * USB_EVT_EN_A + 8, 1, 0⟩
def USB_EVT_EN_AUD_OVER : Fld := ⟨8 * USB_EVT_EN_A + 9, 1, 0⟩
def USB_EVT_EN_PORT_OC : Fld := ⟨8 * USB_EVT_EN_A + 10, 1, 0⟩
def USB_EVT_EN_FS_HOST : Fld := ⟨8 * USB_EVT_EN_A + 11, 1, 0⟩
/-- Address of `USB_SETUP0` (R485). -/
def USB_SETUP0_A : Nat := 0x10e00010
def USB_SETUP0_bmRequestType : Fld := ⟨8 * USB_SETUP0_A + 0, 8, 0⟩
def USB_SETUP0_bRequest : Fld := ⟨8 * USB_SETUP0_A + 8, 8, 0⟩
def USB_SETUP0_wValue : Fld := ⟨8 * USB_SETUP0_A + 16, 16, 0⟩
/-- Address of `USB_SETUP1` (R485). -/
def USB_SETUP1_A : Nat := 0x10e00014
def USB_SETUP1_wIndex : Fld := ⟨8 * USB_SETUP1_A + 0, 16, 0⟩
def USB_SETUP1_wLength : Fld := ⟨8 * USB_SETUP1_A + 16, 16, 0⟩
/-- Address of `USB_CTRL_STAT` (R485). -/
def USB_CTRL_STAT_A : Nat := 0x10e00018
def USB_CTRL_STAT_TAG : Fld := ⟨8 * USB_CTRL_STAT_A + 0, 8, 0⟩
def USB_CTRL_STAT_PHASE : Fld := ⟨8 * USB_CTRL_STAT_A + 8, 3, 0⟩
def USB_CTRL_STAT_DLEN : Fld := ⟨8 * USB_CTRL_STAT_A + 16, 11, 0⟩
/-- Address of `USB_CTRL_CMD` (R485). -/
def USB_CTRL_CMD_A : Nat := 0x10e0001c
def USB_CTRL_CMD_OP : Fld := ⟨8 * USB_CTRL_CMD_A + 0, 2, 0⟩
def USB_CTRL_CMD_TAG : Fld := ⟨8 * USB_CTRL_CMD_A + 8, 8, 0⟩
def USB_CTRL_CMD_LEN : Fld := ⟨8 * USB_CTRL_CMD_A + 16, 11, 0⟩
/-- Address of `USB_CTRL_TO` (R485). -/
def USB_CTRL_TO_A : Nat := 0x10e00020
def USB_CTRL_TO_MS : Fld := ⟨8 * USB_CTRL_TO_A + 0, 13, 0x1194⟩
/-- Address of `USB_CBUFk` (R485). -/
def USB_CBUFk_A (i : Nat) : Nat := 0x10e01000 + 4 * i
def USB_CBUFk_WORD (i : Nat) : Fld := ⟨8 * (USB_CBUFk_A i) + 0, 32, 0⟩
/-- Address of `USB_WAKE` (R486). -/
def USB_WAKE_A : Nat := 0x10e00030
def USB_WAKE_PEND : Fld := ⟨8 * USB_WAKE_A + 0, 8, 0⟩
def USB_WAKE_MASK : Fld := ⟨8 * USB_WAKE_A + 8, 8, 0xff⟩
/-- Address of `USB_AUD_CFG` (R486). -/
def USB_AUD_CFG_A : Nat := 0x10e00034
def USB_AUD_CFG_TRIM : Fld := ⟨8 * USB_AUD_CFG_A + 0, 1, 1⟩
/-- Address of `USB_GWg_CFG` (R486). -/
def USB_GWg_CFG_A (i : Nat) : Nat := 0x10e00040 + 4 * i
def USB_GWg_CFG_CTX (i : Nat) : Fld := ⟨8 * (USB_GWg_CFG_A i) + 0, 10, 0⟩
def USB_GWg_CFG_PCOL (i : Nat) : Fld := ⟨8 * (USB_GWg_CFG_A i) + 12, 2, 0⟩
def USB_GWg_CFG_EN (i : Nat) : Fld := ⟨8 * (USB_GWg_CFG_A i) + 15, 1, 0⟩
/-- Address of `USB_NOTE_Wk` (R486). -/
def USB_NOTE_Wk_A (i : Nat) : Nat := 0x10e00080 + 4 * i
def USB_NOTE_Wk_WORD (i : Nat) : Fld := ⟨8 * (USB_NOTE_Wk_A i) + 0, 32, 0⟩
/-- Address of `USB_NOTE_PUSH` (R486). -/
def USB_NOTE_PUSH_A : Nat := 0x10e00090
def USB_NOTE_PUSH_PUSH : Fld := ⟨8 * USB_NOTE_PUSH_A + 0, 1, 0⟩
/-- Address of `USB_NOTE_STAT` (R486). -/
def USB_NOTE_STAT_A : Nat := 0x10e00094
def USB_NOTE_STAT_DEPTH : Fld := ⟨8 * USB_NOTE_STAT_A + 0, 6, 0⟩
/-- Address of `USB_GWg_OUT` (R486). -/
def USB_GWg_OUT_A (i : Nat) : Nat := 0x10e00100 + 16 * i
def USB_GWg_OUT_COUNT (i : Nat) : Fld := ⟨8 * (USB_GWg_OUT_A i) + 0, 32, 0⟩
/-- Address of `USB_GWg_IN` (R486). -/
def USB_GWg_IN_A (i : Nat) : Nat := 0x10e00104 + 16 * i
def USB_GWg_IN_COUNT (i : Nat) : Fld := ⟨8 * (USB_GWg_IN_A i) + 0, 32, 0⟩
/-- Address of `USB_GWg_NAKS` (R486). -/
def USB_GWg_NAKS_A (i : Nat) : Nat := 0x10e00108 + 16 * i
def USB_GWg_NAKS_COUNT (i : Nat) : Fld := ⟨8 * (USB_GWg_NAKS_A i) + 0, 32, 0⟩
/-- Address of `USB_GWg_DROPS` (R486). -/
def USB_GWg_DROPS_A (i : Nat) : Nat := 0x10e0010c + 16 * i
def USB_GWg_DROPS_COUNT (i : Nat) : Fld := ⟨8 * (USB_GWg_DROPS_A i) + 0, 32, 0⟩
/-- Address of `USB_HPp` (R486). -/
def USB_HPp_A (i : Nat) : Nat := 0x10e00200 + 4 * i
def USB_HPp_CONN (i : Nat) : Fld := ⟨8 * (USB_HPp_A i) + 0, 1, 0⟩
def USB_HPp_ENABLED (i : Nat) : Fld := ⟨8 * (USB_HPp_A i) + 1, 1, 0⟩
def USB_HPp_SUSP (i : Nat) : Fld := ⟨8 * (USB_HPp_A i) + 2, 1, 0⟩
def USB_HPp_PWR (i : Nat) : Fld := ⟨8 * (USB_HPp_A i) + 3, 1, 0⟩
def USB_HPp_OC (i : Nat) : Fld := ⟨8 * (USB_HPp_A i) + 4, 1, 0⟩
def USB_HPp_SPEED (i : Nat) : Fld := ⟨8 * (USB_HPp_A i) + 5, 2, 0⟩
def USB_HPp_HIDE (i : Nat) : Fld := ⟨8 * (USB_HPp_A i) + 8, 1, 0⟩
/-- Address of `USB_HP_OC` (R486). -/
def USB_HP_OC_A : Nat := 0x10e00240
def USB_HP_OC_COUNT : Fld := ⟨8 * USB_HP_OC_A + 0, 32, 0⟩
/-- Address of `USB_NOTE_LOST` (R486). -/
def USB_NOTE_LOST_A : Nat := 0x10e00244
def USB_NOTE_LOST_COUNT : Fld := ⟨8 * USB_NOTE_LOST_A + 0, 32, 0⟩
/-- Address of `AUD_CTL` (R487). -/
def AUD_CTL_A : Nat := 0x10e02000
def AUD_CTL_EN : Fld := ⟨8 * AUD_CTL_A + 0, 1, 0⟩
/-- Address of `AUD_STAT` (R487). -/
def AUD_STAT_A : Nat := 0x10e02004
def AUD_STAT_FILL : Fld := ⟨8 * AUD_STAT_A + 0, 11, 0⟩
def AUD_STAT_RUN : Fld := ⟨8 * AUD_STAT_A + 16, 1, 0⟩
/-- Address of `AUD_FB` (R487). -/
def AUD_FB_A : Nat := 0x10e02008
def AUD_FB_F : Fld := ⟨8 * AUD_FB_A + 0, 32, 0x60000⟩
/-- Address of `AUD_RATE` (R487). -/
def AUD_RATE_A : Nat := 0x10e0200c
def AUD_RATE_PPB : Fld := ⟨8 * AUD_RATE_A + 0, 32, 0⟩
/-- Address of `AUD_UNDER` (R487). -/
def AUD_UNDER_A : Nat := 0x10e02010
def AUD_UNDER_COUNT : Fld := ⟨8 * AUD_UNDER_A + 0, 32, 0⟩
/-- Address of `AUD_OVER` (R487). -/
def AUD_OVER_A : Nat := 0x10e02014
def AUD_OVER_COUNT : Fld := ⟨8 * AUD_OVER_A + 0, 32, 0⟩

end Sys2Proof.Machine
end

