-- ==== Sys2Proof/Machine/RegsSched.lean ====
section
/-! DEFINITION. Named fields of the registers of blocks SCH, ACD, SYN, as their register tables give them.
Each field is named BLOCK_REGISTER_FIELD (00_scope, Registers); a field of an indexed register takes its index.
The table words behind an indirect window have homes above the 40-bit address space. -/

namespace Sys2Proof.Machine

/-- Address of `SCH_CTL` (R268). -/
def SCH_CTL_A : Nat := 0x10700000
def SCH_CTL_EN : Fld := ⟨8 * SCH_CTL_A + 0, 1, 0⟩
/-- Address of `SCH_STAT` (R269). -/
def SCH_STAT_A : Nat := 0x10700004
def SCH_STAT_RUNNING : Fld := ⟨8 * SCH_STAT_A + 0, 1, 0⟩
def SCH_STAT_TEL_BUSY : Fld := ⟨8 * SCH_STAT_A + 1, 1, 0⟩
/-- Address of `SCH_EVT` (R270). -/
def SCH_EVT_A : Nat := 0x10700008
def SCH_EVT_OVERSIZE : Fld := ⟨8 * SCH_EVT_A + 0, 1, 0⟩
def SCH_EVT_OVERRUN : Fld := ⟨8 * SCH_EVT_A + 1, 1, 0⟩
def SCH_EVT_GATE_CFG : Fld := ⟨8 * SCH_EVT_A + 2, 1, 0⟩
def SCH_EVT_GATE_SWITCH : Fld := ⟨8 * SCH_EVT_A + 3, 1, 0⟩
def SCH_EVT_GATE_RESYNC : Fld := ⟨8 * SCH_EVT_A + 4, 1, 0⟩
def SCH_EVT_TEL_OVERRUN : Fld := ⟨8 * SCH_EVT_A + 5, 1, 0⟩
/-- Address of `SCH_EVT_EN` (R270). -/
def SCH_EVT_EN_A : Nat := 0x1070000c
def SCH_EVT_EN_OVERSIZE : Fld := ⟨8 * SCH_EVT_EN_A + 0, 1, 0⟩
def SCH_EVT_EN_OVERRUN : Fld := ⟨8 * SCH_EVT_EN_A + 1, 1, 0⟩
def SCH_EVT_EN_GATE_CFG : Fld := ⟨8 * SCH_EVT_EN_A + 2, 1, 0⟩
def SCH_EVT_EN_GATE_SWITCH : Fld := ⟨8 * SCH_EVT_EN_A + 3, 1, 0⟩
def SCH_EVT_EN_GATE_RESYNC : Fld := ⟨8 * SCH_EVT_EN_A + 4, 1, 0⟩
def SCH_EVT_EN_TEL_OVERRUN : Fld := ⟨8 * SCH_EVT_EN_A + 5, 1, 0⟩
/-- Address of `SCH_TEL_CTL` (R271). -/
def SCH_TEL_CTL_A : Nat := 0x10700010
def SCH_TEL_CTL_EN : Fld := ⟨8 * SCH_TEL_CTL_A + 0, 1, 0⟩
def SCH_TEL_CTL_SIL : Fld := ⟨8 * SCH_TEL_CTL_A + 1, 1, 0⟩
def SCH_TEL_CTL_PERIOD : Fld := ⟨8 * SCH_TEL_CTL_A + 16, 16, 0x3e8⟩
/-- Address of `SCH_GUARD` (R271). -/
def SCH_GUARD_A : Nat := 0x10700014
def SCH_GUARD_TE : Fld := ⟨8 * SCH_GUARD_A + 0, 4, 1⟩
def SCH_GUARD_TW : Fld := ⟨8 * SCH_GUARD_A + 4, 4, 1⟩
/-- Address of `SCH_OVERSIZE_TE` (R271). -/
def SCH_OVERSIZE_TE_A : Nat := 0x10700040
def SCH_OVERSIZE_TE_COUNT : Fld := ⟨8 * SCH_OVERSIZE_TE_A + 0, 32, 0⟩
/-- Address of `SCH_OVERSIZE_TW` (R271). -/
def SCH_OVERSIZE_TW_A : Nat := 0x10700044
def SCH_OVERSIZE_TW_COUNT : Fld := ⟨8 * SCH_OVERSIZE_TW_A + 0, 32, 0⟩
/-- Address of `SCH_OVERRUN_TE` (R271). -/
def SCH_OVERRUN_TE_A : Nat := 0x10700048
def SCH_OVERRUN_TE_COUNT : Fld := ⟨8 * SCH_OVERRUN_TE_A + 0, 32, 0⟩
/-- Address of `SCH_OVERRUN_TW` (R271). -/
def SCH_OVERRUN_TW_A : Nat := 0x1070004c
def SCH_OVERRUN_TW_COUNT : Fld := ⟨8 * SCH_OVERRUN_TW_A + 0, 32, 0⟩
/-- Address of `SCH_TEL_OVERRUN` (R271). -/
def SCH_TEL_OVERRUN_A : Nat := 0x10700050
def SCH_TEL_OVERRUN_COUNT : Fld := ⟨8 * SCH_TEL_OVERRUN_A + 0, 32, 0⟩
/-- Address of `SCH_RESYNC` (R271). -/
def SCH_RESYNC_A : Nat := 0x10700054
def SCH_RESYNC_COUNT : Fld := ⟨8 * SCH_RESYNC_A + 0, 32, 0⟩
/-- Address of `SCH_POL_RED` (R271). -/
def SCH_POL_RED_A : Nat := 0x10700058
def SCH_POL_RED_COUNT : Fld := ⟨8 * SCH_POL_RED_A + 0, 32, 0⟩
/-- Address of `SCH_POL_HELD` (R271). -/
def SCH_POL_HELD_A : Nat := 0x1070005c
def SCH_POL_HELD_COUNT : Fld := ⟨8 * SCH_POL_HELD_A + 0, 32, 0⟩
/-- Address of `SCH_GATEp_CTL` (R272). -/
def SCH_GATEp_CTL_A (i : Nat) : Nat := 0x10700100 + 64 * i
def SCH_GATEp_CTL_EN (i : Nat) : Fld := ⟨8 * (SCH_GATEp_CTL_A i) + 0, 1, 0⟩
def SCH_GATEp_CTL_BANK (i : Nat) : Fld := ⟨8 * (SCH_GATEp_CTL_A i) + 1, 1, 0⟩
def SCH_GATEp_CTL_ACTIVE (i : Nat) : Fld := ⟨8 * (SCH_GATEp_CTL_A i) + 8, 1, 0⟩
def SCH_GATEp_CTL_PENDING (i : Nat) : Fld := ⟨8 * (SCH_GATEp_CTL_A i) + 9, 1, 0⟩
/-- Address of `SCH_GATEp_CYCb` (R272). -/
def SCH_GATEp_CYCb_A (i j : Nat) : Nat := 0x10700108 + 64 * i + 8 * j
def SCH_GATEp_CYCb_NS (i j : Nat) : Fld := ⟨8 * (SCH_GATEp_CYCb_A i j) + 0, 20, 0⟩
def SCH_GATEp_CYCb_NENT (i j : Nat) : Fld := ⟨8 * (SCH_GATEp_CYCb_A i j) + 24, 7, 0⟩
/-- Address of `SCH_GATEp_OFSb` (R272). -/
def SCH_GATEp_OFSb_A (i j : Nat) : Nat := 0x1070010c + 64 * i + 8 * j
def SCH_GATEp_OFSb_NS (i j : Nat) : Fld := ⟨8 * (SCH_GATEp_OFSb_A i j) + 0, 20, 0⟩
/-- Address of `SCH_GW_IDX` (R273). -/
def SCH_GW_IDX_A : Nat := 0x10700180
def SCH_GW_IDX_ENTRY : Fld := ⟨8 * SCH_GW_IDX_A + 0, 6, 0⟩
def SCH_GW_IDX_BANK : Fld := ⟨8 * SCH_GW_IDX_A + 8, 1, 0⟩
def SCH_GW_IDX_PORT : Fld := ⟨8 * SCH_GW_IDX_A + 9, 1, 0⟩
/-- Address of `SCH_GW_CMD` (R273). -/
def SCH_GW_CMD_A : Nat := 0x10700184
def SCH_GW_CMD_OP : Fld := ⟨8 * SCH_GW_CMD_A + 0, 2, 0⟩
/-- Address of `SCH_GW_RES` (R273). -/
def SCH_GW_RES_A : Nat := 0x10700188
def SCH_GW_RES_DONE : Fld := ⟨8 * SCH_GW_RES_A + 0, 1, 1⟩
def SCH_GW_RES_ERR : Fld := ⟨8 * SCH_GW_RES_A + 1, 2, 0⟩
/-- Address of `SCH_GW_DATA0` (R273). -/
def SCH_GW_DATA0_A : Nat := 0x1070018c
def SCH_GW_DATA0_WORD : Fld := ⟨8 * SCH_GW_DATA0_A + 0, 32, 0⟩
/-- Address of `SCH_GW_DATA1` (R273). -/
def SCH_GW_DATA1_A : Nat := 0x10700190
def SCH_GW_DATA1_WORD : Fld := ⟨8 * SCH_GW_DATA1_A + 0, 32, 0⟩
/-- Address of `SCH_EQMAPn_LO` (R274). -/
def SCH_EQMAPn_LO_A (i : Nat) : Nat := 0x10700400 + 8 * i
def SCH_EQMAPn_LO_PCP0 (i : Nat) : Fld := ⟨8 * (SCH_EQMAPn_LO_A i) + 0, 5, 0⟩
def SCH_EQMAPn_LO_PCP1 (i : Nat) : Fld := ⟨8 * (SCH_EQMAPn_LO_A i) + 5, 5, 1⟩
def SCH_EQMAPn_LO_PCP2 (i : Nat) : Fld := ⟨8 * (SCH_EQMAPn_LO_A i) + 10, 5, 2⟩
def SCH_EQMAPn_LO_PCP3 (i : Nat) : Fld := ⟨8 * (SCH_EQMAPn_LO_A i) + 15, 5, 3⟩
def SCH_EQMAPn_LO_PCP4 (i : Nat) : Fld := ⟨8 * (SCH_EQMAPn_LO_A i) + 20, 5, 4⟩
def SCH_EQMAPn_LO_PCP5 (i : Nat) : Fld := ⟨8 * (SCH_EQMAPn_LO_A i) + 25, 5, 5⟩
/-- Address of `SCH_EQMAPn_HI` (R274). -/
def SCH_EQMAPn_HI_A (i : Nat) : Nat := 0x10700404 + 8 * i
def SCH_EQMAPn_HI_PCP6 (i : Nat) : Fld := ⟨8 * (SCH_EQMAPn_HI_A i) + 0, 5, 6⟩
def SCH_EQMAPn_HI_PCP7 (i : Nat) : Fld := ⟨8 * (SCH_EQMAPn_HI_A i) + 5, 5, 7⟩
def SCH_EQMAPn_HI_UNTAGGED (i : Nat) : Fld := ⟨8 * (SCH_EQMAPn_HI_A i) + 10, 5, 0⟩
/-- Address of `QCFG_W0` (R275). -/
def QCFG_W0_A (i : Nat) : Nat := 0x10710000 + 16 * i
def QCFG_W0_TIER (i : Nat) : Fld := ⟨8 * (QCFG_W0_A i) + 0, 2, 0⟩
def QCFG_W0_PRIO (i : Nat) : Fld := ⟨8 * (QCFG_W0_A i) + 4, 4, 0⟩
def QCFG_W0_WCLASS (i : Nat) : Fld := ⟨8 * (QCFG_W0_A i) + 8, 4, 0⟩
def QCFG_W0_SHAPE_EN (i : Nat) : Fld := ⟨8 * (QCFG_W0_A i) + 12, 1, 0⟩
def QCFG_W0_TEL (i : Nat) : Fld := ⟨8 * (QCFG_W0_A i) + 13, 1, 0⟩
def QCFG_W0_TEL_SIL (i : Nat) : Fld := ⟨8 * (QCFG_W0_A i) + 14, 1, 0⟩
def QCFG_W0_WEIGHT (i : Nat) : Fld := ⟨8 * (QCFG_W0_A i) + 16, 16, 0⟩
/-- Address of `QCFG_W1` (R275). -/
def QCFG_W1_A (i : Nat) : Nat := 0x10710004 + 16 * i
def QCFG_W1_RATE (i : Nat) : Fld := ⟨8 * (QCFG_W1_A i) + 0, 19, 0⟩
/-- Address of `QCFG_W2` (R275). -/
def QCFG_W2_A (i : Nat) : Nat := 0x10710008 + 16 * i
def QCFG_W2_BURST (i : Nat) : Fld := ⟨8 * (QCFG_W2_A i) + 0, 24, 0⟩
/-- Address of `QCFG_W3` (R275). -/
def QCFG_W3_A (i : Nat) : Nat := 0x1071000c + 16 * i
/-- Address of `SCH_QS_IDX` (R276). -/
def SCH_QS_IDX_A : Nat := 0x10700200
def SCH_QS_IDX_Q : Fld := ⟨8 * SCH_QS_IDX_A + 0, 11, 0⟩
/-- Address of `SCH_QS_CMD` (R276). -/
def SCH_QS_CMD_A : Nat := 0x10700204
def SCH_QS_CMD_OP : Fld := ⟨8 * SCH_QS_CMD_A + 0, 2, 0⟩
/-- Address of `SCH_QS_RES` (R276). -/
def SCH_QS_RES_A : Nat := 0x10700208
def SCH_QS_RES_DONE : Fld := ⟨8 * SCH_QS_RES_A + 0, 1, 1⟩
/-- Address of `SCH_QS_DATAk` (R276). -/
def SCH_QS_DATAk_A (i : Nat) : Nat := 0x10700240 + 4 * i
def SCH_QS_DATAk_WORD (i : Nat) : Fld := ⟨8 * (SCH_QS_DATAk_A i) + 0, 32, 0⟩
/-- Address of `QS_W0` (R276). -/
def QS_W0_A (i : Nat) : Nat := 0x10000200000 + 64 * i
def QS_W0_FH_LO (i : Nat) : Fld := ⟨8 * (QS_W0_A i) + 0, 32, 0⟩
/-- Address of `QS_W1` (R276). -/
def QS_W1_A (i : Nat) : Nat := 0x10000200004 + 64 * i
def QS_W1_FH_HI (i : Nat) : Fld := ⟨8 * (QS_W1_A i) + 0, 16, 0⟩
/-- Address of `QS_W2` (R276). -/
def QS_W2_A (i : Nat) : Nat := 0x10000200008 + 64 * i
def QS_W2_TOK (i : Nat) : Fld := ⟨8 * (QS_W2_A i) + 0, 32, 0⟩
/-- Address of `QS_W3` (R276). -/
def QS_W3_A (i : Nat) : Nat := 0x1000020000c + 64 * i
def QS_W3_ELIG (i : Nat) : Fld := ⟨8 * (QS_W3_A i) + 0, 1, 0⟩
def QS_W3_GATE (i : Nat) : Fld := ⟨8 * (QS_W3_A i) + 1, 1, 0⟩
def QS_W3_SHAPED (i : Nat) : Fld := ⟨8 * (QS_W3_A i) + 2, 1, 0⟩
def QS_W3_NOCRED (i : Nat) : Fld := ⟨8 * (QS_W3_A i) + 3, 1, 0⟩
def QS_W3_OPEN (i : Nat) : Fld := ⟨8 * (QS_W3_A i) + 4, 1, 0⟩
def QS_W3_CLOSED (i : Nat) : Fld := ⟨8 * (QS_W3_A i) + 5, 1, 0⟩
/-- Address of `QS_W4` (R276). -/
def QS_W4_A (i : Nat) : Nat := 0x10000200010 + 64 * i
def QS_W4_TX_PKTS (i : Nat) : Fld := ⟨8 * (QS_W4_A i) + 0, 32, 0⟩
/-- Address of `QS_W5` (R276). -/
def QS_W5_A (i : Nat) : Nat := 0x10000200014 + 64 * i
def QS_W5_TX_BYTES_LO (i : Nat) : Fld := ⟨8 * (QS_W5_A i) + 0, 32, 0⟩
/-- Address of `QS_W6` (R276). -/
def QS_W6_A (i : Nat) : Nat := 0x10000200018 + 64 * i
def QS_W6_TX_BYTES_HI (i : Nat) : Fld := ⟨8 * (QS_W6_A i) + 0, 32, 0⟩
/-- Address of `QS_W7` (R276). -/
def QS_W7_A (i : Nat) : Nat := 0x1000020001c + 64 * i
def QS_W7_YELLOW (i : Nat) : Fld := ⟨8 * (QS_W7_A i) + 0, 32, 0⟩
/-- Address of `QS_W8` (R276). -/
def QS_W8_A (i : Nat) : Nat := 0x10000200020 + 64 * i
def QS_W8_OVERSIZE (i : Nat) : Fld := ⟨8 * (QS_W8_A i) + 0, 32, 0⟩
/-- Address of `QS_W9` (R276). -/
def QS_W9_A (i : Nat) : Nat := 0x10000200024 + 64 * i
def QS_W9_LAST_DEPTH (i : Nat) : Fld := ⟨8 * (QS_W9_A i) + 0, 27, 0⟩
/-- Address of `QS_W10` (R276). -/
def QS_W10_A (i : Nat) : Nat := 0x10000200028 + 64 * i
def QS_W10_LAST_SOJ (i : Nat) : Fld := ⟨8 * (QS_W10_A i) + 0, 32, 0⟩
/-- Address of `QS_W11` (R276). -/
def QS_W11_A (i : Nat) : Nat := 0x1000020002c + 64 * i
def QS_W11_MAX_DEPTH (i : Nat) : Fld := ⟨8 * (QS_W11_A i) + 0, 27, 0⟩
/-- Address of `QS_W12` (R276). -/
def QS_W12_A (i : Nat) : Nat := 0x10000200030 + 64 * i
def QS_W12_MAX_SOJ (i : Nat) : Fld := ⟨8 * (QS_W12_A i) + 0, 32, 0⟩
/-- Address of `QS_W13` (R276). -/
def QS_W13_A (i : Nat) : Nat := 0x10000200034 + 64 * i
def QS_W13_SAMPLES (i : Nat) : Fld := ⟨8 * (QS_W13_A i) + 0, 32, 0⟩
/-- Address of `QS_W14` (R276). -/
def QS_W14_A (i : Nat) : Nat := 0x10000200038 + 64 * i
def QS_W14_OVERRUN (i : Nat) : Fld := ⟨8 * (QS_W14_A i) + 0, 32, 0⟩
/-- Address of `POL_W0` (R277). -/
def POL_W0_A (i : Nat) : Nat := 0x10720000 + 32 * i
def POL_W0_MODE (i : Nat) : Fld := ⟨8 * (POL_W0_A i) + 0, 1, 0⟩
/-- Address of `POL_W1` (R277). -/
def POL_W1_A (i : Nat) : Nat := 0x10720004 + 32 * i
def POL_W1_CIR (i : Nat) : Fld := ⟨8 * (POL_W1_A i) + 0, 19, 0⟩
/-- Address of `POL_W2` (R277). -/
def POL_W2_A (i : Nat) : Nat := 0x10720008 + 32 * i
def POL_W2_PIR (i : Nat) : Fld := ⟨8 * (POL_W2_A i) + 0, 19, 0⟩
/-- Address of `POL_W3` (R277). -/
def POL_W3_A (i : Nat) : Nat := 0x1072000c + 32 * i
def POL_W3_CBS (i : Nat) : Fld := ⟨8 * (POL_W3_A i) + 0, 24, 0⟩
/-- Address of `POL_W4` (R277). -/
def POL_W4_A (i : Nat) : Nat := 0x10720010 + 32 * i
def POL_W4_XBS (i : Nat) : Fld := ⟨8 * (POL_W4_A i) + 0, 24, 0⟩
/-- Address of `POL_W5` (R277). -/
def POL_W5_A (i : Nat) : Nat := 0x10720014 + 32 * i
/-- Address of `POL_W6` (R277). -/
def POL_W6_A (i : Nat) : Nat := 0x10720018 + 32 * i
/-- Address of `POL_W7` (R277). -/
def POL_W7_A (i : Nat) : Nat := 0x1072001c + 32 * i
/-- Address of `SCH_PS_IDX` (R278). -/
def SCH_PS_IDX_A : Nat := 0x10700300
def SCH_PS_IDX_C : Fld := ⟨8 * SCH_PS_IDX_A + 0, 10, 0⟩
/-- Address of `SCH_PS_CMD` (R278). -/
def SCH_PS_CMD_A : Nat := 0x10700304
def SCH_PS_CMD_OP : Fld := ⟨8 * SCH_PS_CMD_A + 0, 2, 0⟩
/-- Address of `SCH_PS_RES` (R278). -/
def SCH_PS_RES_A : Nat := 0x10700308
def SCH_PS_RES_DONE : Fld := ⟨8 * SCH_PS_RES_A + 0, 1, 1⟩
/-- Address of `SCH_PS_DATAk` (R278). -/
def SCH_PS_DATAk_A (i : Nat) : Nat := 0x10700340 + 4 * i
def SCH_PS_DATAk_WORD (i : Nat) : Fld := ⟨8 * (SCH_PS_DATAk_A i) + 0, 32, 0⟩
/-- Address of `PS_W0` (R278). -/
def PS_W0_A (i : Nat) : Nat := 0x10000300000 + 32 * i
def PS_W0_TC (i : Nat) : Fld := ⟨8 * (PS_W0_A i) + 0, 32, 0⟩
/-- Address of `PS_W1` (R278). -/
def PS_W1_A (i : Nat) : Nat := 0x10000300004 + 32 * i
def PS_W1_TX (i : Nat) : Fld := ⟨8 * (PS_W1_A i) + 0, 32, 0⟩
/-- Address of `PS_W2` (R278). -/
def PS_W2_A (i : Nat) : Nat := 0x10000300008 + 32 * i
def PS_W2_GREEN (i : Nat) : Fld := ⟨8 * (PS_W2_A i) + 0, 32, 0⟩
/-- Address of `PS_W3` (R278). -/
def PS_W3_A (i : Nat) : Nat := 0x1000030000c + 32 * i
def PS_W3_YELLOW (i : Nat) : Fld := ⟨8 * (PS_W3_A i) + 0, 32, 0⟩
/-- Address of `PS_W4` (R278). -/
def PS_W4_A (i : Nat) : Nat := 0x10000300010 + 32 * i
def PS_W4_RED (i : Nat) : Fld := ⟨8 * (PS_W4_A i) + 0, 32, 0⟩
/-- Address of `PS_W5` (R278). -/
def PS_W5_A (i : Nat) : Nat := 0x10000300014 + 32 * i
def PS_W5_HELD (i : Nat) : Fld := ⟨8 * (PS_W5_A i) + 0, 32, 0⟩
/-- Address of `GENT_W0` (R255). -/
def GENT_W0_A (i j : Nat) : Nat := 0x10000400000 + 512 * i + 8 * j
def GENT_W0_DUR (i j : Nat) : Fld := ⟨8 * (GENT_W0_A i j) + 0, 20, 0⟩
def GENT_W0_HT_OPEN (i j : Nat) : Fld := ⟨8 * (GENT_W0_A i j) + 31, 1, 0⟩
/-- Address of `GENT_W1` (R255). -/
def GENT_W1_A (i j : Nat) : Nat := 0x10000400004 + 512 * i + 8 * j
def GENT_W1_BASE_OPEN (i j : Nat) : Fld := ⟨8 * (GENT_W1_A i j) + 0, 16, 0⟩
/-- Address of `ACD_CTL` (R311). -/
def ACD_CTL_A : Nat := 0x10800000
def ACD_CTL_EN : Fld := ⟨8 * ACD_CTL_A + 0, 1, 0⟩
def ACD_CTL_EVQ : Fld := ⟨8 * ACD_CTL_A + 1, 5, 0⟩
def ACD_CTL_TIME_CHK : Fld := ⟨8 * ACD_CTL_A + 6, 1, 1⟩
/-- Address of `ACD_STAT` (R312). -/
def ACD_STAT_A : Nat := 0x10800004
def ACD_STAT_OPEN : Fld := ⟨8 * ACD_STAT_A + 0, 5, 0⟩
def ACD_STAT_LINE_ACTIVE : Fld := ⟨8 * ACD_STAT_A + 5, 1, 0⟩
/-- Address of `ACD_EVT` (R313). -/
def ACD_EVT_A : Nat := 0x10800008
def ACD_EVT_LINE_COMMIT : Fld := ⟨8 * ACD_EVT_A + 0, 1, 0⟩
def ACD_EVT_LINE_ABORT : Fld := ⟨8 * ACD_EVT_A + 1, 1, 0⟩
def ACD_EVT_LATE : Fld := ⟨8 * ACD_EVT_A + 2, 1, 0⟩
def ACD_EVT_VOTE_NO : Fld := ⟨8 * ACD_EVT_A + 3, 1, 0⟩
def ACD_EVT_ILLEGAL : Fld := ⟨8 * ACD_EVT_A + 4, 1, 0⟩
def ACD_EVT_EPOCH_REFUSED : Fld := ⟨8 * ACD_EVT_A + 5, 1, 0⟩
/-- Address of `ACD_EVT_EN` (R313). -/
def ACD_EVT_EN_A : Nat := 0x1080000c
def ACD_EVT_EN_LINE_COMMIT : Fld := ⟨8 * ACD_EVT_EN_A + 0, 1, 0⟩
def ACD_EVT_EN_LINE_ABORT : Fld := ⟨8 * ACD_EVT_EN_A + 1, 1, 0⟩
def ACD_EVT_EN_LATE : Fld := ⟨8 * ACD_EVT_EN_A + 2, 1, 0⟩
def ACD_EVT_EN_VOTE_NO : Fld := ⟨8 * ACD_EVT_EN_A + 3, 1, 0⟩
def ACD_EVT_EN_ILLEGAL : Fld := ⟨8 * ACD_EVT_EN_A + 4, 1, 0⟩
def ACD_EVT_EN_EPOCH_REFUSED : Fld := ⟨8 * ACD_EVT_EN_A + 5, 1, 0⟩
/-- Address of `ACD_EPOCH` (R314). -/
def ACD_EPOCH_A : Nat := 0x10800010
def ACD_EPOCH_EPOCH : Fld := ⟨8 * ACD_EPOCH_A + 0, 32, 0⟩
/-- Address of `ACD_GO_LEAD` (R314). -/
def ACD_GO_LEAD_A : Nat := 0x10800014
def ACD_GO_LEAD_US : Fld := ⟨8 * ACD_GO_LEAD_A + 0, 16, 0x1f4⟩
/-- Address of `ACD_LINE_EXPECT` (R314). -/
def ACD_LINE_EXPECT_A : Nat := 0x10800018
def ACD_LINE_EXPECT_VOTERS : Fld := ⟨8 * ACD_LINE_EXPECT_A + 0, 12, 0⟩
/-- Address of `ACD_LINE_ID` (R314). -/
def ACD_LINE_ID_A : Nat := 0x1080001c
def ACD_LINE_ID_ID : Fld := ⟨8 * ACD_LINE_ID_A + 0, 32, 0⟩
/-- Address of `ACD_LINE_STAT` (R314). -/
def ACD_LINE_STAT_A : Nat := 0x10800020
def ACD_LINE_STAT_PHASE : Fld := ⟨8 * ACD_LINE_STAT_A + 0, 3, 0⟩
def ACD_LINE_STAT_ROLE : Fld := ⟨8 * ACD_LINE_STAT_A + 3, 1, 0⟩
def ACD_LINE_STAT_CODE : Fld := ⟨8 * ACD_LINE_STAT_A + 4, 4, 0⟩
def ACD_LINE_STAT_UPPORT : Fld := ⟨8 * ACD_LINE_STAT_A + 8, 4, 0xf⟩
def ACD_LINE_STAT_VOTERS : Fld := ⟨8 * ACD_LINE_STAT_A + 16, 12, 0⟩
/-- Address of `ACD_LINE_INFO` (R314). -/
def ACD_LINE_INFO_A : Nat := 0x10800024
def ACD_LINE_INFO_DEPTH : Fld := ⟨8 * ACD_LINE_INFO_A + 0, 16, 0⟩
def ACD_LINE_INFO_NO_STN : Fld := ⟨8 * ACD_LINE_INFO_A + 16, 12, 0xfff⟩
/-- Address of `ACD_SERIAL` (R314). -/
def ACD_SERIAL_A : Nat := 0x10800028
def ACD_SERIAL_SERIAL : Fld := ⟨8 * ACD_SERIAL_A + 0, 20, 0⟩
/-- Address of `ACD_LINE_FENCED` (R314). -/
def ACD_LINE_FENCED_A : Nat := 0x1080002c
def ACD_LINE_FENCED_FENCED : Fld := ⟨8 * ACD_LINE_FENCED_A + 0, 12, 0⟩
/-- Address of `ACD_COMMITS` (R315). -/
def ACD_COMMITS_A : Nat := 0x10800040
def ACD_COMMITS_COUNT : Fld := ⟨8 * ACD_COMMITS_A + 0, 32, 0⟩
/-- Address of `ACD_LINE_COMMITS` (R315). -/
def ACD_LINE_COMMITS_A : Nat := 0x10800044
def ACD_LINE_COMMITS_COUNT : Fld := ⟨8 * ACD_LINE_COMMITS_A + 0, 32, 0⟩
/-- Address of `ACD_ABORTc` (R315). -/
def ACD_ABORTc_A (i : Nat) : Nat := 0x10800048 + 4 * i
def ACD_ABORTc_COUNT (i : Nat) : Fld := ⟨8 * (ACD_ABORTc_A i) + 0, 32, 0⟩
/-- Address of `ACD_DUPMSG` (R315). -/
def ACD_DUPMSG_A : Nat := 0x1080006c
def ACD_DUPMSG_COUNT : Fld := ⟨8 * ACD_DUPMSG_A + 0, 32, 0⟩
/-- Address of `ACD_SLOTn_STAT` (R316). -/
def ACD_SLOTn_STAT_A (i : Nat) : Nat := 0x10800100 + 8 * i
def ACD_SLOTn_STAT_STATE (i : Nat) : Fld := ⟨8 * (ACD_SLOTn_STAT_A i) + 0, 3, 0⟩
def ACD_SLOTn_STAT_KIND (i : Nat) : Fld := ⟨8 * (ACD_SLOTn_STAT_A i) + 3, 2, 0⟩
def ACD_SLOTn_STAT_TB (i : Nat) : Fld := ⟨8 * (ACD_SLOTn_STAT_A i) + 5, 2, 0⟩
def ACD_SLOTn_STAT_THREAD (i : Nat) : Fld := ⟨8 * (ACD_SLOTn_STAT_A i) + 7, 5, 0⟩
def ACD_SLOTn_STAT_CODE (i : Nat) : Fld := ⟨8 * (ACD_SLOTn_STAT_A i) + 12, 4, 0⟩
def ACD_SLOTn_STAT_WCOUNT (i : Nat) : Fld := ⟨8 * (ACD_SLOTn_STAT_A i) + 16, 9, 0⟩
/-- Address of `ACD_SLOTn_ID` (R316). -/
def ACD_SLOTn_ID_A (i : Nat) : Nat := 0x10800104 + 8 * i
def ACD_SLOTn_ID_ID (i : Nat) : Fld := ⟨8 * (ACD_SLOTn_ID_A i) + 0, 32, 0⟩
/-- Address of `SYN_STAT` (R346). -/
def SYN_STAT_A : Nat := 0x10900000
def SYN_STAT_CORE_OK : Fld := ⟨8 * SYN_STAT_A + 0, 8, 0xff⟩
/-- Address of `SYN_THn_CTL` (R347). -/
def SYN_THn_CTL_A (i : Nat) : Nat := 0x10900100 + 16 * i
def SYN_THn_CTL_START (i : Nat) : Fld := ⟨8 * (SYN_THn_CTL_A i) + 0, 1, 0⟩
def SYN_THn_CTL_STOP (i : Nat) : Fld := ⟨8 * (SYN_THn_CTL_A i) + 1, 1, 0⟩
def SYN_THn_CTL_RESET (i : Nat) : Fld := ⟨8 * (SYN_THn_CTL_A i) + 2, 1, 0⟩
/-- Address of `SYN_THn_PC_LO` (R347). -/
def SYN_THn_PC_LO_A (i : Nat) : Nat := 0x10900104 + 16 * i
def SYN_THn_PC_LO_PC (i : Nat) : Fld := ⟨8 * (SYN_THn_PC_LO_A i) + 0, 32, 0⟩
/-- Address of `SYN_THn_PC_HI` (R347). -/
def SYN_THn_PC_HI_A (i : Nat) : Nat := 0x10900108 + 16 * i
def SYN_THn_PC_HI_PC (i : Nat) : Fld := ⟨8 * (SYN_THn_PC_HI_A i) + 0, 8, 0⟩
/-- Address of `SYN_THn_STAT` (R347). -/
def SYN_THn_STAT_A (i : Nat) : Nat := 0x1090010c + 16 * i
def SYN_THn_STAT_STATE (i : Nat) : Fld := ⟨8 * (SYN_THn_STAT_A i) + 0, 2, 0⟩
def SYN_THn_STAT_CODE (i : Nat) : Fld := ⟨8 * (SYN_THn_STAT_A i) + 4, 4, 0⟩
def SYN_THn_STAT_RUNAHEAD (i : Nat) : Fld := ⟨8 * (SYN_THn_STAT_A i) + 8, 1, 0⟩
/-- Address of `SYN_EVQq_CFG` (R348). -/
def SYN_EVQq_CFG_A (i : Nat) : Nat := 0x10900400 + 16 * i
def SYN_EVQq_CFG_BASE (i : Nat) : Fld := ⟨8 * (SYN_EVQq_CFG_A i) + 0, 17, 0⟩
def SYN_EVQq_CFG_LOG2 (i : Nat) : Fld := ⟨8 * (SYN_EVQq_CFG_A i) + 20, 4, 0⟩
def SYN_EVQq_CFG_EN (i : Nat) : Fld := ⟨8 * (SYN_EVQq_CFG_A i) + 31, 1, 0⟩
/-- Address of `SYN_EVQq_WR` (R348). -/
def SYN_EVQq_WR_A (i : Nat) : Nat := 0x10900404 + 16 * i
def SYN_EVQq_WR_IDX (i : Nat) : Fld := ⟨8 * (SYN_EVQq_WR_A i) + 0, 12, 0⟩
/-- Address of `SYN_EVQq_RD` (R348). -/
def SYN_EVQq_RD_A (i : Nat) : Nat := 0x10900408 + 16 * i
def SYN_EVQq_RD_IDX (i : Nat) : Fld := ⟨8 * (SYN_EVQq_RD_A i) + 0, 12, 0⟩
/-- Address of `SYN_EVQq_DROP` (R348). -/
def SYN_EVQq_DROP_A (i : Nat) : Nat := 0x1090040c + 16 * i
def SYN_EVQq_DROP_COUNT (i : Nat) : Fld := ⟨8 * (SYN_EVQq_DROP_A i) + 0, 32, 0⟩
/-- Address of `SYN_PQq_BASE` (R350). -/
def SYN_PQq_BASE_A (i : Nat) : Nat := 0x10900800 + 16 * i
def SYN_PQq_BASE_BASE (i : Nat) : Fld := ⟨8 * (SYN_PQq_BASE_A i) + 0, 23, 0⟩
def SYN_PQq_BASE_MEM (i : Nat) : Fld := ⟨8 * (SYN_PQq_BASE_A i) + 31, 1, 0⟩
/-- Address of `SYN_PQq_CFG` (R350). -/
def SYN_PQq_CFG_A (i : Nat) : Nat := 0x10900804 + 16 * i
def SYN_PQq_CFG_LOG2 (i : Nat) : Fld := ⟨8 * (SYN_PQq_CFG_A i) + 0, 4, 0⟩
def SYN_PQq_CFG_EVQ (i : Nat) : Fld := ⟨8 * (SYN_PQq_CFG_A i) + 8, 5, 0⟩
def SYN_PQq_CFG_EN (i : Nat) : Fld := ⟨8 * (SYN_PQq_CFG_A i) + 16, 1, 0⟩
/-- Address of `SYN_PQq_WR` (R350). -/
def SYN_PQq_WR_A (i : Nat) : Nat := 0x10900808 + 16 * i
def SYN_PQq_WR_IDX (i : Nat) : Fld := ⟨8 * (SYN_PQq_WR_A i) + 0, 14, 0⟩
/-- Address of `SYN_PQq_RD` (R350). -/
def SYN_PQq_RD_A (i : Nat) : Nat := 0x1090080c + 16 * i
def SYN_PQq_RD_IDX (i : Nat) : Fld := ⟨8 * (SYN_PQq_RD_A i) + 0, 14, 0⟩
/-- Address of `SYN_EVROUTEk` (R349). -/
def SYN_EVROUTEk_A (i : Nat) : Nat := 0x10900600 + 4 * i
def SYN_EVROUTEk_QUEUE0 (i : Nat) : Fld := ⟨8 * (SYN_EVROUTEk_A i) + 0, 5, 0⟩
def SYN_EVROUTEk_EN0 (i : Nat) : Fld := ⟨8 * (SYN_EVROUTEk_A i) + 7, 1, 0⟩
def SYN_EVROUTEk_QUEUE1 (i : Nat) : Fld := ⟨8 * (SYN_EVROUTEk_A i) + 8, 5, 0⟩
def SYN_EVROUTEk_EN1 (i : Nat) : Fld := ⟨8 * (SYN_EVROUTEk_A i) + 15, 1, 0⟩
def SYN_EVROUTEk_QUEUE2 (i : Nat) : Fld := ⟨8 * (SYN_EVROUTEk_A i) + 16, 5, 0⟩
def SYN_EVROUTEk_EN2 (i : Nat) : Fld := ⟨8 * (SYN_EVROUTEk_A i) + 23, 1, 0⟩
def SYN_EVROUTEk_QUEUE3 (i : Nat) : Fld := ⟨8 * (SYN_EVROUTEk_A i) + 24, 5, 0⟩
def SYN_EVROUTEk_EN3 (i : Nat) : Fld := ⟨8 * (SYN_EVROUTEk_A i) + 31, 1, 0⟩
/-- Address of `SYN_EV_UNROUTED` (R349). -/
def SYN_EV_UNROUTED_A : Nat := 0x10900640
def SYN_EV_UNROUTED_COUNT : Fld := ⟨8 * SYN_EV_UNROUTED_A + 0, 32, 0⟩
/-- Address of `SYN_PERF_IDX` (R351). -/
def SYN_PERF_IDX_A : Nat := 0x10900c00
def SYN_PERF_IDX_THREAD : Fld := ⟨8 * SYN_PERF_IDX_A + 0, 5, 0⟩
def SYN_PERF_IDX_EVENT : Fld := ⟨8 * SYN_PERF_IDX_A + 8, 4, 0⟩
/-- Address of `SYN_PERF_LO` (R351). -/
def SYN_PERF_LO_A : Nat := 0x10900c04
def SYN_PERF_LO_COUNT : Fld := ⟨8 * SYN_PERF_LO_A + 0, 32, 0⟩
/-- Address of `SYN_PERF_HI` (R351). -/
def SYN_PERF_HI_A : Nat := 0x10900c08
def SYN_PERF_HI_COUNT : Fld := ⟨8 * SYN_PERF_HI_A + 0, 32, 0⟩

end Sys2Proof.Machine
end

