-- ==== Sys2Proof/Machine/RegsSystem.lean ====
section
/-! DEFINITION. Named fields of the registers of blocks HSW, PWR, KEY, REL, DDR, LCS, SYS, as their register tables give them.
Each field is named BLOCK_REGISTER_FIELD (00_scope, Registers); a field of an indexed register takes its index.
The table words behind an indirect window have homes above the 40-bit address space. -/

namespace Sys2Proof.Machine

/-- Address of `HSW_CTL` (R508). -/
def HSW_CTL_A : Nat := 0x10200000
def HSW_CTL_EN : Fld := ⟨8 * HSW_CTL_A + 0, 1, 1⟩
def HSW_CTL_A_EN : Fld := ⟨8 * HSW_CTL_A + 1, 1, 1⟩
def HSW_CTL_B_EN : Fld := ⟨8 * HSW_CTL_A + 2, 1, 1⟩
def HSW_CTL_PREF_B : Fld := ⟨8 * HSW_CTL_A + 3, 1, 0⟩
def HSW_CTL_REVERT : Fld := ⟨8 * HSW_CTL_A + 4, 1, 1⟩
/-- Address of `HSW_STAT` (R508). -/
def HSW_STAT_A : Nat := 0x10200004
def HSW_STAT_STATE : Fld := ⟨8 * HSW_STAT_A + 0, 4, 1⟩
def HSW_STAT_FEED : Fld := ⟨8 * HSW_STAT_A + 4, 1, 0⟩
def HSW_STAT_PGOOD : Fld := ⟨8 * HSW_STAT_A + 5, 1, 0⟩
def HSW_STAT_SEAT0 : Fld := ⟨8 * HSW_STAT_A + 6, 1, 0⟩
def HSW_STAT_SEAT1 : Fld := ⟨8 * HSW_STAT_A + 7, 1, 0⟩
def HSW_STAT_A_VALID : Fld := ⟨8 * HSW_STAT_A + 8, 1, 0⟩
def HSW_STAT_B_VALID : Fld := ⟨8 * HSW_STAT_A + 9, 1, 0⟩
def HSW_STAT_LOCK_A : Fld := ⟨8 * HSW_STAT_A + 10, 1, 0⟩
def HSW_STAT_LOCK_B : Fld := ⟨8 * HSW_STAT_A + 11, 1, 0⟩
def HSW_STAT_FT_RUN : Fld := ⟨8 * HSW_STAT_A + 12, 1, 0⟩
/-- Address of `HSW_EVT` (R508). -/
def HSW_EVT_A : Nat := 0x10200008
def HSW_EVT_FAST_TRIP : Fld := ⟨8 * HSW_EVT_A + 0, 1, 0⟩
def HSW_EVT_SLOW_TRIP : Fld := ⟨8 * HSW_EVT_A + 1, 1, 0⟩
def HSW_EVT_RETRY : Fld := ⟨8 * HSW_EVT_A + 2, 1, 0⟩
def HSW_EVT_LATCHED : Fld := ⟨8 * HSW_EVT_A + 3, 1, 0⟩
def HSW_EVT_FET_DAMAGED : Fld := ⟨8 * HSW_EVT_A + 4, 1, 0⟩
def HSW_EVT_SWITCHOVER : Fld := ⟨8 * HSW_EVT_A + 5, 1, 0⟩
def HSW_EVT_PGOOD_RISE : Fld := ⟨8 * HSW_EVT_A + 6, 1, 0⟩
def HSW_EVT_PGOOD_FALL : Fld := ⟨8 * HSW_EVT_A + 7, 1, 0⟩
def HSW_EVT_SEAT_LOST : Fld := ⟨8 * HSW_EVT_A + 8, 1, 0⟩
def HSW_EVT_FEED_OV : Fld := ⟨8 * HSW_EVT_A + 9, 1, 0⟩
def HSW_EVT_HIST_CLEAR : Fld := ⟨8 * HSW_EVT_A + 10, 1, 0⟩
/-- Address of `HSW_EVT_EN` (R508). -/
def HSW_EVT_EN_A : Nat := 0x1020000c
def HSW_EVT_EN_FAST_TRIP : Fld := ⟨8 * HSW_EVT_EN_A + 0, 1, 0⟩
def HSW_EVT_EN_SLOW_TRIP : Fld := ⟨8 * HSW_EVT_EN_A + 1, 1, 0⟩
def HSW_EVT_EN_RETRY : Fld := ⟨8 * HSW_EVT_EN_A + 2, 1, 0⟩
def HSW_EVT_EN_LATCHED : Fld := ⟨8 * HSW_EVT_EN_A + 3, 1, 0⟩
def HSW_EVT_EN_FET_DAMAGED : Fld := ⟨8 * HSW_EVT_EN_A + 4, 1, 0⟩
def HSW_EVT_EN_SWITCHOVER : Fld := ⟨8 * HSW_EVT_EN_A + 5, 1, 0⟩
def HSW_EVT_EN_PGOOD_RISE : Fld := ⟨8 * HSW_EVT_EN_A + 6, 1, 0⟩
def HSW_EVT_EN_PGOOD_FALL : Fld := ⟨8 * HSW_EVT_EN_A + 7, 1, 0⟩
def HSW_EVT_EN_SEAT_LOST : Fld := ⟨8 * HSW_EVT_EN_A + 8, 1, 0⟩
def HSW_EVT_EN_FEED_OV : Fld := ⟨8 * HSW_EVT_EN_A + 9, 1, 0⟩
def HSW_EVT_EN_HIST_CLEAR : Fld := ⟨8 * HSW_EVT_EN_A + 10, 1, 0⟩
/-- Address of `HSW_CMD` (R508). -/
def HSW_CMD_A : Nat := 0x10200010
def HSW_CMD_OP : Fld := ⟨8 * HSW_CMD_A + 0, 3, 0⟩
/-- Address of `HSW_ILIM` (R509). -/
def HSW_ILIM_A : Nat := 0x10200020
def HSW_ILIM_SLOW : Fld := ⟨8 * HSW_ILIM_A + 0, 10, 0xfa⟩
def HSW_ILIM_FAST : Fld := ⟨8 * HSW_ILIM_A + 16, 10, 0x1f4⟩
/-- Address of `HSW_TIMER` (R509). -/
def HSW_TIMER_A : Nat := 0x10200024
def HSW_TIMER_FAULT_TO : Fld := ⟨8 * HSW_TIMER_A + 0, 9, 0x64⟩
def HSW_TIMER_RETRY_MIN : Fld := ⟨8 * HSW_TIMER_A + 16, 10, 0x64⟩
/-- Address of `HSW_RETRY` (R509). -/
def HSW_RETRY_A : Nat := 0x10200028
def HSW_RETRY_COUNT : Fld := ⟨8 * HSW_RETRY_A + 0, 8, 8⟩
/-- Address of `HSW_RAMP` (R509). -/
def HSW_RAMP_A : Nat := 0x1020002c
def HSW_RAMP_SLEW : Fld := ⟨8 * HSW_RAMP_A + 0, 8, 0xa⟩
/-- Address of `HSW_UVOV_A` (R509). -/
def HSW_UVOV_A_A : Nat := 0x10200030
def HSW_UVOV_A_UV : Fld := ⟨8 * HSW_UVOV_A_A + 0, 12, 0x3e8⟩
def HSW_UVOV_A_OV : Fld := ⟨8 * HSW_UVOV_A_A + 16, 12, 0xc4e⟩
/-- Address of `HSW_UVOV_B` (R509). -/
def HSW_UVOV_B_A : Nat := 0x10200034
def HSW_UVOV_B_UV : Fld := ⟨8 * HSW_UVOV_B_A + 0, 12, 0x3e8⟩
def HSW_UVOV_B_OV : Fld := ⟨8 * HSW_UVOV_B_A + 16, 12, 0xc4e⟩
/-- Address of `HSW_RSENSE` (R509). -/
def HSW_RSENSE_A : Nat := 0x10200038
def HSW_RSENSE_UOHM : Fld := ⟨8 * HSW_RSENSE_A + 0, 20, 0x9c4⟩
/-- Address of `HSW_VA` (R510). -/
def HSW_VA_A : Nat := 0x10200040
def HSW_VA_V : Fld := ⟨8 * HSW_VA_A + 0, 12, 0⟩
/-- Address of `HSW_VB` (R510). -/
def HSW_VB_A : Nat := 0x10200044
def HSW_VB_V : Fld := ⟨8 * HSW_VB_A + 0, 12, 0⟩
/-- Address of `HSW_VOUT` (R510). -/
def HSW_VOUT_A : Nat := 0x10200048
def HSW_VOUT_V : Fld := ⟨8 * HSW_VOUT_A + 0, 12, 0⟩
/-- Address of `HSW_I` (R510). -/
def HSW_I_A : Nat := 0x1020004c
def HSW_I_MA : Fld := ⟨8 * HSW_I_A + 0, 16, 0⟩
def HSW_I_PEAK : Fld := ⟨8 * HSW_I_A + 16, 16, 0⟩
/-- Address of `HSW_P` (R510). -/
def HSW_P_A : Nat := 0x10200050
def HSW_P_MW : Fld := ⟨8 * HSW_P_A + 0, 32, 0⟩
/-- Address of `HSW_E_LO` (R510). -/
def HSW_E_LO_A : Nat := 0x10200054
def HSW_E_LO_UJ : Fld := ⟨8 * HSW_E_LO_A + 0, 32, 0⟩
/-- Address of `HSW_E_HI` (R510). -/
def HSW_E_HI_A : Nat := 0x10200058
def HSW_E_HI_UJ : Fld := ⟨8 * HSW_E_HI_A + 0, 32, 0⟩
/-- Address of `HSW_HIST` (R510). -/
def HSW_HIST_A : Nat := 0x10200060
def HSW_HIST_TRIPS : Fld := ⟨8 * HSW_HIST_A + 0, 8, 0⟩
def HSW_HIST_RETRIES : Fld := ⟨8 * HSW_HIST_A + 8, 8, 0⟩
def HSW_HIST_WAIT : Fld := ⟨8 * HSW_HIST_A + 16, 16, 0⟩
/-- Address of `HSW_FAST_TRIPS` (R510). -/
def HSW_FAST_TRIPS_A : Nat := 0x10200080
def HSW_FAST_TRIPS_COUNT : Fld := ⟨8 * HSW_FAST_TRIPS_A + 0, 32, 0⟩
/-- Address of `HSW_SLOW_TRIPS` (R510). -/
def HSW_SLOW_TRIPS_A : Nat := 0x10200084
def HSW_SLOW_TRIPS_COUNT : Fld := ⟨8 * HSW_SLOW_TRIPS_A + 0, 32, 0⟩
/-- Address of `HSW_RETRIES` (R510). -/
def HSW_RETRIES_A : Nat := 0x10200088
def HSW_RETRIES_COUNT : Fld := ⟨8 * HSW_RETRIES_A + 0, 32, 0⟩
/-- Address of `HSW_SWITCHOVERS` (R510). -/
def HSW_SWITCHOVERS_A : Nat := 0x1020008c
def HSW_SWITCHOVERS_COUNT : Fld := ⟨8 * HSW_SWITCHOVERS_A + 0, 32, 0⟩
/-- Address of `HSW_SEATLOSS` (R510). -/
def HSW_SEATLOSS_A : Nat := 0x10200090
def HSW_SEATLOSS_COUNT : Fld := ⟨8 * HSW_SEATLOSS_A + 0, 32, 0⟩
/-- Address of `PWR_Dd_REQ` (R529). -/
def PWR_Dd_REQ_A (i : Nat) : Nat := 0x10100100 + 8 * i
def PWR_Dd_REQ_TARGET (i : Nat) : Fld := ⟨8 * (PWR_Dd_REQ_A i) + 0, 2, 0⟩
/-- Address of `PWR_Dd_STAT` (R529). -/
def PWR_Dd_STAT_A (i : Nat) : Nat := 0x10100104 + 8 * i
def PWR_Dd_STAT_STATE (i : Nat) : Fld := ⟨8 * (PWR_Dd_STAT_A i) + 0, 2, 0⟩
def PWR_Dd_STAT_PHASE (i : Nat) : Fld := ⟨8 * (PWR_Dd_STAT_A i) + 2, 3, 0⟩
def PWR_Dd_STAT_HELD (i : Nat) : Fld := ⟨8 * (PWR_Dd_STAT_A i) + 5, 1, 0⟩
def PWR_Dd_STAT_NEXT (i : Nat) : Fld := ⟨8 * (PWR_Dd_STAT_A i) + 8, 2, 3⟩
def PWR_Dd_STAT_ERR (i : Nat) : Fld := ⟨8 * (PWR_Dd_STAT_A i) + 12, 2, 0⟩
/-- Address of `PWR_EVT` (R530). -/
def PWR_EVT_A : Nat := 0x10100000
def PWR_EVT_DRY_DONE : Fld := ⟨8 * PWR_EVT_A + 0, 1, 0⟩
def PWR_EVT_WAKE_DONE : Fld := ⟨8 * PWR_EVT_A + 1, 1, 0⟩
def PWR_EVT_REFUSED : Fld := ⟨8 * PWR_EVT_A + 2, 1, 0⟩
def PWR_EVT_DRAIN_FORCED : Fld := ⟨8 * PWR_EVT_A + 3, 1, 0⟩
def PWR_EVT_AVS_FAIL : Fld := ⟨8 * PWR_EVT_A + 4, 1, 0⟩
def PWR_EVT_PMB_FAIL : Fld := ⟨8 * PWR_EVT_A + 5, 1, 0⟩
def PWR_EVT_REG_ALERT : Fld := ⟨8 * PWR_EVT_A + 6, 1, 0⟩
/-- Address of `PWR_EVT_EN` (R530). -/
def PWR_EVT_EN_A : Nat := 0x10100004
def PWR_EVT_EN_DRY_DONE : Fld := ⟨8 * PWR_EVT_EN_A + 0, 1, 0⟩
def PWR_EVT_EN_WAKE_DONE : Fld := ⟨8 * PWR_EVT_EN_A + 1, 1, 0⟩
def PWR_EVT_EN_REFUSED : Fld := ⟨8 * PWR_EVT_EN_A + 2, 1, 0⟩
def PWR_EVT_EN_DRAIN_FORCED : Fld := ⟨8 * PWR_EVT_EN_A + 3, 1, 0⟩
def PWR_EVT_EN_AVS_FAIL : Fld := ⟨8 * PWR_EVT_EN_A + 4, 1, 0⟩
def PWR_EVT_EN_PMB_FAIL : Fld := ⟨8 * PWR_EVT_EN_A + 5, 1, 0⟩
def PWR_EVT_EN_REG_ALERT : Fld := ⟨8 * PWR_EVT_EN_A + 6, 1, 0⟩
/-- Address of `PWR_AVS_CTL` (R530). -/
def PWR_AVS_CTL_A : Nat := 0x10100010
def PWR_AVS_CTL_TARGET : Fld := ⟨8 * PWR_AVS_CTL_A + 0, 10, 0x320⟩
def PWR_AVS_CTL_RET : Fld := ⟨8 * PWR_AVS_CTL_A + 16, 10, 0x28a⟩
/-- Address of `PWR_AVS_STAT` (R530). -/
def PWR_AVS_STAT_A : Nat := 0x10100014
def PWR_AVS_STAT_ACKED : Fld := ⟨8 * PWR_AVS_STAT_A + 0, 10, 0⟩
def PWR_AVS_STAT_BUSY : Fld := ⟨8 * PWR_AVS_STAT_A + 16, 1, 0⟩
def PWR_AVS_STAT_LOW : Fld := ⟨8 * PWR_AVS_STAT_A + 17, 1, 0⟩
/-- Address of `PWR_WTIMER` (R530). -/
def PWR_WTIMER_A : Nat := 0x10100018
def PWR_WTIMER_TICKS : Fld := ⟨8 * PWR_WTIMER_A + 0, 32, 0⟩
/-- Address of `PWR_WSRCs` (R530). -/
def PWR_WSRCs_A (i : Nat) : Nat := 0x10100020 + 4 * i
def PWR_WSRCs_DOMS (i : Nat) : Fld := ⟨8 * (PWR_WSRCs_A i) + 0, 13, 0⟩
def PWR_WSRCs_EN (i : Nat) : Fld := ⟨8 * (PWR_WSRCs_A i) + 31, 1, 0⟩
/-- Address of `PWR_WLATCH` (R530). -/
def PWR_WLATCH_A : Nat := 0x10100040
def PWR_WLATCH_PEND : Fld := ⟨8 * PWR_WLATCH_A + 0, 8, 0⟩
/-- Address of `PWR_WAKE_SW` (R530). -/
def PWR_WAKE_SW_A : Nat := 0x10100044
def PWR_WAKE_SW_GO : Fld := ⟨8 * PWR_WAKE_SW_A + 0, 1, 0⟩
/-- Address of `PWR_PMB_CFG` (R530). -/
def PWR_PMB_CFG_A : Nat := 0x10100050
def PWR_PMB_CFG_PEC : Fld := ⟨8 * PWR_PMB_CFG_A + 0, 1, 1⟩
def PWR_PMB_CFG_FAST : Fld := ⟨8 * PWR_PMB_CFG_A + 1, 1, 1⟩
/-- Address of `PWR_RAILk` (R530). -/
def PWR_RAILk_A (i : Nat) : Nat := 0x10100060 + 4 * i
def PWR_RAILk_ADDR (i : Nat) : Fld := ⟨8 * (PWR_RAILk_A i) + 0, 7, 0⟩
def PWR_RAILk_PAGE (i : Nat) : Fld := ⟨8 * (PWR_RAILk_A i) + 8, 8, 0⟩
def PWR_RAILk_VOUT (i : Nat) : Fld := ⟨8 * (PWR_RAILk_A i) + 16, 12, 0⟩
def PWR_RAILk_EN (i : Nat) : Fld := ⟨8 * (PWR_RAILk_A i) + 31, 1, 0⟩
/-- Address of `PWR_RAIL_STAT` (R530). -/
def PWR_RAIL_STAT_A : Nat := 0x10100080
def PWR_RAIL_STAT_GOOD : Fld := ⟨8 * PWR_RAIL_STAT_A + 0, 8, 0⟩
def PWR_RAIL_STAT_FAULT : Fld := ⟨8 * PWR_RAIL_STAT_A + 8, 8, 0⟩
/-- Address of `PWR_AVS_RETRIES` (R530). -/
def PWR_AVS_RETRIES_A : Nat := 0x10100090
def PWR_AVS_RETRIES_COUNT : Fld := ⟨8 * PWR_AVS_RETRIES_A + 0, 32, 0⟩
/-- Address of `PWR_PMB_RETRIES` (R530). -/
def PWR_PMB_RETRIES_A : Nat := 0x10100094
def PWR_PMB_RETRIES_COUNT : Fld := ⟨8 * PWR_PMB_RETRIES_A + 0, 32, 0⟩
/-- Address of `PWR_PMB_FAILS` (R530). -/
def PWR_PMB_FAILS_A : Nat := 0x10100098
def PWR_PMB_FAILS_COUNT : Fld := ⟨8 * PWR_PMB_FAILS_A + 0, 32, 0⟩
/-- Address of `PWR_ALERTS` (R530). -/
def PWR_ALERTS_A : Nat := 0x1010009c
def PWR_ALERTS_COUNT : Fld := ⟨8 * PWR_ALERTS_A + 0, 32, 0⟩
/-- Address of `PWR_WAKES` (R530). -/
def PWR_WAKES_A : Nat := 0x101000a0
def PWR_WAKES_COUNT : Fld := ⟨8 * PWR_WAKES_A + 0, 32, 0⟩
/-- Address of `PWR_PADREL` (R531). -/
def PWR_PADREL_A : Nat := 0x10108000
def PWR_PADREL_REL : Fld := ⟨8 * PWR_PADREL_A + 1, 12, 0⟩
/-- Address of `PWR_DRAIN_TO` (R531). -/
def PWR_DRAIN_TO_A : Nat := 0x10108004
def PWR_DRAIN_TO_US : Fld := ⟨8 * PWR_DRAIN_TO_A + 0, 16, 0x64⟩
/-- Address of `KEY_CTL` (R557). -/
def KEY_CTL_A : Nat := 0x10f00000
def KEY_CTL_EN : Fld := ⟨8 * KEY_CTL_A + 0, 1, 1⟩
def KEY_CTL_EVQ : Fld := ⟨8 * KEY_CTL_A + 8, 5, 0⟩
/-- Address of `KEY_STAT` (R557). -/
def KEY_STAT_A : Nat := 0x10f00004
def KEY_STAT_ROOT_OK : Fld := ⟨8 * KEY_STAT_A + 0, 1, 0⟩
def KEY_STAT_ENFL_BUSY : Fld := ⟨8 * KEY_STAT_A + 1, 1, 0⟩
def KEY_STAT_ENFL_FAIL : Fld := ⟨8 * KEY_STAT_A + 2, 1, 0⟩
def KEY_STAT_RNG_OK : Fld := ⟨8 * KEY_STAT_A + 3, 1, 0⟩
def KEY_STAT_QDEPTH : Fld := ⟨8 * KEY_STAT_A + 8, 5, 0⟩
/-- Address of `KEY_EVT` (R557). -/
def KEY_EVT_A : Nat := 0x10f00008
def KEY_EVT_ENFL_DONE : Fld := ⟨8 * KEY_EVT_A + 0, 1, 0⟩
def KEY_EVT_ENFL_FAIL : Fld := ⟨8 * KEY_EVT_A + 1, 1, 0⟩
def KEY_EVT_ORPHAN : Fld := ⟨8 * KEY_EVT_A + 2, 1, 0⟩
def KEY_EVT_EXPIRE : Fld := ⟨8 * KEY_EVT_A + 3, 1, 0⟩
def KEY_EVT_REKEY_FAIL : Fld := ⟨8 * KEY_EVT_A + 4, 1, 0⟩
def KEY_EVT_RNG_FAIL : Fld := ⟨8 * KEY_EVT_A + 5, 1, 0⟩
/-- Address of `KEY_EVT_EN` (R557). -/
def KEY_EVT_EN_A : Nat := 0x10f0000c
def KEY_EVT_EN_ENFL_DONE : Fld := ⟨8 * KEY_EVT_EN_A + 0, 1, 0⟩
def KEY_EVT_EN_ENFL_FAIL : Fld := ⟨8 * KEY_EVT_EN_A + 1, 1, 0⟩
def KEY_EVT_EN_ORPHAN : Fld := ⟨8 * KEY_EVT_EN_A + 2, 1, 0⟩
def KEY_EVT_EN_EXPIRE : Fld := ⟨8 * KEY_EVT_EN_A + 3, 1, 0⟩
def KEY_EVT_EN_REKEY_FAIL : Fld := ⟨8 * KEY_EVT_EN_A + 4, 1, 0⟩
def KEY_EVT_EN_RNG_FAIL : Fld := ⟨8 * KEY_EVT_EN_A + 5, 1, 0⟩
/-- Address of `KEY_ROOTGEN` (R557). -/
def KEY_ROOTGEN_A : Nat := 0x10f00014
def KEY_ROOTGEN_GEN : Fld := ⟨8 * KEY_ROOTGEN_A + 0, 6, 0⟩
/-- Address of `KEY_LINE` (R557). -/
def KEY_LINE_A : Nat := 0x10f00018
def KEY_LINE_SLOT : Fld := ⟨8 * KEY_LINE_A + 0, 6, 0⟩
def KEY_LINE_VALID : Fld := ⟨8 * KEY_LINE_A + 7, 1, 0⟩
/-- Address of `KEY_REKEY` (R557). -/
def KEY_REKEY_A : Nat := 0x10f0001c
def KEY_REKEY_AGE_H : Fld := ⟨8 * KEY_REKEY_A + 0, 5, 0x17⟩
def KEY_REKEY_BLK_LOG2 : Fld := ⟨8 * KEY_REKEY_A + 8, 5, 0x1f⟩
/-- Address of `KEY_SUBMIT` (R557). -/
def KEY_SUBMIT_A : Nat := 0x10f00010
/-- Address of `KEY_SLOT_IDX` (R558). -/
def KEY_SLOT_IDX_A : Nat := 0x10f00040
def KEY_SLOT_IDX_SLOT : Fld := ⟨8 * KEY_SLOT_IDX_A + 0, 6, 0⟩
/-- Address of `KEY_SLOT_CMD` (R558). -/
def KEY_SLOT_CMD_A : Nat := 0x10f00044
def KEY_SLOT_CMD_OP : Fld := ⟨8 * KEY_SLOT_CMD_A + 0, 2, 0⟩
/-- Address of `KEY_SLOT_RES` (R558). -/
def KEY_SLOT_RES_A : Nat := 0x10f00048
def KEY_SLOT_RES_DONE : Fld := ⟨8 * KEY_SLOT_RES_A + 0, 1, 1⟩
/-- Address of `KEY_SLOT_DATAk` (R558). -/
def KEY_SLOT_DATAk_A (i : Nat) : Nat := 0x10f00060 + 4 * i
def KEY_SLOT_DATAk_WORD (i : Nat) : Fld := ⟨8 * (KEY_SLOT_DATAk_A i) + 0, 32, 0⟩
/-- Address of `KSLOT_W0` (R559). -/
def KSLOT_W0_A (i : Nat) : Nat := 0x10000500000 + 32 * i
def KSLOT_W0_STATE (i : Nat) : Fld := ⟨8 * (KSLOT_W0_A i) + 0, 3, 0⟩
def KSLOT_W0_TYPE (i : Nat) : Fld := ⟨8 * (KSLOT_W0_A i) + 3, 3, 0⟩
def KSLOT_W0_DERIVED (i : Nat) : Fld := ⟨8 * (KSLOT_W0_A i) + 6, 1, 0⟩
def KSLOT_W0_PSLOT (i : Nat) : Fld := ⟨8 * (KSLOT_W0_A i) + 8, 6, 0⟩
def KSLOT_W0_USAGE (i : Nat) : Fld := ⟨8 * (KSLOT_W0_A i) + 16, 16, 0⟩
/-- Address of `KSLOT_W1` (R559). -/
def KSLOT_W1_A (i : Nat) : Nat := 0x10000500004 + 32 * i
def KSLOT_W1_KEY_ID (i : Nat) : Fld := ⟨8 * (KSLOT_W1_A i) + 0, 32, 0⟩
/-- Address of `KSLOT_W2` (R559). -/
def KSLOT_W2_A (i : Nat) : Nat := 0x10000500008 + 32 * i
def KSLOT_W2_GEN (i : Nat) : Fld := ⟨8 * (KSLOT_W2_A i) + 0, 16, 0⟩
def KSLOT_W2_PARENT_GEN (i : Nat) : Fld := ⟨8 * (KSLOT_W2_A i) + 16, 16, 0⟩
/-- Address of `KSLOT_W3` (R559). -/
def KSLOT_W3_A (i : Nat) : Nat := 0x1000050000c + 32 * i
def KSLOT_W3_PARENT_ID (i : Nat) : Fld := ⟨8 * (KSLOT_W3_A i) + 0, 32, 0⟩
/-- Address of `KSLOT_W4` (R559). -/
def KSLOT_W4_A (i : Nat) : Nat := 0x10000500010 + 32 * i
def KSLOT_W4_EXPIRY_LO (i : Nat) : Fld := ⟨8 * (KSLOT_W4_A i) + 0, 32, 0⟩
/-- Address of `KSLOT_W5` (R559). -/
def KSLOT_W5_A (i : Nat) : Nat := 0x10000500014 + 32 * i
def KSLOT_W5_EXPIRY_HI (i : Nat) : Fld := ⟨8 * (KSLOT_W5_A i) + 0, 16, 0⟩
/-- Address of `KSLOT_W6` (R559). -/
def KSLOT_W6_A (i : Nat) : Nat := 0x10000500018 + 32 * i
def KSLOT_W6_FLACON_LO (i : Nat) : Fld := ⟨8 * (KSLOT_W6_A i) + 0, 32, 0⟩
/-- Address of `KSLOT_W7` (R559). -/
def KSLOT_W7_A (i : Nat) : Nat := 0x1000050001c + 32 * i
def KSLOT_W7_FLACON_HI (i : Nat) : Fld := ⟨8 * (KSLOT_W7_A i) + 0, 8, 0⟩
/-- Address of `KEY_SEGp_STAT` (R560). -/
def KEY_SEGp_STAT_A (i : Nat) : Nat := 0x10f00200 + 8 * i
def KEY_SEGp_STAT_ENC (i : Nat) : Fld := ⟨8 * (KEY_SEGp_STAT_A i) + 0, 1, 0⟩
def KEY_SEGp_STAT_REKEYING (i : Nat) : Fld := ⟨8 * (KEY_SEGp_STAT_A i) + 1, 1, 0⟩
def KEY_SEGp_STAT_ORPHANED (i : Nat) : Fld := ⟨8 * (KEY_SEGp_STAT_A i) + 2, 1, 0⟩
def KEY_SEGp_STAT_LSLOT (i : Nat) : Fld := ⟨8 * (KEY_SEGp_STAT_A i) + 8, 6, 0⟩
/-- Address of `KEY_SEGp_AGE` (R560). -/
def KEY_SEGp_AGE_A (i : Nat) : Nat := 0x10f00204 + 8 * i
def KEY_SEGp_AGE_BLOCKS (i : Nat) : Fld := ⟨8 * (KEY_SEGp_AGE_A i) + 0, 32, 0⟩
/-- Address of `KEY_OPS` (R560). -/
def KEY_OPS_A : Nat := 0x10f00300
def KEY_OPS_COUNT : Fld := ⟨8 * KEY_OPS_A + 0, 32, 0⟩
/-- Address of `KEY_REFUSED` (R560). -/
def KEY_REFUSED_A : Nat := 0x10f00304
def KEY_REFUSED_COUNT : Fld := ⟨8 * KEY_REFUSED_A + 0, 32, 0⟩
/-- Address of `KEY_AUTHFAIL` (R560). -/
def KEY_AUTHFAIL_A : Nat := 0x10f00308
def KEY_AUTHFAIL_COUNT : Fld := ⟨8 * KEY_AUTHFAIL_A + 0, 32, 0⟩
/-- Address of `KEY_ORPHANS` (R560). -/
def KEY_ORPHANS_A : Nat := 0x10f0030c
def KEY_ORPHANS_COUNT : Fld := ⟨8 * KEY_ORPHANS_A + 0, 32, 0⟩
/-- Address of `KEY_REKEYS` (R560). -/
def KEY_REKEYS_A : Nat := 0x10f00310
def KEY_REKEYS_COUNT : Fld := ⟨8 * KEY_REKEYS_A + 0, 32, 0⟩
/-- Address of `KEY_BADSUB` (R560). -/
def KEY_BADSUB_A : Nat := 0x10f00314
def KEY_BADSUB_COUNT : Fld := ⟨8 * KEY_BADSUB_A + 0, 32, 0⟩
/-- Address of `REL_EVT` (R573). -/
def REL_EVT_A : Nat := 0x11000008
def REL_EVT_CE : Fld := ⟨8 * REL_EVT_A + 0, 1, 0⟩
def REL_EVT_UE : Fld := ⟨8 * REL_EVT_A + 1, 1, 0⟩
def REL_EVT_SCR_DONE : Fld := ⟨8 * REL_EVT_A + 2, 1, 0⟩
def REL_EVT_BIST_DONE : Fld := ⟨8 * REL_EVT_A + 3, 1, 0⟩
def REL_EVT_BIST_FAIL : Fld := ⟨8 * REL_EVT_A + 4, 1, 0⟩
/-- Address of `REL_EVT_EN` (R573). -/
def REL_EVT_EN_A : Nat := 0x1100000c
def REL_EVT_EN_CE : Fld := ⟨8 * REL_EVT_EN_A + 0, 1, 0⟩
def REL_EVT_EN_UE : Fld := ⟨8 * REL_EVT_EN_A + 1, 1, 0⟩
def REL_EVT_EN_SCR_DONE : Fld := ⟨8 * REL_EVT_EN_A + 2, 1, 0⟩
def REL_EVT_EN_BIST_DONE : Fld := ⟨8 * REL_EVT_EN_A + 3, 1, 0⟩
def REL_EVT_EN_BIST_FAIL : Fld := ⟨8 * REL_EVT_EN_A + 4, 1, 0⟩
/-- Address of `REL_PARITY` (R573). -/
def REL_PARITY_A : Nat := 0x11000010
def REL_PARITY_COUNT : Fld := ⟨8 * REL_PARITY_A + 0, 32, 0⟩
/-- Address of `REL_TMT_UE` (R573). -/
def REL_TMT_UE_A : Nat := 0x11000014
def REL_TMT_UE_COUNT : Fld := ⟨8 * REL_TMT_UE_A + 0, 32, 0⟩
/-- Address of `REL_MW_IDX` (R573). -/
def REL_MW_IDX_A : Nat := 0x11000040
def REL_MW_IDX_MEM : Fld := ⟨8 * REL_MW_IDX_A + 0, 4, 0⟩
def REL_MW_IDX_BANK : Fld := ⟨8 * REL_MW_IDX_A + 8, 5, 0⟩
/-- Address of `REL_MW_CMD` (R573). -/
def REL_MW_CMD_A : Nat := 0x11000044
def REL_MW_CMD_OP : Fld := ⟨8 * REL_MW_CMD_A + 0, 3, 0⟩
/-- Address of `REL_MW_RES` (R573). -/
def REL_MW_RES_A : Nat := 0x11000048
def REL_MW_RES_DONE : Fld := ⟨8 * REL_MW_RES_A + 0, 1, 1⟩
def REL_MW_RES_ERR : Fld := ⟨8 * REL_MW_RES_A + 1, 3, 0⟩
/-- Address of `REL_MW_ARG` (R573). -/
def REL_MW_ARG_A : Nat := 0x1100004c
def REL_MW_ARG_WORD : Fld := ⟨8 * REL_MW_ARG_A + 0, 32, 0⟩
/-- Address of `REL_MW_DATAk` (R573). -/
def REL_MW_DATAk_A (i : Nat) : Nat := 0x11000080 + 4 * i
def REL_MW_DATAk_WORD (i : Nat) : Fld := ⟨8 * (REL_MW_DATAk_A i) + 0, 32, 0⟩
/-- Address of `REL_SCR_MEM` (R573). -/
def REL_SCR_MEM_A : Nat := 0x11000100
def REL_SCR_MEM_MEM : Fld := ⟨8 * REL_SCR_MEM_A + 0, 4, 0⟩
def REL_SCR_MEM_BANK : Fld := ⟨8 * REL_SCR_MEM_A + 8, 5, 0⟩
/-- Address of `REL_SCR_START` (R573). -/
def REL_SCR_START_A : Nat := 0x11000104
def REL_SCR_START_WORD : Fld := ⟨8 * REL_SCR_START_A + 0, 32, 0⟩
/-- Address of `REL_SCR_END` (R573). -/
def REL_SCR_END_A : Nat := 0x11000108
def REL_SCR_END_WORD : Fld := ⟨8 * REL_SCR_END_A + 0, 32, 0⟩
/-- Address of `REL_SCR_CMD` (R573). -/
def REL_SCR_CMD_A : Nat := 0x1100010c
def REL_SCR_CMD_GO : Fld := ⟨8 * REL_SCR_CMD_A + 0, 1, 0⟩
def REL_SCR_CMD_ABORT : Fld := ⟨8 * REL_SCR_CMD_A + 1, 1, 0⟩
/-- Address of `REL_SCR_STAT` (R573). -/
def REL_SCR_STAT_A : Nat := 0x11000110
def REL_SCR_STAT_BUSY : Fld := ⟨8 * REL_SCR_STAT_A + 0, 1, 0⟩
def REL_SCR_STAT_RESULT : Fld := ⟨8 * REL_SCR_STAT_A + 1, 2, 0⟩
/-- Address of `REL_SCR_READ` (R573). -/
def REL_SCR_READ_A : Nat := 0x11000114
def REL_SCR_READ_COUNT : Fld := ⟨8 * REL_SCR_READ_A + 0, 32, 0⟩
/-- Address of `REL_SCR_CE` (R573). -/
def REL_SCR_CE_A : Nat := 0x11000118
def REL_SCR_CE_COUNT : Fld := ⟨8 * REL_SCR_CE_A + 0, 32, 0⟩
/-- Address of `REL_SCR_UE` (R573). -/
def REL_SCR_UE_A : Nat := 0x1100011c
def REL_SCR_UE_COUNT : Fld := ⟨8 * REL_SCR_UE_A + 0, 32, 0⟩
/-- Address of `REL_SCR_UEAk` (R573). -/
def REL_SCR_UEAk_A (i : Nat) : Nat := 0x11000120 + 4 * i
def REL_SCR_UEAk_WORD (i : Nat) : Fld := ⟨8 * (REL_SCR_UEAk_A i) + 0, 32, 0⟩
/-- Address of `REL_BIST_TGT` (R573). -/
def REL_BIST_TGT_A : Nat := 0x11000180
def REL_BIST_TGT_TARGET : Fld := ⟨8 * REL_BIST_TGT_A + 0, 8, 0⟩
def REL_BIST_TGT_SLICE : Fld := ⟨8 * REL_BIST_TGT_A + 16, 9, 0⟩
/-- Address of `REL_BIST_CMD` (R573). -/
def REL_BIST_CMD_A : Nat := 0x11000184
def REL_BIST_CMD_GO : Fld := ⟨8 * REL_BIST_CMD_A + 0, 1, 0⟩
/-- Address of `REL_BIST_STAT` (R573). -/
def REL_BIST_STAT_A : Nat := 0x11000188
def REL_BIST_STAT_BUSY : Fld := ⟨8 * REL_BIST_STAT_A + 0, 1, 0⟩
def REL_BIST_STAT_RESULT : Fld := ⟨8 * REL_BIST_STAT_A + 1, 2, 0⟩
def REL_BIST_STAT_REASON : Fld := ⟨8 * REL_BIST_STAT_A + 4, 3, 0⟩
/-- Address of `REL_BIST_MISR_LO` (R573). -/
def REL_BIST_MISR_LO_A : Nat := 0x1100018c
def REL_BIST_MISR_LO_MISR : Fld := ⟨8 * REL_BIST_MISR_LO_A + 0, 32, 0⟩
/-- Address of `REL_BIST_MISR_HI` (R573). -/
def REL_BIST_MISR_HI_A : Nat := 0x11000190
def REL_BIST_MISR_HI_MISR : Fld := ⟨8 * REL_BIST_MISR_HI_A + 0, 32, 0⟩
/-- Address of `REL_BIST_FAILS` (R573). -/
def REL_BIST_FAILS_A : Nat := 0x11000194
def REL_BIST_FAILS_COUNT : Fld := ⟨8 * REL_BIST_FAILS_A + 0, 32, 0⟩
/-- Address of `DDR_CTL` (R574). -/
def DDR_CTL_A : Nat := 0x11100000
def DDR_CTL_EN : Fld := ⟨8 * DDR_CTL_A + 0, 1, 0⟩
def DDR_CTL_ECC_EN : Fld := ⟨8 * DDR_CTL_A + 1, 1, 1⟩
def DDR_CTL_SR_EN : Fld := ⟨8 * DDR_CTL_A + 2, 1, 1⟩
/-- Address of `DDR_CFG` (R574). -/
def DDR_CFG_A : Nat := 0x11100004
def DDR_CFG_GIB : Fld := ⟨8 * DDR_CFG_A + 0, 6, 0⟩
def DDR_CFG_CH1 : Fld := ⟨8 * DDR_CFG_A + 8, 1, 1⟩
def DDR_CFG_RATE : Fld := ⟨8 * DDR_CFG_A + 16, 4, 0⟩
/-- Address of `DDR_STAT` (R574). -/
def DDR_STAT_A : Nat := 0x11100008
def DDR_STAT_READY : Fld := ⟨8 * DDR_STAT_A + 0, 1, 0⟩
def DDR_STAT_SELFREF : Fld := ⟨8 * DDR_STAT_A + 1, 1, 0⟩
/-- Address of `DDR_SR` (R574). -/
def DDR_SR_A : Nat := 0x1110000c
def DDR_SR_IDLE : Fld := ⟨8 * DDR_SR_A + 0, 16, 0xa⟩
def DDR_SR_EXIT : Fld := ⟨8 * DDR_SR_A + 16, 16, 5⟩
/-- Address of `SYS_RST` (R589). -/
def SYS_RST_A : Nat := 0x10000000
def SYS_RST_SOFT : Fld := ⟨8 * SYS_RST_A + 0, 1, 0⟩
/-- Address of `SYS_RST_CAUSE` (R589). -/
def SYS_RST_CAUSE_A : Nat := 0x10000004
def SYS_RST_CAUSE_CAUSE : Fld := ⟨8 * SYS_RST_CAUSE_A + 0, 3, 0⟩
def SYS_RST_CAUSE_COUNT : Fld := ⟨8 * SYS_RST_CAUSE_A + 8, 8, 0⟩
/-- Address of `SYS_WDOG_CTL` (R589). -/
def SYS_WDOG_CTL_A : Nat := 0x10000010
def SYS_WDOG_CTL_EN : Fld := ⟨8 * SYS_WDOG_CTL_A + 0, 1, 0⟩
def SYS_WDOG_CTL_TIMEOUT : Fld := ⟨8 * SYS_WDOG_CTL_A + 16, 16, 0x3e8⟩
/-- Address of `SYS_WDOG_KICK` (R589). -/
def SYS_WDOG_KICK_A : Nat := 0x10000014
def SYS_WDOG_KICK_KEY : Fld := ⟨8 * SYS_WDOG_KICK_A + 0, 32, 0⟩
/-- Address of `SYS_BOOT_STAT` (R589). -/
def SYS_BOOT_STAT_A : Nat := 0x10000020
def SYS_BOOT_STAT_STATUS : Fld := ⟨8 * SYS_BOOT_STAT_A + 0, 32, 0⟩
/-- Address of `LCS_STATE` (R589). -/
def LCS_STATE_A : Nat := 0x11200000
def LCS_STATE_LC : Fld := ⟨8 * LCS_STATE_A + 0, 3, 0⟩
/-- Address of `LCS_LC_REQ` (R589). -/
def LCS_LC_REQ_A : Nat := 0x11200004
def LCS_LC_REQ_TARGET : Fld := ⟨8 * LCS_LC_REQ_A + 0, 3, 0⟩
def LCS_LC_REQ_VALID : Fld := ⟨8 * LCS_LC_REQ_A + 7, 1, 0⟩
/-- Address of `LCS_SVN` (R589). -/
def LCS_SVN_A : Nat := 0x11200008
def LCS_SVN_KORWICK : Fld := ⟨8 * LCS_SVN_A + 0, 6, 0⟩
def LCS_SVN_OWNER : Fld := ⟨8 * LCS_SVN_A + 8, 6, 0⟩
/-- Address of `LCS_SVN_REQ` (R589). -/
def LCS_SVN_REQ_A : Nat := 0x1120000c
def LCS_SVN_REQ_KORWICK : Fld := ⟨8 * LCS_SVN_REQ_A + 0, 6, 0⟩
def LCS_SVN_REQ_OWNER : Fld := ⟨8 * LCS_SVN_REQ_A + 8, 6, 0⟩
/-- Address of `LCS_HELPER_OFS` (R589). -/
def LCS_HELPER_OFS_A : Nat := 0x11200010
def LCS_HELPER_OFS_OFS : Fld := ⟨8 * LCS_HELPER_OFS_A + 0, 28, 0⟩
/-- Address of `LCS_USBID` (R589). -/
def LCS_USBID_A : Nat := 0x11200014
def LCS_USBID_VID : Fld := ⟨8 * LCS_USBID_A + 0, 16, 0x3c5e⟩
def LCS_USBID_PID : Fld := ⟨8 * LCS_USBID_A + 16, 16, 0x3240⟩

end Sys2Proof.Machine
end

