-- ==== Sys2Proof/Machine/RegsTrunk.lean ====
section
/-! DEFINITION. Named fields of the registers of blocks TRK, as their register tables give them.
Each field is named BLOCK_REGISTER_FIELD (00_scope, Registers); a field of an indexed register takes its index.
The table words behind an indirect window have homes above the 40-bit address space. -/

namespace Sys2Proof.Machine

/-- Offset of the register range of Tirrun port p in the TRK block: 0 TE, 1 TW, 2 to 9 C0 to C7 (R594). -/
def portOfs (p : Nat) : Nat := if p < 2 then 0x10000 * p else 0x80000 + 0x10000 * (p - 2)

/-- Address of `TRK_PLAN` (R70). -/
def TRK_PLAN_A (i : Nat) : Nat := 0x10400000 + 65536 * i
def TRK_PLAN_PMODE (i : Nat) : Fld := ⟨8 * (TRK_PLAN_A i) + 0, 4, 0⟩
def TRK_PLAN_ALLOW (i : Nat) : Fld := ⟨8 * (TRK_PLAN_A i) + 4, 12, 1⟩
def TRK_PLAN_MEDIUM (i : Nat) : Fld := ⟨8 * (TRK_PLAN_A i) + 16, 1, 0⟩
def TRK_PLAN_BYP (i : Nat) : Fld := ⟨8 * (TRK_PLAN_A i) + 17, 1, 0⟩
def TRK_PLAN_LEN (i : Nat) : Fld := ⟨8 * (TRK_PLAN_A i) + 18, 14, 0⟩
/-- Address of `TRK_CTL` (R71). -/
def TRK_CTL_A (i : Nat) : Nat := 0x10400004 + 65536 * i
def TRK_CTL_EN (i : Nat) : Fld := ⟨8 * (TRK_CTL_A i) + 0, 1, 0⟩
def TRK_CTL_RETRAIN (i : Nat) : Fld := ⟨8 * (TRK_CTL_A i) + 1, 1, 0⟩
def TRK_CTL_LANE_DIS (i : Nat) : Fld := ⟨8 * (TRK_CTL_A i) + 8, 4, 0⟩
/-- Address of `TRK_STAT` (R72). -/
def TRK_STAT_A (i : Nat) : Nat := 0x10400008 + 65536 * i
def TRK_STAT_STATE (i : Nat) : Fld := ⟨8 * (TRK_STAT_A i) + 0, 3, 0⟩
def TRK_STAT_CMODE (i : Nat) : Fld := ⟨8 * (TRK_STAT_A i) + 4, 4, 0⟩
def TRK_STAT_LOCK (i : Nat) : Fld := ⟨8 * (TRK_STAT_A i) + 8, 4, 0⟩
def TRK_STAT_DOWNGRADED (i : Nat) : Fld := ⟨8 * (TRK_STAT_A i) + 12, 1, 0⟩
def TRK_STAT_PLAN_ERR (i : Nat) : Fld := ⟨8 * (TRK_STAT_A i) + 13, 1, 0⟩
def TRK_STAT_LMAP (i : Nat) : Fld := ⟨8 * (TRK_STAT_A i) + 16, 8, 0xe4⟩
/-- Address of `TRK_EVT` (R73). -/
def TRK_EVT_A (i : Nat) : Nat := 0x1040000c + 65536 * i
def TRK_EVT_LOCK_LOST (i : Nat) : Fld := ⟨8 * (TRK_EVT_A i) + 0, 1, 0⟩
def TRK_EVT_FALLBACK (i : Nat) : Fld := ⟨8 * (TRK_EVT_A i) + 1, 1, 0⟩
def TRK_EVT_BLOT_FAIL (i : Nat) : Fld := ⟨8 * (TRK_EVT_A i) + 2, 1, 0⟩
def TRK_EVT_PLAN_MISMATCH (i : Nat) : Fld := ⟨8 * (TRK_EVT_A i) + 3, 1, 0⟩
def TRK_EVT_RETRAIN_FAIL (i : Nat) : Fld := ⟨8 * (TRK_EVT_A i) + 4, 1, 0⟩
def TRK_EVT_LANE_DROPPED (i : Nat) : Fld := ⟨8 * (TRK_EVT_A i) + 5, 1, 0⟩
def TRK_EVT_DESKEW_FAIL (i : Nat) : Fld := ⟨8 * (TRK_EVT_A i) + 6, 1, 0⟩
def TRK_EVT_SERVICE (i : Nat) : Fld := ⟨8 * (TRK_EVT_A i) + 7, 1, 0⟩
/-- Address of `TRK_EVT_EN` (R73). -/
def TRK_EVT_EN_A (i : Nat) : Nat := 0x10400010 + 65536 * i
def TRK_EVT_EN_LOCK_LOST (i : Nat) : Fld := ⟨8 * (TRK_EVT_EN_A i) + 0, 1, 0⟩
def TRK_EVT_EN_FALLBACK (i : Nat) : Fld := ⟨8 * (TRK_EVT_EN_A i) + 1, 1, 0⟩
def TRK_EVT_EN_BLOT_FAIL (i : Nat) : Fld := ⟨8 * (TRK_EVT_EN_A i) + 2, 1, 0⟩
def TRK_EVT_EN_PLAN_MISMATCH (i : Nat) : Fld := ⟨8 * (TRK_EVT_EN_A i) + 3, 1, 0⟩
def TRK_EVT_EN_RETRAIN_FAIL (i : Nat) : Fld := ⟨8 * (TRK_EVT_EN_A i) + 4, 1, 0⟩
def TRK_EVT_EN_LANE_DROPPED (i : Nat) : Fld := ⟨8 * (TRK_EVT_EN_A i) + 5, 1, 0⟩
def TRK_EVT_EN_DESKEW_FAIL (i : Nat) : Fld := ⟨8 * (TRK_EVT_EN_A i) + 6, 1, 0⟩
def TRK_EVT_EN_SERVICE (i : Nat) : Fld := ⟨8 * (TRK_EVT_EN_A i) + 7, 1, 0⟩
/-- Address of `TRK_BLOT_THR_L10` (R74). -/
def TRK_BLOT_THR_L10_A (i : Nat) : Nat := 0x10400020 + 65536 * i
def TRK_BLOT_THR_L10_THR (i : Nat) : Fld := ⟨8 * (TRK_BLOT_THR_L10_A i) + 0, 24, 0⟩
/-- Address of `TRK_BLOT_THR_L25` (R74). -/
def TRK_BLOT_THR_L25_A (i : Nat) : Nat := 0x10400024 + 65536 * i
def TRK_BLOT_THR_L25_THR (i : Nat) : Fld := ⟨8 * (TRK_BLOT_THR_L25_A i) + 0, 24, 0x182b⟩
/-- Address of `TRK_BLOT_THR_L53` (R74). -/
def TRK_BLOT_THR_L53_A (i : Nat) : Nat := 0x10400028 + 65536 * i
def TRK_BLOT_THR_L53_THR (i : Nat) : Fld := ⟨8 * (TRK_BLOT_THR_L53_A i) + 0, 24, 0x31ce⟩
/-- Address of `TRK_BLOT_THR_L106` (R74). -/
def TRK_BLOT_THR_L106_A (i : Nat) : Nat := 0x1040002c + 65536 * i
def TRK_BLOT_THR_L106_THR (i : Nat) : Fld := ⟨8 * (TRK_BLOT_THR_L106_A i) + 0, 24, 0x639c⟩
/-- Address of `TRK_LnSTAT` (R75). -/
def TRK_LnSTAT_A (p n : Nat) : Nat := 0x10400100 + portOfs p + 32 * n
def TRK_LnSTAT_ALIGNED (p n : Nat) : Fld := ⟨8 * (TRK_LnSTAT_A p n) + 0, 1, 0⟩
def TRK_LnSTAT_SIGNAL (p n : Nat) : Fld := ⟨8 * (TRK_LnSTAT_A p n) + 1, 1, 0⟩
def TRK_LnSTAT_ADAPTED (p n : Nat) : Fld := ⟨8 * (TRK_LnSTAT_A p n) + 2, 1, 0⟩
def TRK_LnSTAT_SKEW (p n : Nat) : Fld := ⟨8 * (TRK_LnSTAT_A p n) + 8, 8, 0⟩
def TRK_LnSTAT_RX_PLANE (p n : Nat) : Fld := ⟨8 * (TRK_LnSTAT_A p n) + 16, 2, 0⟩
/-- Address of `TRK_LnBERR` (R75). -/
def TRK_LnBERR_A (p n : Nat) : Nat := 0x10400104 + portOfs p + 32 * n
def TRK_LnBERR_COUNT (p n : Nat) : Fld := ⟨8 * (TRK_LnBERR_A p n) + 0, 32, 0⟩
/-- Address of `TRK_LnFECC` (R75). -/
def TRK_LnFECC_A (p n : Nat) : Nat := 0x10400108 + portOfs p + 32 * n
def TRK_LnFECC_COUNT (p n : Nat) : Fld := ⟨8 * (TRK_LnFECC_A p n) + 0, 32, 0⟩
/-- Address of `TRK_LnFECU` (R75). -/
def TRK_LnFECU_A (p n : Nat) : Nat := 0x1040010c + portOfs p + 32 * n
def TRK_LnFECU_COUNT (p n : Nat) : Fld := ⟨8 * (TRK_LnFECU_A p n) + 0, 32, 0⟩
/-- Address of `TRK_LnBIP` (R75). -/
def TRK_LnBIP_A (p n : Nat) : Nat := 0x10400110 + portOfs p + 32 * n
def TRK_LnBIP_COUNT (p n : Nat) : Fld := ⟨8 * (TRK_LnBIP_A p n) + 0, 32, 0⟩
/-- Address of `TRK_LnTXEQ` (R75). -/
def TRK_LnTXEQ_A (p n : Nat) : Nat := 0x10400114 + portOfs p + 32 * n
def TRK_LnTXEQ_PRE (p n : Nat) : Fld := ⟨8 * (TRK_LnTXEQ_A p n) + 0, 6, 4⟩
def TRK_LnTXEQ_MAIN (p n : Nat) : Fld := ⟨8 * (TRK_LnTXEQ_A p n) + 8, 6, 0x30⟩
def TRK_LnTXEQ_POST (p n : Nat) : Fld := ⟨8 * (TRK_LnTXEQ_A p n) + 16, 6, 8⟩
/-- Address of `TRK_BYP_CTL` (R76). -/
def TRK_BYP_CTL_A : Nat := 0x10420000
def TRK_BYP_CTL_INLINE : Fld := ⟨8 * TRK_BYP_CTL_A + 0, 1, 0⟩
def TRK_BYP_CTL_STATE : Fld := ⟨8 * TRK_BYP_CTL_A + 8, 1, 0⟩
/-- Address of `LNK_CTL` (R109). -/
def LNK_CTL_A (p : Nat) : Nat := 0x10400400 + portOfs p
def LNK_CTL_RING (p : Nat) : Fld := ⟨8 * (LNK_CTL_A p) + 0, 1, 0⟩
def LNK_CTL_ADMIT (p : Nat) : Fld := ⟨8 * (LNK_CTL_A p) + 1, 1, 0⟩
def LNK_CTL_AUTH_REQ (p : Nat) : Fld := ⟨8 * (LNK_CTL_A p) + 2, 1, 1⟩
def LNK_CTL_FAIL (p : Nat) : Fld := ⟨8 * (LNK_CTL_A p) + 3, 1, 0⟩
/-- Address of `LNK_STAT` (R110). -/
def LNK_STAT_A (p : Nat) : Nat := 0x10400404 + portOfs p
def LNK_STAT_STATE (p : Nat) : Fld := ⟨8 * (LNK_STAT_A p) + 0, 3, 0⟩
def LNK_STAT_WRAPPED (p : Nat) : Fld := ⟨8 * (LNK_STAT_A p) + 3, 1, 0⟩
def LNK_STAT_ENC (p : Nat) : Fld := ⟨8 * (LNK_STAT_A p) + 4, 1, 0⟩
def LNK_STAT_CAUSE (p : Nat) : Fld := ⟨8 * (LNK_STAT_A p) + 8, 4, 0⟩
def LNK_STAT_WIN (p : Nat) : Fld := ⟨8 * (LNK_STAT_A p) + 16, 11, 0⟩
/-- Address of `LNK_EVT` (R111). -/
def LNK_EVT_A (p : Nat) : Nat := 0x10400408 + portOfs p
def LNK_EVT_FAILED (p : Nat) : Fld := ⟨8 * (LNK_EVT_A p) + 0, 1, 0⟩
def LNK_EVT_WRAP_ON (p : Nat) : Fld := ⟨8 * (LNK_EVT_A p) + 1, 1, 0⟩
def LNK_EVT_WRAP_OFF (p : Nat) : Fld := ⟨8 * (LNK_EVT_A p) + 2, 1, 0⟩
def LNK_EVT_WRAP_NOTICE (p : Nat) : Fld := ⟨8 * (LNK_EVT_A p) + 3, 1, 0⟩
def LNK_EVT_AUTH_OK (p : Nat) : Fld := ⟨8 * (LNK_EVT_A p) + 4, 1, 0⟩
def LNK_EVT_AUTH_FAIL (p : Nat) : Fld := ⟨8 * (LNK_EVT_A p) + 5, 1, 0⟩
def LNK_EVT_LEN_EXCEEDS (p : Nat) : Fld := ⟨8 * (LNK_EVT_A p) + 6, 1, 0⟩
def LNK_EVT_TAG_STORM (p : Nat) : Fld := ⟨8 * (LNK_EVT_A p) + 7, 1, 0⟩
def LNK_EVT_WRAP_LOOP (p : Nat) : Fld := ⟨8 * (LNK_EVT_A p) + 8, 1, 0⟩
/-- Address of `LNK_EVT_EN` (R111). -/
def LNK_EVT_EN_A (p : Nat) : Nat := 0x1040040c + portOfs p
def LNK_EVT_EN_FAILED (p : Nat) : Fld := ⟨8 * (LNK_EVT_EN_A p) + 0, 1, 0⟩
def LNK_EVT_EN_WRAP_ON (p : Nat) : Fld := ⟨8 * (LNK_EVT_EN_A p) + 1, 1, 0⟩
def LNK_EVT_EN_WRAP_OFF (p : Nat) : Fld := ⟨8 * (LNK_EVT_EN_A p) + 2, 1, 0⟩
def LNK_EVT_EN_WRAP_NOTICE (p : Nat) : Fld := ⟨8 * (LNK_EVT_EN_A p) + 3, 1, 0⟩
def LNK_EVT_EN_AUTH_OK (p : Nat) : Fld := ⟨8 * (LNK_EVT_EN_A p) + 4, 1, 0⟩
def LNK_EVT_EN_AUTH_FAIL (p : Nat) : Fld := ⟨8 * (LNK_EVT_EN_A p) + 5, 1, 0⟩
def LNK_EVT_EN_LEN_EXCEEDS (p : Nat) : Fld := ⟨8 * (LNK_EVT_EN_A p) + 6, 1, 0⟩
def LNK_EVT_EN_TAG_STORM (p : Nat) : Fld := ⟨8 * (LNK_EVT_EN_A p) + 7, 1, 0⟩
def LNK_EVT_EN_WRAP_LOOP (p : Nat) : Fld := ⟨8 * (LNK_EVT_EN_A p) + 8, 1, 0⟩
/-- Address of `LNK_RTT` (R112). -/
def LNK_RTT_A (p : Nat) : Nat := 0x10400410 + portOfs p
def LNK_RTT_NS (p : Nat) : Fld := ⟨8 * (LNK_RTT_A p) + 0, 24, 0⟩
/-- Address of `LNK_ACKTO` (R112). -/
def LNK_ACKTO_A (p : Nat) : Nat := 0x10400414 + portOfs p
def LNK_ACKTO_NS (p : Nat) : Fld := ⟨8 * (LNK_ACKTO_A p) + 0, 24, 0⟩
/-- Address of `LNK_CRED_INITc` (R112). -/
def LNK_CRED_INITc_A (p n : Nat) : Nat := 0x10400420 + portOfs p + 4 * n
def LNK_CRED_INITc_BLOCKS (p n : Nat) : Fld := ⟨8 * (LNK_CRED_INITc_A p n) + 0, 16, 0x100⟩
/-- Address of `LNK_TXSEQ` (R112). -/
def LNK_TXSEQ_A (p : Nat) : Nat := 0x10400440 + portOfs p
def LNK_TXSEQ_COUNT (p : Nat) : Fld := ⟨8 * (LNK_TXSEQ_A p) + 0, 32, 0⟩
/-- Address of `LNK_RXSEQ` (R112). -/
def LNK_RXSEQ_A (p : Nat) : Nat := 0x10400444 + portOfs p
def LNK_RXSEQ_COUNT (p : Nat) : Fld := ⟨8 * (LNK_RXSEQ_A p) + 0, 32, 0⟩
/-- Address of `LNK_RXBAD` (R112). -/
def LNK_RXBAD_A (p : Nat) : Nat := 0x10400448 + portOfs p
def LNK_RXBAD_COUNT (p : Nat) : Fld := ⟨8 * (LNK_RXBAD_A p) + 0, 32, 0⟩
/-- Address of `LNK_RXOOS` (R112). -/
def LNK_RXOOS_A (p : Nat) : Nat := 0x1040044c + portOfs p
def LNK_RXOOS_COUNT (p : Nat) : Fld := ⟨8 * (LNK_RXOOS_A p) + 0, 32, 0⟩
/-- Address of `LNK_REPLAY` (R112). -/
def LNK_REPLAY_A (p : Nat) : Nat := 0x10400450 + portOfs p
def LNK_REPLAY_COUNT (p : Nat) : Fld := ⟨8 * (LNK_REPLAY_A p) + 0, 32, 0⟩
/-- Address of `LNK_NAKRX` (R112). -/
def LNK_NAKRX_A (p : Nat) : Nat := 0x10400454 + portOfs p
def LNK_NAKRX_COUNT (p : Nat) : Fld := ⟨8 * (LNK_NAKRX_A p) + 0, 32, 0⟩
/-- Address of `LNK_ACKTO_CNT` (R112). -/
def LNK_ACKTO_CNT_A (p : Nat) : Nat := 0x10400458 + portOfs p
def LNK_ACKTO_CNT_COUNT (p : Nat) : Fld := ⟨8 * (LNK_ACKTO_CNT_A p) + 0, 32, 0⟩
/-- Address of `LNK_CLOSE` (R112). -/
def LNK_CLOSE_A (p : Nat) : Nat := 0x1040045c + portOfs p
def LNK_CLOSE_COUNT (p : Nat) : Fld := ⟨8 * (LNK_CLOSE_A p) + 0, 32, 0⟩
/-- Address of `LNK_FAILS` (R112). -/
def LNK_FAILS_A (p : Nat) : Nat := 0x10400460 + portOfs p
def LNK_FAILS_COUNT (p : Nat) : Fld := ⟨8 * (LNK_FAILS_A p) + 0, 32, 0⟩
/-- Address of `LNK_WRAPDROP` (R112). -/
def LNK_WRAPDROP_A (p : Nat) : Nat := 0x10400464 + portOfs p
def LNK_WRAPDROP_COUNT (p : Nat) : Fld := ⟨8 * (LNK_WRAPDROP_A p) + 0, 32, 0⟩
/-- Address of `LNK_LINEDROP` (R112). -/
def LNK_LINEDROP_A (p : Nat) : Nat := 0x10400468 + portOfs p
def LNK_LINEDROP_COUNT (p : Nat) : Fld := ⟨8 * (LNK_LINEDROP_A p) + 0, 32, 0⟩
/-- Address of `LNK_FENCEDROP` (R112). -/
def LNK_FENCEDROP_A (p : Nat) : Nat := 0x1040046c + portOfs p
def LNK_FENCEDROP_COUNT (p : Nat) : Fld := ⟨8 * (LNK_FENCEDROP_A p) + 0, 32, 0⟩
/-- Address of `LNK_TRUNC` (R112). -/
def LNK_TRUNC_A (p : Nat) : Nat := 0x10400470 + portOfs p
def LNK_TRUNC_COUNT (p : Nat) : Fld := ⟨8 * (LNK_TRUNC_A p) + 0, 32, 0⟩
/-- Address of `LNK_RXRSV` (R112). -/
def LNK_RXRSV_A (p : Nat) : Nat := 0x10400474 + portOfs p
def LNK_RXRSV_COUNT (p : Nat) : Fld := ⟨8 * (LNK_RXRSV_A p) + 0, 32, 0⟩
/-- Address of `STN_ID` (R138). -/
def STN_ID_A : Nat := 0x10420100
def STN_ID_NUM : Fld := ⟨8 * STN_ID_A + 0, 12, 0⟩
def STN_ID_VALID : Fld := ⟨8 * STN_ID_A + 12, 1, 0⟩
def STN_ID_ROLE : Fld := ⟨8 * STN_ID_A + 13, 2, 0⟩
def STN_ID_DEPTH : Fld := ⟨8 * STN_ID_A + 16, 2, 0⟩
/-- Address of `STN_STAT` (R139). -/
def STN_STAT_A : Nat := 0x10420104
def STN_STAT_FENCED : Fld := ⟨8 * STN_STAT_A + 0, 1, 1⟩
def STN_STAT_ISOLATED : Fld := ⟨8 * STN_STAT_A + 1, 1, 1⟩
/-- Address of `STN_UID_LO` (R139). -/
def STN_UID_LO_A : Nat := 0x10420108
def STN_UID_LO_UID : Fld := ⟨8 * STN_UID_LO_A + 0, 32, 0⟩
/-- Address of `STN_UID_HI` (R139). -/
def STN_UID_HI_A : Nat := 0x1042010c
def STN_UID_HI_UID : Fld := ⟨8 * STN_UID_HI_A + 0, 32, 0⟩
/-- Address of `STN_EVT` (R140). -/
def STN_EVT_A : Nat := 0x10420110
def STN_EVT_FENCE_SET : Fld := ⟨8 * STN_EVT_A + 0, 1, 0⟩
def STN_EVT_NEW_NBR_TE : Fld := ⟨8 * STN_EVT_A + 1, 1, 0⟩
def STN_EVT_NEW_NBR_TW : Fld := ⟨8 * STN_EVT_A + 2, 1, 0⟩
def STN_EVT_NEW_NBR_C : Fld := ⟨8 * STN_EVT_A + 3, 1, 0⟩
def STN_EVT_SELF_LOOP : Fld := ⟨8 * STN_EVT_A + 4, 1, 0⟩
def STN_EVT_EPOCH_AHEAD : Fld := ⟨8 * STN_EVT_A + 5, 1, 0⟩
def STN_EVT_MREQ_DONE : Fld := ⟨8 * STN_EVT_A + 6, 1, 0⟩
/-- Address of `STN_EVT_EN` (R140). -/
def STN_EVT_EN_A : Nat := 0x10420114
def STN_EVT_EN_FENCE_SET : Fld := ⟨8 * STN_EVT_EN_A + 0, 1, 0⟩
def STN_EVT_EN_NEW_NBR_TE : Fld := ⟨8 * STN_EVT_EN_A + 1, 1, 0⟩
def STN_EVT_EN_NEW_NBR_TW : Fld := ⟨8 * STN_EVT_EN_A + 2, 1, 0⟩
def STN_EVT_EN_NEW_NBR_C : Fld := ⟨8 * STN_EVT_EN_A + 3, 1, 0⟩
def STN_EVT_EN_SELF_LOOP : Fld := ⟨8 * STN_EVT_EN_A + 4, 1, 0⟩
def STN_EVT_EN_EPOCH_AHEAD : Fld := ⟨8 * STN_EVT_EN_A + 5, 1, 0⟩
def STN_EVT_EN_MREQ_DONE : Fld := ⟨8 * STN_EVT_EN_A + 6, 1, 0⟩
/-- Address of `LNK_MREQ` (R141). -/
def LNK_MREQ_A (p : Nat) : Nat := 0x10400480 + portOfs p
def LNK_MREQ_PLAN (p : Nat) : Fld := ⟨8 * (LNK_MREQ_A p) + 0, 4, 0⟩
def LNK_MREQ_RING (p : Nat) : Fld := ⟨8 * (LNK_MREQ_A p) + 4, 1, 0⟩
def LNK_MREQ_BYP (p : Nat) : Fld := ⟨8 * (LNK_MREQ_A p) + 5, 1, 0⟩
def LNK_MREQ_GO (p : Nat) : Fld := ⟨8 * (LNK_MREQ_A p) + 8, 1, 0⟩
/-- Address of `LNK_MRES` (R142). -/
def LNK_MRES_A (p : Nat) : Nat := 0x10400484 + portOfs p
def LNK_MRES_RESULT (p : Nat) : Fld := ⟨8 * (LNK_MRES_A p) + 0, 3, 0⟩
def LNK_MRES_AMODE (p : Nat) : Fld := ⟨8 * (LNK_MRES_A p) + 4, 4, 0⟩
def LNK_MRES_BACKOFF (p : Nat) : Fld := ⟨8 * (LNK_MRES_A p) + 16, 13, 0⟩
/-- Address of `LNK_REQSER` (R142). -/
def LNK_REQSER_A (p : Nat) : Nat := 0x10400488 + portOfs p
def LNK_REQSER_SER (p : Nat) : Fld := ⟨8 * (LNK_REQSER_A p) + 0, 32, 0⟩
/-- Address of `LNK_NBR_UIDLO` (R142). -/
def LNK_NBR_UIDLO_A (p : Nat) : Nat := 0x1040048c + portOfs p
def LNK_NBR_UIDLO_UID (p : Nat) : Fld := ⟨8 * (LNK_NBR_UIDLO_A p) + 0, 32, 0⟩
/-- Address of `LNK_NBR_UIDHI` (R142). -/
def LNK_NBR_UIDHI_A (p : Nat) : Nat := 0x10400490 + portOfs p
def LNK_NBR_UIDHI_UID (p : Nat) : Fld := ⟨8 * (LNK_NBR_UIDHI_A p) + 0, 32, 0⟩
/-- Address of `LNK_NBR_INFO` (R142). -/
def LNK_NBR_INFO_A (p : Nat) : Nat := 0x10400494 + portOfs p
def LNK_NBR_INFO_STATION (p : Nat) : Fld := ⟨8 * (LNK_NBR_INFO_A p) + 0, 12, 0⟩
def LNK_NBR_INFO_VALID (p : Nat) : Fld := ⟨8 * (LNK_NBR_INFO_A p) + 12, 1, 0⟩
def LNK_NBR_INFO_PORT (p : Nat) : Fld := ⟨8 * (LNK_NBR_INFO_A p) + 13, 2, 0⟩
def LNK_NBR_INFO_REV (p : Nat) : Fld := ⟨8 * (LNK_NBR_INFO_A p) + 16, 8, 0⟩
/-- Address of `TCL_CFG` (R434). -/
def TCL_CFG_A (i : Nat) : Nat := 0x10480000 + 65536 * i
def TCL_CFG_ALLOW (i : Nat) : Fld := ⟨8 * (TCL_CFG_A i) + 0, 5, 1⟩
/-- Address of `TCL_CTL` (R434). -/
def TCL_CTL_A (i : Nat) : Nat := 0x10480004 + 65536 * i
def TCL_CTL_EN (i : Nat) : Fld := ⟨8 * (TCL_CTL_A i) + 0, 1, 1⟩
def TCL_CTL_FORCE_L25 (i : Nat) : Fld := ⟨8 * (TCL_CTL_A i) + 1, 1, 0⟩
def TCL_CTL_RESTEP (i : Nat) : Fld := ⟨8 * (TCL_CTL_A i) + 2, 1, 0⟩
def TCL_CTL_LANE_DIS (i : Nat) : Fld := ⟨8 * (TCL_CTL_A i) + 8, 2, 0⟩
/-- Address of `TCL_STAT` (R434). -/
def TCL_STAT_A (i : Nat) : Nat := 0x10480008 + 65536 * i
def TCL_STAT_STATE (i : Nat) : Fld := ⟨8 * (TCL_STAT_A i) + 0, 3, 0⟩
def TCL_STAT_CMODE (i : Nat) : Fld := ⟨8 * (TCL_STAT_A i) + 4, 4, 0⟩
def TCL_STAT_LOCK (i : Nat) : Fld := ⟨8 * (TCL_STAT_A i) + 8, 2, 0⟩
def TCL_STAT_DOWNGRADED (i : Nat) : Fld := ⟨8 * (TCL_STAT_A i) + 12, 1, 0⟩
/-- Address of `TCL_EVT` (R434). -/
def TCL_EVT_A (i : Nat) : Nat := 0x1048000c + 65536 * i
def TCL_EVT_LOCK_LOST (i : Nat) : Fld := ⟨8 * (TCL_EVT_A i) + 0, 1, 0⟩
def TCL_EVT_SERVICE (i : Nat) : Fld := ⟨8 * (TCL_EVT_A i) + 1, 1, 0⟩
def TCL_EVT_DOWNGRADE (i : Nat) : Fld := ⟨8 * (TCL_EVT_A i) + 2, 1, 0⟩
/-- Address of `TCL_EVT_EN` (R434). -/
def TCL_EVT_EN_A (i : Nat) : Nat := 0x10480010 + 65536 * i
def TCL_EVT_EN_LOCK_LOST (i : Nat) : Fld := ⟨8 * (TCL_EVT_EN_A i) + 0, 1, 0⟩
def TCL_EVT_EN_SERVICE (i : Nat) : Fld := ⟨8 * (TCL_EVT_EN_A i) + 1, 1, 0⟩
def TCL_EVT_EN_DOWNGRADE (i : Nat) : Fld := ⟨8 * (TCL_EVT_EN_A i) + 2, 1, 0⟩
/-- Address of `TCL_STARTFAIL` (R434). -/
def TCL_STARTFAIL_A (i : Nat) : Nat := 0x10480014 + 65536 * i
def TCL_STARTFAIL_COUNT (i : Nat) : Fld := ⟨8 * (TCL_STARTFAIL_A i) + 0, 32, 0⟩
/-- Address of `TCL_BLOT_THR_L10` (R434). -/
def TCL_BLOT_THR_L10_A (i : Nat) : Nat := 0x10480020 + 65536 * i
def TCL_BLOT_THR_L10_THR (i : Nat) : Fld := ⟨8 * (TCL_BLOT_THR_L10_A i) + 0, 24, 0⟩
/-- Address of `TCL_BLOT_THR_L25` (R434). -/
def TCL_BLOT_THR_L25_A (i : Nat) : Nat := 0x10480024 + 65536 * i
def TCL_BLOT_THR_L25_THR (i : Nat) : Fld := ⟨8 * (TCL_BLOT_THR_L25_A i) + 0, 24, 0x182b⟩

end Sys2Proof.Machine
end

