-- ==== Sys2Proof/Machine/Sparse.lean ====
section
/-! DEFINITION. Sparse tables as plain data: a list of key and value pairs, keys strictly rising, holding no entry equal to
what an unlisted key reads as. Memory, the register store and every indexed piece of state use these operations. -/

namespace Sys2Proof.Machine

/-- A table from numbers to values. -/
abbrev Tab (α : Type) := List (Nat × α)

/-- The value listed at key `k`, if one is. -/
def Tab.find {α : Type} (k : Nat) : Tab α → Option α
  | [] => none
  | (k', v) :: t => if k' = k then some v else Tab.find k t

/-- The value at key `k`: `dflt` where nothing is listed. -/
def Tab.get {α : Type} (t : Tab α) (k : Nat) (dflt : α) : α := (t.find k).getD dflt

/-- The table with every entry at key `k` removed. -/
def Tab.erase {α : Type} (k : Nat) : Tab α → Tab α
  | [] => []
  | (k', v) :: t => if k' = k then Tab.erase k t else (k', v) :: Tab.erase k t

/-- `(k, v)` put before the first greater key. -/
def Tab.insert {α : Type} (k : Nat) (v : α) : Tab α → Tab α
  | [] => [(k, v)]
  | (k', v') :: t => if k < k' then (k, v) :: (k', v') :: t else (k', v') :: Tab.insert k v t

/-- The table reading `v` at key `k`, everything else as before, in canonical form. -/
def Tab.set {α : Type} [DecidableEq α] (t : Tab α) (k : Nat) (v dflt : α) : Tab α :=
  if v = dflt then Tab.erase k t else Tab.insert k v (Tab.erase k t)

/-- Every listed value through `f`, in canonical form. -/
def Tab.mapValues {α : Type} [DecidableEq α] (f : α → α) (dflt : α) (t : Tab α) : Tab α :=
  (t.map (fun x => (x.1, f x.2))).filter (fun x => x.2 ≠ dflt)

/-- The canonical form: keys strictly rising, no entry equal to the default. -/
def Tab.wf {α : Type} [DecidableEq α] (dflt : α) : Tab α → Bool
  | [] => true
  | [(_, v)] => v ≠ dflt
  | (k, v) :: (k', v') :: t => v ≠ dflt && k < k' && Tab.wf dflt ((k', v') :: t)

end Sys2Proof.Machine
end

