-- ==== Sys2Proof/Machine/StateAccord.lean ====
section
/-! DEFINITION. The part of the state behind the accord engine (spec 09): the slots' write and read sets (R280 to R286), the
the LINE accords between PREPARE and T, the history (R296 to
R304). -/

namespace Sys2Proof.Machine

/-- A slot beside its registers: T, staged register words, staged memory words (64-bit word address to byte mask and data),
read-set lines, the control transfer a held accord names, whether the accord engine opened it, and the epoch it
establishes. -/
structure AccSlot where
  t     : Ts
  regs  : Tab Nat
  mems  : Tab (Nat × Nat)
  rset  : List Nat
  tag   : Option Nat
  ace   : Bool
  epoch : Option Nat
  deriving DecidableEq, Repr

def AccSlot.reset : AccSlot := ⟨⟨0, 0, 0⟩, [], [], [], none, false, none⟩

/-- A LINE accord at this hub from PREPARE on: its block's fields, the upstream port, the downstream ports and their answers
(a VOTE, or none for a PREPARE copy or a lost port), the own vote (none while fenced), whether a port was lost while fenced,
the abort code, the phase (1 VOTING, 2 VOTED, 3 GO). Its slots are those that hold the ID. -/
structure LineSt where
  epoch : Nat
  t     : Ts
  coord : Nat
  up    : Option Nat
  role  : Bool
  down  : List Nat
  answers : Tab (Option AcMsg)
  own   : Option Bool
  lost  : Bool
  code  : Nat
  phase : Nat
  deriving DecidableEq, Repr

/-- The staged words of a committed accord that a clock domain has not swapped yet (R289, R290): the domain, the instant of its swap in
steps of 2 ns, the words, and the thread whose `ACC` waits for it (R291). -/
structure Swap where
  clk  : Nat
  due  : Nat
  regs : Tab Nat
  thr  : Option Nat
  deriving DecidableEq, Repr

/-- The accord engine: slots, LINE accords by ID, the last 64 IDs with their outcomes (0 committed or GO, else the code), the code of a
LINE accord that aborted here before its ID's decision (R300), the swaps still to come (R290), and the order in which the slots were
opened (R370). -/
structure AccPart where
  slots  : Tab AccSlot
  lines  : Tab LineSt
  hist   : List (Nat × Nat)
  aborts : Tab Nat
  swaps  : List Swap
  born   : Tab Nat
  opened : Nat
  deriving DecidableEq, Repr

def AccPart.reset : AccPart := ⟨[], [], [], [], [], [], 0⟩

end Sys2Proof.Machine
end

