-- ==== Sys2Proof/Machine/StateBoot.lean ====
section
/-! DEFINITION. The part of the state of the feed controller (spec 16) and of reset and boot (spec 20). -/

namespace Sys2Proof.Machine

/-- What the present evaluation tick has brought that its end decides, since events of a higher rank may still join (R507): sense below
90 % of SLOW, the selected feed above OV, a gate-rise timeout, the end of the off time, a slow trip not counted yet; the state and FT_RUN
that a loss of seating ended; whether CLR_HIST and CLR_LATCH were given; the number of the tick that has begun. -/
structure HswMeet where
  calm      : Bool
  high      : Bool
  rise      : Bool
  ended     : Bool
  slow      : Bool
  lost      : Option (Nat × Bool)
  cleared   : Bool
  unlatched : Bool
  tick      : Nat
  deriving DecidableEq, Repr

def HswMeet.none : HswMeet := ⟨false, false, false, false, false, .none, false, false, 0⟩

/-- The feed controller beside its registers: whether the ramp is complete and the gate at its on-threshold (R493, R494); the
FAULT_TO of the running fault timer (R509); the 10 µs samples since the attempt's gate drive and since the fault timer started, and the
µs from the sample before to each of the two (R501); the 10 µs samples until the earliest restart and whether the next start counts as a retry (R502, R503); whether seating was lost in LATCHED and has not been counted
again (R492); the feed whose UV PGOOD follows through a change (R500); the samples of the last 1 ms, newest first: feed A,
feed B, VOUT, sense (R506); the energy in µJ and its fraction; the events of the present evaluation tick (R507). -/
structure HswPart where
  ramped  : Bool
  gateOn  : Bool
  faultTo : Nat
  driven  : Nat
  driveAt : Nat
  timed   : Nat
  timedAt : Nat
  offLeft : Nat
  owed    : Bool
  loose   : Bool
  keepUv  : Option Nat
  samples : List (Nat × Nat × Nat × Nat)
  energy  : Nat
  frac    : Rat
  meets   : HswMeet
  deriving DecidableEq, Repr

def HswPart.reset : HswPart := ⟨false, false, 0, 0, 0, 0, 0, 0, false, false, none, [], 0, 0, HswMeet.none⟩

/-- An image that the boot ROM has accepted (R344, R345, R582): whether it is an owner's, its SVN, its LOAD address and size, the
logical threads it names, the address each starts at, its EVBASE, and its body's place in flash. -/
structure Image where
  owner : Bool
  svn   : Nat
  load  : Nat
  size  : Nat
  tmask : Nat
  entry : Nat
  evb   : Nat
  body  : Nat
  deriving DecidableEq, Repr

/-- The one-time-programmable memory: the lifecycle state, the SVN and ROOTGEN counters, the helper record's offset, the DDR_CFG
values, the hashes of the CA and owner public keys (R536, R548, R581, R583, R585). -/
structure Otp where
  lc        : Nat
  svnK      : Nat
  svnO      : Nat
  rootgen   : Nat
  helperOfs : Nat
  ddrCfg    : Nat
  caHash    : List Byte
  ownerHash : List Byte
  usbId     : Nat
  deriving DecidableEq, Repr

def Otp.blank : Otp := ⟨0, 0, 0, 0, 0, 0, [], [], 0⟩

/-- Reset and boot: PORST_N low; the step of R578 completed last (9 while the ROM waits for the DRAM wipe, 10 once it is done); the
cores whose logic BIST failed; the boot core; the images accepted and their number rejected; whether boot BIST failed fatally, whether
the second copy of the directory was used, whether a token was applied (R584); whether DRAM has been wiped since the reset; the
watchdog TIMEOUT in force in ms, 0 while it does not run; the boot status word last sent on UART_TX; the fuses. -/
structure BootPart where
  porst   : Bool
  stage   : Nat
  failed  : Nat
  core    : Nat
  images  : List Image
  rejects : Nat
  fatal   : Bool
  copy    : Bool
  token   : Bool
  wiped   : Bool
  wdog    : Nat
  report  : Option Nat
  otp     : Otp
  deriving DecidableEq, Repr

def BootPart.reset : BootPart := ⟨true, 0, 0, 0, [], 0, false, false, false, false, 0, none, Otp.blank⟩

end Sys2Proof.Machine
end

