-- ==== Sys2Proof/Machine/StateCore.lean ====
section
/-! DEFINITION. The parts of the state that serve every block: event records and the AON queue (R28, R334), posted
register writes (R17, R20), Sillage (R236 to R239), the time bases, the servo and the timed pins (R213 to R232). -/

namespace Sys2Proof.Machine

/-- An event record before it is stored (R334). -/
structure EvRec where
  code : Nat
  src  : Nat
  time : Nat
  arg  : Nat
  deriving DecidableEq, Repr

/-- A register write posted by a thread that has not yet taken effect (R17, R20). That of KOP to the key unit's submission register
brings the descriptor (R369); of any other write `desc` is empty. -/
structure PostedWrite where
  thr  : Nat
  addr : Nat
  val  : Nat
  desc : List Byte
  deriving DecidableEq, Repr

/-- The power die's event queue, its count of records not stored and the instant of the first of them (R28), and
whether the bridge carries transfers (R29). -/
structure AonQueue where
  recs     : List EvRec
  lost     : Nat
  lostTime : Nat
  bridgeUp : Bool
  deriving DecidableEq, Repr

/-- A Sillage entry waiting in the writer's FIFO (R236); `args` is bytes 16 to 31 as one little-endian number. -/
structure SilEntry where
  time : Nat
  src  : Nat
  code : Nat
  args : Nat
  deriving DecidableEq, Repr

/-- The Sillage writer: its FIFO of 256 entries and the entries dropped since the last GAP entry (R238). -/
structure Sillage where
  fifo : List SilEntry
  lost : Nat
  deriving DecidableEq, Repr

/-- One time base (R4, R213). -/
abbrev TimeBase := Ts

/-- The servo's values that no register holds: integ and f times P in units of 2^-23 ns, r in 2^-32 ns, the sample
period P in ns (R221), the runs of good and bad samples (R222), and the TIME cycle of the last qualifying tick of each port
(R224) and the COUNT of its last tick (R220). -/
structure Servo where
  integ  : Int
  fnum   : Int
  period : Nat
  r      : Int
  good   : Nat
  bad    : Nat
  hold   : Nat
  lastTick : Tab Nat
  lastCount : Tab Nat
  deriving DecidableEq, Repr

/-- A queued pin event (R230): its instant, its action code and its width. -/
structure TioEvent where
  sec   : Nat
  ns    : Nat
  act   : Nat
  width : Nat
  deriving DecidableEq, Repr

/-- A captured edge (R232). -/
structure TioStamp where
  sec  : Nat
  ns   : Nat
  rise : Bool
  deriving DecidableEq, Repr

/-- A timed pin: its event queue and capture FIFO, the end of the pulse in progress, the pulse train's width and next
start, and the level an input shows (R229 to R232). -/
structure TioPin where
  evq     : List TioEvent
  caps    : List TioStamp
  train   : Option Nat
  pulse   : Bool
  deriving DecidableEq, Repr

def TioPin.reset : TioPin := ⟨[], [], none, false⟩

/-- The delay measurement of a port: DSEQ and T1 of the last REQ, whether D has been measured since INIT, and the
rejections in a row (R219). -/
structure DelayPart where
  dseq     : Nat
  waiting  : Bool
  measured : Bool
  rejects  : Nat
  deriving DecidableEq, Repr

def DelayPart.reset : DelayPart := ⟨0, false, false, 0⟩

/-- A servo sample of the present TIME cycle, which acts as that cycle ends (R226): its port, its offset in 2^-8 ns and its source. -/
structure Sample where
  port   : Nat
  e      : Int
  source : Option Nat
  deriving DecidableEq, Repr

/-- The TIME domain beside its registers. `levels` is what the outside drives on each timed pin (R229); `sample` the servo sample of
the present TIME cycle, `pre` the time bases before a load, with the TIME cycle in which they stood (R226). -/
structure TimePart where
  tbs      : Tab TimeBase
  cyc      : Nat
  counting : Bool
  padj     : Tab Int
  servo    : Servo
  pins     : Tab TioPin
  delay    : Tab DelayPart
  tickCount : Nat
  ppsOut   : Bool
  levels   : Tab Bool
  sample   : Option Sample
  pre      : Option (Nat × Tab TimeBase)
  deriving DecidableEq, Repr

/-- What the present cycle has brought: the flags that the device set, each with its instant and the record that a clear in the same
cycle makes due (R12, R616); the registers that software or a commit wrote, with the instant (R14, R292); and the indirect windows whose
command runs, by the bit address of DONE (R153, R211); the instant of a watchdog's soft reset (R588). Instants are counts of 2 ns. -/
structure CyclePart where
  sets    : List (Nat × Nat × Option EvRec)
  words   : List (Nat × Nat)
  windows : List Nat
  expiry  : Option Nat
  deriving DecidableEq, Repr

def CyclePart.reset : CyclePart := ⟨[], [], [], none⟩

end Sys2Proof.Machine
end

