-- ==== Sys2Proof/Machine/StateNet.lean ====
section
/-! DEFINITION. The parts of the state that carry traffic: bring-up sequencers (R60 to R65, R429), link layers (R80 to R108,
R134 to R137), stored cells, packets and queues (R182 to R204), scheduler tags and tokens (R252 to R254, R262), and the
ends of tunnels (R168 to R174). Ports are numbered 0 TE, 1 TW, 2 to 9 C0 to C7. -/

namespace Sys2Proof.Machine

/-- Where a lane stands in acquiring or losing alignment (R52, R54, R55), whether its skew failed it (R56), and what the last
alignment set or comma block with a good check announced: logical lane, mode code where it is valid, counter (R46, R51, R53, R65). -/
structure LaneSt where
  good   : Nat
  missed : Nat
  skewBad : Bool
  lane   : Nat
  mode   : Option Nat
  count  : Nat
  deriving DecidableEq, Repr

def LaneSt.reset : LaneSt := ⟨0, 0, false, 0, none, 0⟩

/-- What a physical lane sends (R45, R48 to R53, R60, R64): code groups since the last alignment set or codewords since the last
comma block, alignment sets or comma blocks sent, the BIP-8 since the last one, whether the running disparity is positive, the
transcoded blocks of the codeword being filled with their pair marks, the PRBS31 register, the TXEQ word in use (R75), and the
line symbols put out at the last block boundary, none in electrical idle. -/
structure LaneTx where
  since : Nat
  marks : Nat
  bip   : Nat
  plus  : Bool
  words : List (Bool × List Byte)
  prbs  : Nat
  eq    : Nat
  out   : Option (List Nat)
  deriving DecidableEq, Repr

def LaneTx.reset : LaneTx := ⟨0, 0, 0, false, [], 0, 0, none⟩

/-- The sending PHY of a port: its physical lanes; the first half of a block pair under way, and whether its second half carries a
fill block (R50); the logical lane that takes the next transcoded block (R48). -/
structure PhyTx where
  lanes : Tab LaneTx
  half  : Option (List Byte)
  fill  : Bool
  next  : Nat
  deriving DecidableEq, Repr

def PhyTx.reset : PhyTx := ⟨[], none, false, 0⟩

/-- A bring-up sequencer beside its registers (R58 to R65, R429); `dis` holds LANE_DIS as it stood at entry to PLAN_TX or START (R58),
`told` whether the own BLOT_RESULT has been sent (R64). -/
structure SeqSt where
  pmode    : Nat
  allow    : Nat
  medium   : Bool
  byp      : Bool
  len      : Nat
  used     : Bool
  target   : Nat
  dis      : Nat
  out      : Nat
  mismatch : Bool
  partner  : Option Cap
  own      : Option (List (Bool × Nat))
  theirs   : Option (List (Bool × Nat))
  passed   : Option Nat
  lanes    : Tab LaneSt
  selfLoop : Bool
  told     : Bool
  phy      : PhyTx
  deriving DecidableEq, Repr

def SeqSt.reset : SeqSt :=
  ⟨0, 1, false, false, 0, false, 0, 0, 0, false, none, none, none, none, [], false, false, PhyTx.reset⟩

/-- A sequenced block kept for replay: its extended sequence number, the block and its 272 bytes as first sent, how often it has been
replayed, and when it was first sent and first replayed, in TIME cycles (R83, R87, R88). -/
structure Sent where
  ext     : Nat
  blk     : Block
  bytes   : List Byte
  replays : Nat
  sentAt  : Nat
  replayAt : Option Nat
  deriving DecidableEq, Repr

/-- A segment key of one direction (R97, R99): the 256-bit key, its salt, the blocks it has protected. -/
structure SegKey where
  key  : Nat
  salt : Nat
  blocks : Nat
  deriving DecidableEq, Repr

/-- A mode request (R96, R134 to R137): the one pending as sent, the answer given to the partner's last serial, and whether
a held request waits, and the TIME cycle in which a back-off ends. -/
structure MReq where
  pending : Option Cap
  answered : Option (Nat × Cap)
  restart : Option (Nat × Bool × Bool)
  held    : Bool
  backoff : Option Nat
  deriving DecidableEq, Repr

/-- What follows once a sequenced control block has been sent: nothing; the transmit key is in use from the next block on (R552, R553);
the handshake or the re-key that it refuses has failed (R552, R553). -/
inductive After where
  | none
  | key (k : SegKey)
  | authFail
  | keyFail
  deriving DecidableEq, Repr

/-- A fragment of an AUTH message: its number, their count, the message's length, the bytes carried (R94). -/
structure Frag where
  msg   : Nat
  idx   : Nat
  cnt   : Nat
  total : Nat
  bytes : List Byte
  deriving DecidableEq, Repr

/-- A link layer beside its registers. Sequence numbers are extended (R97); credits are cumulative counts by class; `rxNext` is the
receive key of the partner's change point, with its ESN and NCP (R99, R553); `init` holds LNK_CRED_INITc as it stood at entry to
INIT (R112), `frags` the fragments of the AUTH message that is arriving (R94), `lastTx` the block sent last and `wire` its bytes, `due` what follows it. -/
structure LinkSt where
  txNext   : Nat
  replay   : List Sent
  rpPoint  : Option Nat
  rpNext   : Nat
  rxExp    : Nat
  akind    : Nat
  ackOwed  : Bool
  nakAt    : Option (Nat × Nat)
  granted  : Tab Nat
  used     : Tab Nat
  cum      : Tab Nat
  creditOn : Bool
  creditDue : Bool
  ccls     : Nat
  claim    : Bool
  ctl      : List (Body × After)
  caps     : List Cap
  tickDue  : Bool
  delays   : List Delay
  sinceIdle : Nat
  nonceTx  : Nat
  nonceRx  : Nat
  pid      : Nat
  rxWait   : List Block
  tagFails : List Nat
  rttWin   : List (Nat × Nat)
  txKey    : Option SegKey
  rxKey    : Option SegKey
  rxNext   : Option (SegKey × Nat × Nat)
  mreq     : MReq
  known    : Bool
  notice   : Option (Nat × Ts)
  lastTx   : Option Block
  wire     : List Byte
  init     : Tab Nat
  frags    : List Frag
  due      : After
  deriving DecidableEq, Repr

def LinkSt.reset : LinkSt :=
  ⟨0, [], none, 0, 0, 0, false, none, [], [], [], false, false, 0, false, [], [], false, [], 0, 0, 0, 0, [], [], [],
   none, none, none, ⟨none, none, none, false, none⟩, false, none, none, [], [], [], .none⟩

/-- The pool a stored cell is charged to (R189), the spill store (R196), or its local source while it waits there. A reserve cell
that has outlived its port's session is no longer `live`: no credit stands for it (R190). -/
inductive Pool where
  | src | rsv (p : Nat) (live : Bool) | hold | stage | shared | spill
  deriving DecidableEq, Repr

/-- A cell of a packet: its cell number or its cell of the spill store, its pool, its valid bytes, and whether it read
back with an uncorrectable error (R182 to R186, R196). -/
structure Cell where
  num  : Nat
  pool : Pool
  data : List Byte
  bad  : Bool
  deriving DecidableEq, Repr

/-- Where a packet stands (R194): held under order 5, admitted on-chip, or admitted to the spill store. -/
inductive Place where
  | held | chip | spill
  deriving DecidableEq, Repr

/-- A packet in the switch core: where it came in (0 to 9 Tirrun ports, 10 to 19 E0 to E9, 20 SYN, 21 STO, 22 USB) and
under which arrival PID, its queue, its service queue, its header, its stored cells that have not left, whether its
last cell is stored, whether it is poisoned or ends in a closing block, whether it is cut through, started, or moved to
a wrapped path, the instant of its admission, the bytes received, the running CRC and
the bytes after the payload, the context that terminates it, its place, and whether it is the copy whose cells came under
credit and under which credit class, the failed port on which it was being sent, where its remaining blocks are discarded as they
arrive (R105), and whether CT_EN and the rates permitted cut-through at its first cell (R202, R203). -/
structure Pkt where
  ing     : Nat
  pid     : Nat
  queue   : Nat
  sq      : Nat
  hdr     : THdr
  frame   : Bool
  cells   : List Cell
  whole   : Bool
  poison  : Bool
  closing : Bool
  cut     : Bool
  started : Bool
  dataW   : Bool
  admitAt : Nat
  bytes   : Nat
  crc     : Nat
  tail    : List Byte
  term    : Option Nat
  place   : Place
  lead    : Bool
  credit  : Nat
  trunc   : Option Nat
  fast    : Bool
  deriving DecidableEq, Repr

/-- A packet open on a Tirrun egress: its number, tier, outgoing service queue and PID (R80, R251). -/
structure OpenTx where
  pkt  : Nat
  tier : Nat
  sq   : Nat
  pid  : Nat
  closeAt : Option Nat
  deriving DecidableEq, Repr

/-- The switch core beside its registers: packets by number and the next number; the packets of each queue in order;
packets held under order 5, by ingress; the copies an arriving packet feeds, by ingress and PID; the cell last taken by
each ingress; cells in use and cell contents; spill cells in use; the reserve claimed and used, by port; claims pending;
SHARED cells used; STAGE cells used; refills running; packets open on each Tirrun egress; the instant up to which the spill
rate is used, in ps (R199); the reserve cells left of earlier sessions, by port (R190); the instant until which each bank's write
port is taken, in ps (R184); the queues whose refill found STAGE full (R198). -/
structure SwitchPart where
  pkts    : Tab Pkt
  nextPkt : Nat
  queues  : Tab (List Nat)
  held    : Tab (List Nat)
  rxOpen  : Tab (Option (List Nat))
  lastBank : Tab Nat
  inUse   : Tab Bool
  content : Tab (List Byte)
  spillUse : Tab Bool
  rsv     : Tab (Nat × Nat)
  claims  : List Nat
  shared  : Nat
  stage   : Nat
  refill  : Tab Bool
  opens   : Tab (List OpenTx)
  spillAt : Nat
  rsvOld  : Tab Nat
  wrBusy  : Tab Nat
  stageWait : List Nat
  deriving DecidableEq, Repr

def SwitchPart.reset : SwitchPart := ⟨[], 0, [], [], [], [], [], [], [], [], [], 0, 0, [], [], 0, [], [], []⟩

/-- A queue in the scheduler: F_q, the packet tagged as its head with F_h, tokens in 2^-24 byte, the CORE cycle they were brought
up to, and the packets started since the last telemetry sample (R253, R254, R266). -/
structure QSched where
  fq     : Nat
  fh     : Option (Nat × Nat)
  tok    : Int
  tokAt  : Nat
  since  : Nat
  deriving DecidableEq, Repr

def QSched.reset : QSched := ⟨0, none, 0, 0, 0⟩

/-- A policer's buckets in 2^-24 byte and the CORE cycle they were brought up to (R262). -/
structure Policer where
  tc : Nat
  tx : Nat
  at_ : Nat
  deriving DecidableEq, Repr

def Policer.reset : Policer := ⟨0, 0, 0⟩

/-- The schedulers beside their registers: queues; virtual times by egress and tier; the base queue started last plus
1, by egress and PRIO; policers; per trunk port the EN in force, and whether GATE_CFG was raised for the bank selected; of a
telemetry pass the queues still to visit and the CORE cycle of the next visit (R265). -/
structure SchedPart where
  qs    : Tab QSched
  vt    : Tab Nat
  lastBase : Tab Nat
  pols  : Tab Policer
  gateOn : Tab Bool
  cfgRaised : Tab Bool
  visits  : List Nat
  visitAt : Nat
  deriving DecidableEq, Repr

def SchedPart.reset : SchedPart := ⟨[], [], [], [], [], [], [], 0⟩

/-- A packet a local source hands to a context: the context, the ingress, the payload, the pre-colour, AUX, the sender's
thread and tag where it is a packet send of a thread, whether the policer has counted it as held. -/
structure LocalPkt where
  ctx     : Nat
  ing     : Nat
  payload : List Byte
  pre     : Option Nat
  aux     : Nat
  tag     : Option (Nat × Nat)
  heldRed : Bool
  deriving DecidableEq, Repr

/-- A copy kept for resend: its TSEQ, the bytes of its header and payload, its cells of the resend store in order, which hold them,
the resends so far, and the TIME cycle of its last transmission (R171, R174). -/
structure Copy where
  tseq    : Nat
  size    : Nat
  cells   : List Nat
  resends : Nat
  sentAt  : Nat
  deriving DecidableEq, Repr

/-- A tunnel context beside its 16 words: copies unacknowledged, the latest SACK, packets held for reordering by TSEQ
with their cells in HOLD, deliveries since the last acknowledgement, the instant of the last REFRESH, and the TIME cycle in which an
acknowledgement last advanced TX_UNA (R168 to R174). -/
structure CtxSt where
  copies  : List Copy
  sack    : Nat
  held    : Tab (THdr × List Byte × List Nat)
  unacked : Nat
  refreshAt : Option Nat
  ackAt   : Option Nat
  deriving DecidableEq, Repr

def CtxSt.reset : CtxSt := ⟨[], 0, [], 0, none, none⟩

end Sys2Proof.Machine
end

