-- ==== Sys2Proof/Machine/StateKey.lean ====
section
/-! DEFINITION. The part of the state in the key unit (spec 18). -/

namespace Sys2Proof.Machine

/-- A KOP descriptor with its tag (R545). -/
structure KeyOp where
  tag    : Nat
  op     : Nat
  slot   : Nat
  slot2  : Nat
  keyId  : Nat
  src    : Nat
  srcLen : Nat
  dst    : Nat
  dstLen : Nat
  aux    : Nat
  auxLen : Nat
  usage  : Nat
  ty     : Nat
  deriving DecidableEq, Repr

/-- An operation that has started: its descriptor, its status, its output, the slot that becomes LOADED (R544, R547). -/
structure KeyRun where
  op     : KeyOp
  status : Nat
  out    : List Byte
  fills  : Option Nat
  deriving DecidableEq, Repr

/-- The handshake of a segment (R550 to R554): the own CERT, the own ephemeral private key, the partner's CERT and certified public
key, TH; the receive key agreed and not in use yet; the own REKEY_REQ that waits for its ACK with its ephemeral key and reason,
whether it has been repeated; whether FINISH has verified while the partner's change point is still to be accepted; the instant of the agreement, in 2 ns (R553). -/
structure SegAuth where
  mine    : Option (List Byte)
  eph     : Nat
  theirs  : Option (List Byte)
  pub     : List Byte
  th      : List Byte
  next    : Option SegKey
  req     : Option (List Byte × Nat)
  reason  : Nat
  retried : Bool
  verified : Bool
  agreed   : Nat
  deriving DecidableEq, Repr

def SegAuth.reset : SegAuth := ⟨none, 0, none, [], [], none, none, 0, false, false, 0⟩

/-- The key unit beside its registers: the root, the key values by slot, whether the PUF array has not been read since SEC came ON
(R532), whether the health test of the random source has failed (R546), the operations queued and started, the CA public key and the
device certificate (R548), the segments' handshakes, the private keys of the ephemeral pairs generated and not used yet (R550). -/
structure KeyPart where
  root    : Option (List Byte)
  vals    : Tab (List Byte)
  fresh   : Bool
  rngBad  : Bool
  queue   : List KeyOp
  running : List KeyRun
  ca      : List Byte
  cert    : List Byte
  segs    : Tab SegAuth
  pool    : List Nat
  deriving DecidableEq, Repr

def KeyPart.reset : KeyPart := ⟨none, [], true, false, [], [], [], [], [], []⟩

end Sys2Proof.Machine
end

