-- ==== Sys2Proof/Machine/StateLocal.lean ====
section
/-! DEFINITION. The part of the state behind the Ethernet ports and the storage engine (spec 12): stamps and host frames (R385 to
R388), drives (R396), requests and duplicate windows (R398 to R403). -/

namespace Sys2Proof.Machine

/-- An entry of a TX stamp FIFO (R388). -/
structure TsfEntry where
  seqId : Nat
  ty    : Nat
  tag   : Nat
  sec   : Nat
  ns    : Nat
  deriving DecidableEq, Repr

/-- A host frame on its way: port, TAG, TSREQ, ONESTEP (R385). -/
structure HostTx where
  port    : Nat
  tag     : Nat
  tsreq   : Bool
  onestep : Bool
  deriving DecidableEq, Repr

/-- The Ethernet ports beside their registers: stamp FIFOs by port; host frames in the switch core by packet number; HTX_DONE
records due (port, TAG, status) in order; the frame last sent by each port with its FCS, and the host frame it was. -/
structure EthPart where
  tsf  : Tab (List TsfEntry)
  host : Tab (Option HostTx)
  due  : List (Nat × Nat × Nat)
  out  : Tab (List Byte)
  outHost : Tab (Option Nat)
  deriving DecidableEq, Repr

def EthPart.reset : EthPart := ⟨[], [], [], [], []⟩

/-- A request that a binding executes: its ID, header fields (R399), context, whether it has been submitted to the drive. The data of an
IDENTIFY are the first bytes of its record. -/
structure StoReq where
  op    : Nat
  count : Nat
  id    : Nat
  nsid  : Nat
  lba   : Nat
  fua   : Bool
  data  : List Byte
  ctx   : Nat
  sent  : Bool
  deriving DecidableEq, Repr

/-- A command of NVM Express as the engine puts it on a submission queue (R397, R399): its opcode, namespace, first block, blocks less
one, FUA, and whether a Dataset Management command deallocates. -/
structure NvmeCmd where
  opcode : Nat
  nsid   : Nat
  slba   : Nat
  nlb    : Nat
  fua    : Bool
  dealloc : Bool
  deriving DecidableEq, Repr

/-- A binding beside its register: the highest ID accepted (none before the first request), the cached completions by ID, the
requests that execute, in arrival order (R401, R403). -/
structure StoWin where
  high  : Option Nat
  cache : Tab (List Byte)
  reqs  : List StoReq
  deriving DecidableEq, Repr

def StoWin.reset : StoWin := ⟨none, [], []⟩

/-- A drive beside its registers: PERST_N released, in shutdown, lost and to be retried, Aborts not yet answered (R396, R402). -/
structure Drive where
  perst  : Bool
  shut   : Bool
  retry  : Bool
  aborts : Nat
  deriving DecidableEq, Repr

def Drive.reset : Drive := ⟨false, false, false, 0⟩

/-- The storage engine: drives, bindings by 64 x drive + queue pair. -/
structure StoPart where
  drives : Tab Drive
  wins   : Tab StoWin
  deriving DecidableEq, Repr

def StoPart.reset : StoPart := ⟨[], []⟩

end Sys2Proof.Machine
end

