-- ==== Sys2Proof/Machine/StatePdc.lean ====
section
/-! DEFINITION. The part of the state in the Type-C port controllers (spec 13). -/

namespace Sys2Proof.Machine

/-- A Power Data Object (R411): position, type (0 Fixed, 1 PPS, 2 AVS), voltages in mV, and its current in mA, or for AVS its PDP
in W. -/
structure Pdo where
  pos   : Nat
  ty    : Nat
  vmax  : Nat
  vmin  : Nat
  limit : Nat
  deriving DecidableEq, Repr

/-- A message that a port sends. -/
inductive PdMsg where
  | sourceCaps (objs : List Pdo)
  | request (pos ma : Nat) (mismatch : Bool)
  | accept | reject | wait | notSupported | psRdy | prSwap | drSwap | vconnSwap | eprEntered | eprFailed
  | vdm (cable : Bool) (svid cmd : Nat) (vdo : List Nat)
  | vdmAck (svid cmd : Nat) (vdo : List Nat)
  | vdmNak (svid cmd : Nat)
  deriving DecidableEq, Repr

/-- A VDM header of the PD standard, structured, SVDM version 2.1 (R408): the SVID, the object position (1 for the commands of a
mode, 0 for discovery), the command type (0 request, 1 ACK, 2 NAK) and the command. -/
def vdmHeader (svid type cmd : Nat) : Nat :=
  svid % 2 ^ 16 * 2 ^ 16 + 2 ^ 15 + 1 * 2 ^ 13 + 1 * 2 ^ 11 + (if 4 ≤ cmd then 1 else 0) * 2 ^ 8 + type * 2 ^ 6 + cmd % 32

/-- Four bytes of a data object, least significant first as the PD standard has them, or most significant first as a Korwick-defined
VDM has them (R3). -/
def vdmObject (korwick : Bool) (v : Nat) : List Byte :=
  let l := (List.range 4).map (fun k => BitVec.ofNat 8 (v / 2 ^ (8 * k)))
  if korwick then l.reverse else l

/-- The bytes of a VDM: the header, which is the standard's, and its objects, which Korwick defines under SVID 0xC7A1 (R3, R426, R427);
none for another message. -/
def PdMsg.vdmBytes (m : PdMsg) : List Byte :=
  let form := fun (svid type cmd : Nat) (l : List Nat) =>
    vdmObject false (vdmHeader svid type cmd) ++ l.flatMap (vdmObject (svid == 0xC7A1))
  match m with
  | .vdm _ svid cmd l => form svid 0 cmd l
  | .vdmAck svid cmd l => form svid 1 cmd l
  | .vdmNak svid cmd => form svid 2 cmd []
  | _ => []

/-- A contract: object position, type, voltage in mV, operating current in mA, allocation in 100 mW, whether the port is its
sink (R412, R432). -/
structure Contract where
  pos   : Nat
  ty    : Nat
  mv    : Nat
  ma    : Nat
  alloc : Nat
  sink  : Bool
  deriving DecidableEq, Repr

/-- What a port waits for in a contract: nothing; a Request for the capabilities it sent; the answer to its own Request; PS_RDY of the
partner after an Accept. -/
inductive PdWait where
  | none | request | answer | ready
  deriving DecidableEq, Repr

/-- Where a port stands in a swap, beside its contract (R422, R423): nowhere; it has sent its own request; it waits tPRSwapWait before it
sends that request again; it waits for the partner's PS_RDY; it is the new Source of a PR_Swap and its own PS_RDY is to come. -/
inductive SwapWait where
  | none | sent | again | ready | newSource
  deriving DecidableEq, Repr

/-- A port controller beside its registers. `rp`: it presents Rp while unattached; `dwell`: 1 in Try.SRC, 2 in Try.SNK (R410);
`tried`: the role has been tried; `debounced`: tCCDebounce has ended and it waits for power (R417); `shed`: it must not attach as
source yet (R417); `marked`: the cable carries an e-marker and takes VCONN; `closed`: the source switch; `discharge`: VBUS is
being discharged (R424). `objs`, `offer`: the capabilities last sent and the offer they were formed with (R411, R412). `pend`: the
contract in transition; `phase`: 0 none, 1 tSrcTransition, 2 the regulator is asked, 3 it has acknowledged, 4 the voltage stays and the
regulator is not asked (R419); `asked`: the voltage in mV last asked of the regulator; `acked`: its PMBus request has completed with ACK;
`first`: the 5 V of an attach or of a Hard Reset; `now`: the contract in force.
`wait`, `swap`; `own`: the swap it has asked for, as a code of PDC_Pn_CMD; `retried`, `byCmd`: of that swap; `after`: it does not retry
before the partner's swap completes (R423); `swapping`: the swap under way, and whether it is the one the port asked for; `heard`,
`heardCable`: the MessageID of the message last taken and acknowledged with GoodCRC, from the partner and from the cable (R409). `vdm`: the VDM of discovery or entry sent and not
answered: 0 none, 1 Discover Identity SOP', 2 SOP, 3 SVIDs, 4 Modes, 5 Enter Mode, 6 T_CONFIG, 7 DP Status, 8 DP Configure;
`tries`: how often; `toAlt`: 1 DisplayPort, 2 Tirrun; `allow`, `pins`: what the partner allows; `lanes`: the lane group's sequencer
has been told to run; `cfg`: PDC_Pn_CFG as it read at the attach (R432); `sent`: the message last sent, and
`wire`: the bytes of the VDM last sent (R3); `debug`: the partner that waits for power is a debug accessory (R408). -/
structure PdcPort where
  rp        : Bool
  dwell     : Nat
  tried     : Bool
  debounced : Bool
  shed      : Bool
  marked    : Bool
  closed    : Bool
  discharge : Bool
  objs      : List Pdo
  offer     : Nat
  pend      : Option Contract
  phase     : Nat
  asked     : Nat
  acked     : Bool
  first     : Bool
  now       : Option Contract
  wait      : PdWait
  swap      : SwapWait
  own       : Option Nat
  retried   : Bool
  byCmd     : Bool
  after     : Bool
  swapping  : Option (Nat × Bool)
  heard     : Option Nat
  heardCable : Option Nat
  vdm       : Nat
  tries     : Nat
  toAlt     : Nat
  dpListed  : Bool
  allow     : Nat
  pins      : Nat
  lanes     : Bool
  cfg       : Nat
  sent      : Option PdMsg
  wire      : List Byte
  debug     : Bool
  deriving DecidableEq, Repr

def PdcPort.reset : PdcPort :=
  ⟨false, 0, false, false, false, false, false, false, [], 0, none, 0, 0, false, false, none, .none, .none, none, false, false, false,
   none, none, none, 0, 0, 0, false, 0, 0, false, 0, none, [], false⟩

/-- The port controllers, the requests for power that wait (the asking port, or 8 for a write of NODE_W, and what it needs in
100 mW), and the port being reclaimed (R416). -/
structure PdcPart where
  ports : Tab PdcPort
  asks  : List (Nat × Nat)
  busy  : Option Nat
  deriving DecidableEq, Repr

def PdcPart.reset : PdcPart := ⟨[], [], none⟩

end Sys2Proof.Machine
end

