-- ==== Sys2Proof/Machine/StatePorts.lean ====
section
/-! DEFINITION. The part of the state between the tunnels and the engine ports: packets delivered to an engine that it has not
worked on (R152, R168), refresh requests that wait (R445), and the Enique agent (R122 to R131). -/

namespace Sys2Proof.Machine

/-- A packet delivered to an engine port. -/
structure Inbound where
  ctx : Nat
  hdr : THdr
  payload : List Byte
  deriving DecidableEq, Repr

/-- A refresh request that waits for its context's 1 ms limit: reason, layer, X, Y, W, H (R445). -/
structure Refresh where
  reason : Nat
  layer  : Nat
  x : Nat
  y : Nat
  w : Nat
  h : Nat
  deriving DecidableEq, Repr

/-- An Enique message (R122): code, FLAGS bit 1, transaction, the fields of its body in the order of R125; the port it goes out
on as a neighbour packet, or none where it goes to the line manager. -/
structure EnqMsg where
  code : Nat
  last : Bool
  xid  : Nat
  body : List Nat
  port : Option Nat
  deriving DecidableEq, Repr

/-- The Enique agent: its next transaction, the messages it owes and has not sent yet, the messages repeated until their answer
comes with the instant at which each first went out, in steps of 2 ns, the answers already given by origin and transaction (R124), the allotment writes staged (R125), whether it sends HELLO at
the slow rate and owes the report of the silence, and each ADMIT whose ports have not all reached RUN: origin, transaction, port
mask (R128). -/
structure EniquePart where
  nextXid : Nat
  owe     : List EnqMsg
  waiting : List (EnqMsg × Nat)
  answers : List ((Nat × Nat) × Option EnqMsg)
  image   : List (Nat × Nat)
  slow    : Bool
  silent  : Bool
  admits  : List (Nat × Nat × Nat)
  deriving DecidableEq, Repr

def EniquePart.reset : EniquePart := ⟨0, [], [], [], [], false, false, []⟩

/-- Packets in front of the engines by local queue, and the refresh requests that wait, by context. -/
structure PortPart where
  inq     : Tab (List Inbound)
  refresh : Tab (Option Refresh)
  deriving DecidableEq, Repr

def PortPart.reset : PortPart := ⟨[], []⟩

end Sys2Proof.Machine
end

