-- ==== Sys2Proof/Machine/StatePower.lean ====
section
/-! DEFINITION. The part of the state behind the power domains and regulators (spec 17). -/

namespace Sys2Proof.Machine

/-- A PMBus request (R524, R525): for the VBUS regulator of port `owner` below 8, for rail entry `owner` - 8 otherwise; the
voltage in mV, 0 to check only; whether it has been retried. -/
structure PmbReq where
  owner   : Nat
  addr    : Nat
  page    : Nat
  mv      : Nat
  retried : Bool
  deriving DecidableEq, Repr

/-- A voltage asked for over AVSBus and not acknowledged (R522, R523): the target in mV, whether it has been retried, whether it is
the retention voltage. -/
structure AvsReq where
  mv      : Nat
  retried : Bool
  low     : Bool
  deriving DecidableEq, Repr

/-- The power die's sequencers: the PMBus requests in order, the front one in progress; the AVSBus change in progress, the change
that waits for it, and whether TARGET could not be acknowledged (R522, R523); the target of each drydown in progress, and whether
its QUIESCE has acted (R515, R516); the domains to wake; the wake sources' counts and the tick of the first event (R520); the time
passed in 2 ns steps, from which the 32.768 kHz ticks follow; of a domain whose pads are held, its registers as they stood at HOLD
(R517). -/
structure PowerPart where
  pmb     : List PmbReq
  avs     : Option AvsReq
  avsNext : Option AvsReq
  failed  : Bool
  aims    : Tab (Nat × Bool)
  waking  : List Nat
  latched : Tab (Nat × Nat)
  osc     : Nat
  pads    : Tab (Tab Nat)
  deriving DecidableEq, Repr

def PowerPart.reset : PowerPart := ⟨[], none, none, false, [], [], [], 0, []⟩

end Sys2Proof.Machine
end

