-- ==== Sys2Proof/Machine/StateRel.lean ====
section
/-! DEFINITION. The part of the state behind the REL block: the counts and remap table of each SRAM bank (R563, R564, R567,
R573) and the self-test slice that runs (R572). -/

namespace Sys2Proof.Machine

/-- A bank: corrected and uncorrectable errors, the word of the last of each, its remap entries (entry to
word). -/
structure BankSt where
  ce     : Nat
  ue     : Nat
  lastCe : Nat
  lastUe : Nat
  remap  : Tab (Option Nat)
  deriving DecidableEq, Repr

def BankSt.reset : BankSt := ⟨0, 0, 0, 0, []⟩

/-- A running in-service slice: its target, its slice, and the thread states saved while a core is tested (R572). -/
structure BistSlice where
  target : Nat
  slice  : Nat
  saved  : List (Nat × Nat)
  deriving DecidableEq, Repr

/-- The pass of the scrubber: memory, bank, first and last word, as they stood at GO (R565). -/
structure ScrubPass where
  mem   : Nat
  bank  : Nat
  first : Nat
  last  : Nat
  deriving DecidableEq, Repr

/-- Banks by 32 x MEM + BANK, the running slice, the latest pass of the scrubber, and the words of CTL SRAM and DRAM (address / 8)
and of the other protected memories (`flawKey`) that a read found uncorrectable and nothing has written since (R329, R564). -/
structure RelPart where
  banks : Tab BankSt
  slice : Option BistSlice
  pass  : ScrubPass
  flaws : List Nat
  deriving DecidableEq, Repr

def RelPart.reset : RelPart := ⟨[], none, ⟨0, 0, 0, 0⟩, []⟩

end Sys2Proof.Machine
end

