-- ==== Sys2Proof/Machine/StateScan.lean ====
section
/-! DEFINITION. The part of the state behind the two scan-out engines and the delta ingest (spec 14). -/

namespace Sys2Proof.Machine

/-- A rectangle of a layer. -/
structure Rect where
  x : Nat
  y : Nat
  w : Nat
  h : Nat
  deriving DecidableEq, Repr

/-- An engine beside its registers: the active set by bit address, fields not listed being 0 (R447); whether its link has
trained in a locked pair that waits for the other half (R451); whether UPD = TE has been set aside for VBLANK (R448); whether a
TE frame is being sent; whether the TE timeout has passed and the next blank applies the pending set (R448); the column and row
of the pixel of this frame for which none had been fetched (R450), in engine 0 that of either half of a locked pair (R452); whether a
frame has been sent since RUN was entered (R437). -/
structure Panel where
  active  : Tab Nat
  trained : Bool
  noTe    : Bool
  sending : Bool
  late    : Bool
  gap     : Option (Nat × Nat)
  shown   : Bool
  deriving DecidableEq, Repr

def Panel.reset : Panel := ⟨[], false, false, false, false, none, false⟩

/-- The ingest of an output: the rectangles written into each layer's back buffer since its last flip and whether that list has
collapsed (R446), the layers of FLIPs not yet applied with their NOT_BEFORE instants (R444), and the layers whose catch-up copy
is not complete. -/
structure Ingest where
  damage    : Tab (List Rect)
  collapsed : List Nat
  flipped   : List Nat
  notBefore : List Nat
  copying   : List Nat
  deriving DecidableEq, Repr

def Ingest.reset : Ingest := ⟨[], [], [], [], []⟩

/-- The engines and their ingests, and the levels at the hot-plug pins of the panels (R436). -/
structure ScanPart where
  panels  : Tab Panel
  ingests : Tab Ingest
  hpd     : Tab Bool
  deriving DecidableEq, Repr

def ScanPart.reset : ScanPart := ⟨[], [], []⟩

/-- The engines after a reset; the levels at the pins are not the hub's. -/
def ScanPart.lost (p : ScanPart) : ScanPart := { ScanPart.reset with hpd := p.hpd }

end Sys2Proof.Machine
end

