-- ==== Sys2Proof/Machine/StateSyn.lean ====
section
/-! DEFINITION. The part of the state that the Synosh threads hold (spec 10, spec 11): general and predicate registers (R320),
special registers (R321), what a thread waits for (R319, R324, R331, R365), and the counters of R351. -/

namespace Sys2Proof.Machine

/-- What a thread waits for: nothing; a register read that it completes into `rd`; a DRAM load that missed (run-ahead); its
posted register writes; its closed accords; the swaps of its NOW accord (R291); an event queue of a mask or a deadline; room at the SYN port for a packet send (R366). -/
inductive Wait where
  | none
  | reg (rd a len : Nat)
  | load (rd a n : Nat) (signed : Bool) (len : Nat)
  | posted
  | accords
  | swaps
  | event (rd mask deadline : Nat)
  | send (a v : Nat)
  deriving DecidableEq, Repr

/-- The status of a thread's latest accord (R322): state 0 none; slot 16 where it never had one (R371). -/
structure Acst where
  state : Nat
  code  : Nat
  slot  : Nat
  kind  : Nat
  id    : Nat
  deriving DecidableEq, Repr

def Acst.reset : Acst := ⟨0, 0, 0, 0, 0⟩

/-- A thread's registers in run-ahead (R324): w1 to w31, p1 to p7 as a mask and pc as run-ahead instructions leave them, and those
that hold invalid results: the number of a general register, 32 + the number of a predicate. -/
structure Ahead where
  w   : Tab DWord
  p   : Nat
  pc  : Nat
  bad : List Nat
  deriving DecidableEq, Repr

def Ahead.reset : Ahead := ⟨[], 0, 0, []⟩

/-- A thread beside its SYN registers: w1 to w31, p1 to p7 as a mask, pc, the special registers 3 to 7 (R321), what it waits
for, whether STOP has been written meanwhile, the run-ahead instructions since the miss and their registers (R324). -/
structure Thr where
  w      : Tab DWord
  p      : Nat
  pc     : Nat
  code   : Nat
  active : Bool
  epc    : Nat
  eaddr  : Nat
  evbase : Nat
  escr   : Nat
  wait   : Wait
  stop   : Bool
  ahead  : Nat
  shadow : Ahead
  deriving DecidableEq, Repr

def Thr.reset : Thr := ⟨[], 0, 0, 0, false, 0, 0, 0, 0, .none, false, 0, Ahead.reset⟩

/-- The threads, their counters by 16 x thread + EVENT, and the packet sends that are finished and not yet reported: thread,
tag, refused (R343); the retired instructions at each counter's latest snapshot (R351), and the register reads in flight whose thread
has been reset: thread, address (R319); each thread's latest accord, and whether it is spent (R322, R372). `stale` holds, by 64-byte line, what the line held before
each store to it since the I-caches were last told to invalidate it: an I-cache may still hold it (R328). Entry 15 of a thread's counters
counts its starts and waits, and no register shows it. -/
structure SynPart where
  thrs : Tab Thr
  perf : Tab Nat
  sent : List (Nat × Nat × Bool)
  seen : Tab Nat
  orphans : List (Nat × Nat)
  latest : Tab Acst
  spent  : Tab Bool
  stale  : Tab (List (List Byte))
  deriving DecidableEq, Repr

def SynPart.reset : SynPart := ⟨[], [], [], [], [], [], [], []⟩

end Sys2Proof.Machine
end

