-- ==== Sys2Proof/Machine/StateUsb.lean ====
section
/-! DEFINITION. The part of the state behind the USB hub and the management function (spec 15). -/

namespace Sys2Proof.Machine

/-- What an endpoint or the function answered last; `lau`, `lxu`: a request of the host for U1 or U2 accepted or refused (R476). -/
inductive Shake where
  | none | ack | nak | nrdy | nyet | stall | lau | lxu
  deriving DecidableEq, Repr

/-- A notice (R470). -/
structure Notice where
  code : Nat
  src  : Nat
  seq  : Nat
  time : Nat
  arg  : Nat
  deriving DecidableEq, Repr

/-- A gateway beside its registers: the partial OUT packet with the context and pre-colour it began under, and whether a
zero-length packet that comes next is absorbed (R468, R483). -/
structure Gateway where
  part   : List Byte
  ctx    : Nat
  pcol   : Nat
  begun  : Bool
  absorb : Bool
  deriving DecidableEq, Repr

def Gateway.reset : Gateway := ⟨[], 0, 0, false, false⟩

/-- A hub as a USB device: address, configured, remote wakeup enabled, and the depth that SetHubDepth gave (R462). -/
structure HubSt where
  addr  : Nat
  conf  : Bool
  rwake : Bool
  depth : Nat
  deriving DecidableEq, Repr

def HubSt.reset : HubSt := ⟨0, false, false, 0⟩

/-- An internal port of a hub, or a SuperSpeed port: enabled (of a SuperSpeed port: disabled), suspended or in U3, its U1 and U2 timeouts and
its remote wake mask (R460, R462). -/
structure HubPort where
  on   : Bool
  susp : Bool
  u1   : Nat
  u2   : Nat
  mask : Nat
  deriving DecidableEq, Repr

def HubPort.reset : HubPort := ⟨false, false, 0, 0, 0⟩

/-- What standard requests set in the function (R471, R476, R477): `hw`: hardware serves the current control transfer; halted endpoints;
U1 and U2 enabled; function suspend; the system exit latencies of SET_SEL and the isochronous delay; the test mode. `nrdy`: the
endpoints that owe an ERDY; `erdys`: those that sent one last (R467); `fnWake`: Function Wake has been sent for the last suspend. -/
structure FnPart where
  hw     : Bool
  halts  : List Nat
  u1     : Bool
  u2     : Bool
  fsusp  : Bool
  sel    : List Byte
  delay  : Nat
  test   : Nat
  nrdy   : List Nat
  erdys  : List Nat
  fnWake : Bool
  deriving DecidableEq, Repr

def FnPart.reset : FnPart := ⟨false, [], false, false, false, [], 0, 0, [], [], false⟩

/-- The function and the hubs beside their registers. `armed`: the status stage of the transfer may complete (R472); `stale`: its
tag takes no command any more (R473); `alt`: the setting of interface 1; `waking`: the function signals wake (R477); `wakeDue`: a
WAKE notice is queued once the function is configured; notices, the next SEQ and the notices lost since the last OVERFLOW;
gateways; the data last sent to the host, the USB packets of the last bulk IN transfer (R469), and the answer last given; the ports' change
bits, and PORT_POWER as external ports 8 to 15 record it (R463); the audio FIFO, whether zeros are being sent in an underrun, the frame
last sent, and the levels of `AUD_LRCLK` and `AUD_DATA` at each BCLK of it (R479, R480); what standard requests set; the hubs, by 1 the
station hub's USB 2.0 part, 2 the Type-C hub, 3 the station hub's SuperSpeed part; ports by 64 × hub + port; the Transaction
Translators stopped, by external port. -/
structure UsbPart where
  armed   : Bool
  stale   : Bool
  alt     : Bool
  waking  : Bool
  wakeDue : Bool
  notices : List Notice
  seq     : Nat
  lost    : Nat
  gws     : Tab Gateway
  data    : List Byte
  packets : List (List Byte)
  shake   : Shake
  changes : Tab Nat
  powered : Tab Bool
  fifo    : List (Nat × Nat)
  dry     : Bool
  frame   : Nat × Nat
  bits    : List (Bool × Bool)
  fn      : FnPart
  hubs    : Tab HubSt
  inner   : Tab HubPort
  ttStop  : List Nat
  deriving DecidableEq, Repr

def UsbPart.reset : UsbPart := 
  ⟨false, false, false, false, false, [], 0, 0, [], [], [], .none, [], [], [], false, (0, 0), [], FnPart.reset, [], [], []⟩

end Sys2Proof.Machine
end

