-- ==== Sys2Proof/Machine/State.lean ====
section
/-! DEFINITION. The whole state of the block as plain data, the reasons a step can stop, and the state after reset. -/

namespace Sys2Proof.Machine

/-- Why the machine stops with a fault. -/
inductive Fault where
  /-- Raised by no command: the block reports every fault in its own registers and records. Safe. -/
  | none
  deriving DecidableEq, Repr

/-- Why a command has no next state. -/
inductive Refusal where
  /-- The command's arm of `exec` has no meaning yet. Safe: nothing is said of the command. -/
  | notModelled (mnemonic : String)
  deriving DecidableEq, Repr

/-- The device: everything the spec gives it but the queue of waiting commands. -/
structure Dev where
  /-- The register store: every register field and window table word, by bit address; unlisted fields hold their
  reset value. -/
  flds    : Tab Nat
  /-- Memory: CTL SRAM, flash and DRAM by physical address; an unlisted byte reads 0 (R562, R576). -/
  mem     : List Host.Cell
  /-- The number of free values drawn so far. Not the spec's: the model's own. -/
  freeCtr : Nat
  posted  : List PostedWrite
  evqLost : Tab Nat
  cycle   : CyclePart
  aon     : AonQueue
  sil     : Sillage
  time    : TimePart
  seqs    : Tab SeqSt
  links   : Tab LinkSt
  sw      : SwitchPart
  sch     : SchedPart
  ctxs    : Tab CtxSt
  waits   : List LocalPkt
  rel     : RelPart
  acc     : AccPart
  port    : PortPart
  enq     : EniquePart
  syn     : SynPart
  eth     : EthPart
  sto     : StoPart
  scan    : ScanPart
  pdc     : PdcPart
  power   : PowerPart
  usb     : UsbPart
  hsw     : HswPart
  boot    : BootPart
  key     : KeyPart
  deriving DecidableEq, Repr

/-- The device right after power-on of both dies. -/
def Dev.reset : Dev where
  flds := []
  mem := []
  freeCtr := 0
  posted := []
  evqLost := []
  cycle := CyclePart.reset
  aon := ⟨[], 0, 0, true⟩
  sil := ⟨[], 0⟩
  time := ⟨[], 0, false, [], ⟨0, 0, 62500, 0, 0, 0, 0, [], []⟩, [], [], 0, false, [], none, none⟩
  seqs := []
  links := []
  sw := SwitchPart.reset
  sch := SchedPart.reset
  ctxs := []
  waits := []
  rel := RelPart.reset
  acc := AccPart.reset
  port := PortPart.reset
  enq := EniquePart.reset
  syn := SynPart.reset
  eth := EthPart.reset
  sto := StoPart.reset
  scan := ScanPart.reset
  pdc := PdcPart.reset
  power := PowerPart.reset
  usb := UsbPart.reset
  hsw := HswPart.reset
  boot := BootPart.reset
  key := KeyPart.reset

/-- The canonical form of memory: addresses strictly rising, no entry equal to what an unlisted byte reads as, which is 0. -/
def Memory.wf (m : List Host.Cell) : Bool := Tab.wf 0 m

/-- The machine: the device and the commands waiting, first in, first out. -/
structure State where
  dev     : Dev
  pending : List Instr
  deriving DecidableEq, Repr

/-- The machine right after reset: nothing waits. -/
def State.reset : State := ⟨Dev.reset, []⟩

end Sys2Proof.Machine
end

