-- ==== Sys2Proof/Machine/Ops.lean ====
section
/-! DEFINITION. The named operations every meaning is written over: register fields, counters and free values; memory and
its regions (R326, R590, R597); power domains (R26, R511); event records and event queues (R28, R333 to R337, R616);
Sillage (R236 to R239); the present instant of the time bases (R213). -/

namespace Sys2Proof.Machine

/-- Bits `lo` to `lo + w - 1` of a number. -/
def bitsOf (v lo w : Nat) : Nat := v / 2 ^ lo % 2 ^ w

/-- A number read as two's complement of `w` bits. -/
def sgn (w v : Nat) : Int := if v % 2 ^ w < 2 ^ (w - 1) then (v % 2 ^ w : Nat) else ((v % 2 ^ w : Nat) : Int) - (2 ^ w : Nat)

/-- The two's complement of an integer in `w` bits. -/
def unsgn (w : Nat) (v : Int) : Nat := (v % (2 ^ w : Nat)).toNat

/-- The value of a Boolean in a one-bit field. -/
def b2n (b : Bool) : Nat := if b then 1 else 0

/-- The set bit numbers of `v` below `n`, rising. -/
def bitList (n v : Nat) : List Nat := (List.range n).filter (fun k => v.testBit k)

/-- The number with the given bits set. -/
def bitSet (l : List Nat) : Nat := l.foldl (fun a k => a ||| 2 ^ k) 0

/-- A function applied once for each member of a list, in order. -/
def forAll {α β : Type} (l : List α) (f : α → β → β) (d : β) : β := l.foldl (fun d x => f x d) d

/-! ### Register fields -/

/-- The value of a register field: as many bits as it has. -/
def Dev.get (d : Dev) (f : Fld) : Nat := d.flds.get f.key f.rst % 2 ^ f.w

/-- A register field set to a value, cut to its width. -/
def Dev.set (d : Dev) (f : Fld) (v : Nat) : Dev := { d with flds := d.flds.set f.key (v % 2 ^ f.w) f.rst }

/-- Whether a field is not 0. -/
def Dev.flag (d : Dev) (f : Fld) : Bool := d.get f != 0

/-- A field set from a Boolean. -/
def Dev.setB (d : Dev) (f : Fld) (b : Bool) : Dev := d.set f (b2n b)

/-- A counter advanced by `n`; it wraps (R15). -/
def Dev.incBy (d : Dev) (f : Fld) (n : Nat) : Dev := d.set f (d.get f + n)

/-- A counter advanced by one; it wraps (R15). -/
def Dev.inc (d : Dev) (f : Fld) : Dev := d.incBy f 1

/-- A counter advanced by `n` that saturates at its largest value. -/
def Dev.incSatBy (d : Dev) (f : Fld) (n : Nat) : Dev := d.set f (min (d.get f + n) (2 ^ f.w - 1))

/-- A counter lowered by `n`, not below 0. -/
def Dev.decBy (d : Dev) (f : Fld) (n : Nat) : Dev := d.set f (d.get f - n)

/-- A field put back to its reset value. -/
def Dev.clear (d : Dev) (f : Fld) : Dev := d.set f f.rst

/-- A fresh number for a free value. -/
def Dev.fresh (d : Dev) : Nat × Dev := (d.freeCtr, { d with freeCtr := d.freeCtr + 1 })

/-! ### Power domains -/

/-- The power domain of a register block's address (R26, R511, R76, R138): its number in R511. -/
def powerDomain (a : Nat) : Nat :=
  let k := (a - 0x10000000) / 0x100000
  let o := a % 0x100000
  if k = 0 then 1
  else if k = 1 then (if o < 0x8000 then 0 else 1)
  else if k = 2 ∨ k = 12 then 0
  else if k = 4 then
    (if o < 0x10000 then 5 else if o < 0x20000 then 6 else if o < 0x20100 then 1 else if o < 0x80000 then 3
     else if o < 0xC0000 then 7 else 8)
  else if k = 9 then 1 else if k = 10 then 9 else if k = 11 then 11 else if k = 13 then 10 else if k = 14 then 12
  else if k = 15 then 4 else if k = 17 then 2 else if k < 20 then 3 else 1

/-- Whether the domain's registers can be accessed: AON always; any other while ON and not past DRAIN (R40, R515). -/
def Dev.domOn (d : Dev) (n : Nat) : Bool :=
  n == 0 || (d.get (PWR_Dd_STAT_STATE n) == 0 && d.get (PWR_Dd_STAT_PHASE n) < 3)

/-- Whether a register lies on the power die (R18). -/
def onPowerDie (a : Nat) : Bool := powerDomain a == 0

/-! ### Memory -/

/-- The kinds of physical address (R326, R590). -/
inductive Region where
  | sram | regs | pbuf | flash | rom | dram | hole
  deriving DecidableEq, Repr

/-- The size in bytes of the usable DRAM (R568): 7/8 of the capacity fitted with ECC, all of it without. -/
def Dev.dramSize (d : Dev) : Nat :=
  if d.flag DDR_CTL_ECC_EN then d.get DDR_CFG_GIB * 2 ^ 30 * 7 / 8 else d.get DDR_CFG_GIB * 2 ^ 30

/-- The region of an address; DRAM that is not usable, or whose domain is not ON, is a hole (R513, R568). -/
def Dev.region (d : Dev) (a : Nat) : Region :=
  if a < 0x200000 then .sram
  else if 0x10000000 ≤ a ∧ a < 0x20000000 then .regs
  else if 0x20000000 ≤ a ∧ a < 0x22000000 then .pbuf
  else if 0x40000000 ≤ a ∧ a < 0x50000000 then .flash
  else if 0xFFFF0000 ≤ a ∧ a < 0x100000000 then .rom
  else if 0x8000000000 ≤ a ∧ a < 0x8800000000 ∧ a - 0x8000000000 < d.dramSize ∧ d.domOn 2 then .dram
  else .hole

/-- The byte of memory at an address; a byte nothing has written reads 0 (R562, R576). -/
def Dev.byte (d : Dev) (a : Nat) : Byte := Tab.get d.mem a 0

/-- A byte of memory written. -/
def Dev.putByte (d : Dev) (a : Nat) (b : Byte) : Dev := { d with mem := Tab.set d.mem a b 0 }

/-- `n` bytes from an address. -/
def Dev.bytes (d : Dev) (a : Nat) : Nat → List Byte
  | 0 => []
  | n + 1 => d.byte a :: d.bytes (a + 1) n

/-- Bytes written from an address upwards. -/
def Dev.putBytes (d : Dev) (a : Nat) : List Byte → Dev
  | [] => d
  | b :: t => (d.putByte a b).putBytes (a + 1) t

/-- The number that bytes spell, the first least significant (R3, Synosh memory). -/
def leNat : List Byte → Nat
  | [] => 0
  | b :: t => b.toNat + 256 * leNat t

/-- `n` bytes spelling a number, least significant first. -/
def natLE : Nat → Nat → List Byte
  | 0, _ => []
  | n + 1, v => BitVec.ofNat 8 v :: natLE n (v / 256)

/-- The number that bytes spell, the first most significant (R3, Tirrun blocks). -/
def beNat (l : List Byte) : Nat := leNat l.reverse

/-- `n` bytes spelling a number, most significant first. -/
def natBE (n v : Nat) : List Byte := (natLE n v).reverse

/-- A little-endian word of `n` bytes. -/
def Dev.load (d : Dev) (a n : Nat) : Nat := leNat (d.bytes a n)

/-- A little-endian word of `n` bytes stored. -/
def Dev.store (d : Dev) (a n v : Nat) : Dev := d.putBytes a (natLE n v)

/-! ### The present instant -/

/-- A time base (R213). -/
def Dev.tb (d : Dev) (n : Nat) : TimeBase := d.time.tbs.get n ⟨0, 0, 0⟩

/-- A time base as nanoseconds. -/
def TimeBase.total (t : TimeBase) : Nat := t.sec * 1000000000 + t.ns

/-- TB0 as nanoseconds. -/
def Dev.now (d : Dev) : Nat := (d.tb 0).total

/-- TB0 in the form of the trailer STAMP (R149). -/
def Dev.stamp (d : Dev) : Nat := d.now % 2 ^ 32

/-! ### Event queues -/

/-- The bytes of a record as one little-endian number (R334). -/
def EvRec.word (r : EvRec) : Nat :=
  r.code % 2 ^ 16 + r.src % 2 ^ 8 * 2 ^ 16 + r.time % 2 ^ 32 * 2 ^ 32 + r.arg % 2 ^ 64 * 2 ^ 64

/-- Whether an event queue is in use: EN with a size of 16 to 4,096 records (R348). -/
def Dev.evqOn (d : Dev) (q : Nat) : Bool :=
  d.flag (SYN_EVQq_CFG_EN q) && 4 ≤ d.get (SYN_EVQq_CFG_LOG2 q) && d.get (SYN_EVQq_CFG_LOG2 q) ≤ 12

/-- The number of records of an event queue's ring. -/
def Dev.evqSize (d : Dev) (q : Nat) : Nat := 2 ^ d.get (SYN_EVQq_CFG_LOG2 q)

/-- Whether the ring is full: WR + 1 equals RD modulo its size (R333). -/
def Dev.evqFull (d : Dev) (q : Nat) : Bool :=
  (d.get (SYN_EVQq_WR_IDX q) + 1) % d.evqSize q == d.get (SYN_EVQq_RD_IDX q) % d.evqSize q

/-- The record written at WR, and WR advanced (R333); a slot outside CTL SRAM is not written (R597). -/
def Dev.evqWrite (d : Dev) (q : Nat) (r : EvRec) : Dev :=
  let wr := d.get (SYN_EVQq_WR_IDX q)
  let a := 16 * d.get (SYN_EVQq_CFG_BASE q) + 16 * wr
  let d := if a + 16 ≤ 0x200000 then d.store a 16 r.word else d
  d.set (SYN_EVQq_WR_IDX q) ((wr + 1) % d.evqSize q)

/-- A record for queue `q`: stored, or dropped and counted when the ring is full, or counted as unrouted when the queue
is not in use (R335, R336). -/
def Dev.postQ (d : Dev) (q : Nat) (r : EvRec) : Dev :=
  if d.evqOn q then
    if d.evqFull q then
      { d.inc (SYN_EVQq_DROP_COUNT q) with evqLost := d.evqLost.set q (d.evqLost.get q 0 + 1) 0 }
    else d.evqWrite q r
  else d.inc SYN_EV_UNROUTED_COUNT

/-- The route of a source in `SYN_EVROUTE`: its queue, if enabled (R349). -/
def Dev.route (d : Dev) (src : Nat) : Option Nat :=
  let w := d.get ⟨8 * SYN_EVROUTEk_A (src / 4) + 8 * (src % 4), 5, 0⟩
  if d.get ⟨8 * SYN_EVROUTEk_A (src / 4) + 8 * (src % 4) + 7, 1, 0⟩ = 1 then some w else none

/-- A record from a source: to the queue the source's block names, else by its route (R335). -/
def Dev.post (d : Dev) (r : EvRec) : Dev :=
  if d.domOn 1 then
    match (if r.src = 0x18 then some (d.get USB_CTL_EVQ) else if r.src = 0x19 then some (d.get KEY_CTL_EVQ)
           else d.route r.src) with
    | some q => d.postQ q r
    | none => d.inc SYN_EV_UNROUTED_COUNT
  else d

/-- A record posted now. -/
def Dev.event (d : Dev) (src code arg : Nat) : Dev := d.post ⟨code, src, d.stamp, arg⟩

/-- A register-bus record: the address and the thread, 0x1F for an engine (R337). -/
def Dev.busEvent (d : Dev) (code a thr : Nat) : Dev := d.event 0x0F code (a % 2 ^ 40 + thr * 2 ^ 40)

/-- A record of the power die: delivered while CTL is ON and the bridge is up, else held in the AON queue of 64 entries,
else counted (R28, R29). -/
def Dev.postAon (d : Dev) (r : EvRec) : Dev :=
  if d.aon.bridgeUp && d.domOn 1 then d.post r
  else if d.aon.recs.length < 64 then { d with aon := { d.aon with recs := d.aon.recs ++ [r] } }
  else { d with aon := { d.aon with lost := d.aon.lost + 1,
                                    lostTime := if d.aon.lost = 0 then r.time else d.aon.lostTime } }

/-- The AON queue delivered, in order, once CTL is ON and the bridge is up (R28, R29). -/
def Dev.deliverAon (d : Dev) : Dev :=
  if d.aon.bridgeUp && d.domOn 1 then
    forAll d.aon.recs (fun r d => d.post r) { d with aon := { d.aon with recs := [] } }
  else d

/-- The source, the code base and the instance of the flags of an event register, by its address (R616). -/
def evtSource (a : Nat) : Nat × Nat × Nat :=
  let k := (a - 0x10000000) / 0x100000
  let o := a % 0x100000
  if k = 4 then
    (if o = 0x20110 then (0x0B, 0x100, 0)
     else
      let p := if o < 0x80000 then o / 0x10000 else 2 + (o - 0x80000) / 0x10000
      (p + 1, (if o % 0x10000 < 0x400 then 0x100 else 0x120), 0))
  else if k = 19 then (0x00, 0x100, 0)
  else if k = 5 then (0x10, 0x100, 0)
  else if k = 6 then (0x11, 0x100, 0)
  else if k = 7 then (0x12, 0x100, 0)
  else if k = 8 then (0x13, 0x100, 0)
  else if k = 3 then (0x14, 0x100, 0)
  else if k = 10 then (0x15, 0x100, o / 0x1000)
  else if k = 11 then (0x16, 0x100, (o - 0x1000) / 0x1000)
  else if k = 13 then (0x17, 0x100, (o - 0x1000) / 0x1000)
  else if k = 14 then (0x18, 0x100, 0)
  else if k = 15 then (0x19, 0x100, 0)
  else (0x1A, 0x100, 0)

/-- The event register that holds a flag, as it reads: its defined bits. -/
def Dev.evtWord (d : Dev) (a n : Nat) : Nat := bitSet ((List.range n).filter (fun b => d.get ⟨8 * a + b, 1, 0⟩ == 1))

/-! ### One cycle (R12, R14) -/

/-- Whether an instant lies in the present cycle of the domain of the register at `a`: 62.5 ns on the power die, else the step of 2 ns
(DESIGN CHOICE, log entry 105). -/
def Dev.sameCycle (d : Dev) (a t : Nat) : Bool :=
  if onPowerDie a then t * 4 / 125 == d.power.osc * 4 / 125 else t == d.power.osc

/-- The device set a flag: a clear by software in the same cycle leaves it 1, and makes `r` due (R12, R616). -/
def Dev.noteSet (key : Nat) (r : Option EvRec) (d : Dev) : Dev :=
  { d with cycle := { d.cycle with
      sets := (key, d.power.osc, r) :: d.cycle.sets.filter (fun x => x.1 != key && d.sameCycle (x.1 / 32 * 4) x.2.1) } }

/-- Software, or a commit, wrote the register at `a` (R14, R292). -/
def Dev.noteWrite (a : Nat) (d : Dev) : Dev :=
  { d with cycle := { d.cycle with
      words := (a, d.power.osc) :: d.cycle.words.filter (fun x => x.1 != a && d.sameCycle x.1 x.2) } }

/-- Whether software wrote the register of a field in the present cycle. -/
def Dev.writtenNow (d : Dev) (f : Fld) : Bool :=
  d.cycle.words.any (fun x => x.1 == f.key / 32 * 4 && d.sameCycle x.1 x.2)

/-- The device updates a field that software may write: a write of the same cycle wins, and the update is lost (R14). -/
def Dev.update (f : Fld) (v : Nat) (d : Dev) : Dev := if d.writtenNow f then d else d.set f v

/-- What the device set in the present cycle, of the flag at a bit address. -/
def Dev.setNow (d : Dev) (key : Nat) : Option (Nat × Nat × Option EvRec) :=
  d.cycle.sets.find? (fun x => x.1 == key && d.sameCycle (key / 32 * 4) x.2.1)

/-- A flag set by the device (R616): where it goes from 0 to 1, and is enabled, its record is posted; else the record falls due with a
clear of the same cycle (R12). `en` is the bit that enables it, `mk` makes its record, `post` says where it goes. -/
def Dev.setFlag (f en : Fld) (mk : Dev → EvRec) (post : Dev → EvRec → Dev) (d : Dev) : Dev :=
  let was := d.get f
  let d := d.set f 1
  if d.get en = 0 then d.noteSet f.key none
  else if was = 0 then (post d (mk d)).noteSet f.key none
  else d.noteSet f.key (match d.setNow f.key with
    | some x => x.2.2
    | none => some (mk d))

/-- Software writes 1 to a flag: it clears, but for a flag that the device set in the same cycle, which stays 1 and posts the record that
its clear makes due (R12, R616). -/
def Dev.clearFlag (f : Fld) (d : Dev) : Dev :=
  match d.setNow f.key with
  | none => d.set f 0
  | some (_, _, none) => d
  | some (_, _, some r) => (if r.src = 0x1B then d.postAon r else d.post r).noteSet f.key none

/-- The record of flag `b` of the event register at `a`, whose source, code base and instance are given (R616). -/
def Dev.flagRec (d : Dev) (a b : Nat) (src : Nat × Nat × Nat) : EvRec :=
  ⟨src.2.1 + b, src.1, d.stamp, d.evtWord a 32 + src.2.2 * 2 ^ 32⟩

/-- An event flag set by the device: an enabled flag that goes from 0 to 1 posts one record (R616). -/
def Dev.raise (d : Dev) (f : Fld) : Dev :=
  d.setFlag f ⟨f.key + 32, 1, 0⟩ (fun d => d.flagRec (f.key / 32 * 4) (f.key % 32) (evtSource (f.key / 32 * 4))) Dev.post

/-! ### Windows -/

/-- A command of an indirect window, DONE at `done`: discarded while one runs; DONE reads 0 until it completes (R153, R211, R273, R276,
R278, R558, R574). What it does shows at once, its end with the next step of time (DESIGN CHOICE, log entry 14). -/
def Dev.winRun (done : Fld) (f : Dev → Dev) (d : Dev) : Dev :=
  if d.get done = 0 then d
  else
    let d := (f d).set done 0
    { d with cycle := { d.cycle with windows := d.cycle.windows ++ [done.key] } }

/-- An OP that a window does not list: nothing is performed, DONE stays 1, ERR reads 0 where there is one (R16); discarded while a command
runs. -/
def Dev.winNone (done : Fld) (err : Option Fld) (d : Dev) : Dev :=
  if d.get done = 0 then d else match err with
    | some f => d.set f 0
    | none => d

/-- The commands of the windows complete. -/
def Dev.winEnd (d : Dev) : Dev :=
  forAll d.cycle.windows (fun k d => d.set ⟨k, 1, 1⟩ 1) { d with cycle := { d.cycle with windows := [] } }

/-! ### Sillage -/

/-- The byte position `b` (16 to 31) of an argument value in ARGS (R236). -/
def silArg (b v : Nat) : Nat := v * 2 ^ (8 * (b - 16))

/-- The number of entries of the trace ring: 0 where LOG2 is outside 11 to 25 (R241). -/
def Dev.silSize (d : Dev) : Nat :=
  if 11 ≤ d.get SIL_SIZE_LOG2 ∧ d.get SIL_SIZE_LOG2 ≤ 25 then 2 ^ d.get SIL_SIZE_LOG2 else 0

/-- Entries dropped and counted (R238). -/
def Dev.silDrop (d : Dev) : Dev :=
  ({ d.inc SIL_DROP_COUNT with sil := { d.sil with lost := d.sil.lost + 1 } }).raise SIL_EVT_DROP

/-- An entry posted by a source: taken into the FIFO while the writer runs and the source is enabled, dropped when the
FIFO is full (R237, R238). -/
def Dev.silPost (d : Dev) (src code args : Nat) : Dev :=
  let en := if src < 32 then (d.get SIL_SRC_EN_LO_MASK).testBit src else (d.get SIL_SRC_EN_HI_MASK).testBit (src - 32)
  if d.flag SIL_CTL_EN && en then
    if d.sil.fifo.length < 256 then
      { d with sil := { d.sil with fifo := d.sil.fifo ++ [⟨d.now % 2 ^ 64, src, code, args⟩] } }
    else d.silDrop
  else d

/-! ### Threads -/

def Dev.thr (d : Dev) (t : Nat) : Thr := d.syn.thrs.get t Thr.reset
def Dev.modThr (d : Dev) (t : Nat) (f : Thr → Thr) : Dev :=
  { d with syn := { d.syn with thrs := d.syn.thrs.set t (f (d.thr t)) Thr.reset } }

/-- A counter of R351 advanced. -/
def Dev.perfAdd (d : Dev) (t ev : Nat) : Dev :=
  { d with syn := { d.syn with perf := d.syn.perf.set (16 * t + ev) ((d.syn.perf.get (16 * t + ev) 0 + 1) % 2 ^ 64) 0 } }

/-- The start pc of a thread shows an address (R319, R347). -/
def Dev.putStartPc (d : Dev) (t pc : Nat) : Dev :=
  (d.update (SYN_THn_PC_LO_PC t) (pc / 4 * 4)).update (SYN_THn_PC_HI_PC t) (pc / 2 ^ 32)

/-- A thread to which STOP was written meanwhile stops before its next instruction (R319). -/
def Dev.stopIfAsked (d : Dev) (t : Nat) : Dev :=
  if (d.thr t).stop then
    ((d.putStartPc t (d.thr t).pc).modThr t (fun x => { x with stop := false })).set (SYN_THn_STAT_STATE t) 0
  else d

/-- A thread stops (R319): what is issued completes first; an event wait counts as not issued (R365). -/
def Dev.stopThread (d : Dev) (t : Nat) : Dev :=
  let off := fun (d : Dev) =>
    ((d.putStartPc t (d.thr t).pc).modThr t (fun x => { x with wait := .none, stop := false })).set (SYN_THn_STAT_STATE t) 0
  if d.get (SYN_THn_STAT_STATE t) = 0 then d
  else match (d.thr t).wait with
    | .none => off d
    | .event _ _ _ => off d
    | _ => if d.get (SYN_THn_STAT_STATE t) = 3 then off d else d.modThr t (fun x => { x with stop := true })

/-- A thread whose core is lost: OFF, and what it waited for is not awaited any more (R318). -/
def Dev.dropThread (d : Dev) (t : Nat) : Dev :=
  ((d.modThr t (fun x => { x with wait := .none, stop := false, shadow := Ahead.reset })).set (SYN_THn_STAT_RUNAHEAD t) 0).set
    (SYN_THn_STAT_STATE t) 0

/-- An instruction of `len` bytes retires, and its thread goes on, or stops where STOP was written meanwhile (R319, R352). -/
def Dev.retire (d : Dev) (t len : Nat) : Dev :=
  let d := (d.modThr t (fun x => { x with pc := (x.pc + len) % 2 ^ 40, wait := .none, ahead := 0, shadow := Ahead.reset })).perfAdd t 1
  ((d.set (SYN_THn_STAT_RUNAHEAD t) 0).set (SYN_THn_STAT_STATE t) 1).stopIfAsked t

/-! ### Accords aborted -/

def Dev.accSlot (d : Dev) (n : Nat) : AccSlot := d.acc.slots.get n AccSlot.reset
def Dev.modAcc (d : Dev) (f : AccPart → AccPart) : Dev := { d with acc := f d.acc }
def Dev.modSyn (d : Dev) (f : SynPart → SynPart) : Dev := { d with syn := f d.syn }
def Dev.setAccSlot (d : Dev) (n : Nat) (x : AccSlot) : Dev :=
  d.modAcc (fun a => { a with slots := a.slots.set n x AccSlot.reset })

/-- The slots in OPEN, CLOSED or HELD (R280). -/
def Dev.pendingSlots (d : Dev) : List Nat :=
  (List.range 16).filter (fun n => 1 ≤ d.get (ACD_SLOTn_STAT_STATE n) && d.get (ACD_SLOTn_STAT_STATE n) ≤ 3)

/-- The slots in CLOSED or HELD that a thread closed (R291). -/
def Dev.closedOf (d : Dev) (t : Nat) : List Nat :=
  d.pendingSlots.filter (fun n => d.get (ACD_SLOTn_STAT_THREAD n) == t && 2 ≤ d.get (ACD_SLOTn_STAT_STATE n)
    && !(d.accSlot n).ace)

/-- A thread that waits in FENCE.T goes on once its closed accords have ended (R291). -/
def Dev.fenceDone (d : Dev) (t : Nat) : Dev :=
  if (d.thr t).wait = .accords ∧ d.closedOf t = [] then d.retire t 4 else d

/-- A slot's state entered: the count of slots in use follows, and so does its thread's status (R312, R322). -/
def Dev.slotState (d : Dev) (n st code : Nat) : Dev :=
  let d := (d.set (ACD_SLOTn_STAT_STATE n) st).set (ACD_SLOTn_STAT_CODE n) code
  let d := d.set ACD_STAT_OPEN d.pendingSlots.length
  let t := d.get (ACD_SLOTn_STAT_THREAD n)
  if (d.accSlot n).ace then d
  else
    let x := d.syn.latest.get t Acst.reset
    let d := if x.slot = n ∧ x.id = d.get (ACD_SLOTn_ID_ID n) ∧ x.state ≠ 0 then
        let x := { x with state := st, code := code, kind := d.get (ACD_SLOTn_STAT_KIND n) }
        d.modSyn (fun y => { y with latest := y.latest.set t x Acst.reset })
      else d
    if 4 ≤ st then d.fenceDone t else d

/-- The ACCORD_DONE record of a slot, to the queue of ACD_CTL.EVQ (R311, R337). -/
def Dev.accordDone (d : Dev) (n code : Nat) : Dev :=
  d.postQ (d.get ACD_CTL_EVQ) ⟨0x0010, 0x13, d.stamp,
    d.get (ACD_SLOTn_ID_ID n) + n * 2 ^ 32 + code * 2 ^ 36 + d.get (ACD_SLOTn_STAT_KIND n) * 2 ^ 40⟩

/-- The code of a LINE accord that aborted is kept while its ID awaits a decision (R300). -/
def Dev.noteAbort (d : Dev) (id code : Nat) : Dev :=
  if d.acc.hist.any (fun x => x.1 == id) then d
  else d.modAcc (fun a => { a with aborts := Tab.insert id code (Tab.erase id a.aborts) })

/-- An abort counted, raised and recorded (R308, R313, R315, R317); slot 0xFF where none holds the ID. -/
def Dev.abortReport (d : Dev) (id kind code slot : Nat) : Dev :=
  let d := d.inc (ACD_ABORTc_COUNT (code - 1))
  let d := if kind = 2 then d.noteAbort id code else d
  let d := if kind = 2 then d.raise ACD_EVT_LINE_ABORT else d
  let d := if kind = 2 ∧ code = 4 then d.raise ACD_EVT_LATE else d
  let d := if code = 8 then d.raise ACD_EVT_ILLEGAL else d
  d.silPost 0x13 0x0002 (silArg 16 id + silArg 20 kind + silArg 21 code + silArg 22 slot)

/-- A pending accord aborts: its shadows, claims and read set go (R280, R308, R311); a thread whose accord was OPEN is spent, but where
it asked for the abort or is reset with it (R372; DEDUCED, log entry 107). The fence of a LATE abort is the caller's. -/
def Dev.abortSlot (d : Dev) (n code : Nat) : Dev :=
  let st := d.get (ACD_SLOTn_STAT_STATE n)
  if 1 ≤ st ∧ st ≤ 3 then
    let kind := d.get (ACD_SLOTn_STAT_KIND n)
    let ace := (d.accSlot n).ace
    let t := d.get (ACD_SLOTn_STAT_THREAD n)
    let d := d.slotState n 5 code
    let d := d.setAccSlot n AccSlot.reset
    let d := d.abortReport (d.get (ACD_SLOTn_ID_ID n)) kind code n
    let d := if kind = 0 then d else d.accordDone n code
    if st = 1 && !ace && code != 3 && code != 9 then d.modSyn (fun y => { y with spent := y.spent.set t true false }) else d
  else d

/-- Memory written by another agent: an OPEN accord whose read set holds a line of it aborts with CONFLICT (R286); `own` is
the slot of the accord whose commit writes, 16 for none. -/
def Dev.memTouched (d : Dev) (a n own : Nat) : Dev :=
  forAll (d.pendingSlots.filter (fun k => k != own && (d.accSlot k).rset.any (fun l => l * 64 < a + n && a < l * 64 + 64)))
    (fun k d => d.abortSlot k 1) d

/-! ### Words with uncorrectable errors -/

/-- Whether the word that holds a byte has an uncorrectable error that a read has found (R329, R564). -/
def Dev.flawed (d : Dev) (a : Nat) : Bool := d.rel.flaws.contains (a / 8)

/-- A word that a read found uncorrectable: every later read meets the error until the word is written. -/
def Dev.addFlaw (d : Dev) (w : Nat) : Dev :=
  if d.rel.flaws.contains w then d else { d with rel := { d.rel with flaws := w :: d.rel.flaws } }

/-- Words written: their check bits are formed anew (R561). -/
def Dev.mend (d : Dev) (a n : Nat) : Dev :=
  if d.rel.flaws = [] then d
  else { d with rel := { d.rel with flaws := d.rel.flaws.filter (fun w => decide (8 * w + 8 ≤ a ∨ a + n ≤ 8 * w)) } }

/-- Where a word of a protected memory stands among the uncorrectable words: CTL SRAM and DRAM by address, the other memories apart
(R561). -/
def flawKey (mem b w : Nat) : Nat :=
  if mem = 0 then 16384 * b + w else if mem = 11 then 2 ^ 36 + w else 2 ^ 60 + mem * 2 ^ 48 + b * 2 ^ 40 + w

/-- The first of `n` words from `lo` of a bank that a read has found uncorrectable. -/
def Dev.flawOf (d : Dev) (mem b lo n : Nat) : Option Nat :=
  if d.rel.flaws = [] then none else (List.range n).map (lo + ·) |>.find? (fun w => d.rel.flaws.contains (flawKey mem b w))

/-- `n` words of a bank written, or out of use: they are uncorrectable no more. -/
def Dev.mendIn (mem b lo n : Nat) (d : Dev) : Dev :=
  if d.rel.flaws = [] then d
  else { d with rel := { d.rel with
    flaws := d.rel.flaws.filter (fun k => decide (k < flawKey mem b lo ∨ flawKey mem b lo + n ≤ k)) } }

/-! ### Engine accesses to memory -/

/-- Every cached copy of the lines of a range is invalid (R328, R364): what they held before is held nowhere any more. -/
def Dev.dropLines (d : Dev) (a n : Nat) : Dev :=
  if n = 0 then d
  else { d with syn := { d.syn with stale := d.syn.stale.filter (fun x => decide (x.1 < a / 64 ∨ (a + n - 1) / 64 < x.1)) } }

/-- A line is about to be stored to: what it holds may stay in an I-cache (R328). -/
def Dev.keepLine (d : Dev) (a : Nat) : Dev :=
  let l := a / 64
  { d with syn := { d.syn with stale := d.syn.stale.set l (d.bytes (64 * l) 64 :: d.syn.stale.get l []) [] } }

/-- Bytes written by an engine: discarded, with BUS_UNMAPPED, where any falls outside CTL SRAM or the usable DRAM
(R590, R597). A write to DRAM reaches the read sets (R286) and invalidates every cached copy of its lines (R328). -/
def Dev.engWrite (d : Dev) (a : Nat) (l : List Byte) : Dev :=
  match l with
  | [] => d
  | _ =>
    let r := d.region a
    if (r = .sram ∨ r = .dram) ∧ d.region (a + l.length - 1) = r then
      (let d := (d.putBytes a l).mend a l.length
       if r = .dram then (d.memTouched a l.length 16).dropLines a l.length else d)
    else d.busEvent 0x0001 a 0x1F

/-- `n` bytes read by an engine: zeros, with BUS_UNMAPPED, where any falls outside CTL SRAM or the usable DRAM. -/
def Dev.engRead (d : Dev) (a n : Nat) : List Byte × Dev :=
  let r := d.region a
  if (r = .sram ∨ r = .dram) ∧ d.region (a + n - 1) = r then (d.bytes a n, d)
  else (List.replicate n 0, d.busEvent 0x0001 a 0x1F)

/-- The address that a BASE field in 4 KiB units names (R597). -/
def baseAddr (base : Nat) (mem : Bool) : Nat := (if mem then 0 else 0x8000000000) + 4096 * base

/-! ### Outcomes -/

/-- A command that always completes: the device it leaves, the queue as it was. -/
def State.run (s : State) (f : Dev → Dev) : Host.Outcome State Fault Refusal := .next { s with dev := f s.dev }

/-- The power domain of a port's PHY and link layer (R26): TE and TW, C0 to C3, C4 to C7. -/
def portDomain (p : Nat) : Nat := if p < 2 then 5 + p else if p < 6 then 7 else 8

/-- A command of a power domain's logic, which does nothing while the domain has no clock or no supply (R512, R515). -/
def State.runOn (n : Nat) (s : State) (f : Dev → Dev) : Host.Outcome State Fault Refusal := s.run (fun d => if d.domOn n then f d else d)

/-- Whether the inputs of a power domain reach its logic: while its pads are held they do not (R517). -/
def Dev.reached (d : Dev) (n : Nat) : Bool := d.domOn n && !d.flag (PWR_Dd_STAT_HELD n)

/-- A command that a domain's input pads bring. -/
def State.runPins (n : Nat) (s : State) (f : Dev → Dev) : Host.Outcome State Fault Refusal :=
  s.run (fun d => if d.reached n then f d else d)

end Sys2Proof.Machine
end

