-- ==== Sys2Proof/Machine/Gateway.lean ====
section
/-! DEFINITION. The USB gateways and notices as other blocks touch them: packets in front of the engines, wake reasons (R477),
notices (R470), and what a reset or a committed EN = 0 discards (R469). -/

namespace Sys2Proof.Machine

def Dev.modPort (d : Dev) (f : PortPart → PortPart) : Dev := { d with port := f d.port }

def Dev.modUsb (d : Dev) (f : UsbPart → UsbPart) : Dev := { d with usb := f d.usb }
def Dev.gw (d : Dev) (g : Nat) : Gateway := d.usb.gws.get g Gateway.reset
def Dev.setGw (d : Dev) (g : Nat) (x : Gateway) : Dev := d.modUsb (fun u => { u with gws := u.gws.set g x Gateway.reset })

def Dev.modFn (d : Dev) (f : FnPart → FnPart) : Dev := d.modUsb (fun u => { u with fn := f u.fn })

/-- A wake reason latched while the function is suspended, by the bus or by a function suspend (R477). -/
def Dev.wakeReason (d : Dev) (r : Nat) : Dev :=
  if d.flag USB_STAT_SUSPENDED || d.usb.fn.fsusp then d.set USB_WAKE_PEND (d.get USB_WAKE_PEND ||| 2 ^ r) else d

/-- A notice queued; the queue holds 32, and a notice that finds it full is discarded and counted (R470). A queued notice is a wake
reason (R477). -/
def Dev.notify (code src arg : Nat) (d : Dev) : Dev :=
  if 32 ≤ d.usb.notices.length then
    ((d.modUsb (fun u => { u with lost := u.lost + 1 })).inc USB_NOTE_LOST_COUNT).raise USB_EVT_NOTE_OVF
  else
    let n : Notice := ⟨code, src, d.usb.seq, d.stamp, arg⟩
    let d := d.modUsb (fun u => { u with notices := u.notices ++ [n], seq := (u.seq + 1) % 256 })
    (d.set USB_NOTE_STAT_DEPTH d.usb.notices.length).wakeReason 0

/-- What a gateway holds is discarded and counted, and a GW_DROP notice queued (R469). -/
def Dev.dropGateway (g : Nat) (d : Dev) : Dev :=
  let q := 1184 + g
  let k := (d.port.inq.get q []).length + (if (d.gw g).begun then 1 else 0)
  let d := (d.modPort (fun p => { p with inq := p.inq.set q [] [] })).setGw g Gateway.reset
  if k = 0 then d else (d.incBy (USB_GWg_DROPS_COUNT g) k).notify 0x0003 0 (g + k % 2 ^ 32 * 2 ^ 16)

end Sys2Proof.Machine
end

