-- ==== Sys2Proof/Machine/Packet.lean ====
section
/-! DEFINITION. Tunnel packets and checks: CRC-32C (R79), the tunnel header (R146), its validity (R148), the trailer (R149),
keys and buckets of the Tunnel Match Table (R155 to R157). -/

namespace Sys2Proof.Machine

/-- One bit of the reflected CRC-32C. -/
def crcBit (c : Nat) : Nat := if c % 2 = 1 then (c / 2) ^^^ 0x82F63B78 else c / 2

/-- CRC-32C advanced over one byte, without the initial value and the final XOR (R79, R368). -/
def crcByte (c : Nat) (b : Byte) : Nat :=
  crcBit (crcBit (crcBit (crcBit (crcBit (crcBit (crcBit (crcBit (c ^^^ b.toNat))))))))

/-- CRC-32C advanced over bytes. -/
def crcRun (c : Nat) (l : List Byte) : Nat := l.foldl crcByte c

/-- The CRC-32C of bytes: initial value and final XOR of all ones (R79). -/
def crc32c (l : List Byte) : Nat := crcRun 0xFFFFFFFF l ^^^ 0xFFFFFFFF

/-- The tunnel header in the first 16 bytes (R146). -/
def THdr.parse (l : List Byte) : THdr :=
  let v := beNat (l.take 16 ++ List.replicate (16 - l.length) 0)
  { ver := bitsOf v 124 4, cls := bitsOf v 121 3, g := v.testBit 120, dest := bitsOf v 108 12
    origin := bitsOf v 96 12, index := bitsOf v 86 10, colour := bitsOf v 84 2, rel := v.testBit 83
    dir := v.testBit 82, kind := bitsOf v 79 3, len := bitsOf v 65 14, akv := v.testBit 64
    tseq := bitsOf v 32 32, aux := bitsOf v 0 32 }

/-- The header as one 128-bit number (R146). -/
def THdr.word (h : THdr) : Nat :=
  h.ver % 16 * 2 ^ 124 + h.cls % 8 * 2 ^ 121 + b2n h.g * 2 ^ 120 + h.dest % 4096 * 2 ^ 108 + h.origin % 4096 * 2 ^ 96
    + h.index % 1024 * 2 ^ 86 + h.colour % 4 * 2 ^ 84 + b2n h.rel * 2 ^ 83 + b2n h.dir * 2 ^ 82 + h.kind % 8 * 2 ^ 79
    + h.len % 2 ^ 14 * 2 ^ 65 + b2n h.akv * 2 ^ 64 + h.tseq % 2 ^ 32 * 2 ^ 32 + h.aux % 2 ^ 32

/-- The header's 16 bytes, most significant first. -/
def THdr.bytes (h : THdr) : List Byte := natBE 16 h.word

/-- The conditions of R148 that the header alone decides. -/
def THdr.invalid (h : THdr) : Bool :=
  h.ver != 1 || 5 ≤ h.cls || 3 ≤ h.kind || h.colour == 3 || (h.g && h.dir) || (h.g && h.rel) || 16104 < h.len

/-- The station that originates the tunnel's label (R144). -/
def THdr.lorig (h : THdr) : Nat := if h.dir then h.dest else h.origin

/-- The frame bytes B of the packet (R247). -/
def THdr.frameBytes (h : THdr) : Nat := 16 + h.len + 8

/-- A whole packet as the tunnel engine builds it: header, payload, end-to-end CRC and stamp (R149). -/
def packetBytes (h : THdr) (payload : List Byte) (stamp : Nat) : List Byte :=
  let l := h.bytes ++ payload
  l ++ natBE 4 (crc32c l) ++ natBE 4 stamp

/-- Bytes cut into pieces of 256, the last one shorter (R80, R186); the count of pieces bounds the recursion. -/
def chunks : Nat → List Byte → List (List Byte)
  | 0, _ => []
  | n + 1, l => if l.length ≤ 256 then [l] else l.take 256 :: chunks n (l.drop 256)

/-- The cells of a packet's bytes. -/
def cellsOf (l : List Byte) : List (List Byte) := chunks (l.length / 256 + 1) l

/-! ### The Tunnel Match Table -/

/-- A 36-bit key (R156). -/
def tmtKey (s g : Bool) (dest lorig index : Nat) : Nat :=
  b2n s * 2 ^ 35 + b2n g * 2 ^ 34 + dest % 4096 * 2 ^ 22 + lorig % 4096 * 2 ^ 10 + index % 1024

/-- The label key of a packet (R156). -/
def THdr.labelKey (h : THdr) : Nat := tmtKey false h.g h.dest h.lorig h.index

/-- The station key of a packet (R156). -/
def THdr.stationKey (h : THdr) : Nat := tmtKey true false (if h.g then h.origin else h.dest) 0 0

/-- The bucket of a key under a seed (R156). -/
def tmtBucket (key seed : Nat) : Nat := (crc32c (natBE 5 (key % 2 ^ 36)) ^^^ seed) % 4096

/-- The key held in TMT slot `i`; slots from 16,384 on are the overflow entries (R155, R181). -/
def Dev.slotKey (d : Dev) (i : Nat) : Nat :=
  tmtKey (d.flag (TMT_W0_S i)) (d.flag (TMT_W0_G i)) (d.get (TMT_W0_DEST i)) (d.get (TMT_W0_LORIG i))
    (d.get (TMT_W1_INDEX i))

/-- The bank of the TMT memory and its first word that hold slot `i`. Slot bucket * 4 + way lies in bank way * 4 + (bucket mod 4) (R158);
two words a slot, in rising order of the buckets of a bank (DESIGN CHOICE, log 97). -/
def tmtPlace (i : Nat) : Nat × Nat :=
  if i < 16384 then (i % 4 * 4 + i / 4 % 4, 2 * (i / 16)) else (16, 2 * (i - 16384))

/-- Whether slot `i` is read with an uncorrectable error (R564). -/
def Dev.slotFlawed (d : Dev) (i : Nat) : Bool := (d.flawOf 3 (tmtPlace i).1 (tmtPlace i).2 2).isSome

/-- Whether slot `i` holds a valid entry for the key; an entry read with an uncorrectable error does not match (R564). -/
def Dev.slotMatch (d : Dev) (key i : Nat) : Bool := d.flag (TMT_W0_VALID i) && d.slotKey i == key && !d.slotFlawed i

/-- The slots that can hold a key, in the order in which a match wins: the overflow entries, then the ways of the key's
bucket (R157). -/
def tmtCandidates (bucket : Nat) : List Nat :=
  (List.range 64).map (16384 + ·) ++ (List.range 4).map (bucket * 4 + ·)

/-- The entry that matches a key (R157). -/
def Dev.tmtFind (d : Dev) (key : Nat) : Option Nat :=
  (tmtCandidates (tmtBucket key (d.get TNL_TMT_SEED_SEED))).find? (d.slotMatch key)

/-- The matching entry if it has the given KIND: 0 TERM, 1 ENTRY, 2 GROUP, 3 TRANSIT, 4 STATION (R155). -/
def Dev.tmtKind (d : Dev) (key kind : Nat) : Option Nat :=
  match d.tmtFind key with
  | some i => if d.get (TMT_W0_KIND i) = kind then some i else none
  | none => none

end Sys2Proof.Machine
end

