-- ==== Sys2Proof/Machine/Pools.lean ====
section
/-! DEFINITION. The sizes of the pools of the packet buffer (R189, R190) and the status registers that show them (R206 to R209). -/

namespace Sys2Proof.Machine

/-- The cells claimed by reserves: of the ports that are up, and those still left of earlier sessions (R190). -/
def Dev.rsvTotal (d : Dev) : Nat :=
  (d.sw.rsv.map (fun x => x.2.1)).foldl (· + ·) 0 + (d.sw.rsvOld.map Prod.snd).foldl (· + ·) 0

/-- The size of SHARED: the usable cells not in the other pools (R189). -/
def Dev.sharedSize (d : Dev) : Nat :=
  d.get SWC_CELLS_CELLS - d.rsvTotal - d.get SWC_HOLD_MAX_CELLS - d.get SWC_STAGE_POOL

/-- The free SHARED cells: none while the switch core does not run. The spec does not say what SWC_FREE reads once SWC_CTL.EN is
cleared (DESIGN CHOICE, log 34: 0, as at reset, and SHARED_LOW is raised as for any fall to the headroom). -/
def Dev.freeShared (d : Dev) : Nat := if d.flag SWC_CTL_EN then d.sharedSize - d.sw.shared else 0

/-- The status registers brought up to the pools; SHARED_LOW is raised as the free cells fall to the headroom (R206 to
R209; while EN is 0 as `Dev.freeShared` says). -/
def Dev.syncPools (d : Dev) : Dev :=
  let was := d.get SWC_FREE_CELLS
  let f := d.freeShared
  let d := ((d.set SWC_FREE_CELLS f).set SWC_RSV_USED_CELLS d.rsvTotal).setB SWC_STAT_CLAIM_PENDING (d.sw.claims != [])
  let d := (d.setB SWC_STAT_SPILLING (d.get SWC_SPILL_USED_CELLS != 0)).set SWC_STAT_RUNNING (d.get SWC_CTL_EN)
  if d.get SWC_HEADROOM_CELLS < was && f ≤ d.get SWC_HEADROOM_CELLS then d.raise SWC_EVT_SHARED_LOW else d

end Sys2Proof.Machine
end

