-- ==== Sys2Proof/Machine/Rel.lean ====
section
/-! DEFINITION. Memory protection and self-test (spec 19): errors found on reads (R563, R564), the scrubber (R565, R566),
remap and bank windows (R567, R573), in-service self-test (R571, R572), and the DRAM controller (R569, R574). -/

namespace Sys2Proof.Machine

/-- The state of a bank. -/
def Dev.bank (d : Dev) (mem b : Nat) : BankSt := d.rel.banks.get (32 * mem + b) BankSt.reset

def Dev.setBank (d : Dev) (mem b : Nat) (x : BankSt) : Dev :=
  { d with rel := { d.rel with banks := d.rel.banks.set (32 * mem + b) x BankSt.reset } }

/-- The number of 64-bit words of a bank (R561); 0 where no such bank exists. -/
def Dev.bankWords (d : Dev) (mem b : Nat) : Nat :=
  if mem = 0 ∧ b < 16 then 16384
  else if mem = 1 ∧ b < 8 then 524288
  else if mem = 2 ∧ b < 8 then 16384
  else if mem = 3 ∧ b < 16 then 2048
  else if mem = 3 ∧ b = 16 then 128
  else if mem = 4 ∧ b = 0 then 8192
  else if mem = 5 ∧ b < 2 then 65536
  else if (mem = 6 ∨ mem = 7) ∧ b < 8 then 4096
  else if mem = 8 ∧ b < 2 then 32768
  else if mem = 9 ∧ b = 0 then 1024
  else if mem = 10 ∧ b < 24 then Config.otherBankWords b
  else if mem = 11 ∧ b < 2 then d.dramSize / 8
  else 0

/-- A corrected error on a read of a bank (R563). -/
def Dev.memCe (d : Dev) (mem b word : Nat) : Dev :=
  let x := d.bank mem b
  (d.setBank mem b { x with ce := (x.ce + 1) % 2 ^ 32, lastCe := word }).raise REL_EVT_CE

/-- Whether a consumer of R564 acts on an uncorrectable word of a memory: not for the caches and FIFOs, and the display line buffers,
whose pixels are sent as read. -/
def flawCounts (mem : Nat) : Bool := mem ≤ 5 || mem == 9 || mem == 11

/-- An uncorrectable error on a read of a bank (R564); the consumer's action is the caller's. A word keeps it until it is written. -/
def Dev.memUe (d : Dev) (mem b word : Nat) : Dev :=
  let d := if flawCounts mem then d.addFlaw (flawKey mem b word) else d
  let x := d.bank mem b
  ((d.setBank mem b { x with ue := (x.ue + 1) % 2 ^ 32, lastUe := word }).raise REL_EVT_UE).silPost 0x1A 0x0001
    (silArg 16 mem + silArg 17 b + silArg 20 word)

/-- What the checker found on a read. -/
def Dev.memRead (d : Dev) (mem b word : Nat) : Ecc → Dev
  | .ok => d
  | .ce => d.memCe mem b word
  | .ue => d.memUe mem b word

/-- The read of a consumer that meets an uncorrectable word among `n` words and takes them out of use: the error reported, and the words
no longer flagged; none where every word is sound (R564). -/
def Dev.hitFlaw (mem b lo n : Nat) (d : Dev) : Option Dev :=
  (d.flawOf mem b lo n).map (fun w => (d.memUe mem b w).mendIn mem b lo n)

/-- A write of `REL_SCR_CMD.GO` (R565). -/
def scrubGo (d : Dev) : Dev :=
  let m := d.get REL_SCR_MEM_MEM
  let b := d.get REL_SCR_MEM_BANK
  if d.flag REL_SCR_STAT_BUSY || d.get REL_SCR_END_WORD < d.get REL_SCR_START_WORD
      || d.bankWords m b ≤ d.get REL_SCR_END_WORD then d.set REL_SCR_STAT_RESULT 2
  else
    let pass : ScrubPass := ⟨m, b, d.get REL_SCR_START_WORD, d.get REL_SCR_END_WORD⟩
    { d with rel := { d.rel with pass := pass } }.set REL_SCR_STAT_BUSY 1

def execScrubGo (s : State) : Host.Outcome State Fault Refusal := s.runOn 3 scrubGo

/-- The end of a pass: the summary over the words read so far (R566). -/
def scrubEnd (result read : Nat) (ces ues : List Nat) (d : Dev) : Dev :=
  let m := d.rel.pass.mem
  let b := d.rel.pass.bank
  let d := forAll ces (fun w d => d.memCe m b w) d
  let d := forAll ues (fun w d => d.memUe m b w) d
  let d := ((d.set REL_SCR_READ_COUNT read).set REL_SCR_CE_COUNT ces.length).set REL_SCR_UE_COUNT ues.length
  let d := forAll (List.range 8) (fun k d => d.set (REL_SCR_UEAk_WORD k) (ues.getD k 0)) d
  ((d.set REL_SCR_STAT_BUSY 0).set REL_SCR_STAT_RESULT result).raise REL_EVT_SCR_DONE

/-- A write of `REL_SCR_CMD.ABORT` ends the pass (R566): the words read so far and the errors among them. -/
def scrubAbort (read : Nat) (ces ues : List Nat) (d : Dev) : Dev :=
  if d.flag REL_SCR_STAT_BUSY then scrubEnd 1 read ces ues d else d

def execScrubAbort (read : Nat) (ces ues : List Nat) (s : State) : Host.Outcome State Fault Refusal :=
  s.runOn 3 (scrubAbort read ces ues)

/-- The pass reaches END: every word from START to END has been read (R566). -/
def scrubPassDone (ces ues : List Nat) (d : Dev) : Dev :=
  if d.flag REL_SCR_STAT_BUSY then
    scrubEnd 0 (d.rel.pass.last - d.rel.pass.first + 1) ces ues d
  else d

def execScrubPassDone (ces ues : List Nat) (s : State) : Host.Outcome State Fault Refusal :=
  s.runOn 3 (scrubPassDone ces ues)

/-- The word that data register `k` of the memory window shows; a packet buffer bank is USABLE until self-test marks it (R571, R573). -/
def Dev.mwWord (d : Dev) (mem b k : Nat) : Nat :=
  let x := d.bank mem b
  if k = 0 then d.bankWords mem b
  else if k = 1 then x.ce else if k = 2 then x.ue else if k = 3 then x.lastCe else if k = 4 then x.lastUe
  else if k = 5 then x.remap.length + 256 * b2n (mem != 1 || (d.get SWC_STAT_BANK_OK).testBit b)
  else match x.remap.get (k - 6) none with
    | some w => w % 2 ^ 24 + 2 ^ 31
    | none => 0

/-- The result of a memory window command (R573). -/
def Dev.mwDone (d : Dev) (err : Nat) : Dev := (d.set REL_MW_RES_DONE 1).set REL_MW_RES_ERR err

/-- Command READ of the memory window. -/
def relMwReadOp (d : Dev) : Dev :=
  let m := d.get REL_MW_IDX_MEM
  let b := d.get REL_MW_IDX_BANK
  (forAll (List.range 14) (fun k e => e.set (REL_MW_DATAk_WORD k) (d.mwWord m b k)) d).mwDone 0

def relMwRead (d : Dev) : Dev := d.winRun REL_MW_RES_DONE (relMwReadOp)

def execRelMwRead (s : State) : Host.Outcome State Fault Refusal := s.runOn 3 relMwRead

/-- Command CLRCNT of the memory window: the bank's counters (R15). -/
def relMwClrcntOp (d : Dev) : Dev :=
  let m := d.get REL_MW_IDX_MEM
  let b := d.get REL_MW_IDX_BANK
  (d.setBank m b { d.bank m b with ce := 0, ue := 0 }).mwDone 0

def relMwClrcnt (d : Dev) : Dev := d.winRun REL_MW_RES_DONE (relMwClrcntOp)

def execRelMwClrcnt (s : State) : Host.Outcome State Fault Refusal := s.runOn 3 relMwClrcnt

/-- The remap entry of a word, if it has one. -/
def BankSt.entryOf (x : BankSt) (w : Nat) : Option Nat :=
  (List.range 8).find? (fun k => x.remap.get k none == some w)

/-- The first free remap entry. -/
def BankSt.freeEntry (x : BankSt) : Option Nat := (List.range 8).find? (fun k => x.remap.get k none == none)

/-- The bytes of CTL SRAM that a bank and word name (R561): banks of 128 KiB, words of 8 bytes. -/
def sramWordAddr (b w : Nat) : Nat := 0x20000 * b + 8 * w

/-- Command REMAP: the word in `REL_MW_ARG` redirected to a spare; `ecc` is what the checker finds when it reads the
word. A word of CTL SRAM that reads uncorrectable reads zero from then on; a word of another memory keeps the contents the model
holds for it (R567; log 97). -/
def relMwRemapOp (ecc : Ecc) (d : Dev) : Dev :=
  let m := d.get REL_MW_IDX_MEM
  let b := d.get REL_MW_IDX_BANK
  let w := d.get REL_MW_ARG_WORD
  let x := d.bank m b
  if m = 11 then d.mwDone 4
  else if (x.entryOf w).isSome then d.mwDone 2
  else match x.freeEntry with
    | none => d.mwDone 1
    | some k =>
      let ecc := if (d.flawOf m b w 1).isSome then .ue else ecc
      let d := d.memRead m b w ecc
      let x := d.bank m b
      let d := d.setBank m b { x with remap := x.remap.set k (some w) none }
      let d := if ecc = .ue ∧ m = 0 then d.store (sramWordAddr b w) 8 0 else d
      (d.mendIn m b w 1).mwDone 0

def relMwRemap (ecc : Ecc) (d : Dev) : Dev := d.winRun REL_MW_RES_DONE (relMwRemapOp ecc)

def execRelMwRemap (ecc : Ecc) (s : State) : Host.Outcome State Fault Refusal := s.runOn 3 (relMwRemap ecc)

/-- Command UNMAP: the entry of the word in `REL_MW_ARG` cleared (R567). -/
def relMwUnmapOp (d : Dev) : Dev :=
  let m := d.get REL_MW_IDX_MEM
  let b := d.get REL_MW_IDX_BANK
  let x := d.bank m b
  if m = 11 then d.mwDone 4
  else match x.entryOf (d.get REL_MW_ARG_WORD) with
    | none => d.mwDone 3
    | some k => (d.setBank m b { x with remap := x.remap.set k none none }).mwDone 0

def relMwUnmap (d : Dev) : Dev := d.winRun REL_MW_RES_DONE (relMwUnmapOp)

def execRelMwUnmap (s : State) : Host.Outcome State Fault Refusal := s.runOn 3 relMwUnmap

/-! ### In-service self-test -/

/-- Whether a target has in-service slices (R571). -/
def bistInService (t : Nat) : Bool := t < 8 || (0x10 ≤ t && t < 0x20) || (0x20 ≤ t && t < 0x28)

/-- Why a slice is refused: 0 none, 1 BUSY, 2 OFF, 3 SELF, 4 UNUSABLE, 5 NO_CELLS (R572, R573). -/
def Dev.bistReason (d : Dev) (thr t : Nat) : Nat :=
  if d.flag REL_BIST_STAT_BUSY then 1
  else if !bistInService t then 2
  else if t < 8 && thr / 4 == t then 3
  else if t < 8 && !(d.get SYN_STAT_CORE_OK).testBit t then 4
  else if 0x20 ≤ t && !(d.get SWC_STAT_BANK_OK).testBit (t - 0x20) then 4
  else if 0x20 ≤ t && d.get (SWC_BANKn_FREE_CELLS (t - 0x20)) < 32 then 5
  else 0

/-- The four threads of a core. -/
def coreThreads (k : Nat) : List Nat := [4 * k, 4 * k + 1, 4 * k + 2, 4 * k + 3]

/-- A write of `REL_BIST_CMD.GO` by a thread (R572): a core's threads stop as STOP does, a packet buffer bank gives 32 free cells. -/
def bistSliceGo (thr : Nat) (d : Dev) : Dev :=
  let t := d.get REL_BIST_TGT_TARGET
  let r := d.bistReason thr t
  if r ≠ 0 then (d.set REL_BIST_STAT_RESULT 3).set REL_BIST_STAT_REASON r
  else
    let saved := if t < 8 then (coreThreads t).map (fun n => (n, d.get (SYN_THn_STAT_STATE n))) else []
    let d := forAll saved (fun x d => if x.2 = 1 ∨ x.2 = 2 then d.stopThread x.1 else d) d
    let d := if 0x20 ≤ t then
        Dev.syncPools { d.decBy (SWC_BANKn_FREE_CELLS (t - 0x20)) 32 with sw := { d.sw with shared := d.sw.shared + 32 } }
      else d
    { (d.set REL_BIST_STAT_BUSY 1).set REL_BIST_STAT_REASON 0 with
      rel := { d.rel with slice := some ⟨t, d.get REL_BIST_TGT_SLICE, saved⟩ } }

def execBistSliceGo (thr : Fin 32) (s : State) : Host.Outcome State Fault Refusal := s.runOn 3 (bistSliceGo thr)

/-- A failing in-service target marked as R571 gives: a core, whose threads stay OFF (R318), or a packet buffer bank
becomes unusable. -/
def markTarget (t : Nat) (d : Dev) : Dev :=
  if t < 8 then
    forAll (coreThreads t) (fun n d => d.dropThread n)
      (d.set SYN_STAT_CORE_OK (d.get SYN_STAT_CORE_OK &&& (0xFF - 2 ^ t)))
  else if 0x20 ≤ t ∧ t < 0x28 then
    ((d.set SWC_STAT_BANK_OK (d.get SWC_STAT_BANK_OK &&& (0xFF - 2 ^ (t - 0x20)))).decBy SWC_CELLS_CELLS 16384).syncPools
  else d

/-- A failing target recorded: counted, raised, and written to Sillage (R569, R572). -/
def bistFail (t misr : Nat) (d : Dev) : Dev :=
  ((d.inc REL_BIST_FAILS_COUNT).raise REL_EVT_BIST_FAIL).silPost 0x1A 0x0002 (silArg 16 t + silArg 24 misr)

/-- A thread that a slice stopped goes on where it stopped; one that has not come to stop yet is asked no more (R572). -/
def Dev.restartThread (d : Dev) (t : Nat) : Dev :=
  if d.get (SYN_THn_STAT_STATE t) = 0 then d.set (SYN_THn_STAT_STATE t) 1 else d.modThr t (fun x => { x with stop := false })

/-- The slice ends (R572): what it saved is restored, its result and MISR are shown, and a failing target is marked. -/
def bistSliceDone (misr : Nat) (res : BistEnd) (d : Dev) : Dev :=
  match d.rel.slice with
  | none => d
  | some x =>
    let d := { d with rel := { d.rel with slice := none } }
    let d := forAll x.saved (fun y d => if y.2 = 1 ∨ y.2 = 2 then d.restartThread y.1 else d) d
    let d := if 0x20 ≤ x.target then
        Dev.syncPools { d.incBy (SWC_BANKn_FREE_CELLS (x.target - 0x20)) 32 with
          sw := { d.sw with shared := d.sw.shared - 32 } }
      else d
    let d := d.set REL_BIST_STAT_BUSY 0
    let d := d.set REL_BIST_STAT_RESULT (match res with | .pass => 0 | .fail => 1 | .aborted => 2)
    let d := if res = .aborted then d
      else (d.set REL_BIST_MISR_LO_MISR misr).set REL_BIST_MISR_HI_MISR (misr / 2 ^ 32)
    let d := if res = .fail then markTarget x.target (bistFail x.target (misr % 2 ^ 64) d) else d
    d.raise REL_EVT_BIST_DONE

def execBistSliceDone (misr : BitVec 64) (res : BistEnd) (s : State) : Host.Outcome State Fault Refusal :=
  s.runOn 3 (bistSliceDone misr.toNat res)

/-! ### The DRAM controller -/

/-- The uncorrectable words go from the memory that is lost. -/
def RelPart.unflaw (r : RelPart) (p : Nat → Bool) : RelPart := { r with flaws := r.flaws.filter (fun w => !p (8 * w)) }

/-- What DRAM holds is gone: it reads as nothing had written it. -/
def Dev.dramLost (d : Dev) : Dev :=
  { d with mem := d.mem.filter (fun c => Decidable.decide (c.1 < 0x8000000000))
           rel := d.rel.unflaw (fun a => 0x8000000000 ≤ a && a < 2 ^ 63) }

/-- `DDR_CTL.EN` set: the controller trains; it serves once training is done (R569, R574). -/
def ddrEnable (d : Dev) : Dev := d.set DDR_CTL_EN 1

def execDdrEnable (s : State) : Host.Outcome State Fault Refusal := s.runOn 2 ddrEnable

/-- Training done: the controller serves requests and is out of self-refresh (R569). -/
def ddrTrainingDone (d : Dev) : Dev :=
  if d.flag DDR_CTL_EN then (d.set DDR_STAT_READY 1).set DDR_STAT_SELFREF 0 else d

def execDdrTrainingDone (s : State) : Host.Outcome State Fault Refusal := s.runOn 2 ddrTrainingDone

/-- A request arrives: DRAM leaves self-refresh (R569). -/
def ddrSelfRefreshExit (d : Dev) : Dev := d.set DDR_STAT_SELFREF 0

def execDdrSelfRefreshExit (s : State) : Host.Outcome State Fault Refusal := s.runOn 2 ddrSelfRefreshExit

end Sys2Proof.Machine
end

