-- ==== Sys2Proof/Machine/Switch.lean ====
section
/-! DEFINITION. The switch core (spec 06): cells and banks (R182 to R184), pools and reserves (R189 to R191), admission (R193,
R194), the spill store and its refill (R196 to R201), cut-through (R202, R203), late errors (R204), the queue window (R211,
R212). -/

namespace Sys2Proof.Machine

/-! ### Access to the parts -/

def Dev.lnk (d : Dev) (p : Nat) : LinkSt := d.links.get p LinkSt.reset
def Dev.setLnk (d : Dev) (p : Nat) (l : LinkSt) : Dev := { d with links := d.links.set p l LinkSt.reset }
def Dev.modLnk (d : Dev) (p : Nat) (f : LinkSt → LinkSt) : Dev := d.setLnk p (f (d.lnk p))
def Dev.seq (d : Dev) (p : Nat) : SeqSt := d.seqs.get p SeqSt.reset
def Dev.setSeq (d : Dev) (p : Nat) (x : SeqSt) : Dev := { d with seqs := d.seqs.set p x SeqSt.reset }
def Dev.modSeq (d : Dev) (p : Nat) (f : SeqSt → SeqSt) : Dev := d.setSeq p (f (d.seq p))
def Dev.modSw (d : Dev) (f : SwitchPart → SwitchPart) : Dev := { d with sw := f d.sw }
def Dev.pkt (d : Dev) (i : Nat) : Option Pkt := d.sw.pkts.find i
def Dev.putPkt (d : Dev) (i : Nat) (k : Pkt) : Dev :=
  d.modSw (fun w => { w with pkts := Tab.insert i k (Tab.erase i w.pkts) })
def Dev.erasePkt (d : Dev) (i : Nat) : Dev := d.modSw (fun w => { w with pkts := Tab.erase i w.pkts })

/-- A packet changed, if it is there. -/
def Dev.modPkt (d : Dev) (i : Nat) (f : Pkt → Pkt) : Dev :=
  match d.pkt i with
  | some k => d.putPkt i (f k)
  | none => d

def Dev.queue (d : Dev) (q : Nat) : List Nat := d.sw.queues.get q []
def Dev.setQueue (d : Dev) (q : Nat) (l : List Nat) : Dev :=
  d.modSw (fun w => { w with queues := w.queues.set q l [] })

/-! ### Pools -/

/-- A credit of class `c` returned to the partner of port `p`: the cumulative count advances (R90, R190). -/
def Dev.returnCredit (d : Dev) (p c : Nat) : Dev :=
  d.modLnk p (fun l => { l with cum := l.cum.set c ((l.cum.get c 0 + 1) % 2 ^ 32) 0 })

/-- A cell of port `p`'s reserve charged, or no longer charged (R190). -/
def Dev.rsvUse (d : Dev) (p : Nat) (up : Bool) : Dev :=
  let x := d.sw.rsv.get p (0, 0)
  d.modSw (fun w => { w with rsv := w.rsv.set p (x.1, if up then x.2 + 1 else x.2 - 1) (0, 0) })

/-- The cells left in port `p`'s reserve of an earlier session become `n`: it shrinks as they leave (R190). -/
def Dev.setOld (d : Dev) (p n : Nat) : Dev := d.modSw (fun w => { w with rsvOld := w.rsvOld.set p n 0 })

/-- A pool charged with one cell. -/
def Dev.charge (d : Dev) : Pool → Dev
  | .src => d
  | .rsv p true => d.rsvUse p true
  | .rsv p false => d.setOld p (d.sw.rsvOld.get p 0 + 1)
  | .hold => d.incBy SWC_HOLD_USED_CELLS 1
  | .stage => d.modSw (fun w => { w with stage := w.stage + 1 })
  | .shared => d.modSw (fun w => { w with shared := w.shared + 1 })
  | .spill => d.incBy SWC_SPILL_USED_CELLS 1

/-- A pool no longer charged with a cell of a packet: leaving the reserve of a port that is up returns the credit of its class, if
the cell came under credit (R190). -/
def Dev.discharge (d : Dev) (lead : Bool) (cls : Nat) : Pool → Dev
  | .src => d
  | .rsv p true => let d := d.rsvUse p false; if lead then d.returnCredit p cls else d
  | .rsv p false => d.setOld p (d.sw.rsvOld.get p 0 - 1)
  | .hold => d.decBy SWC_HOLD_USED_CELLS 1
  | .stage => d.modSw (fun w => { w with stage := w.stage - 1 })
  | .shared => d.modSw (fun w => { w with shared := w.shared - 1 })
  | .spill => d.decBy SWC_SPILL_USED_CELLS 1

/-! ### Cells -/

/-- The first number from `i` on that a sorted table of used numbers does not list. -/
def firstFree (i : Nat) : Tab Bool → Nat
  | [] => i
  | (k, _) :: t => if k < i then firstFree i t else if k = i then firstFree (i + 1) t else i

/-- The present instant in ps, by the TIME clock. -/
def Dev.ps (d : Dev) : Nat := d.time.cyc * 2000

/-- The instant from which a bank's write port is free (R182). -/
def Dev.portFree (d : Dev) (b : Nat) : Nat := max d.ps (d.sw.wrBusy.get b 0)

/-- The bank an ingress writes next: from the one after its last, the first usable bank with a free cell whose write port is free;
where every port is taken, the first of those that fall free earliest (R184). After reset an ingress starts at B0 (DESIGN CHOICE,
log 34: the spec names no first bank). -/
def Dev.nextBank (d : Dev) (ing : Nat) : Option Nat :=
  (((List.range 8).map (fun k => (d.sw.lastBank.get ing 7 + 1 + k) % 8)).filter
    (fun b => (d.get SWC_STAT_BANK_OK).testBit b && 0 < d.get (SWC_BANKn_FREE_CELLS b))).foldl
      (fun best b => match best with
        | some a => if d.portFree b < d.portFree a then some b else some a
        | none => some b) none

/-- The rotation that the refill engine has of its own beside the 23 ingresses (R198). -/
def refillTurn : Nat := 23

/-- A cell taken for data: its bank in rotation, whose write port it takes for 4 CORE cycles (R182), the lowest free index of the
bank (DESIGN CHOICE, log 34: the spec names no index); none where no bank has a free cell. The cell's content is replaced whole: in
the debug window the bytes past the valid ones read 0 (DESIGN CHOICE, log 34: the spec does not say what they read). -/
def Dev.alloc (d : Dev) (ing : Nat) (data : List Byte) (pool : Pool) : Option (Cell × Dev) :=
  match d.nextBank ing with
  | none => none
  | some b =>
    let n := firstFree (16384 * b) d.sw.inUse
    let d := d.decBy (SWC_BANKn_FREE_CELLS b) 1
    let d := d.modSw (fun w => { w with lastBank := w.lastBank.set ing b 7, inUse := w.inUse.set n true false
                                        content := w.content.set n data [], wrBusy := w.wrBusy.set b (d.portFree b + 3636) 0 })
    let d := (d.mendIn 1 b (n % 16384 * 32) 32).mendIn 2 b (n % 16384) 1
    some (⟨n, pool, data, false⟩, d.charge pool)

/-- A cell read on its way out, `ecc` what the checker finds: an uncorrectable error, or one found before, is counted and leaves the cell
bad (R164, R166, R204, R564). -/
def Dev.readCell (c : Cell) (ecc : Ecc) (d : Dev) : Cell × Dev :=
  let b := c.num / 16384
  let w := c.num % 16384 * 32
  let e := if (d.flawOf 1 b w 32).isSome then .ue else ecc
  let d := d.memRead 1 b ((d.flawOf 1 b w 32).getD w) e
  if e = .ue then ({ c with bad := true }, (d.inc SWC_BUF_ECC_COUNT).raise SWC_EVT_BUF_ECC) else (c, d)

/-- A chip cell freed; its contents stay readable in the debug window (R184). -/
def Dev.freeChip (d : Dev) (n : Nat) : Dev :=
  (d.incBy (SWC_BANKn_FREE_CELLS (n / 16384)) 1).modSw (fun w => { w with inUse := w.inUse.set n false false })

/-- A cell of a packet leaves the buffer or the spill store (R190). -/
def Dev.freeCell (d : Dev) (lead : Bool) (cls : Nat) (c : Cell) : Dev :=
  let d := d.discharge lead cls c.pool
  match c.pool with
  | .src => d
  | .spill => d.modSw (fun w => { w with spillUse := w.spillUse.set c.num false false })
  | _ => d.freeChip c.num

/-- The cells of a queue's on-chip part advanced or lowered, with its peak (R212). -/
def Dev.occAdd (d : Dev) (q n : Nat) : Dev :=
  let d := d.incBy (SWQ_W2_OCC q) n
  d.set (SWQ_W7_PEAK q) (max (d.get (SWQ_W7_PEAK q)) (d.get (SWQ_W2_OCC q)))

/-- The size of the spill store in cells: at most 8 GiB (R41, R196). -/
def Dev.spillSize (d : Dev) : Nat := min 8192 (d.get SWC_SPILL_SIZE_MIB) * 4096

/-- Whether the spill store and the queue have room (R201). -/
def Dev.spillRoom (d : Dev) (q : Nat) : Bool :=
  d.get SWC_SPILL_USED_CELLS < d.spillSize
    && (d.get (SWQ_W1_SPILL_CAP q) == 0 || d.get (SWQ_W3_SPILLED q) < d.get (SWQ_W1_SPILL_CAP q) * 4096)

/-- Whether a queue may spill (R194, R201). -/
def Dev.maySpill (d : Dev) (q : Nat) : Bool := d.flag (SWQ_W0_SPILL_EN q) && d.flag SWC_CTL_SPILL_EN

/-- The spill rate in Gbit/s: at most 200 (R199, R209). -/
def Dev.spillRate (d : Dev) : Nat := min 200 (d.get SWC_SPILL_RATE_GBPS)

/-- Whether the spill write rate is used up: the cells moved so far take it up to a later instant (R199, R200). -/
def Dev.spillBusy (d : Dev) : Bool := d.spillRate == 0 || d.ps < d.sw.spillAt

/-- The spill rate used by one cell of 256 bytes moved to or from the store (R199). -/
def Dev.spillMove (d : Dev) : Dev :=
  let r := max 1 d.spillRate
  d.modSw (fun w => { w with spillAt := max w.spillAt d.ps + (2048000 + r - 1) / r })

/-- SPILL_FULL is raised when the store is full (R201). -/
def Dev.spillFullCheck (d : Dev) : Dev :=
  if d.spillSize ≤ d.get SWC_SPILL_USED_CELLS then d.raise SWC_EVT_SPILL_FULL else d

/-- A cell written to the spill store: to the lowest free cell of the store (R196, R198). -/
def Dev.spillCell (d : Dev) (q : Nat) (data : List Byte) : Cell × Dev :=
  let n := firstFree 0 d.sw.spillUse
  let d := d.engWrite (baseAddr (d.get SWC_SPILL_BASE_BASE) false + 256 * n) data
  let d := ((d.modSw (fun w => { w with spillUse := w.spillUse.set n true false })).charge .spill).spillMove
  (⟨n, .spill, data, false⟩, ((d.inc SWC_SPILL_IN_COUNT).incBy (SWQ_W3_SPILLED q) 1).spillFullCheck)

/-- A packet's cells moved one after another by a function that threads the device. -/
def mapCells (f : Cell → Dev → Cell × Dev) : List Cell → Dev → List Cell × Dev
  | [], d => ([], d)
  | c :: t, d =>
    let (c', d) := f c d
    let (t', d) := mapCells f t d
    (c' :: t', d)

/-- A cell of a packet re-charged to SHARED, or taken for it where it waited at a local source (R194, R195). -/
def Dev.toShared (d : Dev) (ing : Nat) (lead : Bool) (cls : Nat) (c : Cell) : Cell × Dev :=
  match c.pool with
  | .src =>
    match d.alloc ing c.data .shared with
    | some (c', d) => (c', d)
    | none => (c, d)
  | .rsv _ _ => ({ c with pool := .shared }, (d.discharge lead cls c.pool).charge .shared)
  | _ => (c, d)

/-- A cell of a packet moved to the spill store (R198). -/
def Dev.toSpill (d : Dev) (q : Nat) (lead : Bool) (cls : Nat) (c : Cell) : Cell × Dev :=
  let d := d.freeCell lead cls c
  d.spillCell q c.data

/-! ### Rates and cut-through -/

/-- The current mode code of a Tirrun port (R46, R72, R434). -/
def Dev.cmode (d : Dev) (p : Nat) : Nat := if p < 2 then d.get (TRK_STAT_CMODE p) else d.get (TCL_STAT_CMODE (p - 2))

/-- The lane count of a mode code; 0 for the reserved LANES value 3 (R46). -/
def modeLanes (m : Nat) : Nat := if m % 4 = 0 then 1 else if m % 4 = 1 then 2 else if m % 4 = 2 then 4 else 0

/-- The payload rate of a mode code in Mbit/s (R45). -/
def modeRate (m : Nat) : Nat :=
  modeLanes m * (if m / 4 = 0 then 8250 else if m / 4 = 1 then 25000 else if m / 4 = 2 then 50000 else 100000)

/-- The rate of an ingress in Mbit/s (R30, R32, R203). -/
def Dev.ingRate (d : Dev) (ing : Nat) : Nat :=
  if ing < 10 then modeRate (d.cmode ing) else if ing < 20 then 10000 else if ing = 20 then 100000
  else if ing = 21 then 63000 else 10000

/-- The Tirrun port of a queue, if its egress is one (R188). -/
def queuePort (q : Nat) : Option Nat :=
  if q < 256 then some 0 else if q < 512 then some 1 else if q < 768 then some (2 + (q - 512) / 32) else none

/-- The queue of a Tirrun port for a service queue (R246). -/
def portQueue (p sq : Nat) : Nat := if p < 2 then 256 * p + sq % 256 else 512 + 32 * (p - 2) + sq % 256 / 8

/-- Whether CT_EN and the running rates permit cut-through from an ingress to a queue: judged at a packet's first cell (R202,
R203). -/
def Dev.cutFast (d : Dev) (ing q : Nat) : Bool :=
  match queuePort q with
  | some p => d.flag SWC_CTL_CT_EN && modeRate (d.cmode p) ≤ d.ingRate ing
  | none => false

/-- The cut-through conditions of R202 beside admission. -/
def Dev.cutOk (d : Dev) (k : Pkt) : Bool := k.fast && (queuePort k.queue).isSome && d.queue k.queue == []

/-- Whether a cell lies in the packet buffer. -/
def Cell.stored (c : Cell) : Bool :=
  match c.pool with
  | .src => false
  | .spill => false
  | _ => true

/-- Whether a cell waits for its place: in the reserve where it came under credit, or at its source (R194, R195, R198). -/
def Cell.waits (c : Cell) : Bool :=
  match c.pool with
  | .src => true
  | .rsv _ _ => true
  | _ => false

/-- The cells of a packet that count in its queue's on-chip part: those of an on-chip packet that are stored, the staged ones of a
spilled packet (R193). -/
def Pkt.occ (k : Pkt) : Nat :=
  match k.place with
  | .held => 0
  | .chip => (k.cells.filter Cell.stored).length
  | .spill => (k.cells.filter (fun c => c.pool == .stage)).length

/-- The cells of a packet in the spill store. -/
def Pkt.spilled (k : Pkt) : Nat := (k.cells.filter (fun c => c.pool == .spill)).length

/-- The queue's staged cells. -/
def Dev.stagedOf (d : Dev) (q : Nat) : Nat :=
  ((d.queue q).map (fun i => match d.pkt i with
    | some k => (k.cells.filter (fun c => c.pool == .stage)).length
    | none => 0)).foldl (· + ·) 0

/-! ### Admission -/

/-- The threshold T_q (R193). -/
def Dev.threshold (d : Dev) (q : Nat) : Nat :=
  let f := d.freeShared - d.get SWC_HEADROOM_CELLS
  let k := d.get (SWQ_W0_K q)
  if k < 8 then f * 2 ^ k else f / 2 ^ (16 - k)

/-- A packet taken off its queue and off the waiting lists. -/
def Dev.takeOff (d : Dev) (i : Nat) (k : Pkt) : Dev :=
  let d := (d.decBy (SWQ_W2_OCC k.queue) k.occ).decBy (SWQ_W3_SPILLED k.queue) k.spilled
  let d := (d.setQueue k.queue ((d.queue k.queue).filter (· != i))).erasePkt i
  (d.modSw (fun w => { w with held := w.held.set k.ing ((w.held.get k.ing []).filter (· != i)) [] })).syncPools

/-- A packet released: its cells freed, taken off its queue and off the waiting lists. -/
def Dev.releasePkt (d : Dev) (i : Nat) : Dev :=
  match d.pkt i with
  | none => d
  | some k => (forAll k.cells (fun c d => d.freeCell k.lead k.credit c) d).takeOff i k

/-- A host frame that the switch core drops: its HTX_DONE falls due, with a free status, since R386 names none for this (R385; log
112). -/
def Dev.hostDropped (d : Dev) (i : Nat) : Dev :=
  match d.eth.host.get i none with
  | some x =>
    let (k, d) := d.fresh
    { d with eth := { d.eth with host := d.eth.host.set i none none
                                 due := d.eth.due ++ [(x.port, x.tag, Sys2Proof.Config.randomNat k % 16)] } }
  | none => d

/-- A packet dropped by the switch core. -/
def Dev.dropPkt (d : Dev) (i : Nat) : Dev := (d.hostDropped i).releasePkt i

/-- A packet dropped at admission and counted (R194). -/
def Dev.dropAdmission (d : Dev) (i : Nat) : Dev :=
  match d.pkt i with
  | none => d
  | some k =>
    (((d.inc SWC_DROP_PKTS_COUNT).incBy SWC_DROP_CELLS_COUNT k.cells.length).inc (SWQ_W5_DROP_PKTS k.queue)).dropPkt i

/-- A packet kept waiting at its ingress under order 5, in its place there; an Ethernet packet is dropped (R194). -/
def Dev.holdPkt (d : Dev) (i : Nat) (k : Pkt) : Dev :=
  if 10 ≤ k.ing && k.ing < 20 then d.dropAdmission i
  else
    let l := d.sw.held.get k.ing []
    if l.contains i then d else d.modSw (fun w => { w with held := w.held.set k.ing (l ++ [i]) [] })

/-- A packet admitted: taken off the waiting list, put on its queue, counted (R212). -/
def Dev.enqueue (d : Dev) (i : Nat) (k : Pkt) : Dev :=
  let d := d.modSw (fun w => { w with held := w.held.set k.ing ((w.held.get k.ing []).filter (· != i)) [] })
  (((d.setQueue k.queue (d.queue k.queue ++ [i])).inc SWC_ADMIT_PKTS_COUNT).inc (SWQ_W4_ADMIT_PKTS k.queue)).putPkt i
    { k with admitAt := d.now }

/-- Whether SHARED has a cell for a later cell of a packet: pending claims come first (R190, R195, R205). -/
def Dev.sharedOpen (d : Dev) : Bool := d.sw.claims == [] && 0 < d.freeShared

/-- The cells of a packet that wait for SHARED take the free ones, in order, as long as there are any (R194, R195). -/
def Dev.takeShared (d : Dev) (k : Pkt) : List Cell × Dev :=
  mapCells (fun c d => if d.sharedOpen then d.toShared k.ing k.lead k.credit c else (c, d)) k.cells d

/-- Whether the refill engine has a cell to read: reads take precedence over writes (R198, R199). -/
def Dev.refillDue (d : Dev) : Bool :=
  d.spillRate != 0 && d.sw.stage < d.get SWC_STAGE_POOL
    && d.sw.refill.any (fun x => x.2 && 0 < d.get (SWQ_W3_SPILLED x.1) && d.stagedOf x.1 < d.get SWC_STAGE_Q_PERQ)

/-- Whether a cell may be written to the spill store for a queue now: it has room, the rate is not used up, and no refill read is due
(R199 to R201). -/
def Dev.spillOpen (d : Dev) (q : Nat) : Bool := d.spillRoom q && !d.spillBusy && !d.refillDue

/-- The cells of a packet that wait for the spill store written to it, in order, while it has room and rate is left (R198 to
R201). -/
def Dev.spillCells (q : Nat) (lead : Bool) (cls : Nat) : List Cell → Dev → List Cell × Dev
  | [], d => ([], d)
  | c :: t, d =>
    if c.pool = .spill ∨ c.pool = .stage then
      let (t', d) := d.spillCells q lead cls t
      (c :: t', d)
    else if d.spillOpen q then
      let (c', d) := d.toSpill q lead cls c
      let (t', d) := d.spillCells q lead cls t
      (c' :: t', d)
    else (c :: t, d.spillFullCheck)

/-- The packet taken on-chip: its cells take SHARED cells while there are free ones (R194, R195). A local packet whose later cells
find none has been admitted and is discarded whole (R204, R210), unless it is cut through: then its later cells arrive as its blocks leave (DESIGN CHOICE, log
34: a local packet enters in one command). -/
def Dev.admitChip (d : Dev) (i : Nat) (k : Pkt) : Dev :=
  let cut := d.cutOk k
  if 10 ≤ k.ing && !cut && d.freeShared < (k.cells.filter (fun c => c.pool == .src)).length then
    (((d.inc SWC_TRUNC_COUNT).inc SWC_ADMIT_PKTS_COUNT).inc (SWQ_W4_ADMIT_PKTS k.queue)).dropPkt i
  else
    let (cells, d) := d.takeShared k
    let k := { k with cells := cells, place := .chip, cut := cut }
    ((d.occAdd k.queue k.occ).enqueue i k).syncPools

/-- The packet taken to the spill store (R198): cells that the store cannot take at once wait. -/
def Dev.admitSpill (d : Dev) (i : Nat) (k : Pkt) : Dev :=
  let (cells, d) := d.spillCells k.queue k.lead k.credit k.cells
  ((d.inc (SWQ_W6_SPILL_PKTS k.queue)).enqueue i { k with cells := cells, place := .spill }).syncPools

/-- A packet for the spill store: it waits while the store has no room or the spill write rate is used up (R200, R201). -/
def Dev.admitToStore (d : Dev) (i : Nat) (k : Pkt) : Dev :=
  if d.spillOpen k.queue then d.admitSpill i k else d.spillFullCheck.holdPkt i k

/-- The admission of a packet at its first cell, or again in a later cycle (R194). -/
def Dev.admission (d : Dev) (i : Nat) : Dev :=
  match d.pkt i with
  | none => d
  | some k =>
    if k.place ≠ .held then d
    else if d.sw.claims != [] || !d.flag SWC_CTL_EN then d.holdPkt i k
    else if 0 < d.get (SWQ_W3_SPILLED k.queue) then d.admitToStore i k
    else if d.get (SWQ_W2_OCC k.queue) < d.threshold k.queue then d.admitChip i k
    else if d.maySpill k.queue then d.admitToStore i k
    else d.holdPkt i k

/-- A local packet for whose later cell SHARED has no room: the rest is discarded behind a closing block where it is on its way,
else the whole (R195, R204). -/
def Dev.cutShort (d : Dev) (i : Nat) (k : Pkt) : Dev :=
  let d := d.inc SWC_TRUNC_COUNT
  if k.started then
    (d.raise SWC_EVT_TRUNC).putPkt i { k with cells := k.cells.filter Cell.stored, closing := true, whole := true }
  else d.dropPkt i

/-- A cell that waits outside SHARED: in the reserve where it came under credit, at its source where it is a copy (R194, R195). -/
def Dev.waitCell (d : Dev) (k : Pkt) (data : List Byte) : Cell × Dev :=
  if k.lead then
    match d.alloc k.ing data (.rsv k.ing true) with
    | some x => x
    | none => (⟨0, .src, data, false⟩, d.returnCredit k.ing k.credit)
  else (⟨0, .src, data, false⟩, d)

/-- A later cell of a packet stored where its first cell went, behind those of its cells that wait (R194, R195, R197 to R199). -/
def Dev.addCell (d : Dev) (i : Nat) (data : List Byte) : Dev :=
  match d.pkt i with
  | none => d
  | some k =>
    let ahead := k.cells.any Cell.waits
    let credit := fun (d : Dev) => if k.ing < 10 && k.lead then d.returnCredit k.ing k.credit else d
    let wait := fun (d : Dev) =>
      let (c, d) := d.waitCell k data
      let k' := { k with cells := k.cells ++ [c] }
      ((d.occAdd k.queue (k'.occ - k.occ)).putPkt i k').syncPools
    match k.place with
    | .spill =>
      if !ahead && d.spillOpen k.queue then
        let (c, d) := d.spillCell k.queue data
        ((credit d).putPkt i { k with cells := k.cells ++ [c] }).syncPools
      else wait d.spillFullCheck
    | .held => wait d
    | .chip =>
      match (if !ahead && d.sharedOpen then d.alloc k.ing data .shared else none) with
      | some (c, d) => (((credit d).occAdd k.queue 1).putPkt i { k with cells := k.cells ++ [c] }).syncPools
      | none => if k.ing < 10 then wait d else d.cutShort i k

/-- Whether a cell of an admitted packet waits for its place (R195, R198). -/
def Pkt.waiting (k : Pkt) : Bool := decide (k.place ≠ .held) && k.cells.any Cell.waits

/-- The cells of an admitted packet that wait take the free cells of SHARED, or of the spill store where the packet went there
(R195, R198). -/
def Dev.chargePkt (i : Nat) (d : Dev) : Dev :=
  match d.pkt i with
  | none => d
  | some k =>
    let (cells, d) := if k.place = .spill then d.spillCells k.queue k.lead k.credit k.cells else d.takeShared k
    let k' := { k with cells := cells }
    ((d.occAdd k.queue (k'.occ - k.occ)).putPkt i k').syncPools

/-- The cells of an ingress's admitted packets that wait take the free ones, packet by packet (R195, R198). -/
def Dev.chargeWaiting (d : Dev) (ing : Nat) : Dev :=
  forAll ((d.sw.pkts.filter (fun x => x.2.ing == ing && x.2.waiting)).map (·.1)) Dev.chargePkt d

/-- A new packet decided for the first time: behind a packet of the same queue that its ingress still holds (R194, R197). -/
def Dev.admitNew (d : Dev) (i : Nat) : Dev :=
  match d.pkt i with
  | none => d
  | some k =>
    if (d.sw.held.get k.ing []).any (fun j => match d.pkt j with
      | some x => x.queue == k.queue
      | none => false) then d.holdPkt i k
    else d.admission i

/-- A fresh packet number. -/
def Dev.newPkt (d : Dev) (k : Pkt) : Nat × Dev :=
  let i := d.sw.nextPkt
  (i, (d.modSw (fun w => { w with nextPkt := i + 1 })).putPkt i k)

/-! ### Reserve claims -/

/-- The reserve a port claims: the sum of its initial credits, as they stood at entry to INIT (R112, R189). -/
def Dev.claimSize (d : Dev) (p : Nat) : Nat :=
  ((List.range 8).map (fun c => (d.lnk p).init.get c 0)).foldl (· + ·) 0

/-- A pending claim met: the reserve leaves SHARED, and the port owes its first CREDIT block with its initial credits
(R90, R91, R190). -/
def Dev.meetClaim (d : Dev) (p : Nat) : Dev :=
  let n := d.claimSize p
  let d := d.modSw (fun w => { w with claims := w.claims.filter (· != p)
                                      rsv := w.rsv.set p (n, (w.rsv.get p (0, 0)).2) (0, 0) })
  let d := d.modLnk p (fun l => { l with claim := false, creditDue := true
                                         cum := (List.range 8).foldl (fun t c => t.set c
                                           ((l.cum.get c 0 + l.init.get c 0) % 2 ^ 32) 0) l.cum })
  d.syncPools

/-- Whether the free SHARED cells satisfy a port's claim (R190). -/
def Dev.claimFits (d : Dev) (p : Nat) : Bool := d.flag SWC_CTL_EN && d.claimSize p ≤ d.freeShared

/-- A claim made as a port's link layer enters INIT: refused if it would leave SHARED too small beside the claims that are pending,
else met as soon as the free cells satisfy those before it and it (R190, R191). -/
def Dev.makeClaim (d : Dev) (p : Nat) : Dev :=
  let ahead := d.sw.claims.filter (· != p)
  if d.sharedSize < (ahead.map d.claimSize).foldl (· + ·) 0 + d.claimSize p + d.get SWC_SHARED_MIN_CELLS then
    d.raise SWC_EVT_RSV_REFUSED
  else
    let d := d.modSw (fun w => { w with claims := ahead ++ [p] })
    let d := d.modLnk p (fun l => { l with claim := true })
    if ahead = [] ∧ d.claimFits p then d.meetClaim p else d.syncPools

/-- A reserve cell of a port whose session is over. -/
def Cell.retire (p : Nat) (c : Cell) : Cell := if c.pool = .rsv p true then { c with pool := .rsv p false } else c

/-- A port's reserve given up: it shrinks to the cells still charged to it, which return no credit, and is not refilled (R190). -/
def Dev.dropClaim (d : Dev) (p : Nat) : Dev :=
  (d.modSw (fun w =>
    { w with claims := w.claims.filter (· != p)
             rsv := w.rsv.set p (0, 0) (0, 0)
             rsvOld := w.rsvOld.set p (w.rsvOld.get p 0 + (w.rsv.get p (0, 0)).2) 0
             pkts := w.pkts.map (fun x => (x.1, { x.2 with cells := x.2.cells.map (Cell.retire p) })) })).syncPools

/-- Free cells satisfy the pending claim that is first, and the port sends its first CREDIT block (R190). -/
def reserveClaimMet (p : Nat) (d : Dev) : Dev :=
  if d.sw.claims.head? = some p ∧ d.claimFits p then d.meetClaim p else d

def execReserveClaimMet (p : Fin 10) (s : State) : Host.Outcome State Fault Refusal := s.runOn 3 (reserveClaimMet p)

/-! ### Refill -/

/-- The spilled cells of the queue's packets, oldest first: the packet and the position of the cell in it. -/
def Dev.nextSpilled (d : Dev) (q : Nat) : Option (Nat × Pkt) :=
  ((d.queue q).filterMap (fun i => (d.pkt i).bind (fun k =>
    if k.cells.any (fun c => c.pool == .spill) then some (i, k) else none))).head?

/-- The on-chip part falls below LOW while the spill part is not empty: the refill engine starts reading (R198). -/
def refillStart (q : Nat) (d : Dev) : Dev :=
  if d.get (SWQ_W2_OCC q) < d.get SWC_STAGE_Q_LOW && 0 < d.get (SWQ_W3_SPILLED q) then
    d.modSw (fun w => { w with refill := w.refill.set q true false })
  else d

def execRefillStart (q : Fin 1216) (s : State) : Host.Outcome State Fault Refusal := s.runOn 3 (refillStart q)

/-- The first spilled cell of a list replaced. -/
def stageFirst (f : Cell → Cell) : List Cell → List Cell
  | [] => []
  | c :: t => if c.pool = .spill then f c :: t else c :: stageFirst f t

/-- The age of a queue's oldest spilled cell: the admission of its packet, and the packet's number (R198). -/
def Dev.spillAge (d : Dev) (q : Nat) : Option (Nat × Nat) := (d.nextSpilled q).map (fun x => (x.2.admitAt, x.1))

/-- Whether a queue's refill may take a cell of STAGE: one is free, and no queue that waits for STAGE has an older spilled cell
(R198). -/
def Dev.stageTurn (d : Dev) (q : Nat) : Bool :=
  d.sw.stage < d.get SWC_STAGE_POOL && d.sw.stageWait.all (fun r => match d.spillAge r, d.spillAge q with
    | some a, some b => !(d.sw.refill.get r false) || decide (b.1 < a.1 ∨ (b.1 = a.1 ∧ b.2 ≤ a.2))
    | _, _ => true)

/-- A spilled cell read returns from DRAM and is staged as long as the queue has fewer than PERQ staged cells; it waits where STAGE is
full (R198). An uncorrectable error marks the packet (R204). -/
def Dev.stageCell (d : Dev) (q : Nat) (ecc : Ecc) : Dev :=
  if d.get SWC_STAGE_Q_PERQ ≤ d.stagedOf q || d.spillRate == 0 then d
  else if !d.stageTurn q then d.modSw (fun w => { w with stageWait := w.stageWait.filter (· != q) ++ [q] })
  else match d.nextSpilled q with
  | none => d
  | some (i, k) =>
    match k.cells.find? (fun c => c.pool == .spill) with
    | none => d
    | some c =>
      let a := baseAddr (d.get SWC_SPILL_BASE_BASE) false + 256 * c.num
      let (data, d) := d.engRead a c.data.length
      match d.alloc refillTurn data .stage with
      | none => d
      | some (c', d) =>
        let d := d.freeCell false k.credit c
        let d := (((d.decBy (SWQ_W3_SPILLED q) 1).occAdd q 1).inc SWC_SPILL_OUT_COUNT).spillMove
        let ecc := if (d.flawOf 11 0 ((a - 0x8000000000) / 8) 32).isSome then .ue else ecc
        let d := d.memRead 11 0 ((a - 0x8000000000) / 8) ecc
        let d := if ecc = .ue then (d.inc SWC_SPILL_ECC_COUNT).raise SWC_EVT_SPILL_ECC else d
        let k := { k with cells := stageFirst (fun _ => { c' with bad := ecc == .ue }) k.cells }
        let k := if k.cells.all (fun c => c.pool == .stage) && k.whole then { k with place := .chip } else k
        ((d.modSw (fun w => { w with stageWait := w.stageWait.filter (· != q) })).putPkt i k).syncPools

/-! ### The queue window -/

/-- The words of a queue as the window reads them (R212). -/
def Dev.swqWord (d : Dev) (q k : Nat) : Nat :=
  match k with
  | 0 => d.get (SWQ_W0_K q) + 16 * d.get (SWQ_W0_SPILL_EN q)
  | 1 => d.get (SWQ_W1_SPILL_CAP q)
  | 2 => d.get (SWQ_W2_OCC q)
  | 3 => d.get (SWQ_W3_SPILLED q)
  | 4 => d.get (SWQ_W4_ADMIT_PKTS q)
  | 5 => d.get (SWQ_W5_DROP_PKTS q)
  | 6 => d.get (SWQ_W6_SPILL_PKTS q)
  | _ => d.get (SWQ_W7_PEAK q)

/-- The result of a queue window command: 0 OK, 2 CONFIG (R211). -/
def Dev.qDone (d : Dev) (err : Nat) : Dev := (d.set SWC_Q_RES_DONE 1).set SWC_Q_RES_ERR err

/-- Command READ of the queue window (R211). -/
def swcQReadOp (d : Dev) : Dev :=
  let q := d.get SWC_Q_IDX_Q
  if 1216 ≤ q then d.qDone 2
  else (forAll (List.range 8) (fun k e => e.set (SWC_Q_DATAk_WORD k) (d.swqWord q k)) d).qDone 0

def swcQRead (d : Dev) : Dev := d.winRun SWC_Q_RES_DONE (swcQReadOp)

def execSwcQRead (s : State) : Host.Outcome State Fault Refusal := s.runOn 3 swcQRead

/-- Command WRITE of the queue window: W0 and W1, refused for a K outside -4 to +3 (R211). -/
def swcQWriteOp (d : Dev) : Dev :=
  let q := d.get SWC_Q_IDX_Q
  let w0 := d.get (SWC_Q_DATAk_WORD 0)
  let k := w0 % 16
  if 1216 ≤ q || (4 ≤ k && k < 12) then d.qDone 2
  else (((d.set (SWQ_W0_K q) k).set (SWQ_W0_SPILL_EN q) (w0 / 16)).set (SWQ_W1_SPILL_CAP q)
    (d.get (SWC_Q_DATAk_WORD 1))).qDone 0

def swcQWrite (d : Dev) : Dev := d.winRun SWC_Q_RES_DONE (swcQWriteOp)

def execSwcQWrite (s : State) : Host.Outcome State Fault Refusal := s.runOn 3 swcQWrite

/-- Command CLRCNT of the queue window: W4 to W7 cleared; PEAK then follows the present OCC (R211, R212). -/
def swcQClrcntOp (d : Dev) : Dev :=
  let q := d.get SWC_Q_IDX_Q
  if 1216 ≤ q then d.qDone 2
  else (((((d.set (SWQ_W4_ADMIT_PKTS q) 0).set (SWQ_W5_DROP_PKTS q) 0).set (SWQ_W6_SPILL_PKTS q) 0).set (SWQ_W7_PEAK q)
    0).qDone 0)

def swcQClrcnt (d : Dev) : Dev := d.winRun SWC_Q_RES_DONE (swcQClrcntOp)

def execSwcQClrcnt (s : State) : Host.Outcome State Fault Refusal := s.runOn 3 swcQClrcnt

end Sys2Proof.Machine
end

