-- ==== Sys2Proof/Machine/Notes.lean ====
section
/-! DEFINITION. The schedulers (spec 08): frame bytes and on-wire time (R247, R248), shapers (R254), gate schedules and windows (R255
to R261), eligibility (R250), the notes (R251 to R253), telemetry (R265, R266). Egresses are numbered 0 TE, 1 TW, 2 to 9 C0 to C7,
10 to 19 E0 to E9, 20 SYN, 21 STO, 22 DSO, 23 USB. -/

namespace Sys2Proof.Machine

/-! ### Queues, bytes and times -/

/-- The egress of a global queue (R188). -/
def queueEgress (q : Nat) : Nat :=
  if q < 256 then 0 else if q < 512 then 1 else if q < 768 then 2 + (q - 512) / 32
  else if q < 1088 then 10 + (q - 768) / 32 else 20 + (q - 1088) / 32

/-- The queues of an egress that hold a packet, in rising number. -/
def Dev.busyQueues (d : Dev) (e : Nat) : List Nat :=
  (d.sw.queues.filter (fun x => queueEgress x.1 == e)).map Prod.fst

/-- The map entry that an Ethernet port uses for frames of a context: the valid one of lowest index (R381). -/
def Dev.egressMap (d : Dev) (n c : Nat) : Option Nat :=
  (List.range 64).find? (fun j => d.flag (ETH_MAPk_VALID n j) && d.get (ETH_MAPk_CTX n j) == c && d.get (ETH_MAPk_TAG n j) != 3)

/-- The bytes that an Ethernet port's egress adds to a delivered frame: a tag where its map entry pushes one (R381). -/
def Dev.pushed (d : Dev) (n : Nat) (term : Option Nat) : Nat :=
  match term.bind (d.egressMap n) with
  | some j => if d.get (ETH_MAPk_TAG n j) = 2 then 4 else 0
  | none => 0

/-- The frame bytes B of a packet: of the frame itself, padded and with its check sequence, where it leaves an Ethernet port
(R247, R381). -/
def Dev.frameB (d : Dev) (k : Pkt) : Nat :=
  let e := queueEgress k.queue
  if 10 ≤ e && e < 20 then max 60 (k.hdr.len + d.pushed (e - 10) k.term) + 4 else k.hdr.frameBytes

/-- The number of blocks of a packet (R248). -/
def Pkt.blocks (k : Pkt) : Nat := (k.hdr.frameBytes + 255) / 256

/-- The block time of a mode code in hundredths of a ns (R89). -/
def blockTime (m : Nat) : Nat :=
  if modeRate m = 400000 then 544 else if modeRate m = 200000 then 1088 else if modeRate m = 100000 then 2176
  else if modeRate m = 50000 then 4352 else if modeRate m = 25000 then 8704
  else if modeLanes m = 1 then 26473 else if modeLanes m = 2 then 13285 else 6691

/-- The guard blocks of a trunk port (R248). -/
def Dev.guard (d : Dev) (p : Nat) : Nat :=
  if p = 0 then d.get SCH_GUARD_TE else if p = 1 then d.get SCH_GUARD_TW else 0

/-- The on-wire time W of a packet on a Tirrun egress, in hundredths of a ns (R248). -/
def Dev.wireTime (d : Dev) (p : Nat) (k : Pkt) : Nat := (k.blocks + d.guard p) * blockTime (d.cmode p)

/-- The tier of a queue: 0 TOP, 1 HEART, 2 BASE; 3 acts as TOP (R249). -/
def Dev.tier (d : Dev) (q : Nat) : Nat := if d.get (QCFG_W0_TIER q) = 3 then 0 else d.get (QCFG_W0_TIER q)

def Dev.qs (d : Dev) (q : Nat) : QSched := d.sch.qs.get q QSched.reset
def Dev.modSch (d : Dev) (f : SchedPart → SchedPart) : Dev := { d with sch := f d.sch }
def Dev.setQs (d : Dev) (q : Nat) (x : QSched) : Dev := d.modSch (fun s => { s with qs := s.qs.set q x QSched.reset })

/-- The CORE cycles of 1.1 GHz since reset. -/
def Dev.coreCycles (d : Dev) : Nat := d.time.cyc * 11 / 5

/-! ### Shapers -/

/-- Tokens per CORE cycle in 2^-24 byte for a rate in Mbit/s (R254). -/
def tokenInc (rate : Nat) : Nat := (min rate 400000 * 19065018 + 5000) / 10000

/-- The queue's tokens brought up to the present CORE cycle; they grow while the shaper is enabled (R254). -/
def Dev.refreshShaper (d : Dev) (q : Nat) : Dev :=
  let x := d.qs q
  let now := d.coreCycles
  let t : Int := x.tok + ((tokenInc (d.get (QCFG_W1_RATE q)) * (now - x.tokAt) : Nat) : Int)
  d.setQs q { x with tokAt := now
                     tok := if d.flag (QCFG_W0_SHAPE_EN q) then min t ((d.get (QCFG_W2_BURST q) * 2 ^ 24 : Nat) : Int)
                            else x.tok }

/-- The queue's tokens now. -/
def Dev.tokens (d : Dev) (q : Nat) : Int := ((d.refreshShaper q).qs q).tok

/-! ### Gate schedules -/

/-- A run of time in a cycle with its gates, in ns from the cycle start (R255). -/
structure Span where
  start : Nat
  stop  : Nat
  ht    : Bool
  base  : Nat
  deriving DecidableEq, Repr

/-- The register index of a port's bank of entries. -/
def bankIdx (p b : Nat) : Nat := 2 * p + b

/-- The entries of a bank that are not skipped: DUR, HT_OPEN, BASE_OPEN (R255). -/
def Dev.gateEntries (d : Dev) (p b : Nat) : List (Nat × Bool × Nat) :=
  ((List.range (d.get (SCH_GATEp_CYCb_NENT p b))).map (fun j =>
    (d.get (GENT_W0_DUR (bankIdx p b) j), d.flag (GENT_W0_HT_OPEN (bankIdx p b) j),
      d.get (GENT_W1_BASE_OPEN (bankIdx p b) j)))).filter (fun x => x.1 != 0)

/-- Whether a bank is valid (R256). -/
def Dev.bankValid (d : Dev) (p b : Nat) : Bool :=
  let c := d.get (SCH_GATEp_CYCb_NS p b)
  let n := d.get (SCH_GATEp_CYCb_NENT p b)
  1000 ≤ c && c ≤ 1000000 && 1000000000 % c == 0 && 1 ≤ n && n ≤ 64 && d.get (SCH_GATEp_OFSb_NS p b) < c
    && d.gateEntries p b != []

/-- Whether the entries of a bank fill its cycle exactly (R256). -/
def Dev.bankExact (d : Dev) (p b : Nat) : Bool :=
  ((d.gateEntries p b).map Prod.fst).foldl (· + ·) 0 == d.get (SCH_GATEp_CYCb_NS p b)

/-- The spans of a cycle: an entry past its end is cut, the last one runs to its end (R256). -/
def spansFrom (cyc start : Nat) : List (Nat × Bool × Nat) → List Span
  | [] => []
  | [(_, h, b)] => if start < cyc then [⟨start, cyc, h, b⟩] else []
  | (n, h, b) :: t =>
    if cyc ≤ start then [] else ⟨start, min cyc (start + n), h, b⟩ :: spansFrom cyc (start + n) t

/-- The time within the cycle of a bank in 2^-32 ns (R256). -/
def Dev.gatePhase (d : Dev) (p b : Nat) : Nat :=
  let c := d.get (SCH_GATEp_CYCb_NS p b) * 2 ^ 32
  let t := d.tb 0
  (t.ns * 2 ^ 32 + t.frac + c - d.get (SCH_GATEp_OFSb_NS p b) * 2 ^ 32) % c

/-- The spans in force on a trunk port and the time within the cycle; none where all gates are open (R256, R257). -/
def Dev.gateState (d : Dev) (p : Nat) : Option (List Span × Nat) :=
  let b := d.get (SCH_GATEp_CTL_ACTIVE p)
  if p < 2 && d.sch.gateOn.get p false && d.bankValid p b then
    some (spansFrom (d.get (SCH_GATEp_CYCb_NS p b)) 0 (d.gateEntries p b), d.gatePhase p b)
  else none

/-- Whether a bank is in use while EN is 1, so that it takes no writes (R257, R272, R273). -/
def Dev.bankLocked (d : Dev) (p b : Nat) : Bool := d.flag (SCH_GATEp_CTL_EN p) && d.get (SCH_GATEp_CTL_ACTIVE p) == b

/-- The bank whose next cycle start applies a change that waits (R257). -/
def Dev.applyBank (d : Dev) (p : Nat) : Nat :=
  if d.bankValid p (d.get (SCH_GATEp_CTL_BANK p)) then d.get (SCH_GATEp_CTL_BANK p) else d.get (SCH_GATEp_CTL_ACTIVE p)

/-- The time in 2^-32 ns until a change that waits is applied; none where none waits. -/
def Dev.applyIn (d : Dev) (p : Nat) : Option Nat :=
  if d.flag (SCH_GATEp_CTL_PENDING p) then
    some (d.get (SCH_GATEp_CYCb_NS p (d.applyBank p)) * 2 ^ 32 - d.gatePhase p (d.applyBank p))
  else none

/-- Whether a span opens the gate of a queue (R255). -/
def Dev.spanOpen (d : Dev) (q : Nat) (x : Span) : Bool :=
  if d.tier q = 2 then x.base.testBit (d.get (QCFG_W0_WCLASS q)) else x.ht

/-- The length of the leading run of spans that are open, in ns. -/
def openRun (f : Span → Bool) : List Span → Nat
  | [] => 0
  | x :: t => if f x then x.stop - x.start + openRun f t else 0

/-- The longest run of open spans among the suffixes of a list. -/
def longestRun (f : Span → Bool) : List Span → Nat
  | [] => 0
  | x :: t => max (openRun f (x :: t)) (longestRun f t)

/-- The spans in cyclic order from the one that holds the phase, the first cut to what is left of it in 2^-32 ns. -/
def cycleFrom (l : List Span) (phase : Nat) : Option (Span × List Span) :=
  match l.dropWhile (fun x => x.stop * 2 ^ 32 ≤ phase) with
  | x :: t => some (x, t ++ l.takeWhile (fun x => x.stop * 2 ^ 32 ≤ phase) ++ [x])
  | [] => none

/-- Whether the gate of a queue is open (R249, R255). -/
def Dev.gateOpen (d : Dev) (q : Nat) : Bool :=
  match d.gateState (queueEgress q) with
  | none => true
  | some (l, ph) =>
    match cycleFrom l ph with
    | some (x, _) => d.spanOpen q x
    | none => false

/-- Whether the gate of a queue never opens under the active schedule (R250). -/
def Dev.closedQ (d : Dev) (q : Nat) : Bool :=
  match d.gateState (queueEgress q) with
  | none => false
  | some (l, _) => !l.any (d.spanOpen q)

/-- The time in 2^-32 ns to the close instant of the queue's open window; none where it has none (R259). -/
def Dev.closeDist (d : Dev) (q : Nat) : Option Nat :=
  let p := queueEgress q
  match d.gateState p with
  | none => none
  | some (l, ph) =>
    let run := if l.all (d.spanOpen q) then none
      else match cycleFrom l ph with
        | some (x, t) => some (if d.spanOpen q x then x.stop * 2 ^ 32 - ph + openRun (d.spanOpen q) t * 2 ^ 32 else 0)
        | none => some 0
    match d.applyIn p, run with
    | some a, some r => some (min a r)
    | some a, none => some a
    | none, r => r

/-- The longest window of a queue in the active bank, in ns; none where its gate is open in every entry (R261). -/
def Dev.longestWindow (d : Dev) (q : Nat) : Option Nat :=
  match d.gateState (queueEgress q) with
  | none => none
  | some (l, _) => if l.all (d.spanOpen q) then none else some (longestRun (d.spanOpen q) (l ++ l))

/-- EN and the bank in use of a port become these, and the switch is recorded (R257, R266). -/
def Dev.gateSwitch (p b : Nat) (en : Bool) (d : Dev) : Dev :=
  let d := (d.set (SCH_GATEp_CTL_ACTIVE p) b).modSch (fun s => { s with gateOn := s.gateOn.set p en false })
  (d.silPost 0x12 0x0003 (silArg 16 p + silArg 17 b + silArg 18 (b2n en))).raise SCH_EVT_GATE_SWITCH

/-- The bank or EN change that waits is applied (R256, R257). -/
def Dev.gateApply (d : Dev) (p : Nat) : Dev :=
  let b := d.get (SCH_GATEp_CTL_BANK p)
  let en := d.flag (SCH_GATEp_CTL_EN p)
  let d := (d.set (SCH_GATEp_CTL_PENDING p) 0).modSch (fun s => { s with cfgRaised := s.cfgRaised.set p false false })
  let d := d.gateSwitch p b en
  if en && !d.bankValid p b then
    ((d.silPost 0x12 0x0005 (silArg 16 p + silArg 17 b)).raise SCH_EVT_GATE_CFG).modSch (fun s =>
      { s with cfgRaised := s.cfgRaised.set p true false })
  else d

/-- A committed value of EN or BANK changed (R257): disabling opens all gates at once, with the bank in use as it was; an invalid
bank is applied at once where no valid bank is in use; every other change, of BANK while EN is 0 too, waits for a cycle start. -/
def Dev.gateCommit (p : Nat) (d : Dev) : Dev :=
  let b := d.get (SCH_GATEp_CTL_BANK p)
  let en := d.flag (SCH_GATEp_CTL_EN p)
  let act := d.get (SCH_GATEp_CTL_ACTIVE p)
  let d := if !en && d.sch.gateOn.get p false then d.gateSwitch p act false else d
  let on := d.sch.gateOn.get p false
  if en == on && act == b then d.set (SCH_GATEp_CTL_PENDING p) 0
  else if d.bankValid p b || (on && d.bankValid p act) then d.set (SCH_GATEp_CTL_PENDING p) 1
  else d.gateApply p

/-! ### Eligibility -/

/-- The credits in hand of a class on a Tirrun port (R90, R250). -/
def Dev.creditsLeft (d : Dev) (p c : Nat) : Nat :=
  ((d.lnk p).granted.get c 0 + 2 ^ 32 - (d.lnk p).used.get c 0 % 2 ^ 32) % 2 ^ 32

/-- The state code of a link layer (R100). -/
def Dev.linkState (d : Dev) (p : Nat) : Nat := d.get (LNK_STAT_STATE p)

/-- The five conditions of R250 beside the window, and the window's (R260). -/
structure Elig where
  head   : Bool
  gate   : Bool
  shaper : Bool
  credit : Bool
  fit    : Bool
  deriving DecidableEq, Repr

def Elig.none : Elig := ⟨false, false, false, false, false⟩

/-- Whether a cell of a packet can be read for sending: it lies in the packet buffer, and where its packet went to the spill store it
has been refilled (R195, R198). -/
def Pkt.readable (k : Pkt) (c : Cell) : Bool := c.stored && (decide (k.place ≠ .spill) || c.pool == .stage)

/-- Whether a head packet may be sent: whole, or by cut-through; its next cell at hand; on a Tirrun egress, of a class the link
carries, and no packet of its service queue open (R80, R100, R198, R202, R250). A packet that is not cut through is ready once every cell of it is stored, on chip or in the spill store
(R202). Whether an engine can take a packet is settled as the packet is handed over (R168; log entry 104). -/
def Dev.headReady (d : Dev) (q : Nat) (k : Pkt) : Bool :=
  match queuePort q with
  | some p =>
    !k.started && (k.cut || (k.whole && k.cells.all (fun c => c.pool != .src))) && (match k.cells with
      | c :: _ => k.readable c
      | [] => false)
      && (d.linkState p == 4 || (d.linkState p == 3 && k.hdr.cls == 0))
      && !((d.sw.opens.get p []).any (fun o => o.sq == k.sq))
  | none => k.whole && k.cells.all k.readable

/-- The first packet of a queue that is not open already. -/
def Dev.headOf (d : Dev) (q : Nat) : Option (Nat × Pkt) :=
  ((d.queue q).filterMap (fun i => (d.pkt i).bind (fun k => if k.started then Option.none else some (i, k)))).head?

/-- The eligibility of a queue (R250); an engine port is ready for its head packet, and what refuses it acts at the hand-over (log entry
104). -/
def Dev.elig (d : Dev) (q : Nat) : Elig :=
  match d.headOf q with
  | some (_, k) =>
    { head := d.headReady q k
      gate := d.gateOpen q
      shaper := !d.flag (QCFG_W0_SHAPE_EN q) || (d.get (QCFG_W1_RATE q) != 0 && 0 ≤ d.tokens q)
      credit := match queuePort q with
        | some p => k.blocks ≤ d.creditsLeft p (k.sq / 32)
        | Option.none => true
      fit := match d.closeDist q with
        | some r => d.wireTime (queueEgress q) k * 2 ^ 32 ≤ 100 * r
        | Option.none => true }
  | Option.none => Elig.none

/-- Eligible but for the window (R260). -/
def Elig.tagged (x : Elig) : Bool := x.head && x.gate && x.shaper && x.credit

/-! ### Tags and starts -/

/-- The later of two tags modulo 2^48 (R253). -/
def laterOf (a b : Nat) : Nat :=
  let x := (a + 2 ^ 48 - b % 2 ^ 48) % 2 ^ 48
  if 1 ≤ x ∧ x < 2 ^ 47 then a else b

/-- The virtual time of a tier of an egress (R253). -/
def Dev.vtime (d : Dev) (e t : Nat) : Nat := d.sch.vt.get (2 * e + t) 0

/-- The finish tag that the head of a queue takes as the queue becomes eligible (R253). -/
def Dev.newTag (d : Dev) (e q : Nat) (k : Pkt) : Nat :=
  (laterOf (d.vtime e (d.tier q)) (d.qs q).fq + d.frameB k * 65536 / max 1 (d.get (QCFG_W0_WEIGHT q))) % 2 ^ 48

/-- The tag of a queue's head brought up to the present: set as the queue becomes eligible; kept while the packet waits for a window
it fits, since a gate that closes leaves no room for it first (R260); gone where the queue is no longer eligible otherwise, so that it
rejoins at V (R253). -/
def Dev.retag (e q : Nat) (d : Dev) : Dev :=
  let x := d.qs q
  let untag := if x.fh.isSome then d.setQs q { x with fh := Option.none } else d
  match d.headOf q with
  | some (i, k) =>
    if d.tier q = 2 then untag
    else
      let g := d.elig q
      if x.fh.map Prod.fst == some i then (if g.head && g.shaper && g.credit then d else untag)
      else if g.tagged && g.fit then d.setQs q { x with fh := some (i, d.newTag e q k) }
      else untag
  | Option.none => untag

/-- The queues of an egress that hold a packet, or that have held one, brought up to the present. -/
def Dev.retagAll (e : Nat) (d : Dev) : Dev :=
  forAll ((d.sch.qs.filter (fun x => queueEgress x.1 == e)).map Prod.fst ++ d.busyQueues e) (fun q d => d.retag e q) d

/-- The queues of the trunk ports brought up to the present: only they have gates that time closes (R249). -/
def Dev.retagTrunks (d : Dev) : Dev := (d.retagAll 0).retagAll 1

/-- The finish tag of a queue's head. -/
def Dev.headTag (d : Dev) (q : Nat) : Nat :=
  match (d.qs q).fh with
  | some (_, t) => t
  | Option.none => 0

/-- The key under which the turn of the base queues of one PRIO of an egress is kept (R252). -/
def turnKey (e prio : Nat) : Nat := 256 * e + prio

/-- The first of the eligible base queues of an egress: lowest PRIO, then the turn (R252). -/
def Dev.pickBase (d : Dev) (e : Nat) (l : List Nat) : Option Nat :=
  let rank := fun q =>
    let last := d.sch.lastBase.get (turnKey e (d.get (QCFG_W0_PRIO q))) 0
    d.get (QCFG_W0_PRIO q) * 65536 + (if last ≤ q then q - last else q + 32768 - last)
  l.foldl (fun best q => match best with
    | some b => if rank q < rank b then some q else some b
    | Option.none => some q) Option.none

/-- The eligible queue with the earliest tag, the lowest number among equals (R253). -/
def Dev.pickTag (d : Dev) (l : List Nat) : Option Nat :=
  l.foldl (fun best q => match best with
    | some b => if d.headTag q ≠ d.headTag b ∧ laterOf (d.headTag b) (d.headTag q) = d.headTag b then some q else some b
    | Option.none => some q) Option.none

/-- The eligible queues of a tier on an egress. -/
def Dev.ready (d : Dev) (e t : Nat) : List Nat :=
  (d.busyQueues e).filter (fun q => d.tier q == t && (d.elig q).tagged && (d.elig q).fit)

/-- What a start does to the queue's account: its tags, its tokens, its counters (R252 to R254, R266, R276). -/
def Dev.noteStart (d : Dev) (e q : Nat) (k : Pkt) : Dev :=
  let d := d.refreshShaper q
  let b := d.frameB k
  let t := d.tier q
  let x := d.qs q
  let f := d.headTag q
  let x := if t = 2 then x else { x with fq := f, fh := Option.none }
  let x := { x with since := x.since + 1
                    tok := if d.flag (QCFG_W0_SHAPE_EN q) then x.tok - ((b * 2 ^ 24 : Nat) : Int) else x.tok }
  let d := d.setQs q x
  let d := if t = 2 then d.modSch (fun s => { s with lastBase := s.lastBase.set (turnKey e (d.get (QCFG_W0_PRIO q))) (q + 1) 0 })
    else d.modSch (fun s => { s with vt := s.vt.set (2 * e + t) f 0 })
  let n := d.get (QS_W5_TX_BYTES_LO q) + d.get (QS_W6_TX_BYTES_HI q) * 2 ^ 32 + b
  let d := (((d.inc (QS_W4_TX_PKTS q)).set (QS_W5_TX_BYTES_LO q) n).set (QS_W6_TX_BYTES_HI q) (n / 2 ^ 32))
  if k.hdr.colour = 1 then d.inc (QS_W7_YELLOW q) else d

/-- The head of a queue dropped where it is longer than the queue's longest window (R261). -/
def Dev.dropOversize (e q : Nat) (d : Dev) : Dev :=
  match d.headOf q, d.longestWindow q with
  | some (i, k), some w =>
    if !d.closedQ q && w * 100 < d.wireTime e k then
      let d := ((d.inc (if e = 0 then SCH_OVERSIZE_TE_COUNT else SCH_OVERSIZE_TW_COUNT)).inc (QS_W8_OVERSIZE q)).raise
        SCH_EVT_OVERSIZE
      (d.silPost 0x12 0x0002 (silArg 16 q + silArg 20 (d.frameB k) + silArg 24 (d.wireTime e k / 100))).releasePkt i
    else d
  | _, _ => d

/-- Whether the descriptor of a cell is read with an uncorrectable error (R183, R564). -/
def Dev.cellLost (d : Dev) (c : Cell) : Bool :=
  c.stored && (d.flawOf 2 (c.num / 16384) (c.num % 16384) 1).isSome

/-- A descriptor read with an uncorrectable error: counted and raised (R564). -/
def Dev.noteLost (c : Cell) (d : Dev) : Dev :=
  ((d.memUe 2 (c.num / 16384) (c.num % 16384)).inc SWC_BUF_ECC_COUNT).raise SWC_EVT_BUF_ECC

/-- The head of a queue discarded whole where a descriptor of its cells is read with an uncorrectable error (R564). -/
def Dev.dropFlawed (q : Nat) (d : Dev) : Dev :=
  match d.headOf q with
  | some (i, k) =>
    match k.cells.find? d.cellLost with
    | some c => (d.noteLost c).dropPkt i
    | none => d
  | none => d

/-- The heads of an egress with a lost descriptor and the oversize ones dropped and the heads tagged, as a start decision finds them. -/
def Dev.prepare (e : Nat) (d : Dev) : Dev :=
  let d := if d.rel.flaws = [] then d else forAll (d.busyQueues e) (fun q d => forAll (d.queue q) (fun _ d => d.dropFlawed q) d) d
  let d := if e < 2 then
      forAll (d.busyQueues e) (fun q d => forAll (d.queue q) (fun _ d => d.dropOversize e q) d) d else d
  d.retagAll e

/-- A start decision of an egress in one tier: 2 BASE, 1 HEART, 0 TOP. -/
def Dev.pick (d : Dev) (e t : Nat) : Option Nat :=
  if !d.flag SCH_CTL_EN then Option.none
  else if t = 2 then d.pickBase e (d.ready e 2) else d.pickTag (d.ready e t)

/-! ### Telemetry -/

/-- The depth and sojourn of a queue as a pass samples them at its visit, which lies `lag` ns back (R265). -/
def Dev.sample (q lag : Nat) (d : Dev) : Dev :=
  let depth := d.get (SWQ_W2_OCC q) + d.get (SWQ_W3_SPILLED q)
  let soj := match d.queue q with
    | i :: _ => (match d.pkt i with
      | some k => min (d.now - lag - k.admitAt) (2 ^ 32 - 1)
      | Option.none => 0)
    | [] => 0
  let d := (d.set (QS_W9_LAST_DEPTH q) depth).set (QS_W10_LAST_SOJ q) soj
  let d := d.set (QS_W11_MAX_DEPTH q) (max depth (d.get (QS_W11_MAX_DEPTH q)))
  let d := (d.set (QS_W12_MAX_SOJ q) (max soj (d.get (QS_W12_MAX_SOJ q)))).inc (QS_W13_SAMPLES q)
  let x := d.qs q
  let d := if d.flag (QCFG_W0_TEL_SIL q) && d.flag SCH_TEL_CTL_SIL then
      d.silPost 0x12 0x0001 (silArg 16 q + silArg 20 depth + silArg 24 soj + silArg 28 (x.since % 2 ^ 32)) else d
  d.setQs q { x with since := 0 }

/-- The visits of a sampling pass that are due, 16 CORE cycles apart (R265). -/
def Dev.visitDue : List Nat → Dev → Dev
  | [], d => d
  | q :: t, d =>
    if d.coreCycles < d.sch.visitAt then d
    else ((d.sample q ((d.coreCycles - d.sch.visitAt) * 10 / 11)).modSch (fun s =>
      { s with visits := t, visitAt := s.visitAt + 16 })).visitDue t

/-- Whether a sampling pass runs: 16 CORE cycles for each of its queues (R265). -/
def Dev.passRuns (d : Dev) : Bool := d.sch.visits != [] || d.coreCycles < d.sch.visitAt

/-- The sampling pass brought up to the present; TEL_BUSY shows whether it runs (R265, R269). -/
def Dev.passOn (d : Dev) : Dev :=
  let d := d.visitDue d.sch.visits
  if d.flag SCH_STAT_TEL_BUSY then d.setB SCH_STAT_TEL_BUSY d.passRuns else d

/-! ### Policers and shapers as their configuration changes -/

/-- A policer's buckets brought up to the present CORE cycle: tokens (T_c, T_e or T_p) (R262). -/
def Dev.buckets (d : Dev) (c : Nat) : Policer :=
  let x := d.sch.pols.get c Policer.reset
  let now := d.coreCycles
  let dt := now - x.at_
  let cbs := d.get (POL_W3_CBS c) * 2 ^ 24
  let xbs := d.get (POL_W4_XBS c) * 2 ^ 24
  let add := tokenInc (d.get (POL_W1_CIR c)) * dt
  if d.flag (POL_W0_MODE c) then
    ⟨min cbs (x.tc + add), min xbs (x.tx + tokenInc (max (d.get (POL_W2_PIR c)) (d.get (POL_W1_CIR c))) * dt), now⟩
  else ⟨min cbs (x.tc + add), min xbs (x.tx + (x.tc + add - cbs)), now⟩

def Dev.setPol (d : Dev) (c : Nat) (x : Policer) : Dev := d.modSch (fun s => { s with pols := s.pols.set c x Policer.reset })

/-- A committed change of a policer's MODE fills its buckets; a change of a size clips them; the rate acts from now
(R264). `old` is the policer brought up to now under its old configuration. -/
def Dev.polCommit (c : Nat) (old : Policer) (modeChanged : Bool) (d : Dev) : Dev :=
  let cbs := d.get (POL_W3_CBS c) * 2 ^ 24
  let xbs := d.get (POL_W4_XBS c) * 2 ^ 24
  d.setPol c (if modeChanged then ⟨cbs, xbs, old.at_⟩ else ⟨min cbs old.tc, min xbs old.tx, old.at_⟩)

/-- A committed change of RATE or BURST keeps the tokens, clipped to the new BURST (R267); the queue's tokens stand at the
present cycle. -/
def Dev.shaperCommit (q : Nat) (d : Dev) : Dev :=
  let x := d.qs q
  d.setQs q { x with tok := min x.tok ((d.get (QCFG_W2_BURST q) * 2 ^ 24 : Nat) : Int) }

end Sys2Proof.Machine
end

