-- ==== Sys2Proof/Machine/Access.lean ====
section
/-! DEFINITION. Registers by address (R6 to R11, R594): the register an address names, what a read returns, which words an
accord may stage (R283), and the swaps of staged words, each clock domain at its own instant (R289, R290, R295). -/

namespace Sys2Proof.Machine

/-- A register found by its address: its definition and its indexes. -/
structure Hit where
  rd : RegDef
  i  : Nat
  j  : Nat
  deriving DecidableEq, Repr

/-- The indexes of a register at a block offset, if it lies there. -/
def RegDef.hit (r : RegDef) (o : Nat) : Option Hit :=
  if o < r.base then none
  else
    let x := o - r.base
    let i := if r.n1 = 1 then 0 else x / r.s1
    let y := x - i * r.s1
    let j := if r.n2 = 1 then 0 else y / r.s2
    if i < r.n1 ∧ j < r.n2 ∧ i * r.s1 + j * r.s2 = x then some ⟨r, i, j⟩ else none

/-- The register at a physical address of the register space (R590, R593, R594). -/
def findReg (a : Nat) : Option Hit :=
  if 0x10000000 ≤ a ∧ a < 0x20000000 then
    (regsOf ((a - 0x10000000) / 0x100000)).findSome? (fun r => r.hit ((a - 0x10000000) % 0x100000))
  else none

/-- The home of a field of the register at an address. -/
def fieldAt (a : Nat) (f : FieldDef) : Fld := ⟨8 * a + f.lsb, f.w, f.rst⟩

/-- The word of `USB_HPp` of the hub port of Type-C port `n`: PORT_POWER shows VBUS on the receptacle, and no device is reported
unless the port is attached as DFP (R463). -/
def Dev.typeCPort (d : Dev) (n w : Nat) : Nat :=
  let live := d.flag (PDC_Pn_STAT_DFP n) && (d.get (PDC_Pn_STAT_CONN n) == 2 || d.get (PDC_Pn_STAT_CONN n) == 3)
  let vbus := (d.pdc.ports.get n PdcPort.reset).closed || d.get (PDC_Pn_STAT_CONN n) == 3
  (if live then w % 8 else 0) + (if vbus then 8 else 0) + bitsOf w 4 5 * 16

/-- A register word as a read returns it: reserved bits and write-only fields read 0 (R8, R10). -/
def Dev.readReg (d : Dev) (a : Nat) : Nat :=
  match findReg a with
  | some h =>
    let w := (h.rd.flds.map (fun f => if f.acc = .wo then 0 else d.get (fieldAt a f) * 2 ^ f.lsb)).foldl (· + ·) 0
    if h.rd.name = .USB_HPp ∧ 7 ≤ h.i then d.typeCPort (h.i - 7) w else w
  | none => 0

/-- Whether a domain is in QUIESCE or DRAIN: it takes no further staged write (R515). -/
def Dev.drying (d : Dev) (n : Nat) : Bool := d.get (PWR_Dd_STAT_PHASE n) == 1 || d.get (PWR_Dd_STAT_PHASE n) == 2

/-- Whether an address lies on the power die while the bridge is down (R29). CTL's QUIESCE closes the bridge to new transfers; those in
flight across it complete in DRAIN (R515, R516). -/
def Dev.bridgeCut (d : Dev) (a : Nat) : Bool :=
  onPowerDie a && !d.aon.bridgeUp && !(d.drying 1 && (d.power.aims.get 1 (0, false)).2)

/-- Whether an accord may stage the word at an address (R11, R283, R288). -/
def Dev.stageable (d : Dev) (a : Nat) : Bool :=
  match findReg a with
  | some h => h.rd.flds.any (fun f => f.acap)
      && h.rd.flds.all (fun f => f.acc != .w1c && f.acc != .w1s && f.acc != .wo)
      && d.domOn (powerDomain a) && !d.drying (powerDomain a)
  | none => false

/-- A value without the low bits that its register holds at 0 (R347, R457). -/
def heldLow (n : RegName) (v : Nat) : Nat :=
  if n = .SYN_THn_PC_LO then v / 4 * 4
  else if n = .DSO_Dn_Ll_STRIDE ∨ n = .DSO_Dn_Ll_FB0_LO ∨ n = .DSO_Dn_Ll_FB1_LO then v / 64 * 64
  else v

/-- The accord-capable fields of a staged word take their values, as by a software write (R283, R289, R292). -/
def Dev.swapWord (a v : Nat) (d : Dev) : Dev :=
  match findReg a with
  | some h =>
    forAll (h.rd.flds.filter (fun f => f.acap)) (fun f d => d.set (fieldAt a f) (heldLow h.rd.name v / 2 ^ f.lsb)) (d.noteWrite a)
  | none => d

/-- The register of an address, and its first index. -/
def regAt (a : Nat) : Option (RegName × Nat) := (findReg a).map (fun h => (h.rd.name, h.i))

/-- The members of a list of register addresses that belong to a family, by first index, each once. -/
def indexesOf (names : List RegName) (l : List Nat) : List Nat :=
  (l.filterMap (fun a => match regAt a with
    | some (n, i) => if names.contains n then some i else none
    | none => none)).eraseDups

/-- The index in the register store of the TMT slot a word of the TMT belongs to. -/
def tmtSlotOf (a : Nat) : Option Nat :=
  match findReg a with
  | some h => if [RegName.TMT_W0, .TMT_W1, .TMT_W2, .TMT_W3].contains h.rd.name then some ((a - 0x10580000) / 16) else none
  | none => none

/-- A TMT slot after a commit: its epoch, unless the accord wrote it; two valid entries of one key, and a valid entry out of
its bucket, are reported (R157, R295). -/
def Dev.tmtCommitted (s : Nat) (keepEpoch : Bool) (d : Dev) : Dev :=
  let d := d.mendIn 3 (tmtPlace s).1 (tmtPlace s).2 2
  let d := if keepEpoch then d else d.set (TMT_W3_EPOCH s) (d.get ACD_EPOCH_EPOCH)
  if d.flag (TMT_W0_VALID s) then
    let key := d.slotKey s
    let b := tmtBucket key (d.get TNL_TMT_SEED_SEED)
    let d := if ((tmtCandidates b).filter (d.slotMatch key)).length ≥ 2 && (tmtCandidates b).contains s then
        d.raise TNL_EVT_TMT_DUPKEY else d
    if s < 16384 ∧ s / 4 ≠ b then d.raise TNL_EVT_TMT_MISPLACED else d
  else d

/-- The names of the words of a queue's configuration, of a policer's, and of the gate control (R272, R275, R277). -/
def qcfgNames : List RegName := [.QCFG_W0, .QCFG_W1, .QCFG_W2, .QCFG_W3]
def polNames : List RegName := [.POL_W0, .POL_W1, .POL_W2, .POL_W3, .POL_W4]

/-- What a change of configuration words does beside them, whoever makes it: shapers, policers, gate schedules (R257, R264,
R267) and the tags of eligible heads (R253, R267) are brought up to now before, and follow after; a gateway disabled discards what it
holds (R469). -/
def Dev.withConfig (l : List Nat) (change : Dev → Dev) (d : Dev) : Dev :=
  let qs := indexesOf qcfgNames l
  let ps := indexesOf polNames l
  let gs := indexesOf [.SCH_GATEp_CTL] l
  let d := forAll qs (fun q d => (d.refreshShaper q).retag (queueEgress q) q) d
  let old := ps.map (fun c => (c, d.buckets c, d.get (POL_W0_MODE c)))
  let og := gs.map (fun p => (p, d.get (SCH_GATEp_CTL_EN p), d.get (SCH_GATEp_CTL_BANK p)))
  let d := change d
  let d := forAll qs (fun q d => d.shaperCommit q) d
  let d := forAll old (fun x d => d.polCommit x.1 x.2.1 (d.get (POL_W0_MODE x.1) != x.2.2)) d
  let d := forAll ((indexesOf [.USB_GWg_CFG] l).filter (fun g => !d.flag (USB_GWg_CFG_EN g))) (fun g d => d.dropGateway g) d
  forAll og (fun x d =>
    if d.get (SCH_GATEp_CTL_EN x.1) = x.2.1 ∧ d.get (SCH_GATEp_CTL_BANK x.1) = x.2.2 then d else d.gateCommit x.1) d

/-- The staged words of a committing accord swap, ACD_EPOCH before the rest, and the tables they belong to follow (R289,
R292, R295). -/
def Dev.swapWords (l : Tab Nat) (d : Dev) : Dev :=
  let addrs := l.map Prod.fst
  let d := forAll (l.filter (fun x => x.1 == ACD_EPOCH_A)) (fun x d => d.swapWord x.1 x.2) d
  let d := d.withConfig addrs (forAll (l.filter (fun x => x.1 != ACD_EPOCH_A)) (fun x d => d.swapWord x.1 x.2))
  forAll (addrs.filterMap tmtSlotOf).eraseDups (fun s d => d.tmtCommitted s (addrs.contains (TMT_W3_A s))) d

/-! ### Clock domains (R33, R290) -/

/-- The clock domain of an accord-capable register: 0 CORE, 1 and 2 PIX0 and PIX1, 3 USB, 4 to 13 ETH0 to ETH9 (R287). -/
def clockOf (a : Nat) : Nat :=
  let k := (a - 0x10000000) / 0x100000
  let o := a % 0x100000
  if k = 10 then 4 + o / 0x1000 else if k = 13 then (if o < 0x2000 then 1 else 2) else if k = 14 then 3 else 0

/-- The register clock's cycle of a clock domain in ps, rounded down; 6.4 ns of REF where its own clock is stopped (R33, R39, R376). -/
def Dev.clockPs (d : Dev) (c : Nat) : Nat :=
  if c = 0 then 909
  else if c ≤ 2 then
    (let khz := d.get (DSO_Dn_PCLK_KHZ (if d.flag DSO_CTL_LOCK then 0 else c - 1))
     if khz = 0 then 6400 else 1000000000 / khz)
  else if c = 3 then 16666
  else match d.get (ETH_CTL_MODE (c - 4)) with
    | 1 => 8000
    | 2 => 3200
    | 3 => 12412
    | 4 => 6206
    | _ => 6400

/-- The latest instant after the commit point at which a domain may swap, in steps of 2 ns: its settle for a NOW accord (R17), else its
first cycle and the 4 ns of R290. -/
def Dev.swapBound (d : Dev) (c : Nat) (now : Bool) : Nat :=
  if now then (12 * d.clockPs c + 5000) / 2000 else (d.clockPs c + 4000) / 2000

/-- A committed accord's words set out by clock domain, each with the instant of its swap, a free value within the bound (R289, R290; log
entry 42). -/
def Dev.planSwaps (l : Tab Nat) (now : Bool) (thr : Option Nat) (d : Dev) : Dev :=
  forAll ((l.map (fun x => clockOf x.1)).eraseDups) (fun c d =>
    let (k, d) := d.fresh
    let x : Swap := ⟨c, d.power.osc + Sys2Proof.Config.swapDelay k % (d.swapBound c now + 1), l.filter (fun x => clockOf x.1 == c), thr⟩
    d.modAcc (fun a => { a with swaps := a.swaps ++ [x] })) d

/-- Whether the `ACC` of a thread's NOW accord waits for a swap (R291). -/
def Dev.swapsOf (d : Dev) (t : Nat) : Bool := d.acc.swaps.any (fun x => x.thr == some t)

/-- A thread goes on once every domain of its NOW accord has swapped (R291). -/
def Dev.swapsDone (t : Nat) (d : Dev) : Dev := if (d.thr t).wait = .swaps ∧ d.swapsOf t = false then d.retire t 4 else d

/-- The swaps whose instant has come: each domain swaps all its staged words at once (R289, R290). -/
def Dev.swapsDue (d : Dev) : Dev :=
  let now := d.acc.swaps.filter (fun x => x.due ≤ d.power.osc)
  let d := d.modAcc (fun a => { a with swaps := a.swaps.filter (fun x => !Decidable.decide (x.due ≤ d.power.osc)) })
  let d := forAll now (fun x d => d.swapWords x.regs) d
  forAll ((now.filterMap (·.thr)).eraseDups) (fun t d => d.swapsDone t) d

/-- The mean of VBUS and of its current over the last 1 ms: no command brings the samples of the ADC, so it is a free value (R420; log 100). -/
def Dev.measureVbus (n : Nat) (d : Dev) : Dev :=
  let (k, d) := d.fresh
  let v := Sys2Proof.Config.randomNat k
  (d.set (PDC_Pn_VBUS_MV n) (v % 2 ^ 16)).set (PDC_Pn_VBUS_MA n) (v / 2 ^ 16 % 2 ^ 16)

end Sys2Proof.Machine
end

