-- ==== Sys2Proof/Machine/Time.lean ====
section
/-! DEFINITION. Line time and timed I/O (spec 07): the time bases (R213 to R217), the servo (R220 to R224), PPS (R227,
R228), the timed pins (R229 to R232), the Sillage writer (R238, R239). The rows of TICK and DELAY blocks stand with the link
layer. -/

namespace Sys2Proof.Machine

/-! ### Time bases -/

/-- A time in units of 2^-32 ns. -/
def Ts.units (t : Ts) : Nat := (t.sec * 1000000000 + t.ns) * 2 ^ 32 + t.frac

/-- The time base that a number of 2^-32 ns names; the seconds wrap at 2^48 (R213). -/
def Ts.ofUnits (v : Int) : Ts :=
  let u := (v % ((2 ^ 48 * 1000000000 * 2 ^ 32 : Nat) : Int)).toNat
  ⟨u / 2 ^ 32 / 1000000000, u / 2 ^ 32 % 1000000000, u % 2 ^ 32⟩

def Dev.modTime (d : Dev) (f : TimePart → TimePart) : Dev := { d with time := f d.time }
def Dev.modServo (d : Dev) (f : Servo → Servo) : Dev := d.modTime (fun t => { t with servo := f t.servo })
def Dev.putTb (d : Dev) (n : Nat) (t : Ts) : Dev := d.modTime (fun x => { x with tbs := x.tbs.set n t ⟨0, 0, 0⟩ })

/-- The increment register of a time base in units of 2^-32 ns (R213). -/
def Dev.incr (d : Dev) (n : Nat) : Nat := d.get (TMB_TBn_INCR_NS_NS n) * 2 ^ 32 + d.get (TMB_TBn_INCR_FRAC_FRAC n)

/-- Whether the servo owns the time base (R216). -/
def Dev.owned (d : Dev) (n : Nat) : Bool := n == 0 && d.flag TMB_SRV_CTL_EN

/-- `v` times the servo's rate adjustment f, rounded towards minus infinity (R221). -/
def Dev.timesF (d : Dev) (v : Int) : Int := v * d.time.servo.fnum / ((d.time.servo.period * 2 ^ 23 : Nat) : Int)

/-- What a time base adds in `k` TIME cycles, its phase slew apart (R213). -/
def Dev.advance (d : Dev) (n k : Nat) : Int :=
  let v : Int := ((d.incr n * k : Nat) : Int)
  if d.owned n then v + d.timesF v else v

/-- The part of a phase slew added in `k` TIME cycles: 100 ppm of the rate until the whole amount is in (R216). -/
def Dev.slewPart (d : Dev) (n k : Nat) : Int :=
  let rem := d.time.padj.get n 0
  let lim : Int := ((d.incr n * k / 10000 : Nat) : Int)
  if rem < 0 then max rem (-lim) else min rem lim

/-- One time base advanced by `k` TIME cycles. -/
def Dev.elapseTb (k n : Nat) (d : Dev) : Dev :=
  let a := d.slewPart n k
  let rem := d.time.padj.get n 0
  let d' := d.putTb n (Ts.ofUnits ((((d.tb n).units : Nat) : Int) + d.advance n k + a))
  let d' := d'.modTime (fun x => { x with padj := x.padj.set n (rem - a) 0 })
  if rem ≠ 0 ∧ rem = a then d'.set (TMB_TBn_STAT_PADJ_BUSY n) 0 else d'

/-- `k` TIME cycles of the running time bases: they count once the TIME PLL has locked, and r falls by what steering recovered
(R213, R221). -/
def Dev.countOn (k : Nat) (d : Dev) : Dev :=
  if d.time.counting then
    let dr := if d.flag TMB_SRV_CTL_EN then d.timesF ((d.incr 0 * k : Nat) : Int) else 0
    (forAll (List.range 4) (fun n d => d.elapseTb k n) d).modServo (fun s => { s with r := s.r - dr })
  else d

/-- The 32.768 kHz ticks passed: one each 30,517.578125 ns, which is 3,906,250 / 256 steps of 2 ns (R514, R520). -/
def Dev.oscTicks (d : Dev) : Nat := d.power.osc * 256 / 3906250

/-- The time bases advance by ticks of the 32.768 kHz oscillator, 30,517.578125 ns each (R514). -/
def Dev.tickOn (n : Nat) (d : Dev) : Dev :=
  if d.time.counting then
    forAll (List.range 4) (fun b d => d.putTb b (Ts.ofUnits (((d.tb b).units + n * (30517578125 * 2 ^ 32 / 1000000) : Nat) : Int))) d
  else d

/-- BACKOFF shows the microseconds left of each port's back-off (R142). -/
def Dev.showBackoffs (d : Dev) : Dev :=
  forAll d.links (fun x d =>
    match x.2.mreq.backoff with
    | some e => d.set (LNK_MRES_BACKOFF x.1) ((e - d.time.cyc + 499) / 500)
    | none => d) d

/-- The round trip of a port follows as samples older than 1 ms fall out (R87); with none left the last value stands (DESIGN CHOICE, log
entry 108). -/
def Dev.ageRtt (d : Dev) : Dev :=
  forAll d.links (fun x d =>
    match x.2.rttWin.filter (fun y => d.time.cyc < y.1 + 500000) with
    | [] => d
    | y :: t =>
      let rtt := (t.map Prod.snd).foldl min y.2
      if t.length + 1 = x.2.rttWin.length then d else (d.set (LNK_RTT_NS x.1) rtt).set (LNK_ACKTO_NS x.1) (rtt + 3000)) d

/-! ### Timed pins -/

def Dev.pin (d : Dev) (k : Nat) : TioPin := d.time.pins.get k TioPin.reset
def Dev.capShown (d : Dev) : Option TioStamp := (d.pin (d.get TIO_CAP_SEL_PIN)).caps.head?

/-- The capture registers show the oldest stamp of the selected pin (R232). -/
def Dev.showCap (d : Dev) : Dev :=
  match d.capShown with
  | some c => (((d.set TIO_CAP_SEC_SEC c.sec).set TIO_CAP_NS_NS c.ns).set TIO_CAP_NS_VALID 1).setB TIO_CAP_NS_RISE c.rise
  | none => (((d.set TIO_CAP_SEC_SEC 0).set TIO_CAP_NS_NS 0).set TIO_CAP_NS_VALID 0).set TIO_CAP_NS_RISE 0

/-- A pin's queues replaced, with the depths its status register shows. -/
def Dev.putPin (d : Dev) (k : Nat) (p : TioPin) : Dev :=
  let d := d.modTime (fun x => { x with pins := x.pins.set k p TioPin.reset })
  ((d.set (TIO_STATk_QDEPTH k) p.evq.length).set (TIO_STATk_CDEPTH k) p.caps.length).showCap

/-- A pulse starts: the opposite of IDLE (R230). -/
def Dev.pulseOn (d : Dev) (k : Nat) : Dev :=
  (d.set (TIO_STATk_LEVEL k) (1 - d.get (TIO_CFGk_IDLE k))).putPin k { d.pin k with pulse := true }

/-- An event acts on its pin (R230): 0 LOW, 1 HIGH, 2 PULSE, 3 START, 4 STOP. LOW and HIGH set the level and leave a pulse in progress
and a running train as they are (DESIGN CHOICE, log entry 109: R230 does not say). -/
def Dev.tioAct (d : Dev) (k : Nat) (e : TioEvent) : Dev :=
  if e.act = 0 then d.set (TIO_STATk_LEVEL k) 0
  else if e.act = 1 then d.set (TIO_STATk_LEVEL k) 1
  else if e.act = 2 then d.pulseOn k
  else if e.act = 3 then (d.putPin k { d.pin k with train := some e.width }).pulseOn k
  else d.putPin k { d.pin k with train := none }

/-- A late event (R231): counted, raised and recorded; discarded, or acted on at once where LATE is 1. -/
def Dev.tioLate (k : Nat) (e : TioEvent) (d : Dev) : Dev :=
  let d := (d.inc TIO_LATE_COUNT).raise TMB_EVT_TIO_LATE
  let d := d.silPost 0x14 0x0011 (silArg 16 k + silArg 20 e.sec + silArg 24 e.ns)
  if d.flag (TIO_CFGk_LATE k) then d.tioAct k e else d

/-- Whether the pin's time base has reached or passed an instant of seconds [31:0] and nanoseconds (R230). -/
def Dev.passed (d : Dev) (k sec ns : Nat) : Bool :=
  let t := d.tb (d.get (TIO_CFGk_TB k))
  sec < t.sec % 2 ^ 32 || (sec == t.sec % 2 ^ 32 && ns ≤ t.ns)

/-- The queued events that a step or a load passed over are late (R231). -/
def Dev.passOver (n : Nat) (d : Dev) : Dev :=
  forAll (List.range 16) (fun k d =>
    if d.get (TIO_CFGk_TB k) = n then
      let late := (d.pin k).evq.filter (fun e => d.passed k e.sec e.ns)
      let d := d.putPin k { d.pin k with evq := (d.pin k).evq.filter (fun e => !d.passed k e.sec e.ns) }
      forAll late (fun e d => d.tioLate k e) d
    else d) d

/-- Each enabled gate schedule resumes in the entry that holds the new time (R258). -/
def Dev.gateResync (step : Int) (d : Dev) : Dev :=
  forAll [0, 1] (fun p d =>
    if d.sch.gateOn.get p false then
      ((d.inc SCH_RESYNC_COUNT).silPost 0x12 0x0004 (silArg 16 p + silArg 24 (unsgn 64 step))).raise SCH_EVT_GATE_RESYNC
    else d) d

/-- A time base stepped or loaded: recorded as TB_STEP with the signed step in ns (R216, R221, R240). -/
def Dev.stepTb (d : Dev) (n : Nat) (goal : Ts) : Dev :=
  let step : Int := (((goal.units : Nat) : Int) - ((d.tb n).units : Nat)) / ((2 ^ 32 : Nat) : Int)
  let d := ((d.putTb n goal).silPost 0x14 0x0001 (silArg 16 n + silArg 24 (unsgn 64 step))).passOver n
  if n = 0 then d.gateResync step else d

/-! ### Samples of the servo -/

/-- A port code: 11 to 14 act as 15 (R243). -/
def portCode (c : Nat) : Nat := if 11 ≤ c then 15 else c

/-- The sample period P in ns (R221). -/
def Dev.samplePeriod (d : Dev) : Nat := if d.get TMB_SRV_STAT_ACTIVE = 10 then 1000000000 else 62500

/-- The servo enters a state: recorded; LOCKED and HOLDOVER are raised; OFF and FREERUN follow no station (R222, R240,
R243). -/
def Dev.srvGo (d : Dev) (st : Nat) : Dev :=
  let old := d.get TMB_SRV_STAT_STATE
  let d := (d.set TMB_SRV_STAT_STATE st).modServo (fun s => { s with good := 0, bad := 0, hold := 0 })
  let d := if st ≤ 1 then d.set TMB_SRV_STAT_SOURCE 0xFFF else d
  let d := if st = 1 then d.set TMB_SRV_CTL_REACQ 0 else d
  if old = st then d
  else
    let d := d.silPost 0x14 0x0003 (silArg 16 old + silArg 17 st)
    if st = 3 then d.raise TMB_EVT_LOCKED else if st = 4 then d.raise TMB_EVT_HOLDOVER else d

/-- f set to fnum / P (R221), with its register in ppb. -/
def Dev.setF (d : Dev) (fnum : Int) (period : Nat) : Dev :=
  (d.modServo (fun s => { s with fnum := fnum, period := period })).set TMB_SRV_FREQ_F
    (unsgn 32 (fnum * 1000000000 / ((period * 2 ^ 23 : Nat) : Int)))

def clampInt (lo hi v : Int) : Int := max lo (min hi v)

/-- The steering of R221; e in 2^-8 ns. -/
def Dev.steer (d : Dev) (e : Int) : Dev :=
  let p := d.samplePeriod
  let lim : Int := ((p * 2 ^ 23 / 5000 : Nat) : Int)
  let x : Int := e * ((2 ^ 15 : Nat) : Int)
  let integ := clampInt (-lim) lim (d.time.servo.integ + x / ((2 ^ d.get TMB_SRV_GAIN_KI_SH : Nat) : Int))
  let d := d.setF (clampInt (-lim) lim (x / ((2 ^ d.get TMB_SRV_GAIN_KP_SH : Nat) : Int) + integ)) p
  d.modServo (fun s => { s with integ := integ, r := e * ((2 ^ 24 : Nat) : Int) })

/-- A sample of offset e (2^-8 ns) from a reference station, as R220 to R223 treat it. -/
def Dev.servoSample (d : Dev) (e : Int) (source : Option Nat) : Dev :=
  let st := d.get TMB_SRV_STAT_STATE
  if st = 0 then d
  else
    let d := (d.inc TMB_SRV_SAMPLES_COUNT).set TMB_SRV_OFS_E (unsgn 32 e)
    if st = 1 then
      let d := match source with
        | some n => d.set TMB_SRV_STAT_SOURCE n
        | none => d
      let d := d.stepTb 0 (Ts.ofUnits ((((d.tb 0).units : Nat) : Int) + e * ((2 ^ 24 : Nat) : Int)))
      let d := (d.setF 0 d.samplePeriod).modServo (fun s => { s with integ := 0, r := 0 })
      d.srvGo 2
    else if d.get (TMB_TBn_STEPLIM_NS 0) * 256 < e.natAbs then
      let d := ((d.raise TMB_EVT_JUMP_REFUSED).inc TMB_SRV_REFUSED_COUNT).silPost 0x14 0x0002
        (silArg 24 (unsgn 64 e))
      d.srvGo 4
    else
      let near := decide (e.natAbs ≤ d.get TMB_SRV_GAIN_LOCK_THR * 256)
      if st = 4 then
        let d := d.modServo (fun s => { s with hold := s.hold + 1 })
        if d.time.servo.hold < 8 then d else (d.steer e).srvGo 2
      else if st = 2 then
        let d := (d.steer e).modServo (fun s => { s with good := if near then s.good + 1 else 0 })
        if d.time.servo.good < 16 then d else d.srvGo 3
      else
        let d := (d.steer e).modServo (fun s => { s with bad := if near then 0 else s.bad + 1 })
        if d.time.servo.bad < 4 then d else d.srvGo 2

/-- The sample of the TIME cycle that ends acts (R220 to R223, R226): until then what happens in the same cycle goes before it. -/
def Dev.settleSample (d : Dev) : Dev :=
  match d.time.sample with
  | some x => (d.modTime (fun t => { t with sample := none })).servoSample x.e x.source
  | none => d

/-- A sample taken from a port: it acts as the TIME cycle in which it arrives ends (R226); one before it in the same cycle acts first. -/
def Dev.takeSample (d : Dev) (port : Nat) (e : Int) (source : Option Nat) : Dev :=
  d.settleSample.modTime (fun t => { t with sample := some ⟨port, e, source⟩ })

/-- A port has left ADMIT and RUN: its sample of the same TIME cycle is discarded (R226). -/
def Dev.dropSample (p : Nat) (d : Dev) : Dev :=
  if d.time.sample.any (fun x => x.port == p) then d.modTime (fun t => { t with sample := none }) else d

/-! ### The passing of time -/

/-- `k` TIME cycles of 2 ns pass: the time bases count while CORE is ON, follow the oscillator while it is in RET, and stand still
while it is OFF (R213, R512, R514). The heads that are eligible before are tagged first (R253), and a sample of the cycle that ends acts (R226); the visits of a sampling pass that fall
due are made (R265). -/
def Dev.pass (k : Nat) (d : Dev) : Dev :=
  let d := (if k = 0 then d else d.settleSample).retagTrunks
  let was := d.oscTicks
  let d := { d with power := { d.power with osc := d.power.osc + k } }
  if d.get (PWR_Dd_STAT_STATE 3) = 0 then ((d.modTime (fun x => { x with cyc := x.cyc + k })).countOn k).showBackoffs.ageRtt.passOn
  else if d.get (PWR_Dd_STAT_STATE 3) = 1 then d.tickOn (d.oscTicks - was)
  else d

/-- Time passes up to an instant in steps of 2 ns, where it lies ahead. -/
def Dev.passTo (at_ : Nat) (d : Dev) : Dev := if d.power.osc < at_ then d.pass (at_ - d.power.osc) else d

/-- The instants at which swaps fall due within a number of steps, rising (R290). -/
def Dev.swapInstants (d : Dev) (k : Nat) : List Nat :=
  ((d.acc.swaps.filter (fun x => x.due ≤ d.power.osc + k)).foldl (fun (t : Tab Unit) x => Tab.insert x.due () (Tab.erase x.due t)) []).map
    Prod.fst

/-- `k` TIME cycles of 2 ns pass: the commands of the windows complete, and each clock domain of a committed accord swaps at its instant
(R153, R290). -/
def Dev.elapse (k : Nat) (d : Dev) : Dev :=
  let goal := d.power.osc + k
  let d := if k = 0 then d else d.winEnd
  let d := forAll (d.swapInstants k) (fun t d => (d.passTo t).swapsDue) d
  d.passTo goal

/-- TIME cycles until a time base has advanced by `need` units; 0 where it does not count. -/
def Dev.cyclesFor (d : Dev) (n : Nat) (need : Int) : Nat :=
  let per := d.advance n 1 + d.slewPart n 1
  if need ≤ 0 || per ≤ 0 || !d.time.counting || d.get (PWR_Dd_STAT_STATE 3) != 0 then 0 else ((need + per - 1) / per).toNat

/-- The time that passes before the time base reaches an instant in units; none if it has. -/
def Dev.reach (d : Dev) (n : Nat) (at_ : Nat) : Dev := d.elapse (d.cyclesFor n ((at_ : Int) - ((d.tb n).units : Nat)))

/-- The time that passes before the time base crosses the next multiple of `per` ns plus `ofs` ns; none where it crossed
one in the present TIME cycle. -/
def Dev.reachMultiple (d : Dev) (n per : Nat) (ofs : Int) : Dev :=
  let p : Int := ((per * 2 ^ 32 : Nat) : Int)
  let m := ((((d.tb n).units : Nat) : Int) - ofs * ((2 ^ 32 : Nat) : Int)) % p
  if m < d.advance n 1 then d else d.elapse (d.cyclesFor n (p - m))

/-! ### Rows of the time bases -/

/-- A time base as a snapshot takes it: where a load took effect in the same TIME cycle, as it stood before (R226). -/
def Dev.snapTb (d : Dev) (n : Nat) : TimeBase :=
  match d.time.pre with
  | some (c, l) => if c = d.time.cyc then l.get n ⟨0, 0, 0⟩ else d.tb n
  | none => d.tb n

/-- All four time bases copied into their snapshot registers (R215). -/
def tbSnapshot (d : Dev) : Dev :=
  forAll (List.range 4) (fun n d =>
    let t := d.snapTb n
    (((d.set (TMB_TBn_SNAP_SEC_HI_SEC n) (t.sec / 2 ^ 32)).set (TMB_TBn_SNAP_SEC_LO_SEC n) t.sec).set
      (TMB_TBn_SNAP_NS_NS n) t.ns).set (TMB_TBn_SNAP_FRAC_FRAC n) t.frac) d

def execTbSnapshot (s : State) : Host.Outcome State Fault Refusal := s.runOn 3 tbSnapshot

/-- A write of an increment: refused for TB0 while the servo is enabled (R216). -/
def tbIncrWrite (n : Nat) (frac : Bool) (v : Nat) (d : Dev) : Dev :=
  if d.owned n then d.raise TMB_EVT_SW_REFUSED
  else if frac then d.set (TMB_TBn_INCR_FRAC_FRAC n) v else d.set (TMB_TBn_INCR_NS_NS n) v

def execTbIncrWrite (n : Fin 4) (frac : Bool) (val : Word) (s : State) : Host.Outcome State Fault Refusal :=
  s.runOn 3 (tbIncrWrite n frac val.toNat)

/-- A write of PADJ (R216). -/
def tbPhaseSlew (n : Nat) (v : Nat) (d : Dev) : Dev :=
  if d.owned n then d.raise TMB_EVT_SW_REFUSED
  else if d.flag (TMB_TBn_STAT_PADJ_BUSY n) || d.get (TMB_TBn_STEPLIM_NS n) < (sgn 32 v).natAbs then
    d.raise TMB_EVT_JUMP_REFUSED
  else
    (d.modTime (fun x => { x with padj := x.padj.set n (sgn 32 v * ((2 ^ 32 : Nat) : Int)) 0 })).setB
      (TMB_TBn_STAT_PADJ_BUSY n) (sgn 32 v != 0)

def execTbPhaseSlew (n : Fin 4) (val : Word) (s : State) : Host.Outcome State Fault Refusal :=
  s.runOn 3 (tbPhaseSlew n val.toNat)

/-- The whole amount of a slew has been added: the time that takes passes, and PADJ_BUSY clears (R216). -/
def padjSlewDone (n : Nat) (d : Dev) : Dev :=
  let rem := (d.time.padj.get n 0).natAbs
  let d := if 0 < d.incr n ∧ d.time.counting then d.elapse ((rem * 10000 + d.incr n - 1) / d.incr n) else d
  if d.time.padj.get n 0 = 0 then d.set (TMB_TBn_STAT_PADJ_BUSY n) 0 else d

def execPadjSlewDone (n : Fin 4) (s : State) : Host.Outcome State Fault Refusal := s.runOn 3 (padjSlewDone n)

/-- The time bases as they stand before the first load of a TIME cycle (R226). -/
def Dev.keepPre (d : Dev) : Dev :=
  if d.time.pre.map Prod.fst = some d.time.cyc then d else d.modTime (fun x => { x with pre := some (x.cyc, x.tbs) })

/-- A load of a time base: sets seconds and nanoseconds, clears the fraction, cancels a slew (R216, R226). -/
def tbLoad (n : Nat) (d : Dev) : Dev :=
  if d.owned n || 1000000000 ≤ d.get TMB_LOAD_NS_NS then d.raise TMB_EVT_SW_REFUSED
  else
    let d := (d.keepPre.modTime (fun x => { x with padj := x.padj.set n 0 0 })).set (TMB_TBn_STAT_PADJ_BUSY n) 0
    d.stepTb n ⟨d.get TMB_LOAD_SEC_HI_SEC * 2 ^ 32 + d.get TMB_LOAD_SEC_LO_SEC, d.get TMB_LOAD_NS_NS, 0⟩

def execTbLoad (n : Fin 4) (s : State) : Host.Outcome State Fault Refusal := s.runOn 3 (tbLoad n)

/-- The TIME PLL locks; from the first lock after a reset the time bases count (R213, R217). -/
def timePllLock (d : Dev) : Dev := (d.set TMB_CLK_CTL_PLL_LOCK 1).modTime (fun x => { x with counting := true })

def execTimePllLock (s : State) : Host.Outcome State Fault Refusal := s.runOn 3 timePllLock

/-- TIMEREF, the source the PLL locks to, is lost: the PLL holds (R217). -/
def timerefLost (d : Dev) : Dev :=
  if d.get TMB_CLK_CTL_REFSEL = 1 ∨ d.get TMB_CLK_CTL_REFSEL = 2 then
    ((d.set TMB_CLK_CTL_PLL_LOCK 0).raise TMB_EVT_TIMEREF_LOST).silPost 0x14 0x0020 0
  else d

def execTimerefLost (s : State) : Host.Outcome State Fault Refusal := s.runOn 3 timerefLost

/-! ### Rows of the servo -/

/-- EN written 1: from OFF the servo enters FREERUN (R222). -/
def servoEnable (d : Dev) : Dev :=
  let d := (d.set TMB_SRV_CTL_EN 1).set (TMB_TBn_STAT_OWNED 0) 1
  if d.get TMB_SRV_STAT_STATE = 0 then d.srvGo 1 else d

def execServoEnable (s : State) : Host.Outcome State Fault Refusal := s.runOn 3 servoEnable

/-- EN written 0: f is 0 and the servo is OFF (R222). -/
def servoDisable (d : Dev) : Dev :=
  ((((d.set TMB_SRV_CTL_EN 0).set (TMB_TBn_STAT_OWNED 0) 0).setF 0 d.time.servo.period)).srvGo 0

def execServoDisable (s : State) : Host.Outcome State Fault Refusal := s.runOn 3 servoDisable

/-- The return to FREERUN, with f 0 (R222). -/
def Dev.reacquire (d : Dev) : Dev := (d.setF 0 d.time.servo.period).srvGo 1

/-- REACQ written 1: in any state but OFF, f is 0 and the servo returns to FREERUN (R222); a sample of the same TIME cycle comes after it
and steps TB0 (R226). -/
def servoReacq (d : Dev) : Dev := if d.get TMB_SRV_STAT_STATE = 0 then d.set TMB_SRV_CTL_REACQ 1 else d.reacquire

def execServoReacq (s : State) : Host.Outcome State Fault Refusal := s.runOn 3 servoReacq

/-- A write of SRC: a change makes the new port active at once (R224). -/
def servoSrcWrite (src : Nat) (d : Dev) : Dev :=
  if d.get TMB_SRV_CTL_SRC = src then d
  else (d.set TMB_SRV_CTL_SRC src).set TMB_SRV_STAT_ACTIVE (portCode src)

def execServoSrcWrite (src : Fin 16) (s : State) : Host.Outcome State Fault Refusal := s.runOn 3 (servoSrcWrite src)

/-- No sample for 4 x P: the servo switches to ALT if that port delivered a qualifying tick within the last 2 x P, which are P cycles of
2 ns, else it holds over (R222, R224). -/
def servoSampleTimeout (d : Dev) : Dev :=
  let st := d.get TMB_SRV_STAT_STATE
  if st = 2 ∨ st = 3 then
    let alt := portCode (d.get TMB_SRV_CTL_ALT)
    let old := d.get TMB_SRV_STAT_ACTIVE
    if alt ≠ 15 ∧ alt ≠ old ∧ d.time.cyc ≤ d.time.servo.lastTick.get alt 0 + d.samplePeriod
        ∧ (d.time.servo.lastTick.find alt).isSome then
      ((d.set TMB_SRV_STAT_ACTIVE alt).raise TMB_EVT_SRC_SWITCH).silPost 0x14 0x0004 (silArg 16 old + silArg 17 alt)
    else d.srvGo 4
  else d

def execServoSampleTimeout (s : State) : Host.Outcome State Fault Refusal := s.runOn 3 servoSampleTimeout

/-! ### PPS -/

/-- A PPS_IN edge: one of the polarity IN_EDGE is stamped, and is a sample where PPS_IN is the servo's source (R220,
R221, R228). -/
def ppsInEdge (rise : Bool) (d : Dev) : Dev :=
  if d.flag TMB_PPS_CTL_IN_EDGE == rise then d
  else
    let t := d.tb (d.get TMB_PPS_CTL_IN_TB)
    let d := (((d.set TMB_PPS_IN_SEC_SEC t.sec).set TMB_PPS_IN_NS_NS t.ns)).raise TMB_EVT_PPS_IN
    if d.get TMB_SRV_STAT_ACTIVE = 10 then
      let u : Int := (((d.tb 0).units / 2 ^ 24 : Nat) : Int)
      let s : Int := ((1000000000 * 256 : Nat) : Int)
      let d := d.modServo (fun x => { x with lastTick := x.lastTick.set 10 d.time.cyc 0 })
      d.takeSample 10 ((u + s / 2) / s * s - u) none
    else d

def execPpsInEdge (rise : Bool) (s : State) : Host.Outcome State Fault Refusal := s.runPins 3 (ppsInEdge rise)

/-- The time base of PPS_OUT crosses a whole second plus the offset: the output rises (R227). -/
def ppsOutPulse (d : Dev) : Dev :=
  if d.flag TMB_PPS_CTL_OUT_EN then
    (d.reachMultiple (d.get TMB_PPS_CTL_OUT_TB) 1000000000 (sgn 32 (d.get TMB_PPS_OFS_NS))).modTime
      (fun x => { x with ppsOut := true })
  else d

def execPpsOutPulse (s : State) : Host.Outcome State Fault Refusal := s.runOn 3 ppsOutPulse

/-- OUT_WIDTH microseconds have passed: the output falls (R227). -/
def ppsOutPulseEnd (d : Dev) : Dev := d.modTime (fun x => { x with ppsOut := false })

def execPpsOutPulseEnd (s : State) : Host.Outcome State Fault Refusal := s.runOn 3 ppsOutPulseEnd

/-! ### Pushes and edges -/

/-- Whether an action suits the pin's mode, and a train's pulse its period (R229, R230). -/
def Dev.tioSuits (d : Dev) (k act width : Nat) : Bool :=
  let m := d.get (TIO_CFGk_MODE k)
  if act ≤ 2 || act = 5 then m == 4 || m == 5
  else if act = 3 then m == 5 && width * 8 < d.get (TIO_PERk_NS k)
  else act == 4 && m == 5

/-- Whether an instant is later than the last queued event's (R230). -/
def laterThan (sec ns : Nat) : Option TioEvent → Bool
  | some e => e.sec < sec || (e.sec == sec && e.ns < ns)
  | none => true

/-- A push of an event with the instant in TIO_EV_SEC and TIO_EV_NS; a late one is treated at once (R230, R231). Where several refusals
apply ERR shows CONFIG before FULL before ORDER (DESIGN CHOICE, log entry 109: R230 ranks none). -/
def tioPush (act k width : Nat) (d : Dev) : Dev :=
  let p := d.pin k
  let e : TioEvent := ⟨d.get TIO_EV_SEC_SEC, d.get TIO_EV_NS_NS, act, width⟩
  if !d.tioSuits k act width then d.set TIO_EV_RES_ERR 3
  else if p.evq.length = 16 then d.set TIO_EV_RES_ERR 1
  else if !laterThan e.sec e.ns p.evq.getLast? then d.set TIO_EV_RES_ERR 2
  else
    let d := d.set TIO_EV_RES_ERR 0
    if d.passed k e.sec e.ns then d.tioLate k e else d.putPin k { p with evq := p.evq ++ [e] }

def execTioPushLow (k : Fin 16) (width : BitVec 24) (s : State) : Host.Outcome State Fault Refusal :=
  s.runOn 3 (tioPush 0 k width.toNat)
def execTioPushHigh (k : Fin 16) (width : BitVec 24) (s : State) : Host.Outcome State Fault Refusal :=
  s.runOn 3 (tioPush 1 k width.toNat)
def execTioPushPulse (k : Fin 16) (width : BitVec 24) (s : State) : Host.Outcome State Fault Refusal :=
  s.runOn 3 (tioPush 2 k width.toNat)
def execTioPushStart (k : Fin 16) (width : BitVec 24) (s : State) : Host.Outcome State Fault Refusal :=
  s.runOn 3 (tioPush 3 k width.toNat)
def execTioPushStop (k : Fin 16) (width : BitVec 24) (s : State) : Host.Outcome State Fault Refusal :=
  s.runOn 3 (tioPush 4 k width.toNat)

/-- CLEAR empties the pin's queue at push time (R230). -/
def tioPushClear (k : Nat) (d : Dev) : Dev :=
  if !d.tioSuits k 5 0 then d.set TIO_EV_RES_ERR 3
  else (d.set TIO_EV_RES_ERR 0).putPin k { d.pin k with evq := [] }

def execTioPushClear (k : Fin 16) (s : State) : Host.Outcome State Fault Refusal := s.runOn 3 (tioPushClear k)

/-- The instant of the oldest queued event comes, and the pin acts (R230). -/
def tioEventDue (k : Nat) (d : Dev) : Dev :=
  match (d.pin k).evq with
  | [] => d
  | e :: rest =>
    let n := d.get (TIO_CFGk_TB k)
    let hi := (d.tb n).sec / 2 ^ 32 * 2 ^ 32
    let d := d.reach n (Ts.units ⟨hi + e.sec, e.ns, 0⟩)
    if d.passed k e.sec e.ns then (d.putPin k { d.pin k with evq := rest }).tioAct k e else d

def execTioEventDue (k : Fin 16) (s : State) : Host.Outcome State Fault Refusal := s.runOn 3 (tioEventDue k)

/-- A pulse in progress ends: the pin returns to IDLE (R230). -/
def tioPulseEnd (k : Nat) (d : Dev) : Dev :=
  if (d.pin k).pulse then
    (d.set (TIO_STATk_LEVEL k) (d.get (TIO_CFGk_IDLE k))).putPin k { d.pin k with pulse := false }
  else d

def execTioPulseEnd (k : Fin 16) (s : State) : Host.Outcome State Fault Refusal := s.runOn 3 (tioPulseEnd k)

/-- A period of a running pulse train passes: the next pulse starts (R229, R230). -/
def tioTrainPeriod (k : Nat) (d : Dev) : Dev :=
  if d.get (TIO_CFGk_MODE k) = 5 ∧ (d.pin k).train.isSome then d.pulseOn k else d

def execTioTrainPeriod (k : Fin 16) (s : State) : Host.Outcome State Fault Refusal := s.runOn 3 (tioTrainPeriod k)

/-- The level at a pin that the hub does not drive, in OFF, GPIN and CAPTURE, is what the outside drives (R229). -/
def Dev.showLevel (k : Nat) (d : Dev) : Dev :=
  if [0, 1, 3].contains (d.get (TIO_CFGk_MODE k)) then d.setB (TIO_STATk_LEVEL k) (d.time.levels.get k false) else d

/-- A filtered edge on a pin in CAPTURE mode: one of a selected polarity is stamped, or dropped where the FIFO is full;
a pin that is an input or high impedance shows the level (R229, R232, R245). -/
def tioCaptureEdge (k : Nat) (rise : Bool) (d : Dev) : Dev :=
  let d := (d.modTime (fun t => { t with levels := t.levels.set k rise false })).showLevel k
  if d.get (TIO_CFGk_MODE k) = 3 then
    if (d.get (TIO_CFGk_EDGE k)).testBit (if rise then 0 else 1) then
      let p := d.pin k
      if p.caps.length < 16 then
        let t := d.tb (d.get (TIO_CFGk_TB k))
        d.putPin k { p with caps := p.caps ++ [⟨t.sec % 2 ^ 32, t.ns, rise⟩] }
      else d.inc TIO_CAPLOST_COUNT
    else d
  else d

def execTioCaptureEdge (k : Fin 16) (rise : Bool) (s : State) : Host.Outcome State Fault Refusal :=
  s.runPins 3 (tioCaptureEdge k rise)

/-- The oldest stamp of the selected pin is removed (R232). -/
def tioCapPop (d : Dev) : Dev :=
  let k := d.get TIO_CAP_SEL_PIN
  d.putPin k { d.pin k with caps := (d.pin k).caps.drop 1 }

def execTioCapPop (s : State) : Host.Outcome State Fault Refusal := s.runOn 3 tioCapPop

/-- A write of TIO_CFG: the mode changes, the pin's event queue and capture FIFO are emptied, and the level follows the mode (R229,
R245). -/
def tioCfgWrite (k v : Nat) (d : Dev) : Dev :=
  let d := ((d.set (TIO_CFGk_MODE k) v).set (TIO_CFGk_TB k) (v / 16)).set (TIO_CFGk_EDGE k) (v / 64)
  let d := ((d.set (TIO_CFGk_LATE k) (v / 256)).set (TIO_CFGk_OUT k) (v / 512)).set (TIO_CFGk_IDLE k) (v / 1024)
  let d := (d.set (TIO_CFGk_FILT k) (v / 4096)).putPin k TioPin.reset
  let m := d.get (TIO_CFGk_MODE k)
  if m = 2 then d.set (TIO_STATk_LEVEL k) (d.get (TIO_CFGk_OUT k))
  else if m = 4 ∨ m = 5 then d.set (TIO_STATk_LEVEL k) (d.get (TIO_CFGk_IDLE k))
  else d.showLevel k

def execTioCfgWrite (k : Fin 16) (val : Word) (s : State) : Host.Outcome State Fault Refusal :=
  s.runOn 3 (tioCfgWrite k val.toNat)

/-! ### The Sillage writer -/

/-- Whether the ring holds a free entry; in OVERWRITE mode the writer ignores SIL_RD (R239). -/
def Dev.silFree (d : Dev) : Bool :=
  0 < d.silSize && (d.flag SIL_CTL_MODE || (d.get SIL_WR_IDX + 1) % d.silSize != d.get SIL_RD_IDX % d.silSize)

/-- The unread entries of the ring: all of them while OVERRUN reads 1 (R239, R241). -/
def Dev.silUnread (d : Dev) : Nat :=
  if d.flag SIL_STAT_OVERRUN then d.silSize else (d.get SIL_WR_IDX + d.silSize - d.get SIL_RD_IDX % d.silSize) % d.silSize

/-- An entry written to the ring (R236, R239, R241). -/
def Dev.silStore (d : Dev) (e : SilEntry) : Dev :=
  let n := d.silSize
  let wr := d.get SIL_WR_IDX
  let rd := d.get SIL_RD_IDX
  let v := e.time + e.src * 2 ^ 64 + e.code * 2 ^ 80 + d.get SIL_SEQ_SEQ * 2 ^ 96 + e.args * 2 ^ 128
  let d := (d.engWrite (baseAddr (d.get SIL_BASE_BASE) false + 32 * wr) (natLE 32 v)).inc SIL_SEQ_SEQ
  let was := d.silUnread
  let w := d.get SIL_WATER_ENTRIES
  let d := d.set SIL_WR_IDX ((wr + 1) % n)
  let d := if d.flag SIL_CTL_MODE && (wr + 1) % n == rd % n then d.set SIL_STAT_OVERRUN 1 else d
  let d := if was < w && w ≤ d.silUnread then d.raise SIL_EVT_WATER else d
  if !d.flag SIL_CTL_MODE && (wr + 2) % n == rd % n then d.raise SIL_EVT_FULL else d

/-- A GAP entry, once space is free after drops (R238). -/
def sillageGap (d : Dev) : Dev :=
  if d.flag SIL_CTL_EN && d.silFree && 0 < d.sil.lost then
    let n := d.sil.lost
    ({ d with sil := { d.sil with lost := 0 } }).silStore ⟨d.now % 2 ^ 64, 0x00, 0x0001, n % 2 ^ 32⟩
  else d

def execSillageGap (s : State) : Host.Outcome State Fault Refusal := s.runOn 3 sillageGap

/-- The writer takes the oldest entry of its FIFO to the ring, or drops it (R238). -/
def sillageWrite (d : Dev) : Dev :=
  match d.sil.fifo with
  | [] => sillageGap d
  | e :: rest =>
    if d.flag SIL_CTL_EN then
      let d := sillageGap d
      let d := { d with sil := { d.sil with fifo := rest } }
      if d.silFree then d.silStore e else d.silDrop
    else d

def execSillageWrite (s : State) : Host.Outcome State Fault Refusal := s.runOn 3 sillageWrite

/-- A write of SIL_RD frees entries and clears OVERRUN (R239). -/
def silRdWrite (v : Nat) (d : Dev) : Dev := (d.set SIL_RD_IDX v).set SIL_STAT_OVERRUN 0

def execSilRdWrite (val : Word) (s : State) : Host.Outcome State Fault Refusal := s.runOn 3 (silRdWrite val.toNat)

end Sys2Proof.Machine
end

