-- ==== Sys2Proof/Machine/Sched.lean ====
section
/-! DEFINITION. The rows of the schedulers (spec 08): gate cycles (R255 to R257), policers (R262 to R264), sampling passes (R265),
and the windows of the block (R273, R276, R278). -/

namespace Sys2Proof.Machine

/-! ### Gate cycles -/

/-- A gate cycle starts: a waiting change applies; a bank whose entries were cut or extended is reported once per selection
(R256, R257). -/
def gateCycleStart (p : Nat) (d : Dev) : Dev :=
  let pend := d.flag (SCH_GATEp_CTL_PENDING p)
  let b := if pend then d.applyBank p else d.get (SCH_GATEp_CTL_ACTIVE p)
  if pend || (d.sch.gateOn.get p false && d.bankValid p b) then
    let d := d.reachMultiple 0 (d.get (SCH_GATEp_CYCb_NS p b)) (d.get (SCH_GATEp_OFSb_NS p b) : Nat)
    let d := if pend then d.gateApply p else d
    let a := d.get (SCH_GATEp_CTL_ACTIVE p)
    if d.sch.gateOn.get p false && d.bankValid p a && !d.bankExact p a && !d.sch.cfgRaised.get p false then
      ((d.silPost 0x12 0x0005 (silArg 16 p + silArg 17 a)).raise SCH_EVT_GATE_CFG).modSch (fun s =>
        { s with cfgRaised := s.cfgRaised.set p true false })
    else d
  else d

def execGateCycleStart (p : Fin 2) (s : State) : Host.Outcome State Fault Refusal := s.runOn 3 (gateCycleStart p)

/-- An entry's DUR ends: the time passes, and the next entry's gates apply (R255). -/
def gateEntryBoundary (p : Nat) (d : Dev) : Dev :=
  match d.gateState p with
  | none => d
  | some (l, ph) =>
    match cycleFrom l ph with
    | some (x, _) => d.elapse (d.cyclesFor 0 (((x.stop * 2 ^ 32 - ph : Nat)) : Int))
    | none => d

def execGateEntryBoundary (p : Fin 2) (s : State) : Host.Outcome State Fault Refusal := s.runOn 3 (gateEntryBoundary p)

/-! ### Policers -/

/-- The colour of a packet of B frame bytes with a pre-colour (0 green, 1 yellow, 2 red), and the buckets after it
(R262). -/
def Dev.mark (d : Dev) (c b pre : Nat) : Nat × Policer :=
  let x := d.buckets c
  let n := b * 2 ^ 24
  if d.flag (POL_W0_MODE c) then
    if pre = 2 ∨ x.tx < n then (2, x)
    else if pre = 1 ∨ x.tc < n then (1, { x with tx := x.tx - n })
    else (0, { x with tx := x.tx - n, tc := x.tc - n })
  else if pre = 0 ∧ n ≤ x.tc then (0, { x with tc := x.tc - n })
  else if pre ≠ 2 ∧ n ≤ x.tx then (1, { x with tx := x.tx - n })
  else (2, x)

/-! ### Telemetry -/

/-- The time to the next start of a pass: a multiple of PERIOD microseconds within the second (R265). -/
def Dev.reachPass (d : Dev) : Dev :=
  let p := d.get SCH_TEL_CTL_PERIOD * 1000 * 2 ^ 32
  let t := d.tb 0
  let u := t.ns * 2 ^ 32 + t.frac
  let m := u % p
  if ((m : Nat) : Int) < d.advance 0 1 then d
  else d.elapse (d.cyclesFor 0 ((min (p - m) (1000000000 * 2 ^ 32 - u) : Nat) : Int))

/-- A sampling pass starts, or is skipped because one still runs (R265); its visits follow as time passes. -/
def telPassStart (d : Dev) : Dev :=
  if d.flag SCH_TEL_CTL_EN && d.get SCH_TEL_CTL_PERIOD != 0 then
    let d := d.reachPass
    if d.passRuns then (d.inc SCH_TEL_OVERRUN_COUNT).raise SCH_EVT_TEL_OVERRUN
    else
      let qs := (List.range 1216).filter (fun q => d.flag (QCFG_W0_TEL q))
      ((d.modSch (fun s => { s with visits := qs, visitAt := d.coreCycles })).setB SCH_STAT_TEL_BUSY (qs != [])).passOn
  else d

def execTelPassStart (s : State) : Host.Outcome State Fault Refusal := s.runOn 3 telPassStart

/-! ### Windows -/

/-- The gate entry named by the window's index: the register index of its bank, its number (R273). -/
def Dev.gwEntry (d : Dev) : Nat × Nat := (bankIdx (d.get SCH_GW_IDX_PORT) (d.get SCH_GW_IDX_BANK), d.get SCH_GW_IDX_ENTRY)

/-- Command READ of the gate-entry window (R273). -/
def gwReadOp (d : Dev) : Dev :=
  let (i, j) := d.gwEntry
  let d := d.set SCH_GW_DATA0_WORD (d.get (GENT_W0_DUR i j) + d.get (GENT_W0_HT_OPEN i j) * 2 ^ 31)
  ((d.set SCH_GW_DATA1_WORD (d.get (GENT_W1_BASE_OPEN i j))).set SCH_GW_RES_DONE 1).set SCH_GW_RES_ERR 0

def gwRead (d : Dev) : Dev := d.winRun SCH_GW_RES_DONE (gwReadOp)

def execGwRead (s : State) : Host.Outcome State Fault Refusal := s.runOn 3 gwRead

/-- Command WRITE of the gate-entry window, refused with BUSY for the bank in use (R257, R273). -/
def gwWriteOp (d : Dev) : Dev :=
  let (i, j) := d.gwEntry
  let p := d.get SCH_GW_IDX_PORT
  let d := d.set SCH_GW_RES_DONE 1
  if d.bankLocked p (d.get SCH_GW_IDX_BANK) then d.set SCH_GW_RES_ERR 1
  else
    let w := d.get SCH_GW_DATA0_WORD
    ((((d.set (GENT_W0_DUR i j) w).set (GENT_W0_HT_OPEN i j) (w / 2 ^ 31)).set (GENT_W1_BASE_OPEN i j)
      (d.get SCH_GW_DATA1_WORD))).set SCH_GW_RES_ERR 0

def gwWrite (d : Dev) : Dev := d.winRun SCH_GW_RES_DONE (gwWriteOp)

def execGwWrite (s : State) : Host.Outcome State Fault Refusal := s.runOn 3 gwWrite

/-- Word `k` of a queue's state as the window reads it (R276). -/
def Dev.qsWord (d : Dev) (q k : Nat) : Nat :=
  let x := d.elig q
  match k with
  | 0 => d.headTag q % 2 ^ 32
  | 1 => d.headTag q / 2 ^ 32
  | 2 => unsgn 32 (d.tokens q / ((2 ^ 24 : Nat) : Int))
  | 3 => b2n (x.tagged && x.fit) + 2 * b2n (d.gateOpen q) + 4 * b2n (x.head && !x.shaper) + 8 * b2n (x.head && !x.credit)
      + 16 * b2n (match queuePort q with
          | some p => (d.sw.opens.get p []).any (fun o => portQueue p o.sq == q)
          | Option.none => false) + 32 * b2n (d.closedQ q)
  | 4 => d.get (QS_W4_TX_PKTS q)
  | 5 => d.get (QS_W5_TX_BYTES_LO q)
  | 6 => d.get (QS_W6_TX_BYTES_HI q)
  | 7 => d.get (QS_W7_YELLOW q)
  | 8 => d.get (QS_W8_OVERSIZE q)
  | 9 => d.get (QS_W9_LAST_DEPTH q)
  | 10 => d.get (QS_W10_LAST_SOJ q)
  | 11 => d.get (QS_W11_MAX_DEPTH q)
  | 12 => d.get (QS_W12_MAX_SOJ q)
  | 13 => d.get (QS_W13_SAMPLES q)
  | 14 => d.get (QS_W14_OVERRUN q)
  | _ => 0

/-- Command READ of the queue-state window: one snapshot of W0 to W15 (R276). -/
def qsReadOp (d : Dev) : Dev :=
  let d := d.retag (queueEgress (d.get SCH_QS_IDX_Q)) (d.get SCH_QS_IDX_Q)
  (forAll (List.range 16) (fun k e => e.set (SCH_QS_DATAk_WORD k) (d.qsWord (d.get SCH_QS_IDX_Q) k)) d).set
    SCH_QS_RES_DONE 1

def qsRead (d : Dev) : Dev := d.winRun SCH_QS_RES_DONE (qsReadOp)

def execQsRead (s : State) : Host.Outcome State Fault Refusal := s.runOn 3 qsRead

/-- Command CLRCNT of the queue-state window (R276). -/
def qsClrcntOp (d : Dev) : Dev :=
  let q := d.get SCH_QS_IDX_Q
  let d := (((d.set (QS_W4_TX_PKTS q) 0).set (QS_W5_TX_BYTES_LO q) 0).set (QS_W6_TX_BYTES_HI q) 0).set (QS_W7_YELLOW q) 0
  let d := (((d.set (QS_W8_OVERSIZE q) 0).set (QS_W11_MAX_DEPTH q) 0).set (QS_W12_MAX_SOJ q) 0).set (QS_W13_SAMPLES q) 0
  (d.set (QS_W14_OVERRUN q) 0).set SCH_QS_RES_DONE 1

def qsClrcnt (d : Dev) : Dev := d.winRun SCH_QS_RES_DONE (qsClrcntOp)

def execQsClrcnt (s : State) : Host.Outcome State Fault Refusal := s.runOn 3 qsClrcnt

/-- Command READ of the policer-state window: one snapshot of W0 to W5 (R278). -/
def psReadOp (d : Dev) : Dev :=
  let c := d.get SCH_PS_IDX_C
  let x := d.buckets c
  let d := (d.set (SCH_PS_DATAk_WORD 0) (x.tc / 2 ^ 24)).set (SCH_PS_DATAk_WORD 1) (x.tx / 2 ^ 24)
  let d := (d.set (SCH_PS_DATAk_WORD 2) (d.get (PS_W2_GREEN c))).set (SCH_PS_DATAk_WORD 3) (d.get (PS_W3_YELLOW c))
  ((d.set (SCH_PS_DATAk_WORD 4) (d.get (PS_W4_RED c))).set (SCH_PS_DATAk_WORD 5) (d.get (PS_W5_HELD c))).set
    SCH_PS_RES_DONE 1

def psRead (d : Dev) : Dev := d.winRun SCH_PS_RES_DONE (psReadOp)

def execPsRead (s : State) : Host.Outcome State Fault Refusal := s.runOn 3 psRead

/-- Command CLRCNT of the policer-state window (R278). -/
def psClrcntOp (d : Dev) : Dev :=
  let c := d.get SCH_PS_IDX_C
  ((((d.set (PS_W2_GREEN c) 0).set (PS_W3_YELLOW c) 0).set (PS_W4_RED c) 0).set (PS_W5_HELD c) 0).set SCH_PS_RES_DONE 1

def psClrcnt (d : Dev) : Dev := d.winRun SCH_PS_RES_DONE (psClrcntOp)

def execPsClrcnt (s : State) : Host.Outcome State Fault Refusal := s.runOn 3 psClrcnt

end Sys2Proof.Machine
end

