-- ==== Sys2Proof/Machine/LinkRun.lean ====
section
/-! DEFINITION. What a Tirrun port's admission decides (spec 03, spec 04): link states and wrapping (R100, R101, R106, R107),
packets moved or dropped at a break (R105, R205), notices (R108), fencing (R118, R119). -/

namespace Sys2Proof.Machine

/-- The ten Tirrun ports. -/
def ports : List Nat := List.range 10

/-- The other trunk port. -/
def otherTrunk (p : Nat) : Nat := 1 - p

/-- Whether a port wraps: a trunk port of a closed line (R106). -/
def Dev.ring (d : Dev) (p : Nat) : Bool := p < 2 && d.flag (LNK_CTL_RING p)

/-! ### What the Enique agent owes -/

def Dev.modEnq (d : Dev) (f : EniquePart → EniquePart) : Dev := { d with enq := f d.enq }

/-- A message that the Enique agent owes, under its next transaction (R122). -/
def Dev.owe (d : Dev) (code : Nat) (body : List Nat) (port : Option Nat) : Dev :=
  d.modEnq (fun e => { e with nextXid := (e.nextXid + 1) % 2 ^ 32, owe := e.owe ++ [⟨code, false, e.nextXid, body, port⟩] })

/-- DOWNGRADED of a port (R72, R434). -/
def Dev.downgraded (d : Dev) (p : Nat) : Nat := if p < 2 then d.get (TRK_STAT_DOWNGRADED p) else d.get (TCL_STAT_DOWNGRADED (p - 2))

/-- The SEG_REPORT of a port: port, event, partner, mode, DOWNGRADED, failure cause (R125). The spec gives the events no number;
here 0 NEW_NBR, 1 failed, 2 DOWNGRADED, 3 end of a mode request, 4 silence, 5 an answer. -/
def Dev.segBody (d : Dev) (p ev : Nat) : List Nat :=
  [p, ev, d.get (LNK_NBR_UIDHI_UID p) * 2 ^ 32 + d.get (LNK_NBR_UIDLO_UID p), d.cmode p, d.downgraded p,
    d.get (LNK_STAT_CAUSE p)]

def Dev.segReport (d : Dev) (p ev : Nat) : Dev := d.owe 0x0C (d.segBody p ev) none

/-- A sequenced control block waits to be sent on a port (R93). -/
def Dev.sendCtl (d : Dev) (p : Nat) (b : Body) : Dev := d.modLnk p (fun l => { l with ctl := l.ctl ++ [(b, .none)] })

/-- Whether a port carries ACCORD and WRAP blocks (R100). -/
def Dev.carriesCtl (d : Dev) (p : Nat) : Bool := d.linkState p == 3 || d.linkState p == 4

/-- The registers show a LINE accord; LINE_ACTIVE whether any awaits its decision (R312, R314). -/
def Dev.showLine (d : Dev) (id : Nat) (r : LineSt) : Dev :=
  let d := (((d.set ACD_LINE_ID_ID id).set ACD_LINE_STAT_PHASE r.phase).setB ACD_LINE_STAT_ROLE r.role).set
    ACD_LINE_STAT_CODE r.code
  (d.set ACD_LINE_STAT_UPPORT (r.up.getD 0xF)).setB ACD_STAT_LINE_ACTIVE (d.acc.lines.any (fun x => x.2.phase ≤ 2))

/-- The registers follow the LINE accord that they show. -/
def Dev.reshowLine (d : Dev) : Dev :=
  match d.acc.lines.find? (fun x => x.1 == d.get ACD_LINE_ID_ID) with
  | some x => d.showLine x.1 x.2
  | none => d

/-- A hub that becomes fenced aborts its LINE accords that have not committed, and has no vote of its own any more (R120,
R305). -/
def Dev.accordsFenced (d : Dev) : Dev :=
  let d := forAll (d.pendingSlots.filter (fun n => d.get (ACD_SLOTn_STAT_KIND n) == 2)) (fun n d => d.abortSlot n 5) d
  Dev.reshowLine (d.modAcc (fun a => { a with lines := a.lines.map (fun x =>
    (x.1, { x.2 with code := if x.2.own == some true && x.2.code == 0 then 5 else x.2.code
                     own := if x.2.own == some true then none else x.2.own
                     phase := if x.2.phase == 3 then 5 else x.2.phase })) }))

/-- The fence falls: FENCED is set, ADMIT is held at 0 (R118, R119); FENCED is owed to the line manager and to the neighbour on each
port that is in ADMIT or returns there (R121). The cause goes into the message: 1 LATE, 2 epoch ahead, 3 isolated. -/
def Dev.fenceFlag (cause : Nat) (d : Dev) : Dev :=
  let was := d.flag STN_STAT_FENCED
  let d := forAll ports (fun p d => d.set (LNK_CTL_ADMIT p) 0) (d.set STN_STAT_FENCED 1)
  if was then d
  else
    let body := [d.get ACD_EPOCH_EPOCH, cause]
    let d := ((d.raise STN_EVT_FENCE_SET).accordsFenced).owe 0x09 body none
    forAll (ports.filter d.carriesCtl) (fun p d => d.owe 0x09 body (some p)) d

/-- A link state entered: WRAPPED follows it, a servo sample of the same TIME cycle is discarded where the port leaves ADMIT and RUN
(R226), and the moment no port is in RUN any more fences the hub (R106, R110, R118). -/
def Dev.setLink (d : Dev) (p st : Nat) : Dev :=
  let d := (d.set (LNK_STAT_STATE p) st).setB (LNK_STAT_WRAPPED p) (d.ring p && st != 4)
  let d := if d.carriesCtl p then d else d.dropSample p
  let iso := !ports.any (fun k => d.linkState k == 4)
  let was := d.flag STN_STAT_ISOLATED
  let d := d.setB STN_STAT_ISOLATED iso
  if iso && !was then d.fenceFlag 3 else d

/-- RING of a port written: WRAPPED follows it (R106, R110); a lane group ignores the write (R429). -/
def Dev.putRing (d : Dev) (p : Nat) (b : Bool) : Dev :=
  if p < 2 then
    let d := d.setB (LNK_CTL_RING p) b
    d.setB (LNK_STAT_WRAPPED p) (d.ring p && d.linkState p != 4)
  else d

/-! ### The path of a packet -/

/-- Whether a port carries packets of a class (R100). -/
def Dev.openFor (d : Dev) (p cls : Nat) : Bool := d.linkState p == 4 || (d.linkState p == 3 && cls == 0)

/-- Where a packet bound for a port goes: its port and whether it is a wrapped packet; or the counter that its drop
advances, with WRAP_LOOP where it would be wrapped twice (R105 to R107). -/
inductive Path where
  | out (p : Nat) (dataW : Bool)
  | loop (p : Nat)
  | broken (p : Nat)
  deriving DecidableEq, Repr

/-- The path of a packet bound for port `p` (R24, R106, R107). -/
def Dev.pathFor (d : Dev) (p cls : Nat) (dataW : Bool) : Path :=
  if d.openFor p cls then .out p dataW
  else if d.ring p then
    (if dataW then .loop p
     else if d.openFor (otherTrunk p) cls then .out (otherTrunk p) true
     else if d.ring (otherTrunk p) then .loop (otherTrunk p) else .broken (otherTrunk p))
  else .broken p

/-- A drop counted where the path of a packet ends (R105, R107). -/
def Dev.countDrop (d : Dev) : Path → Dev
  | .out _ _ => d
  | .loop p => (d.inc (LNK_WRAPDROP_COUNT p)).raise (LNK_EVT_WRAP_LOOP p)
  | .broken p => d.inc (LNK_LINEDROP_COUNT p)

/-- A packet relinked to another queue, behind the packets there; no threshold is checked (R205). -/
def Dev.movePkt (d : Dev) (i : Nat) (k : Pkt) (q : Nat) (dataW : Bool) : Dev :=
  let sp := k.spilled
  let on := k.occ
  match k.place with
  | .held => d.putPkt i { k with queue := q, dataW := dataW }
  | _ =>
    let d := (d.decBy (SWQ_W2_OCC k.queue) on).decBy (SWQ_W3_SPILLED k.queue) sp
    let d := d.setQueue k.queue ((d.queue k.queue).filter (· != i))
    let d := (d.occAdd q on).incBy (SWQ_W3_SPILLED q) sp
    (d.setQueue q (d.queue q ++ [i])).putPkt i { k with queue := q, dataW := dataW, cut := false }

/-- The packets that wait for a Tirrun port, in order: its queues, then the packets held for it under order 5. -/
def Dev.waitingFor (d : Dev) (p : Nat) : List Nat :=
  (d.busyQueues p).flatMap (fun q => d.queue q)
    ++ (d.sw.held.flatMap Prod.snd).filter (fun i => match d.pkt i with
      | some k => queuePort k.queue == some p
      | none => false)

/-- One waiting packet moved to the wrapped path or dropped; a group packet is not wrapped: it ends here and is counted (R105, R162,
R179). -/
def Dev.reroute (p i : Nat) (d : Dev) : Dev :=
  match d.pkt i with
  | none => d
  | some k =>
    if k.started || d.openFor p k.hdr.cls then d
    else if k.hdr.g then (d.inc TNL_GRPEND_COUNT).releasePkt i
    else match d.pathFor p k.hdr.cls k.dataW with
      | .out p' w => d.movePkt i k (portQueue p' k.sq) w
      | path => (d.countDrop path).releasePkt i

/-- The packets that wait for a port moved or dropped (R105). -/
def Dev.rerouteAll (p : Nat) (d : Dev) : Dev := forAll (d.waitingFor p) (fun i d => d.reroute p i) d

/-- The blocks of a packet not yet sent on a failed port discarded and counted; those still to come follow (R105). -/
def Dev.truncate (p i : Nat) (d : Dev) : Dev :=
  match d.pkt i with
  | none => d
  | some k =>
    let d := (d.incBy (LNK_TRUNC_COUNT p) k.cells.length).releasePkt i
    if k.whole then d else d.putPkt i { k with cells := [], trunc := some p }

/-- The packets whose FIRST went out on a port cut, but for those `keep` names (R105). -/
def Dev.cutSent (p : Nat) (keep : Pkt → Bool) (d : Dev) : Dev :=
  let l := d.sw.opens.get p []
  let stays := fun (o : OpenTx) => match d.pkt o.pkt with
    | some k => keep k
    | none => false
  let d := forAll (l.filter (fun o => !stays o)) (fun o d => d.truncate p o.pkt) d
  d.modSw (fun w => { w with opens := w.opens.set p (l.filter stays) [] })

/-! ### Notices -/

/-- A notice of this hub on its other trunk port, where that port carries it (R108). -/
def Dev.sendNotice (d : Dev) (p : Nat) (unwrap : Bool) (cause : Nat) : Dev :=
  if d.carriesCtl (otherTrunk p) then
    d.sendCtl (otherTrunk p) (.wrap ⟨unwrap, p, cause, d.get STN_ID_NUM, 0, d.tb 0, []⟩)
  else d

/-- A ring port leaves RUN (R108). -/
def Dev.wrapOn (d : Dev) (p cause : Nat) : Dev :=
  if d.ring p then (d.raise (LNK_EVT_WRAP_ON p)).sendNotice p false cause else d

/-- A port in RUN returns to ADMIT: all but class CTRL is wrapped or dropped (R101, R119). -/
def Dev.unadmit (p : Nat) (d : Dev) : Dev :=
  let d := d.set (LNK_CTL_ADMIT p) 0
  if d.linkState p = 4 then
    let d := d.setLink p 3
    let d := (d.cutSent p (fun k => k.hdr.cls == 0)).rerouteAll p
    d.wrapOn p 0
  else d

/-- The hub is fenced: its ports in RUN return to ADMIT (R118, R119). -/
def Dev.fence (cause : Nat) (d : Dev) : Dev := forAll ports (fun p d => d.unadmit p) (d.fenceFlag cause)

/-- A port enters RUN from ADMIT (R101, R108). -/
def Dev.enterRun (p : Nat) (d : Dev) : Dev :=
  let d := d.setLink p 4
  if d.ring p then (d.raise (LNK_EVT_WRAP_OFF p)).sendNotice p true 0 else d

/-- A port enters ADMIT, and RUN at once where ADMIT is 1 (R101). -/
def Dev.enterAdmit (p : Nat) (d : Dev) : Dev :=
  let d := d.setLink p 3
  if d.flag (LNK_CTL_ADMIT p) then d.enterRun p else d

/-- ADMIT written 1: discarded while the hub is fenced; a port in ADMIT enters RUN (R101, R119). -/
def linkAdmitWrite (p : Nat) (d : Dev) : Dev :=
  if d.flag STN_STAT_FENCED then d
  else
    let d := d.set (LNK_CTL_ADMIT p) 1
    if d.linkState p = 3 then d.enterRun p else d

def execLinkAdmitWrite (p : Fin 10) (s : State) : Host.Outcome State Fault Refusal := s.runOn (portDomain p) (linkAdmitWrite p)

/-- ADMIT written 0 (R101). -/
def execLinkUnadmitWrite (p : Fin 10) (s : State) : Host.Outcome State Fault Refusal := s.runOn (portDomain p) (Dev.unadmit p)

/-- A received notice recorded in Sillage (R617). -/
def Dev.recordNotice (d : Dev) (p : Nat) (m : WrapMsg) : Dev :=
  d.silPost (p + 1) (if m.unwrap then 0x0002 else 0x0001)
    (silArg 16 p + silArg 17 m.port + silArg 18 m.cause + silArg 20 m.station + silArg 22 m.hops
      + silArg 24 (TimeBase.total m.whenAt % 2 ^ 64))

/-- A received notice raised, recorded and forwarded on the other trunk port, unless that port is wrapped or down (R108). -/
def Dev.noticeRx (d : Dev) (p : Nat) (m : WrapMsg) : Dev :=
  let d := (d.raise (LNK_EVT_WRAP_NOTICE p)).recordNotice p m
  if p < 2 && d.ring (otherTrunk p) && d.linkState (otherTrunk p) == 4 then
    d.sendCtl (otherTrunk p) (.wrap { m with hops := m.hops + 1 })
  else d

end Sys2Proof.Machine
end

