-- ==== Sys2Proof/Machine/Accord.lean ====
section
/-! DEFINITION. The accord engine (spec 09): slots (R280, R281), write and read sets (R282 to R286), commit (R289, R293 to
R295), LINE accords (R296 to R305). The instructions that open and close accords stand with Synosh; the rows of ACCORD
blocks with the link layer. -/

namespace Sys2Proof.Machine

/-! ### Slots -/

/-- A fresh accord in the lowest free slot (R280, R281). -/
def Dev.openSlot (d : Dev) (n kind tb t id : Nat) (x : AccSlot) : Dev :=
  let d := (((d.set (ACD_SLOTn_STAT_KIND n) kind).set (ACD_SLOTn_STAT_TB n) tb).set (ACD_SLOTn_STAT_THREAD n) t)
  let d := if kind = 2 then d.modAcc (fun a => { a with aborts := Tab.erase id a.aborts }) else d
  let d := d.modAcc (fun a => { a with born := a.born.set n (a.opened + 1) 0, opened := a.opened + 1 })
  ((d.set (ACD_SLOTn_ID_ID n) id).set (ACD_SLOTn_STAT_WCOUNT n) 0).setAccSlot n x

/-- The slots that are not pending, lowest first (R280). -/
def Dev.freeSlots (d : Dev) : List Nat := (List.range 16).filter (fun n => !d.pendingSlots.contains n)

/-- The slot of the next NOW or AT accord: the lowest free one, but never the last, and none while the engine is off (R281, R311). -/
def Dev.localSlot (d : Dev) : Option Nat :=
  match d.freeSlots with
  | n :: _ :: _ => if d.flag ACD_CTL_EN then some n else none
  | _ => none

/-- The ID of the next NOW or AT accord (R281). -/
def Dev.nextId (d : Dev) : Nat := d.get STN_ID_NUM * 2 ^ 20 + d.get ACD_SERIAL_SERIAL

/-- Whether the time base of an AT accord reads T or later (R293, R310). -/
def Dev.atDue (d : Dev) (n : Nat) : Bool :=
  d.get (ACD_SLOTn_STAT_KIND n) == 1 && (d.accSlot n).t.units ≤ (d.tb (d.get (ACD_SLOTn_STAT_TB n))).units

/-- A thread's latest accord. -/
def Dev.acst (d : Dev) (t : Nat) : Acst := d.syn.latest.get t Acst.reset

def Dev.setAcst (d : Dev) (t : Nat) (x : Acst) : Dev :=
  d.modSyn (fun y => { y with latest := y.latest.set t x Acst.reset, spent := y.spent.set t false false })

/-- The slot of a thread's OPEN accord (R281). -/
def Dev.openOf (d : Dev) (t : Nat) : Option Nat :=
  (List.range 16).find? (fun n => d.get (ACD_SLOTn_STAT_STATE n) == 1 && d.get (ACD_SLOTn_STAT_THREAD n) == t
    && !(d.accSlot n).ace)

/-- The number of entries of a write set (R285). -/
def AccSlot.writes (x : AccSlot) : Nat := x.regs.length + x.mems.length

/-- The bytes of a word that a mask names, over the old bytes. -/
def mergeWord (old mask v : Nat) : Nat :=
  ((List.range 8).map (fun k => (if mask.testBit k then bitsOf v (8 * k) 8 else bitsOf old (8 * k) 8) * 2 ^ (8 * k))).foldl
    (· + ·) 0

/-- A change of a slot's write set, or an abort with CAPACITY where it would exceed 256 entries (R285). -/
def Dev.putWrites (d : Dev) (n : Nat) (x : AccSlot) : Dev :=
  if 256 < x.writes then d.abortSlot n 2 else (d.setAccSlot n x).set (ACD_SLOTn_STAT_WCOUNT n) x.writes

/-- A write of bytes joins the write set, merged into the entries of its 64-bit words (R282); memory whose domain is in QUIESCE or DRAIN
takes none (R515). -/
def Dev.stageMem (d : Dev) (n a : Nat) (l : List Byte) : Dev :=
  let x := d.accSlot n
  let put := fun (m : Tab (Nat × Nat)) (p : Nat × Byte) =>
    let w := p.1 / 8
    let (mask, v) := m.get w (0, 0)
    Tab.insert w (mask ||| 2 ^ (p.1 % 8), mergeWord v (2 ^ (p.1 % 8)) (p.2.toNat * 2 ^ (8 * (p.1 % 8)))) (Tab.erase w m)
  if d.drying (if a < 0x200000 then 1 else 2) then d.abortSlot n 8
  else d.putWrites n { x with mems := ((List.range l.length).zip l).foldl (fun m p => put m (a + p.1, p.2)) x.mems }

/-- A store to a register word joins the write set, or aborts the accord: ILLEGAL where the word may not be staged, CONFLICT
where another pending accord claims it (R283, R286, R288, R296). -/
def Dev.stageReg (d : Dev) (n a v : Nat) : Dev :=
  let x := d.accSlot n
  if !d.stageable a || (a == ACD_EPOCH_A && d.get (ACD_SLOTn_STAT_KIND n) == 2) then d.abortSlot n 8
  else if d.pendingSlots.any (fun k => k != n && ((d.accSlot k).regs.find a).isSome) then d.abortSlot n 1
  else d.putWrites n { x with regs := Tab.insert a v (Tab.erase a x.regs) }

/-- A load inside an accord adds its line to the read set, or aborts it with CAPACITY beyond 512 lines (R284, R285). -/
def Dev.readLine (d : Dev) (n a : Nat) : Dev :=
  let x := d.accSlot n
  if x.rset.contains (a / 64) then d
  else if 512 ≤ x.rset.length then d.abortSlot n 2
  else d.setAccSlot n { x with rset := (a / 64) :: x.rset }

/-- The bytes that the thread of an OPEN accord sees: its staged bytes over memory (R284). -/
def Dev.stagedByte (d : Dev) (n a : Nat) : Byte :=
  match (d.accSlot n).mems.find (a / 8) with
  | some (mask, v) => if mask.testBit (a % 8) then BitVec.ofNat 8 (bitsOf v (8 * (a % 8)) 8) else d.byte a
  | none => d.byte a

/-! ### Commit -/

/-- A staged memory word written. -/
def Dev.swapMem (n : Nat) (e : Nat × (Nat × Nat)) (d : Dev) : Dev :=
  let a := 8 * e.1
  (((d.keepLine a).store a 8 (mergeWord (d.load a 8) e.2.1 e.2.2)).mend a 8).memTouched a 8 n

/-- A pending accord commits: every staged memory word takes its value, each clock domain swaps its staged fields at an instant of its
own (R290), and the commit is counted and recorded (R289, R294, R295, R311, R315, R317). -/
def Dev.commitSlot (n : Nat) (d : Dev) : Dev :=
  let x := d.accSlot n
  let kind := d.get (ACD_SLOTn_STAT_KIND n)
  let d := (d.slotState n 4 0).setAccSlot n AccSlot.reset
  let d := match x.epoch with
    | some e => d.set ACD_EPOCH_EPOCH e
    | none => d
  let t := d.get (ACD_SLOTn_STAT_THREAD n)
  let epoch := x.regs.get ACD_EPOCH_A (d.get ACD_EPOCH_EPOCH)
  let d := forAll x.mems (fun e d => d.swapMem n e) d
  let d := (d.planSwaps x.regs (kind == 0) (if kind = 0 ∧ x.ace = false then some t else none)).swapsDue
  let d := d.inc ACD_COMMITS_COUNT
  let d := if kind = 2 then (d.inc ACD_LINE_COMMITS_COUNT).raise ACD_EVT_LINE_COMMIT else d
  let d := d.silPost 0x13 0x0001 (silArg 16 (d.get (ACD_SLOTn_ID_ID n)) + silArg 20 kind
    + silArg 24 epoch + silArg 28 x.writes)
  if kind = 0 ∨ x.ace then d else d.accordDone n 0

/-- The commit instant of a CLOSED AT accord arrives (R279, R293). -/
def atCommitPoint (n : Nat) (d : Dev) : Dev :=
  if d.get (ACD_SLOTn_STAT_STATE n) = 2 ∧ d.get (ACD_SLOTn_STAT_KIND n) = 1 then
    let d := d.reach (d.get (ACD_SLOTn_STAT_TB n)) (d.accSlot n).t.units
    if d.atDue n then d.commitSlot n else d
  else d

def execAtCommitPoint (n : Fin 16) (s : State) : Host.Outcome State Fault Refusal := s.runOn 3 (atCommitPoint n)

/-- A held accord sees no status stage within 5 s: it aborts with LATE (R308). -/
def heldAccordTimeout (n : Nat) (d : Dev) : Dev :=
  if d.get (ACD_SLOTn_STAT_STATE n) = 3 then d.abortSlot n 4 else d

def execHeldAccordTimeout (n : Fin 16) (s : State) : Host.Outcome State Fault Refusal := s.runOn 3 (heldAccordTimeout n)

/-- A plain store to ACD_EPOCH is discarded (R294). -/
def epochStore (d : Dev) : Dev := d.raise ACD_EVT_EPOCH_REFUSED

def execEpochStore (s : State) : Host.Outcome State Fault Refusal := s.runOn 3 epochStore

/-! ### LINE accords -/

def Dev.line (d : Dev) (id : Nat) : Option LineSt := d.acc.lines.find id

def Dev.putLine (d : Dev) (id : Nat) (r : LineSt) : Dev :=
  (d.modAcc (fun a => { a with lines := Tab.insert id r (Tab.erase id a.lines) })).showLine id r

/-- A LINE accord that is over at this hub; its last state stays shown. -/
def Dev.dropLine (d : Dev) (id : Nat) (r : LineSt) : Dev :=
  (d.modAcc (fun a => { a with lines := Tab.erase id a.lines })).showLine id r

/-- The outcome of an ID kept among the last 64 (R304). -/
def Dev.remember (d : Dev) (id out : Nat) : Dev :=
  d.modAcc (fun a =>
    let h := a.hist.filter (fun x => x.1 != id) ++ [(id, out)]
    { a with hist := h.drop (h.length - 64), aborts := Tab.erase id a.aborts })

def Dev.inHistory (d : Dev) (id : Nat) : Bool := d.acc.hist.any (fun x => x.1 == id)

/-- Whether the hub has no vote of its own: fenced, or its engine not running (R120, R299, R311). -/
def Dev.passive (d : Dev) : Bool := d.flag STN_STAT_FENCED || !d.flag ACD_CTL_EN

/-- The ports in ADMIT or RUN but one, in rising port code (R297, R298). -/
def Dev.accPorts (d : Dev) (skip : Option Nat) : List Nat := ports.filter (fun p => d.carriesCtl p && skip != some p)

/-- The message of a LINE accord with a subtype (R306). -/
def LineSt.msg (r : LineSt) (id subtype : Nat) : AcMsg :=
  ⟨subtype, id, r.epoch, r.t, r.coord, false, 0xFFF, 0, 0, 0, []⟩

/-- An ACCORD block queued on each of a list of ports. -/
def Dev.flood (d : Dev) (l : List Nat) (m : AcMsg) : Dev := forAll l (fun p d => d.sendCtl p (.accord m)) d

/-- The slots that hold a pending LINE accord of an ID (R296, R302). -/
def Dev.lineSlots (d : Dev) (id : Nat) : List Nat :=
  d.pendingSlots.filter (fun n => d.get (ACD_SLOTn_STAT_KIND n) == 2 && d.get (ACD_SLOTn_ID_ID n) == id)

/-- The accord of an ID at this hub aborts (R300, R302, R303). -/
def Dev.abortLine (d : Dev) (id code : Nat) : Dev := forAll (d.lineSlots id) (fun n d => d.abortSlot n code) d

/-- Whether the sender of a tick is trusted enough to vote on T (R300). -/
def Dev.timeOk (d : Dev) : Bool :=
  !d.flag ACD_CTL_TIME_CHK || d.flag TMB_SRV_CTL_REF || d.get TMB_SRV_STAT_STATE == 3 || d.get TMB_SRV_STAT_STATE == 4

/-- The code for which a hub votes NO on an accord, 0 for YES (R300). -/
def Dev.noCode (d : Dev) (id : Nat) (r : LineSt) : Nat :=
  let l := d.lineSlots id
  if (r.epoch + 2 ^ 32 - d.get ACD_EPOCH_EPOCH) % 2 ^ 32 ≠ 1 then 6
  else if r.t.units ≤ (d.tb 0).units then 6
  else if !d.timeOk then 6
  else if l.any (fun n => d.get (ACD_SLOTn_STAT_STATE n) == 1) then 6
  else if l = [] ∧ d.acc.aborts.find id ≠ none then max 1 (d.acc.aborts.get id 6)
  else if d.acc.lines.any (fun x => x.1 != id && x.2.phase ≤ 2) then 1
  else if l = [] ∧ d.freeSlots = [] then 2
  else 0

/-- The own vote turns NO: the slot aborts with the code (R300, R313). -/
def Dev.voteNo (d : Dev) (id : Nat) (r : LineSt) (code : Nat) : LineSt × Dev :=
  ({ r with own := some false, code := code }, (d.abortLine id code).raise ACD_EVT_VOTE_NO)

/-- The own vote judged as a PREPARE arrives, or as the coordinator closes; an empty accord is opened for a hub that holds
none (R296, R299, R300). -/
def Dev.judge (d : Dev) (id : Nat) (r : LineSt) : LineSt × Dev :=
  if d.passive then ({ r with own := none }, d)
  else
    let code := d.noCode id r
    if code ≠ 0 then d.voteNo id r code
    else
      let d := match d.lineSlots id, d.freeSlots with
        | [], n :: _ => (d.openSlot n 2 0 0 id { AccSlot.reset with ace := true, t := r.t }).slotState n 2 0
        | _, _ => d
      ({ r with own := some true }, d)

/-- The combined vote of a hub (R299, R620). -/
def LineSt.combined (r : LineSt) (d : Dev) (id : Nat) : AcMsg :=
  let vs := r.down.filterMap (fun p => (r.answers.find p).join)
  let nos := (vs.filter (fun v => !v.vote)).map (·.noStn)
  let yes := r.own != some false && nos == [] && !r.lost
  { r.msg id 1 with
      vote := yes
      noStn := if r.own == some false then d.get STN_ID_NUM else match nos with
        | x :: _ => if r.lost then 0xFFF else x
        | [] => 0xFFF
      voters := min 4095 ((vs.map (·.voters)).foldl (· + ·) 0 + 1)
      fenced := min 4095 ((vs.map (·.fenced)).foldl (· + ·) 0 + b2n (r.own == none))
      hops := match vs with
        | [] => 0
        | _ => (vs.map (·.hops)).foldl max 0 + 1 }

/-- A decision taken or first received: forwarded, recorded, and held or acted on (R301 to R303, R317); a hub without a vote of its own
ignores it for itself and shows FENCED (R120, R305). -/
def Dev.settle (d : Dev) (id : Nat) (r : LineSt) (go : Bool) (fin : AcMsg) (arrival : Option Nat) : Dev :=
  let r := if go && r.own == none then { r with code := 5 } else r
  let d := d.remember id (if go then 0 else if fin.noStn ≠ 0xFFF then 6 else 7)
  let d := d.flood (d.accPorts arrival) { fin with subtype := if go then 2 else 3 }
  let d := d.set ACD_LINE_INFO_NO_STN fin.noStn
  let d := d.silPost 0x13 0x0004 (silArg 16 id + silArg 20 (b2n go) + silArg 22 fin.voters + silArg 24 fin.noStn)
  if go && r.code == 0 then d.putLine id { r with phase := 3 }
  else
    let code := if fin.noStn ≠ 0xFFF then 6 else 7
    let d := if go then d else d.abortLine id code
    d.dropLine id { r with phase := 5, code := if r.code = 0 ∧ !go then code else r.code }

/-- The coordinator decides on its combined vote (R301). -/
def Dev.decideLine (d : Dev) (id : Nat) (r : LineSt) (go : Bool) (v : AcMsg) : Dev :=
  let d := ((d.set ACD_LINE_INFO_DEPTH v.hops).set ACD_LINE_FENCED_FENCED v.fenced).set ACD_LINE_STAT_VOTERS v.voters
  d.settle id r go { v with vote := go, hops := 0, raw := [] } none

/-- The vote sent or the decision taken, once it is certain (R299, R301). -/
def Dev.lineStep (d : Dev) (id : Nat) : Dev :=
  match d.line id with
  | none => d
  | some r =>
    if r.phase ≠ 1 then d
    else
      let v := r.combined d id
      let all := r.down.all (fun p => (r.answers.find p).isSome)
      if r.role then
        (if !v.vote then d.decideLine id r false v
         else if !all then d
         else if d.get ACD_LINE_EXPECT_VOTERS ≠ 0 ∧ v.voters < d.get ACD_LINE_EXPECT_VOTERS then
           d.decideLine id r false { v with noStn := 0xFFF }
         else d.decideLine id r true v)
      else if all then
        let d := match r.up with
          | some p => d.flood [p] v
          | none => d
        let d := ((d.set ACD_LINE_STAT_VOTERS v.voters).set ACD_LINE_INFO_DEPTH v.hops).set ACD_LINE_FENCED_FENCED v.fenced
        let d := d.silPost 0x13 0x0003 (silArg 16 id + silArg 20 (b2n v.vote) + silArg 22 v.voters + silArg 24 v.noStn
          + silArg 26 v.hops)
        d.putLine id { r with phase := 2 }
      else d

/-- A fresh LINE accord at this hub: PREPARE goes out on its downstream ports, the own vote is judged (R297, R298). -/
def Dev.lineStart (d : Dev) (id epoch : Nat) (t : Ts) (coord : Nat) (up : Option Nat) (role : Bool) (hops : Nat)
    (raw : List Byte) : Dev :=
  let r : LineSt := ⟨epoch, t, coord, up, role, d.accPorts up, [], some true, false, 0, 1⟩
  let d := d.flood r.down { r.msg id 0 with hops := hops, raw := raw }
  let (r, d) := d.judge id r
  (d.putLine id r).lineStep id

/-- The close of a LINE accord by its thread: an abort code, or 0 (R296, R297). -/
def Dev.lineClose (d : Dev) (n : Nat) (t : Ts) : Nat × Dev :=
  let id := d.get (ACD_SLOTn_ID_ID n)
  if d.inHistory id || (d.line id).isSome then (8, d)
  else if id / 2 ^ 20 ≠ d.get STN_ID_NUM then (0, d)
  else if t.units ≤ (d.tb 0).units + d.get ACD_GO_LEAD_US * 1000 * 2 ^ 32 then (8, d)
  else (0, d.lineStart id ((d.get ACD_EPOCH_EPOCH + 1) % 2 ^ 32) t (id / 2 ^ 20) none true 0 [])

/-- An ACCORD block whose epoch is more than one ahead fences the hub (R118). -/
def Dev.epochFence (d : Dev) (m : AcMsg) : Dev :=
  let x := (m.epoch + 2 ^ 32 - d.get ACD_EPOCH_EPOCH) % 2 ^ 32
  if 2 ≤ x ∧ x < 2 ^ 31 then (d.raise STN_EVT_EPOCH_AHEAD).fence 2 else d

/-- A PREPARE (R298, R304). An epoch further ahead turns the own vote NO with VOTE_NO, and fences the hub (R118, R300). -/
def Dev.prepareRx (p : Nat) (m : AcMsg) (d : Dev) : Dev :=
  let d := if d.inHistory m.id then d.inc ACD_DUPMSG_COUNT
    else match d.line m.id with
      | some r =>
        if r.down.contains p && (r.answers.find p).isNone then
          (d.putLine m.id { r with answers := Tab.insert p none r.answers }).lineStep m.id
        else d
      | none => d.lineStart m.id m.epoch m.commit m.coord (some p) false (m.hops + 1) m.raw
  d.epochFence m

/-- A VOTE from a downstream port (R299, R304). -/
def Dev.voteRx (p : Nat) (m : AcMsg) (d : Dev) : Dev :=
  let d := d.epochFence m
  match d.line m.id with
  | some r =>
    if r.phase = 1 ∧ r.down.contains p ∧ (r.answers.find p).isNone then
      (d.putLine m.id { r with answers := Tab.insert p (some m) r.answers }).lineStep m.id
    else d
  | none => d

/-- A LATE abort of an ID that no slot holds: counted, raised, recorded; it fences (R303). -/
def Dev.lateUnprepared (d : Dev) (id : Nat) : Dev := (d.abortReport id 2 4 0xFF).fence 1

/-- A GO or an ABANDON first received, or a later copy (R302 to R304). -/
def Dev.decisionRx (p : Nat) (m : AcMsg) (go : Bool) (d : Dev) : Dev :=
  let d := d.epochFence m
  if d.inHistory m.id then d.inc ACD_DUPMSG_COUNT
  else
    let fin := { m with hops := m.hops + 1 }
    match d.line m.id with
    | some r => d.settle m.id r go fin (some p)
    | none =>
      let r : LineSt := ⟨m.epoch, m.commit, m.coord, none, false, [], [], if d.passive then none else some true, false, 0, 1⟩
      if d.passive then d.settle m.id r go fin (some p)
      else if go then
        let d := d.settle m.id { r with code := 4 } go fin (some p)
        let d := if d.lineSlots m.id = [] then d.lateUnprepared m.id else (d.abortLine m.id 4).fence 1
        d.remember m.id 4
      else d.settle m.id r go fin (some p)

/-- T arrives in own TB0: GO held commits; no decision aborts LATE and fences (R293, R303). -/
def lineCommitT (id : Nat) (d : Dev) : Dev :=
  match d.line id with
  | none => d
  | some r =>
    let d := d.reach 0 r.t.units
    if (d.tb 0).units < r.t.units then d
    else if r.phase = 3 then
      let l := (d.lineSlots id).filter (fun n => d.get (ACD_SLOTn_STAT_STATE n) == 2)
      if r.own = some true ∧ l ≠ [] then
        let d := forAll l (fun n d => (d.setAccSlot n { d.accSlot n with epoch := some r.epoch }).commitSlot n) d
        d.dropLine id { r with phase := 4, code := 0 }
      else d.dropLine id { r with phase := 5, code := if r.code = 0 then 9 else r.code }
    else if r.phase ≤ 2 ∧ r.own = some true then
      let d := (d.remember id 4).abortLine id 4
      (d.dropLine id { r with phase := 5, code := 4 }).fence 1
    else if r.phase = 5 then d.dropLine id r
    else d

def execLineCommitT (id : Word) (s : State) : Host.Outcome State Fault Refusal := s.runOn 3 (lineCommitT id.toNat)

/-- Votes incomplete at T - ACD_GO_LEAD: the coordinator floods ABANDON (R301). -/
def lineVoteDeadline (id : Nat) (d : Dev) : Dev :=
  match d.line id with
  | none => d
  | some r =>
    if r.role ∧ r.phase = 1 then
      let at_ := r.t.units - d.get ACD_GO_LEAD_US * 1000 * 2 ^ 32
      let d := d.reach 0 at_
      if (d.tb 0).units < at_ then d else d.decideLine id r false { r.combined d id with noStn := 0xFFF }
    else d

def execLineVoteDeadline (id : Word) (s : State) : Host.Outcome State Fault Refusal := s.runOn 3 (lineVoteDeadline id.toNat)

/-- A port left ADMIT and RUN: where it was a downstream port not yet answered, the own vote turns NO with LINK_LOST, or a
hub without one votes NO with NO_STN 0xFFF (R300, R620). -/
def Dev.accordLinkLost (p : Nat) (d : Dev) : Dev :=
  forAll (d.acc.lines.map Prod.fst) (fun id d =>
    match d.line id with
    | none => d
    | some r =>
      if r.phase = 1 ∧ r.down.contains p ∧ (r.answers.find p).isNone then
        let r := { r with answers := Tab.insert p none r.answers }
        let (r, d) := if r.own = some true then d.voteNo id r 7
          else if r.own = none then ({ r with lost := true }, d) else (r, d)
        (d.putLine id r).lineStep id
      else d) d

end Sys2Proof.Machine
end

