-- ==== Sys2Proof/Machine/Avs.lean ====
section
/-! DEFINITION. VDD_CORE over AVSBus (R522, R523): voltages asked for, one at a time. -/

namespace Sys2Proof.Machine

def Dev.modPower (d : Dev) (f : PowerPart → PowerPart) : Dev := { d with power := f d.power }

/-- A voltage asked for: clamped to 650 to 850 mV, sent at once or once the change in progress is acknowledged (R522, R523). -/
def Dev.avsAsk (mv : Nat) (low : Bool) (d : Dev) : Dev :=
  let r : AvsReq := ⟨min 850 (max 650 mv), false, low⟩
  let d := d.set PWR_AVS_STAT_BUSY 1
  if d.power.avs = none then d.modPower (fun p => { p with avs := some r }) else d.modPower (fun p => { p with avsNext := some r })

/-- The change in progress ends; one that waited follows. -/
def Dev.avsEnd (d : Dev) : Dev :=
  let d := d.modPower (fun p => { p with avs := p.avsNext, avsNext := none })
  d.setB PWR_AVS_STAT_BUSY d.power.avs.isSome

end Sys2Proof.Machine
end

