-- ==== Sys2Proof/Machine/Tunnel.lean ====
section
/-! DEFINITION. The ends of tunnels (spec 05): contexts (R150 to R154), entry and policing (R163, R164, R619), delivery to local
ports (R152, R168, R342), acknowledgement and resend (R170 to R174), refresh requests (R169, R445). -/

namespace Sys2Proof.Machine

/-! ### Contexts -/

def Dev.ctx (d : Dev) (c : Nat) : CtxSt := d.ctxs.get c CtxSt.reset
def Dev.setCtx (d : Dev) (c : Nat) (x : CtxSt) : Dev := { d with ctxs := d.ctxs.set c x CtxSt.reset }
def Dev.modCtx (d : Dev) (c : Nat) (f : CtxSt → CtxSt) : Dev := d.setCtx c (f (d.ctx c))

/-- Whether a context is in RUN (R151). -/
def Dev.ctxRun (d : Dev) (c : Nat) : Bool := d.get (CTX_W0_STATE c) == 1

/-- Whether a context originates its tunnel (R150). -/
def Dev.orig (d : Dev) (c : Nat) : Bool := !d.flag (CTX_W0_ROLE c)

/-- Whether a context sends to a group (R151). -/
def Dev.ctxGroup (d : Dev) (c : Nat) : Bool := d.orig c && d.flag (CTX_W0_G c)

/-- The largest payload, the window and the resends of a context, with their defaults (R151). -/
def Dev.maxLen (d : Dev) (c : Nat) : Nat := if d.get (CTX_W2_MAXLEN c) = 0 then 16104 else d.get (CTX_W2_MAXLEN c)
def Dev.ctxWin (d : Dev) (c : Nat) : Nat := if d.get (CTX_W2_WIN c) = 0 then 16 else d.get (CTX_W2_WIN c)
def Dev.ctxRetry (d : Dev) (c : Nat) : Nat := if d.get (CTX_W2_RETRY c) = 0 then 8 else d.get (CTX_W2_RETRY c)

/-- A counter word of a context advanced. -/
def Dev.incSeq (d : Dev) (f : Fld) (n : Nat) : Dev := d.set f ((d.get f + n) % 2 ^ 32)

/-! ### The completion of packet sends -/

/-- A packet that a thread handed over is finished with, or refused; its PKT_TX_DONE is due (R343). -/
def Dev.txDone (d : Dev) (tag : Option (Nat × Nat)) (refused : Bool) : Dev :=
  match tag with
  | some (t, g) => { d with syn := { d.syn with sent := d.syn.sent ++ [(t, g, refused)] } }
  | none => d

/-- The SYN port reports the oldest finished send (R337, R343). -/
def pktTxDone (d : Dev) : Dev :=
  match d.syn.sent with
  | (t, g, refused) :: l =>
    ({ d with syn := { d.syn with sent := l } }).event 0x0E 0x0002 (t % 32 + g % 32 * 32 + b2n refused * 2 ^ 16)
  | [] => d

def execPktTxDone (s : State) : Host.Outcome State Fault Refusal := s.run pktTxDone

/-! ### Entry into the switch core -/

/-- A whole packet handed to the switch core at a local ingress for a queue (R186, R194). -/
def Dev.inject (d : Dev) (ing q sq : Nat) (h : THdr) (bytes : List Byte) (frame dataW : Bool) (term : Option Nat) : Dev :=
  let (i, d) := d.newPkt
    { ing := ing, pid := 0, queue := q, sq := sq, hdr := h, frame := frame
      cells := (cellsOf bytes).map (fun b => ⟨0, .src, b, false⟩), whole := true, poison := false, closing := false
      cut := false, started := false, dataW := dataW, admitAt := 0, bytes := bytes.length, crc := 0, tail := []
      term := term, place := .held, lead := true, credit := 0, trunc := none, fast := d.cutFast ing q }
  d.admitNew i

/-- A built packet sent on a Tirrun port, along its path; where the path ends it is dropped and counted (R105, R106). A group packet
ends at a port that is not open (R162, R179). -/
def Dev.emit (d : Dev) (ing p sq : Nat) (h : THdr) (payload : List Byte) : Dev :=
  if h.g then
    (if d.openFor p h.cls then d.inject ing (portQueue p sq) sq h (packetBytes h payload d.stamp) false false none
     else d.inc TNL_GRPEND_COUNT)
  else match d.pathFor p h.cls false with
    | .out p' w => d.inject ing (portQueue p' sq) sq h (packetBytes h payload d.stamp) false w none
    | path => d.countDrop path

/-- The ports of a GROUP entry's SPUR field (R155). -/
def spurPorts (mask : Nat) : List Nat := (bitList 8 mask).map (2 + ·)

/-- The ports a context sends on: EGRESS, or the open ports of a group (R152, R162). -/
def Dev.egressPorts (d : Dev) (c : Nat) (h : THdr) : List Nat :=
  let e := d.get (CTX_W1_EGRESS c)
  let l := if e = 15 then [0, 1].filter (fun p => d.openFor p h.cls) else [e]
  if h.g then
    let s := match d.tmtKind h.labelKey 2 with
      | some i => spurPorts (d.get (TMT_W2_SPUR i))
      | none => []
    l ++ s.filter (fun p => !l.contains p)
  else l

/-- The TMT entry that gives a context's service queue: ENTRY where it originates, TERM where it sends back (R164, R619). -/
def Dev.sqEntry (d : Dev) (c : Nat) : Option Nat :=
  let own := d.get STN_ID_NUM
  if d.orig c then d.tmtKind (tmtKey false (d.flag (CTX_W0_G c)) (d.get (CTX_W0_PEER c)) own (d.get (CTX_W0_INDEX c))) 1
  else d.tmtKind (tmtKey false false own (d.get (CTX_W0_PEER c)) (d.get (CTX_W0_INDEX c))) 0

/-- The service queue of a context's packets; none where the line manager has allotted none (R164, R619). -/
def Dev.sqOf (d : Dev) (c : Nat) : Option Nat :=
  match d.sqEntry c with
  | some i => some (d.get (TMT_W1_SQ i))
  | none =>
    if d.orig c && d.get (CTX_W0_CLASS c) == 0 && d.get (CTX_W0_INDEX c) == 0 then some (d.get TNL_CTL_CTRL_SQ) else none

/-- The header of a packet that a context sends (R144, R146). -/
def Dev.ctxHdr (d : Dev) (c kind len : Nat) : THdr :=
  { ver := 1, cls := d.get (CTX_W0_CLASS c), g := d.ctxGroup c, dest := d.get (CTX_W0_PEER c), origin := d.get STN_ID_NUM
    index := d.get (CTX_W0_INDEX c), colour := 0, rel := d.flag (CTX_W0_REL c), dir := !d.orig c, kind := kind, len := len
    akv := false, tseq := d.get (CTX_W3_TX_NEXT c), aux := 0 }

/-- A packet discarded for want of an allotment (R164). -/
def Dev.noAllot (d : Dev) : Dev := (d.inc TNL_NOALLOT_COUNT).raise TNL_EVT_NOALLOT

/-- An ACK or REFRESH packet of a context: it takes no sequence number and is not policed (R147). -/
def Dev.sendControl (d : Dev) (c kind : Nat) (akv : Bool) (aux : Nat) (payload : List Byte) : Dev :=
  match d.sqOf c with
  | none => d.noAllot
  | some sq =>
    let h := { d.ctxHdr c kind payload.length with akv := akv, aux := aux }
    forAll (d.egressPorts c h) (fun p d => d.emit 20 p sq h payload) d

/-- An ACK packet: the highest number delivered in order, and SACK (R147, R170). -/
def Dev.sendAck (c : Nat) (d : Dev) : Dev :=
  let d := d.modCtx c (fun x => { x with unacked := 0 })
  d.sendControl c 1 true ((d.get (CTX_W5_RX_EXP c) + 2 ^ 32 - 1) % 2 ^ 32) (natBE 4 (d.get (CTX_W6_HELD c) * 2 ^ 16))

/-! ### Refresh requests -/

/-- The payload of a REFRESH packet (R445). -/
def Refresh.bytes (r : Refresh) (exp : Nat) : List Byte :=
  natBE 1 r.reason ++ natBE 1 r.layer ++ natBE 2 r.x ++ natBE 2 r.y ++ natBE 2 r.w ++ natBE 2 r.h ++ natBE 4 exp ++ natBE 2 0

/-- Two requests merged: their bounding box; a GAP, another layer or a whole layer widens it (R445). -/
def Refresh.merge (a b : Refresh) : Refresh :=
  if a.reason = 0 ∨ b.reason = 0 then ⟨0, 0xFF, 0, 0, 0, 0⟩
  else if a.layer ≠ b.layer then ⟨a.reason, 0xFF, 0, 0, 0, 0⟩
  else if a.w = 0 ∨ b.w = 0 then ⟨a.reason, a.layer, 0, 0, 0, 0⟩
  else
    let x := min a.x b.x
    let y := min a.y b.y
    ⟨a.reason, a.layer, x, y, max (a.x + a.w) (b.x + b.w) - x, max (a.y + a.h) (b.y + b.h) - y⟩

/-- The REFRESH packet of a context goes out (R169, R445). -/
def Dev.sendRefresh (d : Dev) (c : Nat) (r : Refresh) : Dev :=
  let d := (d.modPort (fun p => { p with refresh := p.refresh.set c none none })).modCtx c
    (fun x => { x with refreshAt := some d.now })
  let d := if d.get (CTX_W1_LPORT c) = 3 then d.inc (DSO_IN_REFRESHn_COUNT (d.get (CTX_W1_LQ c))) else d
  d.sendControl c 2 false 0 (r.bytes (d.get (CTX_W5_RX_EXP c)))

/-- A refresh asked for on a context: sent at once, or merged with the request that waits for the limit of one per millisecond
(R169, R445). -/
def Dev.askRefresh (d : Dev) (c : Nat) (r : Refresh) : Dev :=
  let busy := match (d.ctx c).refreshAt with
    | some t => decide (d.now < t + 1000000)
    | none => false
  if busy then
    let r := match d.port.refresh.get c none with
      | some w => w.merge r
      | none => r
    d.modPort (fun p => { p with refresh := p.refresh.set c (some r) none })
  else d.sendRefresh c r

/-- The limit allows it, and the request that waits is sent (R445). -/
def refreshSend (c : Nat) (d : Dev) : Dev :=
  match d.port.refresh.get c none with
  | some r =>
    let d := match (d.ctx c).refreshAt with
      | some t => d.elapse (d.cyclesFor 0 (((t + 1000000 : Nat) : Int) * ((2 ^ 32 : Nat) : Int) - ((d.tb 0).units : Nat)))
      | none => d
    d.sendRefresh c r
  | none => d

def execRefreshSend (c : Fin 1024) (s : State) : Host.Outcome State Fault Refusal := s.runOn 3 (refreshSend c)

/-! ### Local ports -/

/-- Whether packet queue `q` delivers: EN with 16 to 16,384 slots (R350). -/
def Dev.pqOn (d : Dev) (q : Nat) : Bool :=
  d.flag (SYN_PQq_CFG_EN q) && 4 ≤ d.get (SYN_PQq_CFG_LOG2 q) && d.get (SYN_PQq_CFG_LOG2 q) ≤ 14

/-- Bytes written to the slots of a packet queue's ring from slot `s`, wrapping at its end (R342). -/
def Dev.pqSlots (d : Dev) (q s : Nat) : List (List Byte) → Dev
  | [] => d
  | l :: t =>
    let n := 2 ^ d.get (SYN_PQq_CFG_LOG2 q)
    (d.engWrite (baseAddr (d.get (SYN_PQq_BASE_BASE q)) (d.flag (SYN_PQq_BASE_MEM q)) + 256 * (s % n)) l).pqSlots q (s + 1) t

/-- A descriptor and a payload taken into a packet queue, and PKT_RX posted; none where the ring lacks the slots (R342). -/
def Dev.pqTake (d : Dev) (q : Nat) (desc payload : List Byte) : Option Dev :=
  let n := 2 ^ d.get (SYN_PQq_CFG_LOG2 q)
  let k := (16 + payload.length + 255) / 256
  let wr := d.get (SYN_PQq_WR_IDX q)
  if !d.pqOn q || (d.get (SYN_PQq_RD_IDX q) + n - wr % n - 1) % n < k then none
  else
    let d := (d.pqSlots q wr (cellsOf (desc ++ payload))).set (SYN_PQq_WR_IDX q) ((wr + k) % n)
    some (d.postQ (d.get (SYN_PQq_CFG_EVQ q)) ⟨0x0001, 0x0E, d.stamp, q % 32 + wr % 2 ^ 11 * 2 ^ 8 + k % 2 ^ 10 * 2 ^ 20⟩)

/-- The delivery descriptor of a tunnel packet (R342). -/
def deliveryDesc (c : Nat) (h : THdr) (lat : Nat) : List Byte :=
  natLE 2 (h.origin + h.cls * 2 ^ 12 + b2n h.dir * 2 ^ 15) ++ natLE 2 (h.index + h.colour * 2 ^ 10) ++ natLE 2 h.len
    ++ natLE 2 c ++ natLE 4 h.tseq ++ natLE 4 lat

/-- The local queue of a context's packets (R188): 1,216 stands for the tunnel engine itself (R152, R147). An LQ outside the instances of
its LPORT is taken as the number of the queue, and ENABLE does not refuse it (DESIGN CHOICE, log 32: R152 does not say). -/
def Dev.localQueue (d : Dev) (c kind : Nat) : Nat :=
  let lq := d.get (CTX_W1_LQ c)
  let lp := d.get (CTX_W1_LPORT c)
  if kind = 1 then 1216
  else if lp = 1 then 1088 + lq else if lp = 2 then 1120 + lq else if lp = 3 then 1152 + lq
  else if lp = 4 then 1184 + lq else 1216

/-- A packet appended to those in front of an engine. -/
def Dev.toEngine (d : Dev) (q : Nat) (x : Inbound) : Dev :=
  d.modPort (fun p => { p with inq := p.inq.set q (p.inq.get q [] ++ [x]) [] })

/-- The bytes buffered for a gateway's IN endpoint (R469). -/
def Dev.inBytes (d : Dev) (q : Nat) : Nat := ((d.port.inq.get q []).map (fun x => x.payload.length)).foldl (· + ·) 0

/-- The binding of a context, by 64 x drive + queue pair (R398). -/
def Dev.bindingOf (d : Dev) (c : Nat) : Option Nat :=
  (List.range 128).find? (fun b => d.flag (STO_Sn_QPk_VALID (b / 64) (b % 64)) && d.get (STO_Sn_QPk_CTX (b / 64) (b % 64)) == c)

def Dev.win (d : Dev) (b : Nat) : StoWin := d.sto.wins.get b StoWin.reset

/-- Whether the STO port takes a request: its engine runs, the submission queue of its binding has room (64 entries, one kept
empty), and no request still executing holds the slot of its ID (R401, R403). -/
def Dev.stoTakes (d : Dev) (q c : Nat) (payload : List Byte) : Bool :=
  match d.bindingOf c with
  | none => d.flag STO_CTL_EN
  | some b =>
    let w := d.win b
    let id := beNat ((payload.drop 4).take 4)
    let ahead := match w.high with
      | some h => let x := (id + 2 ^ 32 - h) % 2 ^ 32; decide (1 ≤ x ∧ x < 2 ^ 31)
      | none => false
    let queued := (d.port.inq.get q []).filter (fun x => x.ctx == c)
    let behind := queued.any (fun x =>
      let o := beNat ((x.payload.drop 4).take 4)
      let y := (id + 2 ^ 32 - o) % 2 ^ 32
      decide (1 ≤ y ∧ y < 2 ^ 31) && o % 256 == id % 256)
    d.flag STO_CTL_EN && w.reqs.length + queued.length < 63 && !(ahead && w.reqs.any (fun r => r.id % 256 == id % 256)) && !behind

def Dev.ingest (d : Dev) (n : Nat) : Ingest := d.scan.ingests.get n Ingest.reset

/-- Whether a RECT packet waits for the flip and the catch-up copy of its layer (R444). -/
def Ingest.holds (g : Ingest) (payload : List Byte) : Bool :=
  beNat (payload.take 1) == 1 && (g.flipped ++ g.copying).contains (beNat ((payload.drop 1).take 1))

/-- Whether the DSO port takes packets for an output: the ingest runs, and no RECT waits at the front (R444, R458). -/
def Dev.dsoTakes (d : Dev) (n : Nat) : Bool :=
  d.flag DSO_IN_CTL_EN && (match d.port.inq.get (1152 + n) [] with
    | [] => true
    | x :: _ => !(d.ingest n).holds x.payload)

/-- A packet handed to the local port of its context; none where the port cannot take it (R152, R168). -/
def Dev.handOver (d : Dev) (c : Nat) (h : THdr) (payload : List Byte) (lat : Nat) : Option Dev :=
  let lp := d.get (CTX_W1_LPORT c)
  let q := d.localQueue c 0
  if lp = 1 then d.pqTake (d.get (CTX_W1_LQ c)) (deliveryDesc c h lat) payload
  else if lp = 2 then (if d.stoTakes q c payload then some (d.toEngine q ⟨c, h, payload⟩) else none)
  else if lp = 3 then (if d.dsoTakes (d.get (CTX_W1_LQ c)) then some (d.toEngine q ⟨c, h, payload⟩) else none)
  else if lp = 4 then (if d.inBytes q + payload.length ≤ 65536 then some ((d.toEngine q ⟨c, h, payload⟩).wakeReason 1) else none)
  else if 16 ≤ lp then some d
  else none

/-- A DATA packet delivered, or refused by its local port and counted (R149, R168). -/
def Dev.deliver (d : Dev) (c : Nat) (h : THdr) (payload : List Byte) (stamp : Nat) : Bool × Dev :=
  let lat := (d.stamp + 2 ^ 32 - stamp % 2 ^ 32) % 2 ^ 32
  match d.handOver c h payload lat with
  | some d => (true, (d.set (CTX_W7_LAT c) lat).inc (CTX_W9_RX_PKTS c))
  | none => (false, d.inc (CTX_W15_RXFULL c))

/-! ### Receipt -/

/-- The HELD word of a context as its held packets give it (R151). -/
def Dev.syncHeld (c : Nat) (d : Dev) : Dev :=
  let e := d.get (CTX_W5_RX_EXP c)
  let l := (d.ctx c).held.map (fun x => (x.1 + 2 ^ 32 - e - 1) % 2 ^ 32)
  (d.set (CTX_W6_HELD c) (bitSet (l.filter (· < 16)))).set (CTX_W6_HELDN c) (d.ctx c).held.length

/-- The cells of a packet that leaves HOLD freed (R189, R192). -/
def Dev.freeHold (d : Dev) (cells : List Nat) : Dev := forAll cells (fun n d => (d.discharge false 0 .hold).freeChip n) d

/-- The cells of a packet charged to HOLD: they stay where they lie in the buffer (R189, R192). -/
def Dev.keepCells (cells : List Cell) (d : Dev) : List Nat × Dev :=
  (cells.map (·.num), forAll cells (fun _ d => d.charge .hold) d)

/-- The cells of the buffer that a context keeps in HOLD. -/
def Dev.heldCells (d : Dev) (c : Nat) : List Nat := (d.ctx c).held.flatMap (·.2.2.2)

/-- The held packets that now follow in order delivered, one after another (R168); the count bounds the recursion. -/
def Dev.deliverHeld (c : Nat) : Nat → Dev → Dev
  | 0, d => d
  | n + 1, d =>
    let e := d.get (CTX_W5_RX_EXP c)
    match (d.ctx c).held.find e with
    | none => d
    | some (h, payload, cells) =>
      let d := (d.modCtx c (fun x => { x with held := Tab.erase e x.held })).freeHold cells
      match d.deliver c h payload h.aux with
      | (true, d) =>
        let d := (d.set (CTX_W5_RX_EXP c) ((e + 1) % 2 ^ 32)).modCtx c (fun x => { x with unacked := x.unacked + 1 })
        d.deliverHeld c n
      | (false, d) => d

/-- An acknowledgement is sent once 8 packets have been delivered since the last (R170). -/
def Dev.ackIfDue (c : Nat) (d : Dev) : Dev := if 8 ≤ (d.ctx c).unacked then d.sendAck c else d

/-- A packet kept for reordering in cells of HOLD, or discarded for want of them (R168, R192). The stamp is kept in the place of
AUX. -/
def Dev.holdBack (d : Dev) (c : Nat) (h : THdr) (payload : List Byte) (stamp : Nat) (cells : List Cell) : Dev :=
  if d.get SWC_HOLD_MAX_CELLS < d.get SWC_HOLD_USED_CELLS + cells.length then
    ((d.inc (CTX_W12_LOST c)).inc SWC_HOLD_DROP_COUNT).raise SWC_EVT_HOLD_FULL
  else
    let (l, d) := d.keepCells cells
    let d := d.modCtx c (fun x => { x with held := Tab.insert h.tseq ({ h with aux := stamp }, payload, l) x.held })
    (d.syncHeld c).sendAck c

/-- A packet of kind DATA received in a context in RUN (R168, R169); whether it was delivered now. A payload longer than MAXLEN is
not accepted: the packet is discarded, and no counter names that (R151; DESIGN CHOICE, log 32). -/
def Dev.receiveData (d : Dev) (c : Nat) (h : THdr) (payload : List Byte) (stamp : Nat) (cells : List Cell) : Bool × Dev :=
  let e := d.get (CTX_W5_RX_EXP c)
  let x := (h.tseq + 2 ^ 32 - e) % 2 ^ 32
  if d.maxLen c < h.len then (false, d)
  else if d.flag (CTX_W0_REL c) && !h.g then
    if x = 0 then
      match d.deliver c h payload stamp with
      | (false, d) => (false, d)
      | (true, d) =>
        let n := (d.ctx c).held.length
        let d := (d.set (CTX_W5_RX_EXP c) ((e + 1) % 2 ^ 32)).modCtx c (fun x => { x with unacked := x.unacked + 1 })
        let d := (d.deliverHeld c 16).syncHeld c
        (true, if (d.ctx c).held.length = n then d.ackIfDue c else d.sendAck c)
    else if x ≤ 16 then
      (if ((d.ctx c).held.find h.tseq).isSome then (false, d.inc (CTX_W11_DUP c)) else (false, d.holdBack c h payload stamp cells))
    else if x < 2 ^ 31 then (false, d.inc (CTX_W12_LOST c))
    else (false, (d.inc (CTX_W11_DUP c)).sendAck c)
  else if x < 2 ^ 31 then
    let d := if h.cls = 3 ∧ 0 < x then d.askRefresh c ⟨0, 0xFF, 0, 0, 0, 0⟩ else d
    match d.deliver c h payload stamp with
    | (true, d) => (true, (d.incSeq (CTX_W12_LOST c) x).set (CTX_W5_RX_EXP c) ((h.tseq + 1) % 2 ^ 32))
    | (false, d) => (false, d)
  else (false, d.inc (CTX_W14_STALE c))

/-! ### Sending -/

/-- The size of the resend store in cells (R174, R178). -/
def Dev.rsSize (d : Dev) : Nat := d.get TNL_RS_SIZE_MIB * 4096

/-- The resend store is full: RS_FULL shows it (R174). -/
def Dev.rsFull (d : Dev) : Dev :=
  if d.flag TNL_STAT_RS_FULL then d else (d.set TNL_STAT_RS_FULL 1).raise TNL_EVT_RS_FULL

/-- Cells of the resend store freed: the store is full no longer (R174). -/
def Dev.rsRelease (d : Dev) (cells : Nat) : Dev :=
  if cells = 0 then d else (d.decBy TNL_RS_USED_CELLS cells).set TNL_STAT_RS_FULL 0

/-- The cells of the resend store that hold copies. -/
def Dev.rsTaken (d : Dev) : List Nat := d.ctxs.flatMap (fun x => x.2.copies.flatMap (·.cells))

/-- The lowest `n` numbers from `i` on that a list does not hold; the fuel bounds the search. -/
def lowestFree (taken : List Nat) : Nat → Nat → Nat → List Nat
  | 0, _, _ => []
  | fuel + 1, i, n =>
    if n = 0 then []
    else if taken.contains i then lowestFree taken fuel (i + 1) n else i :: lowestFree taken fuel (i + 1) (n - 1)

/-- The DRAM address of a cell of the resend store (R174, R178). -/
def Dev.rsAddr (d : Dev) (n : Nat) : Nat := baseAddr (d.get TNL_RS_BASE_BASE) false + 256 * n

/-- Bytes written to cells of the resend store, and read back from them (R174). -/
def Dev.rsWrite (d : Dev) (cells : List Nat) (l : List Byte) : Dev :=
  forAll (cells.zip (cellsOf l)) (fun x d => d.engWrite (d.rsAddr x.1) x.2) d

def Dev.rsRead : List Nat → Nat → Dev → List Byte × Dev
  | [], _, d => ([], d)
  | n :: t, size, d =>
    let (l, d) := d.engRead (d.rsAddr n) (min 256 size)
    let (m, d) := d.rsRead t (size - 256)
    (l ++ m, d)

/-- The copy of a packet kept for resend: its header and payload in the lowest free cells of the store, as many as the packet takes in
the switch core (R171, R174; log 37). -/
def Dev.keepCopy (d : Dev) (c : Nat) (h : THdr) (payload : List Byte) : Dev :=
  let taken := d.rsTaken
  let n := (h.frameBytes + 255) / 256
  let cells := lowestFree taken (taken.length + n) 0 n
  let d := (d.rsWrite cells (h.bytes ++ payload)).incBy TNL_RS_USED_CELLS n
  let d := if d.rsSize ≤ d.get TNL_RS_USED_CELLS then d.rsFull else d
  d.modCtx c (fun y => { y with copies := y.copies ++ [⟨h.tseq, 16 + payload.length, cells, 0, d.time.cyc⟩] })

/-- What becomes of a packet at its local source: it goes, waits, waits because its policer marks it red, or is gone. -/
inductive Entry where
  | goes | waits | red | gone
  deriving DecidableEq, Repr

/-- The colour of a packet at entry: sent with a colour, held at red, or discarded red (R164, R262, R263, R619). -/
def Dev.colourAt (d : Dev) (c : Nat) (x : LocalPkt) (b : Nat) : Option Nat × Dev :=
  let rel := d.flag (CTX_W0_REL c)
  let pre := if rel ∧ x.pre.getD 0 = 2 then 1 else x.pre.getD 0
  match (if d.orig c then d.sqEntry c else none) with
  | some i =>
    if d.flag (TMT_W1_POL_EN i) then
      let n := d.get (TMT_W1_CTX i)
      match d.mark n b (if d.flag (TMT_W1_CAWARE i) then pre else 0) with
      | (2, _) => (none, if rel then (if x.heldRed then d else (d.inc (PS_W5_HELD n)).inc SCH_POL_HELD_COUNT)
                         else (d.inc (PS_W4_RED n)).inc SCH_POL_RED_COUNT)
      | (k, p) => (some k, (d.setPol n p).inc (if k = 0 then PS_W2_GREEN n else PS_W3_YELLOW n))
    else (some pre, d)
  | none => (some pre, d)

/-- A packet sent: numbered, with an acknowledgement owed on board, copied where it is reliable, queued on the egress (R146,
R149, R164, R170, R171). -/
def Dev.launch (d : Dev) (c : Nat) (x : LocalPkt) (sq colour : Nat) : Dev :=
  let rel := d.flag (CTX_W0_REL c)
  let akv := rel && 0 < (d.ctx c).unacked
  let h := { d.ctxHdr c 0 x.payload.length with
    colour := colour, akv := akv
    aux := if akv then (d.get (CTX_W5_RX_EXP c) + 2 ^ 32 - 1) % 2 ^ 32 else x.aux }
  let d := (d.incSeq (CTX_W3_TX_NEXT c) 1).inc (CTX_W8_TX_PKTS c)
  let d := if akv then d.modCtx c (fun y => { y with unacked := 0 }) else d
  let d := if rel then d.keepCopy c h x.payload else d
  forAll (d.egressPorts c h) (fun p d => d.emit x.ing p sq h x.payload) (d.txDone x.tag false)

/-- A context enters BROKEN (R172). -/
def Dev.ctxBreak (c : Nat) (d : Dev) : Dev :=
  (((d.set (CTX_W0_STATE c) 2).set TNL_BROKEN_CTX c).set TNL_BROKEN_VALID 1).raise TNL_EVT_CTX_BROKEN

/-- A context as an engine finds it: one with an uncorrectable word enters BROKEN, 8 words a context (R172, R564; log 97). -/
def Dev.ctxSeen (c : Nat) (d : Dev) : Dev :=
  if !d.ctxRun c then d else ((d.hitFlaw 4 0 (8 * c) 8).map (Dev.ctxBreak c)).getD d

/-- A packet of a local source at its context (R151, R163, R164, R171, R174). While TNL_CTL.EN is 0 every packet waits (R175). For a
context that is DISABLED the packet is discarded and counted as one with no context; a payload longer than MAXLEN is discarded without
a count (DESIGN CHOICE, log 32: the spec says neither). -/
def Dev.enter (d : Dev) (x : LocalPkt) : Entry × Dev :=
  let c := x.ctx
  let n := (16 + x.payload.length + 8 + 255) / 256
  let rel := d.flag (CTX_W0_REL c)
  let d := d.ctxSeen c
  if !d.flag TNL_CTL_EN then (.waits, d)
  else if d.get (CTX_W0_STATE c) = 0 then (.gone, ((d.inc TNL_NOCTX_COUNT).raise TNL_EVT_NOCTX).txDone x.tag true)
  else if d.maxLen c < x.payload.length then (.gone, d.txDone x.tag true)
  else if !d.ctxRun c then (.waits, d)
  else if d.flag STN_STAT_FENCED && d.get (CTX_W0_CLASS c) != 0 then
    (if 10 ≤ x.ing && x.ing < 20 then (.gone, d.inc TNL_FENCEDROP_COUNT) else (.waits, d))
  else if rel && d.ctxWin c ≤ (d.ctx c).copies.length then (.waits, d)
  else if rel && (d.flag TNL_STAT_RS_FULL || d.rsSize < d.get TNL_RS_USED_CELLS + n) then (.waits, d.rsFull)
  else match d.sqOf c with
    | none => (.gone, d.noAllot.txDone x.tag false)
    | some sq =>
      match d.colourAt c x (16 + x.payload.length + 8) with
      | (some k, d) => (.goes, d.launch c x sq k)
      | (none, d) => if rel then (.red, d) else (.gone, d.txDone x.tag false)

/-- Whether a packet of the same context from the same source waits already: packets of a source keep their order. -/
def Dev.behind (d : Dev) (x : LocalPkt) : Bool := d.waits.any (fun y => y.ctx == x.ctx && y.ing == x.ing)

/-- A packet that a local source hands over (R164). -/
def Dev.offer (d : Dev) (x : LocalPkt) : Dev :=
  if d.behind x then { d with waits := d.waits ++ [x] }
  else match d.enter x with
    | (.waits, d) => { d with waits := d.waits ++ [x] }
    | (.red, d) => { d with waits := d.waits ++ [{ x with heldRed := true }] }
    | (_, d) => d

/-- The sends that wait at the SYN port, of every thread (R366). -/
def Dev.sendsWaiting (d : Dev) : Nat := (d.waits.filter (fun x => x.tag.isSome)).length

/-- A packet send handed to the SYN port: refused under R343 and R366, or offered to its context. The descriptor's fields are those of
R366. -/
def Dev.sendPkt (t a v : Nat) (d : Dev) : Dev :=
  let c := bitsOf v 0 10
  let n := bitsOf v 10 14
  let bad := !(d.ctxRun c && d.orig c) || (d.flag STN_STAT_FENCED && d.get (CTX_W0_CLASS c) != 0) || d.maxLen c < n
    || bitsOf v 24 2 == 3 || bitsOf v 31 33 != 0
  if bad then d.txDone (some (t, bitsOf v 26 5)) true
  else d.offer ⟨c, 20, d.bytes a n, some (bitsOf v 24 2), 0, some (t, bitsOf v 26 5), false⟩

/-- A thread whose packet send waits for room at the port goes on once there is (R366). -/
def Dev.sendGo (d : Dev) (t : Nat) : Dev :=
  match (d.thr t).wait with
  | .send a v => if d.sendsWaiting < 64 then (d.sendPkt t a v).retire t 4 else d
  | _ => d

/-- The packets that wait at their sources tried again, each source's in order (R164, R171, R174); threads that wait to send go on in
thread order. -/
def Dev.retryWaits (d : Dev) : Dev :=
  forAll (List.range 32) (fun t d => d.sendGo t) <| forAll d.waits (fun x d =>
    if d.behind x then { d with waits := d.waits ++ [x] }
    else match d.enter x with
      | (.waits, d) => { d with waits := d.waits ++ [x] }
      | (.red, d) => { d with waits := d.waits ++ [{ x with heldRed := true }] }
      | (_, d) => d) { d with waits := [] }

/-- Software clears FENCED, and the packets that the fence held enter (R163); while no port is in RUN the event that fences the hub is
past, and the fence stays cleared (R118). -/
def fenceClearWrite (d : Dev) : Dev := (d.set STN_STAT_FENCED 0).retryWaits

def execFenceClearWrite (s : State) : Host.Outcome State Fault Refusal := s.runOn 3 fenceClearWrite

/-- A local source hands a packet to a context (R164). -/
def execLocalPacketEntry (c : Fin 1024) (ing : Fin 13) (payload : List Byte) (pre : Option (Fin 3)) (aux : Word) (s : State) :
    Host.Outcome State Fault Refusal :=
  s.runOn 3 (fun d => d.offer ⟨c, 10 + ing, payload, pre.map Fin.val, aux.toNat, none, false⟩)

/-- The policer would no longer mark a held packet red: time passes, and the packets that wait are tried again (R263). -/
def execPolicerRelease (k : Nat) (s : State) : Host.Outcome State Fault Refusal :=
  s.runOn 3 (fun d => (d.elapse k).retryWaits)

/-! ### Acknowledgement and resend -/

/-- An acknowledgement of a sending context: TX_UNA advances past what it covers, the copies go (R170, R171). SACK is kept; where an
acknowledgement brings none, what the latest one says of the packets above the new TX_UNA stands. -/
def Dev.ackRx (c una : Nat) (sack : Option Nat) (d : Dev) : Dev :=
  let old := d.get (CTX_W4_TX_UNA c)
  let x := (una + 1 + 2 ^ 32 - old) % 2 ^ 32
  if d.ctxRun c && d.flag (CTX_W0_REL c) && x ≤ (d.get (CTX_W3_TX_NEXT c) + 2 ^ 32 - old) % 2 ^ 32 then
    let d := d.modCtx c (fun y => { y with sack := sack.getD (if 16 ≤ x then 0 else y.sack / 2 ^ x) })
    if x = 0 then d
    else
      let cov := fun (k : Copy) => decide ((k.tseq + 2 ^ 32 - old) % 2 ^ 32 < x)
      let cells := ((d.ctx c).copies.filter cov).flatMap (·.cells)
      let d := d.modCtx c (fun y => { y with copies := y.copies.filter (fun k => !cov k), ackAt := some d.time.cyc })
      (((d.set (CTX_W4_TX_UNA c) ((una + 1) % 2 ^ 32)).rsRelease cells.length)).retryWaits
  else d

def execAckPacketRx (c : Fin 1024) (una : Word) (sack : Option (BitVec 16)) (s : State) : Host.Outcome State Fault Refusal :=
  s.runOn 3 (Dev.ackRx c una.toNat (sack.map BitVec.toNat))

/-- A delivery has waited 20 µs for its acknowledgement, or 8 have been delivered: an ACK packet is sent (R170). -/
def tunnelAckTimer (c : Nat) (d : Dev) : Dev := if d.ctxRun c && 0 < (d.ctx c).unacked then d.sendAck c else d

def execTunnelAckTimer (c : Fin 1024) (s : State) : Host.Outcome State Fault Refusal := s.runOn 3 (tunnelAckTimer c)

/-- A copy resent from its cells of the store: original header and payload, a fresh STAMP (R149, R171, R174). -/
def Dev.resend (c : Nat) (k : Copy) (d : Dev) : Dev :=
  let d := (d.modCtx c (fun y => { y with copies := y.copies.map (fun z =>
    if z.tseq = k.tseq then { z with resends := z.resends + 1, sentAt := d.time.cyc } else z) })).inc (CTX_W10_RESENT c)
  let (l, d) := d.rsRead k.cells k.size
  let h := THdr.parse l
  match d.sqOf c with
  | none => d.noAllot
  | some sq => forAll (d.egressPorts c h) (fun p d => d.emit 20 p sq h (l.drop 16)) d

/-- RTO of a context in TIME cycles: 0 stands for 8 ms, 1 for 2 ms (R151). -/
def Dev.rto (d : Dev) (c : Nat) : Nat :=
  let r := d.get (CTX_W1_RTO c)
  (if r = 0 then 8 else if r = 1 then 2 else r) * 500000

/-- The contexts in RUN or BROKEN counted (R176). -/
def Dev.ctxCount (d : Dev) (up : Bool) : Dev :=
  d.set TNL_STAT_CTX_RUN (if up then d.get TNL_STAT_CTX_RUN + 1 else d.get TNL_STAT_CTX_RUN - 1)

/-- RTO of TX_UNA expires: the packets the latest SACK does not report are resent, or the context is BROKEN (R171, R172). In the
cycle in which an acknowledgement advanced TX_UNA, the expiry is that of a packet it covers, and nothing is resent, unless the new
TX_UNA has waited RTO itself (R173). -/
def tunnelRtoExpire (c : Nat) (d : Dev) : Dev :=
  let d := d.ctxSeen c
  if d.ctxRun c then
    match (d.ctx c).copies with
    | [] => d
    | k :: t =>
      if (d.ctx c).ackAt = some d.time.cyc ∧ d.time.cyc < k.sentAt + d.rto c then d
      else if d.ctxRetry c ≤ k.resends then
        d.ctxBreak c
      else
        let una := d.get (CTX_W4_TX_UNA c)
        let sack := (d.ctx c).sack
        let l := t.filter (fun z => let o := (z.tseq + 2 ^ 32 - una - 1) % 2 ^ 32; !(o < 16 && sack.testBit o))
        forAll (k :: l) (fun z d => d.resend c z) d
  else d

def execTunnelRtoExpire (c : Fin 1024) (s : State) : Host.Outcome State Fault Refusal := s.runOn 3 (tunnelRtoExpire c)

/-! ### The context window -/

/-- A context word as the window reads it (R151). -/
def Dev.ctxWord (d : Dev) (c k : Nat) : Nat :=
  match k with
  | 0 => d.get (CTX_W0_CLASS c) * 2 + d.get (CTX_W0_REL c) * 2 ^ 4 + d.get (CTX_W0_ROLE c) * 2 ^ 5 + d.get (CTX_W0_G c) * 2 ^ 6
      + d.get (CTX_W0_PEER c) * 2 ^ 8 + d.get (CTX_W0_INDEX c) * 2 ^ 20 + d.get (CTX_W0_STATE c) * 2 ^ 30
  | 1 => d.get (CTX_W1_EGRESS c) + d.get (CTX_W1_LPORT c) * 2 ^ 4 + d.get (CTX_W1_LQ c) * 2 ^ 16 + d.get (CTX_W1_RTO c) * 2 ^ 24
  | 2 => d.get (CTX_W2_WIN c) + d.get (CTX_W2_RETRY c) * 2 ^ 8 + d.get (CTX_W2_MAXLEN c) * 2 ^ 16
  | 3 => d.get (CTX_W3_TX_NEXT c)
  | 4 => d.get (CTX_W4_TX_UNA c)
  | 5 => d.get (CTX_W5_RX_EXP c)
  | 6 => d.get (CTX_W6_HELD c) + d.get (CTX_W6_HELDN c) * 2 ^ 16
  | 7 => d.get (CTX_W7_LAT c)
  | 8 => d.get (CTX_W8_TX_PKTS c)
  | 9 => d.get (CTX_W9_RX_PKTS c)
  | 10 => d.get (CTX_W10_RESENT c)
  | 11 => d.get (CTX_W11_DUP c)
  | 12 => d.get (CTX_W12_LOST c)
  | 13 => d.get (CTX_W13_POISONED c)
  | 14 => d.get (CTX_W14_STALE c)
  | _ => d.get (CTX_W15_RXFULL c)

/-- The result of a context window command (R153). -/
def Dev.ctxDone (d : Dev) (err : Nat) : Dev := (d.set TNL_CTX_RES_DONE 1).set TNL_CTX_RES_ERR err

def ctxReadOp (d : Dev) : Dev :=
  let c := d.get TNL_CTX_IDX_CTX
  (forAll (List.range 16) (fun k e => e.set (TNL_CTX_DATAk_WORD k) (d.ctxWord c k)) d).ctxDone 0

def ctxRead (d : Dev) : Dev := d.winRun TNL_CTX_RES_DONE (ctxReadOp)

def execCtxRead (s : State) : Host.Outcome State Fault Refusal := s.runOn 3 ctxRead

/-- WRITE of the context window: the RW fields of a disabled context (R151, R153). -/
def ctxWriteOp (d : Dev) : Dev :=
  let c := d.get TNL_CTX_IDX_CTX
  let w := fun k => d.get (TNL_CTX_DATAk_WORD k)
  if d.get (CTX_W0_STATE c) ≠ 0 then d.ctxDone 1
  else
    let d := (((d.set (CTX_W0_CLASS c) (w 0 / 2)).set (CTX_W0_REL c) (w 0 / 2 ^ 4)).set (CTX_W0_ROLE c) (w 0 / 2 ^ 5)).set
      (CTX_W0_G c) (w 0 / 2 ^ 6)
    let d := (d.set (CTX_W0_PEER c) (w 0 / 2 ^ 8)).set (CTX_W0_INDEX c) (w 0 / 2 ^ 20)
    let d := (((d.set (CTX_W1_EGRESS c) (w 1)).set (CTX_W1_LPORT c) (w 1 / 2 ^ 4)).set (CTX_W1_LQ c) (w 1 / 2 ^ 16)).set
      (CTX_W1_RTO c) (w 1 / 2 ^ 24)
    let d := ((d.set (CTX_W2_WIN c) (w 2)).set (CTX_W2_RETRY c) (w 2 / 2 ^ 8)).set (CTX_W2_MAXLEN c) (w 2 / 2 ^ 16)
    ((d.set (CTX_W3_TX_NEXT c) (w 3)).set (CTX_W5_RX_EXP c) (w 5)).ctxDone 0

def ctxWrite (d : Dev) : Dev := d.winRun TNL_CTX_RES_DONE (ctxWriteOp)

def execCtxWrite (s : State) : Host.Outcome State Fault Refusal := s.runOn 3 ctxWrite

/-- Whether a local port suits a class (R145). -/
def portSuits (cls lp : Nat) : Bool :=
  lp == 0 || (match cls with
    | 0 => lp == 1
    | 1 => lp == 1 || lp == 4
    | 2 => lp == 1 || (16 ≤ lp && lp ≤ 25)
    | 3 => lp == 3
    | _ => lp == 2)

/-- Whether reliability and grouping suit a class; a terminating context's G is not its own (R145, R151). -/
def modeSuits (cls : Nat) (rel g orig : Bool) : Bool :=
  match cls with
  | 0 => !orig || rel == !g
  | 1 => !(g && rel)
  | 2 => !rel
  | 3 => !rel && !g
  | _ => rel && !g

/-- Whether a context's configuration passes the checks of ENABLE (R145, R151, R152, R174). -/
def Dev.ctxSound (d : Dev) (c : Nat) : Bool :=
  let cls := d.get (CTX_W0_CLASS c)
  let rel := d.flag (CTX_W0_REL c)
  let g := d.ctxGroup c
  let e := d.get (CTX_W1_EGRESS c)
  cls < 5 && modeSuits cls rel g (d.orig c) && portSuits cls (d.get (CTX_W1_LPORT c)) && (e < 10 || (e == 15 && g))
    && d.get (CTX_W2_WIN c) ≤ 64 && !(rel && d.get TNL_RS_SIZE_MIB == 0)

/-- ENABLE of the context window (R153). Where both the configuration and the index are wrong, the result is CONFIG (DESIGN CHOICE,
log 32: the spec ranks no error). -/
def ctxEnableOp (d : Dev) : Dev :=
  let c := d.get TNL_CTX_IDX_CTX
  if d.get (CTX_W0_STATE c) ≠ 0 then d.ctxDone 1
  else if !d.ctxSound c then d.ctxDone 2
  else if d.orig c && d.get (CTX_W0_INDEX c) != c then d.ctxDone 3
  else
    let d := (d.set (CTX_W4_TX_UNA c) (d.get (CTX_W3_TX_NEXT c))).setCtx c CtxSt.reset
    let d := ((d.set (CTX_W6_HELD c) 0).set (CTX_W6_HELDN c) 0).set (CTX_W0_STATE c) 1
    ((d.ctxCount true).ctxDone 0).retryWaits

def ctxEnable (d : Dev) : Dev := d.winRun TNL_CTX_RES_DONE (ctxEnableOp)

def execCtxEnable (s : State) : Host.Outcome State Fault Refusal := s.runOn 3 ctxEnable

/-- A context put into DISABLED: what it kept, held and let wait is discarded (R153). -/
def Dev.ctxOff (c : Nat) (d : Dev) : Dev :=
  let up := d.get (CTX_W0_STATE c) != 0
  let x := d.ctx c
  let d := d.rsRelease (x.copies.flatMap (·.cells)).length
  let d := forAll x.held (fun y d => d.freeHold y.2.2.2) d
  let gone := d.waits.filter (fun y => y.ctx == c)
  let d := { d with waits := d.waits.filter (fun y => y.ctx != c) }
  let d := forAll gone (fun y d => d.txDone y.tag true) d
  let d := ((d.setCtx c CtxSt.reset).set (CTX_W0_STATE c) 0).modPort (fun p => { p with refresh := p.refresh.set c none none })
  let d := (d.set (CTX_W6_HELD c) 0).set (CTX_W6_HELDN c) 0
  if up then d.ctxCount false else d

def ctxDisableOp (d : Dev) : Dev := ((d.ctxOff (d.get TNL_CTX_IDX_CTX)).ctxDone 0).retryWaits

def ctxDisable (d : Dev) : Dev := d.winRun TNL_CTX_RES_DONE (ctxDisableOp)

def execCtxDisable (s : State) : Host.Outcome State Fault Refusal := s.runOn 3 ctxDisable

/-- CLRCNT of the context window: W8 to W15 (R153). -/
def ctxClrcntOp (d : Dev) : Dev :=
  let c := d.get TNL_CTX_IDX_CTX
  (forAll [CTX_W8_TX_PKTS c, CTX_W9_RX_PKTS c, CTX_W10_RESENT c, CTX_W11_DUP c, CTX_W12_LOST c, CTX_W13_POISONED c,
    CTX_W14_STALE c, CTX_W15_RXFULL c] (fun f d => d.set f 0) d).ctxDone 0

def ctxClrcnt (d : Dev) : Dev := d.winRun TNL_CTX_RES_DONE (ctxClrcntOp)

def execCtxClrcnt (s : State) : Host.Outcome State Fault Refusal := s.runOn 3 ctxClrcnt

end Sys2Proof.Machine
end

