-- ==== Sys2Proof/Machine/Forward.lean ====
section
/-! DEFINITION. Tunnel packets as their blocks arrive: forwarding (R159 to R162), the end-to-end check (R148, R166, R167),
admission to the queues, and the engine ports at which packets leave the switch core (R160, R168, R251). -/

namespace Sys2Proof.Machine

/-! ### Forwarding -/

/-- Whether a station is below this hub (R159). -/
def Dev.below (d : Dev) (s : Nat) : Bool :=
  (d.flag STN_ID_VALID && d.get STN_ID_NUM == s) || (d.tmtKind (tmtKey true false s 0 0) 4).isSome

/-- Where the copies of a packet go: Tirrun ports with service queue and wrap mark; a context, or the Enique agent. -/
structure Plan where
  outs  : List (Nat × Nat × Bool)
  term  : Option Nat
  agent : Bool
  deriving DecidableEq, Repr

def Plan.none : Plan := ⟨[], Option.none, false⟩

/-- A unicast packet sent on a port, along its path (R106, R107, R159). -/
def Dev.planOut (d : Dev) (p sq : Nat) (h : THdr) (dataW : Bool) : Plan × Dev :=
  match d.pathFor p h.cls dataW with
  | .out p' w => (⟨[(p', sq, w)], Option.none, false⟩, d)
  | path => (Plan.none, d.countDrop path)

/-- A packet sent on the port that a TMT entry names (R159). -/
def Dev.planEntry (d : Dev) (i sq : Nat) (h : THdr) (dataW : Bool) : Plan × Dev :=
  let p := d.get (TMT_W2_PORT i)
  if 10 ≤ p then (Plan.none, (d.inc TNL_NOROUTE_COUNT).raise TNL_EVT_NOROUTE)
  else if h.g then
    (if d.openFor p h.cls then (⟨[(p, sq, false)], Option.none, false⟩, d) else (Plan.none, d.inc TNL_GRPEND_COUNT))
  else d.planOut p sq h dataW

/-- The context a packet terminates in (R160). -/
def Dev.termCtx (d : Dev) (h : THdr) : Option Nat :=
  let c := if h.dir then (if d.orig h.index then some h.index else none)
    else (d.tmtKind h.labelKey 0).map (fun i => d.get (TMT_W1_CTX i))
  c.filter d.ctxRun

/-- The group rules (R161, R162). -/
def Dev.planGroup (d : Dev) (p sq : Nat) (h : THdr) : Plan × Dev :=
  if p < 2 && d.below h.origin then (Plan.none, d)
  else
    let bcast := h.dest == 0xFFF && h.cls == 0 && h.index == 0
    let e := d.tmtKind h.labelKey 2
    let spurs := if bcast then (spurPorts 255).filter (fun q => d.openFor q h.cls)
      else match e with
        | some i => spurPorts (d.get (TMT_W2_SPUR i))
        | none => []
    let trunks := if p < 2 then [otherTrunk p] else [0, 1].filter (fun q => d.openFor q h.cls)
    let want := (spurs ++ trunks).filter (· != p)
    let outs := want.filter (fun q => d.openFor q h.cls)
    let c := if bcast then none else (e.map (fun i => d.get (TMT_W1_CTX i))).filter d.ctxRun
    let d := if !bcast && e.isSome && c.isNone then (d.inc TNL_NOCTX_COUNT).raise TNL_EVT_NOCTX else d
    (⟨outs.map (fun q => (q, sq, false)), c, bcast⟩, d.incBy TNL_GRPEND_COUNT (want.length - outs.length))

/-- Orders 4 to 9 of R159. -/
def Dev.planOwn (d : Dev) (p sq : Nat) (h : THdr) (dataW : Bool) : Plan × Dev :=
  if h.g then d.planGroup p sq h
  else if d.flag STN_ID_VALID && h.dest == d.get STN_ID_NUM then
    match d.termCtx h with
    | some c => (⟨[], some c, false⟩, d)
    | none => (Plan.none, (d.inc TNL_NOCTX_COUNT).raise TNL_EVT_NOCTX)
  else match d.tmtKind h.stationKey 4 with
    | some i => d.planEntry i sq h dataW
    | none =>
      if p < 2 then
        if !dataW && d.below h.origin then (Plan.none, (d.inc TNL_LOOP_COUNT).raise TNL_EVT_LOOP)
        else d.planOut (otherTrunk p) sq h dataW
      else (Plan.none, (d.inc TNL_NOROUTE_COUNT).raise TNL_EVT_NOROUTE)

/-- The first row of R159 that applies to a packet that arrives on a port. -/
def Dev.plan (d : Dev) (p sq : Nat) (h : THdr) (dataW : Bool) : Plan × Dev :=
  let bad := fun (d : Dev) => (d.inc TNL_HDRBAD_COUNT).raise TNL_EVT_HDR_BAD
  if h.invalid then (Plan.none, bad d)
  else if h.origin = 0xFFF then
    (if h.cls = 0 ∧ h.index = 0 then (⟨[], Option.none, true⟩, d) else (Plan.none, bad d))
  else match d.tmtKind h.labelKey 3 with
    | some i =>
      let a := d.get (TMT_W2_ACTION i)
      if a = 0 then (Plan.none, d.inc TNL_DROPOVR_COUNT)
      else if a = 1 then d.planEntry i (d.get (TMT_W1_SQ i)) h dataW
      else if a = 2 then
        ((d.silPost 0x10 0x0001 (leNat h.bytes)).inc TNL_MIRROR_COUNT).planOwn p sq h dataW
      else d.planOwn p sq h dataW
    | none => d.planOwn p sq h dataW

/-- The candidates of an arriving packet's key that are read with an uncorrectable error, counted (R564). -/
def Dev.tmtSeen (h : THdr) (d : Dev) : Dev :=
  if d.rel.flaws = [] then d
  else
    forAll ((tmtCandidates (tmtBucket h.labelKey (d.get TNL_TMT_SEED_SEED))).filter (fun i => d.flag (TMT_W0_VALID i) && d.slotFlawed i))
      (fun i d => (d.memUe 3 (tmtPlace i).1 (tmtPlace i).2).inc REL_TMT_UE_COUNT) d

/-! ### Arrival -/

/-- The bytes of a block run through the packet's check; the last 8 bytes seen are kept as the trailer (R149, R166). -/
def Pkt.feed (k : Pkt) (l : List Byte) : Pkt :=
  let t := k.tail ++ l
  let n := t.length - 8
  { k with crc := crcRun k.crc (t.take n), tail := t.drop n, bytes := k.bytes + l.length }

/-- Whether a packet whose LAST block has come is bad: its length or its check fails (R148, R166). -/
def Pkt.bad (k : Pkt) : Bool :=
  k.bytes != k.hdr.frameBytes || (k.crc ^^^ 0xFFFFFFFF) != beNat (k.tail.take 4)

/-- The egress queue of a frame on an Ethernet port: the entry of its PCP, or the UNTAGGED one (R246). -/
def Dev.ethQueue (d : Dev) (n : Nat) (frame : List Byte) : Nat :=
  let tagged := (frame.drop 12).take 2 == [0x81, 0x00]
  let pcp := ((frame.drop 14).headD 0).toNat / 32
  let e := if !tagged then d.get (SCH_EQMAPn_HI_UNTAGGED n)
    else if pcp = 0 then d.get (SCH_EQMAPn_LO_PCP0 n) else if pcp = 1 then d.get (SCH_EQMAPn_LO_PCP1 n)
    else if pcp = 2 then d.get (SCH_EQMAPn_LO_PCP2 n) else if pcp = 3 then d.get (SCH_EQMAPn_LO_PCP3 n)
    else if pcp = 4 then d.get (SCH_EQMAPn_LO_PCP4 n) else if pcp = 5 then d.get (SCH_EQMAPn_LO_PCP5 n)
    else if pcp = 6 then d.get (SCH_EQMAPn_HI_PCP6 n) else d.get (SCH_EQMAPn_HI_PCP7 n)
  768 + 32 * n + e

/-- The queue a terminated packet waits in (R188, R246). -/
def Dev.termQueue (d : Dev) (c : Nat) (h : THdr) (first : List Byte) : Nat :=
  let lp := d.get (CTX_W1_LPORT c)
  if 16 ≤ lp && h.kind == 0 then d.ethQueue (lp - 16) (first.drop 16) else d.localQueue c h.kind

/-- The key of a packet that arrives: its port and PID. -/
def openKey (p pid : Nat) : Nat := p * 65536 + pid

/-- A copy of an arriving packet made with its first cell, and decided (R158, R194). -/
def Dev.copyIn (d : Dev) (p : Nat) (hd : BlkHdr) (h : THdr) (l : List Byte) (q sq : Nat) (dataW lead poison : Bool)
    (term : Option Nat) : Nat × Dev :=
  let k : Pkt :=
    { ing := p, pid := hd.pid, queue := q, sq := sq, hdr := h, frame := false, cells := [], whole := hd.last, poison := poison
      closing := false, cut := false, started := false, dataW := dataW, admitAt := 0, bytes := 0, crc := 0xFFFFFFFF, tail := []
      term := term, place := .held, lead := lead, credit := hd.sq / 32, trunc := none, fast := d.cutFast p q }
  let k := k.feed l
  let (c, d) := d.waitCell k l
  let (i, d) := d.newPkt { k with cells := [c] }
  (i, d.admitNew i)

/-- The copies of an arriving packet: on Tirrun queues, then on its local queue (R159 to R161). The agent's SYN queue is the LQ of
context 0, whatever that context's LPORT and STATE are, and its descriptor names context 0 (DESIGN CHOICE, log 30: R159 names no
queue). -/
def Dev.copiesIn (d : Dev) (p : Nat) (hd : BlkHdr) (h : THdr) (l : List Byte) (poison : Bool) (pl : Plan) : List Nat × Dev :=
  let outs := pl.outs.map (fun x => (portQueue x.1 x.2.1, x.2.1, x.2.2, (none : Option Nat)))
  let ends := (match pl.term with
    | some c => [(d.termQueue c h l, hd.sq, false, some c)]
    | none => []) ++ (if pl.agent then [(1088 + d.get (CTX_W1_LQ 0), hd.sq, false, (none : Option Nat))] else [])
  let all := outs ++ ends
  (all.zip (List.range all.length)).foldl (fun (acc : List Nat × Dev) x =>
    let (i, d) := acc.2.copyIn p hd h l x.1.1 x.1.2.1 x.1.2.2.1 (x.2 == 0) poison x.1.2.2.2
    (acc.1 ++ [i], d)) ([], d)

/-- A packet found bad by this hub: counted where no hub before has found it bad (R166). -/
def Dev.poisonSet (d : Dev) (already bad : Bool) : Dev :=
  if bad && !already then (d.inc TNL_POISONSET_COUNT).raise TNL_EVT_POISON_SET else d

def Dev.setOpen (d : Dev) (key : Nat) (v : Option (List Nat)) : Dev :=
  d.modSw (fun w => { w with rxOpen := w.rxOpen.set key v none })

/-- The FIRST block of a packet (R158, R159, R104, R175). -/
def Dev.firstBlock (p : Nat) (hd : BlkHdr) (l : List Byte) (d : Dev) : Dev :=
  let h := THdr.parse l
  let key := openKey p hd.pid
  let k0 := Pkt.feed ⟨p, hd.pid, 0, 0, h, false, [], true, false, false, false, false, false, 0, 0, 0xFFFFFFFF, [], none, .held,
    false, 0, none, false⟩ l
  let bad := hd.last && !hd.poison && k0.bad
  let (pl, d) :=
    if d.linkState p = 3 ∧ h.cls ≠ 0 then (Plan.none, d.inc (LNK_FENCEDROP_COUNT p))
    else if !d.flag TNL_CTL_EN then (Plan.none, d.inc TNL_NOCTX_COUNT)
    else (d.tmtSeen h).plan p hd.sq h (hd.ty == 1)
  let d := if pl = Plan.none then d else d.poisonSet (hd.last && hd.poison) bad
  let (is, d) := d.copiesIn p hd h l (hd.last && (hd.poison || bad)) pl
  let d := if pl = Plan.none then d.returnCredit p (hd.sq / 32) else d
  if hd.last then d.setOpen key none else d.setOpen key (some is)

/-- Whether a live copy of an arriving packet holds its cells under credit. -/
def Dev.leads (d : Dev) (is : List Nat) : Bool :=
  is.any (fun i => match d.pkt i with
    | some k => k.lead && k.trunc.isNone
    | none => false)

/-- A later block of a packet for one of its copies: stored, or discarded where the copy was cut (R105, R194). The packet's LAST
completes it, poisoned where this hub or one before found it bad (R166); where it is a closing block, so is the packet's end (R167,
R185). -/
def Dev.blockFor (hd : BlkHdr) (l : List Byte) (poison : Bool) (i : Nat) (d : Dev) : Dev :=
  match d.pkt i with
  | none => d
  | some k =>
    match k.trunc with
    | some q => let d := d.inc (LNK_TRUNC_COUNT q); if hd.last then d.erasePkt i else d
    | none =>
      let d := d.putPkt i (k.feed l)
      let d := if l = [] then d else d.addCell i l
      if hd.last then
        d.modPkt i (fun k =>
          { k with whole := true, closing := k.closing || l == [], poison := k.poison || poison || l == []
                   place := if k.place = .spill ∧ k.cells.all (fun c => c.pool == .stage) then .chip else k.place })
      else d

/-- A block of a packet after its FIRST (R166, R194): judged by a copy that has taken every block, counted where no hub before and no
cell of this one has found it bad. -/
def Dev.laterBlock (p : Nat) (hd : BlkHdr) (l : List Byte) (d : Dev) : Dev :=
  let key := openKey p hd.pid
  let is := (d.sw.rxOpen.get key none).getD []
  let ks := (is.filterMap d.pkt).filter (fun k => k.trunc.isNone)
  let bad := hd.last && !hd.poison && (match ks with
    | k :: _ => (k.feed l).bad
    | [] => false)
  let d := if d.leads is || l == [] then d else d.returnCredit p (hd.sq / 32)
  let d := d.poisonSet ((hd.last && hd.poison) || ks.any (·.poison)) bad
  let d := forAll is (fun i d => d.blockFor hd l (hd.poison || bad) i) d
  if hd.last then d.setOpen key none else d

/-! ### Leaving the switch core at an engine -/

/-- The bytes of a packet's cells. -/
def Pkt.data (k : Pkt) : List Byte := k.cells.flatMap (·.data)

/-- A packet that terminates in a context (R160, R166 to R168, R171, R173); whether a DATA packet was delivered. -/
def Dev.terminate (d : Dev) (c : Nat) (k : Pkt) : Bool × Dev :=
  let h := k.hdr
  let payload := (k.data.drop 16).take h.len
  let bad := k.cells.any (·.bad)
  let d := d.ctxSeen c
  if !d.ctxRun c then (false, (d.inc TNL_NOCTX_COUNT).raise TNL_EVT_NOCTX)
  else if k.poison || bad then (false, (d.poisonSet k.poison bad).inc (CTX_W13_POISONED c))
  else
    let sack := if h.kind = 1 then some (beNat (payload.take 2)) else none
    let d := if h.akv && d.flag (CTX_W0_REL c) && !h.g then d.ackRx c h.aux sack else d
    if h.kind = 0 then d.receiveData c h payload (beNat (k.tail.drop 4)) k.cells
    else if h.kind = 2 then
      let lat := (d.stamp + 2 ^ 32 - beNat (k.tail.drop 4) % 2 ^ 32) % 2 ^ 32
      match d.handOver c h payload lat with
      | some d => (false, d.set (CTX_W7_LAT c) lat)
      | none => (false, d.inc (CTX_W15_RXFULL c))
    else (false, d)

/-- A packet for the Enique agent: into its SYN queue; a bad one is discarded (R159, R161, R166, R167). One that its packet queue cannot
take is dropped, and no counter names that (DESIGN CHOICE, log 30). -/
def Dev.toAgent (d : Dev) (k : Pkt) : Dev :=
  let bad := k.cells.any (·.bad)
  if k.poison || bad then d.poisonSet k.poison bad
  else
    let lat := (d.stamp + 2 ^ 32 - beNat (k.tail.drop 4)) % 2 ^ 32
    (d.pqTake (d.get (CTX_W1_LQ 0)) (deliveryDesc 0 k.hdr lat) ((k.data.drop 16).take k.hdr.len)).getD d

/-- A start on a local egress, in the order of R251: base, heart, top. -/
def Dev.pickLocal (d : Dev) (e : Nat) : Option Nat :=
  match d.pick e 2 with
  | some q => some q
  | none =>
    match d.pick e 1 with
    | some q => some q
    | none => d.pick e 0

/-- Cells read one after another, `ecc` on the first of them. -/
def Dev.readCells : List Cell → Ecc → Dev → List Cell × Dev
  | [], _, d => ([], d)
  | c :: t, ecc, d =>
    let (c, d) := d.readCell c ecc
    let (t, d) := Dev.readCells t .ok d
    (c :: t, d)

/-- The cells of a whole packet read at a local egress, `ecc` on the first of them: an uncorrectable error is counted and leaves the
packet bad, even where the packet is dropped next (R166, R204, R205). -/
def Dev.readOut (d : Dev) (k : Pkt) (ecc : Ecc) : Pkt × Dev :=
  let (l, d) := Dev.readCells k.cells ecc d
  ({ k with cells := l }, d)

/-- A packet that has been sent, by cut-through or not (R210). -/
def Dev.countSent (d : Dev) (cut : Bool) : Dev := d.inc (if cut then SWC_CT_PKTS_COUNT else SWC_SF_PKTS_COUNT)

/-- A packet that leaves its queue at an engine port: it lies in its cells until the engine is done with it, and the cells that its
context does not keep in HOLD are freed then (R189, R192). -/
def Dev.leaveEngine (d : Dev) (i : Nat) (k : Pkt) (ecc : Ecc) : Dev :=
  let (k, d) := d.readOut k ecc
  let d := (forAll k.cells (fun c d => d.discharge k.lead k.credit c.pool) d).takeOff i k
  let (keep, d) := match k.term with
    | some c => let d := (d.terminate c k).2; (d.heldCells c, d)
    | none => ([], d.toAgent k)
  (forAll (k.cells.filter (fun c => !keep.contains c.num)) (fun c d => d.freeChip c.num) d).syncPools

/-- One packet of an engine port leaves, if one is eligible; queue 1,216 is the tunnel engine's own (R250, R251). `x` holds what the
checker finds in the next packet read. -/
def Dev.engineStep (e : Nat) (x : Ecc × Dev) : Ecc × Dev :=
  if e = 24 then
    let d := if x.2.rel.flaws = [] then x.2 else x.2.dropFlawed 1216
    match d.headOf 1216 with
    | some (i, k) => if k.whole && k.cells.all k.readable then (.ok, d.leaveEngine i k x.1) else (x.1, d)
    | none => (x.1, d)
  else
    let d := x.2.prepare e
    match d.pickLocal e with
    | none => (x.1, d)
    | some q =>
      match d.headOf q with
      | some (i, k) => (.ok, ((d.noteStart e q k).countSent false).leaveEngine i k x.1)
      | none => (x.1, d)

/-- The packets that wait for the engines leave in the scheduler's order as long as they are eligible (R250, R251); `ecc` is what the
checker finds in the first of them. -/
def Dev.drainLocal (d : Dev) (ecc : Ecc) : Dev :=
  ([24, 20, 21, 22, 23].foldl (fun (x : Ecc × Dev) e =>
    ((x.2.busyQueues e).flatMap x.2.queue).foldl (fun x _ => Dev.engineStep e x) x) (ecc, d)).2

/-! ### The rows -/

/-- The first block waiting on a port that a condition names, and the link without it. -/
def Dev.takeWait (d : Dev) (p : Nat) (f : Block → Bool) : Option (Block × Dev) :=
  match (d.lnk p).rxWait.find? f with
  | none => none
  | some b => some (b, d.modLnk p (fun l => { l with rxWait := l.rxWait.erase b }))

/-- The bytes of a data block. -/
def Block.bytes (b : Block) : List Byte :=
  match b.body with
  | .data l => l
  | _ => []

/-- The FIRST block of a packet reaches the tunnel engine, and the blocks behind it that are stored at once (R159, R194). -/
def packetFirstBlock (p : Nat) (ecc : Ecc) (d : Dev) : Dev :=
  match d.takeWait p (fun b => b.hdr.first) with
  | none => d
  | some (b, d) =>
    let d := d.firstBlock p b.hdr b.bytes
    let mid := (d.lnk p).rxWait.filter (fun x => x.hdr.pid == b.hdr.pid && !x.hdr.first && !x.hdr.last)
    let d := forAll mid (fun x d =>
      (d.modLnk p (fun l => { l with rxWait := l.rxWait.erase x })).laterBlock p x.hdr x.bytes) d
    d.drainLocal ecc

def execPacketFirstBlock (p : Fin 10) (ecc : Ecc) (s : State) : Host.Outcome State Fault Refusal :=
  s.runOn 3 (packetFirstBlock p ecc)

/-- The LAST block of a packet: the end-to-end check, and the packet is whole (R166, R168). -/
def packetLastBlock (p : Nat) (ecc : Ecc) (d : Dev) : Dev :=
  let w := (d.lnk p).rxWait
  match d.takeWait p (fun b => b.hdr.last && !b.hdr.first && !w.any (fun x => x.hdr.first && x.hdr.pid == b.hdr.pid)) with
  | none => d
  | some (b, d) => (d.laterBlock p b.hdr b.bytes).drainLocal ecc

def execPacketLastBlock (p : Fin 10) (ecc : Ecc) (s : State) : Host.Outcome State Fault Refusal :=
  s.runOn 3 (packetLastBlock p ecc)

/-- Cells that wait outside SHARED take the free ones, and the packets that an ingress holds under order 5 are decided again, in
their order there (R194, R195). -/
def admissionRetry (ing : Nat) (ecc : Ecc) (d : Dev) : Dev :=
  let d := d.chargeWaiting ing
  let (_, d) := (d.sw.held.get ing []).foldl (fun (acc : List Nat × Dev) i =>
    match acc.2.pkt i with
    | none => acc
    | some k =>
      if acc.1.contains k.queue then acc
      else
        let d := acc.2.admission i
        if (d.sw.held.get ing []).contains i then (k.queue :: acc.1, d) else (acc.1, d)) ([], d)
  d.drainLocal ecc

def execAdmissionRetry (ing : Fin 23) (ecc : Ecc) (s : State) : Host.Outcome State Fault Refusal := s.runOn 3 (admissionRetry ing ecc)

/-- The time until the spill rate allows the next cell (R199). -/
def Dev.spillWait (d : Dev) : Dev := d.elapse ((d.sw.spillAt - d.ps + 1999) / 2000)

/-- A spilled cell read returns from DRAM, no sooner than the spill rate allows (R198, R199, R204). -/
def refillCellArrive (q : Nat) (ecc : Ecc) (d : Dev) : Dev :=
  if d.sw.refill.get q false then
    let d := d.spillWait.stageCell q ecc
    (if d.get (SWQ_W3_SPILLED q) = 0 ∨ d.get SWC_STAGE_Q_PERQ ≤ d.stagedOf q then
      d.modSw (fun w => { w with refill := w.refill.set q false false }) else d).drainLocal .ok
  else d

def execRefillCellArrive (q : Fin 1216) (ecc : Ecc) (s : State) : Host.Outcome State Fault Refusal :=
  s.runOn 3 (refillCellArrive q ecc)

/-- A REFRESH packet at the label origin of a DISP tunnel (R147, R169). What the origin does with it the spec does not say: it is handed to
the context's local port as a packet is, and one that the port cannot take is counted in RXFULL (DESIGN CHOICE, log 32). -/
def refreshPacketRx (c : Nat) (payload : List Byte) (d : Dev) : Dev :=
  if d.ctxRun c && d.orig c && d.get (CTX_W0_CLASS c) == 3 then
    let h : THdr := ⟨1, 3, false, d.get STN_ID_NUM, d.get (CTX_W0_PEER c), d.get (CTX_W0_INDEX c), 0, false, true, 2,
      payload.length, false, 0, 0⟩
    (d.handOver c h payload 0).getD (d.inc (CTX_W15_RXFULL c))
  else (d.inc TNL_NOCTX_COUNT).raise TNL_EVT_NOCTX

def execRefreshPacketRx (c : Fin 1024) (payload : List Byte) (s : State) : Host.Outcome State Fault Refusal :=
  s.runOn 3 (refreshPacketRx c payload)

end Sys2Proof.Machine
end

