-- ==== Sys2Proof/Machine/Scanout.lean ====
section
/-! DEFINITION. Panels and scan-out (spec 14): the engines' states (R436, R437, R451), commits (R444, R447 to R449), the image
(R438), underruns (R450, R452), cover (R453), and the delta ingest (R440 to R446). -/

namespace Sys2Proof.Machine

def Dev.panel (d : Dev) (n : Nat) : Panel := d.scan.panels.get n Panel.reset
def Dev.modPanel (d : Dev) (n : Nat) (f : Panel → Panel) : Dev :=
  { d with scan := { d.scan with panels := d.scan.panels.set n (f (d.panel n)) Panel.reset } }
def Dev.setIngest (d : Dev) (n : Nat) (g : Ingest) : Dev :=
  { d with scan := { d.scan with ingests := d.scan.ingests.set n g Ingest.reset } }

/-- The state of an engine (R437): 0 OFF, 1 TRAIN, 2 RUN, 3 PSR, 4 NOLINK. -/
def Dev.dso (d : Dev) (n : Nat) : Nat := d.get (DSO_Dn_STAT_STATE n)

def Dev.paired (d : Dev) : Bool := d.flag DSO_CTL_LOCK

/-- The engine whose timing, layers, background, palette and COMMIT an output uses (R451). -/
def Dev.surface (d : Dev) (n : Nat) : Nat := if d.paired then 0 else n

/-! ### Cover -/

/-- The columns of a layer that an output fetches (R451, R453). -/
def Dev.columns (d : Dev) (n l : Nat) : Nat :=
  let m := d.surface n
  let w := d.panel m
  let x := w.active.get (DSO_Dn_Ll_POS_X m l).key 0
  let e := x + w.active.get (DSO_Dn_Ll_SIZE_W m l).key 0
  let a := d.get (DSO_Dn_HTIM0_HACTIVE 0)
  if d.paired then min e (a * (n + 1)) - max x (a * n) else e - x

/-- The cover of an engine whose line buffer is full: the smallest number of lines of any enabled layer, times the line time
(R453). -/
def Dev.fullCover (d : Dev) (n : Nat) : Nat :=
  let m := d.surface n
  let ls := (List.range 4).filter (fun l => (d.panel m).active.get (DSO_Dn_Ll_CFG_EN m l).key 0 == 1)
  let wide := (ls.map (d.columns n)).foldl max 0
  let line := d.get (DSO_Dn_HTIM0_HACTIVE m) + d.get (DSO_Dn_HTIM0_HFP m) + d.get (DSO_Dn_HTIM1_HSYNC m)
    + d.get (DSO_Dn_HTIM1_HBP m)
  let den := ls.length * 4 * wide * d.get (DSO_Dn_PCLK_KHZ m)
  if den = 0 then 0xFFFFF else min 0xFFFFF (262144 * line * 1000000 / den)

/-- The cover as it stands: of a running engine the lines buffered change with every fetch, so it is a free value up to that of a full
buffer; in other states it is what its state gives (R453; log entry 110). -/
def Dev.coverNow (n : Nat) (d : Dev) : Dev :=
  if d.dso n = 2 then
    let (k, d) := d.fresh
    d.set (DSO_Dn_COVER_NS n) (Sys2Proof.Config.randomNat k % (d.fullCover n + 1))
  else d

/-- The DRAM class of an engine's fetches: 1 while its cover is below `DSO_Dn_LT.TOL`, else 4 (R43, R453). -/
def Dev.fetchClass (d : Dev) (n : Nat) : Nat := if d.get (DSO_Dn_COVER_NS n) < d.get (DSO_Dn_LT_TOL n) then 1 else 4

/-- An engine's state entered: LOCK_OK and the cover follow (R451, R453). -/
def Dev.setDso (d : Dev) (n st : Nat) : Dev :=
  let d := d.set (DSO_Dn_STAT_STATE n) st
  d.set (DSO_Dn_COVER_NS n) (if st = 2 then d.fullCover n else 0xFFFFF)

/-- LOCK_OK: a locked pair with equal LANES and RATE (R451). -/
def Dev.syncLock (d : Dev) : Dev :=
  d.setB DSO_CTL_LOCK_OK (d.paired && d.get (DSO_Dn_CTL_LANES 0) == d.get (DSO_Dn_CTL_LANES 1)
    && d.get (DSO_Dn_CTL_RATE 0) == d.get (DSO_Dn_CTL_RATE 1))

/-! ### The image -/

/-- A pixel word as three colour values and an alpha, each from 0 to 1 (R438). -/
def pixelOf (fmt word : Nat) : (Rat × Rat × Rat) × Rat :=
  let c8 := fun k => ((bitsOf word k 8 : Nat) : Rat) / 255
  let c10 := fun k => ((bitsOf word k 10 : Nat) : Rat) / 1023
  if fmt = 0 then ((c8 16, c8 8, c8 0), 1)
  else if fmt = 1 then ((c8 16, c8 8, c8 0), c8 24)
  else if fmt = 2 then ((c10 20, c10 10, c10 0), 1)
  else ((c10 20, c10 10, c10 0), ((bitsOf word 30 2 : Nat) : Rat) / 3)

/-- One value blended over another. -/
def blend (a c below : Rat) : Rat := a * c + (1 - a) * below

/-- The buffer of a layer that is scanned out, by the active set (R439, R447). -/
def Dev.frontBuf (d : Dev) (n l : Nat) : Nat :=
  let g := fun f : Fld => (d.panel n).active.get f.key 0
  if g (DSO_Dn_Ll_CFG_DBL n l) = 1 ∧ g (DSO_Dn_Ll_CFG_FRONT n l) = 1 then 1 else 0

/-- Layer `l` of surface `m` blended at a column and row over what lies below; a layer that is not enabled, or does not reach
there, contributes nothing (R438, R439). -/
def Dev.layerOver (d : Dev) (m l x y : Nat) (below : Rat × Rat × Rat) : Rat × Rat × Rat :=
  let g := fun f : Fld => (d.panel m).active.get f.key 0
  let px := g (DSO_Dn_Ll_POS_X m l)
  let py := g (DSO_Dn_Ll_POS_Y m l)
  if g (DSO_Dn_Ll_CFG_EN m l) = 0 ∨ x < px ∨ y < py ∨ px + g (DSO_Dn_Ll_SIZE_W m l) ≤ x ∨ py + g (DSO_Dn_Ll_SIZE_H m l) ≤ y
  then below
  else
    let fb := if d.frontBuf m l = 1
      then g (DSO_Dn_Ll_FB1_HI_ADDR m l) * 2 ^ 32 + g (DSO_Dn_Ll_FB1_LO_ADDR m l)
      else g (DSO_Dn_Ll_FB0_HI_ADDR m l) * 2 ^ 32 + g (DSO_Dn_Ll_FB0_LO_ADDR m l)
    let word := d.load (fb + g (DSO_Dn_Ll_STRIDE_BYTES m l) * (y - py) + 4 * (x - px)) 4
    let ((r, gr, b), pa) := pixelOf (g (DSO_Dn_Ll_CFG_FMT m l)) word
    let a := pa * (((g (DSO_Dn_Ll_CFG_ALPHA m l) : Nat) : Rat) / 255)
    (blend a r below.1, blend a gr below.2.1, blend a b below.2.2)

/-- Whether a pixel of output `n` follows one that had not been fetched: in the rest of that line, or of a locked pair's frame
(R450, R452). -/
def Dev.givenUp (d : Dev) (n x y : Nat) : Bool :=
  match (d.panel (d.surface n)).gap with
  | none => false
  | some (gx, gy) => (y == gy && decide (gx ≤ x)) || (d.paired && decide (gy < y))

/-- The colour that output `n` sends at a column and row of its raster: four layers over the background, or the background alone
after a pixel that had not been fetched (R438, R450, R451, R452). -/
def Dev.pixel (d : Dev) (n x y : Nat) : Rat × Rat × Rat :=
  let m := d.surface n
  let bg := (d.panel m).active.get (DSO_Dn_BG_RGB m).key 0
  if d.givenUp n x y then (pixelOf 2 bg).1
  else
    let x := if d.paired then x + n * d.get (DSO_Dn_HTIM0_HACTIVE 0) else x
    (List.range 4).foldl (fun c l => d.layerOver m l x y c) (pixelOf 2 bg).1

/-! ### Commits -/

/-- Whether a field belongs to the pending set of an engine: its layers, background and palette (R447). -/
def inSet (n key : Nat) : Bool :=
  let o := key / 8 - 0x10D00000
  o == 0x1024 + 0x1000 * n || (0x1100 + 0x1000 * n ≤ o && o < 0x1200 + 0x1000 * n)
    || (0x9000 + 0x1000 * n ≤ o && o < 0xA000 + 0x1000 * n)

/-- Whether the NOT_BEFORE instants of the FLIPs taken have all been reached (R444). -/
def Dev.flipsDue (d : Dev) (n : Nat) : Bool :=
  (d.ingest n).notBefore.all (fun t => (d.stamp + 2 ^ 32 - t) % 2 ^ 32 < 2 ^ 31)

/-- The pending set made active; GO clears; a FRONT change that applies is stamped, and the catch-up copy of a layer with
recorded rectangles starts (R444, R446, R447, R449). -/
def Dev.commitSet (n : Nat) (d : Dev) : Dev :=
  let was := (d.panel n).active
  let turned := (List.range 4).filter (fun l =>
    was.get (DSO_Dn_Ll_CFG_FRONT n l).key 0 != d.get (DSO_Dn_Ll_CFG_FRONT n l))
  let d := d.modPanel n (fun p => { p with active := d.flds.filter (fun x => inSet n x.1) })
  let d := (d.update (DSO_Dn_COMMIT_GO n) 0).inc (DSO_Dn_APPLIED_COUNT n)
  let g := d.ingest n
  let copy := turned.filter (fun l => d.flag (DSO_Dn_Ll_CFG_DBL n l) && g.damage.get l [] != [])
  let d := d.setIngest n { g with flipped := [], notBefore := [], copying := g.copying.filter (fun l => !copy.contains l) ++ copy }
  if turned = [] then d
  else ((d.set (DSO_Dn_FLIPTS_SEC_SEC n) (d.tb 0).sec).set (DSO_Dn_FLIPTS_NS_NS n) (d.tb 0).ns).raise (DSO_Dn_EVT_FLIP n)

/-- Whether a commit applies at this blank or edge (R444, R447, R451). -/
def Dev.commitDue (d : Dev) (n : Nat) : Bool := d.flag (DSO_Dn_COMMIT_GO n) && d.flipsDue n && !(d.paired && n == 1)

/-- Whether an engine runs as UPD = TE (R448). -/
def Dev.teMode (d : Dev) (n : Nat) : Bool := d.flag (DSO_Dn_CTL_UPD n) && !(d.panel n).noTe

/-! ### The engines -/

/-- Video of an engine stops, and with it that of the other half of a locked pair, which waits to start with it again
(R437, R451). -/
def Dev.stopVideo (n st : Nat) (d : Dev) : Dev :=
  let was := d.dso n
  let d := (d.modPanel n (fun p => { p with sending := false, late := false, trained := false, gap := none, shown := false })).setDso n st
  let d := (d.set (DSO_Dn_STAT_LANES_ACT n) 0).set (DSO_Dn_STAT_RATE_ACT n) 0
  let o := 1 - n
  if d.paired ∧ (was = 2 ∨ was = 3) ∧ (d.dso o = 2 ∨ d.dso o = 3) then
    (d.modPanel o (fun p => { p with sending := false, late := false, trained := true, gap := none, shown := false })).setDso o 1
  else d

/-- The power domain of the lanes of Type-C port `n` (R406). -/
def laneDomain (n : Nat) : Nat := if n < 4 then 7 else 8

/-- Whether an engine's output can carry video: panel pins, or a Type-C port in DisplayPort Alt Mode whose lane group's domain is ON
(R406, R436). -/
def Dev.carries (d : Dev) (n : Nat) : Bool :=
  let r := d.get (DSO_Dn_CTL_ROUTE n)
  r == 0 || (decide (r ≤ 8) && d.get (PDC_Pn_STAT_ALT (r - 1)) == 1 && d.domOn (laneDomain (r - 1)))

/-- HPD of an engine's output: the level at the panel's pin, or what the port controller passes on (R425, R436). -/
def Dev.hpdIn (d : Dev) (n : Nat) : Bool :=
  let r := d.get (DSO_Dn_CTL_ROUTE n)
  if r = 0 then d.scan.hpd.get n false else d.carries n && d.flag (PDC_Pn_STAT_HPD (r - 1))

/-- An engine sees the HPD of its output: NOLINK trains as it is high, and video stops where the output no longer carries any
(R436, R437). -/
def Dev.hpdSync (n : Nat) (d : Dev) : Dev :=
  let h := d.hpdIn n
  let d := if d.flag (DSO_Dn_STAT_HPD n) != h then (d.setB (DSO_Dn_STAT_HPD n) h).raise (DSO_Dn_EVT_HPD_CHANGE n) else d
  if !d.carries n ∧ (d.dso n = 1 ∨ d.dso n = 2 ∨ d.dso n = 3) then d.stopVideo n 4
  else if h ∧ d.dso n = 4 then d.setDso n 1
  else d

/-- What a Type-C port's mode, HPD and lanes come to for the engine routed to it (R406, R425, R436). -/
def Dev.passHpd (n : Nat) (d : Dev) : Dev :=
  forAll ((List.range 2).filter (fun e => d.get (DSO_Dn_CTL_ROUTE e) == n + 1)) Dev.hpdSync d

/-- RUN gives way to PSR in TE mode once a frame has been sent and GO is 0 (R437). -/
def Dev.enterPsr (n : Nat) (d : Dev) : Dev :=
  if d.dso n = 2 ∧ d.teMode n ∧ (d.panel n).shown ∧ !(d.panel n).sending ∧ !d.flag (DSO_Dn_COMMIT_GO (d.surface n)) then
    (d.modPanel n (fun p => { p with late := false })).setDso n 3
  else d

/-- The largest LANES code of an engine's output: two lanes behind a Type-C port with pin assignment D, else four (R31, R425). -/
def Dev.laneCap (d : Dev) (n : Nat) : Nat :=
  let route := d.get (DSO_Dn_CTL_ROUTE n)
  if route ≠ 0 ∧ d.get (PDC_Pn_STAT_PIN (route - 1)) = 2 then 1 else 2

/-- Whether the configuration of an engine lets it leave OFF (R436, R437, R451). -/
def Dev.dsoSound (d : Dev) (n : Nat) : Bool :=
  let route := d.get (DSO_Dn_CTL_ROUTE n)
  let lanes := 2 ^ min (d.get (DSO_Dn_CTL_LANES n)) (d.laneCap n)
  let rate := [1620000, 2700000, 5400000, 8100000].getD (d.get (DSO_Dn_CTL_RATE n)) 0
  let bpp := if d.flag (DSO_Dn_CTL_BPC10 n) then 30 else 24
  route ≤ 8 && !(route != 0 && d.flag (DSO_Dn_CTL_EN (1 - n)) && d.get (DSO_Dn_CTL_ROUTE (1 - n)) == route)
    && d.get (DSO_Dn_CTL_LANES n) ≤ 2
    && d.get (DSO_Dn_PCLK_KHZ (d.surface n)) * bpp * 10 ≤ 8 * lanes * rate

/-- The test of UPD = TE at a write of EN = 1: without an eDP sink that reports PSR the engine runs as UPD = VBLANK (R448). -/
def Dev.checkTe (n : Nat) (psr : Bool) (d : Dev) : Dev :=
  let bad := d.flag (DSO_Dn_CTL_UPD n) && !(psr && d.get (DSO_Dn_CTL_ROUTE n) == 0)
  let d := d.modPanel n (fun p => { p with noTe := bad })
  if bad then d.raise (DSO_Dn_EVT_CFG_ERR n) else d

/-- EN written 1 (R436, R437, R448, R451); `psr`: the sink is eDP and reports PSR. -/
def dsoEnable (n : Nat) (psr : Bool) (d : Dev) : Dev :=
  let was := d.flag (DSO_Dn_CTL_EN n)
  let d := ((d.set (DSO_Dn_CTL_EN n) 1).syncLock).hpdSync n
  if was ∧ d.dso n ≠ 0 then (d.checkTe n psr).enterPsr n
  else if d.paired ∧ !d.flag DSO_CTL_LOCK_OK then (d.raise (DSO_Dn_EVT_CFG_ERR 0)).raise (DSO_Dn_EVT_CFG_ERR 1)
  else if !d.dsoSound n then d.raise (DSO_Dn_EVT_CFG_ERR n)
  else
    let d := (d.checkTe n psr).modPanel n (fun p => { p with trained := false })
    d.setDso n (if d.flag (DSO_Dn_STAT_HPD n) then 1 else 4)

def execDsoEnable (n : Fin 2) (psr : Bool) (s : State) : Host.Outcome State Fault Refusal := s.runOn 10 (dsoEnable n psr)

/-- EN written 0 (R437). -/
def dsoDisable (n : Nat) (d : Dev) : Dev := (d.set (DSO_Dn_CTL_EN n) 0).stopVideo n 0

def execDsoDisable (n : Fin 2) (s : State) : Host.Outcome State Fault Refusal := s.runOn 10 (dsoDisable n)

/-- The raster starts at line 0; in TE mode the first frame is being sent (R437, R448). -/
def Dev.startRaster (n : Nat) (d : Dev) : Dev :=
  let te := d.teMode n
  (d.modPanel n (fun p => { p with trained := false, sending := te, gap := none, shown := false })).setDso n 2

/-- Link training ends (R435, R437): trained with at most the lanes and rate asked for and the
lanes of the pin assignment (R31), or failed down to one lane at the
lowest rate, as it does where the output carries no video (R436). The halves of a locked pair start together (R451). -/
def linkTrainingDone (n : Nat) (ok : Bool) (lanes rate : Nat) (d : Dev) : Dev :=
  if d.dso n ≠ 1 ∨ (d.panel n).trained then d
  else if !ok || !d.carries n then (d.stopVideo n 4).raise (DSO_Dn_EVT_TRAIN_FAIL n)
  else
    let d := d.set (DSO_Dn_STAT_LANES_ACT n) (min lanes (min (d.get (DSO_Dn_CTL_LANES n)) (d.laneCap n)))
    let d := d.set (DSO_Dn_STAT_RATE_ACT n) (min rate (d.get (DSO_Dn_CTL_RATE n)))
    if d.paired then
      if d.dso (1 - n) = 1 ∧ (d.panel (1 - n)).trained then (d.startRaster n).startRaster (1 - n)
      else d.modPanel n (fun p => { p with trained := true })
    else d.startRaster n

def execLinkTrainingDone (n : Fin 2) (ok : Bool) (lanes : Fin 3) (rate : Fin 4) (s : State) :
    Host.Outcome State Fault Refusal := s.runPins 10 (linkTrainingDone n ok lanes rate)

/-- A level at the hot-plug pin of a panel; behind a Type-C route HPD comes from the port controller alone (R436). -/
def Dev.setPin (n : Nat) (b : Bool) (d : Dev) : Dev :=
  if d.get (DSO_Dn_CTL_ROUTE n) = 0 then { d with scan := { d.scan with hpd := d.scan.hpd.set n b false } } else d

/-- HPD rises (R436, R437). -/
def dsoHpdHigh (n : Nat) (d : Dev) : Dev := (d.setPin n true).hpdSync n

def execHpdHigh (n : Fin 2) (s : State) : Host.Outcome State Fault Refusal := s.runPins 10 (dsoHpdHigh n)

/-- HPD has been low for 2 ms (R436, R437). -/
def dsoHpdLow (n : Nat) (d : Dev) : Dev :=
  let d := (d.setPin n false).hpdSync n
  if d.hpdIn n then d
  else if d.dso n = 2 ∨ d.dso n = 3 then d.stopVideo n 4 else d

def execHpdLowTimeout (n : Fin 2) (s : State) : Host.Outcome State Fault Refusal := s.runPins 10 (dsoHpdLow n)

/-- IRQ_HPD: the link status read is bad, or good (R437). -/
def dsoIrqHpd (n : Nat) (bad : Bool) (d : Dev) : Dev :=
  if bad ∧ (d.dso n = 2 ∨ d.dso n = 3) then d.stopVideo n 1 else d

def execIrqHpd (n : Fin 2) (bad : Bool) (s : State) : Host.Outcome State Fault Refusal := s.runPins 10 (dsoIrqHpd n bad)

/-- A TE frame begins: the engine leaves PSR, and with it the other output of a locked pair, which COMMIT of engine 0 alone
moves (R437, R448, R451). -/
def Dev.teSend (n : Nat) (d : Dev) : Dev :=
  let f := fun n (d : Dev) => (d.modPanel n (fun p => { p with sending := true, late := false })).setDso n 2
  let d := f n d
  if d.paired && n == 0 && d.teMode 1 && (d.dso 1 == 2 || d.dso 1 == 3) then f 1 d else d

/-- Vertical blank start of a running raster; `ecc`: what reads of the frame from word `word` of the line buffer found, whose
pixels are sent as read (R447, R448, R449, R452, R564). -/
def vblankStart (n word : Nat) (ecc : Ecc) (d : Dev) : Dev :=
  if d.dso n ≠ 2 then d
  else
    let d := d.memRead 8 n word ecc
    let d := d.modPanel n (fun p => { p with gap := none })
    let te := d.teMode n
    let late := (d.panel n).late
    let due := d.commitDue n
    let d := if due && (!te || late) then d.commitSet n else d
    let d := if late && due then d.teSend n else d
    let d := if te then d else (d.inc (DSO_Dn_FCOUNT_COUNT n)).modPanel n (fun p => { p with shown := true })
    (d.set (DSO_Dn_COVER_NS n) (d.fullCover n)).raise (DSO_Dn_EVT_VBLANK n)

def execVblankStart (n : Fin 2) (word : BitVec 15) (ecc : Ecc) (s : State) : Host.Outcome State Fault Refusal :=
  s.runOn 10 (vblankStart n word.toNat ecc)

/-- The edge of `TEn` that TEPOL names, filtered; ignored while a frame is being sent and while GO is 0 (R448). -/
def teEdge (n : Nat) (d : Dev) : Dev :=
  if d.teMode n && (d.dso n == 2 || d.dso n == 3) && !(d.panel n).sending && d.commitDue n then
    (d.commitSet n).teSend n
  else d

def execTeEdge (n : Fin 2) (s : State) : Host.Outcome State Fault Refusal := s.runPins 10 (teEdge n)

/-- A TE frame has been sent (R437, R448, R449). -/
def teFrameSent (n : Nat) (d : Dev) : Dev :=
  if d.dso n = 2 ∧ (d.panel n).sending then
    ((d.modPanel n (fun p => { p with sending := false, shown := true })).inc (DSO_Dn_FCOUNT_COUNT n)).enterPsr n
  else d

def execTeFrameSent (n : Fin 2) (s : State) : Host.Outcome State Fault Refusal := s.runOn 10 (teFrameSent n)

/-- GO has been 1 for 100 ms with no edge: the next blank of the engine's own timing applies the pending set (R448); COMMIT of
engine 1 of a locked pair is ignored (R451). -/
def teTimeout (n : Nat) (d : Dev) : Dev :=
  if d.teMode n && (d.dso n == 2 || d.dso n == 3) && d.flag (DSO_Dn_COMMIT_GO n) && !(d.paired && n == 1) then
    ((d.modPanel n (fun p => { p with late := true })).setDso n 2).inc (DSO_Dn_TELOST_COUNT n) |>.raise (DSO_Dn_EVT_TE_LOST n)
  else d

def execTeTimeout (n : Fin 2) (s : State) : Host.Outcome State Fault Refusal := s.runOn 10 (teTimeout n)

/-- No fetched pixel for the pixel due at a column and row of active video: the rest of the line, or of a locked pair's frame, is
background, counted once per line or frame (R450, R452). -/
def pixelUnderrun (n x y : Nat) (d : Dev) : Dev :=
  if d.dso n ≠ 2 then d
  else
    let m := d.surface n
    let old := (d.panel m).gap
    let d := d.set (DSO_Dn_COVER_NS n) 0
    if d.paired then
      if old.isSome then d
      else ((d.modPanel 0 (fun p => { p with gap := some (x, y) })).inc (DSO_Dn_ABORTS_COUNT 0)).raise (DSO_Dn_EVT_ABORT 0)
    else if old.any (fun g => g.2 == y) then d
    else ((d.modPanel n (fun p => { p with gap := some (x, y) })).inc (DSO_Dn_UNDERRUN_COUNT n)).raise (DSO_Dn_EVT_UNDERRUN n)

def execPixelUnderrun (n : Fin 2) (x y : BitVec 14) (s : State) : Host.Outcome State Fault Refusal :=
  s.runOn 10 (pixelUnderrun n x.toNat y.toNat)

/-! ### Delta ingest -/

/-- The header of a delta (R440). -/
structure Delta where
  op    : Nat
  layer : Nat
  enc   : Nat
  rect  : Rect
  frame : Nat
  body  : List Byte

def parseDelta (l : List Byte) : Delta :=
  let f := fun k n => beNat ((l.drop k).take n)
  ⟨f 0 1, f 1 1, f 2 1, ⟨f 4 2, f 6 2, f 8 2, f 10 2⟩, f 12 4, l.drop 16⟩

/-- The framebuffer 0 or 1 of a layer as the pending set gives it (R439). -/
def Dev.fbAddr (d : Dev) (n l k : Nat) : Nat :=
  if k = 0 then d.get (DSO_Dn_Ll_FB0_HI_ADDR n l) * 2 ^ 32 + d.get (DSO_Dn_Ll_FB0_LO_ADDR n l)
  else d.get (DSO_Dn_Ll_FB1_HI_ADDR n l) * 2 ^ 32 + d.get (DSO_Dn_Ll_FB1_LO_ADDR n l)

/-- The buffer that the ingest writes: with DBL the one that is not scanned out, FB0 without (R439). -/
def Dev.backBuf (d : Dev) (n l : Nat) : Nat := if d.flag (DSO_Dn_Ll_CFG_DBL n l) then 1 - d.frontBuf n l else 0

/-- The address of a pixel of a layer's buffer `k`. -/
def Dev.pixAddr (d : Dev) (n l k x y : Nat) : Nat := d.fbAddr n l k + d.get (DSO_Dn_Ll_STRIDE_BYTES n l) * y + 4 * x

/-- The `k`-th pixel of a rectangle written to the back buffer, in row-major order (R441). -/
def Dev.putPixel (d : Dev) (n l : Nat) (r : Rect) (k : Nat) (word : List Byte) : Dev :=
  d.engWrite (d.pixAddr n l (d.backBuf n l) (r.x + k % r.w) (r.y + k / r.w)) word

/-- Pixel words written one after another from the `k`-th pixel. -/
def Dev.putPixels (n l : Nat) (r : Rect) : Nat → List (List Byte) → Dev → Dev
  | _, [], d => d
  | k, p :: t, d => (d.putPixel n l r k p).putPixels n l r (k + 1) t

/-- Pixels copied from the row above, one after another; false where one lies in row 0 of the layer (R442). -/
def Dev.copyAbove (n l : Nat) (r : Rect) : Nat → Nat → Dev → Bool × Dev
  | _, 0, d => (true, d)
  | k, m + 1, d =>
    let y := r.y + k / r.w
    if y = 0 then (false, d)
    else
      let (p, d) := d.engRead (d.pixAddr n l (d.backBuf n l) (r.x + k % r.w) (y - 1)) 4
      (d.putPixel n l r k p).copyAbove n l r (k + 1) m

/-- Bytes cut into pixel words, `n` of them. -/
def wordsOf : Nat → List Byte → List (List Byte)
  | 0, _ => []
  | n + 1, l => l.take 4 :: wordsOf n (l.drop 4)

/-- A RUN body expanded from the `k`-th pixel (R442); false where it ends early, overruns the rectangle or copies above row 0.
The first number bounds the tokens. -/
def Dev.runTokens (n l : Nat) (r : Rect) : Nat → Nat → List Byte → Dev → Bool × Dev
  | 0, _, _, d => (false, d)
  | fuel + 1, k, body, d =>
    let total := r.w * r.h
    match body with
    | [] => (k == total, d)
    | c :: rest =>
      let c := c.toNat
      let count := if c < 128 then c + 1 else if c < 192 then c % 64 + 2 else c % 64 + 1
      let m := min count (total - k)
      if c < 128 then
        let have_ := min m (rest.length / 4)
        let d := d.putPixels n l r k (wordsOf have_ rest)
        if count ≤ have_ then d.runTokens n l r fuel (k + count) (rest.drop (4 * count)) else (false, d)
      else if c < 192 then
        if rest.length < 4 then (false, d)
        else
          let d := d.putPixels n l r k (List.replicate m (rest.take 4))
          if count ≤ m then d.runTokens n l r fuel (k + count) (rest.drop 4) else (false, d)
      else
        let (ok, d) := d.copyAbove n l r k m
        if ok && count ≤ m then d.runTokens n l r fuel (k + count) rest else (false, d)

/-- The bounding box of two rectangles. -/
def Rect.join (a b : Rect) : Rect :=
  let x := min a.x b.x
  let y := min a.y b.y
  ⟨x, y, max (a.x + a.w) (b.x + b.w) - x, max (a.y + a.h) (b.y + b.h) - y⟩

/-- A rectangle written recorded as damage of a DBL layer; from the 65th on the list is the bounding box (R446). -/
def Dev.damaged (n l : Nat) (r : Rect) (d : Dev) : Dev :=
  let g := d.ingest n
  if !d.flag (DSO_Dn_Ll_CFG_DBL n l) then d
  else
    let old := g.damage.get l []
    let new := old ++ [r]
    if g.collapsed.contains l then d.setIngest n { g with damage := g.damage.set l [new.foldl Rect.join r] [] }
    else if new.length ≤ 64 then d.setIngest n { g with damage := g.damage.set l new [] }
    else (d.setIngest n { g with damage := g.damage.set l [new.foldl Rect.join r] [], collapsed := l :: g.collapsed }).inc
      (DSO_IN_DMGOVFn_COUNT n)

/-- The packet at the front of an output's queue, where its OP is `op` or none of R440, and no catch-up holds it; it leaves the
queue and is counted (R444, R458). -/
def Dev.takeDelta (d : Dev) (n op : Nat) : Option (Nat × List Byte × Dev) :=
  let q := 1152 + n
  match d.port.inq.get q [] with
  | [] => none
  | x :: t =>
    let o := beNat (x.payload.take 1)
    if d.flag DSO_IN_CTL_EN && (o == op || o == 0 || decide (3 < o)) && !(d.ingest n).holds x.payload then
      let d := (d.modPort (fun p => { p with inq := p.inq.set q t [] })).inc (DSO_IN_PKTSn_COUNT n)
      some (x.ctx, x.payload, if 16 ≤ x.payload.length then d.set (DSO_IN_FRAMEn_FRAME n) (parseDelta x.payload).frame else d)
    else none

/-- A packet refused as malformed: counted, and a refresh asked for (R443). -/
def Dev.malformed (n c layer : Nat) (r : Rect) (d : Dev) : Dev :=
  (d.inc (DSO_IN_MALFORMEDn_COUNT n)).askRefresh c ⟨1, layer, r.x, r.y, r.w, r.h⟩

/-- The checks that every delta passes first: not sent to output 1 of a locked pair, a whole header, OP, ENC and LAYER (R443). -/
def Dev.deltaChecked (n c : Nat) (l : List Byte) (f : Delta → Dev → Dev) (d : Dev) : Dev :=
  let x := parseDelta l
  let whole : Rect := ⟨0, 0, 0, 0⟩
  let layer := if l.length < 16 ∨ x.op = 2 ∨ 3 < x.layer then 0xFF else x.layer
  if d.paired ∧ n = 1 then (d.inc (DSO_IN_MALFORMEDn_COUNT n)).askRefresh c ⟨3, layer, 0, 0, 0, 0⟩
  else if l.length < 16 ∨ x.op = 0 ∨ 3 < x.op ∨ (if x.op = 1 then 2 else 0) < x.enc ∨ (x.op ≠ 2 ∧ 3 < x.layer) then
    d.malformed n c layer whole
  else if x.op ≠ 2 ∧ !d.flag (DSO_Dn_Ll_CFG_EN n x.layer) then d.inc (DSO_IN_BOUNDSn_COUNT n)
  else f x d

/-- A RECT: its bounds, its body, its pixels (R441 to R443, R446). -/
def Dev.rectDelta (n c : Nat) (x : Delta) (d : Dev) : Dev :=
  let l := x.layer
  let r := x.rect
  let total := r.w * r.h
  if d.get (DSO_Dn_Ll_SIZE_W n l) < r.x + r.w ∨ d.get (DSO_Dn_Ll_SIZE_H n l) < r.y + r.h then
    (d.inc (DSO_IN_BOUNDSn_COUNT n)).askRefresh c ⟨2, l, 0, 0, 0, 0⟩
  else if x.enc = 1 then
    let (ok, d) := d.runTokens n l r (x.body.length + 1) 0 x.body
    let d := d.damaged n l r
    if ok then d else d.malformed n c l r
  else if x.body.length ≠ (if x.enc = 0 then 4 * total else total) then d.malformed n c l r
  else
    let words := if x.enc = 0 then wordsOf total x.body
      else x.body.map (fun b => natLE 4 (d.get (DSO_PAL_WORD (4 * n + l) b.toNat)))
    (d.putPixels n l r 0 words).damaged n l r

def deltaRect (n : Nat) (d : Dev) : Dev :=
  match d.takeDelta n 1 with
  | none => d
  | some (c, l, d) => d.deltaChecked n c l (Dev.rectDelta n c)

def execDeltaRect (n : Fin 2) (s : State) : Host.Outcome State Fault Refusal := s.runOn 10 (deltaRect n)

/-- A FLIP: FRONT turned in the pending set for each DBL layer of its mask, unless software wrote it in the same cycle, and GO set (R14,
R444). -/
def Dev.flipDelta (n c : Nat) (x : Delta) (d : Dev) : Dev :=
  if x.body.length < 4 then d.malformed n c 0xFF ⟨0, 0, 0, 0⟩
  else
    let ls := (bitList 4 x.layer).filter (fun l => d.flag (DSO_Dn_Ll_CFG_DBL n l))
    let d := forAll ls (fun l d => d.update (DSO_Dn_Ll_CFG_FRONT n l) (1 - d.get (DSO_Dn_Ll_CFG_FRONT n l))) d
    let t := beNat (x.body.take 4)
    let g := d.ingest n
    let d := d.setIngest n { g with flipped := g.flipped ++ ls, notBefore := if t = 0 then g.notBefore else g.notBefore ++ [t] }
    (d.set (DSO_Dn_COMMIT_GO n) 1).inc (DSO_IN_FLIPSn_COUNT n)

def deltaFlip (n : Nat) (d : Dev) : Dev :=
  match d.takeDelta n 2 with
  | none => d
  | some (c, l, d) => d.deltaChecked n c l (Dev.flipDelta n c)

def execDeltaFlip (n : Fin 2) (s : State) : Host.Outcome State Fault Refusal := s.runOn 10 (deltaFlip n)

/-- A PALETTE: entries X to X + W - 1 of the layer's palette (R441, R443). -/
def Dev.paletteDelta (n c : Nat) (x : Delta) (d : Dev) : Dev :=
  if 256 < x.rect.x + x.rect.w then (d.inc (DSO_IN_BOUNDSn_COUNT n)).askRefresh c ⟨2, x.layer, 0, 0, 0, 0⟩
  else if x.body.length < 4 * x.rect.w then d.malformed n c x.layer ⟨0, 0, 0, 0⟩
  else forAll (List.range x.rect.w)
    (fun k d => d.update (DSO_PAL_WORD (4 * n + x.layer) (x.rect.x + k)) (leNat ((x.body.drop (4 * k)).take 4))) d

def deltaPalette (n : Nat) (d : Dev) : Dev :=
  match d.takeDelta n 3 with
  | none => d
  | some (c, l, d) => d.deltaChecked n c l (Dev.paletteDelta n c)

def execDeltaPalette (n : Fin 2) (s : State) : Host.Outcome State Fault Refusal := s.runOn 10 (deltaPalette n)

/-- The recorded rectangles of a layer copied from its new front buffer into its new back buffer (R446). -/
def Dev.catchUp (n l : Nat) (d : Dev) : Dev :=
  let back := d.backBuf n l
  let rs := (d.ingest n).damage.get l []
  let d := forAll rs (fun r d => forAll (List.range r.h) (fun k d =>
    let (row, d) := d.engRead (d.pixAddr n l (1 - back) r.x (r.y + k)) (4 * r.w)
    d.engWrite (d.pixAddr n l back r.x (r.y + k)) row) d) d
  let d := d.incBy (DSO_IN_COPYPXn_COUNT n) ((rs.map (fun r => r.w * r.h)).foldl (· + ·) 0)
  let g := d.ingest n
  d.setIngest n { g with damage := g.damage.set l [] [], collapsed := g.collapsed.filter (· != l) }

/-- The catch-up copy completes, and held RECT packets are released (R444, R446). -/
def catchupCopyDone (n : Nat) (d : Dev) : Dev :=
  let d := forAll (d.ingest n).copying (fun l d => d.catchUp n l) d
  d.setIngest n { d.ingest n with copying := [] }

def execCatchupCopyDone (n : Fin 2) (s : State) : Host.Outcome State Fault Refusal := s.runOn 10 (catchupCopyDone n)

/-- A write of `DSO_IN_REQ` (R445). -/
def dsoRefreshReq (c layer : Nat) (d : Dev) : Dev := d.askRefresh c ⟨4, layer, 0, 0, 0, 0⟩

def execDsoRefreshReq (c : Fin 1024) (layer : Fin 4) (s : State) : Host.Outcome State Fault Refusal :=
  s.runOn 10 (dsoRefreshReq c layer)

/-! ### Self-refresh -/

/-- No request has arrived for IDLE microseconds: DRAM enters self-refresh if SR_EN is 1 and the cover of every scan-out
engine exceeds EXIT (R453, R569). -/
def ddrSelfRefreshEnter (d : Dev) : Dev :=
  let d := (d.coverNow 0).coverNow 1
  if d.flag DDR_CTL_EN && d.flag DDR_STAT_READY && d.flag DDR_CTL_SR_EN
      && d.get DDR_SR_EXIT * 1000 < d.get (DSO_Dn_COVER_NS 0) && d.get DDR_SR_EXIT * 1000 < d.get (DSO_Dn_COVER_NS 1)
  then d.set DDR_STAT_SELFREF 1 else d

def execDdrSelfRefreshEnter (s : State) : Host.Outcome State Fault Refusal := s.run ddrSelfRefreshEnter

end Sys2Proof.Machine
end

