-- ==== Sys2Proof/Machine/Crypto.lean ====
section
/-! DEFINITION. The functions that spec 18 names: SHA-384, HMAC, HKDF, AES-256-GCM, ECDSA and ECDH on P-384, each as its standard
defines it (PRESUMED: FIPS 180-4, RFC 2104, RFC 5869, FIPS 197, SP 800-38D, FIPS 186-5). Constants are computed where the standard
gives a rule for them. -/

namespace Sys2Proof.Machine

/-- The bytes of a text of the spec. -/
def ascii (t : String) : List Byte := t.toList.map (fun c => BitVec.ofNat 8 c.toNat)

/-! ### SHA-384 -/

/-- The largest `r` with `r ^ k ≤ n`, by bits from `2 ^ b` down. -/
def iroot (k n : Nat) : Nat → Nat → Nat
  | 0, r => r
  | b + 1, r => iroot k n b (if (r + 2 ^ b) ^ k ≤ n then r + 2 ^ b else r)

/-- The first 80 primes. -/
def shaPrimes : List Nat := ((List.range 410).filter (fun n => 2 ≤ n && (List.range 21).all (fun k => k < 2 || n ≤ k || n % k != 0))).take 80

/-- The round constants: fractions of cube roots; the initial hash: fractions of square roots of the ninth to sixteenth prime. -/
def shaK : List DWord := shaPrimes.map (fun p => BitVec.ofNat 64 (iroot 3 (p * 2 ^ 192) 68 0))
def sha384Init : List DWord := ((shaPrimes.drop 8).take 8).map (fun p => BitVec.ofNat 64 (iroot 2 (p * 2 ^ 128) 68 0))

def shaS0 (x : DWord) : DWord := x.rotateRight 1 ^^^ x.rotateRight 8 ^^^ (x >>> 7)
def shaS1 (x : DWord) : DWord := x.rotateRight 19 ^^^ x.rotateRight 61 ^^^ (x >>> 6)

/-- The message schedule, latest word first. -/
def shaSchedule : Nat → List DWord → List DWord
  | 0, w => w
  | n + 1, w => shaSchedule n ((shaS1 (w.getD 1 0) + w.getD 6 0 + shaS0 (w.getD 14 0) + w.getD 15 0) :: w)

/-- One round on the eight working variables. -/
def shaRound (v : List DWord) (kw : DWord × DWord) : List DWord :=
  match v with
  | [a, b, c, d, e, f, g, h] =>
    let t1 := h + (e.rotateRight 14 ^^^ e.rotateRight 18 ^^^ e.rotateRight 41) + ((e &&& f) ^^^ (~~~e &&& g)) + kw.1 + kw.2
    let t2 := (a.rotateRight 28 ^^^ a.rotateRight 34 ^^^ a.rotateRight 39) + ((a &&& b) ^^^ (a &&& c) ^^^ (b &&& c))
    [t1 + t2, a, b, c, d + t1, e, f, g]
  | _ => v

/-- One block of 128 bytes. -/
def shaBlock (ks h : List DWord) (l : List Byte) : List DWord :=
  let w := (shaSchedule 64 ((chunksOf 8 16 l).map (fun c => BitVec.ofNat 64 (beNat c))).reverse).reverse
  (h.zip ((ks.zip w).foldl shaRound h)).map (fun x => x.1 + x.2)
where
  chunksOf (n : Nat) : Nat → List Byte → List (List Byte)
    | 0, _ => []
    | k + 1, l => l.take n :: chunksOf n k (l.drop n)

/-- All blocks of a padded message. -/
def shaBlocks (ks : List DWord) : Nat → List DWord → List Byte → List DWord
  | 0, h, _ => h
  | n + 1, h, l => shaBlocks ks n (shaBlock ks h (l.take 128)) (l.drop 128)

def sha384 (l : List Byte) : List Byte :=
  let pad := (239 - l.length % 128) % 128
  let m := l ++ [0x80] ++ List.replicate pad 0 ++ natBE 16 (8 * l.length)
  ((shaBlocks shaK (m.length / 128) sha384Init m).take 6).flatMap (fun x => natBE 8 x.toNat)

/-! ### HMAC and HKDF -/

def hmac (key m : List Byte) : List Byte :=
  let k := if 128 < key.length then sha384 key else key
  let k := k ++ List.replicate (128 - k.length) 0
  sha384 (k.map (· ^^^ 0x5C) ++ sha384 (k.map (· ^^^ 0x36) ++ m))

/-- HKDF-Extract; an empty salt stands for 48 zero bytes. -/
def hkdfExtract (salt ikm : List Byte) : List Byte := hmac (if salt = [] then List.replicate 48 0 else salt) ikm

/-- The blocks of HKDF-Expand from the `k`th on. -/
def hkdfBlocks (prk info : List Byte) : Nat → Nat → List Byte → List Byte
  | 0, _, _ => []
  | n + 1, k, t =>
    let t := hmac prk (t ++ info ++ [BitVec.ofNat 8 k])
    t ++ hkdfBlocks prk info n (k + 1) t

def hkdfExpand (prk info : List Byte) (n : Nat) : List Byte := (hkdfBlocks prk info ((n + 47) / 48) 1 []).take n

/-! ### AES-256 -/

def xtime (a : Byte) : Byte := if a.toNat < 128 then a <<< 1 else (a <<< 1) ^^^ 0x1B

def gfMul (a : Byte) : Nat → Byte → Byte
  | 0, _ => 0
  | n + 1, b => (if b.toNat % 2 = 1 then a else 0) ^^^ gfMul (xtime a) n (b >>> 1)

/-- `a` to the 254th power: its inverse, and 0 for 0. -/
def gfInv (a : Byte) : Byte :=
  let m := fun (x y : Byte) => gfMul x 8 y
  let a2 := m a a
  let a4 := m a2 a2
  let a8 := m a4 a4
  let a16 := m a8 a8
  let a32 := m a16 a16
  let a64 := m a32 a32
  m a2 (m a4 (m a8 (m a16 (m a32 (m a64 (m a64 a64))))))

def sbox (a : Byte) : Byte :=
  let x := gfInv a
  x ^^^ x.rotateLeft 1 ^^^ x.rotateLeft 2 ^^^ x.rotateLeft 3 ^^^ x.rotateLeft 4 ^^^ 0x63

def xorBytes (a b : List Byte) : List Byte := (a.zip b).map (fun x => x.1 ^^^ x.2)

/-- The key schedule, latest word first: `k` is the number of the next word, `rc` the round constant. -/
def aesExpand : Nat → Nat → Byte → List (List Byte) → List (List Byte)
  | 0, _, _, w => w
  | n + 1, k, rc, w =>
    let t := w.headD []
    let t := if k % 8 = 0 then (match (t.drop 1 ++ t.take 1).map sbox with
        | x :: y => (x ^^^ rc) :: y
        | [] => [])
      else if k % 8 = 4 then t.map sbox else t
    aesExpand n (k + 1) (if k % 8 = 0 then xtime rc else rc) (xorBytes (w.getD 7 []) t :: w)

/-- The fifteen round keys. -/
def aesKeys (key : List Byte) : List (List Byte) :=
  let w := (aesExpand 52 8 1 (((List.range 8).map (fun k => (key.drop (4 * k)).take 4)).reverse)).reverse
  (List.range 15).map (fun r => ((w.drop (4 * r)).take 4).flatten)

def shiftRows (x : List Byte) : List Byte := (List.range 16).map (fun k => x.getD ((k + 4 * (k % 4)) % 16) 0)

def mixColumns (x : List Byte) : List Byte :=
  (List.range 16).map (fun k =>
    let c := fun j => x.getD (k / 4 * 4 + (k + j) % 4) 0
    xtime (c 0) ^^^ (xtime (c 1) ^^^ c 1) ^^^ c 2 ^^^ c 3)

def aesBlock (ks : List (List Byte)) (x : List Byte) : List Byte :=
  let y := ((ks.drop 1).take 13).foldl (fun x k => xorBytes (mixColumns (shiftRows (x.map sbox))) k) (xorBytes x (ks.headD []))
  xorBytes (shiftRows (y.map sbox)) (ks.getD 14 [])

/-! ### GCM -/

/-- The product in the field of GHASH: `n` bits of `x`, the most significant first. -/
def ghashMul (x : Nat) : Nat → Nat → Nat → Nat
  | 0, z, _ => z
  | n + 1, z, v =>
    ghashMul x n (if x.testBit n then z ^^^ v else z) (if v % 2 = 1 then (v / 2) ^^^ (0xE1 * 2 ^ 120) else v / 2)

/-- GHASH of whole blocks. -/
def ghash (h : Nat) : Nat → List Byte → Nat → Nat
  | 0, _, y => y
  | n + 1, l, y => ghash h n (l.drop 16) (ghashMul (y ^^^ beNat (l.take 16)) 128 0 h)

/-- A text padded to whole blocks of 16 bytes. -/
def padTo16 (l : List Byte) : List Byte := l ++ List.replicate ((16 - l.length % 16) % 16) 0

/-- The key stream's exclusive or with a text, from a counter on. -/
def gcmCtr (ks : List (List Byte)) (iv : List Byte) : Nat → Nat → List Byte → List Byte
  | 0, _, _ => []
  | n + 1, c, l => xorBytes (l.take 16) (aesBlock ks (iv ++ natBE 4 c)) ++ gcmCtr ks iv n (c + 1) (l.drop 16)

def gcmText (ks : List (List Byte)) (iv l : List Byte) : List Byte := gcmCtr ks iv ((l.length + 15) / 16) 2 l

def gcmTag (ks : List (List Byte)) (iv aad ct : List Byte) : List Byte :=
  let h := beNat (aesBlock ks (List.replicate 16 0))
  let m := padTo16 aad ++ padTo16 ct ++ natBE 8 (8 * aad.length) ++ natBE 8 (8 * ct.length)
  xorBytes (natBE 16 (ghash h (m.length / 16) m 0)) (aesBlock ks (iv ++ natBE 4 1))

/-- Ciphertext, then the tag. -/
def gcmSeal (key iv aad l : List Byte) : List Byte :=
  let ks := aesKeys key
  let ct := gcmText ks iv l
  ct ++ gcmTag ks iv aad ct

/-- The plaintext of a ciphertext with its tag, where the tag is right. -/
def gcmOpen (key iv aad l : List Byte) : Option (List Byte) :=
  let ks := aesKeys key
  let ct := l.take (l.length - 16)
  if 16 ≤ l.length ∧ gcmTag ks iv aad ct = l.drop (l.length - 16) then some (gcmText ks iv ct) else none

/-! ### P-384 -/

def p384P : Nat := 2 ^ 384 - 2 ^ 128 - 2 ^ 96 + 2 ^ 32 - 1
def p384N : Nat := 0xffffffffffffffffffffffffffffffffffffffffffffffffc7634d81f4372ddf581a0db248b0a77aecec196accc52973
def p384B : Nat := 0xb3312fa7e23ee7e4988e056be3f82d19181d9c6efe8141120314088f5013875ac656398d8a2ed19d2a85c8edd3ec2aef
def p384G : Option (Nat × Nat) :=
  some (0xaa87ca22be8b05378eb1c71ef320ad746e1d3b628ba79b9859f741e082542a385502f25dbf55296c3a545e3872760ab7,
        0x3617de4a96262c6f5d9e98bf9292dc29f8f41dbd289a147ce9da3113b5f0b8c00a60b1ce1d7e819d7a431d7c90ea0e5f)

/-- `a` to the power of the low `n` bits of `e`, modulo `m`. -/
def powMod (m : Nat) : Nat → Nat → Nat → Nat
  | 0, _, _ => 1 % m
  | n + 1, a, e => (if e % 2 = 1 then a * powMod m n (a * a % m) (e / 2) else powMod m n (a * a % m) (e / 2)) % m

/-- The inverse modulo a prime below 2^384. -/
def invMod (m a : Nat) : Nat := powMod m 384 (a % m) (m - 2)

/-- Addition on the curve; none is the point at infinity. -/
def ecAdd (a b : Option (Nat × Nat)) : Option (Nat × Nat) :=
  match a, b with
  | none, b => b
  | a, none => a
  | some (x1, y1), some (x2, y2) =>
    if x1 = x2 ∧ (y1 + y2) % p384P = 0 then none
    else
      let s := if x1 = x2 then (3 * x1 * x1 + p384P - 3) * invMod p384P (2 * y1) % p384P
        else (y2 + p384P - y1) * invMod p384P (x2 + p384P - x1) % p384P
      let x3 := (s * s + 2 * p384P - x1 - x2) % p384P
      some (x3, (s * (x1 + p384P - x3) + p384P - y1) % p384P)

/-- The multiple of a point by the low `n` bits of `k`. -/
def ecMul : Nat → Nat → Option (Nat × Nat) → Option (Nat × Nat)
  | 0, _, _ => none
  | n + 1, k, a => if k % 2 = 1 then ecAdd a (ecMul n (k / 2) (ecAdd a a)) else ecMul n (k / 2) (ecAdd a a)

/-- A point on the curve from its 97 bytes: 0x04, x, y. -/
def ecPoint (l : List Byte) : Option (Nat × Nat) :=
  let x := beNat ((l.drop 1).take 48)
  let y := beNat (l.drop 49)
  if l.length = 97 ∧ l.headD 0 = 0x04 ∧ x < p384P ∧ y < p384P ∧ y * y % p384P = (x * x * x + (p384P - 3) * x + p384B) % p384P
  then some (x, y) else none

/-- The 97 bytes of a point. -/
def ecBytes (a : Option (Nat × Nat)) : List Byte :=
  match a with
  | some (x, y) => 0x04 :: natBE 48 x ++ natBE 48 y
  | none => List.replicate 97 0

/-- The public key of a private one. -/
def ecPublic (d : Nat) : List Byte := ecBytes (ecMul 384 d p384G)

/-- ECDH: the x coordinate of the shared point. -/
def ecdh (d : Nat) (a : Nat × Nat) : List Byte :=
  match ecMul 384 d (some a) with
  | some (x, _) => natBE 48 x
  | none => List.replicate 48 0

/-- An ECDSA signature over a message with a nonce in 1 to n - 1: r, then s. -/
def ecdsaSign (d k : Nat) (m : List Byte) : List Byte :=
  let r := match ecMul 384 k p384G with
    | some (x, _) => x % p384N
    | none => 0
  natBE 48 r ++ natBE 48 (invMod p384N k * (beNat (sha384 m) + r * d) % p384N)

def ecdsaVerify (pub sig m : List Byte) : Bool :=
  let r := beNat (sig.take 48)
  let t := beNat (sig.drop 48)
  match ecPoint pub with
  | some q =>
    if sig.length = 96 ∧ 1 ≤ r ∧ r < p384N ∧ 1 ≤ t ∧ t < p384N then
      let w := invMod p384N t
      match ecAdd (ecMul 384 (beNat (sha384 m) * w % p384N) p384G) (ecMul 384 (r * w % p384N) (some q)) with
      | some (x, _) => x % p384N == r
      | none => false
    else false
  | none => false

end Sys2Proof.Machine
end

