-- ==== Sys2Proof/Machine/KeySlots.lean ====
section
/-! DEFINITION. Key slots (R540 to R543): headers and values, the fixed keys (R536), flacons (R537 to R539, R542), invalidation
(R543), the line key (R549). -/

namespace Sys2Proof.Machine

def Dev.modKey (d : Dev) (f : KeyPart → KeyPart) : Dev := { d with key := f d.key }

/-- The lifecycle state (R585). -/
def Dev.lifecycle (d : Dev) : Nat := d.get LCS_STATE_LC

def Dev.slotOf (d : Dev) (n : Nat) : Nat := d.get (KSLOT_W0_STATE n)
def Dev.keyVal (d : Dev) (n : Nat) : List Byte := d.key.vals.get n []
def Dev.hasUse (d : Dev) (n b : Nat) : Bool := (d.get (KSLOT_W0_USAGE n)).testBit b
def Dev.expiry (d : Dev) (n : Nat) : Nat := d.get (KSLOT_W4_EXPIRY_LO n) + d.get (KSLOT_W5_EXPIRY_HI n) * 2 ^ 32

/-- A random number below `2 ^ w` (R546). -/
def Dev.draw (d : Dev) (w : Nat) : Nat × Dev := (Config.randomNat d.freeCtr % 2 ^ w, { d with freeCtr := d.freeCtr + 1 })

/-- A random private key: 1 to n - 1 of P-384. -/
def Dev.drawKey (d : Dev) : Nat × Dev := (Config.randomNat d.freeCtr % (p384N - 1) + 1, { d with freeCtr := d.freeCtr + 1 })

/-- The line key (R549). -/
def Dev.lineKey (d : Dev) : Option (List Byte) :=
  let n := d.get KEY_LINE_SLOT
  if d.slotOf n = 2 ∧ d.get (KSLOT_W0_TYPE n) = 1 ∧ d.hasUse n 8 then some (d.keyVal n) else none

/-- `KEY_LINE.VALID` follows the slots (R557). -/
def Dev.lineSync (d : Dev) : Dev := d.setB KEY_LINE_VALID d.lineKey.isSome

/-- A slot's state entered. -/
def Dev.slotGo (n st : Nat) (d : Dev) : Dev := (d.set (KSLOT_W0_STATE n) st).lineSync

/-- A slot emptied: its header reads 0 and its key is gone. -/
def Dev.slotEmpty (n : Nat) (d : Dev) : Dev :=
  let d := d.modKey (fun k => { k with vals := k.vals.set n [] [] })
  let d := (((d.set (KSLOT_W0_TYPE n) 0).set (KSLOT_W0_DERIVED n) 0).set (KSLOT_W0_PSLOT n) 0).set (KSLOT_W0_USAGE n) 0
  let d := ((d.set (KSLOT_W1_KEY_ID n) 0).set (KSLOT_W2_GEN n) 0).set (KSLOT_W2_PARENT_GEN n) 0
  let d := ((d.set (KSLOT_W3_PARENT_ID n) 0).set (KSLOT_W4_EXPIRY_LO n) 0).set (KSLOT_W5_EXPIRY_HI n) 0
  ((d.set (KSLOT_W6_FLACON_LO n) 0).set (KSLOT_W7_FLACON_HI n) 0).slotGo n 0

/-- A slot filled: type, usage, identity, generation, parent, expiry, flacon address, value. -/
def Dev.slotFill (n st ty usage id gen parent expiry flacon : Nat) (derived : Bool) (v : List Byte) (d : Dev) : Dev :=
  let d := d.modKey (fun k => { k with vals := k.vals.set n v [] })
  let d := (((d.set (KSLOT_W0_TYPE n) ty).setB (KSLOT_W0_DERIVED n) derived).set (KSLOT_W0_PSLOT n) parent).set (KSLOT_W0_USAGE n) usage
  let d := ((d.set (KSLOT_W1_KEY_ID n) id).set (KSLOT_W2_GEN n) gen).set (KSLOT_W2_PARENT_GEN n) (d.get (KSLOT_W2_GEN parent))
  let d := (d.set (KSLOT_W3_PARENT_ID n) (d.get (KSLOT_W1_KEY_ID parent))).set (KSLOT_W4_EXPIRY_LO n) expiry
  let d := ((d.set (KSLOT_W5_EXPIRY_HI n) (expiry / 2 ^ 32)).set (KSLOT_W6_FLACON_LO n) flacon).set (KSLOT_W7_FLACON_HI n) (flacon / 2 ^ 32)
  (d.mendIn 9 0 (16 * n) 16).slotGo n st

/-- Whether a usage suits a key type (R538); AES-256 takes DERIVE in slot 0 alone. -/
def usageFits (ty usage : Nat) : Bool :=
  usage < 512 && (List.range 9).all (fun b => !usage.testBit b ||
    (if b ≤ 2 then ty == 0 else if b = 3 ∨ b = 8 then ty == 1 else if b = 4 then ty == 1 || ty == 3
     else if b = 5 ∨ b = 6 then ty == 2 else true))

/-- The bytes of a key value of a type. -/
def keyLen (ty : Nat) : Nat := if ty = 0 then 32 else 48

/-- Whether TB0 is known (R539). -/
def Dev.timeKnown (d : Dev) : Bool := d.flag TMB_SRV_CTL_REF || d.get TMB_SRV_STAT_STATE == 3 || d.get TMB_SRV_STAT_STATE == 4

/-- Whether a range lies in CTL SRAM or DRAM (R545). -/
def Dev.keyRange (d : Dev) (a n : Nat) : Bool :=
  n == 0 || ((d.region a == .sram || d.region a == .dram) && d.region (a + n - 1) == d.region a)

/-! ### Fixed keys -/

/-- The identity's private key: the first candidate from `c` on in 1 to n - 1 (R536). -/
def identityOf (root : List Byte) : Nat → Nat → List Byte
  | 0, _ => natBE 48 1
  | f + 1, c =>
    let v := beNat (hkdfExpand root (ascii "Darquin ID P-384" ++ [BitVec.ofNat 8 c]) 48)
    if 1 ≤ v ∧ v < p384N then natBE 48 v else identityOf root f (c + 1)

/-- The root held, and slots 0 and 1 derived from it (R536). -/
def Dev.rootIs (root : List Byte) (d : Dev) : Dev :=
  let g := d.get KEY_ROOTGEN_GEN
  let d := (d.modKey (fun k => { k with root := some root })).set KEY_STAT_ROOT_OK 1
  let d := d.slotFill 0 2 0 0x11 0 g 0 0 0 false (hkdfExpand root (ascii "Darquin RK" ++ natBE 4 g) 32)
  d.slotFill 1 2 2 0x60 0 0 0 0 0 false (identityOf root 256 0)

/-! ### Flacons -/

def flaconNat (l : List Byte) (a n : Nat) : Nat := beNat ((l.drop a).take n)

/-- A flacon's form: MAGIC, VERSION, TYPE, the USAGE bits there are, and reserved bytes (R537 to R539). -/
def flaconSound (l : List Byte) : Bool :=
  l.length == 112 && flaconNat l 0 4 == 0x464C434E && flaconNat l 4 1 == 1 && flaconNat l 5 1 ≤ 3
    && decide (flaconNat l 6 2 < 512) && flaconNat l 8 4 != 0
    && flaconNat l 14 2 == 0 && flaconNat l 22 2 == 0 && flaconNat l 30 2 == 0 && flaconNat l 108 4 == 0

/-- The flacon of a slot under its parent's present generation, with an IV (R537). -/
def Dev.wrapSlot (d : Dev) (n iv : Nat) : List Byte :=
  let p := d.get (KSLOT_W0_PSLOT n)
  let aad := natBE 4 0x464C434E ++ [0x01] ++ natBE 1 (d.get (KSLOT_W0_TYPE n)) ++ natBE 2 (d.get (KSLOT_W0_USAGE n))
    ++ natBE 4 (d.get (KSLOT_W1_KEY_ID n)) ++ natBE 2 (d.get (KSLOT_W2_GEN n)) ++ natBE 2 0 ++ natBE 4 (d.get (KSLOT_W1_KEY_ID p))
    ++ natBE 2 (d.get (KSLOT_W2_GEN p)) ++ natBE 2 0 ++ natBE 6 (d.expiry n) ++ natBE 2 0
  let v := d.keyVal n ++ List.replicate (48 - (d.keyVal n).length) 0
  aad ++ natBE 12 iv ++ gcmSeal (d.keyVal p) (natBE 12 iv) aad v ++ natBE 4 0

/-- The slot that holds a parent: RK for 0, else the first slot not EMPTY or LOADING with the KEY_ID, a LOADED one before others
(R537, R539). -/
def Dev.holder (d : Dev) (id : Nat) : Option Nat :=
  let l := (List.range 64).filter (fun k => 2 ≤ d.slotOf k && d.get (KSLOT_W1_KEY_ID k) == id && (id != 0 || k == 0))
  match l.find? (fun k => d.slotOf k == 2) with
  | some k => some k
  | none => l.head?

/-- A flacon loaded into a slot: the checks of R539 in order, the first that fails giving the status, with a
usage that does not suit the TYPE refused after the first (R538; DEDUCED, log entry 96); `new` where the slot must be
EMPTY (a LOAD), not where a HEADER slot is loaded again (R542). A parent in HEADER is loaded first; the number bounds the parents. -/
def Dev.loadFlacon : Nat → Nat → Nat → Bool → Dev → Nat × Dev
  | 0, _, _, _, d => (6, d)
  | f + 1, n, a, new, d =>
    let l := d.bytes a 112
    if !d.keyRange a 112 then (12, d)
    else if !flaconSound l then (8, d)
    else if !usageFits (flaconNat l 5 1) (flaconNat l 6 2) then (3, d)
    else if new && d.slotOf n != 0 then (9, d)
    else match d.holder (flaconNat l 16 4) with
      | none => (6, d)
      | some p =>
        let (st, d) := if d.slotOf p = 5 then
            (match Dev.loadFlacon f p (d.get (KSLOT_W6_FLACON_LO p) + d.get (KSLOT_W7_FLACON_HI p) * 2 ^ 32) false d with
             | (st, d) => if st = 0 then (0, d) else (st, d.slotEmpty p))
          else (0, d)
        let expiry := flaconNat l 24 6
        if st ≠ 0 then (st, d)
        else if !d.hasUse p 0 then (6, d)
        else if d.slotOf p ≠ 2 then (1, d)
        else if flaconNat l 20 2 ≠ d.get (KSLOT_W2_GEN p) then (2, d)
        else if expiry ≠ 0 ∧ !d.timeKnown then (5, d)
        else if expiry ≠ 0 ∧ expiry ≤ (d.tb 0).sec then (4, d)
        else match gcmOpen (d.keyVal p) ((l.drop 32).take 12) (l.take 32) ((l.drop 44).take 64) with
          | none => (7, d)
          | some v =>
            if p = 0 ∧ (d.lifecycle = 0 ∨ d.lifecycle = 3) then (11, d)
            else
              let ty := flaconNat l 5 1
              (0, d.slotFill n 2 ty (flaconNat l 6 2) (flaconNat l 8 4) (flaconNat l 12 2) p expiry a false (v.take (keyLen ty)))

/-- A HEADER slot loaded again for its first operation; where that fails, the slot is EMPTY (R542). -/
def Dev.reload (n : Nat) (d : Dev) : Nat × Dev :=
  let d := ((d.hitFlaw 9 0 (16 * n) 16).map (Dev.slotEmpty n)).getD d
  if d.slotOf n = 5 then
    match d.loadFlacon 64 n (d.get (KSLOT_W6_FLACON_LO n) + d.get (KSLOT_W7_FLACON_HI n) * 2 ^ 32) false with
    | (st, d) => if st = 0 then (0, d) else (st, d.slotEmpty n)
  else (0, d)

/-! ### Invalidation -/

/-- The slots of a list and their descendants; the number bounds the generations (R543). -/
def Dev.descendants (d : Dev) : Nat → List Nat → List Nat
  | 0, l => l
  | f + 1, l =>
    let m := (List.range 64).filter (fun k => 2 ≤ k && d.slotOf k != 0 && !l.contains k && l.contains (d.get (KSLOT_W0_PSLOT k)))
    if m = [] then l else d.descendants f (l ++ m)

/-- An operation refused: counted, and a REFUSE record posted (R547). -/
def Dev.keyRefuse (tag st : Nat) (d : Dev) : Dev :=
  let d := d.inc KEY_REFUSED_COUNT
  (if st = 7 then d.inc KEY_AUTHFAIL_COUNT else d).event 0x19 0x0002 (tag + st * 2 ^ 8)

/-- LOADs in progress below the keys of a list are refused, a flacon that names a rotated parent's old generation with STALE_GEN (R543, R544;
for other invalidations KEY_ORPHAN is DEDUCED, log entry 111). -/
def Dev.dropLoads (l : List Nat) (d : Dev) : Dev :=
  let below := fun (r : KeyRun) => r.op.op == 1 && d.slotOf (r.fills.getD 64) == 1 && l.contains (d.get (KSLOT_W0_PSLOT (r.fills.getD 64)))
  let hit := d.key.running.filter below
  let d := d.modKey (fun k => { k with running := k.running.filter (fun r => !hit.contains r) })
  forAll hit (fun r d =>
    let m := r.fills.getD 64
    let st := if d.get (KSLOT_W2_GEN (d.get (KSLOT_W0_PSLOT m))) = d.get (KSLOT_W2_PARENT_GEN m) then 1 else 2
    (d.slotEmpty m).keyRefuse r.op.tag st) d

/-- A key is invalidated: its descendants in LOADED or HEADER, and the segment keys below it, are ORPHANED; a segment has a key for
each direction (R543, R547). LOADs below it end. -/
def Dev.invalidate (n : Nat) (d : Dev) : Dev :=
  let l := d.descendants 64 [n]
  let hit := l.filter (fun k => k != n && (d.slotOf k == 2 || d.slotOf k == 5))
  let segs := (List.range 10).filter (fun p => d.flag (KEY_SEGp_STAT_ENC p) && !d.flag (KEY_SEGp_STAT_ORPHANED p)
    && l.contains (d.get (KEY_SEGp_STAT_LSLOT p)))
  let d := forAll hit (fun k d => d.slotGo k 3) (d.dropLoads l)
  let d := forAll segs (fun p d => d.set (KEY_SEGp_STAT_ORPHANED p) 1) d
  let d := (d.incBy KEY_ORPHANS_COUNT (hit.length + 2 * segs.length)).raise KEY_EVT_ORPHAN
  d.event 0x19 0x0010 (n + hit.length * 2 ^ 8 + 2 * segs.length * 2 ^ 16)

/-! ### What a power cycle of SEC leaves -/

/-- The key unit when SEC has lost its supply (R514, R532, R542): the PUF array is fresh, no root and no key value is held. -/
def KeyPart.lost (k : KeyPart) : KeyPart := { KeyPart.reset with ca := k.ca, cert := k.cert }

/-- The headers that RET has kept: a slot that was LOADED from a flacon is in HEADER; a derived slot and every slot below it is
EMPTY, and so are slots 0 and 1 until enfleurage and a slot that was being loaded (R542). -/
def Dev.headersKept (d : Dev) : Dev :=
  let gone := d.descendants 64 ((List.range 64).filter (fun k => 2 ≤ k && d.flag (KSLOT_W0_DERIVED k)))
  forAll (List.range 64) (fun k d =>
    if k < 2 ∨ gone.contains k ∨ d.slotOf k = 1 then d.slotEmpty k else if d.slotOf k = 2 then d.slotGo k 5 else d) d

/-- The registers of a segment at entry to INIT, which discards its keys (R99, R555). -/
def Dev.clearSeg (p : Nat) (d : Dev) : Dev :=
  let d := ((d.set (KEY_SEGp_STAT_ENC p) 0).set (KEY_SEGp_STAT_REKEYING p) 0).set (KEY_SEGp_STAT_ORPHANED p) 0
  let d := (d.set (KEY_SEGp_STAT_LSLOT p) 0).set (KEY_SEGp_AGE_BLOCKS p) 0
  d.modKey (fun k => { k with segs := k.segs.set p SegAuth.reset SegAuth.reset })

end Sys2Proof.Machine
end

