-- ==== Sys2Proof/Machine/Blocks.lean ====
section
/-! DEFINITION. The bytes of a Tirrun block: the header (R77), the payload of each control type (R94), the check (R79), and the
encryption of a segment (R97). -/

namespace Sys2Proof.Machine

/-! ### The header -/

/-- Whether a block type is sequenced (R78). -/
def seqType (ty : Nat) : Bool := ty < 8 || 13 ≤ ty

/-- The 96 bits of a header, bit 95 sent first; the reserved bits are 0 (R5, R77). -/
def BlkHdr.word (h : BlkHdr) : Nat :=
  h.ty % 16 * 2 ^ 92 + b2n h.first * 2 ^ 91 + b2n h.last * 2 ^ 90 + b2n h.poison * 2 ^ 89 + h.ty % 16 / 8 * 2 ^ 88
    + h.seq % 4096 * 2 ^ 76 + h.ack % 4096 * 2 ^ 64 + h.akind % 16 * 2 ^ 60 + h.sq % 256 * 2 ^ 52 + h.pid % 65536 * 2 ^ 36
    + h.len % 512 * 2 ^ 27 + h.ccls % 8 * 2 ^ 24 + h.ccnt % 2 ^ 20 * 2 ^ 4

/-- The 12 bytes of a header. -/
def BlkHdr.bytes (h : BlkHdr) : List Byte := natBE 12 h.word

/-- The header in the first 12 bytes of a block, and the NONCE behind it in an unsequenced block (R77, R94). -/
def BlkHdr.parse (l : List Byte) : BlkHdr :=
  let v := beNat (l.take 12)
  let ty := bitsOf v 92 4
  { ty := ty, first := v.testBit 91, last := v.testBit 90, poison := v.testBit 89, seq := bitsOf v 76 12, ack := bitsOf v 64 12
    akind := bitsOf v 60 4, sq := bitsOf v 52 8, pid := bitsOf v 36 16, len := bitsOf v 27 9, ccls := bitsOf v 24 3
    ccnt := bitsOf v 4 20, nonce := if seqType ty then 0 else beNat ((l.drop 12).take 8) }

/-- CTRL equals TYPE[3] (R77, R79). -/
def ctrlOk (l : List Byte) : Bool :=
  let v := beNat (l.take 12)
  v.testBit 88 == v.testBit 95

/-! ### Payload fields -/

/-- Bits `lo` to `lo + w - 1` of the `n`-byte field at byte `off`, most significant byte first (R3). -/
def fieldGet (off n lo w : Nat) (l : List Byte) : Nat := bitsOf (beNat ((l.drop off).take n)) lo w

/-- These bits set; the other bits of the field stay. -/
def fieldPut (off n lo w v : Nat) (l : List Byte) : List Byte :=
  let old := beNat ((l.drop off).take n)
  l.take off ++ natBE n (old / 2 ^ (lo + w) * 2 ^ (lo + w) + v % 2 ^ w * 2 ^ lo + old % 2 ^ lo) ++ l.drop (off + n)

/-- Fields set one after the other: byte offset, bytes, lowest bit, width, value. -/
def fieldsPut (l : List (Nat × Nat × Nat × Nat × Nat)) (m : List Byte) : List Byte :=
  forAll l (fun x m => fieldPut x.1 x.2.1 x.2.2.1 x.2.2.2.1 x.2.2.2.2 m) m

/-- A Tirrun timestamp at byte `off` (R4, R94): its fields. -/
def tsFields (off : Nat) (t : Ts) : List (Nat × Nat × Nat × Nat × Nat) :=
  [(off, 6, 0, 48, t.sec), (off + 6, 4, 0, 30, t.ns), (off + 10, 4, 0, 32, t.frac)]

def tsGet (off : Nat) (l : List Byte) : Ts :=
  ⟨fieldGet off 6 0 48 l, fieldGet (off + 6) 4 0 30 l, fieldGet (off + 10) 4 0 32 l⟩

/-- A text of 256 bytes: cut or filled up with zeros. -/
def pad256 (l : List Byte) : List Byte := l.take 256 ++ List.replicate (256 - l.length) 0

/-! ### The control types -/

/-- LANE0 to LANE3 of a CAP block: PASS and error count of each physical lane (R94). -/
def capLane (x : Bool × Nat) : Nat := b2n x.1 * 2 ^ 31 + x.2 % 2 ^ 31

def Cap.fields (c : Cap) : List (Nat × Nat × Nat × Nat × Nat) :=
  [(8, 1, 0, 8, c.subtype), (10, 8, 0, 64, c.unitId), (18, 2, 15, 1, b2n c.stnValid), (18, 2, 0, 12, c.station), (20, 1, 0, 4, c.plan),
    (21, 2, 0, 12, c.allow), (23, 1, 0, 3, b2n c.medium + 2 * b2n c.byp + 4 * b2n c.ring), (24, 2, 0, 14, c.segLen),
    (26, 1, 0, 4, c.cur), (27, 1, 0, 8, c.port), (28, 4, 0, 32, c.reqSer), (32, 4, 0, 32, capLane (c.lanes.getD 0 (false, 0))),
    (36, 4, 0, 32, capLane (c.lanes.getD 1 (false, 0))), (40, 4, 0, 32, capLane (c.lanes.getD 2 (false, 0))),
    (44, 4, 0, 32, capLane (c.lanes.getD 3 (false, 0))), (48, 2, 0, 16, 0x3240), (50, 1, 0, 8, c.rev)]

/-- The CAP block in a payload (R94). -/
def capOf (l : List Byte) : Cap :=
  { subtype := fieldGet 8 1 0 8 l, unitId := fieldGet 10 8 0 64 l, stnValid := fieldGet 18 2 15 1 l == 1
    station := fieldGet 18 2 0 12 l, plan := fieldGet 20 1 0 4 l, allow := fieldGet 21 2 0 12 l, medium := fieldGet 23 1 0 1 l == 1
    byp := fieldGet 23 1 1 1 l == 1, ring := fieldGet 23 1 2 1 l == 1, segLen := fieldGet 24 2 0 14 l, cur := fieldGet 26 1 0 4 l
    port := fieldGet 27 1 0 8 l, reqSer := fieldGet 28 4 0 32 l
    lanes := (List.range 4).map (fun k => (fieldGet (32 + 4 * k) 4 31 1 l == 1, fieldGet (32 + 4 * k) 4 0 31 l))
    rev := fieldGet 50 1 0 8 l }

def Tick.fields (t : Tick) : List (Nat × Nat × Nat × Nat × Nat) :=
  tsFields 8 t.origin ++ [(24, 8, 0, 64, unsgn 64 t.corr), (32, 2, 0, 16, t.count), (34, 2, 0, 12, t.source), (36, 1, 0, 8, t.quality)]

/-- The TICK block in a payload (R94). -/
def tickOf (l : List Byte) : Tick :=
  ⟨tsGet 8 l, sgn 64 (fieldGet 24 8 0 64 l), fieldGet 32 2 0 16 l, fieldGet 34 2 0 12 l, fieldGet 36 1 0 8 l⟩

def Delay.fields (x : Delay) : List (Nat × Nat × Nat × Nat × Nat) :=
  [(8, 1, 0, 8, b2n x.reply), (10, 2, 0, 16, x.dseq)] ++ tsFields 12 x.t1 ++ tsFields 28 x.t2 ++ tsFields 44 x.t3

/-- The DELAY block in a payload (R94). -/
def delayOf (l : List Byte) : Delay :=
  ⟨fieldGet 8 1 0 8 l == 1, fieldGet 10 2 0 16 l, tsGet 12 l, tsGet 28 l, tsGet 44 l⟩

def AcMsg.fields (m : AcMsg) : List (Nat × Nat × Nat × Nat × Nat) :=
  [(0, 1, 0, 8, m.subtype), (2, 4, 0, 32, m.id), (6, 4, 0, 32, m.epoch)] ++ tsFields 10 m.commit
    ++ [(26, 2, 0, 12, m.coord), (28, 1, 0, 1, b2n m.vote), (30, 2, 0, 12, m.noStn), (32, 2, 0, 12, m.voters), (34, 2, 0, 16, m.hops),
      (36, 2, 0, 12, m.fenced)]

/-- The ACCORD block in a payload (R94). -/
def acOf (l : List Byte) : AcMsg :=
  { subtype := fieldGet 0 1 0 8 l, id := fieldGet 2 4 0 32 l, epoch := fieldGet 6 4 0 32 l, commit := tsGet 10 l
    coord := fieldGet 26 2 0 12 l, vote := fieldGet 28 1 0 1 l == 1, noStn := fieldGet 30 2 0 12 l, voters := fieldGet 32 2 0 12 l
    hops := fieldGet 34 2 0 16 l, fenced := fieldGet 36 2 0 12 l, raw := l.take 38 }

def WrapMsg.fields (m : WrapMsg) : List (Nat × Nat × Nat × Nat × Nat) :=
  [(0, 1, 0, 8, b2n m.unwrap), (1, 1, 0, 8, m.port), (2, 1, 0, 8, m.cause), (4, 2, 0, 12, m.station), (6, 2, 0, 16, m.hops)]
    ++ tsFields 8 m.whenAt

/-- The WRAP block in a payload (R94). -/
def wrapOf (l : List Byte) : WrapMsg :=
  { unwrap := fieldGet 0 1 0 8 l == 1, port := fieldGet 1 1 0 8 l, cause := fieldGet 2 1 0 8 l, station := fieldGet 4 2 0 12 l
    hops := fieldGet 6 2 0 16 l, whenAt := tsGet 8 l, raw := l.take 24 }

/-- The cumulative counts of a CREDIT payload (R94). -/
def cumOf (l : List Byte) : List Nat := (List.range 8).map (fun k => fieldGet (8 + 4 * k) 4 0 32 l)

/-- The fragment in an AUTH payload whose LEN is given (R94). -/
def fragOf (len : Nat) (l : List Byte) : Frag :=
  ⟨fieldGet 0 1 0 8 l, fieldGet 1 1 0 8 l, fieldGet 2 1 0 8 l, fieldGet 4 2 0 16 l, (l.drop 8).take (len - 8)⟩

/-- The 256 payload bytes of a block: the NONCE in front of an unsequenced one, the fields of R94, zeros elsewhere; a forwarded
block keeps the reserved bits that it came with (R5). -/
def Body.payload (nonce : Nat) : Body → List Byte
  | .data l => pad256 l
  | .idle => pad256 (natBE 8 nonce)
  | .cap c => fieldsPut c.fields (pad256 (natBE 8 nonce))
  | .credit cum => pad256 (natBE 8 nonce ++ (List.range 8).flatMap (fun k => natBE 4 (cum.getD k 0)))
  | .tick t => fieldsPut t.fields (pad256 (natBE 8 nonce))
  | .delay x => fieldsPut x.fields (pad256 (natBE 8 nonce))
  | .accord m => fieldsPut m.fields (pad256 m.raw)
  | .wrap m => fieldsPut m.fields (pad256 m.raw)
  | .auth msg idx cnt total l => pad256 (natBE 1 msg ++ natBE 1 idx ++ natBE 1 cnt ++ [0] ++ natBE 2 total ++ [0, 0] ++ l)

/-! ### The check, and encryption -/

/-- The initialisation vector of a block (R97): SALT, then the extended number with bit 63 clear, or the NONCE with bit 63 set. -/
def blockIv (k : SegKey) (ext : Nat) (h : BlkHdr) : List Byte :=
  natBE 4 k.salt ++ natBE 8 (if seqType h.ty then ext % 2 ^ 63 else 2 ^ 63 + h.nonce % 2 ^ 63)

/-- How much of header and payload is authenticated only: the header, and the NONCE of an unsequenced block (R97). -/
def plainLen (ty : Nat) : Nat := if seqType ty then 12 else 20

/-- The 272 bytes of a block: header, payload and check; under a segment key the payload is encrypted, and the check is the tag cut
to 32 bits (R79, R97). -/
def sealBlock (key : Option SegKey) (ext : Nat) (h : BlkHdr) (payload : List Byte) : List Byte :=
  let l := h.bytes ++ payload
  match key with
  | none => l ++ natBE 4 (crc32c l)
  | some k =>
    let ks := aesKeys (natBE 32 k.key)
    let iv := blockIv k ext h
    let aad := l.take (plainLen h.ty)
    let ct := gcmText ks iv (l.drop (plainLen h.ty))
    aad ++ ct ++ (gcmTag ks iv aad ct).take 4

/-- Header and payload of a block that is good: its check fits, and CTRL equals TYPE[3] (R79, R97). -/
def openBlock (key : Option SegKey) (ext : Nat) (l : List Byte) : Option (BlkHdr × List Byte) :=
  let h := BlkHdr.parse l
  let text := l.take 268
  if l.length ≠ 272 ∨ !ctrlOk l then none
  else match key with
    | none => if natBE 4 (crc32c text) = l.drop 268 then some (h, text.drop 12) else none
    | some k =>
      let ks := aesKeys (natBE 32 k.key)
      let iv := blockIv k ext h
      let aad := text.take (plainLen h.ty)
      let ct := text.drop (plainLen h.ty)
      if (gcmTag ks iv aad ct).take 4 = l.drop 268 then some (h, (aad ++ gcmText ks iv ct).drop 12) else none

end Sys2Proof.Machine
end

