-- ==== Sys2Proof/Machine/Lanes.lean ====
section
/-! DEFINITION. What a port's lanes carry (spec 02): line coding (R45), the spreading of the block stream (R48 to R50), alignment
sets and comma blocks (R51, R53), PRBS31 (R64). Ten-bit words, the first bit on the line most significant. -/

namespace Sys2Proof.Machine

/-! ### 8b/10b (R45; PRESUMED: the code of IEEE 802.3 clause 36, log entry 91) -/

/-- abcdei of D0 to D31 at negative running disparity. -/
def code5 : List Nat :=
  [0b100111, 0b011101, 0b101101, 0b110001, 0b110101, 0b101001, 0b011001, 0b111000, 0b111001, 0b100101, 0b010101, 0b110100, 0b001101,
    0b101100, 0b011100, 0b010111] ++
  [0b011011, 0b100011, 0b010011, 0b110010, 0b001011, 0b101010, 0b011010, 0b111010, 0b110011, 0b100110, 0b010110, 0b110110, 0b001110,
    0b101110, 0b011110, 0b101011]

/-- fghj of x.0 to x.7 at negative running disparity. -/
def code3 : List Nat := [0b1011, 0b1001, 0b0101, 0b1100, 0b1101, 0b1010, 0b0110, 0b1110]

/-- The number of ones among the low `n` bits. -/
def ones (n v : Nat) : Nat := (bitList n v).length

/-- A sub-block of `n` bits at a running disparity: complemented at a positive one where it is unbalanced, or one of the two balanced
codes that alternate. -/
def subBlock (n v : Nat) (alt plus : Bool) : Nat := if plus && (alt || 2 * ones n v != n) then 2 ^ n - 1 - v else v

/-- The running disparity after a word of `n` bits. -/
def dispAfter (n v : Nat) (plus : Bool) : Bool := if 2 * ones n v = n then plus else !plus

/-- The ten bits of a data byte, and the running disparity after them. -/
def encodeData (b : Byte) (plus : Bool) : Nat × Bool :=
  let x := b.toNat % 32
  let y := b.toNat / 32
  let s := subBlock 6 (code5.getD x 0) (x == 7) plus
  let mid := dispAfter 6 s plus
  let a7 := y == 7 && (if mid then x == 11 || x == 13 || x == 14 else x == 17 || x == 18 || x == 20)
  let t := subBlock 4 (if a7 then 0b0111 else code3.getD y 0) (y == 3) mid
  (s * 16 + t, dispAfter 4 t mid)

/-- A control code group at negative running disparity: K28.5, K27.7, K28.0 (R49, R51). -/
inductive KCode where
  | k285 | k277 | k280
  deriving DecidableEq, Repr

def KCode.word : KCode → Nat
  | .k285 => 0b0011111010
  | .k277 => 0b1101101000
  | .k280 => 0b0011110100

/-- A code group on a lane at L10: a control code or a data byte. -/
inductive Group where
  | k (c : KCode)
  | d (b : Byte)
  deriving DecidableEq, Repr

def Group.encode (plus : Bool) : Group → Nat × Bool
  | .k c => let w := if plus then 1023 - c.word else c.word; (w, dispAfter 10 w plus)
  | .d b => encodeData b plus

/-- Code groups encoded one after the other. -/
def encodeGroups : Bool → List Group → List Nat × Bool
  | plus, [] => ([], plus)
  | plus, g :: t =>
    let (w, p) := g.encode plus
    let (l, q) := encodeGroups p t
    (w :: l, q)

/-! ### Codewords of the FEC modes (R45, R50) -/

/-- The bits of a byte, the most significant first. -/
def byteBits (b : Byte) : List Bool := (List.range 8).map (fun k => b.toNat.testBit (7 - k))

/-- The number that bits spell, the first most significant. -/
def bitsNat (l : List Bool) : Nat := l.foldl (fun a b => 2 * a + b2n b) 0

/-- Bits in words of `n`. -/
def bitWords (n : Nat) : Nat → List Bool → List Nat
  | 0, _ => []
  | k + 1, l => bitsNat (l.take n) :: bitWords n k (l.drop n)

/-- The 514 message symbols of a codeword: twenty transcoded blocks, each of 32 bytes and its pair mark as the 257th bit. -/
def messageSyms (l : List (Bool × List Byte)) : List Nat := bitWords 10 514 (l.flatMap (fun x => x.2.flatMap byteBits ++ [x.1]))

/-- The number of parity symbols in a lane mode: RS(528,514), else RS(544,514) (R45). -/
def parityLen (mode : Nat) : Nat := if mode = 1 then 14 else 30

/-- A codeword: the message symbols, then parity (R45; the spec names no generator polynomial: a free value, log entry 91). -/
def codeword (mode : Nat) (msg : List Nat) : List Nat :=
  msg ++ (List.range (parityLen mode)).map (fun k => Config.rsParity mode msg k % 1024)

/-- BIP-8 over ten-bit words of which whole bytes are covered (R53). -/
def bipWords (l : List Nat) : Nat :=
  let bits := l.flatMap (fun w => (List.range 10).map (fun k => w.testBit (9 - k)))
  (bitWords 8 (bits.length / 8) bits).foldl (· ^^^ ·) 0

/-- One bit of CRC-16 with polynomial 0x1021, the most significant first (R53). -/
def crc16Bit (c : Nat) (b : Bool) : Nat := if c.testBit 15 != b then (2 * c % 65536) ^^^ 0x1021 else 2 * c % 65536

/-- The CRC-16 of bits [119:16] of a comma block (R53). -/
def crc16 (v : Nat) : Nat := ((List.range 104).map (fun k => v.testBit (119 - k))).foldl crc16Bit 0xFFFF

/-- PATTERN of a comma block (R53). -/
def commaPattern : Nat := 0x4B1ED2A77C3590E6

/-- A comma block (R53): physical and logical lane, mode code, BIP-8, counter. -/
def commaBlock (plane llane mode bip count : Nat) : Nat :=
  let v := commaPattern * 2 ^ 56 + plane % 4 * 2 ^ 54 + llane % 4 * 2 ^ 52 + mode % 16 * 2 ^ 48 + bip % 256 * 2 ^ 40
    + count % 65536 * 2 ^ 16
  v + crc16 v

/-- An alignment set (R51): K28.5, then the lanes and the mode code, BIP-8, the counter. -/
def alignmentSet (plane llane mode bip count : Nat) : List Group :=
  [.k .k285, .d (BitVec.ofNat 8 (plane % 4 * 64 + llane % 4 * 16 + mode % 16)), .d (BitVec.ofNat 8 bip), .d (BitVec.ofNat 8 count)]

/-! ### PRBS31 (R64) -/

/-- The next bit of x³¹ + x²⁸ + 1 after a register of 31 bits, the latest bit least significant. -/
def prbsBit (s : Nat) : Bool := s.testBit 30 != s.testBit 27

def prbsNext (s : Nat) : Nat := (2 * s + b2n (prbsBit s)) % 2 ^ 31

/-- `n` bits of the sequence, and the register after them. -/
def prbsBits : Nat → Nat → List Bool × Nat
  | 0, s => ([], s)
  | n + 1, s =>
    let (l, t) := prbsBits n (prbsNext s)
    (prbsBit s :: l, t)

/-- `n` bytes of the sequence, the first bit of each most significant, and the register after them. -/
def prbsBytes (n s : Nat) : List Byte × Nat :=
  let (l, t) := prbsBits (8 * n) s
  ((bitWords 8 n l).map (BitVec.ofNat 8), t)

/-- The bit errors that a checker counts which synchronised on the 31 bits `s` (R64). -/
def prbsErrors : Nat → List Bool → Nat
  | _, [] => 0
  | s, b :: t => b2n (b != prbsBit s) + prbsErrors (prbsNext s) t

/-- The errors in the bits received on a lane: the first 31 synchronise the checker (R64). -/
def checkPrbs (l : List Bool) : Nat := prbsErrors (bitsNat (l.take 31)) (l.drop 31)

/-! ### Line symbols (R45) -/

/-- The symbols of ten-bit words: bits at L10 and L25, Gray-coded levels 0 to 3 of two bits each above. -/
def lineSymbols (mode : Nat) (l : List Nat) : List Nat :=
  if mode < 2 then l.flatMap (fun w => (List.range 10).map (fun k => w / 2 ^ (9 - k) % 2))
  else l.flatMap (fun w => (List.range 5).map (fun k => let x := w / 4 ^ (4 - k) % 4; if x = 2 then 3 else if x = 3 then 2 else x))

/-! ### A lane -/

/-- Code groups sent on a lane at L10; an alignment set goes out once every 65,536 of them (R51). A block that would start one group
before the set waits for it, so that its K27.7 stays immediately before its first byte: one K28.0 more goes between the blocks (R49). -/
def LaneTx.sendGroups (x : LaneTx) (plane llane mode : Nat) (l : List Group) : LaneTx :=
  let l := if x.since = 65535 ∧ l.head? = some (.k .k277) then .k .k280 :: l else l
  let bip := fun (b : Nat) (l : List Group) => l.foldl (fun b g => match g with
    | .d v => b ^^^ v.toNat
    | .k _ => b) b
  if x.since + l.length < 65536 then
    let (w, p) := encodeGroups x.plus l
    { x with since := x.since + l.length, bip := bip x.bip l, plus := p, out := some (lineSymbols 0 w) }
  else
    let n := 65536 - x.since
    let set := alignmentSet plane llane mode (bip x.bip (l.take n)) x.marks
    let (w, p) := encodeGroups x.plus (l.take n ++ set ++ l.drop n)
    { x with since := 4 + (l.length - n), marks := (x.marks + 1) % 256, bip := bip 0 (l.drop n), plus := p, out := some (lineSymbols 0 w) }

/-- A transcoded block sent on a lane in an FEC mode: twenty fill a codeword, and 8,192 codewords are followed by a comma block
(R45, R50, R53). In the blotter test the FEC is bypassed: PRBS31 stands in the place of the parity too (R64; DESIGN CHOICE, log
entry 91). -/
def LaneTx.sendWord (x : LaneTx) (plane llane mode : Nat) (test : Bool) (b : Bool × List Byte) : LaneTx :=
  let l := x.words ++ [b]
  if l.length < 20 then { x with words := l }
  else
    let msg := messageSyms l
    let n := parityLen (mode / 4)
    let (bits, s) := if test then prbsBits (10 * n) x.prbs else ([], x.prbs)
    let cw := if test then msg ++ bitWords 10 n bits else codeword (mode / 4) msg
    let bip := x.bip ^^^ bipWords cw
    let old := x.out.getD []
    let x := { x with words := [], prbs := s }
    if x.since + 1 < 8192 then { x with since := x.since + 1, bip := bip, out := some (old ++ lineSymbols (mode / 4) cw) }
    else
      let c := commaBlock plane llane mode bip x.marks
      let l := (List.range 12).map (fun k => c / 2 ^ (110 - 10 * k) % 1024)
      { x with since := 0, marks := (x.marks + 1) % 65536, bip := 0, out := some (old ++ lineSymbols (mode / 4) (cw ++ l)) }

/-- The content of a transcoded block on a lane in the blotter test (R64). -/
def LaneTx.testBytes (x : LaneTx) (n : Nat) : List Byte × LaneTx :=
  let (l, s) := prbsBytes n x.prbs
  (l, { x with prbs := s })

/-! ### A port -/

def Dev.modPhy (d : Dev) (p : Nat) (f : PhyTx → PhyTx) : Dev := d.modSeq p (fun x => { x with phy := f x.phy })

def PhyTx.modLane (x : PhyTx) (n : Nat) (f : LaneTx → LaneTx) : PhyTx :=
  { x with lanes := x.lanes.set n (f (x.lanes.get n LaneTx.reset)) LaneTx.reset }

/-- The lanes outside a list go to electrical idle (R60). -/
def PhyTx.quiet (x : PhyTx) (run : List Nat) : PhyTx :=
  forAll ((List.range 4).filter (fun n => !run.contains n)) (fun n x => x.modLane n (fun l => { l with out := none })) x

/-- All lanes of a port in electrical idle (R60, R61, R103). -/
def Dev.lanesIdle (p : Nat) (d : Dev) : Dev := d.modPhy p (fun x => x.quiet [])

/-- A port's lanes start in another mode: the framing, its counts and the pair under way begin afresh (DESIGN CHOICE, log entry
91), the PRBS31 register at all ones; TXEQ is taken where `eq` says so (R75). -/
def Dev.phyStart (p : Nat) (eq : Option (Nat → Nat)) (d : Dev) : Dev :=
  d.modPhy p (fun x => forAll (List.range 4) (fun n x => x.modLane n (fun l =>
    { LaneTx.reset with prbs := 2 ^ 31 - 1, eq := match eq with
        | some f => f n
        | none => l.eq })) { PhyTx.reset with lanes := x.lanes })

/-- Every `k`th byte from the `j`th on of 272: the share of logical lane `j` of `k` at L10 (R48). -/
def laneShare (l : List Byte) (k j : Nat) : List Byte := (List.range (272 / k)).map (fun i => l.getD (i * k + j) 0)

/-- The lanes of a mode, by logical lane: logical number and physical lane. -/
def byLogical (run : List Nat) : List (Nat × Nat) := (List.range run.length).zip run

/-- A block on the lanes at L10: K27.7 on every lane, then its bytes in turn (R48, R49); in the blotter test PRBS31 (R64). -/
def PhyTx.sendL10 (x : PhyTx) (run : List Nat) (mode : Nat) (l : Option (List Byte)) : PhyTx :=
  forAll (byLogical run) (fun j x => x.modLane j.2 (fun y =>
    match l with
    | some l => y.sendGroups j.2 j.1 mode (.k .k277 :: (laneShare l run.length j.1).map Group.d)
    | none => let (b, y) := y.testBytes (272 / run.length + 1); y.sendGroups j.2 j.1 mode (b.map Group.d))) (x.quiet run)

/-- Between blocks the lanes at L10 carry K28.0 (R49). -/
def PhyTx.fillL10 (x : PhyTx) (run : List Nat) (mode : Nat) : PhyTx :=
  forAll (byLogical run) (fun j x => x.modLane j.2 (fun y =>
    y.sendGroups j.2 j.1 mode (List.replicate (272 / run.length + 1) (.k .k280)))) (x.quiet run)

/-- A block pair on the lanes in an FEC mode: its seventeen transcoded blocks in turn over the logical lanes, the pair mark on the
first (R48, R50); in the blotter test PRBS31 is their content (R64). -/
def PhyTx.sendPair (x : PhyTx) (run : List Nat) (mode : Nat) (l : Option (List Byte)) : PhyTx :=
  let x := forAll run (fun n x => x.modLane n (fun y => { y with out := some [] })) (x.quiet run)
  forAll (List.range 17) (fun k x =>
    let j := x.next % run.length
    let n := run.getD j 0
    let x := x.modLane n (fun y =>
      match l with
      | some l => y.sendWord n j mode false (k == 0, (l.drop (32 * k)).take 32)
      | none => let (b, y) := y.testBytes 32; y.sendWord n j mode true (k == 0, b))
    { x with next := (j + 1) % run.length }) x

/-- A block time passes on a port's lanes with a block, or in the blotter test (R48 to R50, R64): a block pair goes out with its
second half. -/
def PhyTx.send (x : PhyTx) (run : List Nat) (mode : Nat) (l : Option (List Byte)) : PhyTx :=
  if run = [] then x.quiet []
  else if mode < 4 then x.sendL10 run mode l
  else match x.half with
    | none => { x.quiet run with half := some (l.getD []) }
    | some a => { x with half := none }.sendPair run mode (l.map (a ++ ·))

end Sys2Proof.Machine
end

