-- ==== Sys2Proof/Machine/LinkFail.lean ====
section
/-! DEFINITION. A link layer that fails (R102 to R105, R108) and one that starts (R101, R89, R116). -/

namespace Sys2Proof.Machine

/-- A received packet cut by the failure of its arrival port: behind its stored blocks comes a closing block where it is on its
way on a Tirrun egress; otherwise it is discarded whole (R105). DESIGN CHOICE (log entry 106): of a packet with several copies LNK_TRUNC
counts the blocks of each copy that is discarded. -/
def Dev.closeCopy (p i : Nat) (d : Dev) : Dev :=
  match d.pkt i with
  | none => d
  | some k =>
    if k.trunc.isSome then d.erasePkt i
    else if k.started then (d.putPkt i { k with closing := true, whole := true }).inc (LNK_CLOSE_COUNT p)
    else (d.incBy (LNK_TRUNC_COUNT p) k.cells.length).releasePkt i

/-- The accepted blocks in front of the tunnel engine that belong to packets whose LAST has been accepted are taken in: a packet that
has been received goes its way (R105). -/
def Dev.takeWhole (p : Nat) (d : Dev) : Dev :=
  let w := (d.lnk p).rxWait
  let l := w.filter (fun b => w.any (fun x => x.hdr.pid == b.hdr.pid && x.hdr.last))
  let d := d.modLnk p (fun x => { x with rxWait := w.filter (fun b => !l.contains b) })
  (forAll l (fun b d => if b.hdr.first then d.firstBlock p b.hdr b.bytes else d.laterBlock p b.hdr b.bytes) d).drainLocal .ok

/-- The copies of a packet cut by the failure of its arrival port; where a closing block is sent for it, this hub has found it bad, once
(R105, R166). -/
def Dev.closePacket (p : Nat) (is : List Nat) (d : Dev) : Dev :=
  let ks := (is.filterMap d.pkt).filter (fun k => k.trunc.isNone)
  forAll is (fun i d => d.closeCopy p i) (d.poisonSet (ks.any (·.poison)) (ks.any (·.started)))

/-- The packets open on a port that fails, LAST not seen (R105): their accepted blocks still in front of the tunnel engine are
discarded with them. -/
def Dev.closeOpen (p : Nat) (d : Dev) : Dev :=
  let l := d.sw.rxOpen.filter (fun x => x.1 / 65536 == p)
  let d := d.incBy (LNK_TRUNC_COUNT p) (d.lnk p).rxWait.length
  let d := d.modLnk p (fun x => { x with rxWait := [] })
  let d := forAll l (fun x d => d.closePacket p (x.2.getD [])) d
  d.modSw (fun w => { w with rxOpen := w.rxOpen.filter (fun x => x.1 / 65536 != p) })

/-- The outcome of a mode request (R142). -/
def Dev.mreqEnd (d : Dev) (p result : Nat) : Dev :=
  let d := d.modLnk p (fun l => { l with mreq := { l.mreq with pending := none } })
  ((d.set (LNK_MRES_RESULT p) result).raise STN_EVT_MREQ_DONE).segReport p 3

/-- A segment is declared failed with a cause of R102 (R101, R103, R105, R108, R109). -/
def Dev.linkFail (p cause : Nat) (d : Dev) : Dev :=
  let st := d.linkState p
  if 1 ≤ st ∧ st ≤ 4 then
    let d := d.takeWhole p
    let d := (d.set (LNK_CTL_ADMIT p) 0).setLink p 5
    let d := (((d.set (LNK_STAT_CAUSE p) cause).inc (LNK_FAILS_COUNT p)).set (LNK_CTL_FAIL p) 0).raise (LNK_EVT_FAILED p)
    let asked := (d.lnk p).mreq.pending.isSome
    let d := (d.modLnk p (fun l =>
      { l with replay := [], rpPoint := none, ctl := [], caps := [], tickDue := false, delays := [], granted := [], used := []
               frags := [], nakAt := none, ackOwed := false })).set (LNK_STAT_WIN p) 0
    let d := ((d.lanesIdle p).closeOpen p).dropClaim p
    let d := (d.cutSent p (fun _ => false)).rerouteAll p
    let d := if st = 4 then d.wrapOn p cause else d
    let d := if asked then d.mreqEnd p 4 else d
    (d.accordLinkLost p).segReport p 1
  else d

/-! ### Segment keys -/

def Dev.seg (d : Dev) (p : Nat) : SegAuth := d.key.segs.get p SegAuth.reset
def Dev.modSeg (d : Dev) (p : Nat) (f : SegAuth → SegAuth) : Dev :=
  d.modKey (fun k => { k with segs := k.segs.set p (f (d.seg p)) SegAuth.reset })

/-- A segment fails with cause KEY (R99, R553, R557). -/
def Dev.keyFail (p : Nat) (d : Dev) : Dev :=
  let d := if d.flag (KEY_SEGp_STAT_REKEYING p) then d.event 0x19 0x0011 (p + (d.seg p).reason * 2 ^ 5) else d
  (((d.set (KEY_SEGp_STAT_REKEYING p) 0).modSeg p (fun x => { x with req := none, next := none })).linkFail p 6).raise KEY_EVT_REKEY_FAIL

/-- A segment whose key of either direction has protected 2^32 blocks fails (R99). -/
def Dev.keySpent (p : Nat) (d : Dev) : Dev :=
  let used := fun (k : Option SegKey) => 2 ^ 32 ≤ (k.map (·.blocks)).getD 0
  if used (d.lnk p).txKey ∨ used (d.lnk p).rxKey then d.keyFail p else d

/-! ### The link layer starts -/

/-- The estimated round trip before it is measured, in ns (R87). -/
def rttEstimate (len : Nat) : Nat := 2 * len * 5 + 2000

/-- The rated length in metres of a mode (R89). -/
def ratedLen (m : Nat) : Nat :=
  let r := modeRate m
  if r = 400000 then 800 else if r = 200000 then 1800 else if r = 100000 then 3900 else 4600

/-- The unit identifier of this hub (R113, R139). -/
def Dev.uid (d : Dev) : Nat := d.get STN_UID_HI_UID * 2 ^ 32 + d.get STN_UID_LO_UID

/-- The part of the neighbour record that a CAP block renews in service (R117). -/
def Dev.nbrInfo (d : Dev) (p : Nat) (c : Cap) : Dev :=
  (((d.set (LNK_NBR_INFO_STATION p) c.station).setB (LNK_NBR_INFO_VALID p) c.stnValid).set (LNK_NBR_INFO_PORT p) c.port).set
    (LNK_NBR_INFO_REV p) c.rev

/-- The partner recorded at entry to INIT (R115, R116). -/
def Dev.meetNeighbour (d : Dev) (p : Nat) : Dev :=
  match (d.seq p).partner with
  | none => d
  | some c =>
    if c.unitId = d.uid then d
    else
      let fresh := !(d.lnk p).known || d.get (LNK_NBR_UIDHI_UID p) * 2 ^ 32 + d.get (LNK_NBR_UIDLO_UID p) != c.unitId
      let d := ((d.set (LNK_NBR_UIDHI_UID p) (c.unitId / 2 ^ 32)).set (LNK_NBR_UIDLO_UID p) c.unitId).nbrInfo p c
      let d := d.modLnk p (fun l => { l with known := true })
      if fresh then
        (d.raise (if p = 0 then STN_EVT_NEW_NBR_TE else if p = 1 then STN_EVT_NEW_NBR_TW else STN_EVT_NEW_NBR_C)).segReport p 0
      else d

/-- The sequencer enters SERVICE: the link layer starts in INIT with keys, sequence and credits reset (R82, R87, R89, R91, R99,
R101, R190); LNK_CRED_INITc acts now (R112). DESIGN CHOICE (log entry 106): ENC falls here, not at the failure. -/
def Dev.linkInit (p : Nat) (d : Dev) : Dev :=
  let old := d.lnk p
  let keep : MReq := { old.mreq with pending := none, answered := none, restart := none }
  let init := (List.range 8).foldl (fun (t : Tab Nat) c => t.set c (d.get (LNK_CRED_INITc_BLOCKS p c)) 0) []
  let d := ((d.setLnk p { LinkSt.reset with known := old.known, mreq := keep, init := init }).clearSeg p).setLink p 1
  let len := (d.seq p).len
  let d := ((d.set (LNK_RTT_NS p) 0).set (LNK_ACKTO_NS p) (rttEstimate len + 3000)).set (LNK_STAT_ENC p) 0
  let d := d.modTime (fun t => { t with delay := t.delay.set p DelayPart.reset DelayPart.reset })
  let d := (d.set (LNK_STAT_WIN p) 0).meetNeighbour p
  let d := if ratedLen (d.cmode p) < len then d.raise (LNK_EVT_LEN_EXCEEDS p) else d
  d.makeClaim p

end Sys2Proof.Machine
end

