-- ==== Sys2Proof/Machine/Trunk.lean ====
section
/-! DEFINITION. The bring-up sequencers (spec 02 for the trunk ports, R426 to R429 for the Type-C lane groups): the plan (R58),
the best common mode (R59), alignment (R51 to R56), the states (R60, R61, R429), the blotter test (R64, R65), the bypass (R66,
R67). -/

namespace Sys2Proof.Machine

/-! ### Modes -/

/-- The mode index of a mode code, and back (R46). -/
def modeIdx (m : Nat) : Nat := m / 4 * 3 + m % 4
def idxMode (i : Nat) : Nat := i / 3 * 4 + i % 3

/-- Whether a mode lies in an allowed set (R46). -/
def inAllow (allow m : Nat) : Bool := m < 16 && m % 4 != 3 && allow.testBit (modeIdx m)

/-- The allowed set cut to at most `n` lanes. -/
def cutLanes (allow n : Nat) : Nat := bitSet ((bitList 12 allow).filter (fun i => modeLanes (idxMode i) ≤ n))

/-- Whether mode `a` is better than mode `b`: more payload, then fewer lanes, then the lower symbol rate (R59). -/
def betterMode (a b : Nat) : Bool :=
  if modeRate a ≠ modeRate b then modeRate b < modeRate a
  else if modeLanes a ≠ modeLanes b then modeLanes a < modeLanes b
  else a / 4 < b / 4

/-- The best mode of an allowed set; L10×1 where it is empty (R59). -/
def bestMode (allow : Nat) : Nat :=
  ((bitList 12 allow).map idxMode).foldl (fun b m =>
    match b with
    | some x => if betterMode m x then some m else b
    | none => some m) (none : Option Nat) |>.getD 0

/-! ### Ports of both kinds -/

def Dev.seqState (d : Dev) (p : Nat) : Nat := if p < 2 then d.get (TRK_STAT_STATE p) else d.get (TCL_STAT_STATE (p - 2))

/-! ### Type-C ports -/

def Dev.pc (d : Dev) (n : Nat) : PdcPort := d.pdc.ports.get n PdcPort.reset
def Dev.modPc (d : Dev) (n : Nat) (f : PdcPort → PdcPort) : Dev :=
  { d with pdc := { d.pdc with ports := d.pdc.ports.set n (f (d.pc n)) PdcPort.reset } }

/-- A message that a Type-C port sends (R433). -/
def Dev.pdSend (n : Nat) (m : PdMsg) (d : Dev) : Dev :=
  (d.modPc n (fun x => { x with sent := some m, wire := if m.vdmBytes = [] then x.wire else m.vdmBytes })).inc (PDC_Pn_MSG_TX_COUNT n)

/-- The status VDO of a lane group (R427). -/
def Dev.statusVdo (d : Dev) (n : Nat) : Nat :=
  let st := if d.flag STN_ID_VALID then d.get STN_ID_NUM else 0xFFF
  d.get (TCL_STAT_STATE n) + d.get (TCL_STAT_CMODE n) * 2 ^ 4 + d.get (TCL_STAT_DOWNGRADED n) * 2 ^ 8
    + d.linkState (2 + n) * 2 ^ 16 + st * 2 ^ 20

/-- A sequencer state entered; a UFP in Tirrun mode sends Attention as its lane group enters or leaves SERVICE (R427). -/
def Dev.setSeqState (d : Dev) (p st : Nat) : Dev :=
  let was := d.seqState p
  let d := d.set (if p < 2 then TRK_STAT_STATE p else TCL_STAT_STATE (p - 2)) st
  if 2 ≤ p ∧ (was = 7) ≠ (st = 7) ∧ d.get (PDC_Pn_STAT_ALT (p - 2)) = 2 ∧ d.get (PDC_Pn_STAT_DFP (p - 2)) = 0 then
    d.pdSend (p - 2) (.vdm false 0xC7A1 6 [d.statusVdo (p - 2)])
  else d
def Dev.setCmode (d : Dev) (p m : Nat) : Dev := d.set (if p < 2 then TRK_STAT_CMODE p else TCL_STAT_CMODE (p - 2)) m
def Dev.seqOn (d : Dev) (p : Nat) : Bool := d.flag (if p < 2 then TRK_CTL_EN p else TCL_CTL_EN (p - 2))

/-- The number of physical lanes of a port. -/
def laneCount (p : Nat) : Nat := if p < 2 then 4 else 2

/-- The physical lanes that software or BIST has taken out of use (R71, R434). -/
def Dev.laneDis (d : Dev) (p : Nat) : Nat := if p < 2 then d.get (TRK_CTL_LANE_DIS p) else d.get (TCL_CTL_LANE_DIS (p - 2))

/-- The physical lanes in use, rising: neither disabled nor left out after a blotter failure (R60, R65). DESIGN CHOICE (log entry 92):
R58 has LANE_DIS cut the plan at PLAN_TX, and nothing says when a write of it acts on lanes that already run; it acts from the next
entry to PLAN_TX or START. -/
def Dev.lanesUp (d : Dev) (p : Nat) : List Nat :=
  let off := (d.seq p).dis ||| (d.seq p).out
  (List.range (laneCount p)).filter (fun n => !off.testBit n)

/-- The largest lane count that a number of lanes supports. DESIGN CHOICE (log entry 92): R58 names no count for no lane; one-lane modes
stay in the plan, and no lane runs. -/
def fillable (n : Nat) : Nat := if 4 ≤ n then 4 else if 2 ≤ n then 2 else 1

/-- The physical lanes that run in a mode, by logical lane (R60, R65). -/
def Dev.runLanes (d : Dev) (p m : Nat) : List Nat := (d.lanesUp p).take (modeLanes m)

/-- LMAP: the running lanes by logical lane, then the rest in rising order (R72). -/
def Dev.putLmap (d : Dev) (p : Nat) : Dev :=
  if p < 2 then
    let run := d.runLanes p (d.seq p).target
    let l := run ++ (List.range 4).filter (fun n => !run.contains n)
    d.set (TRK_STAT_LMAP p) (l.getD 0 0 + 4 * l.getD 1 0 + 16 * l.getD 2 0 + 64 * l.getD 3 0)
  else d

/-- A lane's aligned bits (R72, R75, R434). -/
def Dev.putAligned (d : Dev) (p n : Nat) (b : Bool) : Dev :=
  let d := d.setB (TRK_LnSTAT_ALIGNED p n) b
  let f := if p < 2 then TRK_STAT_LOCK p else TCL_STAT_LOCK (p - 2)
  let w := d.get f
  d.set f (if b then w ||| 2 ^ n else if w.testBit n then w - 2 ^ n else w)

/-- DOWNGRADED set (R72, R125, R434). -/
def Dev.downgrade (d : Dev) (p : Nat) : Dev :=
  let d := if p < 2 then d.set (TRK_STAT_DOWNGRADED p) 1
    else (d.set (TCL_STAT_DOWNGRADED (p - 2)) 1).raise (TCL_EVT_DOWNGRADE (p - 2))
  d.segReport p 2

def Dev.lockLost (d : Dev) (p : Nat) : Dev := d.raise (if p < 2 then TRK_EVT_LOCK_LOST p else TCL_EVT_LOCK_LOST (p - 2))

/-! ### The states -/

/-- The word of TRK_LnTXEQ (R75). -/
def Dev.txeq (d : Dev) (p n : Nat) : Nat :=
  d.get (TRK_LnTXEQ_PRE p n) + d.get (TRK_LnTXEQ_MAIN p n) * 2 ^ 8 + d.get (TRK_LnTXEQ_POST p n) * 2 ^ 16

/-- The lanes start to transmit in a target mode, and alignment is sought afresh; TXEQ acts from PLAN_TX and RETRAIN on (R75). -/
def Dev.retarget (d : Dev) (p st target : Nat) : Dev :=
  let d := forAll (List.range (laneCount p)) (fun n d => d.putAligned p n false) d
  let d := d.phyStart p (if st = 1 ∨ st = 6 then some (d.txeq p) else none)
  ((d.modSeq p (fun x => { x with target := target, lanes := [] })).setSeqState p st).putLmap p

/-- The latched plan as R58 corrects it: allowed set and planned mode. -/
def Dev.checkPlan (d : Dev) (p : Nat) : Nat × Nat :=
  let n := fillable (d.lanesUp p).length
  let allow := cutLanes (d.get (TRK_PLAN_ALLOW p) ||| 1) n
  let allow := if d.flag (TRK_PLAN_BYP p) then allow % 64 else allow
  let m := d.get (TRK_PLAN_PMODE p)
  let m := if m % 4 ≠ 3 ∧ n < modeLanes m then m / 4 * 4 + (if n = 1 then 0 else 1) else m
  (allow, if inAllow allow m then m else bestMode allow)

/-- The plan and the roles that a mode request has agreed are written, before the restart (R135); a write by software in the same cycle
wins (R14). -/
def Dev.applyAnswer (d : Dev) (p : Nat) : Dev :=
  match (d.lnk p).mreq.restart with
  | none => d
  | some (m, ring, byp) =>
    let d := d.modLnk p (fun l => { l with mreq := { l.mreq with restart := none } })
    if p < 2 then
      let d := (d.update (TRK_PLAN_PMODE p) m).update (TRK_PLAN_BYP p) (b2n byp)
      if d.writtenNow (LNK_CTL_RING p) then d else d.putRing p ring
    else d

/-- Entry to PLAN_TX of a trunk port: the plan is latched and checked, marks and lane counters are cleared (R58, R61, R65, R71,
R75). -/
def Dev.planTx (p : Nat) (d : Dev) : Dev :=
  let d := d.modSeq p (fun x => { x with out := 0, dis := d.laneDis p })
  let (allow, m) := d.checkPlan p
  let d := d.setB (TRK_STAT_PLAN_ERR p) (allow != d.get (TRK_PLAN_ALLOW p) || m != d.get (TRK_PLAN_PMODE p))
  let x : SeqSt :=
    { SeqSt.reset with
        pmode := m
        allow := allow
        medium := d.flag (TRK_PLAN_MEDIUM p)
        byp := d.flag (TRK_PLAN_BYP p)
        len := d.get (TRK_PLAN_LEN p)
        dis := d.laneDis p
        phy := (d.seq p).phy }
  let d := ((d.setSeq p x).set (TRK_CTL_RETRAIN p) 0).set (TRK_STAT_DOWNGRADED p) 0
  let d := forAll (List.range 4) (fun n d =>
    ((((d.set (TRK_LnBERR_COUNT p n) 0).set (TRK_LnFECC_COUNT p n) 0).set (TRK_LnFECU_COUNT p n) 0).set (TRK_LnBIP_COUNT p n) 0).set
      (TRK_LnSTAT_ADAPTED p n) 0) d
  d.retarget p 1 m

/-- Entry to START of a lane group (R429, R434). -/
def Dev.tclStart (p : Nat) (d : Dev) : Dev :=
  let d := (d.set (TCL_CTL_RESTEP (p - 2)) 0).modLnk p (fun l => { l with mreq := { l.mreq with restart := none } })
  let d := d.setSeq p { SeqSt.reset with allow := d.get (TCL_CFG_ALLOW (p - 2)), dis := d.laneDis p, phy := (d.seq p).phy }
  let d := forAll (List.range 2) (fun n d =>
    ((((d.set (TRK_LnBERR_COUNT p n) 0).set (TRK_LnFECC_COUNT p n) 0).set (TRK_LnFECU_COUNT p n) 0).set (TRK_LnBIP_COUNT p n) 0).set
      (TRK_LnSTAT_ADAPTED p n) 0) d
  d.retarget p 1 0

/-- Whether a sequencer in OFF is to run: EN of a trunk port; of a lane group EN, Tirrun mode with T_CONFIG acknowledged, and its
domain ON (R61, R406, R429). -/
def Dev.seqWanted (d : Dev) (p : Nat) : Bool :=
  if p < 2 then d.flag (TRK_CTL_EN p)
  else (d.pc (p - 2)).lanes && d.get (PDC_Pn_STAT_ALT (p - 2)) == 2 && d.flag (TCL_CTL_EN (p - 2)) && d.domOn (if p < 6 then 7 else 8)

/-- The start of the ladder again: PLAN_TX of a trunk port, START of a lane group. -/
def Dev.restart (p : Nat) (d : Dev) : Dev := if p < 2 then d.planTx p else d.tclStart p

/-- A restart. Out of SERVICE the link fails with cause LOCK first, and the sequencer enters PLAN_TX or START once the lanes have been
idle for 5 µs (R61, R101 to R103, R429). -/
def Dev.relock (p : Nat) (d : Dev) : Dev := if d.seqState p = 7 ∧ d.linkState p ≠ 0 then d.linkFail p 3 else d.restart p

/-- The sequencer goes OFF, its lanes to electrical idle (R61, R429). -/
def Dev.seqOff (p : Nat) (d : Dev) : Dev :=
  let d := if d.seqState p = 7 then d.linkFail p 3 else d
  let d := forAll (List.range (laneCount p)) (fun n d => d.putAligned p n false) d
  ((d.modSeq p (fun x => { x with lanes := [] })).lanesIdle p).setSeqState p 0

/-- All lanes of the target mode are aligned (R61, R429). -/
def Dev.aligned (p : Nat) (d : Dev) : Dev :=
  let st := d.seqState p
  let d := d.setCmode p (d.seq p).target
  let d := if p < 2 ∧ st = 6 then d.modSeq p (fun x => { x with used := true }) else d
  (d.modSeq p (fun x => { x with own := none, theirs := none, told := false })).setSeqState p 4

/-- Whether the lanes received can be deskewed: each logical lane is announced once (R56, R65). -/
def Dev.deskews (d : Dev) (p : Nat) (run : List Nat) : Bool :=
  let l := run.map (fun n => ((d.seq p).lanes.get n LaneSt.reset).lane)
  (List.range run.length).all (fun j => l.contains j)

/-- The sequencer goes on once as many lanes as the target mode has are aligned, and deskewed by the logical lanes announced (R61, R65,
R429). -/
def Dev.checkAligned (p : Nat) (d : Dev) : Dev :=
  let st := d.seqState p
  let m := (d.seq p).target
  let run := d.runLanes p m
  if (st = 1 ∨ st = 2 ∨ st = 3 ∨ st = 6) ∧ run.length = modeLanes m ∧ run.all (fun n => d.flag (TRK_LnSTAT_ALIGNED p n))
    ∧ d.deskews p run then d.aligned p else d

/-- A lane loses alignment (R52, R55, R61, R429); an end that has answered a mode request restarts with what was agreed (R135). -/
def Dev.laneLost (p n : Nat) (d : Dev) : Dev :=
  let was := d.flag (TRK_LnSTAT_ALIGNED p n)
  let d := (d.modSeq p (fun x => { x with lanes := x.lanes.set n LaneSt.reset LaneSt.reset })).putAligned p n false
  let st := d.seqState p
  if was && (d.runLanes p (d.seq p).target).contains n && (st = 4 || st = 5 || st = 7) then
    (if st = 7 then (d.lockLost p).applyAnswer p else d.lockLost p).relock p
  else d

/-! ### Alignment -/

/-- The skew of a lane against the mean of the running lanes (R56, R75). -/
def Dev.putSkew (d : Dev) (p n skew : Nat) : Dev :=
  let bad := 32 < (sgn 8 skew).natAbs
  let was := ((d.seq p).lanes.get n LaneSt.reset).skewBad
  let d := (d.set (TRK_LnSTAT_SKEW p n) skew).modSeq p (fun x =>
    { x with lanes := x.lanes.set n { x.lanes.get n LaneSt.reset with skewBad := bad } LaneSt.reset })
  if bad && !was && p < 2 then d.raise (TRK_EVT_DESKEW_FAIL p) else d

/-- What an alignment set or a comma block announces (R46, R51, R53, R65): a mode code with LANES 3 is invalid. -/
def LaneSt.hear (x : LaneSt) (llane mode count : Nat) : LaneSt :=
  { x with lane := llane, mode := if mode % 4 = 3 then none else some mode, count := count }

/-- A marker arrives at its position: the lane is aligned after `need` of them (R52, R54); it announces the partner's physical lane,
the logical lane, the mode and its counter. DESIGN CHOICE (log entry 29): the spec says only 'signal detected' and 'adaptation
complete'; SIGNAL and ADAPTED become 1 at the first marker received, ADAPTED 0 again on entry to PLAN_TX or START, both 0 at a loss of
signal. -/
def Dev.marker (d : Dev) (p n need plane skew bip llane mode count : Nat) : Dev :=
  let x := ((d.seq p).lanes.get n LaneSt.reset).hear llane mode count
  let g := min need (x.good + 1)
  let d := d.modSeq p (fun y => { y with lanes := y.lanes.set n { x with good := g, missed := 0 } LaneSt.reset })
  let d := (((d.set (TRK_LnSTAT_SIGNAL p n) 1).set (TRK_LnSTAT_ADAPTED p n) 1).set (TRK_LnSTAT_RX_PLANE p n) plane).incBy
    (TRK_LnBIP_COUNT p n) bip
  let d := d.putSkew p n skew
  if need ≤ g ∨ d.flag (TRK_LnSTAT_ALIGNED p n) then (d.putAligned p n true).checkAligned p else d

/-- An expected marker is missing: the lane loses alignment after `lose` of them in a row (R52, R55). -/
def Dev.markerMissing (d : Dev) (p n lose : Nat) : Dev :=
  let x := (d.seq p).lanes.get n LaneSt.reset
  if d.flag (TRK_LnSTAT_ALIGNED p n) then
    (if lose ≤ x.missed + 1 then d.laneLost p n
     else d.modSeq p (fun y => { y with lanes := y.lanes.set n { x with missed := x.missed + 1 } LaneSt.reset }))
  else d.modSeq p (fun y => { y with lanes := y.lanes.set n { x with good := 0 } LaneSt.reset })

/-- Whether a lane runs in the target mode of a port whose sequencer is not OFF, at L10 or in an FEC mode. -/
def Dev.laneRuns (d : Dev) (p n : Nat) (l10 : Bool) : Bool :=
  d.seqState p != 0 && (d.runLanes p (d.seq p).target).contains n && (((d.seq p).target / 4 == 0) == l10)

/-- An alignment set on a lane at L10: its three data groups, and the BIP-8 that the receiver formed (R51, R52, R56, R75). -/
def alignmentSetRx (p n skew set own : Nat) (d : Dev) : Dev :=
  if d.laneRuns p n true then
    d.marker p n 3 (bitsOf set 22 2) skew (ones 8 (bitsOf set 8 8 ^^^ own)) (bitsOf set 20 2) (bitsOf set 16 4) (bitsOf set 0 8)
  else d

def execAlignmentSetRx (p : Fin 10) (n : Fin 4) (skew : BitVec 8) (set : BitVec 24) (own : BitVec 8) (s : State) :
    Host.Outcome State Fault Refusal := s.runPins (portDomain p) (alignmentSetRx p n skew.toNat set.toNat own.toNat)

/-- A comma block on a lane in an FEC mode: its 120 bits, and the BIP-8 that the receiver formed (R53 to R56, R75). -/
def commaBlockRx (p n skew blk own : Nat) (d : Dev) : Dev :=
  let errs := ones 64 (bitsOf blk 56 64 ^^^ commaPattern)
  let crc := crc16 blk == bitsOf blk 0 16
  let mark := fun (d : Dev) => d.marker p n 2 (bitsOf blk 54 2) skew (ones 8 (bitsOf blk 40 8 ^^^ own)) (bitsOf blk 52 2)
    (bitsOf blk 48 4) (bitsOf blk 16 16)
  if d.laneRuns p n false then
    if d.flag (TRK_LnSTAT_ALIGNED p n) then
      (if 8 < errs then d.markerMissing p n 3
       else if crc then mark d
       else d.modSeq p (fun y => { y with lanes := y.lanes.set n { y.lanes.get n LaneSt.reset with missed := 0 } LaneSt.reset }))
    else if errs = 0 && crc then mark d
    else d.markerMissing p n 3
  else d

def execCommaBlockRx (p : Fin 10) (n : Fin 4) (skew : BitVec 8) (blk : BitVec 120) (own : BitVec 8) (s : State) :
    Host.Outcome State Fault Refusal := s.runPins (portDomain p) (commaBlockRx p n skew.toNat blk.toNat own.toNat)

/-- An alignment set or comma block missing from its position (R52, R55). -/
def alignMarkerMissing (p n : Nat) (d : Dev) : Dev :=
  if d.laneRuns p n true then d.markerMissing p n 2 else if d.laneRuns p n false then d.markerMissing p n 3 else d

def execAlignMarkerMissing (p : Fin 10) (n : Fin 4) (s : State) : Host.Outcome State Fault Refusal :=
  s.runOn (portDomain p) (alignMarkerMissing p n)

/-- Invalid code groups, or 16 uncorrectable codewords in a row, end a lane's alignment (R52, R55, R75). -/
def codeErrorThreshold (p n : Nat) (d : Dev) : Dev :=
  if d.laneRuns p n false then (d.incBy (TRK_LnFECU_COUNT p n) 16).laneLost p n
  else if d.laneRuns p n true then d.laneLost p n else d

def execCodeErrorThreshold (p : Fin 10) (n : Fin 4) (s : State) : Host.Outcome State Fault Refusal :=
  s.runOn (portDomain p) (codeErrorThreshold p n)

/-- Loss of signal for 1 µs on a lane (R52, R55). -/
def losTimeout (p n : Nat) (d : Dev) : Dev :=
  ((d.set (TRK_LnSTAT_SIGNAL p n) 0).set (TRK_LnSTAT_ADAPTED p n) 0).laneLost p n

def execLosTimeout (p : Fin 10) (n : Fin 4) (s : State) : Host.Outcome State Fault Refusal :=
  s.runOn (portDomain p) (fun d => if n.val < laneCount p then losTimeout p n d else d)

/-! ### Control of a sequencer -/

/-- EN written 1 (R61). A spur keeps its trunk ports OFF (R22, R133); a port whose link has failed enters PLAN_TX at the end of its
5 µs of electrical idle (R103). -/
def seqEnable (p : Nat) (d : Dev) : Dev :=
  if d.get STN_ID_ROLE = 1 then d
  else
    let d := d.set (TRK_CTL_EN p) 1
    if d.seqState p = 0 ∧ d.linkState p ≠ 5 then d.planTx p else d

def execSeqEnable (p : Fin 2) (s : State) : Host.Outcome State Fault Refusal := s.runOn (portDomain p) (seqEnable p)

/-- EN written 0 (R61, R102). -/
def seqDisable (p : Nat) (d : Dev) : Dev := (d.set (TRK_CTL_EN p) 0).seqOff p

def execSeqDisable (p : Fin 2) (s : State) : Host.Outcome State Fault Refusal := s.runOn (portDomain p) (seqDisable p)

/-- RETRAIN written 1: it stays set until PLAN_TX is entered (R61, R71). -/
def trkRetrain (p : Nat) (d : Dev) : Dev :=
  let d := d.set (TRK_CTL_RETRAIN p) 1
  if d.seqState p = 0 then d else d.relock p

def execTrkRetrain (p : Fin 2) (s : State) : Host.Outcome State Fault Refusal := s.runOn (portDomain p) (trkRetrain p)

/-- The ladder is entered at L25×1 or L10×1 (R60, R61). -/
def Dev.ladder (d : Dev) (p : Nat) (l25 : Bool) : Dev := if l25 then d.retarget p 2 4 else d.retarget p 3 0

/-- 4 ms in PLAN_TX (R61). -/
def planTxTimeout (p : Nat) (d : Dev) : Dev :=
  if d.seqState p = 1 then (d.raise (TRK_EVT_FALLBACK p)).ladder p ((d.seq p).allow.testBit 3) else d

def execPlanTxTimeout (p : Fin 2) (s : State) : Host.Outcome State Fault Refusal := s.runOn (portDomain p) (planTxTimeout p)

def ladderL25Timeout (p : Nat) (d : Dev) : Dev := if d.seqState p = 2 then d.ladder p false else d

def execLadderL25Timeout (p : Fin 2) (s : State) : Host.Outcome State Fault Refusal := s.runOn (portDomain p) (ladderL25Timeout p)

def ladderL10Timeout (p : Nat) (d : Dev) : Dev := if d.seqState p = 3 then d.planTx p else d

def execLadderL10Timeout (p : Fin 2) (s : State) : Host.Outcome State Fault Refusal := s.runOn (portDomain p) (ladderL10Timeout p)

/-- The CAP timer expires (R61, R429). -/
def capTimeout (p : Nat) (d : Dev) : Dev := if d.seqState p = 4 then (d.lockLost p).restart p else d

def execCapTimeout (p : Fin 10) (s : State) : Host.Outcome State Fault Refusal := s.runOn (portDomain p) (capTimeout p)

/-- 4 ms in RETRAIN (R61). -/
def retrainTimeout (p : Nat) (d : Dev) : Dev :=
  if d.seqState p = 6 then
    (((d.raise (TRK_EVT_RETRAIN_FAIL p)).downgrade p).modSeq p (fun x => { x with used := true })).ladder p false
  else d

def execRetrainTimeout (p : Fin 2) (s : State) : Host.Outcome State Fault Refusal := s.runOn (portDomain p) (retrainTimeout p)

/-! ### CAP and the blotter test -/

/-- The port code of CAP (R94). -/
def capPort (p : Nat) : Nat := if p < 2 then p else 2

/-- A CAP block of this hub with a subtype (R94). -/
def Dev.ownCap (d : Dev) (p subtype : Nat) : Cap :=
  let x := d.seq p
  { subtype := subtype, unitId := d.uid, stnValid := d.flag STN_ID_VALID, station := d.get STN_ID_NUM, plan := x.pmode
    allow := x.allow, medium := x.medium, byp := x.byp, ring := d.ring p, segLen := x.len, cur := d.cmode p, port := capPort p
    reqSer := 0, lanes := x.own.getD [], rev := Config.siliconRev.toNat }

/-- A CAP block waits to be sent on a port (R93). -/
def Dev.sendCap (d : Dev) (p : Nat) (c : Cap) : Dev := d.modLnk p (fun l => { l with caps := l.caps ++ [c] })

/-- 10 µs pass in CAP (R96). -/
def capSendTimer (p : Nat) (d : Dev) : Dev := if d.seqState p = 4 then d.sendCap p (d.ownCap p 0) else d

def execCapSendTimer (p : Fin 10) (s : State) : Host.Outcome State Fault Refusal := s.runOn (portDomain p) (capSendTimer p)

/-- Whether a partner's CAP differs from the own latched plan (R73). -/
def Dev.planDiffers (d : Dev) (p : Nat) (c : Cap) : Bool :=
  let x := d.seq p
  c.plan != x.pmode || c.allow != x.allow || c.medium != x.medium || c.byp != x.byp || c.ring != d.ring p || c.segLen != x.len

/-- The best common mode with a partner (R59, R65, R428). -/
def Dev.bestCommon (d : Dev) (p : Nat) (c : Cap) : Nat :=
  let x := d.seq p
  if p < 2 then
    let n := x.passed.getD 4
    bestMode (cutLanes x.allow n &&& cutLanes c.allow n)
  else bestMode (d.get (TCL_CFG_ALLOW (p - 2)))

/-- BLOTTER entered: the lanes carry PRBS31, and no CAP block waits any more (R60, R64). -/
def Dev.blotter (d : Dev) (p : Nat) : Dev :=
  ((d.modSeq p (fun x => { x with own := none, theirs := none, told := false })).modLnk p (fun l => { l with caps := [] })).setSeqState p 5

/-- The partner that the last CAP block of bring-up names (R115, R116). -/
def Dev.seqMeet (p : Nat) (c : Cap) (d : Dev) : Dev :=
  if d.seqState p = 4 ∨ d.seqState p = 5 then d.modSeq p (fun x => { x with partner := some c, selfLoop := c.unitId == d.uid }) else d

/-- A partner CAP block of SUBTYPE CAP while the sequencer is in CAP (R61, R73, R115, R429). -/
def Dev.seqCapRx (p : Nat) (c : Cap) (d : Dev) : Dev :=
  if d.seqState p = 4 then
    let d := if c.unitId = d.uid then d.raise STN_EVT_SELF_LOOP else d
    let d := if p < 2 && !(d.seq p).mismatch && d.planDiffers p c then
        (d.raise (TRK_EVT_PLAN_MISMATCH p)).modSeq p (fun x => { x with mismatch := true }) else d
    if c.cur ≠ d.cmode p then d
    else
      let best := d.bestCommon p c
      if 2 ≤ p ∨ best = d.cmode p then d.blotter p
      else if (d.seq p).used then (d.downgrade p).blotter p
      else d.retarget p 6 best
  else d

/-- The threshold of a port's mode (R64, R74, R434). -/
def Dev.blotThr (d : Dev) (p m : Nat) : Nat :=
  if 2 ≤ p then (if m / 4 = 0 then d.get (TCL_BLOT_THR_L10_THR (p - 2)) else d.get (TCL_BLOT_THR_L25_THR (p - 2)))
  else if m / 4 = 0 then d.get (TRK_BLOT_THR_L10_THR p) else if m / 4 = 1 then d.get (TRK_BLOT_THR_L25_THR p)
  else if m / 4 = 2 then d.get (TRK_BLOT_THR_L53_THR p) else d.get (TRK_BLOT_THR_L106_THR p)

/-- The running lanes that pass at both ends: a lane's partner is the physical lane received on it (R64, R75). -/
def Dev.passing (d : Dev) (p : Nat) (own theirs : List (Bool × Nat)) : List Nat :=
  (d.runLanes p (d.cmode p)).filter (fun n =>
    (own.getD n (false, 0)).1 && (theirs.getD (d.get (TRK_LnSTAT_RX_PLANE p n)) (false, 0)).1)

/-- SERVICE entered (R61, R73, R101). -/
def Dev.service (p : Nat) (d : Dev) : Dev :=
  ((d.setSeqState p 7).raise (if p < 2 then TRK_EVT_SERVICE p else TCL_EVT_SERVICE (p - 2))).linkInit p

/-- The lanes that failed are left out until the next PLAN_TX; where none passes, all stay (R65). -/
def Dev.leaveOut (d : Dev) (p : Nat) (pass : List Nat) : Dev :=
  if pass = [] then d
  else
    let failed := (d.runLanes p (d.cmode p)).filter (fun n => !pass.contains n)
    d.modSeq p (fun x => { x with out := x.out ||| bitSet failed, passed := some (fillable pass.length) })

/-- The results of both ends judged on a trunk port (R61, R64, R65). -/
def Dev.judgeTrunk (d : Dev) (p : Nat) (pass : List Nat) : Dev :=
  let m := d.cmode p
  let x := d.seq p
  let theirs := match x.partner with
    | some c => c.allow
    | none => 1
  if pass.length = modeLanes m then d.service p
  else
    let fit := [4, 2, 1].find? (fun n => n ≤ pass.length && n < modeLanes m
      && inAllow (x.allow &&& theirs) (m / 4 * 4 + (if n = 4 then 2 else n - 1)))
    match x.used, fit with
    | false, some n => ((d.raise (TRK_EVT_LANE_DROPPED p)).leaveOut p pass).retarget p 6 (m / 4 * 4 + (if n = 4 then 2 else n - 1))
    | _, _ => ((d.raise (TRK_EVT_BLOT_FAIL p)).leaveOut p pass).ladder p false

/-- The results of both ends judged on a lane group (R429). -/
def Dev.judgeGroup (d : Dev) (p : Nat) (pass : List Nat) : Dev :=
  let m := d.cmode p
  let allow := d.get (TCL_CFG_ALLOW (p - 2))
  if pass.length = modeLanes m then
    let d := d.modSeq p (fun x => { x with passed := some m })
    if m = bestMode allow ∨ d.flag (TCL_STAT_DOWNGRADED (p - 2)) then d.service p
    else d.retarget p 6 (if m < 4 ∧ allow.testBit 3 then 4 else 5)
  else match (d.seq p).passed with
    | some t => (d.downgrade p).retarget p 6 t
    | none => (d.inc (TCL_STARTFAIL_COUNT (p - 2))).tclStart p

/-- Both results are in, and the own one has left on the lanes, with the pair that carries it (R50, R61, R64, R429). -/
def Dev.blotJudge (p : Nat) (d : Dev) : Dev :=
  match (d.seq p).own, (d.seq p).theirs, (d.seq p).told && ((d.seq p).phy.half.getD []).isEmpty with
  | some a, some b, true => let pass := d.passing p a b; if p < 2 then d.judgeTrunk p pass else d.judgeGroup p pass
  | _, _, _ => d

/-- The blotter window ends: the bits received on each physical lane go through its checker, and the own result waits to be sent
(R64, R75, R96). -/
def blotWindowEnd (p : Nat) (bits : List (List Bool)) (d : Dev) : Dev :=
  if d.seqState p = 5 then
    let m := d.cmode p
    let run := d.runLanes p m
    let errs := fun n => checkPrbs (bits.getD n [])
    let d := forAll run (fun n d => d.set (TRK_LnBERR_COUNT p n) (min (errs n) (2 ^ 32 - 1))) d
    let res := (List.range 4).map (fun n =>
      (run.contains n && errs n ≤ d.blotThr p m && !((d.seq p).lanes.get n LaneSt.reset).skewBad, min (errs n) (2 ^ 31 - 1)))
    let d := d.modSeq p (fun x => { x with own := some res })
    d.sendCap p (d.ownCap p 1)
  else d

def execBlotWindowEnd (p : Fin 10) (bits : List (List Bool)) (s : State) : Host.Outcome State Fault Refusal :=
  s.runOn (portDomain p) (blotWindowEnd p bits)

/-- 10 µs pass, and BLOT_RESULT is repeated (R96). -/
def blotResultRepeat (p : Nat) (d : Dev) : Dev :=
  if d.seqState p = 5 ∧ (d.seq p).own.isSome then d.sendCap p (d.ownCap p 1) else d

def execBlotResultRepeat (p : Fin 10) (s : State) : Host.Outcome State Fault Refusal := s.runOn (portDomain p) (blotResultRepeat p)

/-- The partner's BLOT_RESULT arrives (R61, R64). -/
def Dev.blotResultRx (p : Nat) (lanes : List (Bool × Nat)) (d : Dev) : Dev :=
  if d.seqState p = 5 then (d.modSeq p (fun x => { x with theirs := some lanes })).blotJudge p else d

/-- No BLOT_RESULT 100 µs after the window: every lane counts as failed at the partner (R61). -/
def blotResultTimeout (p : Nat) (d : Dev) : Dev :=
  if d.seqState p = 5 ∧ (d.seq p).own.isSome ∧ (d.seq p).theirs.isNone then
    if p < 2 then (d.raise (TRK_EVT_BLOT_FAIL p)).ladder p false else d.judgeGroup p []
  else d

def execBlotResultTimeout (p : Fin 10) (s : State) : Host.Outcome State Fault Refusal := s.runOn (portDomain p) (blotResultTimeout p)

/-! ### Lane groups -/

/-- 100 ms in START (R429). -/
def tclStartTimeout (p : Nat) (d : Dev) : Dev :=
  if d.seqState p = 1 then ((d.inc (TCL_STARTFAIL_COUNT (p - 2))).lockLost p).tclStart p else d

def execTclStartTimeout (n : Fin 8) (s : State) : Host.Outcome State Fault Refusal := s.runOn (portDomain (2 + n)) (tclStartTimeout (2 + n))

/-- 4 ms in STEP (R429). -/
def tclStepTimeout (p : Nat) (d : Dev) : Dev :=
  if d.seqState p = 6 then
    let x := d.seq p
    let d := d.downgrade p
    match x.passed with
    | some m => if x.target = m then d.tclStart p else d.retarget p 6 m
    | none => d.tclStart p
  else d

def execTclStepTimeout (n : Fin 8) (s : State) : Host.Outcome State Fault Refusal := s.runOn (portDomain (2 + n)) (tclStepTimeout (2 + n))

/-- DOWNGRADED cleared and the lane group restarted: RESTEP written 1, or a mode request accepted (R429). -/
def Dev.restep (p : Nat) (d : Dev) : Dev := if d.seqState p = 0 then d else (d.set (TCL_STAT_DOWNGRADED (p - 2)) 0).relock p

/-- RESTEP written 1: it stays set until START is entered (R429, R434). -/
def tclRestep (p : Nat) (d : Dev) : Dev := (d.set (TCL_CTL_RESTEP (p - 2)) 1).restep p

def execTclRestep (n : Fin 8) (s : State) : Host.Outcome State Fault Refusal := s.runOn (portDomain (2 + n)) (tclRestep (2 + n))

/-- EN written 0 (R429). -/
def tclDisable (p : Nat) (d : Dev) : Dev := (d.set (TCL_CTL_EN (p - 2)) 0).seqOff p

def execTclDisable (n : Fin 8) (s : State) : Host.Outcome State Fault Refusal := s.runOn (portDomain (2 + n)) (tclDisable (2 + n))

/-! ### Bypass -/

/-- Whether the latched plan of a port lets the module go in line (R67). -/
def Dev.bypassFit (d : Dev) (p : Nat) : Bool := (d.seq p).byp && (d.seq p).allow % 64 != 0

/-- The level of TRK_BYP (R66): in line while PGOOD is high, PORST_N released, the bridge up and INLINE 1. -/
def Dev.bypSync (d : Dev) : Dev :=
  d.setB TRK_BYP_CTL_STATE (d.flag TRK_BYP_CTL_INLINE && d.flag HSW_STAT_PGOOD && !d.boot.porst && d.aon.bridgeUp)

/-- A write of INLINE (R66, R67). -/
def bypassInlineWrite (v : Bool) (d : Dev) : Dev :=
  if v && !(d.bypassFit 0 && d.bypassFit 1) then (d.raise (TRK_EVT_PLAN_MISMATCH 0)).raise (TRK_EVT_PLAN_MISMATCH 1)
  else (d.setB TRK_BYP_CTL_INLINE v).bypSync

def execBypassInlineWrite (v : Bool) (s : State) : Host.Outcome State Fault Refusal := s.run (bypassInlineWrite v)

end Sys2Proof.Machine
end

