-- ==== Sys2Proof/Machine/Feeds.lean ====
section
/-! DEFINITION. The feed controller (spec 16): feeds and their changes (R490, R491), seating (R492), starts (R493, R494), trips and
retries (R495 to R504), PGOOD (R498 to R500), measurement (R506). -/

namespace Sys2Proof.Machine

def Dev.modHsw (d : Dev) (f : HswPart → HswPart) : Dev := { d with hsw := f d.hsw }

/-- An event flag of the feed controller: bit `b` of `HSW_EVT`; an enabled flag that goes from 0 to 1 posts its record (R508,
R616). -/
def Dev.hswRaise (b : Nat) (d : Dev) : Dev :=
  d.setFlag ⟨HSW_EVT_FAST_TRIP.key + b, 1, 0⟩ ⟨HSW_EVT_EN_FAST_TRIP.key + b, 1, 0⟩
    (fun d => ⟨0x0100 + b, 0x1B, d.stamp, d.readReg HSW_STAT_A % 2 ^ 16 + d.get HSW_I_MA * 2 ^ 32⟩) Dev.postAon

/-- The state of the controller (R505): 0 OFF, 1 UNSEATED, 2 DEBOUNCE, 3 SELECT, 4 RAMP, 5 ON, 6 SWITCH, 7 RETRY_WAIT, 8 LATCHED,
9 LOCKOUT. -/
def Dev.hswState (d : Dev) : Nat := d.get HSW_STAT_STATE

def Dev.feedValid (d : Dev) (x : Nat) : Bool := d.flag (if x = 0 then HSW_STAT_A_VALID else HSW_STAT_B_VALID)
def feedLock (x : Nat) : Fld := if x = 0 then HSW_STAT_LOCK_A else HSW_STAT_LOCK_B
def Dev.setValid (x : Nat) (b : Bool) (d : Dev) : Dev := d.setB (if x = 0 then HSW_STAT_A_VALID else HSW_STAT_B_VALID) b
def Dev.feedUv (d : Dev) (x : Nat) : Nat := d.get (if x = 0 then HSW_UVOV_A_UV else HSW_UVOV_B_UV)
def Dev.feedOvLimit (d : Dev) (x : Nat) : Nat := d.get (if x = 0 then HSW_UVOV_A_OV else HSW_UVOV_B_OV)

/-- The selected feed. -/
def Dev.feed (d : Dev) : Nat := d.get HSW_STAT_FEED

/-- The latest sample of VOUT, in 20 mV. -/
def Dev.voutNow (d : Dev) : Nat := match d.hsw.samples with
  | (_, _, v, _) :: _ => v
  | [] => 0

/-- The latest sample of the selected feed's input, in 20 mV. -/
def Dev.vinNow (d : Dev) : Nat := match d.hsw.samples with
  | (a, b, _, _) :: _ => if d.feed = 0 then a else b
  | [] => 0

/-- Something the present tick has brought (R507). -/
def Dev.meet (f : HswMeet → HswMeet) (d : Dev) : Dev := d.modHsw (fun h => { h with meets := f h.meets })

/-- RAMP or ON. -/
def Dev.driving (d : Dev) : Bool := d.hswState == 4 || d.hswState == 5

/-! ### Thresholds -/

/-- Sense, in 25 µV, above the fast threshold: a FAST below 1.25 × SLOW acts as 1.25 × SLOW (R495, R496). -/
def Dev.aboveFast (d : Dev) (sense : Nat) : Bool := max (4 * d.get HSW_ILIM_FAST) (5 * d.get HSW_ILIM_SLOW) < sense

/-- Sense above the slow threshold, and below 90 % of it (R496). -/
def Dev.aboveSlow (d : Dev) (sense : Nat) : Bool := 4 * d.get HSW_ILIM_SLOW < sense
def Dev.belowSlow (d : Dev) (sense : Nat) : Bool := 10 * sense < 36 * d.get HSW_ILIM_SLOW

/-- The sense level, in 25 µV, to which the gate is regulated while the fault timer runs (R496). -/
def Dev.gateLimit (d : Dev) : Option Nat := if d.flag HSW_STAT_FT_RUN then some (4 * d.get HSW_ILIM_SLOW) else none

/-- The rate at which a start lets VOUT rise, in 0.1 V/ms; 0 acts as 1 (R493, R509). -/
def Dev.slew (d : Dev) : Nat := max 1 (d.get HSW_RAMP_SLEW)

/-- The µs since the attempt's gate drive, and since the fault timer started, `us` after the last ADC sample (R501). -/
def Dev.driveTime (d : Dev) (us : Nat) : Nat := 10 * d.hsw.driven + us - d.hsw.driveAt
def Dev.timerTime (d : Dev) (us : Nat) : Nat := 10 * d.hsw.timed + us - d.hsw.timedAt

/-- The attempt's gate drive starts (R493, R501). -/
def Dev.gateDrive (us : Nat) (d : Dev) : Dev :=
  d.modHsw (fun h => { h with ramped := false, gateOn := false, driven := 0, driveAt := us })

/-! ### PGOOD -/

/-- PGOOD rises at the end of a tick in which all its conditions hold (R498, R499); the start-up order then goes on (R578). -/
def Dev.pgoodRise (d : Dev) : Dev :=
  if d.hswState = 5 ∧ d.hsw.gateOn ∧ d.feedUv d.feed ≤ d.voutNow ∧ !d.flag HSW_STAT_FT_RUN ∧ !d.flag HSW_STAT_PGOOD then
    let d := ((d.set HSW_STAT_PGOOD 1).hswRaise 6).bypSync
    if d.boot.stage = 1 then ({ d with boot := { d.boot with stage := 2 } }).avsAsk (d.get PWR_AVS_CTL_TARGET) false else d
  else d

/-- PGOOD falls: PORST_N is driven low, and the module drops into bypass (R500, R578). -/
def Dev.pgoodFall (d : Dev) : Dev :=
  if d.flag HSW_STAT_PGOOD then
    let d := { d with boot := { d.boot with porst := true, stage := min 1 d.boot.stage } }
    ((d.set HSW_STAT_PGOOD 0).bypSync).hswRaise 7
  else d

/-! ### States -/

/-- Gates off, in a state. -/
def Dev.gatesOff (st : Nat) (d : Dev) : Dev :=
  ((d.modHsw (fun h => { h with keepUv := none })).set HSW_STAT_FT_RUN 0).set HSW_STAT_STATE st

/-- SELECT, or LOCKOUT where both feeds are locked out; UNSEATED where the module is not seated (R492, R505). -/
def Dev.enterSelect (d : Dev) : Dev :=
  if !(d.flag HSW_STAT_SEAT0 && d.flag HSW_STAT_SEAT1) then d.gatesOff 1
  else if d.flag HSW_STAT_LOCK_A && d.flag HSW_STAT_LOCK_B then d.gatesOff 9 else d.gatesOff 3

/-- A change of feed starts, break before make (R491). -/
def Dev.switchover (d : Dev) : Dev :=
  let old := d.feed
  let d := ((d.gatesOff 6).set HSW_STAT_FEED (1 - old)).modHsw (fun h => { h with keepUv := some (h.keepUv.getD old) })
  (d.inc HSW_SWITCHOVERS_COUNT).hswRaise 5

/-- The selected feed is no longer valid: the other one where it is, else SELECT (R491, R505). -/
def Dev.feedGone (d : Dev) : Dev :=
  if d.feedValid (1 - d.feed) then d.switchover else d.pgoodFall.enterSelect

/-- A feed, now at `v`, has stayed within UV and OV for 1 ms; one disabled or locked out is never valid (R490). -/
def feedValid (x v : Nat) (d : Dev) : Dev :=
  if d.flag (if x = 0 then HSW_CTL_A_EN else HSW_CTL_B_EN) && !d.flag (feedLock x) && decide (d.feedUv x ≤ v ∧ v ≤ d.feedOvLimit x) then
    d.setValid x true
  else d

def execFeedValid (x : Fin 2) (v : BitVec 12) (s : State) : Host.Outcome State Fault Refusal := s.run (feedValid x v.toNat)

/-- A feed has been at `v`, below UV − 0.5 V or above OV, for 10 µs (R490): it is no longer valid, and the end of the tick leaves it where
it is the selected one (R491, R507). -/
def feedInvalid (x v : Nat) (d : Dev) : Dev := if v + 25 < d.feedUv x ∨ d.feedOvLimit x < v then d.setValid x false else d

def execFeedInvalid (x : Fin 2) (v : BitVec 12) (s : State) : Host.Outcome State Fault Refusal := s.run (feedInvalid x v.toNat)

/-- The selected feed rises to `v`, above OV: the gate goes off at the end of the tick, and this is no trip (R497, R507). -/
def feedOv (v : Nat) (d : Dev) : Dev := if d.driving && decide (d.feedOvLimit d.feed < v) then d.meet (fun m => { m with high := true }) else d

def execFeedOv (v : BitVec 12) (s : State) : Host.Outcome State Fault Refusal := s.run (feedOv v.toNat)

/-- The preferred feed has been valid for 1 s while the other is selected (R491). -/
def feedRevertTimer (d : Dev) : Dev :=
  let p := d.get HSW_CTL_PREF_B
  if d.flag HSW_CTL_REVERT && d.feed != p && d.feedValid p && (d.hswState == 4 || d.hswState == 5) then d.switchover else d

def execFeedRevertTimer (s : State) : Host.Outcome State Fault Refusal := s.run feedRevertTimer

/-- The dead time is over: the new feed ramps from the present VOUT (R491, R493). -/
def switchDeadTimeEnd (us : Nat) (d : Dev) : Dev :=
  if d.hswState = 6 then
    let d := (d.set HSW_STAT_STATE 4).gateDrive us
    if d.feedValid d.feed then d else d.feedGone
  else d

def execSwitchDeadTimeEnd (us : Fin 10) (s : State) : Host.Outcome State Fault Refusal := s.run (switchDeadTimeEnd us)

/-- Both seat pins assert (R492). -/
def seatAssert (d : Dev) : Dev :=
  let d := (d.set HSW_STAT_SEAT0 1).set HSW_STAT_SEAT1 1
  if d.hswState = 1 then d.set HSW_STAT_STATE 2 else d

def execSeatAssert (s : State) : Host.Outcome State Fault Refusal := s.run seatAssert

/-- 50 ms with both pins asserted: the module is seated (R492). -/
def seatDebounceDone (d : Dev) : Dev :=
  let d' := d.modHsw (fun h => { h with loose := false })
  if d.hswState = 2 then d'.enterSelect
  else if d.hswState = 8 ∧ d.flag HSW_STAT_SEAT0 ∧ d.flag HSW_STAT_SEAT1 then d'
  else d

def execSeatDebounceDone (s : State) : Host.Outcome State Fault Refusal := s.run seatDebounceDone

/-- A seat pin has been deasserted for 10 µs (R492): where both were asserted, seating is lost, counted and raised in every state. The
history stays, and the start after a re-seat counts as a retry (R502, R503); it is none where the 50 ms had not passed. OFF and LATCHED
stay (R505); what meets the loss in this tick is R507's. -/
def seatLost (pin : Nat) (d : Dev) : Dev :=
  let had := d.flag HSW_STAT_SEAT0 && d.flag HSW_STAT_SEAT1
  let d := d.set (if pin = 0 then HSW_STAT_SEAT0 else HSW_STAT_SEAT1) 0
  if !had then d
  else
    let st := d.hswState
    let ft := d.flag HSW_STAT_FT_RUN
    let d := if st = 0 ∨ st = 1 then d
      else if st = 8 then d.modHsw (fun h => { h with loose := true })
      else (d.pgoodFall.gatesOff 1).meet (fun m => { m with lost := some (st, ft), ended := false })
    let d := d.modHsw (fun h => { h with owed := h.owed || decide (st ≠ 2) })
    (d.inc HSW_SEATLOSS_COUNT).hswRaise 8

def execSeatLost (pin : Fin 2) (s : State) : Host.Outcome State Fault Refusal := s.run (seatLost pin)

/-- A retry counted (R501). -/
def Dev.countRetry (d : Dev) : Dev :=
  let d := d.incSatBy HSW_HIST_RETRIES 1
  (d.inc HSW_RETRIES_COUNT).hswRaise 2

/-- In SELECT with a valid feed and the earliest restart passed, the gate is driven: the preferred feed where it is valid (R491,
R503, R505). -/
def selectStart (us : Nat) (d : Dev) : Dev :=
  let p := d.get HSW_CTL_PREF_B
  let x := if d.feedValid p then p else 1 - p
  if d.hswState = 3 ∧ d.hsw.offLeft = 0 ∧ d.feedValid x then
    let d := ((d.gatesOff 4).set HSW_STAT_FEED x).gateDrive us
    if d.hsw.owed then (d.modHsw (fun h => { h with owed := false })).countRetry else d
  else d

def execSelectStart (us : Fin 10) (s : State) : Host.Outcome State Fault Refusal := s.run (selectStart us)

/-- RAMP is over once the ramp is complete and the gate on (R505). -/
def Dev.enterOn (d : Dev) : Dev :=
  if d.hswState = 4 ∧ d.hsw.ramped ∧ d.hsw.gateOn then
    (d.set HSW_STAT_STATE 5).modHsw (fun h => { h with keepUv := none })
  else d

/-- VOUT comes within 1.0 V of the feed input (R493). -/
def rampComplete (vin vout : Nat) (d : Dev) : Dev :=
  if d.hswState = 4 ∧ vin ≤ vout + 50 then (d.modHsw (fun h => { h with ramped := true })).enterOn else d

def execRampComplete (vin vout : BitVec 12) (s : State) : Host.Outcome State Fault Refusal := s.run (rampComplete vin.toNat vout.toNat)

def execGateOn (s : State) : Host.Outcome State Fault Refusal :=
  s.run (fun d => if d.hswState = 4 then (d.modHsw (fun h => { h with gateOn := true })).enterOn else d)

/-- The gate has not reached its on-threshold within 5 ms of the ramp (R494); a loss of seating in the same tick stands before it
(R507). -/
def gateRiseTimeout (d : Dev) : Dev := if d.hswState = 4 ∧ d.hsw.ramped ∧ !d.hsw.gateOn then d.meet (fun m => { m with rise := true }) else d

/-- The feed is locked out, and the other is selected where it is valid (R494). -/
def Dev.lockOut (d : Dev) : Dev :=
  if d.hswState = 4 ∧ d.hsw.ramped ∧ !d.hsw.gateOn then
    let x := d.feed
    let d := ((d.set (feedLock x) 1).setValid x false).hswRaise 4
    let d := d.pgoodFall.enterSelect
    if d.feedValid (1 - x) then ((d.set HSW_STAT_FEED (1 - x)).inc HSW_SWITCHOVERS_COUNT).hswRaise 5 else d
  else d

def execGateRiseTimeout (s : State) : Host.Outcome State Fault Refusal := s.run gateRiseTimeout

/-! ### Trips -/

/-- The shown wait until the earliest restart, in ms (R510). -/
def Dev.showWait (d : Dev) : Dev := d.set HSW_HIST_WAIT (min 0xFFFF ((d.hsw.offLeft + 99) / 100))

/-- The history clears (R502). -/
def Dev.clearHistory (d : Dev) : Dev :=
  (((d.set HSW_HIST_TRIPS 0).set HSW_HIST_RETRIES 0).set HSW_HIST_WAIT 0).modHsw (fun h => { h with offLeft := 0, owed := false })

/-- CLR_LATCH (R504); where seating was lost in LATCHED, a new 50 ms count comes first (R492). -/
def Dev.leaveLatched (d : Dev) : Dev :=
  if d.hswState ≠ 8 then d
  else if d.hsw.loose ∧ d.flag HSW_STAT_SEAT0 ∧ d.flag HSW_STAT_SEAT1 then d.gatesOff 2
  else d.enterSelect

/-- The state in which a trip of this tick finds the controller, and whether it finds the fault timer running: a loss of seating of the
same tick takes nothing from it (R507). -/
def Dev.tripState (d : Dev) : Nat := (d.hsw.meets.lost.map (·.1)).getD d.hswState
def Dev.tripTimer (d : Dev) : Bool := (d.hsw.meets.lost.map (·.2)).getD (d.flag HSW_STAT_FT_RUN)
def Dev.canTrip (d : Dev) : Bool := d.tripState == 4 || d.tripState == 5

/-- A fast trip is counted at once, a slow one at the end of its tick, since a fast one may still join it (R507). -/
def Dev.countFast (d : Dev) : Dev := ((d.meet (fun m => { m with slow := false })).inc HSW_FAST_TRIPS_COUNT).hswRaise 0
def Dev.countSlow (d : Dev) : Dev := ((d.meet (fun m => { m with slow := false })).inc HSW_SLOW_TRIPS_COUNT).hswRaise 1

/-- Where a trip leads: RETRY_WAIT, or LATCHED with no retry left (R501); UNSEATED with the retry timer cancelled where the same tick
lost the seating (R507). -/
def Dev.tripEnd (d : Dev) : Dev :=
  let lost := d.hsw.meets.lost.isSome
  if d.get HSW_RETRY_COUNT = 255 ∨ d.get HSW_HIST_RETRIES < d.get HSW_RETRY_COUNT then d.gatesOff (if lost then 1 else 7)
  else ((d.gatesOff 8).modHsw (fun h => { h with loose := h.loose || lost })).hswRaise 3

/-- A trip after an on time in µs: the gate stays off for 100 times that, or RETRY_MIN (R501). A CLR_HIST or CLR_LATCH of the same tick
acts on what it leaves (R507). -/
def Dev.trip (fast : Bool) (us : Nat) (d : Dev) : Dev :=
  let d := d.pgoodFall.incSatBy HSW_HIST_TRIPS 1
  let d := if fast then d.countFast else d.meet (fun m => { m with slow := true })
  let d := d.modHsw (fun h => { h with offLeft := max (10 * us) (1000 * d.get HSW_TIMER_RETRY_MIN), owed := h.meets.lost.isSome })
  let d := d.showWait.tripEnd.meet (fun m => { m with lost := m.lost.map (fun _ => (1, false)) })
  let d := if d.hsw.meets.cleared then d.clearHistory else d
  if d.hsw.meets.unlatched then d.leaveLatched else d

/-- Sense rises above FAST, `us` after the last ADC sample (R495). In ON with its fault timer running the on time runs from the timer's
start, else from the attempt's gate drive (R501). It joins a slow trip of the same tick: one trip, counted as fast (R507). -/
def fastTrip (sense us : Nat) (d : Dev) : Dev :=
  if !d.aboveFast sense then d
  else if d.canTrip then d.trip true (if d.tripState = 5 ∧ d.tripTimer then d.timerTime us else d.driveTime us)
  else if d.hsw.meets.slow then d.countFast
  else d

def execFastTrip (sense : BitVec 13) (us : Fin 10) (s : State) : Host.Outcome State Fault Refusal := s.run (fastTrip sense.toNat us)

/-- A ramp has passed its limit of 2 × VIN / SLEW + 5 ms: a slow trip (R493). -/
def Dev.rampLimitPassed (d : Dev) (us : Nat) : Bool := decide (400 * d.vinNow + 5000 * d.slew ≤ d.slew * d.driveTime us)

def rampTimeout (us : Nat) (d : Dev) : Dev :=
  if d.tripState = 4 ∧ !d.hsw.ramped ∧ d.rampLimitPassed us then d.trip false (d.driveTime us) else d

def execRampTimeout (us : Fin 10) (s : State) : Host.Outcome State Fault Refusal := s.run (rampTimeout us)

/-- Sense rises above SLOW, `us` after the last ADC sample: the fault timer starts with the FAULT_TO of now (R496, R509). -/
def faultTimerStart (sense us : Nat) (d : Dev) : Dev :=
  if d.driving && !d.flag HSW_STAT_FT_RUN && d.aboveSlow sense then
    (d.set HSW_STAT_FT_RUN 1).modHsw (fun h =>
      { h with faultTo := max 1 (min 500 (d.get HSW_TIMER_FAULT_TO)), timed := 0, timedAt := us })
  else d

def execFaultTimerStart (sense : BitVec 12) (us : Fin 10) (s : State) : Host.Outcome State Fault Refusal :=
  s.run (faultTimerStart sense.toNat us)

/-- Sense has been below 90 % of SLOW for 100 µs: the fault timer stops and resets at the end of the tick, unless it expires in it
(R496, R507). -/
def faultTimerReset (sense : Nat) (d : Dev) : Dev :=
  if d.flag HSW_STAT_FT_RUN && d.belowSlow sense then d.meet (fun m => { m with calm := true }) else d

def execFaultTimerReset (sense : BitVec 12) (s : State) : Host.Outcome State Fault Refusal := s.run (faultTimerReset sense.toNat)

/-- The fault timer reaches FAULT_TO (R496); during a ramp the on time runs from the attempt's gate drive (R501). -/
def slowTrip (us : Nat) (d : Dev) : Dev :=
  if d.tripTimer && d.canTrip then
    d.trip false (max (100 * d.hsw.faultTo) (if d.tripState = 4 then d.driveTime us else 0))
  else d

def execSlowTrip (us : Fin 10) (s : State) : Host.Outcome State Fault Refusal := s.run (slowTrip us)

/-- The off time ends (R501); the end of the tick counts the retry of RETRY_WAIT, unless seating is lost in it (R505, R507). -/
def retryWaitEnd (d : Dev) : Dev :=
  let d := (d.modHsw (fun h => { h with offLeft := 0 })).showWait
  if d.hswState = 7 then d.meet (fun m => { m with ended := true }) else d

def execRetryWaitEnd (s : State) : Host.Outcome State Fault Refusal := s.run retryWaitEnd

/-- The number of the present evaluation tick: 62.5 ns each, by the 2 ns that have passed. -/
def Dev.tickNow (d : Dev) : Nat := d.power.osc * 4 / 125

/-- The end of an evaluation tick (R507): what it brought and nothing of a higher rank has displaced takes effect, and PGOOD rises where
its conditions hold (R498, R499). -/
def Dev.hswTick (d : Dev) : Dev :=
  let m := d.hsw.meets
  let d := if m.calm then d.set HSW_STAT_FT_RUN 0 else d
  let d := if m.high && d.driving then (d.pgoodFall.enterSelect).hswRaise 9 else d
  let d := if m.rise then d.lockOut else d
  let d := if d.driving && !d.feedValid d.feed then d.feedGone else d
  let d := if m.ended && d.hswState == 7 then d.countRetry.enterSelect else d
  let d := if m.slow then d.countSlow else d
  (d.meet (fun _ => { HswMeet.none with tick := d.tickNow })).pgoodRise

/-- The tick ends where time has reached another one. -/
def Dev.hswTicks (d : Dev) : Dev := if d.tickNow = d.hsw.meets.tick then d else d.hswTick

/-- PGOOD high for 60 s with no fault-timer start (R502). -/
def historyClearTimer (d : Dev) : Dev :=
  if d.flag HSW_STAT_PGOOD ∧ !d.flag HSW_STAT_FT_RUN then d.clearHistory.hswRaise 10 else d

def execHistoryClearTimer (s : State) : Host.Outcome State Fault Refusal := s.run historyClearTimer

/-! ### Commands -/

/-- EN written 1 (R505): with both seat pins asserted already the 50 ms count starts at once. -/
def hswEnable (d : Dev) : Dev :=
  let d := d.set HSW_CTL_EN 1
  if d.hswState = 0 then d.set HSW_STAT_STATE (if d.flag HSW_STAT_SEAT0 && d.flag HSW_STAT_SEAT1 then 2 else 1) else d

def execHswEnable (s : State) : Host.Outcome State Fault Refusal := s.run hswEnable

def hswDisable (d : Dev) : Dev := (d.set HSW_CTL_EN 0).pgoodFall.gatesOff 0

def execHswDisable (s : State) : Host.Outcome State Fault Refusal := s.run hswDisable

/-- CLR_LATCH (R504); a trip of the same tick comes before it (R507). -/
def hswClrLatch (d : Dev) : Dev := d.leaveLatched.meet (fun m => { m with unlatched := true })

def execHswClrLatch (s : State) : Host.Outcome State Fault Refusal := s.run hswClrLatch

/-- CLR_LOCK of a feed (R494, R505). -/
def hswClrLock (x : Nat) (d : Dev) : Dev :=
  let d := d.set (feedLock x) 0
  if d.hswState = 9 then d.enterSelect else d

def execHswClrLockA (s : State) : Host.Outcome State Fault Refusal := s.run (hswClrLock 0)
def execHswClrLockB (s : State) : Host.Outcome State Fault Refusal := s.run (hswClrLock 1)

/-- CLR_HIST (R502); a trip of the same tick comes before it (R507). -/
def hswClrHist (d : Dev) : Dev := d.clearHistory.meet (fun m => { m with cleared := true })
def execHswClrHist (s : State) : Host.Outcome State Fault Refusal := s.run hswClrHist

def hswClrEnergy (d : Dev) : Dev := d.modHsw (fun h => { h with energy := 0, frac := 0 })
def execHswClrEnergy (s : State) : Host.Outcome State Fault Refusal := s.run hswClrEnergy

/-- SNAP (R506). -/
def hswSnap (d : Dev) : Dev := (d.set HSW_E_LO_UJ d.hsw.energy).set HSW_E_HI_UJ (d.hsw.energy / 2 ^ 32)
def execHswSnap (s : State) : Host.Outcome State Fault Refusal := s.run hswSnap

/-! ### Measurement -/

/-- A sense sample as current in mA (R506, R509). -/
def Dev.senseMa (d : Dev) (sense : Nat) : Nat := if d.get HSW_RSENSE_UOHM = 0 then 0 else sense * 25000 / d.get HSW_RSENSE_UOHM

/-- The mean of the last 1 ms. -/
def meanOf (l : List Nat) : Nat := l.foldl (· + ·) 0 / max 1 l.length

/-- A 10 µs sample (R500, R506): feed A, feed B and VOUT in 20 mV, sense in 25 µV. It is also the tick of the off time. -/
def hswAdcSample (va vb vout sense : Nat) (d : Dev) : Dev :=
  let l := ((va, vb, vout, sense) :: d.hsw.samples).take 100
  let u := d.get HSW_RSENSE_UOHM
  let add : Rat := d.hsw.frac + (if u = 0 then 0 else ((vout * sense * 5 : Nat) : Rat) / ((u : Nat) : Rat))
  let whole := add.floor.toNat
  let d := d.modHsw (fun h =>
    { h with samples := l, energy := (h.energy + whole) % 2 ^ 64, frac := add - ((whole : Nat) : Rat), offLeft := h.offLeft - 1
             driven := if d.driving then h.driven + 1 else h.driven, timed := if d.flag HSW_STAT_FT_RUN then h.timed + 1 else h.timed })
  let d := d.showWait
  let d := ((d.set HSW_VA_V (meanOf (l.map (·.1)))).set HSW_VB_V (meanOf (l.map (·.2.1)))).set HSW_VOUT_V (meanOf (l.map (·.2.2.1)))
  let ma := l.map (fun x => d.senseMa x.2.2.2)
  let d := (d.set HSW_I_MA (min 0xFFFF (meanOf ma))).set HSW_I_PEAK (max (d.get HSW_I_PEAK) (min 0xFFFF (d.senseMa sense)))
  let d := d.set HSW_P_MW (meanOf (l.map (fun x => x.2.2.1 * 20 * d.senseMa x.2.2.2 / 1000)))
  if vout < d.feedUv (d.hsw.keepUv.getD d.feed) then d.pgoodFall else d

def execHswAdcSample (va vb vout sense : BitVec 12) (s : State) : Host.Outcome State Fault Refusal :=
  s.run (hswAdcSample va.toNat vb.toNat vout.toNat sense.toNat)

/-- A read of `HSW_I` clears PEAK (R510). -/
def hswIRead (d : Dev) : Dev := d.set HSW_I_PEAK 0
def execHswIRead (s : State) : Host.Outcome State Fault Refusal := s.run hswIRead

/-! ### Register reads -/

/-- A count of what no command of the table brings, found as it stands when it is read: a free number more than at the last read (log
100). -/
def Dev.countUp (f : Fld) (d : Dev) : Dev :=
  let (k, d) := d.fresh
  d.set f (d.get f + Sys2Proof.Config.randomNat k)

/-- The counters of events that no command brings, brought up to the present before a read: the errors of a drive whose link is trained
(R395, R405), the transmissions a PD port retried (R433), parity errors (R561). `PDC_Pn_VBUS` shows what the ADC has measured by then
(R420), `DSO_Dn_COVER` the lines that are buffered by then (R453). -/
def Dev.countersNow (a : Nat) (d : Dev) : Dev :=
  match regAt a with
  | some (.STO_Sn_AER_CORR, n) => if d.get (STO_Sn_STAT_STATE n) = 0 then d else d.countUp (STO_Sn_AER_CORR_COUNT n)
  | some (.STO_Sn_AER_UNCORR, n) => if d.get (STO_Sn_STAT_STATE n) = 0 then d else d.countUp (STO_Sn_AER_UNCORR_COUNT n)
  | some (.PDC_Pn_RETRY, n) => if d.get (PDC_Pn_STAT_CONN n) = 0 then d else d.countUp (PDC_Pn_RETRY_COUNT n)
  | some (.PDC_Pn_VBUS, n) => d.measureVbus n
  | some (.DSO_Dn_COVER, n) => d.coverNow n
  | some (.REL_PARITY, _) => d.countUp REL_PARITY_COUNT
  | _ => d

/-- A register read over the bus by thread `t` (R7, R29, R40); a read of HSW_I starts a new peak (R506). -/
def Dev.busRead (t a : Nat) (d : Dev) : Nat × Dev :=
  if (findReg a).isNone then (0, d.busEvent 0x0001 a t)
  else if !d.domOn (powerDomain a) then (0, d.busEvent 0x0002 a t)
  else if d.bridgeCut a then (0, d)
  else
    let d := d.countersNow a
    (d.readReg a, if a = HSW_I_A then hswIRead d else d)

end Sys2Proof.Machine
end

