-- ==== Sys2Proof/Machine/Flash.lean ====
section
/-! DEFINITION. What the boot ROM and the Enique agent find in flash (R579, R580). -/

namespace Sys2Proof.Machine

/-- Bytes of flash from an offset. -/
def Dev.flash (d : Dev) (ofs n : Nat) : List Byte := d.bytes (0x40000000 + ofs) n

/-- A big-endian field of `n` bytes at a position of a record. -/
def recNat (l : List Byte) (a n : Nat) : Nat := beNat ((l.drop a).take n)

/-- An entry of the directory: offset, type, whether inactive, length, CRC. -/
structure DirEntry where
  ofs  : Nat
  ty   : Nat
  off  : Bool
  len  : Nat
  crc  : Nat
  deriving DecidableEq, Repr

/-- The SEQ and the entries of the directory at an offset, where its header and its CRC are good. -/
def Dev.directoryAt (d : Dev) (ofs : Nat) : Option (Nat × List DirEntry) :=
  let h := d.flash ofs 16
  let n := recNat h 6 2
  if recNat h 0 4 = 0x44514449 ∧ recNat h 4 2 = 1 ∧ 1 ≤ n ∧ n ≤ 64 then
    let l := d.flash (ofs + 16) (16 * n)
    if crc32c (h.take 12 ++ [0, 0, 0, 0] ++ l) = recNat h 12 4 then
      some (recNat h 8 4, (List.range n).map (fun k =>
        ⟨recNat l (16 * k) 4, recNat l (16 * k + 4) 2, (recNat l (16 * k + 6) 2).testBit 0, recNat l (16 * k + 8) 4,
          recNat l (16 * k + 12) 4⟩))
    else none
  else none

/-- The directory that counts: the good copy, of two the one with the higher SEQ; and whether it is the second. -/
def Dev.directory (d : Dev) : Option (Bool × List DirEntry) :=
  match d.directoryAt 0, d.directoryAt 0x10000 with
  | some (a, x), some (b, y) => if a < b then some (true, y) else some (false, x)
  | some (_, x), none => some (false, x)
  | none, some (_, y) => some (true, y)
  | none, none => none

/-- The active entries of a type, in directory order. -/
def ofType (l : List DirEntry) (ty : Nat) : List DirEntry := l.filter (fun e => e.ty == ty && !e.off)

/-- The first active item of a type whose CRC is good. -/
def Dev.flashItem (d : Dev) (l : List DirEntry) (ty : Nat) : Option (List Byte) :=
  ((ofType l ty).map (fun e => (e, d.flash e.ofs e.len))).findSome? (fun x => if crc32c x.2 = x.1.crc then some x.2 else none)

/-- What HELLO offers of the station record: station number, line ID and epoch; 0xFFF, 0 and the current epoch where there is none
(R125, R580). -/
def Dev.stationHint (d : Dev) : Nat × Nat × Nat :=
  let no := (0xFFF, 0, d.get ACD_EPOCH_EPOCH)
  match d.directory with
  | none => no
  | some (_, l) => match d.flashItem l 7 with
    | none => no
    | some r =>
      if recNat r 0 4 = 0x53544E52 ∧ crc32c (r.take 28) = recNat r 28 4 then
        (recNat r 4 2 % 4096, recNat r 8 4, recNat r 12 4) else no

end Sys2Proof.Machine
end

