-- ==== Sys2Proof/Machine/Ethernet.lean ====
section
/-! DEFINITION. The Ethernet ports (spec 12): received frames (R377 to R382), the host path (R383 to R386), frames sent (R381,
R387 to R390), stamps and the transparent clock (R233 to R235), link and mode. -/

namespace Sys2Proof.Machine

/-! ### Frames -/

/-- A big-endian field of a frame. -/
def fieldBE (l : List Byte) (ofs n : Nat) : Nat := beNat ((l.drop ofs).take n)

/-- One bit of the CRC-32 of the frame check sequence (PRESUMED, log entry 102: IEEE 802.3, reflected). -/
def fcsBit (c : Nat) : Nat := if c % 2 = 1 then (c / 2) ^^^ 0xEDB88320 else c / 2

def fcsByte (c : Nat) (b : Byte) : Nat := fcsBit (fcsBit (fcsBit (fcsBit (fcsBit (fcsBit (fcsBit (fcsBit (c ^^^ b.toNat))))))))

/-- The FCS of a frame, as it follows it on the wire (R377, R381). -/
def frameFcs (l : List Byte) : List Byte := natLE 4 (l.foldl fcsByte 0xFFFFFFFF ^^^ 0xFFFFFFFF)

/-- A frame without its FCS. -/
def frameText (l : List Byte) : List Byte := l.take (l.length - 4)

/-- Whether a frame ends in its FCS (R377). -/
def fcsOk (l : List Byte) : Bool := l.drop (l.length - 4) == frameFcs (frameText l)

/-- Whether a frame is tagged (R379). -/
def isTagged (l : List Byte) : Bool := fieldBE l 12 2 == 0x8100

/-- The Ethertype behind the tag, and where the layer-3 header starts. -/
def l3At (l : List Byte) : Nat := if isTagged l then 18 else 14
def etherType (l : List Byte) : Nat := fieldBE l (l3At l - 2) 2

/-- Whether UDP at an offset names a PTP port. -/
def ptpPort (l : List Byte) (udp : Nat) : Bool := fieldBE l (udp + 2) 2 == 319 || fieldBE l (udp + 2) 2 == 320

/-- The layer a PTP message is carried on, and its offset (R234). -/
inductive Ptp where
  | none | l2 (ofs : Nat) | v4 (udp : Nat) | v6 (udp : Nat)
  deriving DecidableEq, Repr

/-- The PTP message of a frame (R234). -/
def ptpOf (l : List Byte) : Ptp :=
  let a := l3At l
  let e := etherType l
  if e = 0x88F7 then .l2 a
  else if e = 0x0800 then
    let u := a + 4 * (fieldBE l a 1 % 16)
    if fieldBE l (a + 9) 1 = 17 ∧ ptpPort l u then .v4 u else .none
  else if e = 0x86DD then (if fieldBE l (a + 6) 1 = 17 ∧ ptpPort l (a + 40) then .v6 (a + 40) else .none)
  else .none

/-- The offset of the PTP header. -/
def Ptp.ofs : Ptp → Nat
  | .none => 0
  | .l2 o => o
  | .v4 u => u + 8
  | .v6 u => u + 8

/-- The messageType of a PTP message. -/
def ptpType (l : List Byte) : Nat := fieldBE l (ptpOf l).ofs 1 % 16

/-- Whether a frame is a PTP event message: Sync, Delay_Req, Pdelay_Req, Pdelay_Resp. -/
def isPtpEvent (l : List Byte) : Bool := ptpOf l != .none && ptpType l < 4

/-- Bytes of a frame replaced from an offset on. -/
def patch (l : List Byte) (ofs : Nat) (x : List Byte) : List Byte := l.take ofs ++ x ++ l.drop (ofs + x.length)

/-- A PTP message rewritten: over UDP/IPv4 its checksum becomes 0; over IPv6 it is sent unchanged (R234). -/
def ptpPatch (l : List Byte) (ofs : Nat) (x : List Byte) : List Byte :=
  match ptpOf l with
  | .none => l
  | .l2 o => patch l (o + ofs) x
  | .v4 u => patch (patch l (u + 8 + ofs) x) (u + 6) [0, 0]
  | .v6 _ => l

/-- The tag taken out of a frame. -/
def untag (l : List Byte) : List Byte := if isTagged l then l.take 12 ++ l.drop 16 else l

/-- A tag put into a frame: TPID 0x8100, PCP, DEI 0, VID (R381). -/
def pushTag (l : List Byte) (pcp vid : Nat) : List Byte := l.take 12 ++ [0x81, 0x00] ++ natBE 2 (pcp * 8192 + vid) ++ l.drop 12

/-! ### State of a port -/

def Dev.modEth (d : Dev) (f : EthPart → EthPart) : Dev := { d with eth := f d.eth }

/-- The TX stamp registers show the oldest entry (R388). -/
def Dev.showTsf (n : Nat) (d : Dev) : Dev :=
  match d.eth.tsf.get n [] with
  | e :: _ =>
    let d := ((d.set (ETH_TSF_INFO_SEQID n) e.seqId).set (ETH_TSF_INFO_MSGTYPE n) e.ty).set (ETH_TSF_INFO_TAG n) e.tag
    ((d.set (ETH_TSF_INFO_VALID n) 1).set (ETH_TSF_SEC_SEC n) e.sec).set (ETH_TSF_NS_NS n) e.ns
  | [] =>
    let d := ((d.set (ETH_TSF_INFO_SEQID n) 0).set (ETH_TSF_INFO_MSGTYPE n) 0).set (ETH_TSF_INFO_TAG n) 0
    ((d.set (ETH_TSF_INFO_VALID n) 0).set (ETH_TSF_SEC_SEC n) 0).set (ETH_TSF_NS_NS n) 0

/-- A stamp of a port in ns: a time base, with a signed board delay in ps (R387). -/
def Dev.ethStamp (d : Dev) (tb ps : Nat) : Nat :=
  (((((d.tb tb).units : Nat) : Int) + sgn 16 ps * ((2 ^ 32 : Nat) : Int) / 1000) / ((2 ^ 32 : Nat) : Int)).toNat

/-- The stamps of a port in its time base (R387). -/
def Dev.rxStamp (d : Dev) (n : Nat) : Nat := d.ethStamp (d.get (ETH_TS_CTL_TB n)) (d.get (ETH_TS_RXDLY_PS n))
def Dev.txStamp (d : Dev) (n : Nat) : Nat := d.ethStamp (d.get (ETH_TS_CTL_TB n)) (d.get (ETH_TS_TXDLY_PS n))

/-! ### Received frames -/

/-- The map entry an ingress frame matches (R380, R381). -/
def Dev.ingressMap (d : Dev) (n vid : Nat) : Option Nat :=
  (List.range 64).find? (fun k => d.flag (ETH_MAPk_VALID n k) && d.get (ETH_MAPk_TAG n k) != 3 && d.get (ETH_MAPk_VID n k) == vid)

/-- Whether the host filter matches (R384). -/
def Dev.hostMatch (d : Dev) (n : Nat) (l : List Byte) : Bool :=
  (d.flag (ETH_HOST_CTL_PTP n) && ptpOf l != .none)
    || (d.flag (ETH_HOST_CTL_MYMAC n) && fieldBE l 0 6 == d.get (ETH_MAC_HI_ADDR n) * 2 ^ 32 + d.get (ETH_MAC_LO_ADDR n))

/-- A frame delivered to the host packet queue (R384). -/
def Dev.toHost (n : Nat) (l : List Byte) (d : Dev) : Dev :=
  let st := d.rxStamp n
  let desc := natLE 2 (0xFFF + 2 * 2 ^ 12) ++ natLE 2 n ++ natLE 2 l.length ++ natLE 2 0 ++ natLE 4 (st % 1000000000)
    ++ natLE 4 (st / 1000000000)
  let d := d.inc (ETH_RX_HOST_COUNT n)
  (d.pqTake (d.get (ETH_HOST_CTL_PQ n)) desc l).getD d

/-- The pre-colour of an ingress frame: 0 green, 1 yellow, 2 red (R382, R392). -/
def Dev.preColour (d : Dev) (n : Nat) (l : List Byte) : Nat :=
  if !isTagged l then 0
  else
    let tci := fieldBE l 14 2
    if tci.testBit 12 then 1
    else
      let c := d.get (ETH_VLAN_COLMAP n) / 4 ^ (tci / 8192) % 4
      if c = 3 then 0 else c

/-- A frame bridged into its tunnel, or dropped (R378 to R382). -/
def Dev.bridge (n : Nat) (l : List Byte) (d : Dev) : Dev :=
  let v := if isTagged l then fieldBE l 14 2 % 4096 else 0
  let vid := if v = 0 then d.get (ETH_VLAN_PVID n) else v
  if d.flag STN_STAT_FENCED then d.inc TNL_FENCEDROP_COUNT
  else match d.ingressMap n vid with
    | none => d.inc (ETH_RX_NOMAP_COUNT n)
    | some k =>
      let c := d.get (ETH_MAPk_CTX n k)
      if d.ctxRun c && d.get (CTX_W0_CLASS c) == 2 && d.get (CTX_W1_LPORT c) == 16 + n then
        let aux := if d.flag (ETH_TS_CTL_TC n) then max 1 (d.ethStamp 0 (d.get (ETH_TS_RXDLY_PS n)) % 2 ^ 32) else 0
        let pre := d.preColour n l
        d.offer ⟨c, 10 + n, if d.get (ETH_MAPk_TAG n k) = 0 then l else untag l, some pre, aux, none, false⟩
      else d.inc (ETH_RX_NOCTX_COUNT n)

/-- A MAC Control frame ends at the MAC; a PAUSE stops new frames, one of 0 quanta ends it (R377). -/
def Dev.macControl (n : Nat) (l : List Byte) (d : Dev) : Dev :=
  let d := d.inc (ETH_RX_PAUSE_COUNT n)
  if fieldBE l 14 2 = 1 ∧ d.flag (ETH_CTL_PAUSE_RX n) then d.setB (ETH_STAT_PAUSED n) (fieldBE l 16 2 != 0) else d

/-- A frame received, from its destination address through its FCS (R377, R378). -/
def ethFrameRx (n : Nat) (frame : List Byte) (d : Dev) : Dev :=
  if !d.flag (ETH_CTL_EN n) || !d.flag (ETH_STAT_LINK n) then d
  else if !fcsOk frame then d.inc (ETH_RX_FCS_COUNT n)
  else if frame.length < 64 then d.inc (ETH_RX_RUNT_COUNT n)
  else if min 9216 (d.get (ETH_CTL_MAXFRM n)) < frame.length then d.inc (ETH_RX_LONG_COUNT n)
  else
    let l := frameText frame
    let d := d.inc (ETH_RX_FRAMES_COUNT n)
    if fieldBE l 12 2 = 0x8808 then d.macControl n l
    else if d.hostMatch n l then d.toHost n l
    else d.bridge n l

def execEthFrameRx (n : Fin 10) (frame : List Byte) (s : State) : Host.Outcome State Fault Refusal :=
  s.runPins 9 (ethFrameRx n frame)

/-- The PAUSE quanta expire (R377). -/
def execPauseExpire (n : Fin 10) (s : State) : Host.Outcome State Fault Refusal := s.runOn 9 (fun d => d.set (ETH_STAT_PAUSED n) 0)

/-! ### Frames sent -/

/-- An HTX_DONE record falls due (R385, R386). -/
def Dev.htxDue (n tag status : Nat) (d : Dev) : Dev := d.modEth (fun e => { e with due := e.due ++ [(n, tag, status)] })

/-- A frame leaves: padded, with an FCS formed afresh, counted, kept as the last one sent (R381). -/
def Dev.wireOut (n : Nat) (l : List Byte) (host : Option Nat) (d : Dev) : Dev :=
  let l := l ++ List.replicate (60 - l.length) 0
  (d.modEth (fun e => { e with out := e.out.set n (l ++ frameFcs l) [], outHost := e.outHost.set n host none })).inc (ETH_TX_FRAMES_COUNT n)

/-- The transparent clock at the egress (R235). -/
def Dev.transparent (n aux : Nat) (l : List Byte) (d : Dev) : List Byte × Dev :=
  if d.flag (ETH_TS_CTL_TC n) && aux != 0 && isPtpEvent l then
    match ptpOf l with
    | .v6 _ => (l, d.inc (ETH_PTP_IPV6_COUNT n))
    | p =>
      let res := (d.ethStamp 0 (d.get (ETH_TS_TXDLY_PS n)) + 2 ^ 32 - aux) % 2 ^ 32
      (ptpPatch l 8 (natBE 8 ((fieldBE l (p.ofs + 8) 8 + res * 2 ^ 16) % 2 ^ 64)), d)
  else (l, d)

/-- A tunnel frame at the head of an egress queue: edited by the port's map, or dropped (R381). -/
def Dev.tunnelOut (n c : Nat) (aux : Nat) (l : List Byte) (d : Dev) : Dev :=
  let l := match d.egressMap n c with
    | some j => if d.get (ETH_MAPk_TAG n j) = 2 then pushTag l (d.get (ETH_MAPk_PCP n j)) (d.get (ETH_MAPk_VID n j)) else l
    | none => l
  if !d.flag (ETH_STAT_LINK n) then d.inc (ETH_TX_LINKDOWN_COUNT n)
  else if min 9216 (d.get (ETH_CTL_MAXFRM n)) < max 60 l.length + 4 then d.inc (ETH_TX_LONG_COUNT n)
  else
    let (l, d) := d.transparent n aux l
    d.wireOut n l none

/-- A TX stamp enters the port's FIFO of 16, or is lost (R388). -/
def Dev.pushTsf (n tag : Nat) (l : List Byte) (d : Dev) : Dev :=
  if 16 ≤ (d.eth.tsf.get n []).length then (d.inc (ETH_TSF_LOST_COUNT n)).raise (ETH_EVT_TSF_OVF n)
  else
    let st := d.txStamp n
    let e : TsfEntry := ⟨fieldBE l ((ptpOf l).ofs + 30) 2, ptpType l, tag, st / 1000000000 % 2 ^ 32, st % 1000000000⟩
    (d.modEth (fun x => { x with tsf := x.tsf.set n (x.tsf.get n [] ++ [e]) [] })).showTsf n

/-- A host Sync given its originTimestamp as it leaves (R234, R389). -/
def Dev.oneStep (n : Nat) (l : List Byte) (d : Dev) : List Byte × Dev :=
  match ptpOf l with
  | .none => (l, d)
  | .v6 _ => if ptpType l = 0 then (l, d.inc (ETH_PTP_IPV6_COUNT n)) else (l, d)
  | _ =>
    if ptpType l = 0 then
      let st := d.txStamp n
      (ptpPatch l 34 (natBE 6 (st / 1000000000) ++ natBE 4 (st % 1000000000)), d)
    else (l, d)

/-- A host frame at the head of an egress queue (R385, R388, R389). -/
def Dev.hostOut (n : Nat) (x : HostTx) (l : List Byte) (d : Dev) : Dev :=
  if !d.flag (ETH_STAT_LINK n) then (d.inc (ETH_TX_LINKDOWN_COUNT n)).htxDue n x.tag 3
  else
    let (l, d) := if x.onestep then d.oneStep n l else (l, d)
    let d := if x.tsreq && isPtpEvent l then d.pushTsf n x.tag l else d
    (d.wireOut n l (some x.tag)).htxDue n x.tag 0

/-- A frame reaches the head of an egress queue of the port; `ecc` is what the checker finds as its cells are read (R204, R251,
R381). -/
def ethFrameTx (n : Nat) (ecc : Ecc) (d : Dev) : Dev :=
  if d.flag (ETH_STAT_PAUSED n) && d.flag (ETH_STAT_LINK n) then d
  else
    let d := d.prepare (10 + n)
    match d.pickLocal (10 + n) with
    | none => d
    | some q =>
      match d.headOf q with
      | none => d
      | some (i, k) =>
        let host := d.eth.host.get i none
        let (k, d) := ((d.noteStart (10 + n) q k).countSent false).readOut k ecc
        let d := d.releasePkt i
        let d := d.modEth (fun e => { e with host := e.host.set i none none })
        match host with
        | some x => d.hostOut n x (k.cells.flatMap (·.data))
        | none =>
          match k.term with
          | none => d
          | some c =>
            match d.terminate c k with
            | (true, d) => d.tunnelOut n c (if k.hdr.akv then 0 else k.hdr.aux) ((k.data.drop 16).take k.hdr.len)
            | (false, d) => d

def execEthFrameTx (n : Fin 10) (ecc : Ecc) (s : State) : Host.Outcome State Fault Refusal := s.runOn 9 (ethFrameTx n ecc)

/-! ### The host path -/

/-- A host frame queued on an egress queue of its port. -/
def Dev.hostQueue (n q : Nat) (x : HostTx) (l : List Byte) (d : Dev) : Dev :=
  let h : THdr := ⟨1, 2, false, 0, 0, 0, 0, false, false, 0, l.length, false, 0, 0⟩
  let i := d.sw.nextPkt
  (d.modEth (fun e => { e with host := e.host.set i (some x) none })).inject 20 (768 + 32 * n + q) 0 h l true false none

/-- One descriptor of the ring taken (R385, R386). -/
def Dev.htxTake (n : Nat) (d : Dev) : Dev :=
  let size := 2 ^ d.get (ETH_HTX_CFG_LOG2 n)
  let rd := d.get (ETH_HTX_RD_IDX n)
  let (b, d) := d.engRead (baseAddr (d.get (ETH_HTX_BASE_BASE n)) (d.flag (ETH_HTX_BASE_MEM n)) + 16 * rd) 16
  let v := leNat b
  let a := bitsOf v 0 40
  let len := bitsOf v 64 16
  let x : HostTx := ⟨n, bitsOf v 88 8, v.testBit 85, v.testBit 86⟩
  let d := d.set (ETH_HTX_RD_IDX n) ((rd + 1) % size)
  let inMem := (d.region a = .sram ∨ d.region a = .dram) && d.region (a + len - 1) == d.region a
  if len < 60 ∨ min 9216 (d.get (ETH_CTL_MAXFRM n)) - 4 < len then d.htxDue n x.tag 1
  else if !inMem then d.htxDue n x.tag 2
  else d.hostQueue n (bitsOf v 80 5) x (d.bytes a len)

/-- ETH_HTX_WR advances: the port takes the new descriptors (R385). -/
def ethHtxWrWrite (n v : Nat) (d : Dev) : Dev :=
  let d := d.set (ETH_HTX_WR_IDX n) v
  let log := d.get (ETH_HTX_CFG_LOG2 n)
  if d.flag (ETH_HTX_CFG_EN n) && 4 ≤ log && log ≤ 10 then
    let k := (d.get (ETH_HTX_WR_IDX n) + 2 ^ log - d.get (ETH_HTX_RD_IDX n) % 2 ^ log) % 2 ^ log
    forAll (List.range k) (fun _ d => d.htxTake n) d
  else d

def execEthHtxWrWrite (n : Fin 10) (v : BitVec 10) (s : State) : Host.Outcome State Fault Refusal :=
  s.runOn 9 (ethHtxWrWrite n v.toNat)

/-- The oldest HTX_DONE record due on a port is posted (R386). -/
def htxDone (n : Nat) (d : Dev) : Dev :=
  match d.eth.due.find? (fun x => x.1 == n) with
  | none => d
  | some x =>
    let d := d.modEth (fun e => { e with due := e.due.erase x })
    let d := d.postQ (d.get (ETH_HTX_CFG_EVQ n)) ⟨0x0001, 0x15, d.stamp, n + x.2.1 * 2 ^ 8 + x.2.2 * 2 ^ 16⟩
    if x.2.2 = 0 then d else d.raise (ETH_EVT_HTX_ERR n)

def execHtxDone (n : Fin 10) (s : State) : Host.Outcome State Fault Refusal := s.runOn 9 (htxDone n)

/-- The oldest TX stamp removed (R388). -/
def ethTsfPop (n : Nat) (d : Dev) : Dev :=
  (d.modEth (fun e => { e with tsf := e.tsf.set n ((e.tsf.get n []).drop 1) [] })).showTsf n

def execEthTsfPop (n : Fin 10) (s : State) : Host.Outcome State Fault Refusal := s.runOn 9 (ethTsfPop n)

/-! ### Link and mode -/

/-- What a port advertises with Clause 37: whether symmetric PAUSE, and no other ability; none where it does not negotiate (R376). -/
def Dev.advertises (d : Dev) (n : Nat) : Option Bool :=
  if d.flag (ETH_CTL_EN n) && d.get (ETH_CTL_MODE n) == 1 && d.flag (ETH_CTL_AN_EN n) then some (d.flag (ETH_CTL_PAUSE_RX n)) else none

/-- The link comes up, in one of the modes 1 to 4 (R376, R391). -/
def ethLinkUp (n : Nat) (an pause : Bool) (d : Dev) : Dev :=
  let m := d.get (ETH_CTL_MODE n)
  if d.flag (ETH_CTL_EN n) && 1 ≤ m && m ≤ 4 && !d.flag (ETH_STAT_LINK n) then
    let cl37 := (d.advertises n).isSome
    (((d.set (ETH_STAT_LINK n) 1).setB (ETH_STAT_AN_DONE n) (an && cl37)).setB (ETH_STAT_LP_PAUSE n) (pause && an && cl37)).raise
      (ETH_EVT_LINK_UP n)
  else d

def execEthLinkUp (n : Fin 10) (an pause : Bool) (s : State) : Host.Outcome State Fault Refusal := s.runPins 9 (ethLinkUp n an pause)

/-- The last entry of a list that is `a`, replaced by `b`. -/
def swapLast (a b : Nat × Nat × Nat) (l : List (Nat × Nat × Nat)) : List (Nat × Nat × Nat) :=
  let r := l.reverse
  match r.findIdx? (· == a) with
  | some k => (r.set k b).reverse
  | none => l

/-- The frame being sent as the link goes is cut; a host frame reports status 3: the last one that is due (R390). -/
def Dev.cutFrame (n : Nat) (d : Dev) : Dev :=
  let d := (d.decBy (ETH_TX_FRAMES_COUNT n) 1).inc (ETH_TX_LINKDOWN_COUNT n)
  match d.eth.outHost.get n none with
  | some tag => d.modEth (fun e => { e with due := swapLast (n, tag, 0) (n, tag, 3) e.due })
  | none => d

/-- The link goes down; `cut` where a frame was being sent (R390). -/
def ethLinkDown (n : Nat) (cut : Bool) (d : Dev) : Dev :=
  if d.flag (ETH_STAT_LINK n) then
    let d := if cut then d.cutFrame n else d
    let d := ((d.set (ETH_STAT_LINK n) 0).set (ETH_STAT_AN_DONE n) 0).set (ETH_STAT_LP_PAUSE n) 0
    (d.set (ETH_STAT_PAUSED n) 0).raise (ETH_EVT_LINK_DOWN n)
  else d

def execEthLinkDown (n : Fin 10) (cut : Bool) (s : State) : Host.Outcome State Fault Refusal := s.runOn 9 (ethLinkDown n cut)

/-- ETH_CTL.MODE written: an up link drops (R390). -/
def ethModeWrite (n mode : Nat) (cut : Bool) (d : Dev) : Dev := (ethLinkDown n cut d).set (ETH_CTL_MODE n) mode

def execEthModeWrite (n : Fin 10) (mode : Fin 8) (cut : Bool) (s : State) : Host.Outcome State Fault Refusal :=
  s.runOn 9 (ethModeWrite n mode cut)

end Sys2Proof.Machine
end

