-- ==== Sys2Proof/Machine/Threads.lean ====
section
/-! DEFINITION. Synosh threads (spec 10): their states (R319), registers (R320, R321), exceptions (R338 to R340), issue of an
instruction with predicate, run-ahead and fetch (R320, R323, R324, R326, R354), loads and stores (R326 to R329, R360, R373),
register accesses over the bus (R7, R29, R40, R332), event and packet queues as software writes them (R336, R348, R350). -/

namespace Sys2Proof.Machine

/-! ### Registers of a thread -/

/-- A general register; w0 reads zero (R320). -/
def Dev.rg (d : Dev) (t r : Nat) : DWord := if r = 0 then 0 else (d.thr t).w.get r 0

/-- A general register written; a write of w0 is discarded (R320). -/
def Dev.wr (d : Dev) (t r : Nat) (v : DWord) : Dev :=
  if r = 0 then d else d.modThr t (fun x => { x with w := x.w.set r v 0 })

/-- A predicate; p0 reads true (R320). -/
def Dev.pred (d : Dev) (t p : Nat) : Bool := p == 0 || (d.thr t).p.testBit p

/-- The predicates p1 to p7 written from bits 7 to 1 of a number. -/
def Dev.putPreds (d : Dev) (t v : Nat) : Dev := d.modThr t (fun x => { x with p := v % 256 / 2 * 2 })

/-- A predicate written; a write of p0 is discarded (R320). -/
def Dev.wp (d : Dev) (t p : Nat) (b : Bool) : Dev :=
  let m := (d.thr t).p
  d.putPreds t (if b then m ||| 2 ^ p else m - (if m.testBit p then 2 ^ p else 0))

/-- The accord status word of a thread (R322). -/
def Acst.word (x : Acst) : Nat :=
  x.state % 8 + x.code % 16 * 2 ^ 3 + x.slot % 16 * 2 ^ 7 + x.kind % 4 * 2 ^ 11 + x.id % 2 ^ 32 * 2 ^ 32

/-! ### Thread states -/

/-- A thread's state (R319): 0 OFF, 1 RUN, 2 WAIT, 3 HALT. -/
def Dev.tstate (d : Dev) (t : Nat) : Nat := d.get (SYN_THn_STAT_STATE t)

/-- A thread waits (R319). -/
def Dev.waitFor (d : Dev) (t : Nat) (x : Wait) : Dev :=
  ((d.modThr t (fun y => { y with wait := x })).perfAdd t 15).set (SYN_THn_STAT_STATE t) 2

/-- A thread enters HALT and posts THREAD_HALT; a STOP written meanwhile takes it on to OFF (R319, R337). -/
def Dev.halt (d : Dev) (t code : Nat) : Dev :=
  ((d.set (SYN_THn_STAT_STATE t) 3).event (0x20 + t) 0x0001 ((d.thr t).epc % 2 ^ 40 + code * 2 ^ 40)).stopIfAsked t

/-- An exception (R338, R339): precise, to the handler, or to HALT while a handler runs. -/
def Dev.exc (t code : Nat) (addr : Option Nat) (d : Dev) : Dev :=
  let d := d.set (SYN_THn_STAT_CODE t) code
  if (d.thr t).active then d.halt t code
  else (d.modThr t (fun x =>
    { x with epc := x.pc, code := code, active := true, eaddr := addr.getD x.eaddr
             pc := x.evbase / 4 * 4 % 2 ^ 40 })).stopIfAsked t

/-- START written 1 (R318, R319). -/
def threadStart (t : Nat) (d : Dev) : Dev :=
  let d := d.set (SYN_THn_CTL_START t) 0
  if d.tstate t = 0 ∧ (d.get SYN_STAT_CORE_OK).testBit (t / 4) then
    let pc := (d.get (SYN_THn_PC_HI_PC t) * 2 ^ 32 + d.get (SYN_THn_PC_LO_PC t)) / 4 * 4
    ((d.modThr t (fun x => { x with pc := pc, stop := false })).perfAdd t 15).set (SYN_THn_STAT_STATE t) 1
  else d

def execThreadStart (t : Fin 32) (s : State) : Host.Outcome State Fault Refusal := s.run (threadStart t)

/-- STOP written 1 (R319). -/
def threadStop (t : Nat) (d : Dev) : Dev := (d.set (SYN_THn_CTL_STOP t) 0).stopThread t

def execThreadStop (t : Fin 32) (s : State) : Host.Outcome State Fault Refusal := s.run (threadStop t)

/-- The accords of a thread that a reset aborts: OPEN, CLOSED AT and HELD (R319, R341). -/
def Dev.resettable (d : Dev) (t : Nat) : List Nat :=
  d.pendingSlots.filter (fun n => d.get (ACD_SLOTn_STAT_THREAD n) == t && !(d.accSlot n).ace
    && !(d.get (ACD_SLOTn_STAT_STATE n) == 2 && d.get (ACD_SLOTn_STAT_KIND n) == 2))

/-- A register read that a thread waits for goes on without it (R319). -/
def Dev.orphan (d : Dev) (t : Nat) : Dev :=
  match (d.thr t).wait with
  | .reg _ a _ => { d with syn := { d.syn with orphans := d.syn.orphans ++ [(t, a)] } }
  | _ => d

/-- A thread's registers and counters at reset; it is OFF (R319, R351). A register read in flight completes without it. -/
def Dev.zeroThread (t : Nat) (d : Dev) : Dev :=
  let d := d.orphan t
  let d := (d.modThr t (fun _ => Thr.reset)).set (SYN_THn_STAT_STATE t) 0
  let d := ((d.set (SYN_THn_STAT_CODE t) 0).set (SYN_THn_STAT_RUNAHEAD t) 0).set (SYN_THn_CTL_RESET t) 0
  let d := { d with syn := { d.syn with perf := d.syn.perf.filter (fun x => x.1 / 16 != t), seen := d.syn.seen.filter (fun x => x.1 / 16 != t) } }
  d.modSyn (fun y => { y with latest := y.latest.set t Acst.reset Acst.reset, spent := y.spent.set t false false })

/-- RESET written 1 (R319, R341). -/
def threadReset (t : Nat) (d : Dev) : Dev := (forAll (d.resettable t) (fun n d => d.abortSlot n 9) d).zeroThread t

def execThreadReset (t : Fin 32) (s : State) : Host.Outcome State Fault Refusal := s.run (threadReset t)

/-! ### Issue -/

/-- What the fetch of a word raises: UNMAPPED outside every region or beyond the flash's capacity, FETCH in register space or the
packet buffer window, MEM_ECC at a word with an uncorrectable error (R326, R329, R339, R591). -/
def Dev.fetchFault (d : Dev) (pc : Nat) : Option Nat :=
  match d.region pc with
  | .hole => some 5
  | .regs => some 3
  | .pbuf => some 3
  | .flash => if Sys2Proof.Config.flashCapacity ≤ pc - 0x40000000 then some 5 else none
  | .sram => if d.flawed pc then some 4 else none
  | .dram => if d.flawed pc then some 4 else none
  | .rom => none

/-- The checker's finding on a read of CTL SRAM or DRAM (R563, R564): counted in the bank or channel. -/
def Dev.dataEcc (d : Dev) (a : Nat) (e : Ecc) : Dev :=
  match d.region a with
  | .sram => d.memRead 0 (a / 0x20000) (a % 0x20000 / 8) e
  | .dram => d.memRead 11 (a / 64 % 2) ((a - 0x8000000000) / 8) e
  | _ => d

/-- Whether a region's words can hold an uncorrectable error a thread meets (R329). -/
def Region.checked : Region → Bool
  | .sram => true
  | .dram => true
  | _ => false

/-- A fetch that raises MEM_ECC is a read that meets an uncorrectable word (R329, R564). -/
def Dev.fetchUe (code : Nat) (addr : Option Nat) (d : Dev) : Dev :=
  match addr with
  | some a => if code = 4 then d.dataEcc a .ue else d
  | none => d

/-- Whether a thread runs ahead of a load that missed (R324). -/
def Wait.isLoad : Wait → Bool
  | .load _ _ _ _ _ => true
  | _ => false

/-- A byte of memory as a thread reads it in any region but register space (R184, R326, R590); flash at or beyond its capacity reads
zero (R591). -/
def Dev.memByte (d : Dev) (a : Nat) : Byte :=
  match d.region a with
  | .rom => Sys2Proof.Config.bootRomByte (a - 0xFFFF0000)
  | .pbuf => (d.sw.content.get ((a - 0x20000000) / 256) []).getD (a % 256) 0
  | .flash => if Sys2Proof.Config.flashCapacity ≤ a - 0x40000000 then 0 else d.byte a
  | _ => d.byte a

/-- A byte as a thread fetches it: of memory, or of an earlier content of its line that an I-cache still holds, since the I-caches are
not coherent with stores (R328). Which of them the core's I-cache holds is a free value (log 49). -/
def Dev.insnByte (d : Dev) (t a : Nat) : Byte :=
  match d.syn.stale.get (a / 64) [] with
  | [] => d.memByte a
  | l =>
    match Sys2Proof.Config.heldLine (t / 4) (a / 64) (d.syn.perf.get (16 * t + 1) 0) % (l.length + 1) with
    | 0 => d.memByte a
    | k + 1 => (l.getD k []).getD (a % 64) 0

/-- The instruction word that a thread fetches at an address (R328, R352). -/
def Dev.insnWord (d : Dev) (t a : Nat) : Nat := leNat ((List.range 4).map (fun k => d.insnByte t (a + k)))

/-- What a fetch finds: an instruction, a reserved encoding under a false predicate, which retires (R320), or what it raises, with the
address where the code has one. -/
inductive Fetched where
  | insn
  | nothing
  | raises (code : Nat) (addr : Option Nat)
  deriving DecidableEq, Repr

/-- The fetch of a thread at its pc (R326, R329, R339, R352, R354): a LIMM word is fetched with the word behind it; a reserved
encoding raises ILLOP, and a LIMM before a word that takes none raises it whatever the predicate (DEDUCED, log 94). -/
def Dev.fetch (d : Dev) (t : Nat) : Fetched :=
  let pc := (d.thr t).pc
  match d.fetchFault pc with
  | some code => .raises code (some pc)
  | none =>
    let w := d.insnWord t pc
    if synOp w = 0x3F then
      match d.fetchFault (pc + 4) with
      | some code => .raises code (some (pc + 4))
      | none => if (synDecode 0 w (d.insnWord t (pc + 4))).isSome then .insn else .raises 1 none
    else if (synDecode 0 w 0).isSome then .insn
    else if d.pred t (w / 2 ^ 29 % 8) then .raises 1 none else .nothing

/-- An instruction as its word spells it: what only its execution shows (a miss, a checker's finding) is quiet. -/
def quiet : Instr → Instr
  | .ld8u t p rd rs1 imm _ _ => .ld8u t p rd rs1 imm false .ok
  | .ld16u t p rd rs1 imm _ _ => .ld16u t p rd rs1 imm false .ok
  | .ld32u t p rd rs1 imm _ _ => .ld32u t p rd rs1 imm false .ok
  | .ld64 t p rd rs1 imm _ _ => .ld64 t p rd rs1 imm false .ok
  | .ld8s t p rd rs1 imm _ _ => .ld8s t p rd rs1 imm false .ok
  | .ld16s t p rd rs1 imm _ _ => .ld16s t p rd rs1 imm false .ok
  | .ld32s t p rd rs1 imm _ _ => .ld32s t p rd rs1 imm false .ok
  | .amoSwap t p rd rs1 rs2 f _ => .amoSwap t p rd rs1 rs2 f .ok
  | .amoAdd t p rd rs1 rs2 f _ => .amoAdd t p rd rs1 rs2 f .ok
  | .amoAnd t p rd rs1 rs2 f _ => .amoAnd t p rd rs1 rs2 f .ok
  | .amoOr t p rd rs1 rs2 f _ => .amoOr t p rd rs1 rs2 f .ok
  | .amoCas t p rd rs1 rs2 f _ => .amoCas t p rd rs1 rs2 f .ok
  | .wcmd t p rd rs1 rs2 _ => .wcmd t p rd rs1 rs2 synCalm
  | .iinv t p rs1 rs2 _ => .iinv t p rs1 rs2 .ok
  | i => i

/-- The instruction that the words at a thread's pc spell (R352 to R356); none where the encoding is reserved. -/
def Dev.insnAt (d : Dev) (t : Fin 32) : Option Instr :=
  synDecode t (d.insnWord t (d.thr t).pc) (d.insnWord t ((d.thr t).pc + 4))

/-- How an instruction stands to speculation (R323, R324, R356, R361): performed in run-ahead; a branch, which follows its prediction;
an access, performed outside register space alone; an AMO, which is skipped; or one that waits until it is non-speculative. -/
inductive Spec where
  | yes
  | branch
  | access (a : Nat)
  | skip
  | wait
  deriving DecidableEq, Repr

/-- What an instruction reads and writes, as the marks of run-ahead see it, and how it stands to speculation: general registers by
number, predicates by 32 + number. -/
structure Uses where
  reads  : List Nat
  writes : List Nat
  spec   : Spec
  deriving DecidableEq, Repr

/-- An instruction that waits until it is non-speculative. -/
def Uses.wait : Uses := ⟨[], [], .wait⟩

/-- The device as a run-ahead instruction of a thread meets it: the thread holds its run-ahead registers. What the instruction leaves
is discarded but for those (R324, R325). -/
def Dev.aheadView (d : Dev) (t : Nat) : Dev :=
  d.modThr t (fun x => { x with w := x.shadow.w, p := x.shadow.p, pc := x.shadow.pc, wait := .none, active := false, stop := false })

/-- The device as the next instruction of a thread meets it: in run-ahead where it runs ahead of a load that missed (R324). -/
def Dev.issueView (d : Dev) (t : Nat) : Dev := if (d.thr t).wait.isLoad then d.aheadView t else d

/-- What the checker finds on the word at the pc of a thread that issues (R329, R563): a corrected error is counted; from an uncorrectable
one on, the word is flawed, and the fetch meets it. -/
def Dev.fetchFinds (t : Nat) (e : Ecc) (d : Dev) : Dev :=
  let a := (d.thr t).pc
  if d.tstate t ≠ 1 ∨ (d.thr t).wait.isLoad ∨ (d.region a).checked = false then d
  else match e with
    | .ok => d
    | .ce => d.dataEcc a .ce
    | .ue => d.addFlaw (a / 8)

/-- Whether a thread that issues fetches another instruction than the command names, or the same one with other fields: what a thread
executes is what its words spell (R353, R354, R356), and such a command is no event of the machine (log 94). -/
def Dev.fetchesOther (d : Dev) (t : Fin 32) (i : Instr) : Bool :=
  d.tstate t == 1 && (d.issueView t).fetch t == .insn && (d.issueView t).insnAt t != some (quiet i)

/-- An instruction issued where it is the one that the words at the thread's pc spell (R353, R354, R356). -/
def Dev.issue (t : Fin 32) (i : Instr) (f : Dev → Dev) (d : Dev) : Dev := if d.fetchesOther t i then d else f d

/-- A command that is one instruction of a thread (R318). -/
def State.issue (s : State) (t : Fin 32) (i : Instr) (f : Dev → Dev) : Host.Outcome State Fault Refusal := s.run (Dev.issue t i f)

/-- The end of run-ahead: its results are discarded, and the thread waits for the missing data (R324). -/
def Dev.aheadEnd (d : Dev) (t : Nat) : Dev :=
  (d.modThr t (fun x => { x with shadow := Ahead.reset })).set (SYN_THn_STAT_RUNAHEAD t) 0

/-- A run-ahead instruction goes by, leaving the run-ahead registers `y`; the 512th ends run-ahead (R324, R351). -/
def Dev.aheadStep (d : Dev) (t : Nat) (y : Ahead) : Dev :=
  let d := (d.modThr t (fun x => { x with ahead := x.ahead + 1, shadow := y })).perfAdd t 6
  if 512 ≤ (d.thr t).ahead then d.aheadEnd t else d

/-- A run-ahead instruction with an invalid source: its results are invalid, and a branch follows its prediction (R324). -/
def Dev.aheadInvalid (d : Dev) (t len : Nat) (u : Uses) : Dev :=
  let x := (d.thr t).shadow
  let bad := (u.writes.filter (fun r => r != 0 && r != 32)) ++ x.bad
  if u.spec = .branch then
    let (k, d) := d.fresh
    d.aheadStep t { x with pc := (Sys2Proof.Config.predictedPc k).toNat / 4 * 4, bad := bad }
  else d.aheadStep t { x with pc := x.pc + len, bad := bad }

/-- A run-ahead instruction whose sources are valid: an exception or an access to register space ends run-ahead, a load that misses
leaves a prefetch and an invalid destination, and so does an AMO without the prefetch (R324, R361). -/
def Dev.aheadRun (d : Dev) (t : Nat) (u : Uses) (f : Dev → Dev) : Dev :=
  let x := (d.thr t).shadow
  let y := (f (d.aheadView t)).thr t
  let bad := (u.writes.filter (fun r => r != 0 && r != 32)) ++ x.bad
  let space := match u.spec with
    | .access a => d.region a == .regs
    | _ => false
  if space || y.active then d.aheadEnd t
  else if u.spec = .skip then d.aheadStep t { x with pc := y.pc, bad := bad }
  else match y.wait with
    | .load _ _ _ _ len => ((d.perfAdd t 7).perfAdd t 8).aheadStep t { x with pc := x.pc + len, bad := bad }
    | _ => d.aheadStep t ⟨y.w, y.p, y.pc, x.bad.filter (fun r => !u.writes.contains r)⟩

/-- An instruction of a thread behind a load that missed: in run-ahead it leaves no architectural trace (R324, R325); once run-ahead
has ended nothing issues until the data returns. -/
def Dev.runAhead (d : Dev) (t p len : Nat) (u : Uses) (f : Dev → Dev) : Dev :=
  let x := (d.thr t).shadow
  if !d.flag (SYN_THn_STAT_RUNAHEAD t) then d
  else match (d.aheadView t).fetch t with
    | .raises _ _ => d.aheadEnd t
    | .nothing => d.aheadStep t { x with pc := x.pc + 4 }
    | .insn =>
      let unsure := x.bad.contains (32 + p)
      if !unsure && !(d.aheadView t).pred t p then d.aheadStep t { x with pc := x.pc + len }
      else if u.spec = .wait then d.aheadEnd t
      else if unsure || u.reads.any (fun r => x.bad.contains r) then d.aheadInvalid t len u
      else d.aheadRun t u f

/-- An instruction of `len` bytes issued by a thread in RUN at its pc under predicate `p` (R318, R320, R354). A thread that does
not run issues nothing; where the memory at pc holds no instruction, what the fetch finds happens in its place. -/
def Dev.instr (t p len : Nat) (u : Uses) (f : Dev → Dev) (d : Dev) : Dev :=
  if d.tstate t ≠ 1 then d
  else if (d.thr t).wait.isLoad then d.runAhead t p len u f
  else match d.fetch t with
    | .raises code addr => (d.fetchUe code addr).exc t code addr
    | .nothing => (d.perfAdd t 2).retire t 4
    | .insn => if d.pred t p then f d else (d.perfAdd t 2).retire t len

/-! ### Memory -/

/-- Bytes as a thread sees them: inside its accord, its staged bytes over memory (R284). -/
def Dev.seenBytes (d : Dev) (t a n : Nat) : List Byte :=
  (List.range n).map (fun k => match d.openOf t with
    | some m => if d.region (a + k) = .sram ∨ d.region (a + k) = .dram then d.stagedByte m (a + k) else d.memByte (a + k)
    | none => d.memByte (a + k))

/-- A thread's load in the flash window at or beyond the flash's capacity posts BUS_UNMAPPED (R591). -/
def Dev.flashEnd (d : Dev) (t a n : Nat) : Dev :=
  if d.region a = .flash ∧ Sys2Proof.Config.flashCapacity < a - 0x40000000 + n then d.busEvent 0x0001 a t else d

/-- A value sign-extended from `n` bytes, or zero-extended. -/
def extend (n v : Nat) (signed : Bool) : DWord :=
  if signed && 2 ^ (8 * n - 1) ≤ v then BitVec.ofNat 64 (v + 2 ^ 64 - 2 ^ (8 * n)) else BitVec.ofNat 64 v

/-- A load performed: the read set takes its line, the value its register (R284, R329, R360). -/
def Dev.performLoad (t rd a n : Nat) (signed : Bool) (len : Nat) (e : Ecc) (d : Dev) : Dev :=
  let e := if d.flawed a then .ue else e
  let d := (d.dataEcc a e).flashEnd t a n
  if e = .ue && (d.region a).checked then (d.modThr t (fun x => { x with wait := .none })).exc t 4 (some a)
  else
    let d := match d.openOf t with
      | some m => if (d.region a).checked then d.readLine m a else d
      | none => d
    (d.wr t rd (extend n (leNat (d.seenBytes t a n)) signed)).retire t len

/-- A load instruction (R324, R326, R327, R360): from register space it waits for its register read (R332); one that misses the
D-cache in DRAM puts its thread into run-ahead; in run-ahead one that misses it in any cached region leaves a prefetch. -/
def Dev.loadInstr (t rd a n : Nat) (signed : Bool) (len : Nat) (miss : Bool) (e : Ecc) (d : Dev) : Dev :=
  let r := d.region a
  if a % n ≠ 0 ∨ (r = .regs ∧ n ≠ 4) then d.exc t 2 (some a)
  else if r = .hole then d.exc t 5 (some a)
  else if r = .regs then d.waitFor t (.reg (if signed then rd + 32 else rd) a len)
  else if miss && (r == .dram || (d.flag (SYN_THn_STAT_RUNAHEAD t) && (r == .flash || r == .rom))) then
    let d := ((d.perfAdd t 8).perfAdd t 5).modThr t (fun x =>
      { x with wait := .load rd a n signed len, ahead := 0, shadow := ⟨x.w, x.p, x.pc + len, if rd = 0 then [] else [rd]⟩ })
    d.set (SYN_THn_STAT_RUNAHEAD t) 1
  else d.performLoad t rd a n signed len e

/-- The missing data returns: the load is performed, and the thread goes on behind it (R324); where DDR has left ON meanwhile the load
raises UNMAPPED (R513). -/
def dcacheMissReturn (t : Nat) (e : Ecc) (d : Dev) : Dev :=
  match (d.thr t).wait with
  | .load rd a n signed len =>
    let d := (d.modThr t (fun x => { x with wait := .none })).aheadEnd t
    if d.region a = .hole then d.exc t 5 (some a) else d.performLoad t rd a n signed len e
  | _ => d

def execDcacheMissReturn (t : Fin 32) (ecc : Ecc) (s : State) : Host.Outcome State Fault Refusal :=
  s.run (dcacheMissReturn t ecc)

/-! ### Registers over the bus -/

/-- A store to a plain TMT slot word is refused (R158). -/
def tmtRefuse (d : Dev) : Dev := (d.inc TNL_TMTREFUSED_COUNT).raise TNL_EVT_TMT_REFUSED

/-- A register write of a thread: posted to its domain; to an unmapped offset or a domain not ON it is discarded and recorded; a
TMT slot refuses it (R7, R17, R29, R40, R158). -/
def Dev.postWrite (t a v : Nat) (d : Dev) : Dev :=
  if (findReg a).isNone then d.busEvent 0x0001 a t
  else if !d.domOn (powerDomain a) then d.busEvent 0x0002 a t
  else if d.bridgeCut a then d
  else if (tmtSlotOf a).isSome then tmtRefuse d
  else { d with posted := d.posted ++ [⟨t, a, v % 2 ^ 32, []⟩] }

def execRegWrite (t : Fin 32) (a : BitVec 40) (v : Word) (s : State) : Host.Outcome State Fault Refusal :=
  s.run (Dev.postWrite t a.toNat v.toNat)

/-- A plain store to a TMT slot (R158). -/
def execTmtStoreRefused (s : State) : Host.Outcome State Fault Refusal := s.run tmtRefuse

/-- An access to an unmapped offset: nothing happens but the record (R7). -/
def execUnmappedRegAccess (t : Fin 32) (a : BitVec 40) (s : State) : Host.Outcome State Fault Refusal :=
  s.run (fun d => if (findReg a.toNat).isNone then d.busEvent 0x0001 a.toNat t else d)

/-- An access to a domain that is not ON: nothing happens but the record (R40). -/
def execDomainOffAccess (t : Fin 32) (a : BitVec 40) (s : State) : Host.Outcome State Fault Refusal :=
  s.run (fun d => if (findReg a.toNat).isSome && !d.domOn (powerDomain a.toNat) then d.busEvent 0x0002 a.toNat t else d)

/-! ### Stores -/

/-- What a store of `n` bytes at an address raises (R326, R327). -/
def Dev.storeFault (d : Dev) (a n : Nat) : Option Nat :=
  let r := d.region a
  if a % n ≠ 0 ∨ (r = .regs ∧ n ≠ 4) then some 2 else if r = .hole then some 5 else none

/-- A store that raises nothing, outside an accord (R326, R286). -/
def Dev.plainStore (t a n v : Nat) (d : Dev) : Dev :=
  match d.region a with
  | .regs => d.postWrite t a v
  | .sram => (((d.keepLine a).store a n v).mend a n).memTouched a n 16
  | .dram => (((d.keepLine a).store a n v).mend a n).memTouched a n 16
  | _ => d.busEvent 0x0004 a t

/-- A store that raises nothing, inside an OPEN accord (R282, R283, R373). -/
def Dev.accordStore (m a n v : Nat) (d : Dev) : Dev :=
  match d.region a with
  | .regs => d.stageReg m a (v % 2 ^ 32)
  | .sram => d.stageMem m a (natLE n v)
  | .dram => d.stageMem m a (natLE n v)
  | _ => d.abortSlot m 8

/-- Whether a thread is spent (R372). -/
def Dev.spent (d : Dev) (t : Nat) : Bool := d.syn.spent.get t false

/-- A store instruction (R326, R327, R360, R372, R373). -/
def Dev.storeInstr (t a n v len : Nat) (d : Dev) : Dev :=
  match d.storeFault a n with
  | some code => d.exc t code (some a)
  | none =>
    let d := if d.spent t then d else match d.openOf t with
      | some m => d.accordStore m a n v
      | none => d.plainStore t a n v
    d.retire t len

/-! ### Queues as software writes them -/

/-- RD of an event queue written: slots free, and a count of dropped records goes in first (R336). -/
def evqRdWrite (q v : Nat) (d : Dev) : Dev :=
  let d := d.set (SYN_EVQq_RD_IDX q) v
  let n := d.evqLost.get q 0
  if 0 < n && d.evqOn q && !d.evqFull q then
    { d.evqWrite q ⟨0x0010, 0x0F, d.stamp, n % 2 ^ 32⟩ with evqLost := d.evqLost.set q 0 0 }
  else d

def execEvqRdWrite (q : Fin 32) (v : BitVec 12) (s : State) : Host.Outcome State Fault Refusal := s.run (evqRdWrite q v.toNat)

/-- A write of SYN_EVQq_CFG (R348). -/
def evqCfgWrite (q v : Nat) (d : Dev) : Dev :=
  let was := d.flag (SYN_EVQq_CFG_EN q)
  let on := v.testBit 31
  if was && on then d
  else
    let d := ((d.set (SYN_EVQq_CFG_BASE q) v).set (SYN_EVQq_CFG_LOG2 q) (v / 2 ^ 20)).setB (SYN_EVQq_CFG_EN q) on
    if on then (d.set (SYN_EVQq_WR_IDX q) 0).set (SYN_EVQq_RD_IDX q) 0 else d

def execEvqCfgWrite (q : Fin 32) (v : Word) (s : State) : Host.Outcome State Fault Refusal := s.run (evqCfgWrite q v.toNat)

/-- A write of SYN_PQq_CFG (R350). -/
def pqCfgWrite (q v : Nat) (d : Dev) : Dev :=
  let was := d.flag (SYN_PQq_CFG_EN q)
  let on := v.testBit 16
  if was && on then d
  else
    let d := ((d.set (SYN_PQq_CFG_LOG2 q) v).set (SYN_PQq_CFG_EVQ q) (v / 2 ^ 8)).setB (SYN_PQq_CFG_EN q) on
    if on then (d.set (SYN_PQq_WR_IDX q) 0).set (SYN_PQq_RD_IDX q) 0 else d

def execPqCfgWrite (q : Fin 32) (v : Word) (s : State) : Host.Outcome State Fault Refusal := s.run (pqCfgWrite q v.toNat)

/-- What a thread has done so far: the instructions it retired, its starts and its waits. -/
def Dev.doneBy (d : Dev) (t : Nat) : Nat := d.syn.perf.get (16 * t + 1) 0 + d.syn.perf.get (16 * t + 15) 0

/-- Whether a thread has run since the latest snapshot of a counter: it is in RUN, or has retired an instruction, started or come to
wait; a thread that waits for a register read goes on counting that wait (R351). -/
def Dev.ranSince (d : Dev) (t ev : Nat) : Bool :=
  d.tstate t == 1 || (d.tstate t == 2 && ev == 10) || d.doneBy t != d.syn.seen.get (16 * t + ev) 0

/-- What a thread that ran added to a counter of cycles, predictions, fetches or misses, which the commands do not show: a free
number; to any other counter nothing. Run-ahead and its prefetches, retired instructions and false predicates are counted as they happen. -/
def Dev.perfCatchUp (t ev : Nat) (d : Dev) : Dev :=
  if [0, 3, 4, 8, 9, 10].contains ev && d.ranSince t ev then
    let (k, d) := d.fresh
    let n := (d.syn.perf.get (16 * t + ev) 0 + Sys2Proof.Config.randomNat k) % 2 ^ 64
    { d with syn := { d.syn with perf := d.syn.perf.set (16 * t + ev) n 0
                                 seen := d.syn.seen.set (16 * t + ev) (d.doneBy t) 0 } }
  else d

/-- A write of SYN_PERF_IDX (R351). -/
def perfSnapshot (v : Nat) (d : Dev) : Dev :=
  let t := v % 32
  let ev := v / 256 % 16
  let d := ((d.set SYN_PERF_IDX_THREAD t).set SYN_PERF_IDX_EVENT ev).perfCatchUp t ev
  let n := if 11 ≤ ev then 0 else d.syn.perf.get (16 * t + ev) 0
  (d.set SYN_PERF_LO_COUNT n).set SYN_PERF_HI_COUNT (n / 2 ^ 32)

def execPerfSnapshot (v : Word) (s : State) : Host.Outcome State Fault Refusal := s.run (perfSnapshot v.toNat)

end Sys2Proof.Machine
end

