-- ==== Sys2Proof/Machine/Synosh.lean ====
section
/-! DEFINITION. The Synosh instructions (spec 11). A command is one instruction that a thread issues at its pc, with its operand
fields; those that need the key unit, an indirect window or the USB function stand with them. -/

namespace Sys2Proof.Machine

/-! ### Integer instructions (R357, R358) -/

/-- An instruction on two registers. -/
def Dev.alu (t p rd rs1 rs2 : Nat) (f : DWord → DWord → DWord) (d : Dev) : Dev :=
  d.instr t p 4 ⟨[rs1, rs2], [rd], .yes⟩ (fun d => (d.wr t rd (f (d.rg t rs1) (d.rg t rs2))).retire t 4)

/-- Divisions with the results R357 states for zero. -/
def divu (a b : DWord) : DWord := if b = 0 then BitVec.allOnes 64 else a / b
def divs (a b : DWord) : DWord := if b = 0 then BitVec.allOnes 64 else a.sdiv b
def remu (a b : DWord) : DWord := if b = 0 then a else a % b
def rems (a b : DWord) : DWord := if b = 0 then a else a.srem b

/-- The leading zeros of a 64-bit number. -/
def leadZeros (v : Nat) : Nat := if v = 0 then 64 else 63 - v.log2

/-- The low `n` bytes reversed, zero-extended. -/
def swapBytes (n : Nat) (a : DWord) : DWord := BitVec.ofNat 64 (beNat (natLE n a.toNat))

def execAdd (t : Fin 32) (p : Fin 8) (rd rs1 rs2 : Fin 32) (s : State) : Host.Outcome State Fault Refusal :=
  s.issue t (.add t p rd rs1 rs2) (Dev.alu t p rd rs1 rs2 (fun a b => a + b))

def execSub (t : Fin 32) (p : Fin 8) (rd rs1 rs2 : Fin 32) (s : State) : Host.Outcome State Fault Refusal :=
  s.issue t (.sub t p rd rs1 rs2) (Dev.alu t p rd rs1 rs2 (fun a b => a - b))

def execAnd (t : Fin 32) (p : Fin 8) (rd rs1 rs2 : Fin 32) (s : State) : Host.Outcome State Fault Refusal :=
  s.issue t (.and t p rd rs1 rs2) (Dev.alu t p rd rs1 rs2 (fun a b => a &&& b))

def execOr (t : Fin 32) (p : Fin 8) (rd rs1 rs2 : Fin 32) (s : State) : Host.Outcome State Fault Refusal :=
  s.issue t (.or t p rd rs1 rs2) (Dev.alu t p rd rs1 rs2 (fun a b => a ||| b))

def execXor (t : Fin 32) (p : Fin 8) (rd rs1 rs2 : Fin 32) (s : State) : Host.Outcome State Fault Refusal :=
  s.issue t (.xor t p rd rs1 rs2) (Dev.alu t p rd rs1 rs2 (fun a b => a ^^^ b))

def execAndn (t : Fin 32) (p : Fin 8) (rd rs1 rs2 : Fin 32) (s : State) : Host.Outcome State Fault Refusal :=
  s.issue t (.andn t p rd rs1 rs2) (Dev.alu t p rd rs1 rs2 (fun a b => a &&& ~~~b))

def execShl (t : Fin 32) (p : Fin 8) (rd rs1 rs2 : Fin 32) (s : State) : Host.Outcome State Fault Refusal :=
  s.issue t (.shl t p rd rs1 rs2) (Dev.alu t p rd rs1 rs2 (fun a b => a <<< (b.toNat % 64)))

def execShr (t : Fin 32) (p : Fin 8) (rd rs1 rs2 : Fin 32) (s : State) : Host.Outcome State Fault Refusal :=
  s.issue t (.shr t p rd rs1 rs2) (Dev.alu t p rd rs1 rs2 (fun a b => a >>> (b.toNat % 64)))

def execSar (t : Fin 32) (p : Fin 8) (rd rs1 rs2 : Fin 32) (s : State) : Host.Outcome State Fault Refusal :=
  s.issue t (.sar t p rd rs1 rs2) (Dev.alu t p rd rs1 rs2 (fun a b => a.sshiftRight (b.toNat % 64)))

def execMul (t : Fin 32) (p : Fin 8) (rd rs1 rs2 : Fin 32) (s : State) : Host.Outcome State Fault Refusal :=
  s.issue t (.mul t p rd rs1 rs2) (Dev.alu t p rd rs1 rs2 (fun a b => a * b))

def execMulhu (t : Fin 32) (p : Fin 8) (rd rs1 rs2 : Fin 32) (s : State) : Host.Outcome State Fault Refusal :=
  s.issue t (.mulhu t p rd rs1 rs2) (Dev.alu t p rd rs1 rs2 (fun a b => BitVec.ofNat 64 (a.toNat * b.toNat / 2 ^ 64)))

def execMulhs (t : Fin 32) (p : Fin 8) (rd rs1 rs2 : Fin 32) (s : State) : Host.Outcome State Fault Refusal :=
  s.issue t (.mulhs t p rd rs1 rs2) (Dev.alu t p rd rs1 rs2 (fun a b => BitVec.ofInt 64 (a.toInt * b.toInt / ((2 ^ 64 : Nat) : Int))))

def execDivu (t : Fin 32) (p : Fin 8) (rd rs1 rs2 : Fin 32) (s : State) : Host.Outcome State Fault Refusal :=
  s.issue t (.divu t p rd rs1 rs2) (Dev.alu t p rd rs1 rs2 (fun a b => divu a b))

def execDiv (t : Fin 32) (p : Fin 8) (rd rs1 rs2 : Fin 32) (s : State) : Host.Outcome State Fault Refusal :=
  s.issue t (.div t p rd rs1 rs2) (Dev.alu t p rd rs1 rs2 (fun a b => divs a b))

def execRemu (t : Fin 32) (p : Fin 8) (rd rs1 rs2 : Fin 32) (s : State) : Host.Outcome State Fault Refusal :=
  s.issue t (.remu t p rd rs1 rs2) (Dev.alu t p rd rs1 rs2 (fun a b => remu a b))

def execRem (t : Fin 32) (p : Fin 8) (rd rs1 rs2 : Fin 32) (s : State) : Host.Outcome State Fault Refusal :=
  s.issue t (.rem t p rd rs1 rs2) (Dev.alu t p rd rs1 rs2 (fun a b => rems a b))

def execMinu (t : Fin 32) (p : Fin 8) (rd rs1 rs2 : Fin 32) (s : State) : Host.Outcome State Fault Refusal :=
  s.issue t (.minu t p rd rs1 rs2) (Dev.alu t p rd rs1 rs2 (fun a b => if a.ult b then a else b))

def execMaxu (t : Fin 32) (p : Fin 8) (rd rs1 rs2 : Fin 32) (s : State) : Host.Outcome State Fault Refusal :=
  s.issue t (.maxu t p rd rs1 rs2) (Dev.alu t p rd rs1 rs2 (fun a b => if a.ult b then b else a))

def execMin (t : Fin 32) (p : Fin 8) (rd rs1 rs2 : Fin 32) (s : State) : Host.Outcome State Fault Refusal :=
  s.issue t (.min t p rd rs1 rs2) (Dev.alu t p rd rs1 rs2 (fun a b => if a.slt b then a else b))

def execMax (t : Fin 32) (p : Fin 8) (rd rs1 rs2 : Fin 32) (s : State) : Host.Outcome State Fault Refusal :=
  s.issue t (.max t p rd rs1 rs2) (Dev.alu t p rd rs1 rs2 (fun a b => if a.slt b then b else a))

def execClz (t : Fin 32) (p : Fin 8) (rd rs1 : Fin 32) (s : State) : Host.Outcome State Fault Refusal :=
  s.issue t (.clz t p rd rs1) (Dev.alu t p rd rs1 0 (fun a _ => BitVec.ofNat 64 (leadZeros a.toNat)))

def execPopc (t : Fin 32) (p : Fin 8) (rd rs1 : Fin 32) (s : State) : Host.Outcome State Fault Refusal :=
  s.issue t (.popc t p rd rs1) (Dev.alu t p rd rs1 0 (fun a _ => BitVec.ofNat 64 (bitList 64 a.toNat).length))

def execBswap16 (t : Fin 32) (p : Fin 8) (rd rs1 : Fin 32) (s : State) : Host.Outcome State Fault Refusal :=
  s.issue t (.bswap16 t p rd rs1) (Dev.alu t p rd rs1 0 (fun a _ => swapBytes 2 a))

def execBswap32 (t : Fin 32) (p : Fin 8) (rd rs1 : Fin 32) (s : State) : Host.Outcome State Fault Refusal :=
  s.issue t (.bswap32 t p rd rs1) (Dev.alu t p rd rs1 0 (fun a _ => swapBytes 4 a))

def execBswap64 (t : Fin 32) (p : Fin 8) (rd rs1 : Fin 32) (s : State) : Host.Outcome State Fault Refusal :=
  s.issue t (.bswap64 t p rd rs1) (Dev.alu t p rd rs1 0 (fun a _ => swapBytes 8 a))

/-- The length of an instruction with its immediate (R354). -/
def immLen {n : Nat} : Imm n → Nat
  | .short _ => 4
  | .pair _ => 8

/-- An immediate sign-extended, and one zero-extended (R355). -/
def immS {n : Nat} : Imm n → DWord
  | .short v => v.signExtend 64
  | .pair v => v.signExtend 64
def immZ {n : Nat} : Imm n → DWord
  | .short v => v.setWidth 64
  | .pair v => v.setWidth 64

/-- An instruction on a register and an immediate. -/
def Dev.aluImm (t p rd rs1 : Nat) (v : DWord) (len : Nat) (f : DWord → DWord → DWord) (d : Dev) : Dev :=
  d.instr t p len ⟨[rs1], [rd], .yes⟩ (fun d => (d.wr t rd (f (d.rg t rs1) v)).retire t len)

def execAddi (t : Fin 32) (p : Fin 8) (rd rs1 : Fin 32) (imm : Imm 13) (s : State) : Host.Outcome State Fault Refusal :=
  s.issue t (.addi t p rd rs1 imm) (Dev.aluImm t p rd rs1 (immS imm) (immLen imm) (fun a b => a + b))

def execAndi (t : Fin 32) (p : Fin 8) (rd rs1 : Fin 32) (imm : Imm 13) (s : State) : Host.Outcome State Fault Refusal :=
  s.issue t (.andi t p rd rs1 imm) (Dev.aluImm t p rd rs1 (immZ imm) (immLen imm) (fun a b => a &&& b))

def execOri (t : Fin 32) (p : Fin 8) (rd rs1 : Fin 32) (imm : Imm 13) (s : State) : Host.Outcome State Fault Refusal :=
  s.issue t (.ori t p rd rs1 imm) (Dev.aluImm t p rd rs1 (immZ imm) (immLen imm) (fun a b => a ||| b))

def execXori (t : Fin 32) (p : Fin 8) (rd rs1 : Fin 32) (imm : Imm 13) (s : State) : Host.Outcome State Fault Refusal :=
  s.issue t (.xori t p rd rs1 imm) (Dev.aluImm t p rd rs1 (immZ imm) (immLen imm) (fun a b => a ^^^ b))

def execMuli (t : Fin 32) (p : Fin 8) (rd rs1 : Fin 32) (imm : Imm 13) (s : State) : Host.Outcome State Fault Refusal :=
  s.issue t (.muli t p rd rs1 imm) (Dev.aluImm t p rd rs1 (immS imm) (immLen imm) (fun a b => a * b))

def execShli (t : Fin 32) (p : Fin 8) (rd rs1 : Fin 32) (sh : BitVec 6) (s : State) : Host.Outcome State Fault Refusal :=
  s.issue t (.shli t p rd rs1 sh) (Dev.aluImm t p rd rs1 0 4 (fun a _ => a <<< sh.toNat))

def execShri (t : Fin 32) (p : Fin 8) (rd rs1 : Fin 32) (sh : BitVec 6) (s : State) : Host.Outcome State Fault Refusal :=
  s.issue t (.shri t p rd rs1 sh) (Dev.aluImm t p rd rs1 0 4 (fun a _ => a >>> sh.toNat))

def execSari (t : Fin 32) (p : Fin 8) (rd rs1 : Fin 32) (sh : BitVec 6) (s : State) : Host.Outcome State Fault Refusal :=
  s.issue t (.sari t p rd rs1 sh) (Dev.aluImm t p rd rs1 0 4 (fun a _ => a.sshiftRight sh.toNat))

/-- The mask of the low `k` bits. -/
def lowMask (k : Nat) : DWord := BitVec.ofNat 64 (2 ^ k - 1)

/-- The field of `k` bits at a position, which wraps past bit 63 (R358). -/
def fieldOf (a : DWord) (pos k : Nat) : DWord := a.rotateRight pos &&& lowMask k

def execExtu (t : Fin 32) (p : Fin 8) (rd rs1 : Fin 32) (pos lenM1 : BitVec 6) (s : State) : Host.Outcome State Fault Refusal :=
  s.issue t (.extu t p rd rs1 pos lenM1) (Dev.aluImm t p rd rs1 0 4 (fun a _ => fieldOf a pos.toNat (lenM1.toNat + 1)))

def execExts (t : Fin 32) (p : Fin 8) (rd rs1 : Fin 32) (pos lenM1 : BitVec 6) (s : State) : Host.Outcome State Fault Refusal :=
  s.issue t (.exts t p rd rs1 pos lenM1) (Dev.aluImm t p rd rs1 0 4 (fun a _ => let v := fieldOf a pos.toNat (lenM1.toNat + 1); if v.getLsbD lenM1.toNat then v ||| ~~~(lowMask (lenM1.toNat + 1)) else v))

def execIns (t : Fin 32) (p : Fin 8) (rd rs1 : Fin 32) (pos lenM1 : BitVec 6) (s : State) :
    Host.Outcome State Fault Refusal :=
  s.issue t (.ins t p rd rs1 pos lenM1) (Dev.alu t p rd rd rs1 (fun old a =>
    let m := (lowMask (lenM1.toNat + 1)).rotateLeft pos.toNat
    (old &&& ~~~m) ||| ((a &&& lowMask (lenM1.toNat + 1)).rotateLeft pos.toNat)))

/-! ### Predicates (R359) -/

/-- A comparison under COND. -/
def compare : Cond → DWord → DWord → Bool
  | .eq, a, b => a == b
  | .ne, a, b => a != b
  | .lt, a, b => a.slt b
  | .ge, a, b => !a.slt b
  | .ltu, a, b => a.ult b
  | .geu, a, b => !a.ult b
  | .tstz, a, b => (a &&& b) == 0
  | .tstnz, a, b => (a &&& b) != 0

/-- PD and PDN written: a result and its complement. -/
def Dev.putPair (d : Dev) (t pd pdn : Nat) (b : Bool) : Dev := (d.wp t pd b).wp t pdn (!b)

def execCmp (t : Fin 32) (p pd pdn : Fin 8) (rs1 rs2 : Fin 32) (cond : Cond) (s : State) : Host.Outcome State Fault Refusal :=
  s.issue t (.cmp t p pd pdn rs1 rs2 cond) (Dev.instr t p 4 ⟨[rs1, rs2], [32 + pd, 32 + pdn], .yes⟩ (fun d =>
    (d.putPair t pd pdn (compare cond (d.rg t rs1) (d.rg t rs2))).retire t 4))

def execCmpi (t : Fin 32) (p pd pdn : Fin 8) (rs1 : Fin 32) (cond : Cond) (imm : Imm 8) (s : State) :
    Host.Outcome State Fault Refusal :=
  s.issue t (.cmpi t p pd pdn rs1 cond imm) (Dev.instr t p (immLen imm) ⟨[rs1], [32 + pd, 32 + pdn], .yes⟩ (fun d =>
    (d.putPair t pd pdn (compare cond (d.rg t rs1) (immS imm))).retire t (immLen imm)))

/-- A predicate formed from two. -/
def Dev.predOp (t p pd pa pb : Nat) (f : Bool → Bool → Bool) (d : Dev) : Dev :=
  d.instr t p 4 ⟨[32 + pa, 32 + pb], [32 + pd], .yes⟩ (fun d => (d.wp t pd (f (d.pred t pa) (d.pred t pb))).retire t 4)

def execPand (t : Fin 32) (p pd pa pb : Fin 8) (s : State) : Host.Outcome State Fault Refusal :=
  s.issue t (.pand t p pd pa pb) (Dev.predOp t p pd pa pb (fun a b => a && b))

def execPor (t : Fin 32) (p pd pa pb : Fin 8) (s : State) : Host.Outcome State Fault Refusal :=
  s.issue t (.por t p pd pa pb) (Dev.predOp t p pd pa pb (fun a b => a || b))

def execPxor (t : Fin 32) (p pd pa pb : Fin 8) (s : State) : Host.Outcome State Fault Refusal :=
  s.issue t (.pxor t p pd pa pb) (Dev.predOp t p pd pa pb (fun a b => a != b))

def execPandn (t : Fin 32) (p pd pa pb : Fin 8) (s : State) : Host.Outcome State Fault Refusal :=
  s.issue t (.pandn t p pd pa pb) (Dev.predOp t p pd pa pb (fun a b => a && !b))

def execPnot (t : Fin 32) (p pd pa : Fin 8) (s : State) : Host.Outcome State Fault Refusal :=
  s.issue t (.pnot t p pd pa) (Dev.predOp t p pd pa 0 (fun a _ => !a))

/-- p1 to p7 as `Uses` numbers them. -/
def predNums : List Nat := [33, 34, 35, 36, 37, 38, 39]

def execPget (t : Fin 32) (p : Fin 8) (rx : Fin 32) (s : State) : Host.Outcome State Fault Refusal :=
  s.issue t (.pget t p rx) (Dev.instr t p 4 ⟨predNums, [rx], .yes⟩ (fun d => (d.wr t rx (BitVec.ofNat 64 ((d.thr t).p ||| 1))).retire t 4))

def execPput (t : Fin 32) (p : Fin 8) (rx : Fin 32) (s : State) : Host.Outcome State Fault Refusal :=
  s.issue t (.pput t p rx) (Dev.instr t p 4 ⟨[rx], predNums, .yes⟩ (fun d => (d.putPreds t (d.rg t rx).toNat).retire t 4))

/-! ### Memory access (R360, R361) -/

/-- The address of an access (R360). -/
def Dev.ea (d : Dev) (t rs1 : Nat) (imm : Imm 13) : Nat := (d.rg t rs1 + immS imm).toNat % 2 ^ 40

/-- The address of an access as run-ahead sees it. -/
def Dev.eaAhead (d : Dev) (t rs1 : Nat) (imm : Imm 13) : Nat := (d.aheadView t).ea t rs1 imm

/-- A load instruction. -/
def Dev.ld (t p rd rs1 : Nat) (imm : Imm 13) (miss : Bool) (e : Ecc) (n : Nat) (signed : Bool) (d : Dev) : Dev :=
  d.instr t p (immLen imm) ⟨[rs1], [rd], .access (d.eaAhead t rs1 imm)⟩ (fun d =>
    d.loadInstr t rd (d.ea t rs1 imm) n signed (immLen imm) miss e)

/-- A store instruction. -/
def Dev.st (t p rs2 rs1 : Nat) (imm : Imm 13) (n : Nat) (d : Dev) : Dev :=
  d.instr t p (immLen imm) ⟨[rs1, rs2], [], .access (d.eaAhead t rs1 imm)⟩ (fun d =>
    d.storeInstr t (d.ea t rs1 imm) n ((d.rg t rs2).toNat % 2 ^ (8 * n)) (immLen imm))

def execLd8u (t : Fin 32) (p : Fin 8) (rd rs1 : Fin 32) (imm : Imm 13) (miss : Bool) (ecc : Ecc) (s : State) :
    Host.Outcome State Fault Refusal := s.issue t (.ld8u t p rd rs1 imm miss ecc) (Dev.ld t p rd rs1 imm miss ecc 1 false)

def execLd16u (t : Fin 32) (p : Fin 8) (rd rs1 : Fin 32) (imm : Imm 13) (miss : Bool) (ecc : Ecc) (s : State) :
    Host.Outcome State Fault Refusal := s.issue t (.ld16u t p rd rs1 imm miss ecc) (Dev.ld t p rd rs1 imm miss ecc 2 false)

def execLd32u (t : Fin 32) (p : Fin 8) (rd rs1 : Fin 32) (imm : Imm 13) (miss : Bool) (ecc : Ecc) (s : State) :
    Host.Outcome State Fault Refusal := s.issue t (.ld32u t p rd rs1 imm miss ecc) (Dev.ld t p rd rs1 imm miss ecc 4 false)

def execLd64 (t : Fin 32) (p : Fin 8) (rd rs1 : Fin 32) (imm : Imm 13) (miss : Bool) (ecc : Ecc) (s : State) :
    Host.Outcome State Fault Refusal := s.issue t (.ld64 t p rd rs1 imm miss ecc) (Dev.ld t p rd rs1 imm miss ecc 8 false)

def execLd8s (t : Fin 32) (p : Fin 8) (rd rs1 : Fin 32) (imm : Imm 13) (miss : Bool) (ecc : Ecc) (s : State) :
    Host.Outcome State Fault Refusal := s.issue t (.ld8s t p rd rs1 imm miss ecc) (Dev.ld t p rd rs1 imm miss ecc 1 true)

def execLd16s (t : Fin 32) (p : Fin 8) (rd rs1 : Fin 32) (imm : Imm 13) (miss : Bool) (ecc : Ecc) (s : State) :
    Host.Outcome State Fault Refusal := s.issue t (.ld16s t p rd rs1 imm miss ecc) (Dev.ld t p rd rs1 imm miss ecc 2 true)

def execLd32s (t : Fin 32) (p : Fin 8) (rd rs1 : Fin 32) (imm : Imm 13) (miss : Bool) (ecc : Ecc) (s : State) :
    Host.Outcome State Fault Refusal := s.issue t (.ld32s t p rd rs1 imm miss ecc) (Dev.ld t p rd rs1 imm miss ecc 4 true)

def execSt8 (t : Fin 32) (p : Fin 8) (rs2 rs1 : Fin 32) (imm : Imm 13) (s : State) : Host.Outcome State Fault Refusal :=
  s.issue t (.st8 t p rs2 rs1 imm) (Dev.st t p rs2 rs1 imm 1)

def execSt16 (t : Fin 32) (p : Fin 8) (rs2 rs1 : Fin 32) (imm : Imm 13) (s : State) : Host.Outcome State Fault Refusal :=
  s.issue t (.st16 t p rs2 rs1 imm) (Dev.st t p rs2 rs1 imm 2)

def execSt32 (t : Fin 32) (p : Fin 8) (rs2 rs1 : Fin 32) (imm : Imm 13) (s : State) : Host.Outcome State Fault Refusal :=
  s.issue t (.st32 t p rs2 rs1 imm) (Dev.st t p rs2 rs1 imm 4)

def execSt64 (t : Fin 32) (p : Fin 8) (rs2 rs1 : Fin 32) (imm : Imm 13) (s : State) : Host.Outcome State Fault Refusal :=
  s.issue t (.st64 t p rs2 rs1 imm) (Dev.st t p rs2 rs1 imm 8)

/-- An AMO that raises nothing and stands outside an accord (R361). -/
def Dev.amoRun (t rd a : Nat) (b : DWord) (f : DWord → DWord → DWord → DWord) (d : Dev) : Dev :=
  let old := BitVec.ofNat 64 (leNat ((List.range 8).map (fun k => d.memByte (a + k))))
  let v := f old b (d.rg t rd)
  ((d.plainStore t a 8 v.toNat).wr t rd old).retire t 4

/-- An AMO: the new value from the old one, RS2 and the old RD (R361, R373). -/
def Dev.amo (t p rd rs1 rs2 : Nat) (e : Ecc) (f : DWord → DWord → DWord → DWord) (d : Dev) : Dev :=
  d.instr t p 4 ⟨[rs1, rs2, rd], [rd], .skip⟩ (fun d =>
    let a := (d.rg t rs1).toNat % 2 ^ 40
    match d.storeFault a 8 with
    | some code => d.exc t code (some a)
    | none => match d.openOf t with
      | some m => (d.abortSlot m 8).retire t 4
      | none =>
        let e := if d.flawed a then .ue else e
        let d := (d.dataEcc a e).flashEnd t a 8
        if e = .ue && (d.region a).checked then d.exc t 4 (some a) else d.amoRun t rd a (d.rg t rs2) f)

def execAmoSwap (t : Fin 32) (p : Fin 8) (rd rs1 rs2 : Fin 32) (fence : Bool) (ecc : Ecc) (s : State) :
    Host.Outcome State Fault Refusal := s.issue t (.amoSwap t p rd rs1 rs2 fence ecc) (Dev.amo t p rd rs1 rs2 ecc (fun _ b _ => b))

def execAmoAdd (t : Fin 32) (p : Fin 8) (rd rs1 rs2 : Fin 32) (fence : Bool) (ecc : Ecc) (s : State) :
    Host.Outcome State Fault Refusal := s.issue t (.amoAdd t p rd rs1 rs2 fence ecc) (Dev.amo t p rd rs1 rs2 ecc (fun old b _ => old + b))

def execAmoAnd (t : Fin 32) (p : Fin 8) (rd rs1 rs2 : Fin 32) (fence : Bool) (ecc : Ecc) (s : State) :
    Host.Outcome State Fault Refusal := s.issue t (.amoAnd t p rd rs1 rs2 fence ecc) (Dev.amo t p rd rs1 rs2 ecc (fun old b _ => old &&& b))

def execAmoOr (t : Fin 32) (p : Fin 8) (rd rs1 rs2 : Fin 32) (fence : Bool) (ecc : Ecc) (s : State) :
    Host.Outcome State Fault Refusal := s.issue t (.amoOr t p rd rs1 rs2 fence ecc) (Dev.amo t p rd rs1 rs2 ecc (fun old b _ => old ||| b))

def execAmoCas (t : Fin 32) (p : Fin 8) (rd rs1 rs2 : Fin 32) (fence : Bool) (ecc : Ecc) (s : State) :
    Host.Outcome State Fault Refusal := s.issue t (.amoCas t p rd rs1 rs2 fence ecc) (Dev.amo t p rd rs1 rs2 ecc (fun old b c => if old = c then b else old))

/-! ### Control transfer and system (R362 to R364) -/

/-- The thread goes on at an address. -/
def Dev.jump (d : Dev) (t target : Nat) : Dev :=
  (d.modThr t (fun x => { x with pc := target / 4 * 4 % 2 ^ 40 })).perfAdd t 1

/-- The target of a branch. -/
def Dev.target (d : Dev) (t : Nat) (off : BitVec 23) : Nat :=
  (BitVec.ofNat 64 (d.thr t).pc + off.signExtend 64 <<< 2).toNat

def execB (t : Fin 32) (p : Fin 8) (off : BitVec 23) (s : State) : Host.Outcome State Fault Refusal :=
  s.issue t (.b t p off) (Dev.instr t p 4 ⟨[], [], .branch⟩ (fun d => d.jump t (d.target t off)))

def execBl (t : Fin 32) (p : Fin 8) (off : BitVec 23) (s : State) : Host.Outcome State Fault Refusal :=
  s.issue t (.bl t p off) (Dev.instr t p 4 ⟨[], [31], .branch⟩ (fun d =>
    let a := d.target t off
    (d.wr t 31 (BitVec.ofNat 64 ((d.thr t).pc + 4))).jump t a))

def execJr (t : Fin 32) (p : Fin 8) (rs1 : Fin 32) (s : State) : Host.Outcome State Fault Refusal :=
  s.issue t (.jr t p rs1) (Dev.instr t p 4 ⟨[rs1], [], .branch⟩ (fun d => d.jump t (d.rg t rs1).toNat))

def execJrLink (t : Fin 32) (p : Fin 8) (rd rs1 : Fin 32) (s : State) : Host.Outcome State Fault Refusal :=
  s.issue t (.jrLink t p rd rs1) (Dev.instr t p 4 ⟨[rs1], [rd], .branch⟩ (fun d =>
    let a := (d.rg t rs1).toNat
    (d.wr t rd (BitVec.ofNat 64 ((d.thr t).pc + 4))).jump t a))

/-- HALT: the thread's OPEN accord aborts with RESET (R362, R373). -/
def Dev.haltInstr (t : Nat) (d : Dev) : Dev :=
  let d := match d.openOf t with
    | some m => d.abortSlot m 9
    | none => d
  (d.retire t 4).halt t 0

def execHalt (t : Fin 32) (p : Fin 8) (s : State) : Host.Outcome State Fault Refusal :=
  s.issue t (.halt t p) (Dev.instr t p 4 .wait (Dev.haltInstr t))

def execTrap (t : Fin 32) (p : Fin 8) (s : State) : Host.Outcome State Fault Refusal :=
  s.issue t (.trap t p) (Dev.instr t p 4 .wait (Dev.exc t 6 none))

/-- The return from an exception (R338). -/
def Dev.eret (t : Nat) (d : Dev) : Dev := (d.modThr t (fun x => { x with active := false })).jump t (d.thr t).epc

def execEret (t : Fin 32) (p : Fin 8) (s : State) : Host.Outcome State Fault Refusal :=
  s.issue t (.eret t p) (Dev.instr t p 4 .wait (Dev.eret t))

/-- FENCE: every earlier access of the thread has been performed already (R330, R331). -/
def execFence (t : Fin 32) (p : Fin 8) (s : State) : Host.Outcome State Fault Refusal :=
  s.issue t (.fence t p) (Dev.instr t p 4 .wait (fun d => d.retire t 4))

/-- FENCE.D: waits while a register write of the thread is posted (R20, R331, R341). -/
def execFenceD (t : Fin 32) (p : Fin 8) (s : State) : Host.Outcome State Fault Refusal :=
  s.issue t (.fenceD t p) (Dev.instr t p 4 .wait (fun d =>
    if d.posted.any (fun w => w.thr == t) then d.waitFor t .posted else d.retire t 4))

/-- FENCE.T: waits while an accord that the thread closed is pending (R291). -/
def execFenceT (t : Fin 32) (p : Fin 8) (s : State) : Host.Outcome State Fault Refusal :=
  s.issue t (.fenceT t p) (Dev.instr t p 4 .wait (fun d => if d.closedOf t = [] then d.retire t 4 else d.waitFor t .accords))

/-- A special register as MFS reads it; none where the number is reserved (R321). -/
def Dev.special (d : Dev) (t n : Nat) : Option Nat :=
  let x := d.thr t
  match n with
  | 0 => some (t % 32 + t / 4 * 32)
  | 1 => some (d.now % 2 ^ 64)
  | 2 => some (d.acst t).word
  | 3 => some (x.code + b2n x.active * 2 ^ 8)
  | 4 => some x.epc
  | 5 => some x.eaddr
  | 6 => some x.evbase
  | 7 => some x.escr
  | _ => none

def execMfs (t : Fin 32) (p : Fin 8) (rd n : Fin 32) (s : State) : Host.Outcome State Fault Refusal :=
  s.issue t (.mfs t p rd n) (Dev.instr t p 4 ⟨[], [rd], .yes⟩ (fun d => match d.special t n with
    | some v => (d.wr t rd (BitVec.ofNat 64 v)).retire t 4
    | none => d.exc t 1 none))

/-- MTS: ecause, epc, evbase and escr take a value; any other raises ILLOP (R321, R363). -/
def Dev.mts (t rs1 n : Nat) (d : Dev) : Dev :=
  let v := (d.rg t rs1).toNat
  match n with
  | 3 => (d.modThr t (fun x => { x with code := v % 16, active := v.testBit 8 })).retire t 4
  | 4 => (d.modThr t (fun x => { x with epc := v })).retire t 4
  | 6 => (d.modThr t (fun x => { x with evbase := v / 64 * 64 })).retire t 4
  | 7 => (d.modThr t (fun x => { x with escr := v })).retire t 4
  | _ => d.exc t 1 none

def execMts (t : Fin 32) (p : Fin 8) (rs1 n : Fin 32) (s : State) : Host.Outcome State Fault Refusal :=
  s.issue t (.mts t p rs1 n) (Dev.instr t p 4 .wait (Dev.mts t rs1 n))

/-- IINV: no I-cache holds the lines of the range from RS1 on, of RS2 bytes, any more (R328, R364). What the checker finds as the thread
fetches comes with this row, whatever instruction the word at the pc spells: no row of the table is a fetch, and a fetch that meets an
uncorrectable word has no instruction (R329; DESIGN CHOICE, log 49). -/
def execIinv (t : Fin 32) (p : Fin 8) (rs1 rs2 : Fin 32) (fetched : Ecc) (s : State) : Host.Outcome State Fault Refusal :=
  s.run (fun d => (d.fetchFinds t fetched).issue t (.iinv t p rs1 rs2 fetched)
    (Dev.instr t p 4 .wait (fun d => (d.dropLines (d.rg t rs1).toNat (d.rg t rs2).toNat).retire t 4)))

/-- PREF is a hint: which lines the coherent D-cache holds decides times and misses only (R325, R328, R364), and a load's miss is an
operand of its command. -/
def execPref (t : Fin 32) (p : Fin 8) (rs1 : Fin 32) (s : State) : Host.Outcome State Fault Refusal :=
  s.issue t (.pref t p rs1) (Dev.instr t p 4 ⟨[rs1], [], .yes⟩ (fun d => d.retire t 4))

/-! ### Events, packets and checks (R365, R366, R368) -/

/-- What an event wait answers: the lowest queue of the mask that is ready, or 32 at the deadline or with nothing to wait for;
none where it waits (R365). -/
def Dev.eventReady (d : Dev) (mask deadline : Nat) : Option Nat :=
  let ready := fun q => d.evqOn q && d.get (SYN_EVQq_WR_IDX q) != d.get (SYN_EVQq_RD_IDX q)
  match (bitList 32 mask).find? ready with
  | some q => some q
  | none =>
    if deadline = 0 then (if mask % 2 ^ 32 = 0 then some 32 else none)
    else if (d.now + 2 ^ 64 - deadline % 2 ^ 64) % 2 ^ 64 < 2 ^ 63 then some 32 else none

def Dev.evw (t rd rs1 rs2 : Nat) (d : Dev) : Dev :=
  let mask := (d.rg t rs1).toNat
  let dl := (d.rg t rs2).toNat
  match d.eventReady mask dl with
  | some q => (d.wr t rd (BitVec.ofNat 64 q)).retire t 4
  | none => d.waitFor t (.event rd mask dl)

def execEvw (t : Fin 32) (p : Fin 8) (rd rs1 rs2 : Fin 32) (s : State) : Host.Outcome State Fault Refusal :=
  s.issue t (.evw t p rd rs1 rs2) (Dev.instr t p 4 .wait (Dev.evw t rd rs1 rs2))

/-- A waiting thread resumes: a queue of its mask is ready, or time passes to its deadline (R333, R365). -/
def evwResume (t : Nat) (d : Dev) : Dev :=
  match (d.thr t).wait with
  | .event rd mask dl =>
    let d := match d.eventReady mask dl with
      | some _ => d
      | none => if dl = 0 then d else d.reach 0 (dl * 2 ^ 32)
    (match d.eventReady mask dl with
      | some q => (d.wr t rd (BitVec.ofNat 64 q)).retire t 4
      | none => d)
  | _ => d

def execEvwResume (t : Fin 32) (s : State) : Host.Outcome State Fault Refusal := s.run (evwResume t)

/-- The first byte of a range that lies in neither CTL SRAM nor DRAM (R366). -/
def Dev.outside (d : Dev) (a n : Nat) : Option Nat :=
  ((List.range n).map (a + ·)).find? (fun x => !(d.region x).checked)

/-- A packet send (R343, R366): where 64 sends wait at the port already, the thread waits. -/
def Dev.psend (t rs1 rs2 : Nat) (d : Dev) : Dev :=
  let a := (d.rg t rs1).toNat % 2 ^ 40
  let v := (d.rg t rs2).toNat
  if a % 8 ≠ 0 then d.exc t 2 (some a)
  else match d.outside a (bitsOf v 10 14) with
    | some x => d.exc t 5 (some x)
    | none => if 64 ≤ d.sendsWaiting then d.waitFor t (.send a v) else (d.sendPkt t a v).retire t 4

def execPsend (t : Fin 32) (p : Fin 8) (rs1 rs2 : Fin 32) (s : State) : Host.Outcome State Fault Refusal :=
  s.issue t (.psend t p rs1 rs2) (Dev.instr t p 4 .wait (Dev.psend t rs1 rs2))

def execCrc8 (t : Fin 32) (p : Fin 8) (rd rs1 rs2 : Fin 32) (s : State) : Host.Outcome State Fault Refusal :=
  s.issue t (.crc8 t p rd rs1 rs2) (Dev.alu t p rd rs1 rs2 (fun a b => BitVec.ofNat 64 (crcByte (a.toNat % 2 ^ 32) (b.setWidth 8))))

def execCrc64 (t : Fin 32) (p : Fin 8) (rd rs1 rs2 : Fin 32) (s : State) : Host.Outcome State Fault Refusal :=
  s.issue t (.crc64 t p rd rs1 rs2) (Dev.alu t p rd rs1 rs2 (fun a b => BitVec.ofNat 64 (crcRun (a.toNat % 2 ^ 32) (natBE 8 b.toNat))))

def execTmtb (t : Fin 32) (p : Fin 8) (rd rs1 rs2 : Fin 32) (s : State) : Host.Outcome State Fault Refusal :=
  s.issue t (.tmtb t p rd rs1 rs2) (Dev.alu t p rd rs1 rs2 (fun a b => BitVec.ofNat 64 (tmtBucket (a.toNat % 2 ^ 36) (b.toNat % 2 ^ 32))))

/-! ### Accord instructions (R370, R371) -/

/-- The status of the thread's latest accord into a register; the instruction retires (R370). -/
def Dev.accordStatus (t rd : Nat) (d : Dev) : Dev := (d.wr t rd (BitVec.ofNat 64 (d.acst t).word)).retire t 4

/-- The same where an accord may have committed: the instruction retires once the last domain of a NOW accord has swapped (R291). -/
def Dev.accordResult (t rd : Nat) (d : Dev) : Dev :=
  let d := d.wr t rd (BitVec.ofNat 64 (d.acst t).word)
  if d.swapsOf t then d.waitFor t .swaps else d.retire t 4

/-- An accord that is refused: its thread is spent until its next accord instruction (R281, R371, R372). -/
def Dev.refuseAccord (d : Dev) (t kind code id : Nat) : Dev :=
  let d := d.abortReport id kind code 0xFF
  (d.setAcst t ⟨5, code, 16, kind, id⟩).modSyn (fun y => { y with spent := y.spent.set t true false })

/-- An accord opened for a thread in a slot (R280, R281). -/
def Dev.openAccord (d : Dev) (t n kind tb id : Nat) (at_ : Ts) : Dev :=
  let d := (d.openSlot n kind tb t id { AccSlot.reset with t := at_ }).setAcst t ⟨1, 0, n, kind, id⟩
  d.slotState n 1 0

/-- ACB NOW or AT: the last free slot is kept for LINE accords (R281). -/
def Dev.acbLocal (t rd kind tb : Nat) (at_ : Ts) (d : Dev) : Dev :=
  let d := match d.openOf t with
    | some m => d.abortSlot m 8
    | none =>
      match d.localSlot with
      | some n => (d.inc ACD_SERIAL_SERIAL).openAccord t n kind tb d.nextId at_
      | none => d.refuseAccord t kind 2 0
  d.accordStatus t rd

def execAcbNow (t : Fin 32) (p : Fin 8) (rd : Fin 32) (s : State) : Host.Outcome State Fault Refusal :=
  s.issue t (.acbNow t p rd) (Dev.instr t p 4 .wait (Dev.acbLocal t rd 0 0 ⟨0, 0, 0⟩))

/-- An instant in the form of `time` (R321). -/
def tsOf (v : Nat) : Ts := ⟨v / 1000000000, v % 1000000000, 0⟩

def execAcbAt (t : Fin 32) (p : Fin 8) (rd rs1 : Fin 32) (tb : Fin 4) (s : State) : Host.Outcome State Fault Refusal :=
  s.issue t (.acbAt t p rd rs1 tb) (Dev.instr t p 4 .wait (fun d => d.acbLocal t rd 1 tb (tsOf (d.rg t rs1).toNat)))

/-- ACB LINE (R281, R296). -/
def Dev.acbLine (t rd id : Nat) (d : Dev) : Dev :=
  let d := match d.openOf t with
    | some m => d.abortSlot m 8
    | none =>
      if d.flag STN_STAT_FENCED then d.refuseAccord t 2 5 id
      else if d.inHistory id || (d.line id).isSome then d.refuseAccord t 2 8 id
      else match d.freeSlots with
        | n :: _ => if d.flag ACD_CTL_EN then d.openAccord t n 2 0 id ⟨0, 0, 0⟩ else d.refuseAccord t 2 2 id
        | [] => d.refuseAccord t 2 2 id
  d.accordStatus t rd

def execAcbLine (t : Fin 32) (p : Fin 8) (rd rs1 : Fin 32) (s : State) : Host.Outcome State Fault Refusal :=
  s.issue t (.acbLine t p rd rs1) (Dev.instr t p 4 .wait (fun d => d.acbLine t rd ((d.rg t rs1).toNat % 2 ^ 32)))

/-- ACW of 4 or 8 bytes: a store that must stand in an accord (R370, R372). -/
def Dev.acw (t rs1 rs2 n : Nat) (d : Dev) : Dev :=
  if (d.openOf t).isNone && !d.spent t then d.exc t 1 none
  else d.storeInstr t ((d.rg t rs1).toNat % 2 ^ 40) n ((d.rg t rs2).toNat % 2 ^ (8 * n)) 4

def execAcw (t : Fin 32) (p : Fin 8) (rs1 rs2 : Fin 32) (wide : Bool) (s : State) : Host.Outcome State Fault Refusal :=
  s.issue t (.acw t p rs1 rs2 wide) (fun d => d.instr t p 4 ⟨[rs1, rs2], [], .access (((d.aheadView t).rg t rs1).toNat % 2 ^ 40)⟩
    (Dev.acw t rs1 rs2 (if wide then 8 else 4)))

/-- The thread's accord is no longer one that aborted under it (R372). -/
def Dev.unspend (t : Nat) (d : Dev) : Dev := d.modSyn (fun y => { y with spent := y.spent.set t false false })

/-- The close of an OPEN accord in slot `n` (R280, R286, R291, R293, R297); `arg` is T at the coordinator of a LINE accord. -/
def Dev.closeAccord (n arg : Nat) (d : Dev) : Dev :=
  let kind := d.get (ACD_SLOTn_STAT_KIND n)
  let x := d.accSlot n
  if kind = 0 then d.commitSlot n
  else if kind = 1 then
    (if d.atDue n then d.abortSlot n 4
     else (d.slotState n 2 0).setAccSlot n { x with rset := [] })
  else
    let d := (d.slotState n 2 0).setAccSlot n { x with rset := [] }
    match d.lineClose n (tsOf arg) with
    | (0, d) => d
    | (code, d) => d.abortSlot n code

/-- ACC: PD tells whether the accord is now COMMITTED or CLOSED (R370, R371). -/
def Dev.accClose (t rd rs1 pd pdn : Nat) (d : Dev) : Dev :=
  let d := match d.openOf t with
    | some n =>
      let d := (d.closeAccord n (d.rg t rs1).toNat).unspend t
      d.putPair t pd pdn (2 ≤ d.get (ACD_SLOTn_STAT_STATE n) && d.get (ACD_SLOTn_STAT_STATE n) ≤ 4)
    | none => (d.unspend t).putPair t pd pdn false
  d.accordResult t rd

def execAcc (t : Fin 32) (p : Fin 8) (rd rs1 : Fin 32) (pd pdn : Fin 8) (s : State) : Host.Outcome State Fault Refusal :=
  s.issue t (.acc t p rd rs1 pd pdn) (Dev.instr t p 4 .wait (Dev.accClose t rd rs1 pd pdn))

/-- ACA (R370); a CLOSED AT accord whose time base already reads T commits (R310). -/
def Dev.aca (t rd : Nat) (d : Dev) : Dev :=
  let x := d.acst t
  let d := if (d.resettable t).contains x.slot && x.id == d.get (ACD_SLOTn_ID_ID x.slot) && 1 ≤ x.state && x.state ≤ 3 then
      (if x.state = 2 ∧ d.atDue x.slot then d.commitSlot x.slot else d.abortSlot x.slot 3) else d
  (d.unspend t).accordResult t rd

def execAca (t : Fin 32) (p : Fin 8) (rd : Fin 32) (s : State) : Host.Outcome State Fault Refusal :=
  s.issue t (.aca t p rd) (Dev.instr t p 4 .wait (Dev.aca t rd))

def execAcs (t : Fin 32) (p : Fin 8) (rd : Fin 32) (s : State) : Host.Outcome State Fault Refusal :=
  s.issue t (.acs t p rd) (Dev.instr t p 4 ⟨[], [rd], .yes⟩ (Dev.accordStatus t rd))

/-- The status of the most recent slot that holds an ID: the one opened last (R370). -/
def Dev.acsById (d : Dev) (id : Nat) : Nat :=
  let l := (List.range 16).filter (fun n => d.get (ACD_SLOTn_STAT_STATE n) != 0 && d.get (ACD_SLOTn_ID_ID n) == id)
  let last := l.foldl (fun (m : Option Nat) n => match m with
    | some k => if d.acc.born.get k 0 < d.acc.born.get n 0 then some n else some k
    | none => some n) none
  match last with
  | some n => (Acst.mk (d.get (ACD_SLOTn_STAT_STATE n)) (d.get (ACD_SLOTn_STAT_CODE n)) n (d.get (ACD_SLOTn_STAT_KIND n)) id).word
  | none => 0

def execAcsByid (t : Fin 32) (p : Fin 8) (rd rs1 : Fin 32) (s : State) : Host.Outcome State Fault Refusal :=
  s.issue t (.acsByid t p rd rs1) (Dev.instr t p 4 .wait (fun d =>
    (d.wr t rd (BitVec.ofNat 64 (d.acsById ((d.rg t rs1).toNat % 2 ^ 32)))).retire t 4))

end Sys2Proof.Machine
end

