-- ==== Sys2Proof/Machine/Keys.lean ====
section
/-! DEFINITION. The key unit (spec 18), first part: KOP (R369, R545), enfleurage (R532 to R536), the operations (R546, R547), expiry
(R541), the slot window (R558). -/

namespace Sys2Proof.Machine

/-! ### Submission -/

def Dev.setKeyQueue (l : List KeyOp) (d : Dev) : Dev := (d.modKey (fun k => { k with queue := l })).set KEY_STAT_QDEPTH l.length

/-- A descriptor of 64 bytes, least significant byte first, under a tag (R545); its addresses are taken whole (log entry 103). -/
def parseKeyOp (tag : Nat) (l : List Byte) : KeyOp :=
  let f := fun (a n : Nat) => leNat ((l.drop a).take n)
  ⟨tag, f 0 1, f 1 1, f 2 1, f 4 4, f 8 8, f 16 4, f 24 8, f 32 4, f 40 8, f 48 2, f 50 2, f 52 1⟩

/-- A descriptor reaches the key unit: accepted while there is room, else refused (R545, R547). An OP that R546 does not name, and a
tag word above 255, is refused with FORMAT; a key unit with EN = 0, or whose domain dries down, refuses with RESET. -/
def Dev.keySubmit (v : Nat) (l : List Byte) (d : Dev) : Dev :=
  let o := parseKeyOp (v % 256) l
  if !d.flag KEY_CTL_EN || d.get (PWR_Dd_STAT_PHASE 4) != 0 then d.keyRefuse o.tag 16
  else if v / 256 ≠ 0 ∨ o.op = 0 ∨ 15 < o.op then d.keyRefuse o.tag 8
  else if 16 ≤ d.key.queue.length then d.keyRefuse o.tag 13
  else (d.setKeyQueue (d.key.queue ++ [o])).event 0x19 0x0001 o.tag

/-- KOP (R369): the descriptor must be aligned and lie in CTL SRAM or DRAM; in an accord it aborts the accord (R373). The write of the
submission register is posted behind the thread's earlier writes, and the descriptor reaches the key unit as it acts. -/
def Dev.kop (t rs1 rs2 : Nat) (d : Dev) : Dev :=
  let a := (d.rg t rs1).toNat % 2 ^ 40
  if a % 64 ≠ 0 then d.exc t 2 (some a)
  else match d.outside a 64 with
    | some x => d.exc t 5 (some x)
    | none => match d.openOf t with
      | some m => (d.abortSlot m 8).retire t 4
      | none =>
        let d := if d.domOn 4 then { d with posted := d.posted ++ [⟨t, KEY_SUBMIT_A, (d.rg t rs2).toNat, d.bytes a 64⟩] }
          else d.busEvent 0x0002 KEY_SUBMIT_A t
        d.retire t 4

def execKop (t : Fin 32) (p : Fin 8) (rs1 rs2 : Fin 32) (s : State) : Host.Outcome State Fault Refusal :=
  s.issue t (.kop t p rs1 rs2) (Dev.instr t p 4 .wait (Dev.kop t rs1 rs2))

/-- A plain store to KEY_SUBMIT (R557). -/
def execKeySubmitStore (s : State) : Host.Outcome State Fault Refusal := s.runOn 4 (fun d => d.inc KEY_BADSUB_COUNT)

/-! ### Enfleurage -/

/-- The helper record in flash (R533, R579). -/
def Dev.helperRecord (d : Dev) : List Byte := d.bytes (0x40000000 + d.get LCS_HELPER_OFS_OFS) 2112

/-- Enfleurage ends (R532 to R536): `ikm` is the corrected message bits of the 16 blocks, none where a block has too many errors. In
BLANK only ENROLL reads the array, and in SCRAPPED enfleurage never runs (R556). The random source is healthy from here on. -/
def enfleurageDone (ikm : Option (List Byte)) (d : Dev) : Dev :=
  let d := d.set KEY_STAT_RNG_OK 1
  if !d.key.fresh || d.lifecycle == 0 || d.lifecycle == 4 then d
  else
    let d := (d.modKey (fun k => { k with fresh := false })).set KEY_STAT_ENFL_BUSY 0
    let h := d.helperRecord
    let bad := (d.set KEY_STAT_ENFL_FAIL 1).raise KEY_EVT_ENFL_FAIL
    if beNat (h.take 4) ≠ 0x454E4652 ∨ beNat ((h.drop 4).take 2) ≠ 1 ∨ beNat ((h.drop 6).take 2) ≠ 16 then bad
    else match ikm with
      | none => bad
      | some m =>
        let root := (hkdfExtract ((h.drop 8).take 32) m).take 32
        if (hmac root (ascii "Darquin check")).take 16 = (h.drop 40).take 16 then (d.rootIs root).raise KEY_EVT_ENFL_DONE else bad

def execEnfleurageDone (ikm : Option (List (BitVec 8))) (s : State) : Host.Outcome State Fault Refusal := s.runOn 4 (enfleurageDone ikm)

/-! ### Starting an operation -/

/-- How an operation starts: refused with a status, or running towards a status with an output and a slot that it fills. -/
inductive KeyStart where
  | refused (st : Nat)
  | running (st : Nat) (out : List Byte) (fills : Option Nat)
  deriving DecidableEq, Repr

/-- Whether an operation needs the root or a key below it (R534). -/
def KeyOp.needsRoot (o : KeyOp) : Bool := o.op != 13 && o.op != 14 && o.op != 15

/-- Whether an operation waits: for enfleurage (R532), or for a slot that is being loaded (R540). -/
def Dev.keyWaits (d : Dev) (o : KeyOp) : Bool :=
  let slot := if o.op = 12 then d.get KEY_LINE_SLOT else o.slot
  (d.key.fresh && d.lifecycle != 0 && d.lifecycle != 4)
    || (o.needsRoot && slot < 64 && (d.slotOf slot == 1 || d.slotOf (d.get (KSLOT_W0_PSLOT slot)) == 1))

/-- At each TB0 second: loaded slots past their expiry are EXPIRED, which invalidates them (R541, R543). -/
def keyExpiryCheck (d : Dev) : Dev :=
  let now := (d.tb 0).sec
  forAll (List.range 64) (fun n d =>
    if d.slotOf n = 2 ∧ d.expiry n ≠ 0 ∧ d.expiry n ≤ now then ((d.slotGo n 4).raise KEY_EVT_EXPIRE).invalidate n else d) d

/-- The operation at the front of the queue starts, if it is of the row's kind and need not wait (R545 to R547); the expiry of the present
TB0 second comes before it (R544). -/
def Dev.keyStart (op : Nat) (f : KeyOp → Dev → KeyStart × Dev) (d : Dev) : Dev :=
  match d.key.queue with
  | [] => d
  | o :: rest =>
    if o.op ≠ op || d.keyWaits o || !d.domOn 4 then d
    else
      let d := keyExpiryCheck (d.setKeyQueue rest)
      if o.needsRoot && d.key.root.isNone then d.keyRefuse o.tag 10
      else match f o d with
        | (.refused st, d) => d.keyRefuse o.tag st
        | (.running st out fills, d) => d.modKey (fun k => { k with running := k.running ++ [⟨o, st, out, fills⟩] })

/-- A slot that an operation uses, with a usage or one of two: 0 where it may (R538, R540, R542). -/
def Dev.useSlot (n a b : Nat) (d : Dev) : Nat × Dev :=
  if 64 ≤ n then (17, d)
  else match d.reload n with
    | (st, d) =>
      if st ≠ 0 then (st, d)
      else if d.slotOf n = 0 then (17, d) else if d.slotOf n = 3 then (1, d) else if d.slotOf n = 4 then (4, d)
      else if d.hasUse n a || d.hasUse n b then (0, d) else (3, d)

/-- A step that follows where the status is 0; else the operation is refused with it. -/
def onOk (x : Nat × Dev) (f : Dev → KeyStart × Dev) : KeyStart × Dev := if x.1 = 0 then f x.2 else (.refused x.1, x.2)

/-- Whether an output of `n` bytes fits DST (R545, R546). -/
def Dev.dstFits (d : Dev) (o : KeyOp) (n : Nat) : Bool := n ≤ o.dstLen && d.keyRange o.dst n
def Dev.srcIn (d : Dev) (o : KeyOp) : Bool := d.keyRange o.src o.srcLen
def Dev.auxIn (d : Dev) (o : KeyOp) : Bool := d.keyRange o.aux o.auxLen
def Dev.srcBytes (d : Dev) (o : KeyOp) : List Byte := d.bytes o.src o.srcLen
def Dev.auxBytes (d : Dev) (o : KeyOp) : List Byte := d.bytes o.aux o.auxLen

/-- LOAD (R539): the slot is LOADING until the operation is done. -/
def keyLoad (d : Dev) : Dev := d.keyStart 1 (fun o d =>
  if o.slot < 2 ∨ 64 ≤ o.slot then (.refused 9, d)
  else match d.loadFlacon 64 o.slot o.src true with
    | (st, d) => if st = 0 then (.running 0 [] (some o.slot), d.slotGo o.slot 1) else (.refused st, d))

def execKeyLoad (s : State) : Host.Outcome State Fault Refusal := s.runOn 4 keyLoad

/-- EVICT (R543, R546). -/
def keyEvict (d : Dev) : Dev := d.keyStart 2 (fun o d =>
  if o.slot < 2 ∨ 64 ≤ o.slot then (.refused 3, d)
  else if d.slotOf o.slot = 0 then (.refused 17, d)
  else (.running 0 [] none, (d.invalidate o.slot).slotEmpty o.slot))

def execKeyEvict (s : State) : Host.Outcome State Fault Refusal := s.runOn 4 keyEvict

/-- The parent of a slot, which must be LOADED with WRAP (R538, R540). -/
def Dev.useParent (n : Nat) (d : Dev) : Nat × Dev :=
  let p := d.get (KSLOT_W0_PSLOT n)
  match d.useSlot p 0 0 with
  | (17, d) => (6, d)
  | x => x

/-- ROTATE (R543, R546): GEN + 1, the descendants orphaned, a new flacon. -/
def keyRotate (d : Dev) : Dev := d.keyStart 3 (fun o d =>
  if o.slot < 2 ∨ 64 ≤ o.slot then (.refused 3, d)
  else match d.reload o.slot with
    | (st, d) =>
      let st := if st ≠ 0 then st else if d.slotOf o.slot = 0 then 17 else if d.slotOf o.slot = 3 then 1
        else if d.slotOf o.slot = 4 then 4 else 0
      onOk (st, d) (fun d => onOk (d.useParent o.slot) (fun d =>
        if d.key.rngBad then (.refused 15, d)
        else if !d.dstFits o 112 then (.refused 12, d)
        else
          let d := (d.set (KSLOT_W2_GEN o.slot) (d.get (KSLOT_W2_GEN o.slot) + 1)).invalidate o.slot
          let d := d.set (KSLOT_W2_PARENT_GEN o.slot) (d.get (KSLOT_W2_GEN (d.get (KSLOT_W0_PSLOT o.slot))))
          let (iv, d) := d.draw 96
          (.running 0 (d.wrapSlot o.slot iv) none, d))))

def execKeyRotate (s : State) : Host.Outcome State Fault Refusal := s.runOn 4 keyRotate

/-- EXPORT (R546). -/
def keyExport (d : Dev) : Dev := d.keyStart 4 (fun o d =>
  onOk (d.useSlot o.slot 7 7) (fun d => onOk (d.useParent o.slot) (fun d =>
    if d.key.rngBad then (.refused 15, d)
    else if !d.dstFits o 112 then (.refused 12, d)
    else
      let (iv, d) := d.draw 96
      (.running 0 (d.wrapSlot o.slot iv) none, d))))

def execKeyExport (s : State) : Host.Outcome State Fault Refusal := s.runOn 4 keyExport

/-- A derived key's type and usage under its parent: subset of the parent's usage, or anything but WRAP, EXPORT and LINE under an HKDF
secret (R538). -/
def Dev.derivable (d : Dev) (o : KeyOp) : Bool :=
  o.ty ≤ 3 && usageFits o.ty o.usage
    && (if d.get (KSLOT_W0_TYPE o.slot) = 3 then o.usage &&& 0x181 == 0
        else o.usage ||| d.get (KSLOT_W0_USAGE o.slot) == d.get (KSLOT_W0_USAGE o.slot))

/-- The output slot of DERIVE and AGREE (R545, R539). -/
def Dev.slot2Free (d : Dev) (o : KeyOp) : Bool := 2 ≤ o.slot2 && o.slot2 < 64 && d.slotOf o.slot2 == 0

/-- DERIVE (R546): HKDF-SHA-384 with salt and info of AUX split at the SRC length. -/
def keyDerive (d : Dev) : Dev := d.keyStart 5 (fun o d =>
  onOk (d.useSlot o.slot 4 4) (fun d =>
    if !d.auxIn o || 48 < o.srcLen || o.auxLen < o.srcLen || 80 < o.auxLen - o.srcLen then (.refused 12, d)
    else if !d.slot2Free o then (.refused 9, d)
    else if o.keyId = 0 then (.refused 8, d)
    else if !d.derivable o then (.refused 3, d)
    else
      let l := d.auxBytes o
      let v := hkdfExpand (hkdfExtract (l.take o.srcLen) (d.keyVal o.slot)) (l.drop o.srcLen) (keyLen o.ty)
      (.running 0 [] (some o.slot2), d.slotFill o.slot2 1 o.ty o.usage o.keyId 0 o.slot 0 0 true v)))

def execKeyDerive (s : State) : Host.Outcome State Fault Refusal := s.runOn 4 keyDerive

/-- SEAL (R546): AUX is IV, then AAD. -/
def keySeal (d : Dev) : Dev := d.keyStart 6 (fun o d =>
  onOk (d.useSlot o.slot 1 1) (fun d =>
    if 16384 < o.srcLen || o.auxLen < 12 || !d.srcIn o || !d.auxIn o || !d.dstFits o (o.srcLen + 16) then (.refused 12, d)
    else
      let x := d.auxBytes o
      (.running 0 (gcmSeal (d.keyVal o.slot) (x.take 12) (x.drop 12) (d.srcBytes o)) none, d)))

def execKeySeal (s : State) : Host.Outcome State Fault Refusal := s.runOn 4 keySeal

/-- OPEN (R546): nothing is written where the tag fails. -/
def keyOpen (d : Dev) : Dev := d.keyStart 7 (fun o d =>
  onOk (d.useSlot o.slot 2 2) (fun d =>
    if 16400 < o.srcLen || o.srcLen < 16 || o.auxLen < 12 || !d.srcIn o || !d.auxIn o || !d.dstFits o (o.srcLen - 16) then
      (.refused 12, d)
    else
      let x := d.auxBytes o
      match gcmOpen (d.keyVal o.slot) (x.take 12) (x.drop 12) (d.srcBytes o) with
      | some l => (.running 0 l none, d)
      | none => (.running 7 [] none, d)))

def execKeyOpen (s : State) : Host.Outcome State Fault Refusal := s.runOn 4 keyOpen

/-- MAC (R546). -/
def keyMac (d : Dev) : Dev := d.keyStart 8 (fun o d =>
  onOk (d.useSlot o.slot 3 3) (fun d =>
    if !d.srcIn o || !d.dstFits o 48 then (.refused 12, d) else (.running 0 (hmac (d.keyVal o.slot) (d.srcBytes o)) none, d)))

def execKeyMac (s : State) : Host.Outcome State Fault Refusal := s.runOn 4 keyMac

/-- Whether the lifecycle state lets the identity be used for an operation (R556). -/
def Dev.identityMay (d : Dev) (o : KeyOp) : Bool :=
  o.slot != 1 || o.op == 10 || (d.lifecycle != 0 && (d.lifecycle != 3 || o.op == 9))

/-- SIGN (R546): ECDSA with a random nonce. -/
def keySign (d : Dev) : Dev := d.keyStart 9 (fun o d =>
  onOk (d.useSlot o.slot 5 5) (fun d =>
    if !d.identityMay o then (.refused 11, d)
    else if d.key.rngBad then (.refused 15, d)
    else if !d.srcIn o || !d.dstFits o 96 then (.refused 12, d)
    else
      let (k, d) := d.drawKey
      (.running 0 (ecdsaSign (beNat (d.keyVal o.slot)) k (d.srcBytes o)) none, d)))

def execKeySign (s : State) : Host.Outcome State Fault Refusal := s.runOn 4 keySign

/-- PUBKEY (R546). -/
def keyPubkey (d : Dev) : Dev := d.keyStart 10 (fun o d =>
  onOk (d.useSlot o.slot 5 6) (fun d =>
    if !d.dstFits o 97 then (.refused 12, d) else (.running 0 (ecPublic (beNat (d.keyVal o.slot))) none, d)))

def execKeyPubkey (s : State) : Host.Outcome State Fault Refusal := s.runOn 4 keyPubkey

/-- AGREE (R546): Z into SLOT2 as an HKDF secret. -/
def keyAgree (d : Dev) : Dev := d.keyStart 11 (fun o d =>
  onOk (d.useSlot o.slot 6 6) (fun d =>
    if !d.identityMay o then (.refused 11, d)
    else if o.srcLen ≠ 97 || !d.srcIn o then (.refused 12, d)
    else if !d.slot2Free o then (.refused 9, d)
    else if o.keyId = 0 then (.refused 8, d)
    else match ecPoint (d.srcBytes o) with
      | none => (.refused 14, d)
      | some q =>
        (.running 0 [] (some o.slot2),
          d.slotFill o.slot2 1 3 0x10 o.keyId 0 o.slot 0 0 true (ecdh (beNat (d.keyVal o.slot)) q))))

def execKeyAgree (s : State) : Host.Outcome State Fault Refusal := s.runOn 4 keyAgree

/-- The proof by a unit over some bytes (R549). -/
def proofOf (line : List Byte) (unit : Nat) (x : List Byte) : List Byte := hmac line (ascii "Darquin proof" ++ natBE 8 unit ++ x)

/-- PROVE (R546, R549, R556). -/
def keyProve (d : Dev) : Dev := d.keyStart 12 (fun o d =>
  if d.lifecycle = 0 then (.refused 11, d)
  else onOk (d.useSlot (d.get KEY_LINE_SLOT) 8 8) (fun d =>
    if o.srcLen < 1 || 64 < o.srcLen || !d.srcIn o || !d.dstFits o 48 then (.refused 12, d)
    else
      let uid := d.get STN_UID_HI_UID * 2 ^ 32 + d.get STN_UID_LO_UID
      (.running 0 (proofOf (d.keyVal (d.get KEY_LINE_SLOT)) uid (d.srcBytes o)) none, d)))

def execKeyProve (s : State) : Host.Outcome State Fault Refusal := s.runOn 4 keyProve

/-- RANDOM (R546): as many bytes as DST has. -/
def keyRandom (d : Dev) : Dev := d.keyStart 13 (fun o d =>
  if d.key.rngBad then (.refused 15, d)
  else if 4096 < o.dstLen || !d.dstFits o o.dstLen then (.refused 12, d)
  else
    let (v, d) := d.draw (8 * o.dstLen)
    (.running 0 (natBE o.dstLen v) none, d))

def execKeyRandom (s : State) : Host.Outcome State Fault Refusal := s.runOn 4 keyRandom

/-- The helper record of an enrolment (R533, R535). -/
def helperOf (salt root offsets : List Byte) : List Byte :=
  natBE 4 0x454E4652 ++ natBE 2 1 ++ natBE 2 16 ++ salt ++ (hmac root (ascii "Darquin check")).take 16 ++ natBE 8 0
    ++ (offsets ++ List.replicate 2048 0).take 2048

/-- ENROLL (R535): in BLANK alone, from a PUF array not yet read. -/
def keyEnroll (d : Dev) : Dev := d.keyStart 14 (fun o d =>
  if d.lifecycle ≠ 0 then (.refused 11, d)
  else if d.key.rngBad then (.refused 15, d)
  else if !d.key.fresh then (.refused 10, d)
  else if !d.dstFits o 2112 then (.refused 12, d)
  else
    let (v, d) := d.draw 256
    let (n, d) := d.fresh
    let salt := natBE 32 v
    let root := (hkdfExtract salt (Config.enrolBits n)).take 32
    (.running 0 (helperOf salt root (Config.enrolOffsets n)) none, (d.modKey (fun k => { k with fresh := false })).rootIs root))

def execKeyEnroll (s : State) : Host.Outcome State Fault Refusal := s.runOn 4 keyEnroll

/-- VERIFY (R546): AUX is the public key, then the signature. -/
def keyVerify (d : Dev) : Dev := d.keyStart 15 (fun o d =>
  if o.auxLen ≠ 193 || !d.auxIn o || !d.srcIn o then (.refused 12, d)
  else
    let x := d.auxBytes o
    (.running (if ecdsaVerify (x.take 97) (x.drop 97) (d.srcBytes o) then 0 else 7) [] none, d))

def execKeyVerify (s : State) : Host.Outcome State Fault Refusal := s.runOn 4 keyVerify

/-! ### Completion, expiry, health, window -/

/-- A started operation completes: its output is written, the slot it fills is LOADED unless it has been emptied meanwhile, and DONE is
posted (R544, R547). -/
def keyOpDone (k : Nat) (d : Dev) : Dev :=
  match d.key.running[k]? with
  | none => d
  | some x =>
    let d := d.modKey (fun u => { u with running := u.running.eraseIdx k })
    let d := if x.out = [] then d else d.engWrite x.op.dst x.out
    let d := match x.fills with
      | some n => if d.slotOf n = 1 then d.slotGo n 2 else d
      | none => d
    let d := d.inc KEY_OPS_COUNT
    let d := if x.status = 7 then d.inc KEY_AUTHFAIL_COUNT else d
    d.event 0x19 0x0003 (x.op.tag + x.status * 2 ^ 8 + x.fills.getD x.op.slot % 64 * 2 ^ 16 + x.out.length * 2 ^ 32)

def execKeyOpDone (k : Fin 16) (s : State) : Host.Outcome State Fault Refusal := s.runOn 4 (keyOpDone k)

def execKeyExpiryCheck (s : State) : Host.Outcome State Fault Refusal := s.runOn 4 (fun d => keyExpiryCheck (d.reachMultiple 0 1000000000 0))

/-- The health test of the random source fails (R546, R557). -/
def rngHealthFail (d : Dev) : Dev :=
  ((d.modKey (fun k => { k with rngBad := true })).set KEY_STAT_RNG_OK 0).raise KEY_EVT_RNG_FAIL

def execRngHealthFail (s : State) : Host.Outcome State Fault Refusal := s.runOn 4 rngHealthFail

/-- READ of the slot window: the header of the slot, as one snapshot (R558). -/
def keySlotReadOp (d : Dev) : Dev :=
  let n := d.get KEY_SLOT_IDX_SLOT
  let w := [d.slotOf n + d.get (KSLOT_W0_TYPE n) * 2 ^ 3 + d.get (KSLOT_W0_DERIVED n) * 2 ^ 6 + d.get (KSLOT_W0_PSLOT n) * 2 ^ 8
              + d.get (KSLOT_W0_USAGE n) * 2 ^ 16,
            d.get (KSLOT_W1_KEY_ID n), d.get (KSLOT_W2_GEN n) + d.get (KSLOT_W2_PARENT_GEN n) * 2 ^ 16,
            d.get (KSLOT_W3_PARENT_ID n), d.get (KSLOT_W4_EXPIRY_LO n), d.get (KSLOT_W5_EXPIRY_HI n), d.get (KSLOT_W6_FLACON_LO n),
            d.get (KSLOT_W7_FLACON_HI n)]
  (forAll (List.range 8) (fun k d => d.set (KEY_SLOT_DATAk_WORD k) (w.getD k 0)) d).set KEY_SLOT_RES_DONE 1

def keySlotRead (d : Dev) : Dev := d.winRun KEY_SLOT_RES_DONE (keySlotReadOp)

def execKeySlotRead (s : State) : Host.Outcome State Fault Refusal := s.runOn 4 keySlotRead

/-- SEC dries down: queued operations are refused RESET (R544); those that have started complete in DRAIN. -/
def Dev.keyQuiesce (d : Dev) : Dev := forAll d.key.queue (fun o d => d.keyRefuse o.tag 16) (d.setKeyQueue [])

end Sys2Proof.Machine
end

