-- ==== Sys2Proof/Machine/Budget.lean ====
section
/-! DEFINITION. The Type-C port controllers (spec 13), first part: events (R433), offers and Power Data Objects (R411), the node
budget (R415 to R418), regulator requests (R419), and the alternate modes' lanes (R406, R427, R428). -/

namespace Sys2Proof.Machine

/-- An event flag of a port: bit `b` of `PDC_Pn_EVT`; an enabled flag that goes from 0 to 1 posts its record (R433, R616). -/
def Dev.pdcRaise (n b extra : Nat) (d : Dev) : Dev :=
  d.setFlag ⟨(PDC_Pn_EVT_ATTACH n).key + b, 1, 0⟩ ⟨(PDC_Pn_EVT_EN_ATTACH n).key + b, 1, 0⟩
    (fun d => ⟨0x0200 + b, 0x1B, d.stamp, n + d.readReg (PDC_Pn_STAT_A n) * 2 ^ 16 + extra * 2 ^ 48⟩) Dev.postAon

/-- The state of a port (R432): 0 Unattached, 1 AttachWait, 2 Attached.SRC, 3 Attached.SNK, 4 Debug, 5 ErrorRecovery, 6 Disabled. -/
def Dev.conn (d : Dev) (n : Nat) : Nat := d.get (PDC_Pn_STAT_CONN n)

/-- Whether a port runs: the port controllers and its own EN. -/
def Dev.pdcOn (d : Dev) (n : Nat) : Bool := d.flag PDC_CTL_EN && d.flag (PDC_Pn_CFG_EN n)

/-- A field of `PDC_Pn_CFG` as it read at the port's attach: later changes act at the next (R432). -/
def Dev.latched (d : Dev) (n : Nat) (f : Fld) : Nat := bitsOf (d.pc n).cfg (f.key - (PDC_Pn_CFG_EN n).key) f.w

/-- `PDC_Pn_CFG` taken over at an attach. -/
def Dev.latchCfg (n : Nat) (d : Dev) : Dev := d.modPc n (fun x => { x with cfg := d.readReg (PDC_Pn_CFG_A n) })

/-- Whether a port sources VBUS. -/
def Dev.isSource (d : Dev) (n : Nat) : Bool := d.conn n == 2 || d.conn n == 4

/-- Whether a port has a partner: attached, and not discharging VBUS after a detach (R424, R430). -/
def Dev.attached (d : Dev) (n : Nat) : Bool := (d.conn n == 2 || d.conn n == 3 || d.conn n == 4) && !(d.pc n).discharge

/-- Whether a port sources VBUS to a partner. -/
def Dev.sourcing (d : Dev) (n : Nat) : Bool := d.isSource n && d.attached n

/-! ### The budget -/

/-- The allocations of all ports. -/
def Dev.sumAlloc (d : Dev) : Nat := ((List.range 8).map (fun q => d.get (PDC_Pn_ALLOC_W q))).foldl (· + ·) 0

def Dev.setAlloc (n w : Nat) (d : Dev) : Dev :=
  let d := d.set (PDC_Pn_ALLOC_W n) w
  d.set PDC_ALLOC_SUM_W d.sumAlloc

/-- The allocations of the other ports. -/
def Dev.others (d : Dev) (n : Nat) : Nat := d.sumAlloc - d.get (PDC_Pn_ALLOC_W n)

/-- The available power of a port (R415). -/
def Dev.available (d : Dev) (n : Nat) : Nat := d.get PDC_NODE_NODE_W - d.others n

/-- MAX_W and MIN_W as they act (R415, R432). -/
def Dev.maxW (d : Dev) (n : Nat) : Nat := min 2400 (d.get (PDC_Pn_LIMIT_MAX_W n))
def Dev.minW (d : Dev) (n : Nat) : Nat := max 25 (d.get (PDC_Pn_LIMIT_MIN_W n))

/-- The offer of a port (R415). -/
def Dev.offerOf (d : Dev) (n : Nat) : Nat := min (d.maxW n) (d.available n)

/-- A shed port does not become a source before its available power reaches its MIN_W (R417). -/
def Dev.barred (d : Dev) (n : Nat) : Bool := (d.pc n).shed && decide (d.available n < d.minW n)

/-- The power of an Rp advertisement in 100 mW (R408, R415). -/
def rpPower (r : Nat) : Nat := [25, 75, 150].getD r 150

/-- The highest Rp of a port whose power is funded (R417). -/
def Dev.fundable (d : Dev) (n : Nat) : Option Nat :=
  ((List.range 3).filter (fun r => r ≤ d.latched n (PDC_Pn_CFG_RP n) && rpPower r ≤ d.available n)).getLast?

/-! ### Capabilities -/

/-- The cable's current in mA (R411). -/
def Dev.cableMa (d : Dev) (n : Nat) : Nat := if d.get (PDC_Pn_STAT_CABLE_I n) = 2 then 5000 else 3000

/-- The object that a source entry gives under an offer, without its position: none where its current is below 0.5 A or its type
is not one of its table (R411). -/
def Dev.sprPdo (d : Dev) (n o k : Nat) : Option Pdo :=
  let mv := 50 * d.get (PDC_SRC_SPRk_VMAX k)
  let ma := min (50 * d.get (PDC_SRC_SPRk_IMAX k)) (min (d.cableMa n) (o * 100000 / mv))
  let ty := d.get (PDC_SRC_SPRk_TYPE k)
  let ma := if ty = 0 then ma / 10 * 10 else ma / 50 * 50
  if d.get (PDC_SRC_SPRk_EN k) = 1 ∧ (ty = 0 ∨ (ty = 1 ∧ d.get (PDC_Pn_STAT_REV n) ≠ 1)) ∧ 500 ≤ ma then
    some ⟨0, ty, mv, if ty = 0 then mv else 50 * d.get (PDC_SRC_SPRk_VMIN k), ma⟩
  else none

def Dev.eprPdo (d : Dev) (n o k : Nat) : Option Pdo :=
  let mv := 50 * d.get (PDC_SRC_EPRk_VMAX k)
  let imax := 50 * d.get (PDC_SRC_EPRk_IMAX k)
  let ty := d.get (PDC_SRC_EPRk_TYPE k)
  if d.get (PDC_SRC_EPRk_EN k) = 1 ∧ ty = 0 then some ⟨0, 0, mv, mv, min imax (min (d.cableMa n) (o * 100000 / mv)) / 10 * 10⟩
  else if d.get (PDC_SRC_EPRk_EN k) = 1 ∧ ty = 2 then
    some ⟨0, 2, mv, 50 * d.get (PDC_SRC_EPRk_VMIN k), min (o * 100000) (mv * imax) / 1000000⟩
  else none

/-- Objects numbered from a position on. -/
def numbered (p : Nat) : List Pdo → List Pdo
  | [] => []
  | x :: t => { x with pos := p } :: numbered (p + 1) t

/-- The objects of a port under an offer (R411). -/
def Dev.pdos (d : Dev) (n o : Nat) : List Pdo :=
  let cap := if d.get (PDC_SRC_SPRk_EN 0) = 1 then 50 * d.get (PDC_SRC_SPRk_IMAX 0) else 3000
  let base : Pdo := ⟨1, 0, 5000, 5000, min cap (min 3000 (min (d.cableMa n) (o * 20))) / 10 * 10⟩
  let spr := numbered 2 ([1, 2, 3, 4, 5, 6].filterMap (d.sprPdo n o))
  if d.flag (PDC_Pn_STAT_EPR n) then
    let fill := (List.range (6 - spr.length)).map (fun k => (⟨2 + spr.length + k, 0, 0, 0, 0⟩ : Pdo))
    base :: spr ++ fill ++ numbered 8 ([0, 1, 2, 3].filterMap (d.eprPdo n o))
  else base :: spr

/-- Source_Capabilities formed with an offer and sent (R411). -/
def Dev.sendCaps (n o : Nat) (d : Dev) : Dev :=
  let l := d.pdos n o
  (d.modPc n (fun x => { x with objs := l, offer := o, wait := .request })).pdSend n (.sourceCaps l)

/-! ### The regulator -/

/-- A request to the VBUS regulator of a port: VOUT_COMMAND and OPERATION on; a detach's goes ahead of all but the one in
progress (R419, R424, R524). -/
def Dev.askRegulator (n mv : Nat) (ahead : Bool) (d : Dev) : Dev :=
  let r : PmbReq := ⟨n, d.get (PDC_Pn_REG_ADDR n), d.get (PDC_Pn_REG_PAGE n), mv, false⟩
  let q := d.power.pmb.take 1 ++ (d.power.pmb.drop 1).filter (fun x => x.owner != n)
  { d with power := { d.power with pmb := if ahead then q.take 1 ++ [r] ++ q.drop 1 else q ++ [r] } }.modPc n
    (fun x => { x with asked := mv })

/-- 5 V asked for at an attach as Source or after a Hard Reset. -/
def Dev.askFirst (n : Nat) (d : Dev) : Dev :=
  (d.modPc n (fun x => { x with phase := 2, acked := false, first := true, pend := none })).askRegulator n 5000 false

/-- The implicit contract of an attach: 5 V at the Rp current (R432). -/
def Dev.implicitContract (n r : Nat) (sink : Bool) (d : Dev) : Dev :=
  let d := ((d.set (PDC_Pn_CONTRACT_VOLT n) 250).set (PDC_Pn_CONTRACT_CUR n) ([50, 150, 300].getD r 0)).set (PDC_Pn_CONTRACT_POS n) 0
  ((d.set (PDC_Pn_CONTRACT_TYPE n) 0).setB (PDC_Pn_CONTRACT_SINK n) sink).modPc n (fun x => { x with now := none })

/-- A port attaches as Source, or as a debug accessory's host, with an Rp (R417). -/
def Dev.attachSource (n r : Nat) (debug : Bool) (d : Dev) : Dev :=
  let d := ((d.set (PDC_Pn_STAT_CONN n) (if debug then 4 else 2)).set (PDC_Pn_STAT_RPCUR n) r).set (PDC_Pn_STAT_DFP n) 1
  let d := ((d.implicitContract n r false).setAlloc n (rpPower r)).modPc n
    (fun x => { x with debounced := false, tried := false, dwell := 0, shed := false })
  (d.askFirst n).pdcRaise n 0 0

/-! ### Reclaims and sheds -/

/-- The port that is reclaimed for a priority: largest PRIO number above it, then highest port, with more than its floor under an
explicit contract as Source (R416). -/
def Dev.victim (d : Dev) (prio : Option Nat) : Option Nat :=
  let ok := fun q => d.isSource q && d.flag (PDC_Pn_STAT_EXPLICIT q) && decide (d.minW q < d.get (PDC_Pn_ALLOC_W q))
    && (match prio with
      | some p => decide (p < d.get (PDC_Pn_CFG_PRIO q))
      | none => true)
  ((List.range 8).filter ok).foldl (fun b q =>
    match b with
    | none => some q
    | some x => if d.get (PDC_Pn_CFG_PRIO x) ≤ d.get (PDC_Pn_CFG_PRIO q) then some q else b) none

/-- What is short for a request: of a port that needs `need`, or of the node where `who` is 8 (R416, R417). -/
def Dev.shortfall (d : Dev) (who need : Nat) : Nat :=
  if who = 8 then d.sumAlloc - d.get PDC_NODE_NODE_W else need + d.others who - d.get PDC_NODE_NODE_W

/-- A Type-C port that is not attached as DFP shows no device on its external USB port (R463). -/
def Dev.hubGate (n : Nat) (d : Dev) : Dev :=
  if d.flag (PDC_Pn_STAT_DFP n) && (d.conn n == 2 || d.conn n == 3) then d
  else ((d.set (USB_HPp_CONN (7 + n)) 0).set (USB_HPp_ENABLED (7 + n)) 0).set (USB_HPp_SUSP (7 + n)) 0

/-- A port put down to the contract of nothing: it stops sourcing and its lanes stop; the caller sets its state. -/
def Dev.dropContract (n : Nat) (d : Dev) : Dev :=
  let d := ((d.set (PDC_Pn_STAT_EXPLICIT n) 0).set (PDC_Pn_STAT_EPR n) 0).modPc n
    (fun x => { x with pend := none, phase := 0, acked := false, first := false, now := none, wait := .none, swap := .none,
                       swapping := none, vdm := 0, tries := 0, toAlt := 0, objs := [], heard := none, heardCable := none })
  let d := ((d.set (PDC_Pn_CONTRACT_VOLT n) 0).set (PDC_Pn_CONTRACT_CUR n) 0).set (PDC_Pn_CONTRACT_POS n) 0
  let d := (d.set (PDC_Pn_CONTRACT_TYPE n) 0).set (PDC_Pn_CONTRACT_SINK n) 0
  { d with pdc := { d.pdc with asks := d.pdc.asks.filter (fun a => a.1 != n), busy := if d.pdc.busy = some n then none else d.pdc.busy } }

/-! ### Alternate modes -/

/-- What a port knew of its partner and cable is gone: revision, data role, VCONN and the e-marker's answers (R432). -/
def Dev.forgetPartner (n : Nat) (d : Dev) : Dev :=
  let d := ((d.set (PDC_Pn_STAT_VCONN n) 0).set (PDC_Pn_STAT_REV n) 0).set (PDC_Pn_STAT_DFP n) 0
  (((d.set (PDC_Pn_STAT_CABLE_I n) 0).set (PDC_Pn_STAT_CABLE_EPR n) 0).set (PDC_Pn_STAT_CABLE_SPD n) 0).modPc n
    (fun x => { x with marked := false })

/-- What the e-marker of the cable answers: current (0 none, 1 3 A, 2 5 A), EPR capability, USB Highest Speed (R411, R413, R428). -/
def Dev.putCable (n cur : Nat) (epr : Bool) (spd : Nat) (d : Dev) : Dev :=
  (((d.set (PDC_Pn_STAT_CABLE_I n) cur).setB (PDC_Pn_STAT_CABLE_EPR n) epr).set (PDC_Pn_STAT_CABLE_SPD n) spd).modPc n
    (fun x => { x with marked := cur != 0 })

/-- The alternate mode of a port ends: its lanes go to electrical idle, its link fails with cause LOCK, the video of its engine stops
(R427, R436). -/
def Dev.exitAlt (n : Nat) (d : Dev) : Dev :=
  let alt := d.get (PDC_Pn_STAT_ALT n)
  let d := d.modPc n (fun x => { x with vdm := 0, tries := 0, toAlt := 0, lanes := false })
  if alt = 0 then d
  else
    let d := if alt = 2 ∧ d.domOn (laneDomain n) then d.seqOff (2 + n) else d
    let d := ((d.set (PDC_Pn_STAT_ALT n) 0).set (PDC_Pn_STAT_PIN n) 0).set (PDC_Pn_STAT_HPD n) 0
    (d.passHpd n).pdcRaise n 9 0

/-- The modes a port allows, masked by its cable (R428). -/
def Dev.altAllow (d : Dev) (n : Nat) : Nat :=
  if 3 ≤ d.get (PDC_Pn_STAT_CABLE_SPD n) ∨ d.flag (TCL_CTL_FORCE_L25 n) then 0x19 else 0x01

/-- A mode entered: ALT_NO_LANES where the lanes' domain is not ON, and the lanes are then left idle (R406); in DisplayPort Alt Mode the
routed engine sees HPD (R436). -/
def Dev.enterAlt (n alt : Nat) (d : Dev) : Dev :=
  let d := ((d.set (PDC_Pn_STAT_ALT n) alt).passHpd n).pdcRaise n 9 0
  if d.domOn (laneDomain n) then d else d.pdcRaise n 10 0

/-- T_CONFIG acknowledged: the lane group starts out of OFF, once its domain is ON and its lanes have been idle for the 5 µs after a failure
(R103, R406, R429). -/
def Dev.startLanes (n : Nat) (d : Dev) : Dev :=
  let d := d.modPc n (fun x => { x with lanes := true })
  if d.domOn (laneDomain n) && d.flag (TCL_CTL_EN n) && d.seqState (2 + n) == 0 then
    let d := d.set (TCL_CFG_ALLOW n) (d.pc n).allow
    if d.linkState (2 + n) = 5 then d else d.tclStart (2 + n)
  else d

/-- The lanes of a domain that has come ON start for the ports whose mode waits for them: the lane group in Tirrun mode, the routed
engine's output in DisplayPort Alt Mode (R406). -/
def Dev.lanesOn (dom : Nat) (d : Dev) : Dev :=
  forAll ((List.range 8).filter (fun n => laneDomain n == dom && (d.pc n).lanes && d.get (PDC_Pn_STAT_ALT n) == 2))
    (fun n d => d.startLanes n) (forAll ((List.range 8).filter (fun n => laneDomain n == dom)) Dev.passHpd d)

/-! ### One evaluation of the budget -/

/-- A port is shed: its switch opens, it goes to ErrorRecovery, or to Unattached where it only waited (R417). -/
def Dev.shedPort (n st : Nat) (d : Dev) : Dev :=
  let d := (((d.exitAlt n).dropContract n).forgetPartner n).setAlloc n 0
  let d := d.modPc n (fun x => { x with closed := false, discharge := st == 5, debounced := false, shed := true, rp := false })
  (((d.set (PDC_Pn_STAT_CONN n) st).hubGate n).inc PDC_SHEDS_COUNT).pdcRaise n 7 0

/-- Ports shed, largest PRIO number first, until the allocations fit; the number bounds the ports (R417). -/
def Dev.shedUntil : Nat → Dev → Dev
  | 0, d => d
  | k + 1, d =>
    if d.sumAlloc ≤ d.get PDC_NODE_NODE_W then d
    else
      let l := (List.range 8).filter (fun q => 0 < d.get (PDC_Pn_ALLOC_W q))
      match l.foldl (fun b q =>
        match b with
        | none => some q
        | some x => if d.get (PDC_Pn_CFG_PRIO x) ≤ d.get (PDC_Pn_CFG_PRIO q) then some q else b) (none : Option Nat) with
      | some q => (d.shedPort q 5).shedUntil k
      | none => d

/-- The requests that wait are served one after another, one reclaim at a time (R416, R417); the number bounds the requests. -/
def Dev.reclaim : Nat → Dev → Dev
  | 0, d => d
  | k + 1, d =>
    match d.pdc.busy, d.pdc.asks with
    | none, (who, need) :: rest =>
      let s := d.shortfall who need
      match (if s = 0 then none else d.victim (if who = 8 then none else some (d.get (PDC_Pn_CFG_PRIO who)))) with
      | some q =>
        let o := max (d.minW q) (d.get (PDC_Pn_ALLOC_W q) - s)
        ({ d with pdc := { d.pdc with busy := some q } }.inc PDC_RECLAIMS_COUNT).sendCaps q o
      | none =>
        let d := { d with pdc := { d.pdc with asks := rest } }
        (if who = 8 then d.shedUntil 8 else d).reclaim k
    | _, _ => d

/-- Ports of AttachWait.SRC that tCCDebounce has let go, in rising PRIO number and then port (R417, R418). -/
def Dev.waitingPower (d : Dev) : List Nat :=
  (List.range 8).flatMap (fun p => (List.range 8).filter (fun n =>
    d.get (PDC_Pn_CFG_PRIO n) == p && d.conn n == 1 && (d.pc n).debounced))

/-- Power has come free or a port has asked: reclaims go on, and ports that wait attach where at least Default is funded (R416 to
R418). -/
def Dev.budget (d : Dev) : Dev :=
  let d := d.reclaim (d.pdc.asks.length + 1)
  forAll d.waitingPower (fun n d =>
    match d.fundable n with
    | some r => d.attachSource n r (d.pc n).debug
    | none => d) d

/-- The rank of a request for power: rising PRIO number, then port; a write of NODE_W comes after the requests of ports (R418, R430). -/
def Dev.askRank (d : Dev) (who : Nat) : Nat := if who = 8 then 64 else 8 * d.get (PDC_Pn_CFG_PRIO who) + who

/-- A request put among those that wait, by its rank. -/
def Dev.insertAsk (d : Dev) (a : Nat × Nat) : List (Nat × Nat) → List (Nat × Nat)
  | [] => [a]
  | b :: t => if d.askRank a.1 < d.askRank b.1 then a :: b :: t else b :: d.insertAsk a t

/-- A request for power, and its evaluation (R416, R418). The request for which a reclaim runs stays in front. -/
def Dev.askPower (who need : Nat) (d : Dev) : Dev :=
  if d.shortfall who need = 0 then d
  else
    let k := if d.pdc.busy.isSome then 1 else 0
    { d with pdc := { d.pdc with asks := d.pdc.asks.take k ++ d.insertAsk (who, need) (d.pdc.asks.drop k) } }.budget

end Sys2Proof.Machine
end

