-- ==== Sys2Proof/Machine/Pdc.lean ====
section
/-! DEFINITION. The Type-C port controllers (spec 13), second part: attach and detach (R416, R417, R424), contracts (R412 to R414,
R419, R420), swaps (R422, R423), the alternate modes (R425 to R427) and commands (R433). -/

namespace Sys2Proof.Machine

/-! ### Commands and swaps -/

/-- A command of a port ends (R433). -/
def Dev.cmdEnd (n result : Nat) (d : Dev) : Dev :=
  ((d.set (PDC_Pn_CMDRES_DONE n) 1).set (PDC_Pn_CMDRES_RESULT n) result).pdcRaise n 11 0

/-- The own swap request of a port ends with a result. -/
def Dev.ownEnd (n result : Nat) (d : Dev) : Dev :=
  let x := d.pc n
  if x.own.isNone then d
  else
    let d := d.modPc n (fun x => { x with own := none, retried := false, after := false, byCmd := false
                                          swap := if x.swap = .sent ∨ x.swap = .again then .none else x.swap })
    if x.byCmd then d.cmdEnd n result else d

/-- The message of a swap request. -/
def swapMsg (k : Nat) : PdMsg := if k = 2 then .prSwap else if k = 3 then .drSwap else .vconnSwap

/-- A swap asked for by the port (R422). -/
def Dev.askSwap (n k : Nat) (cmd : Bool) (d : Dev) : Dev :=
  (d.modPc n (fun x => { x with own := some k, retried := false, byCmd := cmd, after := false, swap := .sent })).pdSend n (swapMsg k)

/-- The step of discovery or entry that a port sends (R425 to R427). -/
def Dev.sendVdm (n step : Nat) (d : Dev) : Dev :=
  let svid := if (d.pc n).toAlt = 2 then 0xC7A1 else 0xFF01
  let m : PdMsg :=
    if step = 1 then .vdm true 0xFF00 1 [] else if step = 2 then .vdm false 0xFF00 1 [] else if step = 3 then .vdm false 0xFF00 2 []
    else if step = 4 then .vdm false svid 3 [] else if step = 5 then .vdm false svid 4 []
    else if step = 6 then
      .vdm false 0xC7A1 0x10 [d.get STN_ID_NUM * 2 ^ 20 + d.get STN_ID_DEPTH * 2 ^ 18 + d.altAllow n]
    else if step = 7 then .vdm false 0xFF01 0x10 [] else .vdm false 0xFF01 0x11 [(d.pc n).pins]
  (d.modPc n (fun x => { x with vdm := step })).pdSend n m

def Dev.nextVdm (n step : Nat) (d : Dev) : Dev := (d.modPc n (fun x => { x with tries := 0 })).sendVdm n step

/-- Whether a port wants to enter an alternate mode as DFP. -/
def Dev.wantsAlt (d : Dev) (n : Nat) : Bool := d.latched n (PDC_Pn_CFG_TIRRUN_DFP n) == 1 || d.latched n (PDC_Pn_CFG_DP_EN n) == 1

/-- With an explicit contract in place the DFP starts discovery; a UFP that wants a mode as DFP asks for a DR_Swap (R422, R425). -/
def Dev.startAlt (n : Nat) (d : Dev) : Dev :=
  let x := d.pc n
  if !d.flag (PDC_Pn_STAT_EXPLICIT n) || d.get (PDC_Pn_STAT_ALT n) != 0 || x.vdm != 0 || !d.wantsAlt n then d
  else if d.flag (PDC_Pn_STAT_DFP n) then d.nextVdm n (if d.flag (PDC_Pn_STAT_VCONN n) then 1 else 2)
  else if d.latched n (PDC_Pn_CFG_DR_PREF n) == 1 && x.own.isNone then d.askSwap n 3 false
  else d

/-- A swap completes: `mine` where the port had asked for it. A request held back for it may then be sent again (R422, R423). -/
def Dev.swapEnd (n : Nat) (mine : Bool) (d : Dev) : Dev :=
  let d := (d.modPc n (fun x => { x with swapping := none, swap := .none })).pdcRaise n 4 0
  let d := if mine then d.ownEnd n 0
    else d.modPc n (fun x => { x with after := false, swap := if x.own.isSome then .again else .none })
  d.startAlt n

/-- A swap accepted goes on (R422): a DR_Swap at once, a VCONN_Swap or PR_Swap up to a PS_RDY. -/
def Dev.doSwap (n k : Nat) (mine : Bool) (d : Dev) : Dev :=
  if k = 3 then ((d.setB (PDC_Pn_STAT_DFP n) (!d.flag (PDC_Pn_STAT_DFP n))).hubGate n).swapEnd n mine
  else if k = 4 then
    if d.flag (PDC_Pn_STAT_VCONN n) then d.modPc n (fun x => { x with swapping := some (4, mine), swap := .ready })
    else ((d.set (PDC_Pn_STAT_VCONN n) 1).pdSend n .psRdy).swapEnd n mine
  else
    let d := if d.isSource n then (d.modPc n (fun x => { x with closed := false })).pdSend n .psRdy else d
    d.modPc n (fun x => { x with swapping := some (2, mine), swap := .ready })

/-- A swap request of the partner: answered, or settled as a collision with the port's own (R422, R423). -/
def Dev.swapIn (n k : Nat) (accept : Bool) (d : Dev) : Dev :=
  let x := d.pc n
  if x.swap = .sent ∧ d.isSource n then d.pdSend n .wait
  else
    let d := if x.swap = .sent then
        (if x.retried then d.ownEnd n 6
         else d.modPc n (fun x => { x with retried := true, after := true, swap := .again }))
      else d
    if accept then (d.pdSend n .accept).doSwap n k false
    else (d.pdSend n .reject).modPc n (fun x => { x with after := false })

/-! ### Contracts -/

/-- A contract takes effect: its registers, its allocation, and the power that came free (R412, R416). -/
def Dev.contractDone (n : Nat) (c : Contract) (d : Dev) : Dev :=
  let d := ((d.set (PDC_Pn_CONTRACT_VOLT n) (c.mv / 20)).set (PDC_Pn_CONTRACT_CUR n) (c.ma / 10)).set (PDC_Pn_CONTRACT_POS n) c.pos
  let d := ((d.set (PDC_Pn_CONTRACT_TYPE n) c.ty).setB (PDC_Pn_CONTRACT_SINK n) c.sink).set (PDC_Pn_STAT_EXPLICIT n) 1
  let d := d.modPc n (fun x => { x with now := some c, pend := none, phase := 0, wait := .none })
  let d := if c.sink then d else d.setAlloc n c.alloc
  let d := { d with pdc := { d.pdc with busy := if d.pdc.busy = some n then none else d.pdc.busy } }
  ((d.pdcRaise n 2 0).budget).startAlt n

/-- Hard Reset, sent or received: the contract and the alternate mode end, own swaps end TIMEOUT, and a Source starts again from
5 V (R427, R430). -/
def Dev.hardReset (n : Nat) (d : Dev) : Dev :=
  let d := ((d.inc (PDC_Pn_HRESET_COUNT n)).pdcRaise n 6 0).ownEnd n 3
  let src := d.isSource n
  let d := ((d.exitAlt n).dropContract n).modPc n (fun x => { x with closed := false })
  let d := if src then
      ((((d.implicitContract n (d.get (PDC_Pn_STAT_RPCUR n)) false).setAlloc n (rpPower (d.get (PDC_Pn_STAT_RPCUR n)))).set
        (PDC_Pn_STAT_DFP n) 1).askFirst n)
    else (d.implicitContract n (d.get (PDC_Pn_STAT_RPCUR n)) true).set (PDC_Pn_STAT_DFP n) 0
  (d.hubGate n).budget

/-- A VBUS fault: Hard Reset and VBUS_FAULT (R420). -/
def Dev.vbusFault (n : Nat) (d : Dev) : Dev := ((d.inc (PDC_Pn_VFAULT_COUNT n)).pdcRaise n 5 0).hardReset n

/-- A message received from the partner, or from the cable: a repeat, known by its MessageID, is acknowledged with GoodCRC and otherwise
ignored (R409). A port without a partner hears nothing. -/
def Dev.hear (n : Nat) (cable : Bool) (id : Nat) (f : Dev → Dev) (d : Dev) : Dev :=
  let x := d.pc n
  if !d.attached n || (if cable then x.heardCable else x.heard) = some id then d
  else f (d.modPc n (fun x => if cable then { x with heardCable := some id } else { x with heard := some id }))

/-! ### Attach -/

/-- Rd seen by a port that presents Rp: AttachWait.SRC, and a reclaim where it is short (R416). A port that was shed does not
attach before its floor is available (R417). -/
def ccRdDetect (n : Nat) (cc2 : Bool) (d : Dev) : Dev :=
  let role := d.get (PDC_Pn_CFG_ROLE n)
  let x := d.pc n
  if d.pdcOn n && d.conn n == 0 && (role == 0 || (role == 2 && x.rp)) && !d.barred n then
    let d := ((d.latchCfg n).set (PDC_Pn_STAT_CONN n) 1).setB (PDC_Pn_STAT_FLIP n) cc2
    (d.modPc n (fun x => { x with debounced := false, shed := false, dwell := 0 })).askPower n (d.maxW n)
  else d

def execCcRdDetect (n : Fin 8) (cc2 : Bool) (s : State) : Host.Outcome State Fault Refusal := s.run (ccRdDetect n cc2)

/-- tCCDebounce ends (R417). `cur`: the e-marker's current (0 none, 1 3 A, 2 5 A); `epr`, `spd`: its EPR capability and highest
speed; `debug`: a debug accessory. Try.SNK comes first (R408). A port disabled meanwhile presents Rd only and does not attach (R431). -/
def ccDebounceDone (n cur : Nat) (epr : Bool) (spd : Nat) (debug : Bool) (d : Dev) : Dev :=
  if d.conn n ≠ 1 ∨ (d.pc n).debounced ∨ (d.pc n).dwell ≠ 0 then d
  else if !d.pdcOn n then (d.set (PDC_Pn_STAT_CONN n) 0).budget
  else
    let d := d.putCable n cur epr spd
    if d.latched n (PDC_Pn_CFG_TRY n) = 2 ∧ d.latched n (PDC_Pn_CFG_ROLE n) = 2 ∧ !(d.pc n).tried then
      d.modPc n (fun x => { x with dwell := 2, tried := true, rp := false })
    else match d.fundable n with
      | some r => d.attachSource n r debug
      | none => d.modPc n (fun x => { x with debounced := true, debug := debug })

def execCcDebounceDone (n : Fin 8) (cur : Fin 3) (epr : Bool) (spd : Fin 8) (debug : Bool) (s : State) :
    Host.Outcome State Fault Refusal := s.run (ccDebounceDone n cur epr spd debug)

/-- 500 ms after AttachWait.SRC without Default funded (R417). -/
def attachwaitTimeout (n : Nat) (d : Dev) : Dev := if d.conn n = 1 ∧ (d.pc n).debounced then d.shedPort n 0 else d

def execAttachwaitTimeout (n : Fin 8) (s : State) : Host.Outcome State Fault Refusal := s.run (attachwaitTimeout n)

/-- A port attaches as Sink. -/
def Dev.attachSink (n rp : Nat) (d : Dev) : Dev :=
  let d := ((d.forgetPartner n).set (PDC_Pn_STAT_CONN n) 3).set (PDC_Pn_STAT_RPCUR n) rp
  let d := (d.implicitContract n rp true).modPc n (fun x => { x with tried := false, dwell := 0, debounced := false })
  d.pdcRaise n 0 0

/-- Rp and VBUS seen by a Sink or DRP port; Try.SRC comes first (R408, R410). -/
def ccRpDetect (n : Nat) (cc2 : Bool) (rp : Nat) (d : Dev) : Dev :=
  let role := d.get (PDC_Pn_CFG_ROLE n)
  let x := d.pc n
  if d.pdcOn n && d.conn n == 0 && (role == 1 || (role == 2 && !x.rp)) then
    let d := (d.latchCfg n).setB (PDC_Pn_STAT_FLIP n) cc2
    if d.get (PDC_Pn_CFG_TRY n) = 1 ∧ role = 2 ∧ !x.tried ∧ !d.barred n then
      (d.set (PDC_Pn_STAT_RPCUR n) rp).modPc n (fun x => { x with dwell := 1, tried := true, rp := true })
    else d.attachSink n rp
  else d

def execCcRpDetect (n : Fin 8) (cc2 : Bool) (rp : Fin 3) (s : State) : Host.Outcome State Fault Refusal :=
  s.run (ccRpDetect n cc2 rp)

/-- An unattached DRP port turns between Rp and Rd (R410). -/
def drpToggle (n : Nat) (d : Dev) : Dev :=
  if d.pdcOn n && d.conn n == 0 && d.get (PDC_Pn_CFG_ROLE n) == 2 && (d.pc n).dwell == 0 then
    d.modPc n (fun x => { x with rp := !x.rp })
  else d

def execDrpToggle (n : Fin 8) (s : State) : Host.Outcome State Fault Refusal := s.run (drpToggle n)

/-- The dwell of Try.SRC or Try.SNK ends (R410); `found`: the partner took the other role. Otherwise the port takes the role it
had before the try. A port disabled meanwhile, or shed and short of its floor, does not become a source (R417, R431). -/
def tryDwellExpire (n : Nat) (found : Bool) (d : Dev) : Dev :=
  let w := (d.pc n).dwell
  let d := d.modPc n (fun x => { x with dwell := 0 })
  let rp := d.get (PDC_Pn_STAT_RPCUR n)
  if !d.pdcOn n then d.modPc n (fun x => { x with rp := false })
  else if w = 1 then
    (if found then (if d.barred n then d.modPc n (fun x => { x with rp := false }) else (d.set (PDC_Pn_STAT_CONN n) 1).askPower n (d.maxW n))
     else d.attachSink n rp)
  else if w = 2 then (if found then d.attachSink n rp else d)
  else d

def execTryDwellExpire (n : Fin 8) (found : Bool) (s : State) : Host.Outcome State Fault Refusal := s.run (tryDwellExpire n found)

/-! ### Detach -/

/-- Detach overrides all else (R424, R430); between an Accept and its PS_RDY it is a detach in transition: the mode and the contract end, the switch opens, VBUS of a Source discharges. -/
def detachConfirmed (n : Nat) (d : Dev) : Dev :=
  if d.conn n = 1 then
    (((d.set (PDC_Pn_STAT_CONN n) 0).dropContract n).forgetPartner n).modPc n
      (fun x => { x with debounced := false, tried := false, dwell := 0 }) |>.budget
  else if d.attached n then
    let x := d.pc n
    let src := d.isSource n
    let d := match (if src ∨ x.wait = .ready then x.pend else none) with
      | some c => (d.inc (PDC_Pn_DIT_COUNT n)).pdcRaise n 3 (c.mv / 20)
      | none => d
    let d := (((d.ownEnd n 3).exitAlt n).dropContract n).forgetPartner n
    let d := ((d.pdcRaise n 1 0).hubGate n).modPc n (fun x => { x with closed := false, discharge := src })
    if src then (d.askRegulator n 5000 true).budget
    else ((d.set (PDC_Pn_STAT_CONN n) 0).set (PDC_Pn_STAT_RPCUR n) 0).budget
  else d

def execDetachConfirmed (n : Fin 8) (s : State) : Host.Outcome State Fault Refusal := s.run (detachConfirmed n)

/-- VBUS below 0.8 V: the discharge is released, the allocation returned, the port Unattached (R424). -/
def vbusDischarged (n : Nat) (d : Dev) : Dev :=
  if (d.pc n).discharge then
    let d := ((d.modPc n (fun x => { x with discharge := false })).setAlloc n 0).set (PDC_Pn_STAT_CONN n) 0
    ((d.set (PDC_Pn_STAT_RPCUR n) 0).set (PDC_Pn_STAT_DFP n) 0).budget
  else d

def execVbusDischarged (n : Fin 8) (s : State) : Host.Outcome State Fault Refusal := s.run (vbusDischarged n)

/-! ### Messages of a contract -/

/-- Whether a Fixed object is wanted by the sink table (R414). -/
def Dev.sinkTakes (d : Dev) (o : Pdo) : Bool :=
  o.ty == 0 && (List.range 4).any (fun k => d.flag (PDC_SNKk_EN k) && d.get (PDC_SNKk_TYPE k) == 0
    && 50 * d.get (PDC_SNKk_VMAX k) == o.vmax && decide (o.limit ≤ 50 * d.get (PDC_SNKk_IMAX k)))

/-- Source_Capabilities received as a sink: a Request for the object of highest power that the sink table takes (R414). `rev3`: the
partner speaks Revision 3.x. -/
def sourceCapsRx (n : Nat) (rev3 : Bool) (objs : List (BitVec 16 × BitVec 16)) (d : Dev) : Dev :=
  if d.conn n ≠ 3 then d
  else
    let d := d.set (PDC_Pn_STAT_REV n) (if rev3 then 2 else 1)
    let l := numbered 1 (objs.map (fun o => ⟨0, 0, o.1.toNat, o.1.toNat, o.2.toNat⟩))
    let best := (l.filter d.sinkTakes).foldl (fun b o =>
      match b with
      | none => some o
      | some x => if x.vmax * x.limit < o.vmax * o.limit ∨ (x.vmax * x.limit = o.vmax * o.limit ∧ x.vmax < o.vmax) then some o
                  else b) (none : Option Pdo)
    let c : Contract := match best with
      | some o => ⟨o.pos, 0, o.vmax, o.limit, 0, true⟩
      | none => ⟨1, 0, 5000, 100, 0, true⟩
    (d.modPc n (fun x => { x with pend := some c, wait := .answer })).pdSend n (.request c.pos c.ma best.isNone)

def execSourceCapsRx (n id : Fin 8) (rev3 : Bool) (objs : List (BitVec 16 × BitVec 16)) (s : State) :
    Host.Outcome State Fault Refusal := s.run (Dev.hear n false id (sourceCapsRx n rev3 objs))

/-- The contract that a Request asks for, in the capabilities last sent: its voltage in 20 mV and its current in 10 mA count for
PPS and AVS as the object allows (R412). -/
def Dev.contractOf (d : Dev) (n pos volt cur : Nat) : Option Contract :=
  match (d.pc n).objs.find? (fun o => o.pos == pos && o.vmax != 0) with
  | none => none
  | some o =>
    let mv := if o.ty = 0 then o.vmax else volt * 20
    let ma := cur * 10
    let alloc := if o.ty = 2 then o.limit * 10 else (o.vmax * ma + 99999) / 100000
    if o.vmin ≤ mv ∧ mv ≤ o.vmax then some ⟨pos, o.ty, mv, ma, alloc, false⟩ else none

/-- A Request as a source (R412, R416, R419): accepted where its object exists and its power fits the offer; one that comes in a transition
takes the place of the contract to come. A Request refused for want of power starts a reclaim. -/
def requestRx (n : Nat) (rev3 : Bool) (pos volt cur : Nat) (d : Dev) : Dev :=
  if !d.sourcing n then d
  else
    let d := (d.set (PDC_Pn_STAT_REV n) (if rev3 then 2 else 1)).modPc n (fun x => { x with wait := .none })
    match d.contractOf n pos volt cur with
    | none => d.pdSend n .reject
    | some c =>
      if c.alloc ≤ min (d.pc n).offer (d.offerOf n) then
        ((d.setAlloc n (max (d.get (PDC_Pn_ALLOC_W n)) c.alloc)).modPc n (fun x => { x with pend := some c, phase := 1 })).pdSend n .accept
      else (d.pdSend n .reject).askPower n c.alloc

def execRequestRx (n id : Fin 8) (rev3 : Bool) (pos : Fin 16) (volt : BitVec 12) (cur : BitVec 10) (s : State) :
    Host.Outcome State Fault Refusal := s.run (Dev.hear n false id (requestRx n rev3 pos volt.toNat cur.toNat))

/-- Accept: of the own Request, or of the own swap request (R414, R422). -/
def acceptRx (n : Nat) (d : Dev) : Dev :=
  let x := d.pc n
  if x.wait = .answer then d.modPc n (fun x => { x with wait := .ready })
  else match x.swap, x.own with
    | .sent, some k => d.doSwap n k true
    | _, _ => d

def execAcceptRx (n id : Fin 8) (s : State) : Host.Outcome State Fault Refusal := s.run (Dev.hear n false id (acceptRx n))

/-- Reject, or `ns` the Not_Supported of a partner of Revision 3.x in its place (R409): the pending command ends REJECT or NOT_SUPPORTED
(R422, R433; log entry 57). -/
def rejectRx (n : Nat) (ns : Bool) (d : Dev) : Dev :=
  let x := d.pc n
  if x.wait = .answer then d.modPc n (fun x => { x with pend := none, wait := .none })
  else if x.swap = .sent then d.ownEnd n (if ns then 4 else 1)
  else d

def execRejectRx (n id : Fin 8) (ns : Bool) (s : State) : Host.Outcome State Fault Refusal :=
  s.run (Dev.hear n false id (rejectRx n ns))

/-- Wait: the swap is retried once after tPRSwapWait; a second Wait ends the command WAIT (R422). -/
def waitRx (n : Nat) (d : Dev) : Dev :=
  let x := d.pc n
  if x.wait = .answer then d.modPc n (fun x => { x with pend := none, wait := .none })
  else if x.swap = .sent then (if x.retried then d.ownEnd n 2 else d.modPc n (fun x => { x with retried := true, swap := .again }))
  else d

def execWaitRx (n id : Fin 8) (s : State) : Host.Outcome State Fault Refusal := s.run (Dev.hear n false id (waitRx n))

/-- tPRSwapWait passes: the request is sent again, but not while the partner's swap goes on (R422, R423). -/
def swapWaitRetry (n : Nat) (d : Dev) : Dev :=
  match (d.pc n).swap, (d.pc n).own with
  | .again, some k => if (d.pc n).after then d else (d.modPc n (fun x => { x with swap := .sent })).pdSend n (swapMsg k)
  | _, _ => d

def execSwapWaitRetry (n : Fin 8) (s : State) : Host.Outcome State Fault Refusal := s.run (swapWaitRetry n)

/-- A port goes to ErrorRecovery: its mode, its contract and its swaps end, and VBUS discharges (R417, R421). -/
def Dev.errorRecovery (n : Nat) (d : Dev) : Dev :=
  let d := (((d.ownEnd n 3).exitAlt n).dropContract n).forgetPartner n
  let d := (d.modPc n (fun x => { x with closed := false, discharge := true })).set (PDC_Pn_STAT_CONN n) 5
  (d.hubGate n).budget

/-- PS_RDY: completes a contract as sink, or a step of a swap (R422). A shed port that is short of its floor does not become the Source of
a PR_Swap (R417). -/
def psRdyRx (n : Nat) (d : Dev) : Dev :=
  let x := d.pc n
  let mine := match x.swapping with
    | some (_, b) => b
    | none => false
  match x.wait, x.pend, x.swap with
  | .ready, some c, _ => d.contractDone n c
  | _, _, .ready =>
    if x.swapping = some (4, mine) then (d.set (PDC_Pn_STAT_VCONN n) 0).swapEnd n mine
    else if d.isSource n then
      let d := ((d.exitAlt n).dropContract n).setAlloc n 0
      let d := (d.set (PDC_Pn_STAT_CONN n) 3).implicitContract n (d.get (PDC_Pn_STAT_RPCUR n)) true
      (d.swapEnd n mine).budget
    else if d.barred n then d.errorRecovery n
    else
      let r := (d.fundable n).getD 0
      let d := ((d.exitAlt n).dropContract n).setAlloc n (rpPower r)
      let d := ((d.set (PDC_Pn_STAT_CONN n) 2).set (PDC_Pn_STAT_RPCUR n) r).implicitContract n r false
      (d.askFirst n).modPc n (fun x => { x with swap := .newSource, swapping := some (2, mine), shed := false })
  | _, _, _ => d

def execPsRdyRx (n id : Fin 8) (s : State) : Host.Outcome State Fault Refusal := s.run (Dev.hear n false id (psRdyRx n))

/-- A PR_Swap request is accepted only in DRP (R422, R423), and not by a Sink that may not become a source (R417). -/
def prSwapRx (n : Nat) (d : Dev) : Dev :=
  d.swapIn n 2 (d.latched n (PDC_Pn_CFG_ROLE n) == 2 && (d.isSource n || !d.barred n))

def execPrSwapRx (n id : Fin 8) (s : State) : Host.Outcome State Fault Refusal := s.run (Dev.hear n false id (prSwapRx n))

/-- A DR_Swap request is accepted unless the port prefers DFP and is DFP (R422). -/
def drSwapRx (n : Nat) (d : Dev) : Dev := d.swapIn n 3 (!(d.latched n (PDC_Pn_CFG_DR_PREF n) == 1 && d.flag (PDC_Pn_STAT_DFP n)))

def execDrSwapRx (n id : Fin 8) (s : State) : Host.Outcome State Fault Refusal := s.run (Dev.hear n false id (drSwapRx n))

/-- A VCONN_Swap request is always accepted (R422). -/
def execVconnSwapRx (n id : Fin 8) (s : State) : Host.Outcome State Fault Refusal :=
  s.run (Dev.hear n false id (fun d => d.swapIn n 4 true))

/-- EPR_Mode (Enter) (R413). -/
def eprModeRx (n : Nat) (d : Dev) : Dev :=
  if !d.sourcing n then d
  else if d.latched n (PDC_Pn_CFG_EPR_EN n) == 1 && 1000 < d.maxW n && d.flag (PDC_Pn_STAT_CABLE_EPR n)
      && d.get (PDC_Pn_STAT_CABLE_I n) == 2 && d.flag (PDC_Pn_STAT_EXPLICIT n) && d.get (PDC_Pn_CONTRACT_POS n) ≤ 7
      && d.get (PDC_Pn_STAT_REV n) != 1 then
    let d := (d.set (PDC_Pn_STAT_EPR n) 1).pdSend n .eprEntered
    d.sendCaps n (d.offerOf n)
  else d.pdSend n .eprFailed

def execEprModeRx (n id : Fin 8) (s : State) : Host.Outcome State Fault Refusal := s.run (Dev.hear n false id (eprModeRx n))

def execHardResetRx (n : Fin 8) (s : State) : Host.Outcome State Fault Refusal :=
  s.run (fun d => if d.attached n then d.hardReset n else d)

/-- A message the port does not support, or a structured VDM request of a foreign SVID (R409). -/
def unsupportedMsgRx (n svid cmd : Nat) (vdm : Bool) (d : Dev) : Dev :=
  if vdm then d.pdSend n (.vdmNak svid cmd)
  else d.pdSend n (if d.get (PDC_Pn_STAT_REV n) = 1 then .reject else .notSupported)

def execUnsupportedMsgRx (n id : Fin 8) (vdm : Bool) (svid : BitVec 16) (cmd : Fin 32) (s : State) : Host.Outcome State Fault Refusal :=
  s.run (Dev.hear n false id (unsupportedMsgRx n svid.toNat cmd vdm))

/-- tSenderResponse passes (R410): a contract's message leads to Hard Reset, a swap request ends TIMEOUT. -/
def senderResponseTimeout (n : Nat) (d : Dev) : Dev :=
  let x := d.pc n
  if x.wait = .request ∨ x.wait = .answer then d.hardReset n
  else if x.swap = .sent then d.ownEnd n 3
  else d

def execSenderResponseTimeout (n : Fin 8) (s : State) : Host.Outcome State Fault Refusal := s.run (senderResponseTimeout n)

def execPpsRequestTimeout (n : Fin 8) (s : State) : Host.Outcome State Fault Refusal :=
  s.run (fun d => if d.sourcing n && d.flag (PDC_Pn_STAT_EXPLICIT n) && d.get (PDC_Pn_CONTRACT_TYPE n) == 1 then d.hardReset n else d)

def execEprKeepaliveLapse (n : Fin 8) (s : State) : Host.Outcome State Fault Refusal :=
  s.run (fun d => if d.flag (PDC_Pn_STAT_EPR n) then d.hardReset n else d)

/-! ### VBUS and VCONN -/

/-- tSrcTransition ends: the regulator is asked for a changed voltage; an unchanged one needs neither step 2 nor step 3 (R419). -/
def srcTransitionDone (n : Nat) (d : Dev) : Dev :=
  let x := d.pc n
  match x.phase, x.pend with
  | 1, some c =>
    if c.mv = x.asked then d.modPc n (fun x => { x with phase := 4 })
    else (d.modPc n (fun x => { x with phase := 2, acked := false })).askRegulator n c.mv false
  | _, _ => d

def execSrcTransitionDone (n : Fin 8) (s : State) : Host.Outcome State Fault Refusal := s.run (srcTransitionDone n)

/-- The regulator has acknowledged (R419): its PMBus request completed with ACK and no fault (R525). At an attach the source switch
closes, and VCONN is on for an e-marked cable. -/
def vbusRegAck (n : Nat) (d : Dev) : Dev :=
  let x := d.pc n
  if x.phase = 2 ∧ x.acked then
    let d := d.modPc n (fun x => { x with phase := 3, closed := true })
    if x.first ∧ x.marked ∧ x.swap ≠ .newSource then d.set (PDC_Pn_STAT_VCONN n) 1 else d
  else d

def execVbusRegAck (n : Fin 8) (s : State) : Host.Outcome State Fault Refusal := s.run (vbusRegAck n)

/-- Whether a voltage lies in the window of a contract (R419). -/
def inWindow (ty mv v : Nat) : Bool :=
  if ty = 1 then mv ≤ v + 100 && v ≤ mv + 100 else 95 * mv ≤ 100 * v && 100 * v ≤ 105 * mv

/-- VBUS has been in its window for 1 ms (R419): PS_RDY completes a contract or a PR_Swap; at an attach or after a Hard Reset
Source_Capabilities follow. `mv`, `ma`: what is measured (R420). -/
def vbusInWindow (n mv ma : Nat) (d : Dev) : Dev :=
  let x := d.pc n
  let d := (d.set (PDC_Pn_VBUS_MV n) mv).set (PDC_Pn_VBUS_MA n) ma
  if x.phase ≠ 3 ∧ x.phase ≠ 4 then d
  else if x.first then
    if inWindow 0 5000 mv then
      let d := d.modPc n (fun x => { x with phase := 0, first := false })
      let d := if x.swap = .newSource then (d.pdSend n .psRdy).swapEnd n (x.swapping == some (2, true)) else d
      d.sendCaps n (d.offerOf n)
    else d
  else match x.pend with
    | some c => if inWindow c.ty c.mv mv then (d.pdSend n .psRdy).contractDone n c else d
    | none => d

def execVbusInWindow (n : Fin 8) (mv ma : BitVec 16) (s : State) : Host.Outcome State Fault Refusal :=
  s.run (vbusInWindow n mv.toNat ma.toNat)

def execVbusAckTimeout (n : Fin 8) (s : State) : Host.Outcome State Fault Refusal :=
  s.run (fun d => if (d.pc n).phase = 2 then d.vbusFault n else d)

def execVbusSettleTimeout (n : Fin 8) (s : State) : Host.Outcome State Fault Refusal :=
  s.run (fun d => if (d.pc n).phase = 2 ∨ (d.pc n).phase = 3 then d.vbusFault n else d)

/-- Whether VBUS is to lie in the window of the contract in force: the port sources VBUS, the regulator has not been asked for another
voltage, and the port does not give VBUS up in a PR_Swap (R419, R420). -/
def Dev.underContract (d : Dev) (n : Nat) : Bool :=
  let x := d.pc n
  d.sourcing n && !x.first && (decide (x.phase < 2) || x.phase == 4) && x.swap != .ready

def execVbusOutOfWindow (n : Fin 8) (mv ma : BitVec 16) (s : State) : Host.Outcome State Fault Refusal :=
  s.run (fun d =>
    let d := (d.set (PDC_Pn_VBUS_MV n) mv.toNat).set (PDC_Pn_VBUS_MA n) ma.toNat
    if d.underContract n then d.vbusFault n else d)

/-- Above 110 %: the switch opens at once, and Hard Reset follows (R420). -/
def execVbusOvervoltage (n : Fin 8) (mv ma : BitVec 16) (s : State) : Host.Outcome State Fault Refusal :=
  s.run (fun d =>
    let d := (d.set (PDC_Pn_VBUS_MV n) mv.toNat).set (PDC_Pn_VBUS_MA n) ma.toNat
    if d.sourcing n then (d.modPc n (fun x => { x with closed := false })).hardReset n else d)

/-- VCONN above 650 mA for 1 ms: its switch opens, and the port goes to ErrorRecovery; a VCONN_Swap ends TIMEOUT (R421, R430). -/
def vconnOvercurrent (n : Nat) (d : Dev) : Dev :=
  if d.flag (PDC_Pn_STAT_VCONN n) then
    ((d.set (PDC_Pn_STAT_VCONN n) 0).pdcRaise n 8 0).errorRecovery n
  else d

def execVconnOvercurrent (n : Fin 8) (s : State) : Host.Outcome State Fault Refusal := s.run (vconnOvercurrent n)

/-! ### Alternate modes -/

/-- The Mode VDO of Tirrun mode (R426). -/
def Dev.modeVdo (d : Dev) (n : Nat) : Nat :=
  1 * 2 ^ 28 + d.latched n (PDC_Pn_CFG_TIRRUN_DFP n) * 2 ^ 27 + d.latched n (PDC_Pn_CFG_TIRRUN_UFP n) * 2 ^ 26 + 0x19 * 2 ^ 16
    + bitsOf (d.get STN_UID_HI_UID) 16 16

/-- Discover Identity (0), SVIDs (1) or Modes of SVID 0xC7A1 (2): Tirrun is listed only while TIRRUN_UFP is 1 (R426). -/
def svdmRequestRx (n cmd : Nat) (d : Dev) : Dev :=
  if cmd = 0 then d.pdSend n (.vdmAck 0xFF00 1 [bitsOf (d.get STN_UID_HI_UID) 16 16])
  else if d.latched n (PDC_Pn_CFG_TIRRUN_UFP n) != 1 then d.pdSend n (.vdmNak (if cmd = 1 then 0xFF00 else 0xC7A1) (cmd + 1))
  else if cmd = 1 then d.pdSend n (.vdmAck 0xFF00 2 [0xC7A1 * 2 ^ 16])
  else d.pdSend n (.vdmAck 0xC7A1 3 [d.modeVdo n])

def execSvdmRequestRx (n id : Fin 8) (cmd : Fin 3) (s : State) : Host.Outcome State Fault Refusal :=
  s.run (Dev.hear n false id (svdmRequestRx n cmd))

/-- Enter Mode of Tirrun: NAKed while TE or TW is past PLAN_TX, where the mode is not offered, by a DFP, and while the port is in a mode
(R425 to R427). -/
def enterModeRx (n : Nat) (d : Dev) : Dev :=
  if d.latched n (PDC_Pn_CFG_TIRRUN_UFP n) == 1 && !d.flag (PDC_Pn_STAT_DFP n) && d.get (PDC_Pn_STAT_ALT n) == 0 && d.seqState 0 < 2 && d.seqState 1 < 2 then (d.pdSend n (.vdmAck 0xC7A1 4 [])).enterAlt n 2
  else d.pdSend n (.vdmNak 0xC7A1 4)

def execEnterModeRx (n id : Fin 8) (s : State) : Host.Outcome State Fault Refusal := s.run (Dev.hear n false id (enterModeRx n))

/-- Exit Mode of Tirrun: NAKed where the port is not in it (R427). -/
def exitModeRx (n : Nat) (d : Dev) : Dev :=
  if d.get (PDC_Pn_STAT_ALT n) = 2 then (d.pdSend n (.vdmAck 0xC7A1 5 [])).exitAlt n else d.pdSend n (.vdmNak 0xC7A1 5)

def execExitModeRx (n id : Fin 8) (s : State) : Host.Outcome State Fault Refusal := s.run (Dev.hear n false id (exitModeRx n))

/-- T_CONFIG as UFP: ACKed with the spur's ALLOW; the lane group starts out of OFF with the intersection (R427 to R429). -/
def tConfigRx (n allow : Nat) (d : Dev) : Dev :=
  if d.get (PDC_Pn_STAT_ALT n) = 2 ∧ !d.flag (PDC_Pn_STAT_DFP n) then
    let own := d.altAllow n
    let d := d.pdSend n (.vdmAck 0xC7A1 0x10 [own])
    if d.seqState (2 + n) = 0 then (d.modPc n (fun x => { x with allow := own &&& allow })).startLanes n else d
  else d.pdSend n (.vdmNak 0xC7A1 0x10)

def execTConfigRx (n id : Fin 8) (allow : BitVec 5) (s : State) : Host.Outcome State Fault Refusal :=
  s.run (Dev.hear n false id (tConfigRx n allow.toNat))

/-- T_STATUS: answered with the status VDO in Tirrun mode (R427). -/
def tStatusRx (n : Nat) (d : Dev) : Dev :=
  if d.get (PDC_Pn_STAT_ALT n) = 2 then d.pdSend n (.vdmAck 0xC7A1 0x11 [d.statusVdo n]) else d.pdSend n (.vdmNak 0xC7A1 0x11)

def execTStatusRx (n id : Fin 8) (s : State) : Host.Outcome State Fault Refusal := s.run (Dev.hear n false id (tStatusRx n))

/-- HPD and IRQ_HPD of an Attention or DP Status message, passed to the routed engine (R425); `bad`: the link status that the engine
then reads. -/
def attentionRx (n : Nat) (hpd irq bad : Bool) (d : Dev) : Dev :=
  if d.get (PDC_Pn_STAT_ALT n) = 1 then
    let d := if d.flag (PDC_Pn_STAT_HPD n) != hpd then ((d.setB (PDC_Pn_STAT_HPD n) hpd).pdcRaise n 9 0).passHpd n else d
    if irq then forAll ((List.range 2).filter (fun e => d.get (DSO_Dn_CTL_ROUTE e) == n + 1)) (fun e d => dsoIrqHpd e bad d) d else d
  else d

def execAttentionRx (n id : Fin 8) (hpd irq bad : Bool) (s : State) : Host.Outcome State Fault Refusal :=
  s.run (Dev.hear n false id (attentionRx n hpd irq bad))

/-- Discovery or entry given up. -/
def Dev.vdmStop (n : Nat) (d : Dev) : Dev := d.modPc n (fun x => { x with vdm := 0, tries := 0, toAlt := 0 })

/-- Exit Mode sent, and the mode left (R427). -/
def Dev.leaveAlt (n : Nat) (d : Dev) : Dev :=
  let alt := d.get (PDC_Pn_STAT_ALT n)
  (d.pdSend n (.vdm false (if alt = 1 then 0xFF01 else 0xC7A1) 5 [])).exitAlt n

/-- Whether the hub may be the parent of a spur: it is admitted, with DEPTH up to 2 (R132). -/
def Dev.mayParent (d : Dev) : Bool := d.flag STN_ID_VALID && !d.flag STN_STAT_FENCED && d.get STN_ID_DEPTH ≤ 2

/-- The mode that an answer to Discover SVIDs leads to (R132, R425): 2 Tirrun, 1 DisplayPort, 0 none. -/
def Dev.altChoice (d : Dev) (n : Nat) (tirrun dp : Bool) : Nat :=
  if d.latched n (PDC_Pn_CFG_TIRRUN_DFP n) == 1 && d.mayParent && tirrun then 2
  else if d.latched n (PDC_Pn_CFG_DP_EN n) == 1 && (List.range 2).any (fun e => d.get (DSO_Dn_CTL_ROUTE e) == n + 1) && dp then 1
  else 0

/-- The first of pin assignments C, E and D that both ends support, as PIN codes it (R425, R432); `pins`: bit 0 C, bit 1 D, bit 2 E. -/
def pinOf (pins : Nat) : Nat := if pins.testBit 0 then 1 else if pins.testBit 2 then 3 else if pins.testBit 1 then 2 else 0

/-- An answer to the VDM that a DFP sent (R425, R427); the cable's own answer tells what its e-marker reports (R428, R432). A hub that may be a parent no longer does not enter Tirrun mode: Exit
Mode follows where the partner has entered it (R132). -/
def vdmAckRx (n : Nat) (ack tirrun dp : Bool) (allow pins : Nat) (hpd : Bool) (cur : Nat) (epr : Bool) (spd : Nat) (d : Dev) : Dev :=
  let x := d.pc n
  let step := x.vdm
  if step = 0 then d
  else if step = 1 then (if ack then d.putCable n cur epr spd else d).nextVdm n 2
  else if !ack then (if step = 6 then (d.vdmStop n).leaveAlt n else d.vdmStop n)
  else if step = 2 then d.nextVdm n 3
  else if step = 3 then
    let a := d.altChoice n tirrun dp
    if a = 0 then d.vdmStop n else (d.modPc n (fun x => { x with toAlt := a })).nextVdm n 4
  else if step = 4 then
    if x.toAlt = 1 ∧ pinOf pins = 0 ∨ x.toAlt = 2 ∧ !d.mayParent then d.vdmStop n
    else (d.modPc n (fun x => { x with pins := pinOf pins })).nextVdm n 5
  else if step = 5 then
    (if x.toAlt = 2 then (if d.mayParent then (d.enterAlt n 2).nextVdm n 6 else (d.vdmStop n).pdSend n (.vdm false 0xC7A1 5 []))
     else d.nextVdm n 7)
  else if step = 6 then
    ((d.vdmStop n).modPc n (fun x => { x with allow := d.altAllow n &&& allow })).startLanes n
  else if step = 7 then (d.setB (PDC_Pn_STAT_HPD n) hpd).nextVdm n 8
  else
    ((d.vdmStop n).set (PDC_Pn_STAT_PIN n) x.pins).enterAlt n 1

def execVdmAckRx (n id : Fin 8) (ack tirrun dp : Bool) (allow : BitVec 5) (pins : BitVec 3) (hpd : Bool) (cur : Fin 3) (epr : Bool)
    (spd : Fin 8) (s : State) : Host.Outcome State Fault Refusal :=
  s.run (fun d => d.hear n ((d.pc n).vdm == 1) id (vdmAckRx n ack tirrun dp allow.toNat pins.toNat hpd cur epr spd))

/-- tVDMSenderResponse passes: the VDM is sent again, up to three times in all; then T_CONFIG leads to Exit Mode (R427). -/
def vdmResponseTimeout (n : Nat) (d : Dev) : Dev :=
  let x := d.pc n
  if x.vdm = 0 then d
  else if x.tries < 2 then (d.modPc n (fun x => { x with tries := x.tries + 1 })).sendVdm n x.vdm
  else if x.vdm = 1 then d.nextVdm n 2
  else if x.vdm = 6 then (d.vdmStop n).leaveAlt n
  else d.vdmStop n

def execVdmResponseTimeout (n : Fin 8) (s : State) : Host.Outcome State Fault Refusal := s.run (vdmResponseTimeout n)

/-! ### Writes -/

/-- NODE_W written (R417, R430). -/
def pdcNodeWrite (w : Nat) (d : Dev) : Dev :=
  let d := d.set PDC_NODE_NODE_W w
  if d.sumAlloc ≤ w then d.budget else d.askPower 8 0

def execPdcNodeWrite (w : BitVec 16) (s : State) : Host.Outcome State Fault Refusal := s.run (pdcNodeWrite w.toNat)

/-- A command written: discarded with BUSY while another runs (R433). -/
def Dev.pdcCmd (n : Nat) (f : Dev → Dev) (d : Dev) : Dev :=
  if d.flag (PDC_Pn_CMDRES_DONE n) then f d else d.set (PDC_Pn_CMDRES_RESULT n) 5

/-- SEND_CAPS (R433). -/
def pdcSendCaps (n : Nat) (d : Dev) : Dev :=
  d.pdcCmd n (fun d => if d.sourcing n then (d.sendCaps n (d.offerOf n)).cmdEnd n 0 else d.cmdEnd n 1)

def execPdcSendCaps (n : Fin 8) (s : State) : Host.Outcome State Fault Refusal := s.run (pdcSendCaps n)

/-- A swap command: asked for where the port has a partner and no own request; else it ends REJECT, or BUSY (R422, R433). -/
def Dev.swapCmd (n k : Nat) (d : Dev) : Dev :=
  d.pdcCmd n (fun d =>
    if !d.attached n || (k == 2 && !d.isSource n && d.barred n) then d.cmdEnd n 1
    else if (d.pc n).own.isSome || (d.pc n).swapping.isSome then d.cmdEnd n 5
    else (d.set (PDC_Pn_CMDRES_DONE n) 0).askSwap n k true)

def execPdcPrSwap (n : Fin 8) (s : State) : Host.Outcome State Fault Refusal := s.run (Dev.swapCmd n 2)
def execPdcDrSwap (n : Fin 8) (s : State) : Host.Outcome State Fault Refusal := s.run (Dev.swapCmd n 3)
def execPdcVconnSwap (n : Fin 8) (s : State) : Host.Outcome State Fault Refusal := s.run (Dev.swapCmd n 4)

/-- HARD_RESET (R433). -/
def pdcHardReset (n : Nat) (d : Dev) : Dev :=
  d.pdcCmd n (fun d => if d.attached n then (d.hardReset n).cmdEnd n 0 else d.cmdEnd n 1)

def execPdcHardReset (n : Fin 8) (s : State) : Host.Outcome State Fault Refusal := s.run (pdcHardReset n)

/-- EXIT_ALT (R433). -/
def pdcExitAlt (n : Nat) (d : Dev) : Dev :=
  d.pdcCmd n (fun d => (if d.get (PDC_Pn_STAT_ALT n) = 0 then d.vdmStop n else d.leaveAlt n).cmdEnd n 0)

def execPdcExitAlt (n : Fin 8) (s : State) : Host.Outcome State Fault Refusal := s.run (pdcExitAlt n)

/-- A port stops: its mode and its contract end, its switch opens, and it stands in a state. -/
def Dev.portDown (n st : Nat) (d : Dev) : Dev :=
  let src := d.isSource n
  let d := ((((d.exitAlt n).dropContract n).forgetPartner n).setAlloc n 0).modPc n
    (fun x => { PdcPort.reset with shed := x.shed, asked := x.asked })
  let d := (d.set (PDC_Pn_STAT_CONN n) st).set (PDC_Pn_STAT_RPCUR n) 0
  ((if src then d.askRegulator n 5000 true else d).hubGate n).budget

/-- DISABLE: the port goes to Disabled until EN is next written 1 (R433). -/
def pdcDisable (n : Nat) (d : Dev) : Dev := (d.portDown n 6).cmdEnd n 0

/-- A write of PDC_CTL.EN: while it is 0 the controllers do not run and every port presents Rd only, so that each port but a Disabled one
falls to Unattached, out of a Try.SRC too (R431; DEDUCED, log 95). -/
def Dev.pdcCtl (v : Nat) (d : Dev) : Dev :=
  let d := d.set PDC_CTL_EN v
  if v % 2 = 1 then d else forAll ((List.range 8).filter (fun n => d.conn n != 6)) (fun n d => d.portDown n 0) d

def execPdcDisable (n : Fin 8) (s : State) : Host.Outcome State Fault Refusal := s.run (Dev.pdcCmd n (pdcDisable n))

/-- A write of `PDC_Pn_CFG` with EN = 1 lets a port leave Disabled (R433). -/
def Dev.pdcEnabled (n : Nat) (d : Dev) : Dev :=
  if d.conn n = 6 ∧ d.flag (PDC_Pn_CFG_EN n) then d.set (PDC_Pn_STAT_CONN n) 0 else d

end Sys2Proof.Machine
end

