-- ==== Sys2Proof/Machine/LinkTx.lean ====
section
/-! DEFINITION. What a Tirrun port sends (spec 03): the order at a block boundary (R93), acknowledgements (R85), replay (R83, R86
to R88), credits (R90, R91), data blocks (R80, R105, R251, R260). -/

namespace Sys2Proof.Machine

/-- The TIME cycle counter, for intervals of the link layer (2 ns each). -/
def Dev.cyc (d : Dev) : Nat := d.time.cyc

/-- Replay from an extended number on, or failure where its block has been replayed eight times (R86, R88). -/
def Dev.startReplay (p n : Nat) (d : Dev) : Dev :=
  match (d.lnk p).replay.find? (fun s => n ≤ s.ext) with
  | none => d
  | some s =>
    if 8 ≤ s.replays then d.linkFail p 1
    else d.modLnk p (fun l => { l with rpPoint := some n, rpNext := n })

/-! ### Headers -/

/-- The acknowledgement that the next block carries: AKIND and ACK (R81, R85). -/
def Dev.ackNow (d : Dev) (p : Nat) : Nat × Nat :=
  let l := d.lnk p
  let free : Bool := match l.nakAt with
    | some (e, t) => e != l.rxExp || t + 1000 ≤ d.cyc
    | none => true
  if l.akind = 2 ∧ free then (2, l.rxExp % 4096)
  else if l.rxExp = 0 then (0, 0) else (1, (l.rxExp - 1) % 4096)

/-- The header of a block of a type; the acknowledgement and the credit report are taken for it (R77, R85, R91). -/
def Dev.txHdr (d : Dev) (p ty sq pid len : Nat) (first last poison : Bool) : BlkHdr × Dev :=
  let l := d.lnk p
  let (k, a) := d.ackNow p
  let nonce := if !seqType ty && l.txKey.isSome then l.nonceTx + 1 else 0
  let h : BlkHdr :=
    { ty := ty, first := first, last := last, poison := poison, seq := l.txNext % 4096, ack := a, akind := k, sq := sq, pid := pid
      len := len, ccls := if l.creditOn then l.ccls else 0
      ccnt := if l.creditOn then l.cum.get l.ccls 0 % 2 ^ 20 else 0, nonce := nonce }
  let d := d.modLnk p (fun l =>
    { l with
        akind := if k = 2 then (if l.rxExp = 0 then 0 else 1) else l.akind
        nakAt := if k = 2 then some (l.rxExp, d.cyc) else l.nakAt
        ackOwed := false
        ccls := if l.creditOn then (l.ccls + 1) % 8 else l.ccls
        nonceTx := if nonce = 0 then l.nonceTx else nonce
        sinceIdle := if ty = 8 then 0 else l.sinceIdle + 1
        txKey := l.txKey.map (fun k => { k with blocks := k.blocks + 1 }) })
  (h, if l.txKey.isSome then d.incSatBy (KEY_SEGp_AGE_BLOCKS p) 1 else d)

/-- A block leaves the port: its bytes, under the transmit key where the port has one (R79, R95, R97). -/
def Dev.put (d : Dev) (p : Nat) (b : Block) (bytes : List Byte) : Dev :=
  d.modLnk p (fun l => { l with lastTx := some b, wire := bytes })

/-- An unsequenced block sent (R78). -/
def Dev.putFree (d : Dev) (p ty len : Nat) (body : Body) : Dev :=
  let (h, d) := d.txHdr p ty 0 0 len false false false
  d.put p ⟨h, body⟩ (sealBlock (d.lnk p).txKey 0 h (body.payload h.nonce))

/-- A sequenced block first sent: numbered and kept for replay (R82, R83). -/
def Dev.putSeq (d : Dev) (p ty sq pid len : Nat) (first last poison : Bool) (body : Body) : Dev :=
  let (h, d) := d.txHdr p ty sq pid len first last poison
  let b : Block := ⟨h, body⟩
  let bytes := sealBlock (d.lnk p).txKey (d.lnk p).txNext h (body.payload 0)
  let d := (d.put p b bytes).modLnk p (fun l =>
    { l with txNext := l.txNext + 1, replay := l.replay ++ [⟨l.txNext, b, bytes, 0, d.cyc, none⟩] })
  let d := d.mendIn 5 p ((d.lnk p).txNext % 2048 * 32) 32
  (d.inc (LNK_TXSEQ_COUNT p)).set (LNK_STAT_WIN p) (d.lnk p).replay.length

/-- An IDLE block. -/
def Dev.putIdle (d : Dev) (p : Nat) : Dev := d.putFree p 8 8 .idle

/-- A block whose check bits do not fit it: the last bit of the check inverted (DESIGN CHOICE, log 97). -/
def spoiled (l : List Byte) : List Byte := l.take (l.length - 1) ++ (l.drop (l.length - 1)).map (· ^^^ 1)

/-- The bytes of a block read from the replay buffer: 32 words a block; an uncorrectable word spoils the block's check (R564). -/
def Dev.replayRead (p : Nat) (s : Sent) (d : Dev) : List Byte × Dev :=
  match d.flawOf 5 p (s.ext % 2048 * 32) 32 with
  | some w => (spoiled s.bytes, d.memUe 5 p w)
  | none => (s.bytes, d)

/-- The next block of a replay, as first sent; a block that would be replayed a ninth time fails the segment (R86, R88). -/
def Dev.putReplay (d : Dev) (p : Nat) (s : Sent) : Dev :=
  if 8 ≤ s.replays then d.linkFail p 1
  else
    let (bytes, d) := d.replayRead p s
    let d := d.modLnk p (fun l =>
      { l with
          replay := l.replay.map (fun x => if x.ext = s.ext then
            { x with replays := x.replays + 1, replayAt := some (x.replayAt.getD d.cyc) } else x)
          rpNext := s.ext + 1
          rpPoint := if (l.replay.getLast?.map (·.ext)).getD 0 ≤ s.ext then none else l.rpPoint
          sinceIdle := l.sinceIdle + 1
          lastTx := some s.blk
          wire := bytes })
    d.inc (LNK_REPLAY_COUNT p)

/-- The number of payload bytes of a control block (R94). -/
def Body.len : Body → Nat
  | .data l => l.length
  | .idle => 8
  | .cap _ => 52
  | .credit _ => 40
  | .tick _ => 37
  | .delay _ => 60
  | .accord _ => 38
  | .wrap _ => 24
  | .auth _ _ _ _ l => 8 + l.length

/-- The TYPE of a sequenced control block (R78). -/
def Body.ctlType : Body → Nat
  | .accord _ => 13
  | .wrap _ => 14
  | _ => 15

/-- Whether a port in a link state carries a sequenced control block (R100). -/
def Body.carried (b : Body) (st : Nat) : Bool :=
  match b with
  | .auth _ _ _ _ _ => 2 ≤ st && st ≤ 4
  | _ => st == 3 || st == 4

/-! ### Line time on the lanes -/

/-- The QUALITY of the sender (R218). -/
def Dev.tickQuality (d : Dev) : Nat :=
  if d.flag TMB_SRV_CTL_REF then 4
  else let s := d.get TMB_SRV_STAT_STATE; if s ≤ 1 then 0 else s - 1

/-- The TICK block of this instant (R94, R95, R218). -/
def Dev.ownTick (d : Dev) : Tick :=
  { origin := d.tb 0
    corr := if d.flag TMB_SRV_CTL_REF then 0 else d.time.servo.r / ((2 ^ 16 : Nat) : Int)
    count := d.time.tickCount
    source := if d.flag TMB_SRV_CTL_REF then d.get STN_ID_NUM else d.get TMB_SRV_STAT_SOURCE
    quality := d.tickQuality }

/-- A DELAY block as it is sent: T1 or T3 is this instant (R95). -/
def Dev.stampDelay (d : Dev) (x : Delay) : Delay := if x.reply then { x with t3 := d.tb 0 } else { x with t1 := d.tb 0 }

/-! ### Data -/

/-- Whether the next block of an open packet can be sent: a cell at hand, or the closing block, with a credit of its class in hand
(R90, R105, R198, R251). -/
def Dev.nextReady (d : Dev) (p : Nat) (o : OpenTx) : Bool :=
  0 < d.creditsLeft p (o.sq / 32) && match d.pkt o.pkt with
  | some k => (match k.cells with
    | c :: _ => k.readable c
    | [] => k.closing)
  | none => false

/-- The close instant of the window of a queue in 2^-32 ns of TB0 (R259). -/
def Dev.closeAt (d : Dev) (q : Nat) : Option Nat := (d.closeDist q).map (fun r => (d.tb 0).units + r)

/-- A packet whose LAST ran past its close instant is counted (R260). -/
def Dev.overrun (d : Dev) (p q : Nat) (close : Option Nat) : Dev :=
  match close with
  | some c =>
    if c * 100 < (d.tb 0).units * 100 + blockTime (d.cmode p) * 2 ^ 32 then
      ((d.inc (if p = 0 then SCH_OVERRUN_TE_COUNT else SCH_OVERRUN_TW_COUNT)).inc (QS_W14_OVERRUN q)).raise SCH_EVT_OVERRUN
    else d
  | none => d

/-- A packet that has left a Tirrun egress. -/
def Dev.finishTx (d : Dev) (p i : Nat) (k : Pkt) (o : OpenTx) : Dev :=
  let d := d.modSw (fun w => { w with opens := w.opens.set p ((w.opens.get p []).filter (fun x => x.pkt != i)) [] })
  ((d.overrun p k.queue o.closeAt).releasePkt i).countSent k.cut

/-- A credit of a data block's class used (R90). -/
def Dev.useCredit (d : Dev) (p c : Nat) : Dev :=
  d.modLnk p (fun l => { l with used := l.used.set c ((l.used.get c 0 + 1) % 2 ^ 32) 0 })

/-- The next cell of a local packet that is cut through and waits at its source arrives as a block of it leaves: it takes a SHARED
cell, or where there is none the rest is cut (R195, R204; log 34). -/
def Dev.pullCell (d : Dev) (i : Nat) : Dev :=
  match d.pkt i with
  | none => d
  | some k =>
    if 10 ≤ k.ing && k.place == .chip && k.cells.any (fun c => c.pool == .src) then (if d.sharedOpen then Dev.chargePkt i d else d.cutShort i k) else d

/-- An open packet whose next descriptor is lost: its cells are returned, it is counted, and a closing block ends it (R105, R183,
R564). -/
def Dev.loseCells (d : Dev) (i : Nat) : Dev :=
  match d.pkt i with
  | none => d
  | some k =>
    match k.cells with
    | [] => d
    | c :: _ =>
      if d.cellLost c then
        let d := (forAll k.cells (fun c d => d.freeCell k.lead k.credit c) (d.noteLost c))
        let d := (d.decBy (SWQ_W2_OCC k.queue) k.occ).decBy (SWQ_W3_SPILLED k.queue) k.spilled
        (d.putPkt i { k with cells := [], closing := true, whole := true }).syncPools
      else d

/-- The next block of an open packet sent: its cell is read, checked and freed (R80, R90, R105, R166, R190, R204). A closing block is
of TYPE DATA (R105). -/
def Dev.putData (d : Dev) (p : Nat) (o : OpenTx) (first : Bool) (ecc : Ecc) : Dev :=
  let d := (d.pullCell o.pkt).loseCells o.pkt
  match d.pkt o.pkt with
  | none => d
  | some k =>
    let ty := b2n k.dataW
    let d := d.useCredit p (k.sq / 32)
    match k.cells with
    | [] => (d.putSeq p 0 k.sq o.pid 0 first true true (.data [])).finishTx p o.pkt k o
    | c :: rest =>
      let (c, d) := d.readCell c ecc
      let d := d.poisonSet k.poison c.bad
      let poison := k.poison || c.bad
      let last := k.whole && rest == [] && !k.closing
      let d := d.putSeq p ty k.sq o.pid c.data.length first last (last && poison) (.data c.data)
      let d := (d.freeCell k.lead k.credit c).decBy (SWQ_W2_OCC k.queue) 1
      let k := { k with cells := rest, poison := poison, started := true }
      let d := d.putPkt o.pkt k
      if last then d.finishTx p o.pkt k o else d.syncPools

/-- A packet started on a Tirrun egress (R80, R251). -/
def Dev.startTx (d : Dev) (p q : Nat) (ecc : Ecc) : Dev :=
  match d.headOf q with
  | none => d
  | some (i, k) =>
    let pid := (d.lnk p).pid
    let o : OpenTx := ⟨i, d.tier q, k.sq, pid, d.closeAt q⟩
    let d := (d.modLnk p (fun l => { l with pid := (pid + 1) % 65536 })).noteStart p q k
    let d := d.modSw (fun w => { w with opens := w.opens.set p (w.opens.get p [] ++ [o]) [] })
    (d.putPkt i { k with started := true }).putData p o true ecc

/-- The data block the scheduler gives, if it has one (R251). -/
def Dev.dataBlock (d : Dev) (p : Nat) (ecc : Ecc) : Option Dev :=
  let d := d.prepare p
  let opens := d.sw.opens.get p []
  let base := opens.find? (fun o => o.tier == 2)
  match base.filter (d.nextReady p) with
  | some o => some (d.putData p o false ecc)
  | none =>
    match (if base.isSome then none else d.pick p 2) with
    | some q => some (d.startTx p q ecc)
    | none =>
      match opens.find? (fun o => o.tier != 2 && d.nextReady p o) with
      | some o => some (d.putData p o false ecc)
      | none =>
        match d.pick p 1 with
        | some q => some (d.startTx p q ecc)
        | none => (d.pick p 0).map (fun q => d.startTx p q ecc)

/-! ### The block boundary -/

/-- The header of a block of bring-up: every link field 0 (R100). -/
def downHdr (ty len : Nat) : BlkHdr := ⟨ty, false, false, false, 0, 0, 0, 0, 0, len, 0, 0, 0⟩

/-- A block of bring-up, unsequenced and unencrypted (R100). -/
def Dev.putBare (d : Dev) (p ty len : Nat) (body : Body) : Dev :=
  d.put p ⟨downHdr ty len, body⟩ (sealBlock none 0 (downHdr ty len) (body.payload 0))

/-- In BLOTTER no IDLE block goes out but as the second half of a pair whose first half is a block (R50, R60). -/
def Dev.idleDown (d : Dev) (p : Nat) : Dev :=
  let st := d.seqState p
  if st = 0 ∨ st = 7 ∨ (st = 5 ∧ ((d.seq p).phy.half.getD []).isEmpty) then d else d.putBare p 8 8 .idle

/-- What the sequencer sends while the link is DOWN: a CAP block that waits, or IDLE, with every link field 0 (R60, R100). -/
def Dev.putDown (d : Dev) (p : Nat) : Dev :=
  let st := d.seqState p
  match (d.lnk p).caps with
  | c :: t =>
    if st = 4 ∨ st = 5 then
      let d := (d.modLnk p (fun l => { l with caps := t })).putBare p 9 52 (.cap c)
      if st = 5 ∧ c.subtype = 1 then d.modSeq p (fun x => { x with told := true }) else d
    else d.idleDown p
  | [] => d.idleDown p

/-- The first DELAY block that waits, TICK before it (R93, order 1; DESIGN CHOICE, log entry 106: the two stand in one row). -/
def Dev.putTimed (d : Dev) (p : Nat) : Option Dev :=
  let l := d.lnk p
  if l.tickDue then
    some ((d.modLnk p (fun l => { l with tickDue := false })).putFree p 11 37 (.tick d.ownTick))
  else match l.delays with
    | x :: t =>
      let x := d.stampDelay x
      let d := d.modLnk p (fun l => { l with delays := t })
      let d := if x.reply then d else d.modTime (fun z =>
        { z with delay := z.delay.set p { z.delay.get p DelayPart.reset with dseq := x.dseq, waiting := true } DelayPart.reset })
      some (d.putFree p 12 60 (.delay x))
    | [] => none

/-- The next block of a running replay (R93, order 2). -/
def Dev.nextReplay (d : Dev) (p : Nat) : Option Sent :=
  let l := d.lnk p
  match l.rpPoint with
  | some _ => l.replay.find? (fun s => l.rpNext ≤ s.ext)
  | none => none

/-- The transmit key in use from the next block on; its block count starts (R99, R560). -/
def Dev.useTxKey (p : Nat) (k : SegKey) (d : Dev) : Dev :=
  (d.modLnk p (fun l => { l with txKey := some k })).set (KEY_SEGp_AGE_BLOCKS p) 0

/-- An AUTH fragment that names the change point, as it leaves: its last 16 bytes are ESN and NCP, the numbers of the sender's next
sequenced and next unsequenced block (R550). -/
def Dev.stampChange (d : Dev) (p : Nat) : Body → Body
  | .auth msg idx cnt total l =>
    .auth msg idx cnt total (l.take (l.length - 16) ++ natBE 8 ((d.lnk p).txNext + 1) ++ natBE 8 ((d.lnk p).nonceTx + 1))
  | b => b

/-- What follows the block that has been sent: a new transmit key, or the failure that a REFUSE says (R552, R553); the judgement once
the own BLOT_RESULT is out (R61, R64); the end of a key that has protected 2^32 blocks (R99). -/
def Dev.blockSent (p : Nat) (d : Dev) : Dev :=
  let a := (d.lnk p).due
  let d := d.modLnk p (fun l => { l with due := .none })
  let d := match a with
    | .none => d
    | .key k => d.useTxKey p k
    | .authFail => (d.raise (LNK_EVT_AUTH_FAIL p)).linkFail p 8
    | .keyFail => d.keyFail p
  (if d.seqState p = 5 then d.blotJudge p else d).keySpent p

/-- A sequenced control block that the link carries (R93, order 4). -/
def Dev.putCtl (d : Dev) (p : Nat) : Option Dev :=
  let l := d.lnk p
  match l.ctl.find? (fun x => x.1.carried (d.linkState p)) with
  | some x =>
    if l.replay.length < 1920 then
      let b := match x.2 with
        | .key _ => d.stampChange p x.1
        | _ => x.1
      some ((d.modLnk p (fun l => { l with ctl := l.ctl.erase x, due := x.2 })).putSeq p b.ctlType 0 0 b.len false false false b)
    else none
  | none => none

/-- A CAP or CREDIT block that waits (R91, R93, order 5; DESIGN CHOICE, log entry 106: CAP first). -/
def Dev.putCapCredit (d : Dev) (p : Nat) : Option Dev :=
  let l := d.lnk p
  match l.caps with
  | c :: t => some ((d.modLnk p (fun l => { l with caps := t })).putFree p 9 52 (.cap c))
  | [] =>
    if l.creditDue then
      let d := (d.modLnk p (fun l => { l with creditDue := false })).putFree p 10 40
        (.credit ((List.range 8).map (fun c => l.cum.get c 0)))
      some (d.modLnk p (fun l => { l with creditOn := true }))
    else none

/-- The block picked at a boundary: the first kind of block that is ready (R93). -/
def Dev.pickBlock (p : Nat) (ecc : Ecc) (d : Dev) : Dev :=
  let st := d.linkState p
  if st = 0 then d.putDown p
  else if st = 5 then d
  else match d.putTimed p with
    | some d => d
    | none =>
      match d.nextReplay p with
      | some s => d.putReplay p s
      | none =>
        let d := d.modLnk p (fun l => { l with rpPoint := none })
        if 2047 ≤ (d.lnk p).sinceIdle then d.putIdle p
        else match d.putCtl p with
          | some d => d
          | none =>
            match d.putCapCredit p with
            | some d => d
            | none =>
              let data := if (st = 3 ∨ st = 4) ∧ (d.lnk p).replay.length < 1920 then d.dataBlock p ecc else none
              data.getD ((d.prepare p).putIdle p)

/-- A fill block: IDLE (R50, R92). -/
def Dev.putFill (p : Nat) (d : Dev) : Dev :=
  let st := d.linkState p
  if st = 5 then d
  else if st = 0 then d.idleDown p
  else d.putIdle p

/-- Whether no block but IDLE would follow at the next boundary. -/
def Dev.nothingReady (d : Dev) (p : Nat) : Bool :=
  let e := (d.modLnk p (fun l => { l with wire := [] })).pickBlock p .ok
  (e.lnk p).wire == [] || ((e.lnk p).lastTx.map (fun b => b.hdr.ty)).getD 8 == 8

/-- What the lanes put out over a block time: electrical idle in OFF and FAILED, PRBS31 in BLOTTER, else the block that was sent,
or K28.0 at L10 where there was none (R48 to R50, R60, R64, R103). A pair begun as PRBS31 is PRBS31 to its end. -/
def Dev.phyOut (p : Nat) (d : Dev) : Dev :=
  let st := d.seqState p
  let m := (d.seq p).target
  let run := d.runLanes p m
  let w := (d.lnk p).wire
  if st = 0 ∨ d.linkState p = 5 then d.lanesIdle p
  else if (d.seq p).phy.half = some [] then d.modPhy p (fun x => x.send run m none)
  else if w ≠ [] then d.modPhy p (fun x => x.send run m (some w))
  else if st = 5 then d.modPhy p (fun x => x.send run m none)
  else if m < 4 then d.modPhy p (fun x => x.fillL10 run m) else d

/-- A block boundary on a Tirrun egress (R93). In the FEC modes the blocks go in pairs: where only one is ready as a pair starts, the
second half carries a fill block (R50). The lanes put out what was sent. -/
def txBlockBoundary (p : Nat) (ecc : Ecc) (d : Dev) : Dev :=
  let x := (d.seq p).phy
  let fec := 4 ≤ (d.seq p).target
  let d := d.modLnk p (fun l => { l with wire := [] })
  let d := if fec && x.half == some [] then d else if fec && x.half.isSome && x.fill then d.putFill p else d.pickBlock p ecc
  let d := if fec && x.half.isNone then
      let n := d.nothingReady p
      d.modPhy p (fun y => { y with fill := n })
    else d
  ((d.phyOut p).blockSent p).retagAll p

def execTxBlockBoundary (p : Fin 10) (ecc : Ecc) (s : State) : Host.Outcome State Fault Refusal :=
  s.runOn (portDomain p) (txBlockBoundary p ecc)

/-! ### Timers of the link -/

/-- 100 µs since the last CREDIT block (R91). -/
def creditSendTimer (p : Nat) (d : Dev) : Dev :=
  if 1 ≤ d.linkState p ∧ d.linkState p ≤ 4 ∧ (d.lnk p).creditOn then d.modLnk p (fun l => { l with creditDue := true }) else d

def execCreditSendTimer (p : Fin 10) (s : State) : Host.Outcome State Fault Refusal := s.runOn (portDomain p) (creditSendTimer p)

/-- No acknowledgement for LNK_ACKTO: replay from the oldest unacknowledged block (R86). -/
def ackTimeout (p : Nat) (d : Dev) : Dev :=
  match (d.lnk p).replay with
  | [] => d
  | s :: _ => if 1 ≤ d.linkState p ∧ d.linkState p ≤ 4 then (d.inc (LNK_ACKTO_CNT_COUNT p)).startReplay p s.ext else d

def execAckTimeout (p : Fin 10) (s : State) : Host.Outcome State Fault Refusal := s.runOn (portDomain p) (ackTimeout p)

/-- 50 µs since the first replay of the oldest block without an acknowledgement (R88). -/
def retryBudgetTime (p : Nat) (d : Dev) : Dev :=
  match (d.lnk p).replay with
  | s :: _ => if s.replayAt.isSome then d.linkFail p 2 else d
  | [] => d

def execRetryBudgetTime (p : Fin 10) (s : State) : Host.Outcome State Fault Refusal := s.runOn (portDomain p) (retryBudgetTime p)

/-- No block delimited on aligned lanes for 4 µs (R102). -/
def execLinkSilent (p : Fin 10) (s : State) : Host.Outcome State Fault Refusal := s.runOn (portDomain p) (Dev.linkFail p 4)

/-- The 1 ms timer of INIT (R101); where the partner is this hub itself, SELF_LOOP says so (R115). -/
def linkInitTimeout (p : Nat) (d : Dev) : Dev :=
  if d.linkState p = 1 then (if (d.seq p).selfLoop then d.raise STN_EVT_SELF_LOOP else d).linkFail p 9 else d

def execLinkInitTimeout (p : Fin 10) (s : State) : Host.Outcome State Fault Refusal := s.runOn (portDomain p) (linkInitTimeout p)

/-- 100 ms in AUTH (R101). -/
def authTimeout (p : Nat) (d : Dev) : Dev :=
  if d.linkState p = 2 then (d.raise (LNK_EVT_AUTH_FAIL p)).linkFail p 8 else d

def execAuthTimeout (p : Fin 10) (s : State) : Host.Outcome State Fault Refusal := s.runOn (portDomain p) (authTimeout p)

/-- 5 µs in FAILED: the link is DOWN, and the sequencer enters PLAN_TX or START, or stays OFF where it is not to run (R101, R103). -/
def linkFailedExpire (p : Nat) (d : Dev) : Dev :=
  if d.linkState p = 5 then
    let d := d.setLink p 0
    if d.seqState p = 7 ∨ (d.seqState p = 0 ∧ d.seqWanted p = true) then d.restart p else d
  else d

def execLinkFailedExpire (p : Fin 10) (s : State) : Host.Outcome State Fault Refusal := s.runOn (portDomain p) (linkFailedExpire p)

/-- LNK_CTL.FAIL written 1; discarded in DOWN and FAILED (R109). -/
def linkFailWrite (p : Nat) (d : Dev) : Dev := d.linkFail p 7

def execLinkFailWrite (p : Fin 10) (s : State) : Host.Outcome State Fault Refusal := s.runOn (portDomain p) (linkFailWrite p)

end Sys2Proof.Machine
end

