-- ==== Sys2Proof/Machine/Handshake.lean ====
section
/-! DEFINITION. Segment keys (R550 to R553): AUTH messages, certificates, transcripts, the keys agreed, and the CERT sent on entry
to AUTH. -/

namespace Sys2Proof.Machine

/-- The unit identifier of the partner of a port (R115). -/
def Dev.partnerUid (d : Dev) (p : Nat) : Nat := d.get (LNK_NBR_UIDHI_UID p) * 2 ^ 32 + d.get (LNK_NBR_UIDLO_UID p)

/-- A message waits to be sent in AUTH blocks of up to 248 bytes (R93, R94), with what follows its last block. -/
def Dev.sendAuth (p msg : Nat) (l : List Byte) (after : After) (d : Dev) : Dev :=
  let n := (l.length + 247) / 248
  forAll (List.range n) (fun k d =>
    let b : Body := .auth msg k n l.length ((l.drop (248 * k)).take 248)
    d.modLnk p (fun x => { x with ctl := x.ctl ++ [(b, if k + 1 = n then after else .none)] })) d

/-- The upper-case hexadecimal digits of a unit identifier (R548). -/
def hexText (uid : Nat) : List Byte :=
  ((List.range 16).map (fun k => ("0123456789ABCDEF".toList.getD (uid / 16 ^ (15 - k) % 16) '0'))).map (fun c => BitVec.ofNat 8 c.toNat)

/-- The certified public key of a certificate, where it is valid for a unit (R548). -/
def Dev.certKey (d : Dev) (cert : List Byte) (uid : Nat) : Option (List Byte) :=
  match Config.certParts cert with
  | some (tbs, key, serial, sig) =>
    if ecdsaVerify d.key.ca sig tbs && (ecPoint key).isSome && serial == hexText uid then some key else none
  | none => none

/-- The identity's private key (R536). -/
def Dev.identity (d : Dev) : Option Nat := if d.key.root.isSome then some (beNat (d.keyVal 1)) else none

/-- Whether the lifecycle state forbids segments (R556). -/
def Dev.noSegments (d : Dev) : Bool := d.lifecycle == 0 || 3 ≤ d.lifecycle

/-- A signature by slot 1 over TH (R551). -/
def Dev.signTh (th : List Byte) (x : Nat) (d : Dev) : List Byte × Dev :=
  let (k, d) := d.drawKey
  (ecdsaSign x k (ascii "Darquin sign" ++ natBE 8 d.uid ++ th), d)

/-- A unit's proof over TH (R549, R551). -/
def proofTh (line : List Byte) (unit : Nat) (th : List Byte) : List Byte := hmac line (ascii "Darquin proof" ++ natBE 8 unit ++ th)

/-- The key sent from one unit to another (R551). -/
def segKeyOf (line th z : List Byte) (u v : Nat) : SegKey :=
  let okm := hkdfExpand (hkdfExtract (hmac line (ascii "Darquin seg" ++ th)) z) (ascii "Darquin seg" ++ natBE 8 u ++ natBE 8 v) 36
  ⟨beNat (okm.take 32), beNat (okm.drop 32), 0⟩

/-- As many private keys generated in order. -/
def Dev.drawKeys : Nat → Dev → List Nat × Dev
  | 0, d => ([], d)
  | n + 1, d =>
    let (x, d) := d.drawKey
    let (l, d) := d.drawKeys n
    (x :: l, d)

/-- The private key of the next ephemeral pair, taken from the pool of 16 and used once; the key unit fills the pool when it is
found empty (R550). -/
def Dev.ephemeral (d : Dev) : Nat × Dev :=
  let (l, d) := if d.key.pool.isEmpty then d.drawKeys 16 else (d.key.pool, d)
  (l.headD 1, d.modKey (fun k => { k with pool := l.drop 1 }))

/-- On entry to AUTH each end sends CERT (R552): its unit, a nonce, an ephemeral public key, its certificate. -/
def Dev.authBegin (p : Nat) (d : Dev) : Dev :=
  let (v, d) := d.draw 256
  let (x, d) := d.ephemeral
  let body := natBE 8 d.uid ++ natBE 32 v ++ ecPublic x ++ natBE 2 d.key.cert.length ++ d.key.cert
  (d.modSeg p (fun _ => { SegAuth.reset with mine := some body, eph := x })).sendAuth p 1 body .none

/-- Room for ESN and NCP at the end of a message; they are filled in as the message leaves (R550). -/
def changeRoom : List Byte := List.replicate 16 0

/-- A REFUSE of a handshake: the link fails with cause AUTH once it has been sent (R552; DESIGN CHOICE, log entry 70). -/
def Dev.authRefuse (p reason : Nat) (d : Dev) : Dev := d.sendAuth p 3 [BitVec.ofNat 8 reason] .authFail

/-- A REFUSE of a re-key: the segment fails with cause KEY once it has been sent (R553; DESIGN CHOICE, log entry 70). -/
def Dev.rekeyRefuse (p reason : Nat) (d : Dev) : Dev := d.sendAuth p 3 [BitVec.ofNat 8 reason] .keyFail

end Sys2Proof.Machine
end

