-- ==== Sys2Proof/Machine/LinkRx.lean ====
section
/-! DEFINITION. What a Tirrun port receives (spec 03): acknowledgements (R81, R86, R87), sequence (R82, R84), credits (R91), bad
blocks (R79, R98), and the rows of each block type; line time on the lanes (R218 to R221); mode requests (R134 to R137). -/

namespace Sys2Proof.Machine

/-- Whether the link layer of a port takes blocks: INIT, AUTH, ADMIT or RUN (R100). -/
def Dev.linkUp (d : Dev) (p : Nat) : Bool := 1 ≤ d.linkState p && d.linkState p ≤ 4

/-! ### Header fields -/

/-- The round trip measured by an acknowledgement: the smallest of the last 1 ms (R87). -/
def Dev.measure (d : Dev) (p sentAt : Nat) : Dev :=
  let now := d.cyc
  let win := ((d.lnk p).rttWin.filter (fun x => now < x.1 + 500000)) ++ [(now, 2 * (now - sentAt))]
  let rtt := (win.map Prod.snd).foldl min (2 * (now - sentAt))
  let d := (d.modLnk p (fun l => { l with rttWin := win })).set (LNK_RTT_NS p) rtt
  d.set (LNK_ACKTO_NS p) (rtt + 3000)

/-- The oldest `n` blocks of the replay buffer acknowledged (R83, R86). -/
def Dev.acked (d : Dev) (p n : Nat) : Dev :=
  match ((d.lnk p).replay.take n).getLast? with
  | none => d
  | some s =>
    let d := d.modLnk p (fun l => { l with replay := l.replay.drop n })
    (d.set (LNK_STAT_WIN p) (d.lnk p).replay.length).measure p s.sentAt

/-- The acknowledgement of a good block (R81, R86). -/
def Dev.ackField (d : Dev) (p kind ack : Nat) : Dev :=
  let l := d.lnk p
  let una := match l.replay with
    | s :: _ => s.ext
    | [] => l.txNext
  if kind = 1 then
    let n := (ack + 4097 - una % 4096) % 4096
    if n ≤ l.replay.length then d.acked p n else d
  else if kind = 2 then
    let n := (ack + 4096 - una % 4096) % 4096
    let d := d.inc (LNK_NAKRX_COUNT p)
    if l.replay.length < n then d
    else
      let running : Bool := match l.rpPoint with
        | some r => Decidable.decide (r ≤ una + n)
        | none => false
      let d := d.acked p n
      if running then d else d.startReplay p (una + n)
  else d

/-- The credit field of a good block (R91). -/
def Dev.creditField (d : Dev) (p c cnt : Nat) : Dev :=
  d.modLnk p (fun l =>
    let g := l.granted.get c 0
    let x := (cnt + 2 ^ 20 - g % 2 ^ 20) % 2 ^ 20
    if 1 ≤ x ∧ x < 2 ^ 19 then { l with granted := l.granted.set c ((g + x) % 2 ^ 32) 0 } else l)

/-- The fields that the sender reads of each good block (R81, R91). -/
def Dev.fields (d : Dev) (p : Nat) (h : BlkHdr) : Dev := (d.creditField p h.ccls h.ccnt).ackField p h.akind h.ack

/-- A NAK owed for the expected number (R84, R85). -/
def Dev.oweNak (d : Dev) (p : Nat) : Dev := d.modLnk p (fun l => { l with akind := 2, ackOwed := true })

/-- The partner's change point has been accepted: where its FINISH has verified, encryption is on and AUTH completes (R101, R552). -/
def Dev.authDone (p : Nat) (d : Dev) : Dev :=
  if d.linkState p = 2 ∧ (d.seg p).verified = true then
    let d := d.modSeg p (fun x => { x with verified := false })
    let d := ((d.set (LNK_STAT_ENC p) 1).set (KEY_SEGp_STAT_ENC p) 1).set (KEY_SEGp_STAT_LSLOT p) (d.get KEY_LINE_SLOT)
    ((d.set (KEY_SEGp_STAT_ORPHANED p) 0).raise (LNK_EVT_AUTH_OK p)).enterAdmit p
  else d

/-- The receive key changes once the block at the partner's change point has been accepted (R99, R553). -/
def Dev.turnKey (p : Nat) (d : Dev) : Dev :=
  match (d.lnk p).rxNext with
  | some (k, esn, _) =>
    if esn < (d.lnk p).rxExp then (d.modLnk p (fun l => { l with rxKey := some k, rxNext := none })).authDone p else d
  | none => d

/-- The extended number of a sequenced block, rebuilt from SEQ and the expected number (R97). -/
def LinkSt.extOf (l : LinkSt) (seq : Nat) : Nat :=
  let x := (seq + 4096 - l.rxExp % 4096) % 4096
  if x < 2048 then l.rxExp + x else l.rxExp + x - 4096

/-- The key under which a block comes: the partner's new one from its change point on, sequenced by ESN, unsequenced by NCP (R99,
R550). A bring-up block is not encrypted (R100). -/
def Dev.keyOf (d : Dev) (p : Nat) (h : BlkHdr) : Option SegKey :=
  let l := d.lnk p
  if d.linkState p = 0 then none
  else match l.rxNext with
    | some (k, esn, ncp) =>
      if (if seqType h.ty then Decidable.decide (esn ≤ l.extOf h.seq) else Decidable.decide (ncp ≤ h.nonce)) then some k else l.rxKey
    | none => l.rxKey

/-- The header and the payload of a block that is good (R79, R97). -/
def Dev.opened (d : Dev) (p : Nat) (b : RxBlk) : Option (BlkHdr × List Byte) :=
  let h := BlkHdr.parse b.bytes
  openBlock (d.keyOf p h) ((d.lnk p).extOf h.seq) b.bytes

/-- A block counted on the key under which it came (R99). -/
def Dev.countRx (d : Dev) (p : Nat) (h : BlkHdr) : Dev :=
  let up := fun (k : SegKey) => { k with blocks := k.blocks + 1 }
  if d.keyOf p h = none then d
  else if d.keyOf p h = (d.lnk p).rxKey then d.modLnk p (fun l => { l with rxKey := l.rxKey.map up })
  else d.modLnk p (fun l => { l with rxNext := l.rxNext.map (fun x => (up x.1, x.2.1, x.2.2)) })

/-- A good sequenced block: whether it is accepted (R82, R84). -/
def Dev.acceptSeq (d : Dev) (p : Nat) (h : BlkHdr) : Bool × Dev :=
  if !d.linkUp p then (false, d)
  else
    let d := d.fields p h
    if !d.linkUp p then (false, d)
    else
      let x := (h.seq + 4096 - (d.lnk p).rxExp % 4096) % 4096
      if x = 0 then
        (true, ((d.modLnk p (fun l => { l with rxExp := l.rxExp + 1, akind := 1, ackOwed := true })).inc (LNK_RXSEQ_COUNT p)).turnKey p)
      else if x < 2048 then (false, (d.inc (LNK_RXOOS_COUNT p)).oweNak p)
      else (false, (d.inc (LNK_RXOOS_COUNT p)).modLnk p (fun l => { l with ackOwed := true }))

/-- A good unsequenced block: whether it is processed (R84, R97). -/
def Dev.acceptFree (d : Dev) (p : Nat) (h : BlkHdr) : Bool × Dev :=
  if !d.linkUp p then (false, d)
  else if (d.keyOf p h).isSome && h.nonce ≤ (d.lnk p).nonceRx then (false, d)
  else
    let d := d.modLnk p (fun l => { l with nonceRx := if h.nonce = 0 then l.nonceRx else h.nonce })
    let d := d.fields p h
    let d := match (d.lnk p).rxNext with
      | some (_, _, ncp) => if ncp ≤ h.nonce then d.authDone p else d
      | none => d
    let x := (h.seq + 4096 - (d.lnk p).rxExp % 4096) % 4096
    let d := if d.linkUp p && 1 ≤ x && x < 2048 then d.oweNak p else d
    (d.linkUp p, d)

/-- What an accepted block does beside its header. -/
def Dev.onAccept (x : Bool × Dev) (f : Dev → Dev) : Dev := if x.1 then f x.2 else x.2

/-! ### Data and bad blocks -/

/-- The content of an accepted data block: stored, or left for the tunnel engine to take (R79, R80, R100). -/
def Dev.dataRx (p : Nat) (h : BlkHdr) (l : List Byte) (d : Dev) : Dev :=
  if 2 ≤ h.ty then d.inc (LNK_RXRSV_COUNT p)
  else if d.linkState p < 3 then d.returnCredit p (h.sq / 32)
  else if h.first || h.last || (d.lnk p).rxWait.any (fun b => b.hdr.pid == h.pid) then
    d.modLnk p (fun x => { x with rxWait := x.rxWait ++ [⟨h, .data l⟩] })
  else d.laterBlock p h l

/-- The FEC work of a port's lanes in an FEC mode: corrected symbols, counted in SERVICE; uncorrectable codewords and pair-mark errors
(R50, R75). -/
def Dev.fecCounts (d : Dev) (p : Nat) (fec : List (Nat × Nat)) : Dev :=
  if (d.seq p).target < 4 then d
  else forAll ((List.range (laneCount p)).zip fec) (fun x d =>
    (d.incBy (TRK_LnFECC_COUNT p x.1) (if d.seqState p = 7 then x.2.1 else 0)).incBy (TRK_LnFECU_COUNT p x.1) x.2.2) d

/-- A bad block: discarded without a look at its fields; the 1,024th failed tag within a second ends the segment (R79, R84, R98). -/
def Dev.badBlock (p : Nat) (d : Dev) : Dev :=
  if !d.linkUp p then d
  else
    let d := (d.inc (LNK_RXBAD_COUNT p)).oweNak p
    if (d.lnk p).rxKey.isSome ∨ (d.lnk p).rxNext.isSome then
      let d := d.modLnk p (fun l => { l with tagFails := l.tagFails.filter (fun t => d.cyc < t + 500000000) ++ [d.cyc] })
      if 1024 ≤ (d.lnk p).tagFails.length then (d.raise (LNK_EVT_TAG_STORM p)).linkFail p 5 else d
    else d

/-- A block off the lanes (R79): a bad one is discarded; a good one does what its row says, `f`, where it is of the row's `kind`. Where
it is of another kind the command names no event, and nothing happens (log entry 28). -/
def Dev.rx (p : Nat) (b : RxBlk) (kind : BlkHdr → List Byte → Bool) (f : BlkHdr → List Byte → Dev → Dev) (d : Dev) : Dev :=
  match d.opened p b with
  | none => (d.fecCounts p b.fec).badBlock p
  | some (h, l) => if kind h l then (f h l ((d.fecCounts p b.fec).countRx p h)).keySpent p else d

/-- Whether DATA_BLOCK_RX names a sequenced block: data, a reserved type, or a control block whose message R94 does not list. -/
def dataKind (h : BlkHdr) (l : List Byte) : Bool :=
  h.ty < 8 || (h.ty == 13 && 4 ≤ fieldGet 0 1 0 8 l) || (h.ty == 14 && 2 ≤ fieldGet 0 1 0 8 l)
    || (h.ty == 15 && (fieldGet 0 1 0 8 l == 0 || 7 ≤ fieldGet 0 1 0 8 l))

/-- A good sequenced block (R84); what it carries beyond LEN is not its content (R94). -/
def Dev.dataBlockRx (p : Nat) (h : BlkHdr) (l : List Byte) (d : Dev) : Dev :=
  Dev.onAccept (d.acceptSeq p h) (fun d => if h.ty < 8 then d.dataRx p h (l.take h.len) else d)

def execDataBlockRx (p : Fin 10) (b : RxBlk) (s : State) : Host.Outcome State Fault Refusal :=
  s.runPins (portDomain p) (Dev.rx p b dataKind (Dev.dataBlockRx p))

/-- A block that fails its check or its CTRL/TYPE match (R79); a good block is none. -/
def blockRxBad (p : Nat) (b : RxBlk) (d : Dev) : Dev := d.rx p b (fun _ _ => false) (fun _ _ d => d)

def execBlockRxBad (p : Fin 10) (b : RxBlk) (s : State) : Host.Outcome State Fault Refusal := s.runPins (portDomain p) (blockRxBad p b)

/-! ### Control blocks -/

/-- An unsequenced control block of a type and, where the type has subtypes, of one of them. -/
def freeKind (ty : Nat) (sub : Option Nat) (h : BlkHdr) (l : List Byte) : Bool :=
  h.ty == ty && (match sub with
    | some n => fieldGet 8 1 0 8 l == n
    | none => true)

/-- An IDLE block (R92), or a CAP or DELAY block of a subtype that R94 does not list: its header is read, and it is dropped. -/
def idleKind (h : BlkHdr) (l : List Byte) : Bool :=
  h.ty == 8 || (h.ty == 9 && 5 ≤ fieldGet 8 1 0 8 l) || (h.ty == 12 && 2 ≤ fieldGet 8 1 0 8 l)

def Dev.idleBlockRx (p : Nat) (h : BlkHdr) (_ : List Byte) (d : Dev) : Dev := (d.acceptFree p h).2

def execIdleBlockRx (p : Fin 10) (b : RxBlk) (s : State) : Host.Outcome State Fault Refusal :=
  s.runPins (portDomain p) (Dev.rx p b idleKind (Dev.idleBlockRx p))

/-- An unsequenced control block of a kind, and what its content does once it is processed (R84). -/
def Dev.freeRx (p : Nat) (b : RxBlk) (ty : Nat) (sub : Option Nat) (f : List Byte → Dev → Dev) (d : Dev) : Dev :=
  d.rx p b (freeKind ty sub) (fun h l d => Dev.onAccept (d.acceptFree p h) (f l))

/-- INIT ends with the first CREDIT block: AUTH where it is required or the hub is deployed, else ADMIT; a partner that is this
hub itself never leaves INIT; on entry to AUTH the port sends CERT (R101, R104, R115, R552). -/
def Dev.initDone (d : Dev) (p : Nat) : Dev :=
  if d.linkState p = 1 && !(d.seq p).selfLoop then
    (if d.flag (LNK_CTL_AUTH_REQ p) || d.get LCS_STATE_LC == 2 then (d.setLink p 2).authBegin p else d.enterAdmit p)
  else d

/-- A CREDIT block: the cumulative counts of all classes (R91). -/
def Dev.creditRx (p : Nat) (cum : List Nat) (d : Dev) : Dev :=
  let d := forAll (List.range 8) (fun c d =>
    d.modLnk p (fun l =>
      let g := l.granted.get c 0
      let x := (cum.getD c g + 2 ^ 32 - g % 2 ^ 32) % 2 ^ 32
      if 1 ≤ x ∧ x < 2 ^ 31 then { l with granted := l.granted.set c ((g + x) % 2 ^ 32) 0 } else l)) d
  d.initDone p

def execCreditRx (p : Fin 10) (b : RxBlk) (s : State) : Host.Outcome State Fault Refusal :=
  s.runPins (portDomain p) (Dev.freeRx p b 10 none (fun l d => d.creditRx p (cumOf l)))

/-- A CAP block of SUBTYPE CAP: of bring-up, or in service, where it renews the neighbour record (R61, R117). -/
def Dev.capRx (p : Nat) (h : BlkHdr) (l : List Byte) (d : Dev) : Dev :=
  let c := capOf l
  if d.linkState p = 0 then (d.seqMeet p c).seqCapRx p c
  else Dev.onAccept (d.acceptFree p h) (fun d => if c.unitId = d.uid then d else d.nbrInfo p c)

def execCapRx (p : Fin 10) (b : RxBlk) (s : State) : Host.Outcome State Fault Refusal :=
  s.runPins (portDomain p) (Dev.rx p b (freeKind 9 (some 0)) (Dev.capRx p))

/-- A CAP block of SUBTYPE BLOT_RESULT: the partner's result, and its record (R116); in service only its header is read (R61, R64, R96). -/
def Dev.blotBlockRx (p : Nat) (h : BlkHdr) (l : List Byte) (d : Dev) : Dev :=
  if d.linkState p = 0 then (d.seqMeet p (capOf l)).blotResultRx p (capOf l).lanes else (d.acceptFree p h).2

def execBlotResultRx (p : Fin 10) (b : RxBlk) (s : State) : Host.Outcome State Fault Refusal :=
  s.runPins (portDomain p) (Dev.rx p b (freeKind 9 (some 1)) (Dev.blotBlockRx p))

/-- A sequenced control block of a type and subtype, and what its content does in a state that carries it (R84, R100). -/
def Dev.ctlRx (p : Nat) (b : RxBlk) (ty sub : Nat) (f : List Byte → Dev → Dev) (d : Dev) : Dev :=
  d.rx p b (fun h l => h.ty == ty && fieldGet 0 1 0 8 l == sub)
    (fun h l d => Dev.onAccept (d.acceptSeq p h) (fun d => if d.carriesCtl p then f l d else d))

/-- A WRAP or UNWRAP notice (R108). -/
def execWrapNoticeRx (p : Fin 10) (b : RxBlk) (s : State) : Host.Outcome State Fault Refusal :=
  s.runPins (portDomain p) (Dev.ctlRx p b 14 0 (fun l d => d.noticeRx p (wrapOf l)))

def execUnwrapNoticeRx (p : Fin 10) (b : RxBlk) (s : State) : Host.Outcome State Fault Refusal :=
  s.runPins (portDomain p) (Dev.ctlRx p b 14 1 (fun l d => d.noticeRx p (wrapOf l)))

/-- ACCORD blocks in a state that carries them (R100). -/
def execAccordPrepareRx (p : Fin 10) (b : RxBlk) (s : State) : Host.Outcome State Fault Refusal :=
  s.runPins (portDomain p) (Dev.ctlRx p b 13 0 (fun l d => d.prepareRx p (acOf l)))

def execAccordVoteRx (p : Fin 10) (b : RxBlk) (s : State) : Host.Outcome State Fault Refusal :=
  s.runPins (portDomain p) (Dev.ctlRx p b 13 1 (fun l d => d.voteRx p (acOf l)))

def execAccordGoRx (p : Fin 10) (b : RxBlk) (s : State) : Host.Outcome State Fault Refusal :=
  s.runPins (portDomain p) (Dev.ctlRx p b 13 2 (fun l d => d.decisionRx p (acOf l) true))

def execAccordAbandonRx (p : Fin 10) (b : RxBlk) (s : State) : Host.Outcome State Fault Refusal :=
  s.runPins (portDomain p) (Dev.ctlRx p b 13 3 (fun l d => d.decisionRx p (acOf l) false))

/-! ### Line time on the lanes -/

/-- TB0 crosses a multiple of 62.5 µs: a TICK is due on every Tirrun port in INIT to RUN (R218). -/
def tickDue (d : Dev) : Dev :=
  let d := (d.reachMultiple 0 62500 0).modTime (fun t => { t with tickCount := (t.tickCount + 1) % 65536 })
  forAll ports (fun p d => if d.linkUp p then d.modLnk p (fun l => { l with tickDue := true }) else d) d

def execTickDue (s : State) : Host.Outcome State Fault Refusal := s.runOn 3 tickDue

/-- The offset a TICK gives, in 2^-8 ns (R221). -/
def Dev.tickOffset (d : Dev) (p : Nat) (t : Tick) : Int :=
  let u : Int := ((t.origin.units : Nat) : Int) + t.corr * ((2 ^ 16 : Nat) : Int) - ((d.tb 0).units : Nat)
  u / ((2 ^ 24 : Nat) : Int) + (d.get (TMB_PORTp_DLY_D p) : Nat) + sgn 16 (d.get (TMB_PORTp_ASYM_PS p)) * 256 / 1000

/-- The ticks skipped before this one on a port (R220). -/
def Dev.tickGap (d : Dev) (p count : Nat) : Nat :=
  match d.time.servo.lastCount.find p with
  | some c => let g := (count + 2 * 65536 - c - 1) % 65536; if g < 32768 then g else 0
  | none => 0

/-- Whether a TICK names another reference than the one the servo follows (R220): while it follows one, which it does not in OFF and
FREERUN, nor where SRC is PPS_IN (DEDUCED, log 39). -/
def Dev.otherSource (d : Dev) (t : Tick) : Bool :=
  2 ≤ d.get TMB_SRV_STAT_STATE && d.get TMB_SRV_STAT_SOURCE != 0xFFF && t.source != d.get TMB_SRV_STAT_SOURCE

/-- A TICK block (R220, R221, R224, R226). A tick of another reference raises SOURCE_CONFLICT whatever its port and quality are. -/
def Dev.tickRx (p : Nat) (t : Tick) (d : Dev) : Dev :=
  let active := d.get TMB_SRV_STAT_ACTIVE == p
  let gap := d.tickGap p t.count
  let d := d.modServo (fun s => { s with lastCount := Tab.insert p t.count (Tab.erase p s.lastCount) })
  let d := if active then d.incBy TMB_SRV_MISSED_COUNT gap else d
  let fits := d.carriesCtl p && (d.time.delay.get p DelayPart.reset).measured && 1 ≤ t.quality && t.quality ≤ 4
  let same := d.get TMB_SRV_STAT_STATE ≤ 1 || t.source == d.get TMB_SRV_STAT_SOURCE
  let d := if fits && same then
      d.modServo (fun s => { s with lastTick := Tab.insert p d.time.cyc (Tab.erase p s.lastTick) }) else d
  let d := if d.otherSource t then
      (d.raise TMB_EVT_SOURCE_CONFLICT).silPost 0x14 0x0005 (silArg 16 t.source + silArg 18 p) else d
  if active && fits && same then d.takeSample p (d.tickOffset p t) (some t.source) else d

def execTickRx (p : Fin 10) (b : RxBlk) (s : State) : Host.Outcome State Fault Refusal :=
  s.runPins (portDomain p) (Dev.freeRx p b 11 none (fun l d => d.tickRx p (tickOf l)))

def Dev.delayPart (d : Dev) (p : Nat) : DelayPart := d.time.delay.get p DelayPart.reset
def Dev.setDelay (d : Dev) (p : Nat) (x : DelayPart) : Dev :=
  d.modTime (fun t => { t with delay := t.delay.set p x DelayPart.reset })

/-- 1 ms of TB0, offset from the ticks: a DELAY REQ is due (R219). -/
def delayReqDue (p : Nat) (d : Dev) : Dev :=
  let d := d.reachMultiple 0 1000000 31250
  if d.linkUp p then
    let n := ((d.delayPart p).dseq + 1) % 65536
    d.modLnk p (fun l => { l with delays := l.delays ++ [⟨false, n, ⟨0, 0, 0⟩, ⟨0, 0, 0⟩, ⟨0, 0, 0⟩⟩] })
  else d

def execDelayReqDue (p : Fin 10) (s : State) : Host.Outcome State Fault Refusal := s.runOn (portDomain p) (delayReqDue p)

/-- A DELAY REQ: its REPLY waits for the next block boundary (R219). -/
def Dev.requestRx (p : Nat) (x : Delay) (d : Dev) : Dev :=
  d.modLnk p (fun l => { l with delays := l.delays ++ [⟨true, x.dseq, x.t1, d.tb 0, ⟨0, 0, 0⟩⟩] })

def execDelayReqRx (p : Fin 10) (b : RxBlk) (s : State) : Host.Outcome State Fault Refusal :=
  s.runPins (portDomain p) (Dev.freeRx p b 12 (some 0) (fun l d => d.requestRx p (delayOf l)))

/-- A measured delay, in 2^-8 ns, formed into D (R219). -/
def Dev.formDelay (d : Dev) (p : Nat) (x : Int) : Dev :=
  let s := d.delayPart p
  let old : Int := (d.get (TMB_PORTp_DLY_D p) : Nat)
  if !s.measured || 8 ≤ s.rejects then
    (d.set (TMB_PORTp_DLY_D p) (unsgn 32 x)).setDelay p { s with waiting := false, measured := true, rejects := 0 }
  else if 50 * 256 < (x - old).natAbs then
    (d.inc TMB_DLY_OUTLIER_COUNT).setDelay p { s with waiting := false, rejects := s.rejects + 1 }
  else (d.set (TMB_PORTp_DLY_D p) (unsgn 32 (old + (x - old) / 8))).setDelay p { s with waiting := false, rejects := 0 }

/-- A DELAY REPLY; one of another request is discarded (R219). -/
def Dev.replyRx (p : Nat) (x : Delay) (d : Dev) : Dev :=
  let s := d.delayPart p
  if s.waiting && s.dseq == x.dseq then
    let v : Int := (((d.tb 0).units : Nat) : Int) - (x.t1.units : Nat) - (((x.t3.units : Nat) : Int) - (x.t2.units : Nat))
    d.formDelay p (v / 2 / ((2 ^ 24 : Nat) : Int))
  else d

def execDelayReplyRx (p : Fin 10) (b : RxBlk) (s : State) : Host.Outcome State Fault Refusal :=
  s.runPins (portDomain p) (Dev.freeRx p b 12 (some 1) (fun l d => d.replyRx p (delayOf l)))

/-! ### Mode requests -/

def Dev.modReq (d : Dev) (p : Nat) (f : MReq → MReq) : Dev := d.modLnk p (fun l => { l with mreq := f l.mreq })

/-- The MODE_REQ that a port's request registers name (R134). -/
def Dev.reqCap (d : Dev) (p : Nat) : Cap :=
  { d.ownCap p 2 with
      plan := d.get (LNK_MREQ_PLAN p)
      ring := d.flag (LNK_MREQ_RING p)
      byp := d.flag (LNK_MREQ_BYP p)
      reqSer := d.get (LNK_REQSER_SER p) }

/-- A request sent, or found INVALID (R134). -/
def Dev.startReq (p : Nat) (d : Dev) : Dev :=
  let d := d.set (LNK_MREQ_GO p) 0
  if !d.carriesCtl p || !inAllow (d.seq p).allow (d.get (LNK_MREQ_PLAN p)) then d.set (LNK_MRES_RESULT p) 6
  else
    let d := (d.inc (LNK_REQSER_SER p)).set (LNK_MRES_RESULT p) 1
    let c := d.reqCap p
    (d.modReq p (fun m => { m with pending := some c })).sendCap p c

/-- GO written 1 (R134, R137). -/
def modeReqGo (p plan : Nat) (ring byp : Bool) (d : Dev) : Dev :=
  let d := ((d.set (LNK_MREQ_PLAN p) plan).setB (LNK_MREQ_RING p) ring).setB (LNK_MREQ_BYP p) byp
  let m := (d.lnk p).mreq
  if m.pending.isSome then d
  else if m.backoff.isSome then (d.set (LNK_MREQ_GO p) 1).modReq p (fun m => { m with held := true })
  else d.startReq p

def execModeReqGo (p : Fin 10) (plan : Fin 16) (ring byp : Bool) (s : State) : Host.Outcome State Fault Refusal :=
  s.runOn (portDomain p) (modeReqGo p plan ring byp)

/-- 10 µs with a request pending: it is sent again (R96). -/
def modeReqRepeat (p : Nat) (d : Dev) : Dev :=
  match (d.lnk p).mreq.pending with
  | some c => d.sendCap p c
  | none => d

def execModeReqRepeat (p : Fin 10) (s : State) : Host.Outcome State Fault Refusal := s.runOn (portDomain p) (modeReqRepeat p)

/-- 1 ms without an answer (R142). -/
def modeReqTimeout (p : Nat) (d : Dev) : Dev := if (d.lnk p).mreq.pending.isSome then d.mreqEnd p 4 else d

def execModeReqTimeout (p : Fin 10) (s : State) : Host.Outcome State Fault Refusal := s.runOn (portDomain p) (modeReqTimeout p)

/-- A back-off of 1 to 8 ms in steps of 125 µs, during which RESULT reads HELD (R137). -/
def Dev.backOff (p : Nat) (d : Dev) : Dev :=
  let (n, d) := d.fresh
  let us := 1000 + 125 * (Config.randomNat n % 57)
  ((d.set (LNK_MRES_BACKOFF p) us).set (LNK_MRES_RESULT p) 5).modReq p (fun m => { m with backoff := some (d.cyc + 500 * us) })

/-- An answer given to a serial, sent and kept for its repeats (R96). -/
def Dev.answer (d : Dev) (p : Nat) (c : Cap) : Dev :=
  (d.modReq p (fun m => { m with answered := some (c.reqSer, c) })).sendCap p c

/-- The mode with which a request is answered (R135). -/
def Dev.answerMode (d : Dev) (p : Nat) (c : Cap) : Nat :=
  if inAllow (if p < 2 then (d.seq p).allow else d.get (TCL_CFG_ALLOW (p - 2))) c.plan then c.plan else d.bestCommon p c

/-- MODE_ACK given, and the plan it agrees waits for the restart (R135). -/
def Dev.ackMode (d : Dev) (p : Nat) (c : Cap) : Dev :=
  let m := d.answerMode p c
  let d := d.modReq p (fun r => { r with restart := some (m, c.ring, c.byp) })
  d.answer p { d.ownCap p 3 with plan := m, ring := c.ring, byp := c.byp, reqSer := c.reqSer }

/-- A MODE_REQ (R96, R135, R136). -/
def Dev.modeReqRx (p : Nat) (c : Cap) (d : Dev) : Dev :=
  let m := (d.lnk p).mreq
  match m.answered with
  | some (ser, a) => if ser = c.reqSer then d.sendCap p a else go m.pending.isSome d
  | none => go m.pending.isSome d
where
  go (pending : Bool) (d : Dev) : Dev :=
    if !pending then d.ackMode p c
    else if d.uid < c.unitId then d.answer p { d.ownCap p 4 with reqSer := c.reqSer }
    else
      let d := d.ackMode p c
      ((d.set (LNK_MRES_AMODE p) (d.answerMode p c)).mreqEnd p 3).backOff p

def execModeReqRx (p : Fin 10) (b : RxBlk) (s : State) : Host.Outcome State Fault Refusal :=
  s.runPins (portDomain p) (Dev.freeRx p b 9 (some 2) (fun l d => d.modeReqRx p (capOf l)))

/-- What a mode request has agreed is written, and the restart that it asks for follows (R135, R429). -/
def Dev.agreed (p : Nat) (d : Dev) : Dev :=
  let d := d.applyAnswer p
  if 2 ≤ p then d.restep p else if d.seqState p = 0 then d else d.relock p

/-- A good MODE_ACK of the own request (R135); one whose mode code is invalid says nothing (R46). -/
def Dev.modeAckRx (p : Nat) (c : Cap) (d : Dev) : Dev :=
  match (d.lnk p).mreq.pending with
  | some x =>
    if c.reqSer = x.reqSer ∧ c.plan % 4 ≠ 3 then
      let d := (d.set (LNK_MRES_AMODE p) c.plan).mreqEnd p 2
      (d.modReq p (fun r => { r with restart := some (c.plan, x.ring, x.byp) })).agreed p
    else d
  | none => d

def execModeAckRx (p : Fin 10) (b : RxBlk) (s : State) : Host.Outcome State Fault Refusal :=
  s.runPins (portDomain p) (Dev.freeRx p b 9 (some 3) (fun l d => d.modeAckRx p (capOf l)))

/-- A COLLIDE for the own request (R136, R137). -/
def Dev.collideRx (p : Nat) (c : Cap) (d : Dev) : Dev :=
  match (d.lnk p).mreq.pending with
  | some x => if c.reqSer = x.reqSer then (d.mreqEnd p 3).backOff p else d
  | none => d

def execCollideRx (p : Fin 10) (b : RxBlk) (s : State) : Host.Outcome State Fault Refusal :=
  s.runPins (portDomain p) (Dev.freeRx p b 9 (some 4) (fun l d => d.collideRx p (capOf l)))

/-- 20 µs after the first MODE_ACK: the answering end restarts (R135). -/
def modeAckRestartTimer (p : Nat) (d : Dev) : Dev := if (d.lnk p).mreq.restart.isSome then d.agreed p else d

def execModeAckRestartTimer (p : Fin 10) (s : State) : Host.Outcome State Fault Refusal := s.runOn (portDomain p) (modeAckRestartTimer p)

/-- The back-off ends: a held request is sent (R134, R137); without one RESULT reads COLLIDED again (DEDUCED, log entry 27). -/
def mreqBackoffEnd (p : Nat) (d : Dev) : Dev :=
  let m := (d.lnk p).mreq
  if m.backoff.isSome then
    let d := (d.set (LNK_MRES_BACKOFF p) 0).modReq p (fun m => { m with backoff := none, held := false })
    if m.held then d.startReq p else d.set (LNK_MRES_RESULT p) 3
  else d

def execMreqBackoffEnd (p : Fin 10) (s : State) : Host.Outcome State Fault Refusal := s.runOn (portDomain p) (mreqBackoffEnd p)

end Sys2Proof.Machine
end

