-- ==== Sys2Proof/Machine/Segments.lean ====
section
/-! DEFINITION. The AUTH handshake and re-keying of a segment (R552 to R555). Each message comes in AUTH blocks; a command carries the
blocks of a message, or some of them. -/

namespace Sys2Proof.Machine

/-- A fragment of an AUTH message joins those before it; the whole message comes out with the last one (R94). A fragment that does not
follow on begins a message where it is the first, else it is dropped (DESIGN CHOICE, log entry 93). -/
def Dev.addFrag (p : Nat) (x : Frag) (d : Dev) : Option (List Byte) × Dev :=
  let l := (d.lnk p).frags
  let follows := match l.getLast? with
    | some y => y.msg == x.msg && y.cnt == x.cnt && y.total == x.total && x.idx == y.idx + 1
    | none => x.idx == 0
  let l := if follows then l ++ [x] else if x.idx = 0 then [x] else []
  if l.length = x.cnt ∧ l ≠ [] then
    (some ((l.flatMap (·.bytes)).take x.total), d.modLnk p (fun y => { y with frags := [] }))
  else (none, d.modLnk p (fun y => { y with frags := l }))

/-- A block of an AUTH message; the message acts once it is whole (R82, R94, R100). -/
def Dev.authBlock (p msg : Nat) (f : List Byte → Dev → Dev) (b : RxBlk) (d : Dev) : Dev :=
  d.rx p b (fun h l => h.ty == 15 && fieldGet 0 1 0 8 l == msg) (fun h l d =>
    Dev.onAccept (d.acceptSeq p h) (fun d =>
      if 2 ≤ d.linkState p ∧ d.linkState p ≤ 4 then
        match d.addFrag p (fragOf h.len l) with
        | (some body, d) => f body d
        | (none, d) => d
      else d))

/-- The blocks of a message received in order (R82, R94). -/
def Dev.authRx (p msg : Nat) (f : List Byte → Dev → Dev) (bs : List RxBlk) (d : Dev) : Dev := forAll bs (Dev.authBlock p msg f) d

def part (l : List Byte) (a n : Nat) : List Byte := (l.drop a).take n

/-! ### The handshake -/

/-- TH of the handshake: the CERT body of the lower unit first (R551). -/
def thOf (u v : Nat) (mine theirs : List Byte) : List Byte := sha384 (if u < v then mine ++ theirs else theirs ++ mine)

/-- CERT received (R552): checked, and answered FINISH or REFUSE; the own later blocks go under the new key. -/
def Dev.certRx (p : Nat) (l : List Byte) (d : Dev) : Dev :=
  let x := d.seg p
  match x.mine with
  | none => d
  | some mine =>
    if d.linkState p ≠ 2 ∨ x.theirs.isSome then d
    else
      let v := beNat (l.take 8)
      let cert := part l 139 (beNat (part l 137 2))
      if v ≠ d.partnerUid p then d.authRefuse p 1
      else match d.certKey cert v with
        | none => d.authRefuse p 1
        | some pub => match ecPoint (part l 40 97) with
          | none => d.authRefuse p 6
          | some q => match d.lineKey with
            | none => d.authRefuse p 4
            | some line =>
              if d.noSegments then d.authRefuse p 5
              else
                let u := d.uid
                let th := thOf u v mine l
                let z := ecdh x.eph q
                let d := d.modSeg p (fun x => { x with theirs := some l, pub := pub, th := th, next := some (segKeyOf line th z v u),
                                                              agreed := d.power.osc })
                match d.identity with
                | none => d
                | some y =>
                  let (sig, d) := d.signTh th y
                  d.sendAuth p 2 (sig ++ proofTh line u th ++ changeRoom) (.key (segKeyOf line th z u v))

def execAuthCertRx (p : Fin 10) (bs : List RxBlk) (s : State) : Host.Outcome State Fault Refusal :=
  s.runPins (portDomain p) (Dev.authRx p 1 (Dev.certRx p) bs)

/-- FINISH received (R552): with SIG and PROOF right, AUTH completes as the partner's change point is accepted. -/
def Dev.finishRx (p : Nat) (l : List Byte) (d : Dev) : Dev :=
  let x := d.seg p
  match x.theirs, x.next with
  | some theirs, some k =>
    let v := beNat (theirs.take 8)
    if d.linkState p ≠ 2 then d
    else if !ecdsaVerify x.pub (part l 0 96) (ascii "Darquin sign" ++ natBE 8 v ++ x.th) then d.authRefuse p 2
    else match d.lineKey with
      | none => d.authRefuse p 4
      | some line =>
        if part l 96 48 ≠ proofTh line v x.th then d.authRefuse p 3
        else
          let d := (d.modLnk p (fun x => { x with rxNext := some (k, beNat (part l 144 8), beNat (part l 152 8)) })).modSeg p
            (fun x => { x with next := none, verified := true })
          d.turnKey p
  | _, _ => d

def execAuthFinishRx (p : Fin 10) (bs : List RxBlk) (s : State) : Host.Outcome State Fault Refusal :=
  s.runPins (portDomain p) (Dev.authRx p 2 (Dev.finishRx p) bs)

/-- REFUSE received (R552 to R554). -/
def Dev.refuseRx (p reason : Nat) (d : Dev) : Dev :=
  if d.linkState p = 2 then (d.raise (LNK_EVT_AUTH_FAIL p)).linkFail p 8
  else if reason = 7 ∨ (d.linkState p ≠ 3 ∧ d.linkState p ≠ 4) then d
  else d.keyFail p

def execAuthRefuseRx (p : Fin 10) (bs : List RxBlk) (s : State) : Host.Outcome State Fault Refusal :=
  s.runPins (portDomain p) (Dev.authRx p 3 (fun body d => d.refuseRx p (beNat (body.take 1))) bs)

/-! ### Re-keying -/

/-- Whether a segment is encrypted and in service. -/
def Dev.segUp (d : Dev) (p : Nat) : Bool := d.flag (KEY_SEGp_STAT_ENC p) && (d.linkState p == 3 || d.linkState p == 4)

/-- REKEY_REQ, or the head of REKEY_ACK: NONCE, EPUB, then SIG and PROOF over a transcript of these (R550, R551). -/
def Dev.rekeyBody (th : List Byte → List Byte) (line : List Byte) (y : Nat) (d : Dev) : (List Byte × Nat) × Dev :=
  let (v, d) := d.draw 256
  let (x, d) := d.ephemeral
  let head := natBE 32 v ++ ecPublic x
  let (sig, d) := d.signTh (th head) y
  ((head ++ sig ++ proofTh line d.uid (th head), x), d)

/-- The age, in 2 ns, at which AGE_H calls for a re-key (R553, R557). -/
def Dev.rekeyAge (d : Dev) : Nat := d.get KEY_REKEY_AGE_H * 3600 * 500000000

/-- A re-key is called for (R553): `reason` 0 orphaned keys, 1 age, 2 blocks. A hub without line key or identity can ask for none. -/
def rekeyTrigger (p reason : Nat) (d : Dev) : Dev :=
  let due := if reason = 0 then d.flag (KEY_SEGp_STAT_ORPHANED p)
    else if reason = 2 then 2 ^ d.get KEY_REKEY_BLK_LOG2 ≤ (((d.lnk p).txKey.map (·.blocks)).getD 0)
    else d.rekeyAge ≤ d.power.osc - (d.seg p).agreed
  match d.lineKey, d.identity with
  | some line, some y =>
    if d.segUp p && due && !d.flag (KEY_SEGp_STAT_REKEYING p) then
      let th := (d.seg p).th
      let ((body, x), d) := d.rekeyBody (fun head => sha384 (th ++ head)) line y
      let d := d.modSeg p (fun s => { s with req := some (body, x), reason := reason, retried := false })
      (d.set (KEY_SEGp_STAT_REKEYING p) 1).sendAuth p 4 body .none
    else d
  | _, _ => d

def execRekeyTrigger (p : Fin 10) (reason : Fin 3) (s : State) : Host.Outcome State Fault Refusal := s.runOn (portDomain p) (rekeyTrigger p reason)

/-- A re-key message's SIG, PROOF and EPUB under a transcript (R551, R552): the reason of a REFUSE, or the point and the line key. -/
def Dev.rekeyCheck (d : Dev) (p : Nat) (th l : List Byte) : Nat ⊕ ((Nat × Nat) × List Byte) :=
  let v := d.partnerUid p
  match ecPoint (part l 32 97), d.lineKey with
  | none, _ => .inl 6
  | _, none => .inl 4
  | some q, some line =>
    if d.noSegments then .inl 5
    else if !ecdsaVerify (d.seg p).pub (part l 129 96) (ascii "Darquin sign" ++ natBE 8 v ++ th) then .inl 2
    else if part l 225 48 ≠ proofTh line v th then .inl 3
    else .inr (q, line)

/-- A re-key is done: counted and recorded (R547, R560). -/
def Dev.rekeyDone (p reason : Nat) (d : Dev) : Dev :=
  let d := (d.set (KEY_SEGp_STAT_REKEYING p) 0).set (KEY_SEGp_STAT_ORPHANED p) 0
  let d := (d.set (KEY_SEGp_STAT_LSLOT p) (d.get KEY_LINE_SLOT)).inc KEY_REKEYS_COUNT
  d.event 0x19 0x0011 (p + 2 ^ 4 + reason * 2 ^ 5)

/-- A REKEY_REQ answered: REKEY_ACK, and the own blocks after it go under the new key (R553). -/
def Dev.rekeyAnswer (p : Nat) (l : List Byte) (d : Dev) : Dev :=
  let th := (d.seg p).th
  match d.rekeyCheck p (sha384 (th ++ l.take 129)) l with
  | .inl reason => d.rekeyRefuse p reason
  | .inr (q, line) => match d.identity with
    | none => d
    | some y =>
      let ((body, x), d) := d.rekeyBody (fun head => sha384 (th ++ l.take 129 ++ head)) line y
      let th2 := sha384 (th ++ l.take 129 ++ body.take 129)
      let z := ecdh x q
      let v := d.partnerUid p
      let u := d.uid
      let d := d.modSeg p (fun s => { s with th := th2, req := none, reason := 3, next := some (segKeyOf line th2 z v u),
                                                              agreed := d.power.osc })
      (d.set (KEY_SEGp_STAT_REKEYING p) 1).sendAuth p 5 (body ++ changeRoom) (.key (segKeyOf line th2 z u v))

/-- REKEY_REQ received: with an own request pending, the lower unit's request is kept (R553, R554). -/
def Dev.rekeyReqRx (p : Nat) (l : List Byte) (d : Dev) : Dev :=
  if !d.segUp p then d
  else if (d.seg p).req.isSome && d.uid < d.partnerUid p then d.sendAuth p 3 [7] .none
  else d.rekeyAnswer p l

def execRekeyReqRx (p : Fin 10) (bs : List RxBlk) (s : State) : Host.Outcome State Fault Refusal :=
  s.runPins (portDomain p) (Dev.authRx p 4 (Dev.rekeyReqRx p) bs)

/-- REKEY_ACK received: verified; the requester sends REKEY_SWITCH and switches (R553). -/
def Dev.rekeyAckRx (p : Nat) (l : List Byte) (d : Dev) : Dev :=
  match (d.seg p).req with
  | none => d
  | some (req, x) =>
    if !d.segUp p then d
    else
      let th := sha384 ((d.seg p).th ++ req.take 129 ++ l.take 129)
      match d.rekeyCheck p th l with
      | .inl reason => d.rekeyRefuse p reason
      | .inr (q, line) =>
        let z := ecdh x q
        let v := d.partnerUid p
        let u := d.uid
        let reason := (d.seg p).reason
        let d := d.modSeg p (fun s => { s with th := th, req := none, retried := false, agreed := d.power.osc })
        let d := (d.sendAuth p 6 changeRoom (.key (segKeyOf line th z u v))).modLnk p
          (fun x => { x with rxNext := some (segKeyOf line th z v u, beNat (part l 273 8), beNat (part l 281 8)) })
        (d.turnKey p).rekeyDone p reason

def execRekeyAckRx (p : Fin 10) (bs : List RxBlk) (s : State) : Host.Outcome State Fault Refusal :=
  s.runPins (portDomain p) (Dev.authRx p 5 (Dev.rekeyAckRx p) bs)

/-- REKEY_SWITCH received: the new receive key is adopted at the change point (R553). -/
def Dev.rekeySwitchRx (p : Nat) (l : List Byte) (d : Dev) : Dev :=
  match (d.seg p).next with
  | none => d
  | some k =>
    if !d.segUp p then d
    else
      let d := d.modSeg p (fun s => { s with next := none })
      let d := d.modLnk p (fun x => { x with rxNext := some (k, beNat (part l 0 8), beNat (part l 8 8)) })
      (d.turnKey p).rekeyDone p 3

def execRekeySwitchRx (p : Fin 10) (bs : List RxBlk) (s : State) : Host.Outcome State Fault Refusal :=
  s.runPins (portDomain p) (Dev.authRx p 6 (Dev.rekeySwitchRx p) bs)

/-- 100 ms without a REKEY_ACK: repeated once, then the segment fails (R553). -/
def rekeyAckTimeout (p : Nat) (d : Dev) : Dev :=
  match (d.seg p).req with
  | none => d
  | some (body, _) =>
    if (d.seg p).retried then d.keyFail p else (d.modSeg p (fun s => { s with retried := true })).sendAuth p 4 body .none

def execRekeyAckTimeout (p : Fin 10) (s : State) : Host.Outcome State Fault Refusal := s.runOn (portDomain p) (rekeyAckTimeout p)

/-- 1 ms after a segment's keys were orphaned without new keys (R99, R553). -/
def execRekeyOrphanTimeout (p : Fin 10) (s : State) : Host.Outcome State Fault Refusal :=
  s.runOn (portDomain p) (fun d => if d.segUp p && d.flag (KEY_SEGp_STAT_ORPHANED p) then d.keyFail p else d)

/-- Every encrypted segment fails as SEC leaves ON (R555). -/
def Dev.segmentsFail (d : Dev) : Dev := forAll ((List.range 10).filter (fun p => d.flag (KEY_SEGp_STAT_ENC p))) (fun p d => d.keyFail p) d

end Sys2Proof.Machine
end

