-- ==== Sys2Proof/Machine/Storage.lean ====
section
/-! DEFINITION. The storage engine (spec 12): drives (R396, R402), requests (R399 to R401), duplicate windows (R403, R404) and
bindings (R398). -/

namespace Sys2Proof.Machine

def Dev.drive (d : Dev) (n : Nat) : Drive := d.sto.drives.get n Drive.reset
def Dev.modDrive (d : Dev) (n : Nat) (f : Drive → Drive) : Dev :=
  { d with sto := { d.sto with drives := d.sto.drives.set n (f (d.drive n)) Drive.reset } }
def Dev.setWin (d : Dev) (b : Nat) (w : StoWin) : Dev := { d with sto := { d.sto with wins := d.sto.wins.set b w StoWin.reset } }
def Dev.stoState (d : Dev) (n : Nat) : Nat := d.get (STO_Sn_STAT_STATE n)

/-! ### Completions -/

/-- The header of a completion (R400). -/
def completion (op status nvstat id count : Nat) (data : List Byte) : List Byte :=
  natBE 1 op ++ natBE 1 status ++ natBE 2 nvstat ++ natBE 4 id ++ natBE 2 count ++ List.replicate 6 0 ++ data

/-- A completion sent in the reverse direction of a context (R400). -/
def Dev.reply (c : Nat) (l : List Byte) (d : Dev) : Dev := d.offer ⟨c, 21, l, none, 0, none, false⟩

/-- The slot of a request ID in the duplicate window of a binding (R398, R403). -/
def Dev.dwAddr (d : Dev) (b id : Nat) : Nat :=
  baseAddr (d.get STO_DW_BASE_BASE) false + 0x400000 * b + 16384 * (id % 256)

/-- Whether an ID lies in the window H - 255 to H (R403). -/
def StoWin.within (w : StoWin) (id : Nat) : Bool :=
  match w.high with
  | some h => (h + 2 ^ 32 - id) % 2 ^ 32 < 256
  | none => false

/-- A request completes: it leaves the binding, and its completion is cached and sent (R401, R403). -/
def Dev.complete (b : Nat) (r : StoReq) (status nvstat : Nat) (data : List Byte) (d : Dev) : Dev :=
  let l := completion r.op status nvstat r.id r.count data
  let w := d.win b
  let w := { w with reqs := w.reqs.filter (fun x => x.id != r.id) }
  let d := if w.within r.id then
      (d.setWin b { w with cache := w.cache.filter (fun x => x.1 % 256 != r.id % 256) ++ [(r.id, l)] }).engWrite (d.dwAddr b r.id) l
    else d.setWin b w
  let d := if status = 5 then d.inc (STO_Sn_ERRORS_COUNT (b / 64)) else d
  d.reply r.ctx l

/-- The requests of a binding that may go to the drive now, in order: a FLUSH waits for those before it, and holds those behind
it (R401). -/
def submitAll (before : Bool) : List StoReq → List StoReq
  | [] => []
  | r :: t =>
    if r.sent then r :: submitAll true t
    else if r.op = 5 then { r with sent := true } :: submitAll before t
    else if r.op = 3 then (if before then r :: t else { r with sent := true } :: t)
    else { r with sent := true } :: submitAll true t

/-- Whether a submitted FLUSH holds the requests behind it. -/
def flushOut (l : List StoReq) : Bool := l.any (fun r => r.op == 3 && r.sent)

/-- The command that a request becomes: READ, WRITE and TRIM with SLBA = LBA and NLB = COUNT - 1, FLUSH (R397, R399; the opcodes are
PRESUMED, log entry 56: those of NVM Express). IDENTIFY becomes none. -/
def StoReq.command (r : StoReq) : Option NvmeCmd :=
  match r.op with
  | 1 => some ⟨0x02, r.nsid, r.lba, r.count - 1, false, false⟩
  | 2 => some ⟨0x01, r.nsid, r.lba, r.count - 1, r.fua, false⟩
  | 3 => some ⟨0x00, r.nsid, 0, 0, false, false⟩
  | 4 => some ⟨0x09, r.nsid, r.lba, r.count - 1, false, true⟩
  | _ => none

/-- The commands of a binding that the drive has and has not completed, in the order they were submitted (R401). -/
def Dev.commands (d : Dev) (b : Nat) : List NvmeCmd := ((d.win b).reqs.filter (·.sent)).filterMap StoReq.command

/-- The record that answers IDENTIFY (R400). -/
def Dev.identified (d : Dev) (b : Nat) (r : StoReq) : List Byte :=
  (r.data ++ List.replicate 28 0).take 28 ++ natBE 1 (d.stoState (b / 64)) ++ List.replicate 35 0

/-- What may go to the drive goes, and the IDENTIFY requests that no FLUSH holds are answered (R400, R401). -/
def Dev.submit (b : Nat) (d : Dev) : Dev :=
  let w := d.win b
  if flushOut w.reqs then d
  else
    let l := submitAll false w.reqs
    forAll (l.filter (fun r => r.sent && r.op == 5)) (fun r d => d.complete b r 0 0 (d.identified b r)) (d.setWin b { w with reqs := l })

/-- Every request of a drive that has not completed completes DRIVE_LOST (R396, R404). -/
def Dev.driveLost (n : Nat) (d : Dev) : Dev :=
  forAll (List.range 64) (fun k d =>
    forAll (d.win (64 * n + k)).reqs (fun r d => d.complete (64 * n + k) r 7 0 []) d) (d.modDrive n (fun x => { x with aborts := 0 }))

/-! ### Drives -/

/-- EN of a drive written 1 with the engine running (R396). -/
def driveEnable (n : Nat) (d : Dev) : Dev :=
  let d := d.set (STO_Sn_CTL_EN n) 1
  if d.flag STO_CTL_EN && d.stoState n == 0 && !(d.drive n).shut then
    (d.set (STO_Sn_STAT_STATE n) 1).modDrive n (fun x => { x with retry := false })
  else d

def execDriveEnable (n : Fin 2) (s : State) : Host.Outcome State Fault Refusal := s.runOn 11 (driveEnable n)

/-- 100 ms of REFCLK: PERST_N is released (R396). -/
def execSnPerstNRelease (n : Fin 2) (s : State) : Host.Outcome State Fault Refusal :=
  s.runOn 11 (fun d => if d.stoState n = 1 then d.modDrive n (fun x => { x with perst := true }) else d)

/-- The drive is ready at a rate, not above MAXGEN, and a width of 1 or 2 lanes (R396, R405). -/
def driveReady (n gen : Nat) (x2 : Bool) (d : Dev) : Dev :=
  if d.stoState n = 1 ∧ (d.drive n).perst then
    let d := (d.set (STO_Sn_STAT_GEN n) (min gen (d.get (STO_Sn_CTL_MAXGEN n)))).set (STO_Sn_STAT_WIDTH n) (if x2 then 2 else 1)
    (d.set (STO_Sn_STAT_STATE n) 2).raise (STO_Sn_EVT_READY n)
  else d

def execDriveReady (n : Fin 2) (gen : Fin 4) (x2 : Bool) (s : State) : Host.Outcome State Fault Refusal :=
  s.runPins 11 (driveReady n gen x2)

/-- No link, CAP.TO expired, or an admin command failed (R396). -/
def driveLinkTimeout (n : Nat) (d : Dev) : Dev :=
  if d.stoState n = 1 then
    ((d.modDrive n (fun x => { x with perst := false })).set (STO_Sn_STAT_STATE n) 3).raise (STO_Sn_EVT_FAILED n)
  else d

def execDriveLinkTimeout (n : Fin 2) (s : State) : Host.Outcome State Fault Refusal := s.runOn 11 (driveLinkTimeout n)

/-- The drive leaves READY without being asked to (R396, R402). -/
def driveLost (n : Nat) (d : Dev) : Dev :=
  if d.stoState n = 2 then
    let d := ((d.set (STO_Sn_STAT_STATE n) 0).set (STO_Sn_STAT_GEN n) 0).set (STO_Sn_STAT_WIDTH n) 0
    let d := d.modDrive n (fun x => { x with perst := false, retry := true })
    (d.driveLost n).raise (STO_Sn_EVT_LOST n)
  else d

def execDriveLost (n : Fin 2) (s : State) : Host.Outcome State Fault Refusal := s.runOn 11 (driveLost n)

/-- 1 s after a drive was lost (R396). -/
def execDriveRetry (n : Fin 2) (s : State) : Host.Outcome State Fault Refusal :=
  s.runOn 11 (fun d => if (d.drive n).retry && d.flag (STO_Sn_CTL_EN n) then driveEnable n d else d)

/-- EN of a drive written 0 (R396). -/
def driveDisable (n : Nat) (d : Dev) : Dev :=
  let d := (d.set (STO_Sn_CTL_EN n) 0).modDrive n (fun x => { x with retry := false })
  if d.stoState n = 1 ∨ d.stoState n = 2 then (d.driveLost n).modDrive n (fun x => { x with shut := true })
  else d.set (STO_Sn_STAT_STATE n) 0

def execDriveDisable (n : Fin 2) (s : State) : Host.Outcome State Fault Refusal := s.runOn 11 (driveDisable n)

/-- The shutdown completes, or reaches 5 s; a drive enabled again meanwhile starts over (R396). -/
def driveShutdownDone (n : Nat) (d : Dev) : Dev :=
  if (d.drive n).shut then
    let d := ((d.set (STO_Sn_STAT_STATE n) 0).set (STO_Sn_STAT_GEN n) 0).set (STO_Sn_STAT_WIDTH n) 0
    let d := d.modDrive n (fun _ => Drive.reset)
    if d.flag (STO_Sn_CTL_EN n) then driveEnable n d else d
  else d

def execDriveShutdownDone (n : Fin 2) (s : State) : Host.Outcome State Fault Refusal := s.runOn 11 (driveShutdownDone n)

/-! ### Requests -/

/-- The request in a payload (R399). -/
def parseReq (c : Nat) (l : List Byte) : StoReq :=
  { op := beNat (l.take 1), fua := (beNat ((l.drop 1).take 1)).testBit 0, count := beNat ((l.drop 2).take 2)
    id := beNat ((l.drop 4).take 4), nsid := beNat ((l.drop 8).take 4), lba := beNat ((l.drop 12).take 8), data := l.drop 32
    ctx := c, sent := false }

/-- Whether a request's fields and length are ones R399 allows. -/
def StoReq.sound (r : StoReq) (len : Nat) : Bool :=
  let data := if r.op = 2 then 4096 * r.count else 0
  let cnt := if r.op = 1 ∨ r.op = 2 then 1 ≤ r.count ∧ r.count ≤ 3 else if r.op = 4 then 1 ≤ r.count else r.count = 0
  1 ≤ r.op && r.op ≤ 5 && decide cnt && len == 32 + data

/-- A new request accepted by its binding: refused INVALID, answered IDENTIFY, lost with its drive, or submitted (R399 to R401).
`high` is H afterwards; `rec_` is the IDENTIFY record before its STATE byte. -/
def Dev.execute (b high : Nat) (r : StoReq) (len : Nat) (rec_ : List Byte) (d : Dev) : Dev :=
  let w := d.win b
  let r := if r.op = 5 then { r with data := rec_ } else r
  let d := d.setWin b { w with high := some high, reqs := w.reqs ++ [r], cache := w.cache.filter (fun x =>
    (high + 2 ^ 32 - x.1) % 2 ^ 32 < 256 && x.1 % 256 != r.id % 256) }
  let d := d.inc (STO_Sn_REQS_COUNT (b / 64))
  if !r.sound len then d.complete b r 1 0 []
  else if r.op = 5 then d.submit b
  else if d.stoState (b / 64) ≠ 2 ∨ (d.drive (b / 64)).shut then d.complete b r 7 0 []
  else d.submit b

/-- A request of a context, against its binding and the duplicate window (R398, R403). -/
def Dev.request (c : Nat) (l : List Byte) (rec_ : List Byte) (d : Dev) : Dev :=
  let r := parseReq c l
  match d.bindingOf c with
  | none => d.reply c (completion r.op 2 0 r.id r.count [])
  | some b =>
    let n := b / 64
    let w := d.win b
    match w.high with
    | none => d.execute b r.id r l.length rec_
    | some h =>
      let x := (r.id + 2 ^ 32 - h) % 2 ^ 32
      if 1 ≤ x ∧ x < 2 ^ 31 then d.execute b r.id r l.length rec_
      else if w.within r.id then
        match w.cache.find r.id with
        | some l => (d.inc (STO_Sn_DUP_CACHED_COUNT n)).reply c l
        | none =>
          if w.reqs.any (fun q => q.id == r.id) then d.inc (STO_Sn_DUP_INFLIGHT_COUNT n) else d.execute b h r l.length rec_
      else (d.inc (STO_Sn_STALE_COUNT n)).reply c (completion r.op 8 0 r.id r.count [])

/-- The packet at the front of an STO queue, where its request has the given OP or none of R399; it leaves the queue. -/
def storRequest (op lq : Nat) (rec_ : List Byte) (d : Dev) : Dev :=
  let q := 1120 + lq
  match d.port.inq.get q [] with
  | [] => d
  | x :: t =>
    let o := beNat (x.payload.take 1)
    if x.hdr.kind = 0 ∧ (o = op ∨ o = 0 ∨ 5 < o) then
      (d.modPort (fun p => { p with inq := p.inq.set q t [] })).request x.ctx x.payload rec_
    else d

def execStorRead (lq : Fin 32) (s : State) : Host.Outcome State Fault Refusal := s.runOn 11 (storRequest 1 lq [])
def execStorWrite (lq : Fin 32) (s : State) : Host.Outcome State Fault Refusal := s.runOn 11 (storRequest 2 lq [])
def execStorFlush (lq : Fin 32) (s : State) : Host.Outcome State Fault Refusal := s.runOn 11 (storRequest 3 lq [])
def execStorTrim (lq : Fin 32) (s : State) : Host.Outcome State Fault Refusal := s.runOn 11 (storRequest 4 lq [])

/-- IDENTIFY: the namespace size and the serial number are the drive's (R400). -/
def execStorIdentify (lq : Fin 32) (blocks : DWord) (serial : List Byte) (s : State) : Host.Outcome State Fault Refusal :=
  s.runOn 11 (storRequest 5 lq (natBE 8 blocks.toNat ++ (serial ++ List.replicate 20 0).take 20))

/-- The submitted request of an ID. -/
def StoWin.find (w : StoWin) (id : Nat) : Option StoReq := w.reqs.find? (fun r => r.sent && r.id == id)

/-- The drive completes a command: OK, RANGE, FORMAT or MEDIA (R400, R401). -/
def nvmeCompletion (b id status nvstat : Nat) (data : List Byte) (d : Dev) : Dev :=
  match (d.win b).find id with
  | none => d
  | some r =>
    let st := if status = 0 then 0 else if status = 1 then 3 else if status = 2 then 4 else 5
    let n := if st = 0 ∧ r.op = 1 then 4096 * r.count else 0
    (d.complete b r st (if st = 5 then nvstat else 0) ((data ++ List.replicate n 0).take n)).submit b

def execNvmeCompletion (n : Fin 2) (k : Fin 64) (id : Word) (status : Fin 4) (nvstat : BitVec 16) (data : List Byte)
    (s : State) : Host.Outcome State Fault Refusal :=
  s.runOn 11 (nvmeCompletion (64 * n + k) id.toNat status nvstat.toNat data)

/-- STO_CMD_TO passes: the command is aborted, its request completes TIMEOUT (R402). -/
def stoCmdTimeout (n b id : Nat) (d : Dev) : Dev :=
  match (d.win b).find id with
  | none => d
  | some r =>
    let d := ((d.inc (STO_Sn_TIMEOUTS_COUNT n)).raise (STO_Sn_EVT_TIMEOUT n)).modDrive n (fun x => { x with aborts := x.aborts + 1 })
    (d.complete b r 6 0 []).submit b

def execStoCmdTimeout (n : Fin 2) (k : Fin 64) (id : Word) (s : State) : Host.Outcome State Fault Refusal :=
  s.runOn 11 (stoCmdTimeout n (64 * n + k) id.toNat)

/-- An Abort is not answered within 1 s (R402). -/
def execNvmeAbortTimeout (n : Fin 2) (s : State) : Host.Outcome State Fault Refusal :=
  s.runOn 11 (fun d => if 0 < (d.drive n).aborts then driveLost n d else d)

/-! ### Bindings -/

/-- A write of a binding register (R398). -/
def stoBindingWrite (n k v : Nat) (d : Dev) : Dev :=
  let b := 64 * n + k
  let was := d.flag (STO_Sn_QPk_VALID n k)
  let fits := 4 * (b + 1) ≤ d.get STO_DW_SIZE_MIB
  if d.flag (STO_Sn_QPk_PENDING n k) then d
  else
    let on := v.testBit 31 && fits
    let d := (d.set (STO_Sn_QPk_CTX n k) v).setB (STO_Sn_QPk_VALID n k) on
    if on then (if was then d else d.setWin b StoWin.reset)
    else if (d.win b).reqs = [] then d.setWin b StoWin.reset
    else d.set (STO_Sn_QPk_PENDING n k) 1

def execStoBindingWrite (n : Fin 2) (k : Fin 64) (v : Word) (s : State) : Host.Outcome State Fault Refusal :=
  s.runOn 11 (stoBindingWrite n k v.toNat)

/-- The last request of a pending binding has completed (R398). -/
def bindingRelease (n k : Nat) (d : Dev) : Dev :=
  let b := 64 * n + k
  if d.flag (STO_Sn_QPk_PENDING n k) ∧ (d.win b).reqs = [] then
    ((d.set (STO_Sn_QPk_PENDING n k) 0).set (STO_Sn_QPk_CTX n k) 0).setWin b StoWin.reset
  else d

def execBindingRelease (n : Fin 2) (k : Fin 64) (s : State) : Host.Outcome State Fault Refusal := s.runOn 11 (bindingRelease n k)

end Sys2Proof.Machine
end

