-- ==== Sys2Proof/Machine/Usb.lean ====
section
/-! DEFINITION. The USB hub and the management function (spec 15): attach and reset (R461, R474), notices (R470), control transfers
(R471 to R475, R309), gateways (R467 to R469), link power and wake (R476 to R478), audio (R479 to R482), hub ports (R463, R464). -/

namespace Sys2Proof.Machine

def Dev.shakes (x : Shake) (d : Dev) : Dev := d.modUsb (fun u => { u with shake := x })

/-- Whether the function runs at SuperSpeed. -/
def Dev.superSpeed (d : Dev) : Bool := decide (2 ≤ d.get USB_STAT_SPEED)

/-- An endpoint, by its address, that is not ready: NAK at high speed; at SuperSpeed NRDY, after which it owes an ERDY (R467). -/
def Dev.notReady (ep : Nat) (d : Dev) : Dev :=
  if d.superSpeed then (d.modFn (fun f => { f with nrdy := f.nrdy.filter (· != ep) ++ [ep] })).shakes .nrdy else d.shakes .nak

/-- Traffic takes the link from U1 or U2 back to U0 (R476). -/
def Dev.traffic (d : Dev) : Dev := if d.get USB_STAT_ULINK = 1 ∨ d.get USB_STAT_ULINK = 2 then d.set USB_STAT_ULINK 0 else d

/-- Whether an endpoint is halted (R471). -/
def Dev.halted (d : Dev) (ep : Nat) : Bool := d.usb.fn.halts.contains ep

/-- A BUS_STATE record (R488). -/
def Dev.busState (x : Nat) (d : Dev) : Dev := d.event 0x18 0x0004 (x + d.get USB_STAT_SPEED * 2 ^ 4)

/-! ### Notices -/

/-- The bytes of a notice, least significant first (R470). -/
def Notice.bytes (n : Notice) : List Byte := natLE 2 n.code ++ natLE 1 n.src ++ natLE 1 n.seq ++ natLE 4 n.time ++ natLE 8 n.arg

/-- A WAKE notice with PEND is queued once the function is configured (R477). -/
def Dev.wakeNotice (d : Dev) : Dev :=
  if d.usb.wakeDue && d.flag USB_STAT_CONFIGURED then
    (d.modUsb (fun u => { u with wakeDue := false })).notify 0x0001 0 (d.get USB_WAKE_PEND)
  else d

/-- A program's notice; codes below 0x8000 are the hardware's (R470). -/
def notePush (d : Dev) : Dev :=
  let w := fun k => d.get (USB_NOTE_Wk_WORD k)
  if 0x8000 ≤ bitsOf (w 0) 0 16 then d.notify (bitsOf (w 0) 0 16) 1 (w 2 + w 3 * 2 ^ 32) else d

def execNotePush (s : State) : Host.Outcome State Fault Refusal := s.runOn 12 notePush

/-- The host of the configured function takes a notice, or is told to wait; it acknowledges a WAKE notice, whose reasons clear; a freed entry first takes an
OVERFLOW notice (R467, R470, R477). -/
def noticeRead (d : Dev) : Dev :=
  let d := d.traffic
  if !d.flag USB_STAT_CONFIGURED then d
  else if d.halted 0x89 then d.shakes .stall
  else match d.usb.notices with
  | [] => d.notReady 0x89
  | n :: t =>
    let d := d.modUsb (fun u => { u with notices := t, data := n.bytes, shake := .ack })
    let d := d.set USB_NOTE_STAT_DEPTH t.length
    let d := if n.code = 1 then d.set USB_WAKE_PEND (bitSet ((bitList 8 (d.get USB_WAKE_PEND)).filter (fun b => !n.arg.testBit b)))
      else d
    if 0 < d.usb.lost then (d.modUsb (fun u => { u with lost := 0 })).notify 0x0002 0 (d.usb.lost % 2 ^ 32) else d

def execNoticeRead (s : State) : Host.Outcome State Fault Refusal := s.runPins 12 noticeRead

/-! ### Gateways -/

/-- The largest packet of a bulk endpoint (R466). -/
def Dev.bulkMax (d : Dev) : Nat := if 2 ≤ d.get USB_STAT_SPEED then 1024 else 512

/-- Whether bulk OUT `g` takes a packet (R467); a packet in progress keeps the context it began under (R483). -/
def Dev.outReady (d : Dev) (g : Nat) : Bool :=
  let c := if (d.gw g).begun then (d.gw g).ctx else d.get (USB_GWg_CFG_CTX g)
  d.flag (USB_GWg_CFG_EN g) && d.get (CTX_W0_CLASS c) == 1 && d.ctxRun c && d.get (CTX_W1_LPORT c) == 4
    && d.get (CTX_W1_LQ c) == g && !d.flag STN_STAT_FENCED
    && !(d.flag (CTX_W0_REL c) && decide (d.ctxWin c ≤ (d.ctx c).copies.length))
    && !d.waits.any (fun x => x.ing == 22 && d.get (CTX_W1_LQ x.ctx) == g)

/-- A tunnel packet of gateway `g` handed to the tunnel engine, and counted (R468). -/
def Dev.sendTunnel (g : Nat) (x : Gateway) (l : List Byte) (d : Dev) : Dev :=
  (d.inc (USB_GWg_OUT_COUNT g)).offer ⟨x.ctx, 22, l, some (min x.pcol 2), 0, none, false⟩

/-- What a gateway holds of the packet in progress, or of a new one under its configuration as it stands (R483). -/
def Dev.begunPart (d : Dev) (g : Nat) : Gateway :=
  if (d.gw g).begun then d.gw g else { Gateway.reset with ctx := d.get (USB_GWg_CFG_CTX g), pcol := d.get (USB_GWg_CFG_PCOL g) }

/-- Bytes received, cut into tunnel packets where they reach MAXLEN (R468); the number bounds the packets. The rest stays in progress,
or ends with a short packet; `cut`: a packet has just ended at MAXLEN. -/
def Dev.cutTunnel (g : Nat) (short : Bool) : Nat → Bool → List Byte → Dev → Dev
  | 0, _, _, d => d
  | k + 1, cut, l, d =>
    let x := d.begunPart g
    let m := max 1 (d.maxLen x.ctx)
    if m ≤ l.length ∧ (!short ∨ m < l.length) then
      ((d.setGw g Gateway.reset).sendTunnel g x (l.take m)).cutTunnel g short k true (l.drop m)
    else if short then (d.setGw g Gateway.reset).sendTunnel g x l
    else if l = [] then d.setGw g { Gateway.reset with absorb := cut }
    else d.setGw g { x with part := l, begun := true, absorb := false }

/-- A bulk OUT packet: not ready, absorbed, or added to the packet in progress, which a short or zero-length packet or MAXLEN ends
(R467, R468). A packet in progress keeps the context and pre-colour it began under (R483). At high speed a packet taken while the
endpoint has no room for another is answered with NYET, and a PING, `ping`, tells whether there is room (R467). -/
def gwOutPacket (g : Nat) (ping : Bool) (l : List Byte) (d : Dev) : Dev :=
  let d := d.traffic
  let x := d.gw g
  let l := l.take d.bulkMax
  if !d.flag USB_STAT_CONFIGURED || (ping && d.superSpeed) then d
  else if d.halted (1 + g) then d.shakes .stall
  else if x.absorb ∧ l = [] ∧ !ping then (d.setGw g { x with absorb := false }).shakes .ack
  else if !d.outReady g then (d.inc (USB_GWg_NAKS_COUNT g)).notReady (1 + g)
  else if ping then d.shakes .ack
  else
    let l' := (d.begunPart g).part ++ l
    let d := (d.shakes .ack).cutTunnel g (decide (l.length < d.bulkMax)) (l'.length + 1) false l'
    if d.get USB_STAT_SPEED = 1 ∧ !d.outReady g then d.shakes .nyet else d

def execGwOutPacket (g : Fin 8) (ping : Bool) (data : List Byte) (s : State) : Host.Outcome State Fault Refusal :=
  s.runPins 12 (gwOutPacket g ping data)

/-- The USB packets of an IN transfer: full packets, then a short one or a zero-length one (R469); the number bounds the packets. -/
def usbPackets (m : Nat) : Nat → List Byte → List (List Byte)
  | 0, _ => []
  | k + 1, l => if l.length < m then [l] else l.take m :: usbPackets m k (l.drop m)

/-- The host reads bulk IN `g`: a delivered packet becomes one transfer (R467, R469). -/
def gwInTransfer (g : Nat) (d : Dev) : Dev :=
  let d := d.traffic
  let q := 1184 + g
  if !d.flag USB_STAT_CONFIGURED then d
  else if d.halted (0x81 + g) then d.shakes .stall
  else match d.port.inq.get q [] with
  | [] => (d.inc (USB_GWg_NAKS_COUNT g)).notReady (0x81 + g)
  | x :: t =>
    let d := (d.modPort (fun p => { p with inq := p.inq.set q t [] })).inc (USB_GWg_IN_COUNT g)
    d.modUsb (fun u => { u with
      data := x.payload, packets := usbPackets d.bulkMax (x.payload.length + 1) x.payload, shake := .ack })

def execGwInTransfer (g : Fin 8) (s : State) : Host.Outcome State Fault Refusal := s.runPins 12 (gwInTransfer g)

/-! ### Control transfers -/

/-- The phase of the control transfer (R485): 0 idle, 1 data, 2 status, 3 done, 4 abandoned. -/
def Dev.phase (d : Dev) : Nat := d.get USB_CTRL_STAT_PHASE

/-- The held accords of the current tag. -/
def Dev.heldSlots (d : Dev) : List Nat :=
  (List.range 16).filter (fun n => d.get (ACD_SLOTn_STAT_STATE n) == 3 && (d.accSlot n).tag == some (d.get USB_CTRL_STAT_TAG))

/-- A transfer whose status stage has not completed is abandoned: its buffer is discarded, its held accords abort RESET, and
CTRL_ABORT is posted (R309, R474); causes: 0 reset, 1 new SETUP, 2 disconnect. An accord still held after a STALL aborts too
(R309). -/
def Dev.abandon (cause : Nat) (d : Dev) : Dev :=
  let d := forAll d.heldSlots (fun n d => d.abortSlot n 9) d
  if d.phase = 1 ∨ d.phase = 2 then
    let d := forAll (List.range 256) (fun k d => d.set (USB_CBUFk_WORD k) 0) d
    let d := ((d.set USB_CTRL_STAT_DLEN 0).set USB_CTRL_STAT_PHASE 4).modUsb
      (fun u => { u with armed := false, stale := true, fn := { u.fn with hw := false } })
    (d.raise USB_EVT_CTRL_ABORT).event 0x18 0x0003 (d.get USB_CTRL_STAT_TAG + cause * 2 ^ 8)
  else d

/-- The pending stage answered with STALL (R471, R472). -/
def Dev.stall (d : Dev) : Dev := (d.set USB_CTRL_STAT_PHASE 3).shakes .stall

/-- The function is configured, or no longer (R469, R477, R484). -/
def Dev.configure (v : Bool) (d : Dev) : Dev :=
  let was := d.flag USB_STAT_CONFIGURED
  let d := (d.setB USB_STAT_CONFIGURED v).modUsb (fun u => { u with alt := false, fn := { u.fn with halts := [], nrdy := [] } })
  let d := d.set AUD_STAT_RUN 0
  let d := if v then d else forAll (List.range 8) (fun g d => d.dropGateway g) d
  let d := if was = v then d else d.raise USB_EVT_CONFIG
  if v then (d.busState 2).wakeNotice else d

/-- A byte of a descriptor that R465 does not give: a string's index, a latency. -/
def freeDescByte (val k : Nat) : Byte := (Sys2Proof.Config.usbDescriptor val).getD k 0

/-- The index of the serial string, which is not 0 (R465). -/
def serialIndex : Nat := 1 + (freeDescByte 0x0100 2).toNat % 255

/-- The device descriptor (R465). -/
def Dev.deviceDescriptor (d : Dev) : List Byte :=
  let ss := 2 ≤ d.get USB_STAT_SPEED
  natLE 2 0x0112 ++ natLE 2 (if ss then 0x0320 else 0x0210) ++ natLE 3 0 ++ natLE 1 (if ss then 9 else 64) ++ natLE 2 (d.get LCS_USBID_VID)
    ++ natLE 2 (d.get LCS_USBID_PID) ++ natLE 2 Sys2Proof.Config.siliconRev.toNat ++ [freeDescByte 0x0100 0, freeDescByte 0x0100 1]
    ++ natLE 1 serialIndex ++ [1]

/-- An endpoint descriptor, with its companion at SuperSpeed (R466): `burst` less one, bytes each interval. -/
def endpointDesc (ss : Bool) (addr attr hs sup interval burst bytes : Nat) : List Byte :=
  natLE 2 0x0507 ++ natLE 1 addr ++ natLE 1 attr ++ natLE 2 (if ss then sup else hs) ++ natLE 1 interval
    ++ (if ss then natLE 2 0x3006 ++ natLE 1 burst ++ natLE 1 0 ++ natLE 2 bytes else [])

/-- An interface descriptor of the function (R465): number, alternate setting, endpoints, protocol, string. -/
def interfaceDesc (num alt eps proto : Nat) (str : Byte) : List Byte :=
  natLE 2 0x0409 ++ natLE 1 num ++ natLE 1 alt ++ natLE 1 eps ++ natLE 3 (0xFF + 0x4B * 2 ^ 8 + proto * 2 ^ 16) ++ [str]

/-- The configuration descriptor with its interfaces and endpoints (R465, R466). -/
def configDescriptor (ss : Bool) : List Byte :=
  let gws := (List.range 8).flatMap (fun g => endpointDesc ss (0x01 + g) 2 512 1024 0 15 0)
    ++ (List.range 8).flatMap (fun g => endpointDesc ss (0x81 + g) 2 512 1024 0 15 0)
  let body := interfaceDesc 0 0 17 1 (freeDescByte 0x0200 1) ++ gws ++ endpointDesc ss 0x89 3 64 64 4 0 64
    ++ interfaceDesc 1 0 0 2 (freeDescByte 0x0200 2) ++ interfaceDesc 1 1 2 2 (freeDescByte 0x0200 3)
    ++ endpointDesc ss 0x0A 5 48 48 1 0 48 ++ endpointDesc ss 0x8A 0x11 4 4 5 0 4
  natLE 2 0x0209 ++ natLE 2 (9 + body.length) ++ natLE 2 0x0102 ++ [freeDescByte 0x0200 0] ++ natLE 2 0x00E0 ++ body

/-- The BOS descriptor: the USB 2.0 extension (LPM, BESL) and, at SuperSpeed, the SuperSpeed device capability (R465). -/
def bosDescriptor (ss : Bool) : List Byte :=
  let caps := natLE 3 0x021007 ++ natLE 4 6
    ++ (if ss then natLE 4 0x0003100A ++ natLE 2 0x000C ++ (List.range 4).map (freeDescByte 0x0F00) else [])
  natLE 2 0x0F05 ++ natLE 2 (5 + caps.length) ++ natLE 1 (if ss then 2 else 1) ++ caps

/-- A digit in upper-case hexadecimal. -/
def hexDigit (k : Nat) : Nat := if k < 10 then 48 + k else 55 + k

/-- The serial string: the unit identifier as 16 hexadecimal digits (R465). -/
def Dev.serialString (d : Dev) : List Byte :=
  natLE 2 0x0322 ++ (List.range 16).flatMap (fun k => natLE 2 (hexDigit (d.uid / 16 ^ (15 - k) % 16)))

/-- The descriptor that wValue names; what R465 and R466 do not spell out is free. -/
def Dev.descriptor (d : Dev) (val : Nat) : List Byte :=
  let ss : Bool := 2 ≤ d.get USB_STAT_SPEED
  if val = 0x0100 then d.deviceDescriptor
  else if val = 0x0200 then configDescriptor ss
  else if val = 0x0F00 then bosDescriptor ss
  else if val = 0x0300 + serialIndex then d.serialString
  else Sys2Proof.Config.usbDescriptor val

/-- The hub class descriptor of a hub (R460, R462): 9 or 8 ports; power and over-current by port, compound device, think time 8 bit times,
no indicators; 20 ms to power; ports 8 and 9 of the station hub not removable. Hub 3 is the SuperSpeed part, whose latencies are free. -/
def hubDescriptor (hub : Nat) : List Byte :=
  if hub = 3 then
    natLE 2 0x2A0C ++ natLE 1 9 ++ natLE 2 0x000D ++ natLE 1 10 ++ (List.range 4).map (freeDescByte 0x2A00) ++ natLE 2 0x0300
  else
    natLE 2 0x290B ++ natLE 1 (if hub = 1 then 9 else 8) ++ natLE 2 0x000D ++ natLE 1 10 ++ [freeDescByte 0x2900 hub]
      ++ natLE 2 (if hub = 1 then 0x0300 else 0) ++ natLE 2 0xFFFF

/-- Whether the function has an endpoint of an address (R466). -/
def Dev.hasEndpoint (d : Dev) (ep : Nat) : Bool :=
  let n := ep % 128
  n == 0 || (decide (n ≤ 8)) || ep == 0x89 || ((ep == 0x0A || ep == 0x8A) && d.usb.alt)

/-- What the function answers to a standard request, or to SET_SEL and SET_ISOCH_DELAY, before its status stage: its data, or STALL (R471).
`rcp`: the recipient, 0 device, 1 interface, 2 endpoint. -/
def Dev.standardData (d : Dev) (rcp req val idx : Nat) : Option (List Byte) :=
  let ss := d.superSpeed
  let i := idx % 256
  let f := d.usb.fn
  if req = 0 then
    if rcp = 0 then some (natLE 2 (1 + 2 * d.get USB_STAT_RWAKE_EN + (if ss then 4 * b2n f.u1 + 8 * b2n f.u2 else 0)))
    else if rcp = 1 ∧ i ≤ 1 then some (natLE 2 (if ss ∧ i = 0 then 1 + 2 * d.get USB_STAT_RWAKE_EN else 0))
    else if rcp = 2 ∧ d.hasEndpoint i then some (natLE 2 (b2n (d.halted i)))
    else none
  else if req = 1 ∨ req = 3 then
    let ok := if rcp = 0 then (val == 1 && !ss) || ((val == 48 || val == 49) && ss) || (val == 2 && req == 3 && !ss)
      else if rcp = 1 then val == 0 && ss && decide (i ≤ 1)
      else rcp == 2 && val == 0 && d.hasEndpoint i
    if ok then some [] else none
  else if req = 5 then (if val < 128 then some [] else none)
  else if req = 6 then some (d.descriptor val)
  else if req = 8 then some [if d.flag USB_STAT_CONFIGURED then 1 else 0]
  else if req = 9 then (if val ≤ 1 then some [] else none)
  else if req = 10 then (if idx ≤ 1 then some [if idx = 1 ∧ d.usb.alt then 1 else 0] else none)
  else if req = 11 then (if (idx = 1 ∧ val ≤ 1) ∨ (idx = 0 ∧ val = 0) then some [] else none)
  else if req = 12 then (if rcp = 2 ∧ (i = 0x0A ∨ i = 0x8A) ∧ d.hasEndpoint i then some (natLE 2 0) else none)
  else if req = 48 ∨ req = 49 then (if ss then some [] else none)
  else none

/-- FUNCTION_SUSPEND (R471, R477): the options suspend the function and enable its remote wakeup; a function that resumes queues the WAKE
notice. -/
def Dev.functionSuspend (opt : Nat) (d : Dev) : Dev :=
  let was := d.usb.fn.fsusp
  let d := (d.setB USB_STAT_RWAKE_EN (opt.testBit 1)).modFn (fun f => { f with fsusp := opt.testBit 0 })
  if was ∧ !opt.testBit 0 then (d.modUsb (fun u => { u with wakeDue := true })).wakeNotice else d

/-- The effect of a request that hardware serves, at its status stage (R471, R474). -/
def Dev.standardAct (rcp req val idx : Nat) (d : Dev) : Dev :=
  let on : Bool := req == 3
  let i := idx % 256
  if req = 1 ∨ req = 3 then
    if rcp = 2 then d.modFn (fun f => { f with halts := f.halts.filter (· != i) ++ (if on then [i] else []) })
    else if rcp = 1 then (if i = 0 then d.functionSuspend (if on then idx / 256 else 0) else d)
    else if val = 1 then d.setB USB_STAT_RWAKE_EN on
    else if val = 48 then d.modFn (fun f => { f with u1 := on })
    else if val = 49 then d.modFn (fun f => { f with u2 := on })
    else d.modFn (fun f => { f with test := idx / 256 })
  else if req = 5 then d.set USB_STAT_ADDR val
  else if req = 9 then d.configure (val == 1)
  else if req = 11 ∧ idx = 1 then
    let d := d.modUsb (fun u => { u with alt := val == 1, fn := { u.fn with halts := u.fn.halts.filter (fun e => e != 0x0A && e != 0x8A) } })
    if val = 0 then d.set AUD_STAT_RUN 0 else d
  else if req = 11 then d.modFn (fun f => { f with halts := f.halts.filter (fun e => e == 0x0A || e == 0x8A) })
  else if req = 48 then d.modFn (fun f => { f with sel := ((List.range 2).flatMap (fun k => natLE 4 (d.get (USB_CBUFk_WORD k)))).take 6 })
  else if req = 49 then d.modFn (fun f => { f with delay := val })
  else d

/-! ### The hubs -/

/-- The number of downstream ports of a hub (R460). -/
def hubPorts (hub : Nat) : Nat := if hub = 2 then 8 else 9

/-- The external port of a hub's downstream port, by its index from 0: hub 1 the station hub, hub 2 the Type-C hub (R460). -/
def extPort (hub port : Nat) : Option Nat :=
  if hub = 2 then (if 1 ≤ port ∧ port ≤ 8 then some (6 + port) else none)
  else if 1 ≤ port ∧ port ≤ 7 then some (port - 1) else none

/-- Whether a device on an external port can be seen: its port is powered, and a Type-C port is attached as DFP (R463, R464). -/
def Dev.portLive (d : Dev) (e : Nat) : Bool :=
  if e < 7 then d.flag (USB_HPp_PWR e)
  else d.flag (PDC_Pn_STAT_DFP (e - 7)) && (d.conn (e - 7) == 2 || d.conn (e - 7) == 3) && d.usb.powered.get e true

/-- A downstream port empty. -/
def Dev.portEmpty (e : Nat) (d : Dev) : Dev := ((d.set (USB_HPp_CONN e) 0).set (USB_HPp_ENABLED e) 0).set (USB_HPp_SUSP e) 0

def Dev.portChange (e b : Nat) (v : Bool) (d : Dev) : Dev :=
  d.modUsb (fun u =>
    let w := u.changes.get e 0
    { u with changes := u.changes.set e (if v then w ||| 2 ^ b else bitSet ((bitList 8 w).filter (· != b))) 0 })

/-- A port feature set or cleared by a hub class request (R462 to R464). -/
def Dev.portFeature (e feature : Nat) (on : Bool) (d : Dev) : Dev :=
  if feature = 8 then
    if e < 7 then (if on then (d.set (USB_HPp_PWR e) 1).set (USB_HPp_OC e) 0 else (d.set (USB_HPp_PWR e) 0).portEmpty e)
    else
      let d := d.modUsb (fun u => { u with powered := u.powered.set e on true })
      if on then d else d.portEmpty e
  else if feature = 4 ∧ on then
    if d.flag (USB_HPp_CONN e) then ((d.set (USB_HPp_ENABLED e) 1).set (USB_HPp_SUSP e) 0).portChange e 4 true else d
  else if feature = 2 then
    if on then (if d.flag (USB_HPp_ENABLED e) then d.set (USB_HPp_SUSP e) 1 else d)
    else (d.set (USB_HPp_SUSP e) 0).portChange e 2 true
  else if feature = 1 ∧ !on then d.set (USB_HPp_ENABLED e) 0
  else if 16 ≤ feature ∧ feature ≤ 20 ∧ !on then d.portChange e (feature - 16) false
  else d

/-- The status word a hub reports of an external port: connection, enable, suspend and over-current in bits 0 to 3, power in bit 8,
low and high speed in bits 9 and 10, as USB 2.0 lays them out (R462). -/
def Dev.portStatus (d : Dev) (e : Nat) : Nat :=
  let w := d.readReg (USB_HPp_A e)
  let speed := bitsOf w 5 2
  bitsOf w 0 3 + bitsOf w 4 1 * 2 ^ 3 + bitsOf w 3 1 * 2 ^ 8
    + (if w.testBit 0 then (if speed = 0 then 2 ^ 9 else if speed = 2 then 2 ^ 10 else 0) else 0)

/-- A port of a hub that has no device pins of its own: an internal port, or a port of the SuperSpeed part. -/
def Dev.innerPort (d : Dev) (hub port : Nat) : HubPort := d.usb.inner.get (64 * hub + port) HubPort.reset
def Dev.modInner (hub port : Nat) (f : HubPort → HubPort) (d : Dev) : Dev :=
  d.modUsb (fun u => { u with inner := u.inner.set (64 * hub + port) (f (u.inner.get (64 * hub + port) HubPort.reset)) HubPort.reset })

/-- Whether something is connected to such a port: the Type-C hub on port 8, the function on port 9 of the part that U0 runs; SuperSpeed
devices nowhere else (R460, R461). -/
def Dev.innerConn (d : Dev) (hub port : Nat) : Bool :=
  if hub = 3 then port == 9 && d.superSpeed
  else hub == 1 && ((port == 8 && d.get USB_STAT_SPEED != 0) || (port == 9 && d.get USB_STAT_SPEED == 1))

/-- The bit of wPortChange that a feature C_PORT_… clears, in the numbering of USB 2.0 and USB 3.2. -/
def changeBit (feature : Nat) : Option Nat :=
  if 16 ≤ feature ∧ feature ≤ 20 then some (feature - 16)
  else if feature = 29 then some 5 else if feature = 25 then some 6 else if feature = 26 then some 7 else none

/-- A port feature of an internal port or of a SuperSpeed port set or cleared; `opt`: the upper byte of wIndex (R460, R462). Ports 8 and 9
are always powered; PORT_POWER of ports 1 to 7 is one for both parts of the station hub, which are paired by port number. -/
def Dev.innerFeature (hub port feature opt : Nat) (on : Bool) (d : Dev) : Dev :=
  let k := 64 * hub + port
  let up := d.innerConn hub port
  match (if on then none else changeBit feature) with
  | some b => d.portChange k b false
  | none =>
    if feature = 8 then (match extPort hub port with
      | some e => d.portFeature e 8 on
      | none => d)
    else if hub = 3 then
      if (feature = 4 ∨ feature = 28) ∧ on then
        if up then ((d.modInner hub port (fun x => { x with on := false, susp := false })).portChange k 4 true).portChange k 5
          (feature == 28 || (d.usb.changes.get k 0).testBit 5) else d
      else if feature = 5 ∧ on then
        if opt = 4 then d.modInner hub port (fun x => { x with on := true })
        else if opt = 5 then d.modInner hub port (fun x => { x with on := false })
        else if up ∧ opt = 3 then d.modInner hub port (fun x => { x with susp := true })
        else if up ∧ opt = 0 ∧ (d.innerPort hub port).susp then (d.modInner hub port (fun x => { x with susp := false })).portChange k 6 true
        else d
      else if feature = 23 ∧ on then d.modInner hub port (fun x => { x with u1 := opt })
      else if feature = 24 ∧ on then d.modInner hub port (fun x => { x with u2 := opt })
      else if feature = 27 ∧ on then d.modInner hub port (fun x => { x with mask := opt })
      else d
    else if feature = 4 ∧ on then
      if up then (d.modInner hub port (fun x => { x with on := true, susp := false })).portChange k 4 true else d
    else if feature = 2 then
      if on then d.modInner hub port (fun x => { x with susp := x.on })
      else (d.modInner hub port (fun x => { x with susp := false })).portChange k 2 (d.innerPort hub port).susp
    else if feature = 1 ∧ !on then d.modInner hub port (fun x => { x with on := false })
    else d

/-- The status word of an internal port, all of which run at high speed, or of a SuperSpeed port with its link state in bits 8 to 5 and its power
in bit 9, as the standards lay them out (R460, R462). -/
def Dev.innerStatus (d : Dev) (hub port : Nat) : Nat :=
  let x := d.innerPort hub port
  let up := d.innerConn hub port
  if hub = 3 then
    let power := match extPort hub port with
      | some e => d.flag (USB_HPp_PWR e)
      | none => true
    let oc := match extPort hub port with
      | some e => d.get (USB_HPp_OC e)
      | none => 0
    let link := if x.on then 4 else if !up then 5 else if x.susp then 3 else 0
    b2n up + 2 * b2n (up && !x.on) + 8 * oc + 2 ^ 5 * link + 2 ^ 9 * b2n power
  else b2n up + 2 * b2n (up && x.on) + 4 * b2n (up && x.susp) + 2 ^ 8 + 2 ^ 10 * b2n up

def Dev.hubSt (d : Dev) (hub : Nat) : HubSt := d.usb.hubs.get hub HubSt.reset
def Dev.modHub (hub : Nat) (f : HubSt → HubSt) (d : Dev) : Dev :=
  d.modUsb (fun u => { u with hubs := u.hubs.set hub (f (u.hubs.get hub HubSt.reset)) HubSt.reset })

/-- A hub's answer to the host. -/
def Dev.hubAck (l : List Byte) (d : Dev) : Dev := (d.modUsb (fun u => { u with data := l })).shakes .ack

/-- A standard request of a hub (R462, R471); its descriptors are free but for the hub class descriptor. -/
def Dev.hubStandard (hub req val len : Nat) (d : Dev) : Dev :=
  let x := d.hubSt hub
  if req = 5 then (d.modHub hub (fun x => { x with addr := val % 128 })).hubAck []
  else if req = 9 then (d.modHub hub (fun x => { x with conf := val != 0 })).hubAck []
  else if (req = 1 ∨ req = 3) ∧ val = 1 then (d.modHub hub (fun x => { x with rwake := req == 3 })).hubAck []
  else if req = 0 then d.hubAck ((natLE 2 (1 + 2 * b2n x.rwake)).take len)
  else if req = 8 then d.hubAck ((natLE 1 (b2n x.conf)).take len)
  else if req = 6 then d.hubAck ((Sys2Proof.Config.usbDescriptor (2 ^ 16 * hub + val)).take len)
  else if req = 13 ∧ hub = 3 then
    let (k, d) := d.fresh
    d.hubAck ((natLE 2 (Sys2Proof.Config.randomNat k % 2 ^ 16)).take len)
  else if req = 10 then d.hubAck ((natLE 1 0).take len)
  else if req = 11 ∨ req = 1 ∨ req = 3 ∨ (hub = 3 ∧ (req = 48 ∨ req = 49)) then d.hubAck []
  else d.shakes .stall

/-- A request to a hub: standard or of the hub class, for the hub or one of its ports; any other is answered with STALL (R460, R462, R471).
The state of a Transaction Translator that GetTTState returns is free. -/
def Dev.hubRequest (hub ty req val idx len : Nat) (d : Dev) : Dev :=
  let cls := bitsOf ty 5 2
  let rcp := bitsOf ty 0 5
  let port := idx % 256
  if hub = 3 ∧ !d.superSpeed then d
  else if cls = 0 then d.hubStandard hub req val len
  else if cls = 1 ∧ rcp = 0 then
    if req = 6 ∧ val / 256 = (if hub = 3 then 0x2A else 0x29) then d.hubAck ((hubDescriptor hub).take len)
    else if req = 0 then d.hubAck ((natLE 4 0).take len)
    else if (req = 1 ∨ req = 3) ∧ val ≤ 1 then d.hubAck []
    else if hub = 3 ∧ req = 12 then (d.modHub hub (fun x => { x with depth := val })).hubAck []
    else d.shakes .stall
  else if cls = 1 ∧ rcp = 3 ∧ 1 ≤ port ∧ port ≤ hubPorts hub then
    let ext := if hub = 3 then none else extPort hub port
    if req = 1 ∨ req = 3 then
      (match ext with
        | some e => d.portFeature e val (req == 3)
        | none => d.innerFeature hub port val (idx / 256) (req == 3)).hubAck []
    else if req = 0 then
      d.hubAck ((match ext with
        | some e => natLE 2 (d.portStatus e) ++ natLE 2 (d.usb.changes.get e 0)
        | none => natLE 2 (d.innerStatus hub port) ++ natLE 2 (d.usb.changes.get (64 * hub + port) 0)).take len)
    else match ext with
      | some e =>
        if req = 8 then d.hubAck []
        else if req = 9 then (d.modUsb (fun u => { u with ttStop := u.ttStop.filter (· != e) })).hubAck []
        else if req = 11 then (d.modUsb (fun u => { u with ttStop := u.ttStop.filter (· != e) ++ [e] })).hubAck []
        else if req = 10 then d.hubAck ((Sys2Proof.Config.usbDescriptor (2 ^ 20 + e)).take len)
        else d.shakes .stall
      | none => d.shakes .stall
  else d.shakes .stall

/-- A SETUP on EP0 of the function, or of a hub (R471, R472): `ty` bmRequestType, then bRequest, wValue, wIndex, wLength. A request that
hardware serves takes effect at its status stage, so that an abandoned one leaves no state (R474). -/
def usbSetupRx (hub ty req val idx len : Nat) (d : Dev) : Dev :=
  let cls := bitsOf ty 5 2
  let rcp := bitsOf ty 0 5
  let d := d.traffic
  if hub ≠ 0 then d.hubRequest hub ty req val idx len
  else
    let d := d.abandon 1
    let d := (d.set USB_CTRL_STAT_TAG ((d.get USB_CTRL_STAT_TAG + 1) % 256)).set USB_CTRL_STAT_DLEN 0
    let d := ((d.set USB_SETUP0_bmRequestType ty).set USB_SETUP0_bRequest req).set USB_SETUP0_wValue val
    let d := (d.set USB_SETUP1_wIndex idx).set USB_SETUP1_wLength len
    let d := d.modUsb (fun u => { u with armed := false, stale := false, shake := .none, fn := { u.fn with hw := false } })
    let d := d.event 0x18 0x0001 (d.get USB_CTRL_STAT_TAG + ty * 2 ^ 8 + req * 2 ^ 16 + val * 2 ^ 24 + idx * 2 ^ 40)
    if cls = 0 then
      match d.standardData rcp req val idx with
      | none => d.stall
      | some l =>
        let wait : Bool := !ty.testBit 7 && len != 0
        (d.set USB_CTRL_STAT_PHASE (if wait then 1 else 2)).modUsb
          (fun u => { u with data := l.take len, armed := !wait, shake := .ack, fn := { u.fn with hw := true } })
    else if cls = 2 ∧ (rcp = 0 ∨ (rcp = 1 ∧ idx % 256 ≤ 1)) ∧ len ≤ 1024 then d.set USB_CTRL_STAT_PHASE (if len = 0 then 2 else 1)
    else d.stall

def execUsbSetupRx (hub : Fin 4) (ty req : Byte) (val idx len : BitVec 16) (s : State) : Host.Outcome State Fault Refusal :=
  s.runPins 12 (usbSetupRx hub ty.toNat req.toNat val.toNat idx.toNat len.toNat)

/-- Bytes put into `USB_CBUF` from its start. -/
def Dev.putCbuf (l : List Byte) (d : Dev) : Dev :=
  forAll (List.range ((l.length + 3) / 4)) (fun k d =>
    let old := natLE 4 (d.get (USB_CBUFk_WORD k))
    let new := (l.drop (4 * k)).take 4
    d.update (USB_CBUFk_WORD k) (leNat (new ++ old.drop new.length))) d

/-- The first bytes of `USB_CBUF`. -/
def Dev.cbuf (d : Dev) (n : Nat) : List Byte := ((List.range 256).flatMap (fun k => natLE 4 (d.get (USB_CBUFk_WORD k)))).take n

/-- The data stage of a control write completes (R472); the status stage of one that hardware serves may follow at once. -/
def usbDataDone (l : List Byte) (d : Dev) : Dev :=
  let d := d.traffic
  if d.phase = 1 ∧ !(d.get USB_SETUP0_bmRequestType).testBit 7 then
    let l := l.take (d.get USB_SETUP1_wLength)
    let d := (((d.putCbuf l).set USB_CTRL_STAT_DLEN l.length).set USB_CTRL_STAT_PHASE 2).modUsb (fun u => { u with armed := u.fn.hw })
    d.event 0x18 0x0002 (d.get USB_CTRL_STAT_TAG + l.length * 2 ^ 8)
  else d

def execUsbDataDone (data : List Byte) (s : State) : Host.Outcome State Fault Refusal := s.runPins 12 (usbDataDone data)

/-- Whether a command or ACC names the current tag of a transfer that a program serves and that still waits for it (R471 to R473). -/
def Dev.tagTaken (d : Dev) (tag : Nat) : Bool :=
  tag == d.get USB_CTRL_STAT_TAG && !d.usb.stale && !d.usb.fn.hw && (d.phase == 1 || d.phase == 2)

def ctrlAck (tag : Nat) (d : Dev) : Dev := if d.tagTaken tag then d.modUsb (fun u => { u with armed := true }) else d
def execCtrlAck (tag : Byte) (s : State) : Host.Outcome State Fault Refusal := s.runOn 12 (ctrlAck tag.toNat)

def ctrlStall (tag : Nat) (d : Dev) : Dev := if d.tagTaken tag then d.stall else d
def execCtrlStall (tag : Byte) (s : State) : Host.Outcome State Fault Refusal := s.runOn 12 (ctrlStall tag.toNat)

/-- DATA_IN: the data stage of a control read, at most wLength bytes (R472, R485). -/
def ctrlDataIn (tag len : Nat) (d : Dev) : Dev :=
  if d.tagTaken tag && d.phase == 1 && (d.get USB_SETUP0_bmRequestType).testBit 7 then
    let l := d.cbuf (min len (d.get USB_SETUP1_wLength))
    (d.set USB_CTRL_STAT_PHASE 2).modUsb (fun u => { u with data := l, shake := .ack, armed := true })
  else d

def execCtrlDataIn (tag : Byte) (len : BitVec 11) (s : State) : Host.Outcome State Fault Refusal :=
  s.runOn 12 (ctrlDataIn tag.toNat len.toNat)

/-- The host asks for the status stage. It completes, a request that hardware serves takes effect, and the held accords of the tag commit
(R309, R471, R472); EP0 is not ready while a program has not answered (R467). -/
def statusStageComplete (d : Dev) : Dev :=
  let d := d.traffic
  if d.phase = 2 ∧ d.usb.armed then
    let hw := d.usb.fn.hw
    let d := forAll d.heldSlots (fun n d => d.commitSlot n) (d.set USB_CTRL_STAT_PHASE 3)
    let d := d.modUsb (fun u => { u with armed := false, shake := .ack, fn := { u.fn with hw := false } })
    if hw then d.standardAct (bitsOf (d.get USB_SETUP0_bmRequestType) 0 5) (d.get USB_SETUP0_bRequest) (d.get USB_SETUP0_wValue)
      (d.get USB_SETUP1_wIndex) else d
  else if (d.phase = 1 ∨ d.phase = 2) ∧ !d.usb.fn.hw then d.notReady 0
  else d

def execStatusStageComplete (s : State) : Host.Outcome State Fault Refusal := s.runPins 12 statusStageComplete

/-- `USB_CTRL_TO` passes with no answer (R473). -/
def ctrlTimeout (d : Dev) : Dev :=
  if (d.phase = 1 ∨ d.phase = 2) ∧ !d.usb.armed ∧ !d.usb.fn.hw then
    let d := (d.set USB_CTRL_STAT_PHASE 4).modUsb (fun u => { u with stale := true, shake := .stall })
    (d.raise USB_EVT_CTRL_TIMEOUT).event 0x18 0x0003 (d.get USB_CTRL_STAT_TAG + 3 * 2 ^ 8)
  else d

def execCtrlTimeout (s : State) : Host.Outcome State Fault Refusal := s.runOn 12 ctrlTimeout

/-- An OPEN accord closed as held, naming a tag: a NOW accord only; a tag that is not current aborts it with RESET (R291, R370,
R472). -/
def Dev.holdAccord (n tag : Nat) (d : Dev) : Dev :=
  if d.get (ACD_SLOTn_STAT_KIND n) ≠ 0 then d.abortSlot n 8
  else if !d.tagTaken tag then d.abortSlot n 9
  else
    let x := d.accSlot n
    let d := (d.set (ACD_SLOTn_STAT_KIND n) 3).slotState n 3 0
    (d.setAccSlot n { x with rset := [], tag := some tag }).modUsb (fun u => { u with armed := true })

/-- ACC with HELD = 1 (R370, R371). -/
def Dev.accHeld (t rd rs1 pd pdn : Nat) (d : Dev) : Dev :=
  let d := match d.openOf t with
    | some n =>
      let d := (d.holdAccord n ((d.rg t rs1).toNat % 256)).unspend t
      d.putPair t pd pdn (d.get (ACD_SLOTn_STAT_STATE n) == 3)
    | none => (d.unspend t).putPair t pd pdn false
  d.accordResult t rd

def execAccHeld (t : Fin 32) (p : Fin 8) (rd rs1 : Fin 32) (pd pdn : Fin 8) (s : State) : Host.Outcome State Fault Refusal :=
  s.issue t (.accHeld t p rd rs1 pd pdn) (Dev.instr t p 4 .wait (Dev.accHeld t rd rs1 pd pdn))

/-! ### The base image's vendor requests -/

/-- Whether the current transfer is a vendor request of the base image that waits for its answer (R475). -/
def Dev.requested (d : Dev) (req : Nat) (read : Bool) : Bool :=
  d.tagTaken (d.get USB_CTRL_STAT_TAG) && !d.usb.armed && bitsOf (d.get USB_SETUP0_bmRequestType) 5 2 == 2
    && d.get USB_SETUP0_bRequest == req && (d.get USB_SETUP0_bmRequestType).testBit 7 == read

/-- A change of one word served as a held accord of thread `t`; STALL where it cannot be opened or staged (R475). -/
def Dev.heldRequest (t req : Nat) (ok : Bool) (a v : Nat) (d : Dev) : Dev :=
  let tag := d.get USB_CTRL_STAT_TAG
  if !d.requested req false || (d.openOf t).isSome then d
  else if !ok || d.get USB_SETUP1_wLength != 0 then d.stall
  else match d.freeSlots with
    | n :: _ :: _ =>
      if d.flag ACD_CTL_EN then
        let id := d.get STN_ID_NUM * 2 ^ 20 + d.get ACD_SERIAL_SERIAL
        let d := ((d.inc ACD_SERIAL_SERIAL).openAccord t n 0 0 id ⟨0, 0, 0⟩).stageReg n a v
        if d.get (ACD_SLOTn_STAT_STATE n) = 1 then d.holdAccord n tag else (d.unspend t).stall
      else d.stall
    | _ => d.stall

def Dev.wValue (d : Dev) : Nat := d.get USB_SETUP0_wValue
def Dev.wIndex (d : Dev) : Nat := d.get USB_SETUP1_wIndex

/-- A gateway's configuration word. -/
def gwWord (ctx pcol en : Nat) : Nat := ctx + pcol * 2 ^ 12 + en * 2 ^ 15

/-- Whether a program of the base image serves a vendor request: those of the table in their direction, and from 0x80 on those of an owner
image (R475). -/
def imageServes (ty req : Nat) : Bool := decide (0x80 ≤ req) || (if ty.testBit 7 then req == 1 else decide (2 ≤ req) && decide (req ≤ 6))

/-- The base image answers a vendor request that it does not serve with STALL (R475). -/
def Dev.imageStall (d : Dev) : Dev :=
  if d.tagTaken (d.get USB_CTRL_STAT_TAG) && !d.usb.armed && !imageServes (d.get USB_SETUP0_bmRequestType) (d.get USB_SETUP0_bRequest) then
    d.stall
  else d

/-- GET_INFO (R475): its fields least significant byte first. -/
def getInfo (d : Dev) : Dev :=
  if d.requested 1 true then
    if d.wValue = 0 ∧ d.wIndex = 0 ∧ d.get USB_SETUP1_wLength = 32 then
      let l := natLE 8 d.uid ++ natLE 4 (d.readReg STN_ID_A) ++ natLE 4 (d.get ACD_EPOCH_EPOCH) ++ natLE 4 (d.readReg STN_STAT_A)
        ++ natLE 4 (d.readReg USB_WAKE_A) ++ natLE 8 0
      ctrlDataIn (d.get USB_CTRL_STAT_TAG) 32 (d.putCbuf l)
    else d.stall
  else d

def execGetInfo (s : State) : Host.Outcome State Fault Refusal := s.runOn 12 getInfo

/-- GW_BIND: CTX := wIndex, EN := 1 (R475). -/
def gwBind (t : Nat) (d : Dev) : Dev :=
  let g := d.wValue
  d.heldRequest t 2 (g < 8 && d.wIndex < 1024) (USB_GWg_CFG_A g) (gwWord d.wIndex (d.get (USB_GWg_CFG_PCOL g)) 1)

def execGwBind (t : Fin 32) (s : State) : Host.Outcome State Fault Refusal := s.runOn 12 (gwBind t)

/-- GW_UNBIND: EN := 0 (R475). -/
def gwUnbind (t : Nat) (d : Dev) : Dev :=
  let g := d.wValue
  d.heldRequest t 3 (g < 8 && d.wIndex == 0) (USB_GWg_CFG_A g) (gwWord (d.get (USB_GWg_CFG_CTX g)) (d.get (USB_GWg_CFG_PCOL g)) 0)

def execGwUnbind (t : Fin 32) (s : State) : Host.Outcome State Fault Refusal := s.runOn 12 (gwUnbind t)

/-- GW_COLOUR: PCOL := wIndex (R475). -/
def gwColour (t : Nat) (d : Dev) : Dev :=
  let g := d.wValue
  d.heldRequest t 4 (g < 8 && d.wIndex ≤ 2) (USB_GWg_CFG_A g)
    (gwWord (d.get (USB_GWg_CFG_CTX g)) d.wIndex (d.get (USB_GWg_CFG_EN g)))

def execGwColour (t : Fin 32) (s : State) : Host.Outcome State Fault Refusal := s.runOn 12 (gwColour t)

/-- AUD_TRIM: TRIM := wValue (R475). -/
def audTrim (t : Nat) (d : Dev) : Dev := d.heldRequest t 5 (d.wValue ≤ 1 && d.wIndex == 0) USB_AUD_CFG_A d.wValue

def execAudTrim (t : Fin 32) (s : State) : Host.Outcome State Fault Refusal := s.runOn 12 (audTrim t)

/-- WAKE_MASK: MASK := wValue (R475). -/
def wakeMask (t : Nat) (d : Dev) : Dev := d.heldRequest t 6 (d.wValue ≤ 255 && d.wIndex == 0) USB_WAKE_A (d.wValue * 2 ^ 8)

def execWakeMask (t : Fin 32) (s : State) : Host.Outcome State Fault Refusal := s.runOn 12 (wakeMask t)

/-! ### Attach, reset, power -/

/-- U0 attaches (R461): `speed` 1 high speed, 2 or 3 SuperSpeed where SS_EN allows it, 0 a host that does not answer the chirp. The
pads of the domain must follow it (R517). -/
def usbAttach (speed : Nat) (d : Dev) : Dev :=
  let d := d.set USB_STAT_VBUS 1
  if d.flag USB_CTL_EN && d.domOn 12 && !d.flag (PWR_Dd_STAT_HELD 12) && d.get USB_STAT_SPEED == 0 then
    if speed = 0 then d.raise USB_EVT_FS_HOST
    else
      let d := d.set USB_STAT_SPEED (if d.flag USB_CTL_SS_EN then speed else 1)
      (d.portChange (64 * 1 + 8) 0 true).portChange (if d.superSpeed then 64 * 3 + 9 else 64 * 1 + 9) 0 true
  else d

def execUsbAttach (speed : Fin 4) (s : State) : Host.Outcome State Fault Refusal := s.runPins 12 (usbAttach speed)

/-- The function and the hubs as a reset on the bus leaves them. -/
def Dev.busClear (cause : Nat) (d : Dev) : Dev :=
  let d := (d.abandon cause).configure false
  let d := ((d.set USB_STAT_ADDR 0).set USB_STAT_RWAKE_EN 0).set USB_STAT_SUSPENDED 0
  let d := (d.set USB_STAT_L1 0).set USB_STAT_ULINK 0
  let d := forAll (List.range 15) (fun e d => (d.set (USB_HPp_ENABLED e) 0).set (USB_HPp_SUSP e) 0) d
  d.modUsb (fun u => { u with waking := false, hubs := [], inner := [], ttStop := [], fn := FnPart.reset })

/-- U0 disconnects (R461, R474); `vbus`: `U0_VBUS` stays high. -/
def usbDisconnect (vbus : Bool) (d : Dev) : Dev :=
  let was := d.get USB_STAT_SPEED
  let d := d.setB USB_STAT_VBUS vbus
  if was = 0 then d else ((d.busClear 2).set USB_STAT_SPEED 0).busState 0

def execUsbDisconnect (vbus : Bool) (s : State) : Host.Outcome State Fault Refusal := s.runPins 12 (usbDisconnect vbus)

/-- A bus, hot or warm reset (R469, R474); after a warm reset the function may attach at another speed (R461). -/
def usbBusReset (warm : Bool) (speed : Nat) (d : Dev) : Dev :=
  if d.get USB_STAT_SPEED = 0 then d
  else
    let d := d.busClear 0
    let d := if warm ∧ speed ≠ 0 then d.set USB_STAT_SPEED (if d.flag USB_CTL_SS_EN then speed else 1) else d
    (d.raise USB_EVT_BUS_RESET).busState 1

def execUsbBusReset (warm : Bool) (speed : Fin 4) (s : State) : Host.Outcome State Fault Refusal := s.runPins 12 (usbBusReset warm speed)

/-- An LPM L1 request (R476). -/
def lpmL1Request (d : Dev) : Dev :=
  if d.get USB_STAT_SPEED ≠ 1 then d
  else if !d.flag USB_CTL_LPM_EN then d.shakes .stall
  else if d.usb.alt || d.usb.notices != [] then d.shakes .nyet
  else (d.set USB_STAT_L1 1).shakes .ack

def execLpmL1Request (s : State) : Host.Outcome State Fault Refusal := s.runPins 12 lpmL1Request

/-- A pending write of WAKE latches reason 2 while the function is suspended (R477, R484). -/
def Dev.latchWake (d : Dev) : Dev :=
  if (d.flag USB_STAT_SUSPENDED || d.usb.fn.fsusp) && d.flag USB_CTL_WAKE then (d.set USB_CTL_WAKE 0).wakeReason 2 else d

/-- Suspend, or U3 (R476). -/
def usbSuspend (d : Dev) : Dev :=
  if d.get USB_STAT_SPEED = 0 ∨ d.flag USB_STAT_SUSPENDED then d
  else
    let d := (d.set USB_STAT_SUSPENDED 1).set USB_STAT_L1 0
    let d := (if d.superSpeed then d.set USB_STAT_ULINK 3 else d).modFn (fun f => { f with fnWake := false })
    ((d.raise USB_EVT_SUSPEND).busState 3).latchWake

def execUsbSuspend (s : State) : Host.Outcome State Fault Refusal := s.runPins 12 usbSuspend

/-- `USB_CTL.WAKE` written 1 (R477). -/
def usbWakeWrite (d : Dev) : Dev := (d.set USB_CTL_WAKE 1).latchWake

def execUsbWakeWrite (s : State) : Host.Outcome State Fault Refusal := s.runOn 12 usbWakeWrite

/-- Whether the function wants to wake the host (R477). -/
def Dev.wantsWake (d : Dev) : Bool :=
  (d.flag USB_STAT_SUSPENDED || d.usb.fn.fsusp) && d.flag USB_STAT_RWAKE_EN && (d.get USB_WAKE_PEND &&& d.get USB_WAKE_MASK) != 0

/-- The function signals wake, 5 ms or more after suspend began: resume K or U3-exit LFPS, or Function Wake where only the function is
suspended and the link is in U0 (R477). -/
def remoteWakeSignal (d : Dev) : Dev :=
  if !d.wantsWake then d
  else if d.flag USB_STAT_SUSPENDED then d.modUsb (fun u => { u with waking := true })
  else (d.traffic).modFn (fun f => { f with fnWake := true })

def execRemoteWakeSignal (s : State) : Host.Outcome State Fault Refusal := s.runOn 12 remoteWakeSignal

/-- The host resumes the link (R477, R478); `own`: it answers the function's own signal, so nothing collides, and at SuperSpeed Function Wake
follows. A link in U1 or U2 comes back to U0 (R476). -/
def hostResume (own : Bool) (d : Dev) : Dev :=
  let d := (d.set USB_STAT_L1 0).traffic
  if !d.flag USB_STAT_SUSPENDED then d
  else
    let collide := d.wantsWake && !(own && d.usb.waking)
    let d := if own && d.usb.waking && d.superSpeed then d.modFn (fun f => { f with fnWake := true }) else d
    let d := (d.set USB_STAT_SUSPENDED 0).set USB_STAT_ULINK 0
    let d := (d.raise USB_EVT_RESUME).busState 4
    let d := if collide then d.raise USB_EVT_WAKE_COLLIDE else d
    (d.modUsb (fun u => { u with waking := false, wakeDue := true })).wakeNotice

def execHostResume (own : Bool) (s : State) : Host.Outcome State Fault Refusal := s.runPins 12 (hostResume own)

/-- At SuperSpeed, 2 µs without traffic lead to U1, the host's inactivity timeout to U2, each as the host has enabled it; `host`: the host
asks for the state, which is accepted where it has enabled it (R476). -/
def usbLinkIdleTimer (u2 host : Bool) (d : Dev) : Dev :=
  if d.superSpeed ∧ !d.flag USB_STAT_SUSPENDED then
    let on := if u2 then d.usb.fn.u2 else d.usb.fn.u1
    let from_ : Bool := if u2 then d.get USB_STAT_ULINK == 1 || (host && d.get USB_STAT_ULINK == 0) else d.get USB_STAT_ULINK == 0
    let d' := if on && from_ then d.set USB_STAT_ULINK (if u2 then 2 else 1) else d
    if host then d'.shakes (if on && from_ then .lau else .lxu) else d'
  else d

def execUsbLinkIdleTimer (u2 host : Bool) (s : State) : Host.Outcome State Fault Refusal := s.runPins 12 (usbLinkIdleTimer u2 host)

/-- Endpoints that answered NRDY and are ready now send ERDY (R467). -/
def Dev.epReady (d : Dev) (ep : Nat) : Bool :=
  if ep = 0 then d.usb.armed || !(d.phase == 1 || d.phase == 2)
  else if ep ≤ 8 then d.outReady (ep - 1)
  else if ep = 0x89 then d.usb.notices != []
  else d.port.inq.get (1184 + (ep - 0x81)) [] != []

def Dev.sendErdys (d : Dev) : Dev :=
  let l := d.usb.fn.nrdy.filter d.epReady
  if l = [] then d else (d.traffic).modFn (fun f => { f with nrdy := f.nrdy.filter (fun e => !l.contains e), erdys := l })

/-! ### Hub ports -/

/-- `Up_OC_N` low for 2 ms (R464). -/
def portOvercurrent (e : Nat) (d : Dev) : Dev :=
  let d := ((d.set (USB_HPp_PWR e) 0).set (USB_HPp_OC e) 1).portEmpty e
  ((d.portChange e 3 true).inc USB_HP_OC_COUNT).raise USB_EVT_PORT_OC

def execPortOvercurrent (e : Fin 7) (s : State) : Host.Outcome State Fault Refusal := s.runPins 12 (portOvercurrent e)

/-- A device connects (1), disconnects (0) or signals resume (2) on an external port; a port with HIDE set stays empty (R462, R463,
R477, R486). -/
def hubPortConnect (e what speed : Nat) (d : Dev) : Dev :=
  if what = 0 then (if d.flag (USB_HPp_CONN e) then (d.portEmpty e).portChange e 0 true else d)
  else if !d.portLive e || d.flag (USB_HPp_HIDE e) then d
  else if what = 1 then
    (((d.set (USB_HPp_CONN e) 1).set (USB_HPp_SPEED e) speed).portChange e 0 true).wakeReason 3
  else if d.flag (USB_HPp_CONN e) then ((d.set (USB_HPp_SUSP e) 0).portChange e 2 true).wakeReason 3
  else d

def execHubPortConnect (e : Fin 15) (what speed : Fin 3) (s : State) : Host.Outcome State Fault Refusal :=
  s.runPins 12 (hubPortConnect e what speed)

/-! ### Audio -/

/-- Bytes read as frames of two 24-bit samples (R479). -/
def framesOf : Nat → List Byte → List (Nat × Nat)
  | 0, _ => []
  | n + 1, l => (leNat (l.take 3), leNat ((l.drop 3).take 3)) :: framesOf n (l.drop 6)

/-- An isochronous OUT packet (R479). -/
def audIsoOut (l : List Byte) (d : Dev) : Dev :=
  let d := d.traffic
  if !d.usb.alt || l.length % 6 != 0 || 48 < l.length then d
  else
    let fs := framesOf (l.length / 6) l
    let room := 1024 - d.usb.fifo.length
    let excess := fs.length - room
    let d := d.modUsb (fun u => { u with fifo := u.fifo ++ fs.take room })
    let d := d.set AUD_STAT_FILL d.usb.fifo.length
    if 0 < excess then (d.incBy AUD_OVER_COUNT excess).raise USB_EVT_AUD_OVER else d

def execAudIsoOut (data : List Byte) (s : State) : Host.Outcome State Fault Refusal := s.runPins 12 (audIsoOut data)

/-- The slot of a sample on `AUD_DATA`, by BCLK: the sample most significant bit first, one BCLK after the LRCLK edge, then zeros (R480). -/
def i2sSlot (v : Nat) : List Bool := false :: (List.range 24).map (fun k => v.testBit (23 - k)) ++ List.replicate 7 false

/-- The pins over one LRCLK period: LRCLK, low for the left channel, and DATA at each BCLK (R480). -/
def i2sFrame (f : Nat × Nat) : List (Bool × Bool) := (i2sSlot f.1).map (fun b => (false, b)) ++ (i2sSlot f.2).map (fun b => (true, b))

/-- The output stops: nothing is taken, and the pins are driven low (R480). -/
def Dev.audOff (d : Dev) : Dev := (d.set AUD_STAT_RUN 0).modUsb (fun u => { u with frame := (0, 0), bits := [], dry := false })

/-- The frame that the next LRCLK period sends (R480). -/
def Dev.audTake (d : Dev) : Dev :=
  let d := if d.usb.alt && 512 ≤ d.usb.fifo.length then d.set AUD_STAT_RUN 1 else d
  if !d.flag AUD_STAT_RUN then d.modUsb (fun u => { u with frame := (0, 0) })
  else match d.usb.fifo with
  | f :: t => (d.modUsb (fun u => { u with fifo := t, frame := f, dry := false })).set AUD_STAT_FILL t.length
  | [] =>
    let was := d.usb.dry
    let d := d.modUsb (fun u => { u with frame := (0, 0), dry := true })
    if was then d else (d.inc AUD_UNDER_COUNT).raise USB_EVT_AUD_UNDER

/-- One LRCLK period of the I2S output (R480). -/
def audFrameOut (d : Dev) : Dev :=
  if !d.flag AUD_CTL_EN then d
  else (d.audTake).modUsb (fun u => { u with bits := i2sFrame u.frame })

def execAudFrameOut (s : State) : Host.Outcome State Fault Refusal := s.runOn 12 audFrameOut

/-- 128 service intervals that lasted `ns` of TB0, or none seen, which holds the rate: the rate trim, within ±500 ppm and 1 ppm a step, and F, the AUD
cycles that went by at the rate in use (R481, R482). -/
def audTrimUpdate (ns : Nat) (d : Dev) : Dev :=
  if ns = 0 then d
  else
    let now := sgn 32 (d.get AUD_RATE_PPB)
    let want : Int := if d.flag USB_AUD_CFG_TRIM then max (-500000) (min 500000 ((16000000000000000 : Int) / ns - 1000000000))
      else 0
    let ppb := if d.flag USB_AUD_CFG_TRIM then max (now - 1000) (min (now + 1000) want) else 0
    let d := d.set AUD_RATE_PPB (unsgn 32 ppb)
    d.set AUD_FB_F (((24576 : Int) * (1000000000 + now) * ns / 1000000000000000)).toNat

def execAudTrimUpdate (ns : Word) (s : State) : Host.Outcome State Fault Refusal := s.runOn 12 (audTrimUpdate ns.toNat)

/-- The host reads the feedback endpoint (R482). -/
def audFeedbackRead (d : Dev) : Dev := (d.traffic).modUsb (fun u => { u with data := natLE 4 (d.get AUD_FB_F) })

def execAudFeedbackRead (s : State) : Host.Outcome State Fault Refusal := s.runPins 12 audFeedbackRead

end Sys2Proof.Machine
end

