-- ==== Sys2Proof/Machine/Domains.lean ====
section
/-! DEFINITION. Power domains (spec 17), first part: what a domain loses (R512, R514), QUIESCE (R516), the domains a domain requires
(R511), and wakes (R513, R520, R523). -/

namespace Sys2Proof.Machine

/-! ### What a domain loses -/

/-- The power domain of a field: by its address; the key slot headers lie in SEC, every other window table in CORE (R26). -/
def fieldDomain (key : Nat) : Nat :=
  let a := key / 8
  if a < 2 ^ 40 then powerDomain a else if a < 0x10000500000 then 3 else 4

/-- The registers that RET keeps: TMT way 0, increments, step limits, `TMB_SRV_CTL`, `TMB_SRV_GAIN` (R514), and the key slot
headers. -/
def keptInRet (key : Nat) : Bool :=
  let a := key / 8
  (0x10580000 ≤ a && a < 0x10580000 + 16 * 16384 && (a - 0x10580000) / 16 % 4 == 0)
    || (List.range 4).any (fun n => key == (TMB_TBn_INCR_NS_NS n).key || key == (TMB_TBn_INCR_FRAC_FRAC n).key
        || key == (TMB_TBn_STEPLIM_NS n).key)
    || a / 4 * 4 == TMB_SRV_CTL_A || a / 4 * 4 == TMB_SRV_GAIN_A || 0x10000500000 ≤ a

/-- The registers of a domain at their reset values, but for those that RET keeps (R512). -/
def Dev.regsReset (dom : Nat) (ret : Bool) (d : Dev) : Dev :=
  { d with flds := d.flds.filter (fun x => fieldDomain x.1 != dom || (ret && keptInRet x.1)) }

/-- The time bases, the servo and the timed pins as CORE loses them: the time bases' values stay in RET (R213, R514), and from CORE's
return from RET they count on while PLL_LOCK reads 0 (DESIGN CHOICE, log entry 109: R217 does not say); the levels at the pins are not
the hub's. -/
def TimePart.lost (t : TimePart) (ret : Bool) : TimePart :=
  { Dev.reset.time with
    tbs := if ret then t.tbs else [], cyc := t.cyc, counting := ret && t.counting, levels := t.levels }

/-- The uncorrectable words go from memories whose valid bits are cleared (R562). -/
def RelPart.unflawed (mems : List Nat) (r : RelPart) : RelPart :=
  { r with flaws := r.flaws.filter (fun k => decide (k < 2 ^ 60) || !mems.contains ((k - 2 ^ 60) / 2 ^ 48)) }

/-- The banks' counts cleared; remap tables and unusable marks stay until power-on (R15, R567, R571). -/
def RelPart.kept (r : RelPart) : RelPart :=
  RelPart.unflawed [1, 2, 3, 4, 9]
    ⟨r.banks.mapValues (fun x => { x with ce := 0, ue := 0, lastCe := 0, lastUe := 0 }) BankSt.reset, none, RelPart.reset.pass, r.flaws⟩


/-- The key unit as SEC loses its supply: RET keeps the slot headers (R514, R542). -/
def Dev.keyLost (ret : Bool) (d : Dev) : Dev :=
  let d := { d with key := d.key.lost }
  if ret then d.headersKept else d

/-- The engines of a domain as they are after a reset, and the memories that it does not keep (R511, R512, R514). -/
def Dev.partsReset (dom : Nat) (ret : Bool) (d : Dev) : Dev :=
  match dom with
  | 1 => { d with syn := SynPart.reset, posted := [], evqLost := []
                  mem := d.mem.filter (fun c => !(Decidable.decide (c.1 < 0x200000)) || (ret && Decidable.decide (0x1C0000 ≤ c.1)))
                  rel := d.rel.unflaw (fun a => a < 0x200000 && !(ret && 0x1C0000 ≤ a)) }
  | 2 => if ret then d else
    d.dramLost
  | 3 => { d with sw := SwitchPart.reset, sch := SchedPart.reset, ctxs := [], waits := [], rel := d.rel.kept, acc := AccPart.reset
                  port := PortPart.reset, enq := EniquePart.reset, sil := ⟨[], 0⟩, time := d.time.lost ret }
  | 4 => d.keyLost ret
  | 5 => ((d.setSeq 0 SeqSt.reset).setLnk 0 LinkSt.reset).mendIn 5 0 0 65536
  | 6 => ((d.setSeq 1 SeqSt.reset).setLnk 1 LinkSt.reset).mendIn 5 1 0 65536
  | 7 => forAll (List.range 4) Dev.passHpd (forAll [2, 3, 4, 5] (fun p d => (d.setSeq p SeqSt.reset).setLnk p LinkSt.reset) d)
  | 8 => forAll [4, 5, 6, 7] Dev.passHpd (forAll [6, 7, 8, 9] (fun p d => (d.setSeq p SeqSt.reset).setLnk p LinkSt.reset) d)
  | 9 => { d with eth := EthPart.reset }
  | 10 => forAll (List.range 2) Dev.hpdSync { d with scan := d.scan.lost }
  | 11 => { d with sto := StoPart.reset }
  | 12 => { d with usb := UsbPart.reset }
  | _ => d

/-- The registers that show fuses: the lifecycle state, the SVN counters, HELPER_OFS, the unit identifier, ROOTGEN, the USB identifiers where
they are programmed (R113, R465, R536, R578, R589). -/
def Dev.otpSense (d : Dev) : Dev :=
  let o := d.boot.otp
  let d := ((d.set LCS_STATE_LC o.lc).set LCS_SVN_KORWICK o.svnK).set LCS_SVN_OWNER o.svnO
  let d := if o.usbId = 0 then d else (d.set LCS_USBID_VID (o.usbId % 2 ^ 16)).set LCS_USBID_PID (o.usbId / 2 ^ 16 % 2 ^ 16)
  let d := (d.set LCS_HELPER_OFS_OFS o.helperOfs).set KEY_ROOTGEN_GEN o.rootgen
  (d.set STN_UID_HI_UID (0x32400000 + Config.unitId.toNat / 2 ^ 32)).set STN_UID_LO_UID Config.unitId.toNat

/-- Cores and packet buffer banks marked unusable stay so until power-on reset (R571); `old` is the device before its registers were
reset. -/
def Dev.remark (old : Dev) (cores banks : Bool) (d : Dev) : Dev :=
  let lost := fun v => (List.range 8).filter (fun k => !Nat.testBit v k)
  let d := if cores then forAll (lost (old.get SYN_STAT_CORE_OK)) (fun k d => markTarget k d) d else d
  if banks then forAll (lost (old.get SWC_STAT_BANK_OK)) (fun k d => markTarget (0x20 + k) d) d else d

/-- A domain loses its registers and its state (R512); the registers that show fuses show them again (DEDUCED). -/
def Dev.domReset (dom : Nat) (ret : Bool) (d : Dev) : Dev :=
  ((Dev.remark d (dom == 1) (dom == 3) ((d.regsReset dom ret).partsReset dom ret)).otpSense.lineSync).bypSync

/-! ### Events and requirements -/

/-- An event flag of `PWR_EVT`: an enabled flag that goes from 0 to 1 posts its record (R530, R616). -/
def Dev.pwrRaise (b arg : Nat) (d : Dev) : Dev :=
  d.setFlag ⟨PWR_EVT_DRY_DONE.key + b, 1, 0⟩ ⟨PWR_EVT_EN_DRY_DONE.key + b, 1, 0⟩ (fun d => ⟨0x0400 + b, 0x1B, d.stamp, arg⟩) Dev.postAon

/-- The domain's state: 0 ON, 1 RET, 2 OFF; and its phase (R529). -/
def Dev.domState (d : Dev) (n : Nat) : Nat := if n = 0 then 0 else d.get (PWR_Dd_STAT_STATE n)
def Dev.phaseOf (d : Dev) (n : Nat) : Nat := d.get (PWR_Dd_STAT_PHASE n)
def Dev.setPhase (n x : Nat) (d : Dev) : Dev := d.set (PWR_Dd_STAT_PHASE n) x

/-- The domains that a domain requires ON, in the order of R511. -/
def requires (n : Nat) : List Nat := if n ≤ 1 then [] else if n = 2 then [1] else if n = 3 then [1, 2] else [1, 2, 3]

/-- Whether a domain is ON and in no transition. -/
def Dev.steady (d : Dev) (n : Nat) : Bool := n == 0 || (d.domState n == 0 && d.phaseOf n == 0)

/-- A domain that requires another and is ON, or on its way to ON (R513). -/
def Dev.dependent (d : Dev) (n : Nat) : Bool :=
  (List.range 13).any (fun k => (requires k).contains n && (d.domState k == 0 || d.phaseOf k == 7))

/-! ### Wakes -/

/-- The sources with a latched wake that names a domain (R521). -/
def Dev.wakeLatched (d : Dev) (n : Nat) : Bool :=
  (bitList 8 (d.get PWR_WLATCH_PEND)).any (fun x => (d.get (PWR_WSRCs_DOMS x)).testBit n)

/-- A domain starts to wake: PHASE shows WAKE once those it requires are ON (R513). -/
def Dev.wakeOne (n : Nat) (d : Dev) : Dev :=
  if d.domState n ≠ 0 ∧ d.phaseOf n = 0 ∧ (requires n).all d.steady then d.setPhase n 7 else d

/-- The wakes that are due go on: TARGET is asked for where VDD_CORE is at, or on its way to, the retention voltage, and no domain
wakes before it is acknowledged (R513, R523). -/
def Dev.wakeGo (d : Dev) : Dev :=
  if d.power.waking = [] then d
  else
    let falling := match d.power.avs with
      | some r => r.low
      | none => false
    if (d.flag PWR_AVS_STAT_LOW || falling) && d.power.avsNext == none && (falling || d.power.avs == none) && !d.power.failed then
      d.avsAsk (d.get PWR_AVS_CTL_TARGET) false
    else if d.power.avs ≠ none ∨ d.flag PWR_AVS_STAT_LOW then d
    else
      let l := ((d.power.waking.flatMap (fun n => requires n ++ [n])).eraseDups)
      forAll ((List.range 13).filter (fun n => l.contains n)) (fun n d => d.wakeOne n) d

/-- A domain to be woken (R513, R520). -/
def Dev.wake (n : Nat) (d : Dev) : Dev :=
  if n = 0 ∨ d.power.waking.contains n then d else d.modPower (fun p => { p with waking := p.waking ++ [n] })

/-- A domain that is not ON, or is on its way out of ON (R520, R521). -/
def Dev.notOn (d : Dev) (n : Nat) : Bool := n != 0 && (d.domState n != 0 || (1 ≤ d.phaseOf n && d.phaseOf n ≤ 6))

/-- A wake event of a source (R519 to R521). -/
def Dev.wakeEvent (x : Nat) (d : Dev) : Dev :=
  let l := (bitList 13 (d.get (PWR_WSRCs_DOMS x))).filter d.notOn
  if d.flag (PWR_WSRCs_EN x) && l != [] then
    let (n, t) := d.power.latched.get x (0, 0)
    let first := if (d.get PWR_WLATCH_PEND).testBit x then t else d.oscTicks % 2 ^ 32
    let d := d.modPower (fun p => { p with latched := p.latched.set x (min 255 (n + 1), first) (0, 0) })
    (forAll l (fun k d => d.wake k) (d.set PWR_WLATCH_PEND (d.get PWR_WLATCH_PEND ||| 2 ^ x))).wakeGo
  else d

/-- The wake records whose domains, and CTL, are ON (R520). -/
def Dev.wakeRecords (d : Dev) : Dev :=
  let ready := fun (d : Dev) (x : Nat) => (bitList 13 (d.get (PWR_WSRCs_DOMS x))).all d.steady
  if d.domOn 1 && d.aon.bridgeUp then
    forAll ((bitList 8 (d.get PWR_WLATCH_PEND)).filter (ready d)) (fun x d =>
      let (n, t) := d.power.latched.get x (0, 0)
      let d := (d.postAon ⟨0x0300 + x, 0x1B, d.stamp, n + t * 2 ^ 8⟩).inc PWR_WAKES_COUNT
      (d.modPower (fun p => { p with latched := p.latched.set x (0, 0) (0, 0) })).set PWR_WLATCH_PEND
        (d.get PWR_WLATCH_PEND - 2 ^ x)) d
  else d

/-! ### QUIESCE -/

/-- Whether staged writes name a domain: a register of it, or memory that lies in it (R288, R515); for CORE, any write at all. -/
def AccSlot.writesTo (x : AccSlot) (n : Nat) : Bool :=
  x.regs.any (fun w => n == 3 || powerDomain w.1 == n)
    || x.mems.any (fun w => n == 3 || (n == 1 && decide (8 * w.1 < 0x200000)) || (n == 2 && decide (0x8000000000 ≤ 8 * w.1)))

/-- The accords in CLOSED or HELD for which a drydown waits (R515, R516). -/
def Dev.heldUp (d : Dev) (n : Nat) : Bool :=
  d.pendingSlots.any (fun k => 2 ≤ d.get (ACD_SLOTn_STAT_STATE k) && (d.accSlot k).writesTo n)

/-- OPEN accords that hold a write to the domain abort (R515). -/
def Dev.abortOpen (n : Nat) (d : Dev) : Dev :=
  forAll (d.pendingSlots.filter (fun k => d.get (ACD_SLOTn_STAT_STATE k) == 1
    && ((d.accSlot k).regs.any (fun w => powerDomain w.1 == n) || (n != 3 && (d.accSlot k).writesTo n)))) (fun k d => d.abortSlot k 8) d

/-- The power domain of a memory's bank (R26, R561), and of a self-test target (R571). -/
def memDomain (mem b : Nat) : Nat :=
  if mem = 0 ∨ mem = 6 ∨ mem = 7 then 1 else if mem = 5 then 5 + b else if mem = 8 then 10 else if mem = 9 then 4 else if mem = 11 then 2 else 3
def bistDomain (t : Nat) : Nat := if t < 0x20 then 1 else 3

/-- A pass of the scrubber over a bank of a domain that dries down ends ABORTED: how many words it has read by then no command brings (R566;
log entry 100). A running slice of a target in it ends ABORTED after the restore (R572). -/
def Dev.testsEnd (n : Nat) (d : Dev) : Dev :=
  let d := if d.flag REL_SCR_STAT_BUSY && memDomain d.rel.pass.mem d.rel.pass.bank == n then
      let (k, d) := d.fresh
      scrubEnd 1 (Config.randomNat k % (d.rel.pass.last - d.rel.pass.first + 2)) [] [] d
    else d
  match d.rel.slice with
  | some x => if bistDomain x.target = n then bistSliceDone 0 .aborted d else d
  | none => d

/-- What QUIESCE does on a domain (R516). -/
def Dev.quiesce (n : Nat) (ret : Bool) (d : Dev) : Dev :=
  let d := d.testsEnd n
  match n with
  | 1 =>
    let d := forAll (List.range 32) (fun t d => d.stopThread t) d
    ({ d with aon := { d.aon with bridgeUp := false } }).bypSync
  | 2 => if ret then d.set DDR_STAT_SELFREF 1 else d
  | 3 =>
    let d := forAll d.pendingSlots (fun k d => d.abortSlot k 9) d
    { d with sw := SwitchPart.reset }
  | 4 => d.segmentsFail.keyQuiesce
  | 5 => seqDisable 0 d
  | 6 => seqDisable 1 d
  | 7 => forAll [2, 3, 4, 5] (fun p d => d.seqOff p) d
  | 8 => forAll [6, 7, 8, 9] (fun p d => d.seqOff p) d
  | 9 => forAll (List.range 10) (fun k d => ethLinkDown k false d) d
  | 10 => forAll [0, 1] (fun k d => d.stopVideo k 0) d
  | 11 => forAll [0, 1] (fun k d => driveDisable k d) d
  | 12 => usbDisconnect (d.flag USB_STAT_VBUS) d
  | _ => d

end Sys2Proof.Machine
end

