-- ==== Sys2Proof/Machine/Power.lean ====
section
/-! DEFINITION. Power domains and regulators (spec 17): requests (R513, R515, R518), the phases of drydown (R515), wakes (R512, R519 to
R521), pads (R517), AVSBus (R522, R523), PMBus (R524 to R527). -/

namespace Sys2Proof.Machine

/-! ### Requests -/

/-- A request refused with an error (R513, R521, R529). -/
def Dev.pwrRefuse (n err : Nat) (d : Dev) : Dev := (d.set (PWR_Dd_STAT_ERR n) err).pwrRaise 2 n

/-- QUIESCE acts, once no accord in CLOSED or HELD writes to the domain (R515, R516). -/
def Dev.quiesceIf (n : Nat) (d : Dev) : Dev :=
  let (t, done) := d.power.aims.get n (0, false)
  if done || d.heldUp n then d
  else (d.quiesce n (t == 1)).modPower (fun p => { p with aims := p.aims.set n (t, true) (0, false) })

/-- A request acts on a domain in no transition (R513, R515, R521): towards ON a wake; towards RET or OFF a drydown, unless a domain
that requires it is ON or a latched wake names it. A domain in RET that is to be OFF loses what it kept at once. -/
def Dev.pwrRequest (n target : Nat) (d : Dev) : Dev :=
  let st := d.domState n
  if target = 0 then (if st = 0 then d else (d.wake n).wakeGo)
  else if d.wakeLatched n then d.pwrRefuse n 2
  else
    let d := d.modPower (fun p => { p with waking := p.waking.filter (· != n) })
    if st = 0 then
      if d.dependent n then d.pwrRefuse n 1
      else
        let d := (d.setPhase n 1).modPower (fun p => { p with aims := p.aims.set n (target, false) (0, false) })
        (d.abortOpen n).quiesceIf n
    else if st = 1 ∧ target = 2 then ((d.set (PWR_Dd_STAT_STATE n) 2).domReset n false).pwrRaise 0 n
    else d

/-- PWR_Dd_REQ written (R512, R515, R518, R529): TARGET 3 is discarded, AON takes no request, and a request during a transition is the
next target. -/
def domainRequestWrite (n target : Nat) (d : Dev) : Dev :=
  if target = 3 then d
  else if n = 0 then (if target = 0 then d else d.pwrRefuse 0 3)
  else
    let d := d.set (PWR_Dd_REQ_TARGET n) target
    if d.phaseOf n ≠ 0 then d.set (PWR_Dd_STAT_NEXT n) target else d.pwrRequest n target

def execDomainRequestWrite (n : Fin 13) (target : Fin 4) (s : State) : Host.Outcome State Fault Refusal :=
  s.run (domainRequestWrite n target)

/-- A transition has ended: the next target acts, and wakes go on (R518, R521). -/
def Dev.settled (n : Nat) (d : Dev) : Dev :=
  let next := d.get (PWR_Dd_STAT_NEXT n)
  let d := if next = 3 then d else (d.set (PWR_Dd_STAT_NEXT n) 3).pwrRequest n next
  d.wakeGo

/-! ### Drydown -/

/-- QUIESCE ends (R515): not while an accord holds the domain up. -/
def quiesceDone (n : Nat) (d : Dev) : Dev :=
  if d.phaseOf n = 1 then
    let d := d.quiesceIf n
    if (d.power.aims.get n (0, false)).2 then d.setPhase n 2 else d
  else d

def execQuiesceDone (n : Fin 13) (s : State) : Host.Outcome State Fault Refusal := s.run (quiesceDone n)

/-- Whether what a thread waits for is a transaction in flight of a domain: a read of its registers, a load of DRAM; for CTL, whose threads
make them, any (R515). -/
def Wait.inFlight (n : Nat) : Wait → Bool
  | .reg _ a _ => n == 1 || powerDomain a == n
  | .load _ a _ _ _ => n == 1 || (n == 2 && decide (0x8000000000 ≤ a))
  | _ => false

/-- Whether a posted write is in flight to a domain, or for CTL across the bridge (R515). -/
def postedTo (n : Nat) (w : PostedWrite) : Bool := powerDomain w.addr == n || (n == 1 && onPowerDie w.addr)

/-- Whether transactions of a domain are in flight: posted writes and waiting reads of its registers and across the bridge, loads of
DRAM, operations of the key unit that have started, drives that shut down (R515, R516, R544). -/
def Dev.inFlight (d : Dev) (n : Nat) : Bool :=
  d.posted.any (postedTo n) || (d.acc.swaps.any (fun x => n == 3 || x.regs.any (fun y => powerDomain y.1 == n)))
    || (List.range 32).any (fun t => (d.thr t).wait.inFlight n)
    || (n == 4 && d.key.running != []) || (n == 11 && ((d.drive 0).shut || (d.drive 1).shut))

/-- DRAIN ends with nothing in flight (R515). -/
def execDrainDone (n : Fin 13) (s : State) : Host.Outcome State Fault Refusal :=
  s.run (fun d => if d.phaseOf n = 2 ∧ !d.inFlight n then d.setPhase n 3 else d)

/-- A thread in FENCE.D goes on once none of its writes is posted any more (R331, R364). -/
def Dev.postedGone (t : Nat) (d : Dev) : Dev :=
  if (d.thr t).wait = .posted ∧ !d.posted.any (fun w => w.thr == t) then d.retire t 4 else d

/-- DRAIN ends at PWR_DRAIN_TO: what is in flight is cut (R515); PCIE waits for its drives instead (R516). -/
def drainTimeout (n : Nat) (d : Dev) : Dev :=
  if d.phaseOf n = 2 ∧ n ≠ 11 then
    let cut := (d.posted.filter (postedTo n)).map (·.thr)
    let d := { d with posted := d.posted.filter (fun w => !postedTo n w) }
    let d := forAll cut (fun t d => d.postedGone t) (d.modKey (fun k => if n = 4 then { k with running := [] } else k))
    (d.setPhase n 3).pwrRaise 3 n
  else d

def execDrainTimeout (n : Fin 13) (s : State) : Host.Outcome State Fault Refusal := s.run (drainTimeout n)

/-- The clocks have stopped (R515). -/
def execClockstopDone (n : Fin 13) (s : State) : Host.Outcome State Fault Refusal :=
  s.run (fun d => if d.phaseOf n = 3 then d.setPhase n 4 else d)

/-- The target of the drydown in progress. -/
def Dev.aim (d : Dev) (n : Nat) : Nat := (d.power.aims.get n (0, false)).1

/-- The pads of a domain keep what its registers drive (R517). -/
def Dev.holdPads (n : Nat) (d : Dev) : Dev :=
  if d.flag (PWR_Dd_STAT_HELD n) then d
  else (d.modPower (fun p => { p with pads := p.pads.set n (d.flds.filter (fun x => fieldDomain x.1 == n)) [] })).set (PWR_Dd_STAT_HELD n) 1

/-- What a register field of a domain drives at the pads: what it held at HOLD while they are held (R517). -/
def Dev.padLevel (d : Dev) (f : Fld) : Nat :=
  let n := fieldDomain f.key
  if d.flag (PWR_Dd_STAT_HELD n) then (d.power.pads.get n []).get f.key f.rst % 2 ^ f.w else d.get f

/-- HOLD ends: pads latched; SAVE follows for RET, else POWER (R515, R517). -/
def execHoldDone (n : Fin 13) (s : State) : Host.Outcome State Fault Refusal :=
  s.run (fun d => if d.phaseOf n = 4 then (d.holdPads n).setPhase n (if d.aim n = 1 then 5 else 6) else d)

/-- SAVE ends (R515). -/
def execSaveDone (n : Fin 13) (s : State) : Host.Outcome State Fault Refusal :=
  s.run (fun d => if d.phaseOf n = 5 then d.setPhase n 6 else d)

/-- The retention voltage is asked for once every domain but AON is in RET or OFF (R523). -/
def Dev.lowIf (d : Dev) : Dev :=
  if ((List.range 13).all (fun k => k == 0 || d.domState k != 0)) && d.power.waking == [] && !d.flag PWR_AVS_STAT_LOW then
    d.avsAsk (d.get PWR_AVS_CTL_RET) true else d

/-- The supply is off: the domain is in RET or OFF and has lost what it does not keep (R511, R512, R515). -/
def dryDone (n : Nat) (d : Dev) : Dev :=
  if d.phaseOf n = 6 then
    let t := d.aim n
    let d := ((d.set (PWR_Dd_STAT_STATE n) t).setPhase n 0).domReset n (t == 1)
    let d := (d.modPower (fun p => { p with aims := p.aims.set n (0, false) (0, false) })).pwrRaise 0 n
    (d.settled n).lowIf
  else d

def execDryDone (n : Fin 13) (s : State) : Host.Outcome State Fault Refusal := s.run (dryDone n)

/-! ### Wake -/

/-- What starts when a domain comes ON: the bridge and the AON queue with CTL (R28), the servo in FREERUN with CORE from RET (R514),
enfleurage with SEC (R532), the lane groups of TCA and TCB (R406). -/
def Dev.domStarts (n : Nat) (ret : Bool) (d : Dev) : Dev :=
  match n with
  | 1 => ({ d with aon := { d.aon with bridgeUp := true } }).bypSync.deliverAon
  | 3 => if ret && d.flag TMB_SRV_CTL_EN then ((d.set (TMB_TBn_STAT_OWNED 0) 1).setF 0 d.time.servo.period).srvGo 1 else d
  | 4 => if d.lifecycle = 0 ∨ d.lifecycle = 4 then d else d.set KEY_STAT_ENFL_BUSY 1
  | 7 => d.lanesOn 7
  | 8 => d.lanesOn 8
  | _ => d

/-- A waking domain reaches ON (R512): its registers are at reset, and the records whose domains are ON are posted (R520). -/
def domainWakeDone (n : Nat) (d : Dev) : Dev :=
  if d.phaseOf n = 7 then
    let ret := d.domState n == 1
    let d := ((d.domReset n ret).set (PWR_Dd_STAT_STATE n) 0).setPhase n 0
    let d := (d.modPower (fun p => { p with waking := p.waking.filter (· != n) })).domStarts n ret
    ((d.pwrRaise 1 n).settled n).wakeRecords
  else d

def execDomainWakeDone (n : Fin 13) (s : State) : Host.Outcome State Fault Refusal := s.run (domainWakeDone n)

/-- A wake source's event (R519, R520). -/
def execWakeSourceEvent (src : Fin 8) (s : State) : Host.Outcome State Fault Refusal := s.run (Dev.wakeEvent src)

/-- PWR_WTIMER expires; 0 ticks is off (R519, R530). -/
def execWakeTimerExpire (s : State) : Host.Outcome State Fault Refusal :=
  s.run (fun d => if d.get PWR_WTIMER_TICKS = 0 then d else d.wakeEvent 0)

/-- PWR_WAKE_SW.GO written (R519). -/
def execWakeSwGo (s : State) : Host.Outcome State Fault Refusal := s.run (Dev.wakeEvent 7)

/-- A PWR_PADREL bit written: the pads of an ON domain follow its registers again (R517, R528, R531). -/
def padRelease (n : Nat) (d : Dev) : Dev :=
  if d.domState n = 0 ∧ d.phaseOf n < 4 then
    (d.modPower (fun p => { p with pads := p.pads.set n [] [] })).set (PWR_Dd_STAT_HELD n) 0
  else d

def execPadRelease (n : Fin 13) (s : State) : Host.Outcome State Fault Refusal := s.run (padRelease n)

/-! ### AVSBus -/

/-- PWR_AVS_CTL written: the new TARGET is sent (R522, R523, R530). -/
def avsTargetWrite (target ret : Nat) (d : Dev) : Dev :=
  (((d.set PWR_AVS_CTL_TARGET target).set PWR_AVS_CTL_RET ret).modPower (fun p => { p with failed := false })).avsAsk target false

def execAvsTargetWrite (target ret : BitVec 10) (s : State) : Host.Outcome State Fault Refusal :=
  s.run (avsTargetWrite target.toNat ret.toNat)

/-- The regulator acknowledges (R522, R523): waiting wakes proceed; at start-up the main die's OTP sense follows (R578). -/
def avsAck (d : Dev) : Dev :=
  match d.power.avs with
  | none => d
  | some r =>
    let d := ((d.set PWR_AVS_STAT_ACKED r.mv).setB PWR_AVS_STAT_LOW r.low).avsEnd
    let d := d.modPower (fun p => { p with failed := if r.low then p.failed else false })
    let d := if d.boot.stage = 2 ∧ !r.low then { d with boot := { d.boot with stage := 4 } } else d
    d.wakeGo

def execAvsAck (s : State) : Host.Outcome State Fault Refusal := s.run avsAck

/-- 2 ms without an acknowledgement: retried once, then AVS_FAIL with the regulator's voltage `mv` kept (R522). -/
def avsAckTimeout (mv : Nat) (d : Dev) : Dev :=
  match d.power.avs with
  | none => d
  | some r =>
    if r.retried then
      let d := ((d.set PWR_AVS_STAT_ACKED mv).avsEnd).pwrRaise 4 0
      d.modPower (fun p => { p with failed := p.failed || !r.low })
    else (d.modPower (fun p => { p with avs := some { r with retried := true } })).inc PWR_AVS_RETRIES_COUNT

def execAvsAckTimeout (mv : BitVec 10) (s : State) : Host.Outcome State Fault Refusal := s.run (avsAckTimeout mv.toNat)

/-- 100 ms after AVS_FAIL: TARGET is tried again (R523). -/
def execAvsRetryTimer (s : State) : Host.Outcome State Fault Refusal :=
  s.run (fun d => if d.power.failed ∧ d.power.avs = none then d.avsAsk (d.get PWR_AVS_CTL_TARGET) false else d)

/-! ### PMBus -/

/-- Rail entry `k` has been acknowledged, or has failed (R527, R530). -/
def Dev.railShow (k : Nat) (good : Bool) (d : Dev) : Dev :=
  let put := fun (v : Nat) (b : Bool) => if b then v ||| 2 ^ k else v &&& (0xFF - 2 ^ k)
  (d.set PWR_RAIL_STAT_GOOD (put (d.get PWR_RAIL_STAT_GOOD) good)).set PWR_RAIL_STAT_FAULT (put (d.get PWR_RAIL_STAT_FAULT) (!good))

/-- Whether a later request of the same port stands behind the front request, which it supersedes (R419). -/
def Dev.superseded (d : Dev) (r : PmbReq) : Bool := (d.power.pmb.drop 1).any (fun x => x.owner == r.owner)

/-- The outcome of the front request shown where it belongs: its regulator has acknowledged, or not (R420, R525, R527); a port takes only
the acknowledgement of its latest write (R419). -/
def Dev.pmbEnd (r : PmbReq) (good : Bool) (d : Dev) : Dev :=
  let old := d.superseded r
  let d := d.modPower (fun p => { p with pmb := p.pmb.drop 1 })
  if 8 ≤ r.owner then d.railShow (r.owner - 8) good
  else if good && !old then d.modPc r.owner (fun x => { x with acked := true })
  else d

/-- A transaction of the front request ends: `ok` where every part ended with ACK and a good PEC, `fault` where STATUS_WORD then has a
fault bit set. A failed one is retried once (R525). -/
def pmbTransactionDone (ok fault : Bool) (d : Dev) : Dev :=
  match d.power.pmb with
  | [] => d
  | r :: rest =>
    if ok then d.pmbEnd r (!fault)
    else if r.retried then
      let old := d.superseded r
      let d := ((d.pmbEnd r false).inc PWR_PMB_FAILS_COUNT).pwrRaise 5 0
      if r.owner < 8 && d.attached r.owner && !old then d.vbusFault r.owner else d
    else (d.modPower (fun p => { p with pmb := { r with retried := true } :: rest })).inc PWR_PMB_RETRIES_COUNT

def execPmbTransactionDone (ok fault : Bool) (s : State) : Host.Outcome State Fault Refusal := s.run (pmbTransactionDone ok fault)

/-- SCL held low for 25 ms: the transaction in progress fails (R524). -/
def execPmbSclTimeout (s : State) : Host.Outcome State Fault Refusal := s.run (pmbTransactionDone false false)

/-- The VBUS check of a port whose regulator alerts: VBUS outside its window during a contract is a fault (R420, R526). -/
def Dev.vbusCheck (n : Nat) (d : Dev) : Dev :=
  let d := d.measureVbus n
  let (ty, mv) := match (d.pc n).now with
    | some c => (c.ty, c.mv)
    | none => (0, 5000)
  if d.underContract n && !inWindow ty mv (d.get (PDC_Pn_VBUS_MV n)) then d.vbusFault n else d

/-- PMB_ALERT_N low: the device that answers the Alert Response Address, and its STATUS_WORD (R526). -/
def pmbAlert (addr status : Nat) (d : Dev) : Dev :=
  let d := (d.inc PWR_ALERTS_COUNT).pwrRaise 6 (addr + status * 2 ^ 16)
  forAll ((List.range 8).filter (fun n => d.attached n && d.get (PDC_Pn_REG_ADDR n) == addr)) (fun n d => d.vbusCheck n) d

def execPmbAlert (addr : BitVec 7) (status : BitVec 16) (s : State) : Host.Outcome State Fault Refusal :=
  s.run (pmbAlert addr.toNat status.toNat)

/-- A rail entry's write and check queued behind the others, once (R524, R527). -/
def Dev.askRail (k : Nat) (d : Dev) : Dev :=
  if d.flag (PWR_RAILk_EN k) then
    let r : PmbReq := ⟨8 + k, d.get (PWR_RAILk_ADDR k), d.get (PWR_RAILk_PAGE k), d.get (PWR_RAILk_VOUT k), false⟩
    d.modPower (fun p => { p with pmb := p.pmb.take 1 ++ (p.pmb.drop 1).filter (fun x => x.owner != 8 + k) ++ [r] })
  else d

/-- Every 100 ms each enabled rail entry is rewritten and checked (R527). -/
def execRailRefreshTimer (s : State) : Host.Outcome State Fault Refusal :=
  s.run (fun d => forAll (List.range 8) (fun k d => d.askRail k) d)

/-- A rail entry written (R527, R530). -/
def railEntryWrite (k v : Nat) (d : Dev) : Dev :=
  let d := ((d.set (PWR_RAILk_ADDR k) v).set (PWR_RAILk_PAGE k) (v / 2 ^ 8)).set (PWR_RAILk_VOUT k) (v / 2 ^ 16)
  (d.set (PWR_RAILk_EN k) (v / 2 ^ 31)).askRail k

def execRailEntryWrite (k : Fin 8) (v : Word) (s : State) : Host.Outcome State Fault Refusal := s.run (railEntryWrite k v.toNat)

end Sys2Proof.Machine
end

