-- ==== Sys2Proof/Machine/Boot.lean ====
section
/-! DEFINITION. Reset, boot and lifecycle (spec 20): the kinds of reset (R575, R576, R587), start-up (R578), the boot ROM (R581 to
R586), the watchdog (R577). -/

namespace Sys2Proof.Machine

def Dev.modBoot (d : Dev) (f : BootPart → BootPart) : Dev := { d with boot := f d.boot }

/-! ### Resets of the main die -/

/-- Whether a field is kept across soft reset (R10). -/
def isRws (key : Nat) : Bool :=
  match findReg (key / 32 * 4) with
  | some h => h.rd.flds.any (fun f => f.lsb == key % 32 && f.acc == .rws)
  | none => false

/-- Every main-die domain requested ON, in no transition, with its pads released (R576). -/
def Dev.domainsOn (d : Dev) : Dev :=
  let one := fun (n : Nat) (d : Dev) =>
    let d := ((d.set (PWR_Dd_REQ_TARGET n) 0).set (PWR_Dd_STAT_STATE n) 0).set (PWR_Dd_STAT_PHASE n) 0
    (d.set (PWR_Dd_STAT_HELD n) 0).set (PWR_Dd_STAT_NEXT n) 3
  (forAll ((List.range 12).map (· + 1)) one d).modPower (fun p => { p with waking := [], aims := [], pads := [] })

/-- The main die reset (R575, R576): accords abort, registers take their reset values, but for RWS fields in a soft reset; every
engine starts anew, SRAM is wiped, SEC is power-cycled, the bridge is up and brings what the power
die held back (R28, R520), the module is in bypass. -/
def Dev.mainReset (soft : Bool) (d : Dev) : Dev :=
  let d := forAll d.pendingSlots (fun n d => d.abortSlot n 9) d
  let old := d
  let d := { d with flds := d.flds.filter (fun x => fieldDomain x.1 == 0 || (soft && isRws x.1)) }
  let d := forAll ((List.range 12).map (· + 1)) (fun n d => d.partsReset n (n == 2)) d
  let d := { d with aon := { d.aon with bridgeUp := true } }
  let d := if soft then Dev.remark old true true d else { d with rel := RelPart.reset }
  let failed := if soft then 0xFF - d.get SYN_STAT_CORE_OK else 0
  let d := d.modBoot (fun b => { b with images := [], rejects := 0, fatal := false, wiped := false, wdog := 0, failed := failed })
  (d.domainsOn.otpSense).bypSync.deliverAon.wakeRecords

/-- A soft reset with its cause: it starts at step 7 (R575, R578, R589). SOFT in the cycle of a watchdog expiry is the same reset, with
cause SOFT (R588). -/
def Dev.softReset (cause : Nat) (d : Dev) : Dev :=
  if cause = 1 ∧ d.cycle.expiry = some d.power.osc then d.set SYS_RST_CAUSE_CAUSE 1
  else
    let d := (d.mainReset true).modBoot (fun b => { b with stage := min 6 b.stage })
    let d := { d with cycle := { d.cycle with expiry := if cause = 2 then some d.power.osc else none } }
    (d.set SYS_RST_CAUSE_CAUSE cause).incSatBy SYS_RST_CAUSE_COUNT 1

/-- A main-die POR: start-up goes on once PORST_N is released, with PGOOD high and the fuses read (R575, R578). -/
def Dev.mainPor (d : Dev) : Dev :=
  (d.mainReset false).modBoot (fun b => { b with porst := true, stage := if d.flag HSW_STAT_PGOOD then min 4 b.stage else min 1 b.stage })

/-- The counters of the power die that a lifecycle wipe clears (R15, R587). -/
def powerDieCounters : List Fld :=
  [HSW_FAST_TRIPS_COUNT, HSW_SLOW_TRIPS_COUNT, HSW_RETRIES_COUNT, HSW_SWITCHOVERS_COUNT, HSW_SEATLOSS_COUNT, PWR_AVS_RETRIES_COUNT,
   PWR_PMB_RETRIES_COUNT, PWR_PMB_FAILS_COUNT, PWR_ALERTS_COUNT, PWR_WAKES_COUNT, PDC_RECLAIMS_COUNT, PDC_SHEDS_COUNT]
  ++ (List.range 8).flatMap (fun n => [PDC_Pn_MSG_TX_COUNT n, PDC_Pn_RETRY_COUNT n, PDC_Pn_HRESET_COUNT n, PDC_Pn_DIT_COUNT n,
   PDC_Pn_VFAULT_COUNT n])

/-- The soft reset after a lifecycle transition (R587): RWS fields, remap tables, the counters of both dies and the keys go too. -/
def Dev.lifecycleWipe (d : Dev) : Dev :=
  let d := { d with flds := d.flds.filter (fun x => !isRws x.1) }
  let d := (d.mainReset true).modBoot (fun b => { b with stage := min 6 b.stage, token := true })
  let d := forAll powerDieCounters (fun f d => d.set f 0) (hswSnap (hswClrEnergy d))
  let d := d.set SYS_RST_CAUSE_CAUSE 3
  { d with rel := { d.rel with banks := Tab.mapValues (fun x => { x with remap := [] }) BankSt.reset d.rel.banks } }

/-- VSTBY rises first, or has failed: the power die resets, and the main die with it (R575). -/
def powerDiePor (d : Dev) : Dev :=
  let d := { d with flds := d.flds.filter (fun x => fieldDomain x.1 != 0), aon := ⟨[], 0, 0, true⟩, pdc := PdcPart.reset,
                    hsw := HswPart.reset, power := PowerPart.reset }
  (d.mainPor).modBoot (fun b => { b with stage := 0 })

def execPowerDiePor (s : State) : Host.Outcome State Fault Refusal := s.run powerDiePor

/-- VSTBY in range for 1 ms: the power-die POR is released (R578). -/
def execPowerDiePorRelease (s : State) : Host.Outcome State Fault Refusal :=
  s.run (fun d => if d.boot.stage = 0 then d.modBoot (fun b => { b with stage := 1 }) else d)

/-- PORST_N low for 10 µs (R575). -/
def execMainDiePor (s : State) : Host.Outcome State Fault Refusal := s.run Dev.mainPor

/-- SYS_RST.SOFT written (R575). -/
def execSoftReset (s : State) : Host.Outcome State Fault Refusal := s.run (Dev.softReset 1)

/-! ### Start-up -/

/-- All three drivers let go of PORST_N: PGOOD high, VDD_CORE acknowledged, fuses read, the board's rails in range (R578). -/
def porstRelease (d : Dev) : Dev :=
  if d.boot.stage = 4 ∧ d.flag HSW_STAT_PGOOD then
    ((d.otpSense).modBoot (fun b => { b with porst := false, stage := 6 })).bypSync
  else d

def execPorstRelease (s : State) : Host.Outcome State Fault Refusal := s.run porstRelease

/-- The CTL and CORE PLLs lock (R578); the lane groups whose ports hold a Tirrun mode start with their domains (R406). -/
def mainPllLock (d : Dev) : Dev :=
  if d.boot.stage = 6 ∧ !d.boot.porst then (d.modBoot (fun b => { b with stage := 7 })).lanesOn 7 |>.lanesOn 8 else d

def execMainPllLock (s : State) : Host.Outcome State Fault Refusal := s.run mainPllLock

/-- The logic BIST of a core ends, the lowest core not yet tested first: the ROM runs on the first that passes, a core that fails is
unusable (R571, R578). -/
def bootCoreBistDone (k : Nat) (pass : Bool) (d : Dev) : Dev :=
  if d.boot.stage = 7 ∧ ((List.range 8).find? (fun j => !d.boot.failed.testBit j)) = some k then
    if pass then d.modBoot (fun b => { b with core := k, stage := 8 })
    else (markTarget k (d.inc REL_BIST_FAILS_COUNT)).modBoot (fun b => { b with failed := b.failed ||| 2 ^ k })
  else d

def execBootCoreBistDone (k : Fin 8) (pass : Bool) (s : State) : Host.Outcome State Fault Refusal := s.run (bootCoreBistDone k pass)

/-! ### Images -/

/-- The Korwick and owner public keys in flash that match their hashes in OTP (R581, R582). -/
def Dev.flashKey (d : Dev) (l : List DirEntry) (ty : Nat) (hash : List Byte) : Option (List Byte) :=
  match d.flashItem l ty with
  | some k => if sha384 k = hash then some k else none
  | none => none

/-- Whether the lifecycle state accepts an image of a signer (R585). -/
def signerAllowed (lc : Nat) (owner base : Bool) : Bool := if lc = 2 then owner || base else if lc = 4 then false else !owner

/-- An image at a flash offset, where its form is that of R344. -/
def Dev.imageAt (d : Dev) (ofs : Nat) : Option Image :=
  let h := d.flash ofs 192
  let f := fun (a n : Nat) => leNat ((h.drop a).take n)
  if f 0 4 = 0x494E5953 ∧ f 4 2 = 1 ∧ f 8 8 % 64 = 0 ∧ f 16 4 % 64 = 0 then
    some ⟨(f 6 2).testBit 0, f 40 4, f 8 8, f 16 4, f 20 4, f 24 8, f 32 8, ofs + 192⟩
  else none

/-- Whether an image is accepted (R582): its hash, its signature, its signer, its SVN, and no overlap with an image accepted before. -/
def Dev.imageGood (d : Dev) (korwick owner : Option (List Byte)) (accepted : List Image) (x : Image) : Bool :=
  let h := d.flash (x.body - 192) 192
  let key := (if x.owner then owner else korwick).getD []
  sha384 (d.flash x.body x.size) == (h.drop 48).take 48
    && ecdsaVerify key (h.drop 96) (h.take 96)
    && signerAllowed d.lifecycle x.owner ((h.getD 6 0).toNat.testBit 1)
    && (if x.owner then d.boot.otp.svnO else d.boot.otp.svnK) ≤ x.svn
    && d.keyRange x.load x.size
    && accepted.all (fun y => (x.load + x.size ≤ y.load || y.load + y.size ≤ x.load) && x.tmask &&& y.tmask == 0)

/-- The images of a list of entries: the accepted so far and the number rejected; of base images only the first that passes is
taken (R582). -/
def Dev.takeImages (d : Dev) (korwick owner : Option (List Byte)) (base : Bool) : List DirEntry → List Image → Nat → List Image × Nat
  | [], a, n => (a, n)
  | e :: t, a, n =>
    match d.imageAt e.ofs with
    | some x =>
      if d.imageGood korwick owner a x then (if base then (a ++ [x], n) else d.takeImages korwick owner base t (a ++ [x]) n)
      else d.takeImages korwick owner base t a (n + 1)
    | none => d.takeImages korwick owner base t a (n + 1)

/-- An image's body copied to LOAD (R344). -/
def Dev.copyImage (x : Image) (d : Dev) : Dev := (d.putBytes x.load (d.flash x.body x.size)).modSyn (fun y => { y with stale := [] })

/-! ### Lifecycle tokens -/

/-- A transition and the keys that may sign it, of a token (R586). -/
def Dev.tokenSigners (d : Dev) (korwick owner : Option (List Byte)) (target : Nat) (tok : List Byte) : List (List Byte) :=
  let lc := d.lifecycle
  let helper := d.flash (d.get LCS_HELPER_OFS_OFS) 4
  if lc = 0 ∧ target = 1 then (if d.get LCS_HELPER_OFS_OFS ≠ 0 ∧ beNat helper = 0x454E4652 then korwick.toList else [])
  else if lc = 1 ∧ target = 2 then [(tok.drop 16).take 97]
  else if lc = 2 ∧ target = 3 then owner.toList
  else if lc ≠ 4 ∧ target = 4 then korwick.toList ++ owner.toList
  else []

/-- Whether a token applies to the request (R586). -/
def Dev.tokenGood (d : Dev) (korwick owner : Option (List Byte)) (tok : List Byte) : Bool :=
  let target := d.get LCS_LC_REQ_TARGET
  let uid := d.get STN_UID_HI_UID * 2 ^ 32 + d.get STN_UID_LO_UID
  tok.length == 224 && recNat tok 0 4 == 0x4C43544B && recNat tok 4 1 == target && recNat tok 8 8 == uid
    && (d.tokenSigners korwick owner target tok).any (fun k => ecdsaVerify k (tok.drop 128) (tok.take 128))

/-! ### The boot ROM -/

/-- The usable cores, rising (R345). -/
def Dev.usableCores (d : Dev) : List Nat := bitList 8 (d.get SYN_STAT_CORE_OK)

/-- The physical thread of a logical one (R345). -/
def Dev.physical (d : Dev) (n : Nat) : Option Nat := d.usableCores[n / 4]?.map (fun c => 4 * c + n % 4)

/-- A thread of an image starts at ENTRY (R345). -/
def Dev.startThread (x : Image) (status t : Nat) (d : Dev) : Dev :=
  let d := (d.zeroThread t).modThr t (fun y => { y with pc := x.entry / 4 * 4 % 2 ^ 40, evbase := x.evb })
  let d := ((d.wr t 1 (BitVec.ofNat 64 x.load)).wr t 2 (BitVec.ofNat 64 x.size)).wr t 3 (BitVec.ofNat 64 status)
  d.set (SYN_THn_STAT_STATE t) 1

/-- The boot status word (R584). -/
def Dev.bootStatus (d : Dev) : Nat :=
  let b := d.boot
  let lost := b.images.any (fun x => (bitList 32 x.tmask).any (fun n => (d.physical n).isNone))
  d.lifecycle + d.get KEY_STAT_ROOT_OK * 2 ^ 3 + b2n b.fatal * 2 ^ 4 + b2n b.copy * 2 ^ 5 + b2n b.wiped * 2 ^ 6 + b2n b.token * 2 ^ 7
    + d.get SYN_STAT_CORE_OK * 2 ^ 8 + b.core * 2 ^ 16 + b.images.length % 16 * 2 ^ 20 + b.rejects % 16 * 2 ^ 24 + b2n lost * 2 ^ 28

/-- Step 9 (R581): the status word is written and sent, the images start; with none, or after a fatal failure, the ROM's thread halts. The
Enique agent then starts TE and TW from the plan records. -/
def Dev.romEnd (d : Dev) : Dev :=
  let status := d.bootStatus
  let d := (d.set SYS_BOOT_STAT_STATUS status).modBoot (fun b => { b with stage := 10, report := some status, token := false })
  if d.boot.images = [] ∨ d.boot.fatal then d.set (SYN_THn_STAT_STATE (4 * d.boot.core)) 3
  else
    let d := forAll d.boot.images (fun x d => forAll ((bitList 32 x.tmask).filterMap d.physical) (fun t d => d.startThread x status t) d) d
    match (d.directory).bind (fun x => d.flashItem x.2 6) with
    | some r =>
      forAll [0, 1] (fun p d =>
        let v := recNat r (4 * p) 4
        let f := fun (lsb w rst : Nat) => (⟨8 * TRK_PLAN_A p + lsb, w, rst⟩ : Fld)
        let d := ((d.set (f 0 4 0) v).set (f 4 12 1) (v / 2 ^ 4)).set (f 16 1 0) (v / 2 ^ 16)
        seqEnable p ((d.set (f 17 1 0) (v / 2 ^ 17)).set (f 18 14 0) (v / 2 ^ 18))) d
    | none => d

/-- The SVN counters burned at step 8: up to the request, not past the lowest SVN accepted of the signer (R583). -/
def Dev.svnAdvance (d : Dev) : Dev :=
  let low := fun (own : Bool) => (((d.boot.images.filter (fun x => x.owner == own)).map (·.svn)).min?).getD 0
  let k := max d.boot.otp.svnK (min (min 32 (d.get LCS_SVN_REQ_KORWICK)) (low false))
  let o := max d.boot.otp.svnO (min (min 32 (d.get LCS_SVN_REQ_OWNER)) (low true))
  (d.modBoot (fun b => { b with otp := { b.otp with svnK := k, svnO := o } })).otpSense

/-- Steps 8 and 9 (R581, R583, R586): a token that fits the request burns the state fuses, and the lifecycle wipe follows; any other
request is cleared. -/
def Dev.romTail (d : Dev) : Dev :=
  let l := match d.directory with
    | some (_, l) => l
    | none => []
  let korwick := d.flashKey l 1 d.boot.otp.caHash
  let owner := d.flashKey l 3 d.boot.otp.ownerHash
  if d.flag LCS_LC_REQ_VALID then
    let tok := ((ofType l 8).map (fun e => d.flash e.ofs e.len)).find? (fun t => d.tokenGood korwick owner t)
    let target := d.get LCS_LC_REQ_TARGET
    let d := (d.set LCS_LC_REQ_VALID 0).set LCS_LC_REQ_TARGET 0
    match tok with
    | some t =>
      let hash := if target = 2 then sha384 ((t.drop 16).take 97) else d.boot.otp.ownerHash
      (d.modBoot (fun b => { b with otp := { b.otp with lc := target, ownerHash := hash } })).lifecycleWipe
    | none => d.svnAdvance.romEnd
  else d.svnAdvance.romEnd

/-- A failing target of boot BIST, counted (R571, R573): a core unusable, a packet buffer bank unusable, a lane out of service, or fatal. -/
def Dev.bootBistFail (t : Nat) (d : Dev) : Dev :=
  let d := d.inc REL_BIST_FAILS_COUNT
  if t < 8 ∨ (0x20 ≤ t ∧ t < 0x28) then markTarget t d
  else if 0x41 ≤ t ∧ t ≤ 0x48 then
    let p := (t - 0x41) / 4
    d.set (TRK_CTL_LANE_DIS p) (d.get (TRK_CTL_LANE_DIS p) ||| 2 ^ ((t - 0x41) % 4))
  else if 0x49 ≤ t ∧ t ≤ 0x58 then
    let n := (t - 0x49) / 2
    d.set (TCL_CTL_LANE_DIS n) (d.get (TCL_CTL_LANE_DIS n) ||| 2 ^ ((t - 0x49) % 2))
  else d.modBoot (fun b => { b with fatal := true })

/-- The target of boot BIST that tests a bank (R571). -/
def bankTarget (m b : Nat) : Nat := if m = 0 then 0x10 + b else if m = 1 then 0x20 + b else if m = 3 then 0x30 + b else 0x70

/-- The words that memory BIST finds failing, by memory, bank and word, are redirected to spares where they are not yet; the targets
whose banks have more than 8 of them come out (R567, R571). -/
def Dev.bootRemap : List (Nat × Nat × Nat) → Dev → List Nat × Dev
  | [], d => ([], d)
  | (m, b, w) :: t, d =>
    let x := d.bank m b
    if (x.entryOf w).isSome then d.bootRemap t
    else match x.freeEntry with
      | some k => (d.setBank m b { x with remap := x.remap.set k (some w) none }).bootRemap t
      | none => match d.bootRemap t with
        | (l, d) => (bankTarget m b :: l, d)

/-- The boot ROM runs (R581): `ikm` is what enfleurage decodes, `fails` the boot BIST targets that fail, `bad` the words that memory BIST
finds failing. It waits for the DRAM wipe where
an accepted image lies in DRAM. -/
def bootRomStart (ikm : Option (List Byte)) (fails : List Nat) (bad : List (Nat × Nat × Nat)) (d : Dev) : Dev :=
  if d.boot.stage ≠ 8 then d
  else if d.lifecycle = 4 then d.romEnd
  else match d.directory with
    | none => d.romEnd
    | some (copy, l) =>
      let d := enfleurageDone ikm (d.modBoot (fun b => { b with copy := copy }))
      let c := d.boot.otp.ddrCfg
      let d := ((d.set DDR_CFG_GIB c).set DDR_CFG_CH1 (c / 2 ^ 8)).set DDR_CFG_RATE (c / 2 ^ 16)
      let d := ddrEnable d
      let korwick := d.flashKey l 1 d.boot.otp.caHash
      let owner := d.flashKey l 3 d.boot.otp.ownerHash
      let d := d.modKey (fun k => { k with ca := korwick.getD [], cert := (d.flashItem l 2).getD [] })
      let (a, n) := d.takeImages korwick owner true (ofType l 4) [] 0
      let (a, n) := d.takeImages korwick owner false (ofType l 5) a n
      let d := forAll (a.filter (fun x => x.load < 0x8000000000)) (fun x d => d.copyImage x) d
      let (spent, d) := (d.modBoot (fun b => { b with images := a, rejects := n })).bootRemap bad
      let d := forAll (fails ++ spent).eraseDups (fun t d => d.bootBistFail t) d
      if a.any (fun x => 0x8000000000 ≤ x.load) && !d.boot.wiped then d.modBoot (fun b => { b with stage := 9 })
      else (forAll (a.filter (fun x => 0x8000000000 ≤ x.load)) (fun x d => d.copyImage x) d).romTail

def execBootRomStart (ikm : Option (List (BitVec 8))) (fails : List (BitVec 8)) (bad : List (Fin 11 × Fin 32 × BitVec 24)) (s : State) :
    Host.Outcome State Fault Refusal :=
  s.run (bootRomStart ikm (fails.map (·.toNat)) (bad.map (fun x => (x.1.val, x.2.1.val, x.2.2.toNat))))

/-- The DRAM wipe ends: DRAM reads 0, and images that wait for it are copied (R568, R576, R581). -/
def dramWipeDone (d : Dev) : Dev :=
  if !d.flag DDR_STAT_READY || d.boot.wiped then d
  else
    let d := d.dramLost.modBoot (fun b => { b with wiped := true })
    if d.boot.stage = 9 then (forAll (d.boot.images.filter (fun x => 0x8000000000 ≤ x.load)) (fun x d => d.copyImage x) d).romTail
    else d

def execDramWipeDone (s : State) : Host.Outcome State Fault Refusal := s.run dramWipeDone

/-! ### JTAG -/

/-- Whether the lifecycle state opens the debug access of `JTAG_*`; boundary scan is open in every state (R585). -/
def Dev.jtagDebug (d : Dev) : Bool := d.lifecycle == 0 || d.lifecycle == 1 || d.lifecycle == 3

/-! ### The watchdog -/

/-- The TIMEOUT of the register in ms; 0 acts as 1 (R589). -/
def Dev.wdogTimeout (d : Dev) : Nat := max 1 (d.get SYS_WDOG_CTL_TIMEOUT)

/-- SYS_WDOG_CTL written: EN from 0 to 1 starts the count with the TIMEOUT written (R577). -/
def wdogCtlWrite (en : Bool) (timeout : Nat) (d : Dev) : Dev :=
  let was := d.flag SYS_WDOG_CTL_EN
  let d := (d.setB SYS_WDOG_CTL_EN en).set SYS_WDOG_CTL_TIMEOUT timeout
  if !en then d.modBoot (fun b => { b with wdog := 0 })
  else if was then d else d.modBoot (fun b => { b with wdog := d.wdogTimeout })

def execWdogCtlWrite (en : Bool) (timeout : BitVec 16) (s : State) : Host.Outcome State Fault Refusal :=
  s.run (wdogCtlWrite en timeout.toNat)

/-- SYS_WDOG_KICK written: 0x5A5A restarts the count with the TIMEOUT of now, any other value counts as expiry (R577). -/
def wdogKick (v : Nat) (d : Dev) : Dev :=
  if !d.flag SYS_WDOG_CTL_EN then d
  else if v = 0x5A5A then d.modBoot (fun b => { b with wdog := d.wdogTimeout }) else d.softReset 2

def execWdogKick (v : Word) (s : State) : Host.Outcome State Fault Refusal := s.run (wdogKick v.toNat)

/-- TIMEOUT ms without a kick: a soft reset with cause WDOG (R577). -/
def execWdogExpire (s : State) : Host.Outcome State Fault Refusal :=
  s.run (fun d => if d.flag SYS_WDOG_CTL_EN then d.softReset 2 else d)

end Sys2Proof.Machine
end

