-- ==== Sys2Proof/Machine/Enique.lean ====
section
/-! DEFINITION. The Enique agent (R121 to R133): the messages it sends, its answers, and the rows of the messages it
receives. A message's body is named by its fields; their layout is free (Config.eniqueBody). -/

namespace Sys2Proof.Machine

/-! ### Sending -/

/-- The 8-byte header and the body of a message (R122). -/
def EnqMsg.bytes (m : EnqMsg) (nbr : Bool) : List Byte :=
  let b := Sys2Proof.Config.eniqueBody m.code m.body
  natBE 1 m.code ++ natBE 1 (b2n nbr + 2 * b2n m.last) ++ natBE 2 b.length ++ natBE 4 m.xid ++ b

/-- The tunnel header of a neighbour packet (R123). -/
def nbrHdr (len : Nat) : THdr := ⟨1, 0, false, 0xFFF, 0xFFF, 0, 0, false, false, 0, len, false, 0, 0⟩

/-- A neighbour packet on a port in ADMIT or RUN (R123). -/
def Dev.sendNbr (m : EnqMsg) (p : Nat) (d : Dev) : Dev :=
  if d.carriesCtl p then
    let b := m.bytes true
    d.emit 20 p (d.get TNL_CTL_CTRL_SQ) (nbrHdr b.length) b
  else d

/-- Whether the hub speaks to the line manager: it has a station number (R123), and the CTRL tunnel of its own label 0 carries its
messages (R122, R145). -/
def Dev.agentUp (d : Dev) : Bool := d.flag STN_ID_VALID && d.ctxRun 0 && d.orig 0 && d.get (CTX_W0_CLASS 0) == 0

/-- The messages that are repeated until they are answered (R125); FENCED to a neighbour has no answer. The spec does not say which
message answers which: here ASSIGN answers HELLO and JOIN, ALLOT_LOAD answers ASSIGNED and EPOCH_REPORT, ADMIT answers EPOCH_REPORT and
FENCED, and nothing answers ADMIT_DONE and SEG_REPORT, which go out until their loss is reported (DESIGN CHOICE, log 30). -/
def wantsAnswer (m : EnqMsg) : Bool := [1, 2, 4, 6, 8, 9, 0xC].contains m.code && (m.port.isNone || m.code != 9)

/-- A message handed to the tunnel to the line manager. -/
def Dev.sendMsg (m : EnqMsg) (d : Dev) : Dev := d.offer ⟨0, 20, m.bytes false, none, 0, none, false⟩

/-- A message that has gone out waits for its answer, where one is to come. -/
def Dev.awaitAnswer (m : EnqMsg) (d : Dev) : Dev :=
  d.modEnq (fun e => if wantsAnswer m && !e.waiting.any (fun x => x.1 == m) then { e with waiting := e.waiting ++ [(m, d.power.osc)] } else e)

/-- Whether a message waits to go out, or has gone out and waits for its answer. -/
def Dev.pendingMsg (d : Dev) (f : EnqMsg → Bool) : Bool := (d.enq.waiting.map (·.1) ++ d.enq.owe).any f

/-- One message of the agent goes out, or stays owed while the way to the line manager is not open. A REFUSE of a hub without a station
number goes out as a neighbour packet on every port in ADMIT or RUN (R123). While TNL_CTL.EN is 0 what goes to a neighbour waits too
(R175). -/
def Dev.flushMsg (m : EnqMsg) (d : Dev) : Dev :=
  let wait := d.modEnq (fun e => if e.owe.contains m then e else { e with owe := e.owe ++ [m] })
  match m.port with
  | some p => if d.flag TNL_CTL_EN then (d.sendNbr m p).awaitAnswer m else wait
  | none =>
    if d.agentUp then (d.sendMsg m).awaitAnswer m
    else if m.code = 0xF ∧ !d.flag STN_ID_VALID ∧ d.flag TNL_CTL_EN then
      forAll (ports.filter d.carriesCtl) (fun p d => d.sendNbr m p) d
    else wait

/-- The answer to one ADMIT once its ports have all reached RUN (R128). -/
def Dev.admitEnd (a : Nat × Nat × Nat) (d : Dev) : Dev :=
  if (bitList 10 a.2.2).all (fun p => d.linkState p == 4) then
    let m : EnqMsg := ⟨8, false, a.2.1, [bitSet (ports.filter (fun p => d.linkState p == 4))], none⟩
    d.modEnq (fun e => { e with admits := e.admits.filter (· != a), owe := e.owe ++ [m]
                                answers := e.answers ++ [((a.1, a.2.1), some m)] })
  else d

/-- The answers to the ADMITs that are complete (R128). -/
def Dev.admitDone (d : Dev) : Dev := forAll d.enq.admits (fun a d => d.admitEnd a) d

/-- What the agent owes goes out. -/
def Dev.flushAgent (d : Dev) : Dev :=
  let d := d.admitDone
  forAll d.enq.owe (fun m d => d.flushMsg m) (d.modEnq (fun e => { e with owe := [] }))

/-! ### Answers -/

/-- An answer owed, under the transaction of the message it answers (R122, R124). DESIGN CHOICE (log entry 30): LASTFRAG is 0 in the hub's
own messages, which are not fragmented. -/
def Dev.answerMsg (d : Dev) (origin xid code : Nat) (body : List Nat) : Dev :=
  let m : EnqMsg := ⟨code, false, xid, body, none⟩
  d.modEnq (fun e => { e with owe := e.owe ++ [m], answers := e.answers ++ [((origin, xid), some m)] })

/-- REFUSE, with its reason: 0 CODE, 1 ROLE, 2 DEPTH, 3 EPOCH_STALE, 4 FENCED, 5 BUSY (R125; the numbers are the model's). The spec
gives no condition for the reasons FENCED and BUSY, and they are never sent (DESIGN CHOICE, log 30). -/
def Dev.refuse (d : Dev) (origin xid reason : Nat) : Dev := d.answerMsg origin xid 0xF [reason]

/-- A message acted on once; a repeat is given the first answer again (R124). -/
def Dev.once (d : Dev) (origin xid : Nat) (f : Dev → Dev) : Dev :=
  let d := match d.enq.answers.find? (fun a => a.1 == (origin, xid)) with
    | some (_, some m) => d.modEnq (fun e => { e with owe := e.owe ++ [m] })
    | some (_, none) => d
    | none => if d.enq.admits.any (fun a => a.1 == origin && a.2.1 == xid) then d else f d
  d.flushAgent

/-- Messages that wait for an answer of a kind are answered. -/
def Dev.answered (d : Dev) (f : EnqMsg → Bool) : Dev := d.modEnq (fun e => { e with waiting := e.waiting.filter (fun x => !f x.1) })

/-! ### The station number -/

/-- A write of STN_ID; where it changes the word, a CAP block goes out on every port in ADMIT or RUN (R117). -/
def Dev.putStn (d : Dev) (num role depth : Nat) (valid : Bool) : Dev :=
  let same := d.get STN_ID_NUM == num && d.get STN_ID_ROLE == role && d.get STN_ID_DEPTH == depth && d.flag STN_ID_VALID == valid
  let d := (((d.set STN_ID_NUM num).set STN_ID_ROLE role).set STN_ID_DEPTH depth).setB STN_ID_VALID valid
  if same then d else forAll (ports.filter d.carriesCtl) (fun p d => d.sendCap p (d.ownCap p 0)) d

/-- A hub whose ROLE reads SPUR holds its trunk ports at EN = 0 (R22, R133). -/
def Dev.spurTrunks (d : Dev) : Dev := if d.get STN_ID_ROLE = 1 then seqDisable 1 (seqDisable 0 d) else d

def stnIdWrite (v : Nat) (d : Dev) : Dev := (d.putStn (bitsOf v 0 12) (bitsOf v 13 2) (bitsOf v 16 2) (v.testBit 12)).spurTrunks

def execStnIdWrite (v : Word) (s : State) : Host.Outcome State Fault Refusal := s.run (fun d => stnIdWrite v.toNat (d.noteWrite STN_ID_A))

/-- ASSIGN for this hub (R125, R127, R133); a write of STN_ID in the same cycle stands (R14). -/
def Dev.assigned (d : Dev) (origin xid num role depth : Nat) : Dev :=
  if role = 1 ∧ ([0, 1].any (fun p => 2 ≤ d.seqState p)) then d.refuse origin xid 1
  else if role = 1 ∧ 3 < depth then d.refuse origin xid 2
  else
    let d := if d.writtenNow STN_ID_NUM then d
      else
        let d := d.putStn (d.get STN_ID_NUM) (d.get STN_ID_ROLE) (d.get STN_ID_DEPTH) false
        ((d.putStn num role depth false).putStn num role depth true).spurTrunks
    let quiet := d.enq.silent
    let d := (d.answered (fun m => m.code == 1)).modEnq (fun e => { e with slow := false, silent := false })
    let d := d.answerMsg origin xid 4 [num, d.get ACD_EPOCH_EPOCH]
    if quiet then d.segReport 0 4 else d

/-- ASSIGN: for this hub, or passed on to the newcomer whose HELLO this hub relayed (R125, R127). RING changes nothing in the hub it is
for: the table has it write STN_ID alone (DESIGN CHOICE, log 30). -/
def assignRx (relay : Option Nat) (origin xid num role depth : Nat) (ring : Bool) (d : Dev) : Dev :=
  match relay with
  | some p =>
    let d := d.answered (fun m => m.code == 2 && m.body.getLast? == some p)
    d.sendNbr ⟨3, false, xid, [num, role, depth, b2n ring], some p⟩ p
  | none => d.once origin xid (fun d => d.assigned origin xid num role depth)

def execAssignRx (relay : Option (Fin 10)) (origin : BitVec 12) (xid : Word) (num : BitVec 12) (role : Fin 4) (depth : Byte)
    (ring : Bool) (s : State) : Host.Outcome State Fault Refusal :=
  s.runOn 3 (assignRx (relay.map Fin.val) origin.toNat xid.toNat num.toNat role depth.toNat ring)

/-! ### Neighbours -/

/-- HELLO of a newcomer: relayed as JOIN, once until its answer comes, by a hub in RUN on some port, not fenced and numbered
(R125, R130). -/
def helloRx (p : Nat) (body : List Nat) (d : Dev) : Dev :=
  let open_ := ports.any (fun k => d.linkState k == 4)
  if d.carriesCtl p && open_ && !d.flag STN_STAT_FENCED && d.flag STN_ID_VALID
      && !d.pendingMsg (fun m => m.code == 2 && m.body.getLast? == some p) then
    (d.owe 2 (body ++ [d.get STN_ID_NUM, p]) none).flushAgent
  else d

def execHelloRx (p : Fin 10) (uid : DWord) (hint : BitVec 12) (line epoch : Word) (port depth : Byte) (s : State) :
    Host.Outcome State Fault Refusal :=
  s.runOn 3 (helloRx p [uid.toNat, hint.toNat, line.toNat, epoch.toNat, port.toNat, depth.toNat])

/-- FENCED of a neighbour (R121). -/
def fencedMsgRx (p : Nat) (d : Dev) : Dev := (d.unadmit p).flushAgent

def execFencedMsgRx (p : Fin 10) (s : State) : Host.Outcome State Fault Refusal := s.runOn 3 (fencedMsgRx p)

/-! ### Messages of the line manager -/

/-- The staged allotment and ACD_EPOCH committed as one NOW accord: in the lowest free slot, by the agent, under the next ID (R125, R281, R289);
refused as any NOW accord is, with no free slot but the last or with the engine off (R281, R311). A word that may not be staged aborts
it (R283). -/
def Dev.commitImage (d : Dev) (epoch : Nat) : Dev :=
  match d.localSlot with
  | none => d.abortReport 0 0 2 0xFF
  | some n =>
    let d := (d.inc ACD_SERIAL_SERIAL).openSlot n 0 0 0 d.nextId { AccSlot.reset with ace := true }
    let d := d.slotState n 1 0
    let d := forAll (d.enq.image ++ [(ACD_EPOCH_A, epoch)]) (fun e d => if d.get (ACD_SLOTn_STAT_STATE n) = 1 then d.stageReg n e.1 e.2 else d) d
    if d.get (ACD_SLOTn_STAT_STATE n) = 1 then d.commitSlot n else d

/-- Whether the image's accord has come to its commit point, which makes its epoch the hub's (R289, R290). -/
def Dev.imageTaken (d : Dev) (epoch : Nat) : Bool :=
  match d.localSlot with
  | none => false
  | some n => (d.commitImage epoch).get (ACD_SLOTn_STAT_STATE n) == 4

/-- A fragment of an allotment: staged; the last one commits the image, and the epoch is reported (R125). Each fragment has a
transaction of its own, and its repeat is not staged again (R124; DEDUCED, log 30). -/
def allotLoadRx (origin xid epoch : Nat) (image : List (Nat × Nat)) (last : Bool) (d : Dev) : Dev :=
  d.once origin xid (fun d =>
    let d := d.modEnq (fun e => { e with image := e.image ++ image })
    if last then
      let now := if d.imageTaken epoch then epoch else d.get ACD_EPOCH_EPOCH
      let d := ((d.commitImage epoch).modEnq (fun e => { e with image := [] })).answered (fun m => m.code == 4 || m.code == 6)
      d.answerMsg origin xid 6 [now, d.get STN_STAT_FENCED]
    else d.modEnq (fun e => { e with answers := e.answers ++ [((origin, xid), none)] }))

def execAllotLoadRx (origin : BitVec 12) (xid epoch : Word) (image : List (Nat × Nat)) (last : Bool) (s : State) :
    Host.Outcome State Fault Refusal :=
  s.runOn 3 (allotLoadRx origin.toNat xid.toNat epoch.toNat image last)

/-- ADMIT (R128). The packets that the fence held enter once the ports are admitted (R163). -/
def admitMsgRx (origin xid mask epoch : Nat) (d : Dev) : Dev :=
  d.once origin xid (fun d =>
    let d := d.answered (fun m => m.code == 6 || m.code == 9)
    if epoch = d.get ACD_EPOCH_EPOCH then
      let d := (forAll (bitList 10 mask) (fun p d => linkAdmitWrite p d) (d.set STN_STAT_FENCED 0)).retryWaits
      d.modEnq (fun e => { e with admits := e.admits ++ [(origin, xid, mask)] })
    else d.refuse origin xid 3)

def execAdmitMsgRx (origin : BitVec 12) (xid : Word) (mask : BitVec 10) (epoch : Word) (s : State) :
    Host.Outcome State Fault Refusal :=
  s.runOn 3 (admitMsgRx origin.toNat xid.toNat mask.toNat epoch.toNat)

/-- LEAVE (R131). The answer goes out as the last message of the hub under its number, before VALID is cleared (R123; DEDUCED, log
30). -/
def leaveRx (origin xid : Nat) (d : Dev) : Dev :=
  d.once origin xid (fun d =>
    let d := forAll ports (fun p d => d.unadmit p) d
    let d := (d.answerMsg origin xid 0xC (d.segBody 0 5)).flushAgent
    bypassInlineWrite false (d.putStn (d.get STN_ID_NUM) (d.get STN_ID_ROLE) (d.get STN_ID_DEPTH) false))

def execLeaveRx (origin : BitVec 12) (xid : Word) (s : State) : Host.Outcome State Fault Refusal :=
  s.runOn 3 (leaveRx origin.toNat xid.toNat)

/-- SEG_REQ: a mode request on a port (R125, R134). -/
def segReqRx (origin xid p plan : Nat) (ring byp : Bool) (d : Dev) : Dev :=
  d.once origin xid (fun d =>
    let d := modeReqGo p plan ring byp d
    d.answerMsg origin xid 0xC (d.segBody p 5))

def execSegReqRx (origin : BitVec 12) (xid : Word) (p : Fin 10) (plan : Fin 16) (ring byp : Bool) (s : State) :
    Host.Outcome State Fault Refusal :=
  s.runOn 3 (segReqRx origin.toNat xid.toNat p plan ring byp)

/-- Registers read over the bus, one after another, by the agent: an engine in the records of R337 (DESIGN CHOICE, log 30). -/
def Dev.readList : List Nat → Dev → List Nat × Dev
  | [], d => ([], d)
  | a :: t, d =>
    let (v, d) := d.busRead 0x1F a
    let (l, d) := d.readList t
    (v :: l, d)

/-- STATUS_QUERY: the values of the registers it lists (R29, R40, R125). -/
def statusQueryRx (origin xid : Nat) (regs : List Nat) (d : Dev) : Dev :=
  d.once origin xid (fun d =>
    let (l, d) := d.readList regs
    d.answerMsg origin xid 0xE l)

def execStatusQueryRx (origin : BitVec 12) (xid : Word) (regs : List Nat) (s : State) : Host.Outcome State Fault Refusal :=
  s.runOn 3 (statusQueryRx origin.toNat xid.toNat regs)

/-- A message of another code (R125). -/
def execUnknownEniqueRx (origin : BitVec 12) (xid : Word) (s : State) : Host.Outcome State Fault Refusal :=
  s.runOn 3 (fun d => d.once origin.toNat xid.toNat (fun d => d.refuse origin.toNat xid.toNat 0))

/-! ### Repeats -/

/-- HELLO of a hub without a number on each port in ADMIT or RUN: unit identifier, hint, line, epoch, port, depth (R124, R125).
The hint, the line and the epoch are those of the flash station record (R580); without one the epoch is the current one (DEDUCED, log
30). -/
def Dev.hello (d : Dev) : Dev :=
  forAll (ports.filter d.carriesCtl) (fun p d =>
    if d.pendingMsg (fun m => m.code == 1 && m.port == some p) then d
    else
      let (stn, line, epoch) := d.stationHint
      d.owe 1 [d.uid, stn, line, epoch, p, d.get STN_ID_DEPTH] (some p)) d

/-- The repeat interval of a message passes: the messages of its code go out again; the loss of one that first went out 1 s ago or
earlier is reported (R124). The spec gives that SEG_REPORT no contents: here port 15, event 6, the code that was lost, and zeros (DESIGN
CHOICE, log 30). -/
def eniqueRepeat (code : Nat) (d : Dev) : Dev :=
  if code = 1 then
    if d.flag STN_ID_VALID || d.get STN_ID_ROLE == 2 then d
    else
      (forAll (d.enq.waiting.filter (fun x => x.1.code == 1)) (fun x d => d.flushMsg x.1) d).hello.flushAgent
  else
    let lost := fun (x : EnqMsg × Nat) => x.1.code == code && Decidable.decide (x.2 + 500000000 ≤ d.power.osc)
    let gone := d.enq.waiting.filter lost
    let again := d.enq.waiting.filter (fun x => x.1.code == code && !lost x)
    let d := d.modEnq (fun e => { e with waiting := e.waiting.filter (fun x => !lost x) })
    let d := forAll gone (fun _ d => d.owe 0xC [15, 6, code, 0, 0, 0] none) d
    (forAll again (fun x d => d.flushMsg x.1) d).flushAgent

def execEniqueRepeat (code : Fin 16) (s : State) : Host.Outcome State Fault Refusal := s.runOn 3 (eniqueRepeat code)

/-- 5 s without a relay of HELLO (R124). -/
def execHelloSilence (s : State) : Host.Outcome State Fault Refusal :=
  s.runOn 3 (fun d => if d.flag STN_ID_VALID then d else d.modEnq (fun e => { e with slow := true, silent := true }))

end Sys2Proof.Machine
end

