-- ==== Sys2Proof/Machine/Writes.lean ====
section
/-! DEFINITION. Register writes as they act in their domains (R10, R17, R20, R39): fields by access code, what a block does beside
storing the value, command registers of the indirect windows (R16), reads over the bus (R7, R29, R38, R40), WCMD (R367), the AON
queue and the bridge (R28, R29). -/

namespace Sys2Proof.Machine

/-! ### Fields by access code -/

/-- A word written into the fields of its register: RW and RWS take the value, W1C clears where 1; RO ignores it, WO and W1S act
elsewhere (R10, R11). A flag that the device set in the same cycle stays 1 (R12). -/
def Dev.putWord (h : Hit) (a v : Nat) (d : Dev) : Dev :=
  forAll h.rd.flds (fun f d =>
    let x := heldLow h.rd.name v / 2 ^ f.lsb % 2 ^ f.w
    let g := fieldAt a f
    match f.acc with
    | .rw => d.set g x
    | .rws => d.set g x
    | .w1c => if f.w = 1 then (if x = 1 then d.clearFlag g else d) else d.set g (d.get g - (d.get g &&& x))
    | .ro => d
    | .wo => d
    | .w1s => d) d

/-- Whether a register takes writes now (R178, R209, R241, R272, R350, R404, R437, R451, R574). -/
def Dev.takesWrite (h : Hit) (d : Dev) : Bool :=
  match h.rd.name with
  | .TNL_TMT_SEED => !d.flag TNL_CTL_EN
  | .TNL_RS_BASE => !d.flag TNL_CTL_EN
  | .TNL_RS_SIZE => !d.flag TNL_CTL_EN
  | .SWC_SHARED_MIN => !d.flag SWC_CTL_EN
  | .SWC_HOLD_MAX => !d.flag SWC_CTL_EN
  | .SWC_STAGE => !d.flag SWC_CTL_EN
  | .SWC_SPILL_BASE => !d.flag SWC_CTL_EN
  | .SWC_SPILL_SIZE => !d.flag SWC_CTL_EN
  | .SCH_GATEp_CYCb => !d.bankLocked h.i h.j
  | .SCH_GATEp_OFSb => !d.bankLocked h.i h.j
  | .SIL_BASE => !d.flag SIL_CTL_EN
  | .SIL_SIZE => !d.flag SIL_CTL_EN
  | .STO_DW_BASE => !d.flag STO_CTL_EN
  | .STO_DW_SIZE => !d.flag STO_CTL_EN
  | .STO_WORK_BASE => !d.flag STO_CTL_EN
  | .SYN_PQq_BASE => !d.flag (SYN_PQq_CFG_EN h.i)
  | .DSO_CTL => d.dso 0 == 0 && d.dso 1 == 0
  | .DSO_Dn_HTIM0 => d.dso h.i == 0
  | .DSO_Dn_HTIM1 => d.dso h.i == 0
  | .DSO_Dn_VTIM0 => d.dso h.i == 0
  | .DSO_Dn_VTIM1 => d.dso h.i == 0
  | .DSO_Dn_PCLK => d.dso h.i == 0
  | .DDR_CFG => !d.flag DDR_CTL_EN
  | _ => true

/-! ### What the blocks do with a write -/

/-- The port a register of the TRK block belongs to: 0 TE, 1 TW, 2 to 9 C0 to C7. -/
def trkPort (a : Nat) : Nat :=
  let o := a % 0x100000
  if o < 0x80000 then o / 0x10000 else 2 + (o - 0x80000) / 0x10000

/-- Writes of the TRK block (R61, R67, R101, R109, R117, R134, R429). Of ADMIT and FAIL written 1 together only FAIL acts, where the link
can fail (R109; DEDUCED, log entry 106). -/
def Dev.writeTrk (h : Hit) (a v : Nat) (d : Dev) : Dev :=
  let p := trkPort a
  match h.rd.name with
  | .TRK_CTL =>
    let d := d.set (TRK_CTL_LANE_DIS p) (v / 2 ^ 8)
    let d := if v.testBit 0 then seqEnable p d else seqDisable p d
    if v.testBit 1 then trkRetrain p d else d
  | .TRK_BYP_CTL => bypassInlineWrite (v.testBit 0) d
  | .LNK_CTL =>
    let d := (d.putRing p (v.testBit 0)).setB (LNK_CTL_AUTH_REQ p) (v.testBit 2 || d.lifecycle == 2)
    let d := if v.testBit 1 && !(v.testBit 3 && d.linkUp p) then linkAdmitWrite p d else if v.testBit 1 then d else d.unadmit p
    if v.testBit 3 then linkFailWrite p d else d
  | .STN_ID => stnIdWrite v d
  | .STN_STAT => if v.testBit 0 then fenceClearWrite d else d
  | .LNK_MREQ => if v.testBit 8 then modeReqGo p (v % 16) (v.testBit 4) (v.testBit 5) d else d.putWord h a v
  | .TCL_CTL =>
    let n := p - 2
    let was := d.flag (TCL_CTL_EN n)
    let d := d.putWord h a v
    let d := if !v.testBit 0 then tclDisable p d
      else if !was && (d.pc n).lanes && d.get (PDC_Pn_STAT_ALT n) == 2 then d.startLanes n else d
    if v.testBit 2 then tclRestep p d else d
  | _ => d.putWord h a v

/-- Writes of the TNL block (R153, R156, R175 to R178). -/
def Dev.writeTnl (h : Hit) (a v : Nat) (d : Dev) : Dev :=
  let hash := fun (d : Dev) =>
    d.set TNL_HASH_BUCKET_BUCKET (tmtBucket (d.get TNL_HASH_KEY1_KEY * 2 ^ 32 + d.get TNL_HASH_KEY0_KEY) (d.get TNL_TMT_SEED_SEED))
  match h.rd.name with
  | .TNL_CTL =>
    let was := d.flag TNL_CTL_EN
    let d := (d.putWord h a v).setB TNL_STAT_RUNNING (v.testBit 0)
    if !was && d.flag TNL_CTL_EN then d.retryWaits else d
  | .TNL_TMT_SEED => hash (d.putWord h a v)
  | .TNL_HASH_KEY0 => hash (d.putWord h a v)
  | .TNL_HASH_KEY1 => hash (d.putWord h a v)
  | .TNL_CTX_CMD =>
    match v % 8 with
    | 1 => ctxRead d
    | 2 => ctxWrite d
    | 3 => ctxEnable d
    | 4 => ctxDisable d
    | 5 => ctxClrcnt d
    | _ => d.winNone TNL_CTX_RES_DONE (some TNL_CTX_RES_ERR)
  | _ => d.putWord h a v

/-- Writes of the SWC block (R206, R211). -/
def Dev.writeSwc (h : Hit) (a v : Nat) (d : Dev) : Dev :=
  match h.rd.name with
  | .SWC_Q_CMD =>
    match v % 4 with
    | 1 => swcQRead d
    | 2 => swcQWrite d
    | 3 => swcQClrcnt d
    | _ => d.winNone SWC_Q_RES_DONE (some SWC_Q_RES_ERR)
  | .SWC_Q_IDX => d.putWord h a v
  | .SWC_Q_DATAk => d.putWord h a v
  | _ => (d.putWord h a v).syncPools

/-- Writes of the SIL block (R239, R241). -/
def Dev.writeSil (h : Hit) (a v : Nat) (d : Dev) : Dev :=
  match h.rd.name with
  | .SIL_CTL => (d.putWord h a v).setB SIL_STAT_RUNNING (v.testBit 0)
  | .SIL_RD => silRdWrite v d
  | _ => d.putWord h a v

/-- Writes of the TMB block (R215 to R217, R222, R224, R230, R232, R243 to R245). A changed REFSEL makes the PLL relock. -/
def Dev.writeTmb (h : Hit) (a v : Nat) (d : Dev) : Dev :=
  match h.rd.name with
  | .TMB_CLK_CTL => if d.get TMB_CLK_CTL_REFSEL = v % 4 then d else (d.putWord h a v).set TMB_CLK_CTL_PLL_LOCK 0
  | .TMB_SNAP => if v.testBit 0 then tbSnapshot d else d
  | .TMB_LOAD_CMD => if v.testBit 8 then tbLoad (v % 4) d else d
  | .TMB_SRV_CTL =>
    let was := d.flag TMB_SRV_CTL_EN
    let d := (d.setB TMB_SRV_CTL_REF (v.testBit 1)).set TMB_SRV_CTL_ALT (v / 2 ^ 8)
    let d := servoSrcWrite (v / 2 ^ 4 % 16) d
    let d := if v.testBit 0 then (if was then d else servoEnable d) else (if was then servoDisable d else d)
    if v.testBit 2 then servoReacq d else d
  | .TMB_TBn_INCR_NS => tbIncrWrite h.i false v d
  | .TMB_TBn_INCR_FRAC => tbIncrWrite h.i true v d
  | .TMB_TBn_PADJ => tbPhaseSlew h.i v d
  | .TIO_CFGk => tioCfgWrite h.i v d
  | .TIO_EV_PUSH =>
    let k := v % 16
    if v / 2 ^ 4 % 8 = 5 then tioPushClear k d else tioPush (v / 2 ^ 4 % 8) k (v / 2 ^ 8) d
  | .TIO_CAP_SEL => (d.putWord h a v).showCap
  | .TIO_CAP_POP => if v.testBit 0 then tioCapPop d else d
  | _ => d.putWord h a v

/-- Writes of the SCH block (R257, R264, R267 to R269, R273 to R278). -/
def Dev.writeSch (h : Hit) (a v : Nat) (d : Dev) : Dev :=
  match h.rd.name with
  | .SCH_CTL => (d.putWord h a v).setB SCH_STAT_RUNNING (v.testBit 0)
  | .SCH_GW_CMD =>
    match v % 4 with
    | 1 => gwRead d
    | 2 => gwWrite d
    | _ => d.winNone SCH_GW_RES_DONE (some SCH_GW_RES_ERR)
  | .SCH_QS_CMD =>
    match v % 4 with
    | 1 => qsRead d
    | 3 => qsClrcnt d
    | _ => d.winNone SCH_QS_RES_DONE none
  | .SCH_PS_CMD =>
    match v % 4 with
    | 1 => psRead d
    | 3 => psClrcnt d
    | _ => d.winNone SCH_PS_RES_DONE none
  | _ => d.withConfig [a] (fun d => d.putWord h a v)

/-- Writes of the ACD block: a plain store to ACD_EPOCH is refused (R294). -/
def Dev.writeAcd (h : Hit) (a v : Nat) (d : Dev) : Dev :=
  match h.rd.name with
  | .ACD_EPOCH => epochStore d
  | _ => d.putWord h a v

/-- Writes of the SYN block (R319, R336, R347, R348, R350, R351). -/
def Dev.writeSyn (h : Hit) (a v : Nat) (d : Dev) : Dev :=
  match h.rd.name with
  | .SYN_THn_CTL =>
    let d := if v.testBit 0 then threadStart h.i d else d
    let d := if v.testBit 1 then threadStop h.i d else d
    if v.testBit 2 then threadReset h.i d else d
  | .SYN_EVQq_CFG => evqCfgWrite h.i v d
  | .SYN_EVQq_RD => evqRdWrite h.i v d
  | .SYN_PQq_CFG => pqCfgWrite h.i v d
  | .SYN_PERF_IDX => perfSnapshot v d
  | _ => d.putWord h a v

/-- Writes of the ETH block (R376, R385, R388, R390). A port disabled drops its link. -/
def Dev.writeEth (h : Hit) (a v : Nat) (e : ActEnv) (d : Dev) : Dev :=
  let n := h.i
  match h.rd.name with
  | .ETH_CTL =>
    let mode := v / 2 % 8
    let d := if d.get (ETH_CTL_MODE n) = mode then d else ethModeWrite n mode e.seen d
    (if v.testBit 0 then d else ethLinkDown n e.seen d).putWord h a v
  | .ETH_HTX_CFG =>
    let was := d.flag (ETH_HTX_CFG_EN n)
    let d := d.putWord h a v
    if !was && d.flag (ETH_HTX_CFG_EN n) then (d.set (ETH_HTX_WR_IDX n) 0).set (ETH_HTX_RD_IDX n) 0 else d
  | .ETH_HTX_WR => ethHtxWrWrite n v d
  | .ETH_TSF_POP => if v.testBit 0 then ethTsfPop n d else d
  | _ => d.putWord h a v

/-- Writes of the STO block (R396, R398). -/
def Dev.writeSto (h : Hit) (a v : Nat) (d : Dev) : Dev :=
  match h.rd.name with
  | .STO_CTL =>
    forAll ((List.range 2).filter (fun n => d.flag (STO_Sn_CTL_EN n) && !(d.drive n).retry)) driveEnable (d.putWord h a v)
  | .STO_Sn_CTL =>
    let was := d.flag (STO_Sn_CTL_EN h.i)
    let d := d.putWord h a v
    if v.testBit 0 then (if was then d else driveEnable h.i d) else driveDisable h.i d
  | .STO_Sn_QPk => stoBindingWrite h.i h.j v d
  | _ => d.putWord h a v

/-- Writes of the PDC block (R417, R432, R433). -/
def Dev.writePdc (h : Hit) (a v : Nat) (d : Dev) : Dev :=
  let n := h.i
  match h.rd.name with
  | .PDC_CTL => d.pdcCtl v
  | .PDC_NODE => pdcNodeWrite (v % 2 ^ 16) d
  | .PDC_Pn_CFG => (d.putWord h a v).pdcEnabled n
  | .PDC_Pn_CMD =>
    match v % 16 with
    | 1 => pdcSendCaps n d
    | 2 => d.swapCmd n 2
    | 3 => d.swapCmd n 3
    | 4 => d.swapCmd n 4
    | 5 => pdcHardReset n d
    | 6 => pdcExitAlt n d
    | 7 => d.pdcCmd n (pdcDisable n)
    | _ => d
  | _ => d.putWord h a v

/-- Writes of the DSO block (R437, R445, R451); GO written 0 may let an engine enter PSR (R437). -/
def Dev.writeDso (h : Hit) (a v : Nat) (e : ActEnv) (d : Dev) : Dev :=
  match h.rd.name with
  | .DSO_CTL => (d.putWord h a v).syncLock
  | .DSO_Dn_CTL =>
    let n := h.i
    let was := d.get (DSO_Dn_CTL_EN n)
    let d := ((d.putWord h a v).set (DSO_Dn_CTL_EN n) was).syncLock
    if v.testBit 0 then dsoEnable n e.seen d else dsoDisable n d
  | .DSO_Dn_COMMIT => ((d.putWord h a v).enterPsr 0).enterPsr 1
  | .DSO_IN_REQ => dsoRefreshReq (v % 1024) (v / 2 ^ 12 % 4) d
  | _ => d.putWord h a v

/-- Writes of the USB block (R461, R469, R470, R473, R477, R480, R486). -/
def Dev.writeUsb (h : Hit) (a v : Nat) (d : Dev) : Dev :=
  match h.rd.name with
  | .USB_CTL =>
    let d := d.putWord h a v
    let d := if v.testBit 0 then d else usbDisconnect (d.flag USB_STAT_VBUS) d
    if v.testBit 3 then usbWakeWrite d else d
  | .USB_CTRL_CMD =>
    let tag := v / 2 ^ 8 % 256
    match v % 4 with
    | 1 => ctrlAck tag d
    | 2 => ctrlStall tag d
    | 3 => ctrlDataIn tag (v / 2 ^ 16 % 2 ^ 11) d
    | _ => d
  | .USB_GWg_CFG => d.withConfig [a] (fun d => d.putWord h a v)
  | .USB_NOTE_PUSH => if v.testBit 0 then notePush d else d
  | .USB_HPp => if v.testBit 8 then (d.putWord h a v).portEmpty h.i else d.putWord h a v
  | .AUD_CTL =>
    let d := d.putWord h a v
    if v.testBit 0 then d else d.audOff
  | _ => d.putWord h a v

/-- Writes of the HSW block (R488, R504, R505). -/
def Dev.writeHsw (h : Hit) (a v : Nat) (d : Dev) : Dev :=
  match h.rd.name with
  | .HSW_CTL =>
    let was := d.flag HSW_CTL_EN
    let d := d.putWord h a v
    let d := if v.testBit 1 then d else d.setValid 0 false
    let d := if v.testBit 2 then d else d.setValid 1 false
    if v.testBit 0 then (if was then d else hswEnable d) else hswDisable d
  | .HSW_CMD =>
    match v % 8 with
    | 1 => hswClrLatch d
    | 2 => hswClrLock 0 d
    | 3 => hswClrLock 1 d
    | 4 => hswClrHist d
    | 5 => hswClrEnergy d
    | 6 => hswSnap d
    | _ => d
  | _ => d.putWord h a v

/-- Writes of the PWR block (R515, R517, R519, R522, R527). -/
def Dev.writePwr (h : Hit) (a v : Nat) (d : Dev) : Dev :=
  match h.rd.name with
  | .PWR_Dd_REQ => domainRequestWrite h.i (v % 4) d
  | .PWR_AVS_CTL => avsTargetWrite (v % 2 ^ 10) (v / 2 ^ 16 % 2 ^ 10) d
  | .PWR_WAKE_SW => if v.testBit 0 then d.wakeEvent 7 else d
  | .PWR_RAILk => railEntryWrite h.i v d
  | .PWR_PADREL => forAll ((List.range 13).filter (fun n => 1 ≤ n && v.testBit n)) padRelease d
  | _ => d.putWord h a v

/-- Writes of the KEY block (R549, R557, R558). -/
def Dev.writeKey (h : Hit) (a v : Nat) (d : Dev) : Dev :=
  match h.rd.name with
  | .KEY_LINE => (d.putWord h a v).lineSync
  | .KEY_SUBMIT => d.inc KEY_BADSUB_COUNT
  | .KEY_SLOT_CMD => if v % 4 = 1 then keySlotRead d else d.winNone KEY_SLOT_RES_DONE none
  | _ => d.putWord h a v

/-- Writes of the REL block (R565 to R567, R572, R574). -/
def Dev.writeRel (h : Hit) (a v t : Nat) (e : ActEnv) (d : Dev) : Dev :=
  match h.rd.name with
  | .REL_MW_CMD =>
    match v % 8 with
    | 1 => relMwRead d
    | 2 => relMwClrcnt d
    | 3 => relMwRemap e.ecc d
    | 4 => relMwUnmap d
    | _ => d.winNone REL_MW_RES_DONE (some REL_MW_RES_ERR)
  | .REL_SCR_CMD =>
    let d := if v.testBit 0 then scrubGo d else d
    if v.testBit 1 then scrubAbort e.read e.ces e.ues d else d
  | .REL_BIST_CMD => if v.testBit 0 then bistSliceGo t d else d
  | _ => d.putWord h a v

/-- Writes of the DDR block: a controller that no longer runs is not ready; a change of ECC_EN makes what DRAM holds unreadable, which
then reads as DRAM that nothing has written (R568, R574; DESIGN CHOICE, log entry 3). -/
def Dev.writeDdr (h : Hit) (a v : Nat) (d : Dev) : Dev :=
  match h.rd.name with
  | .DDR_CTL =>
    let ecc := d.get DDR_CTL_ECC_EN
    let was := d.flag DDR_CTL_EN
    let d := d.putWord h a v
    let d := if was then d.set DDR_CTL_ECC_EN ecc else d
    let d := if d.get DDR_CTL_ECC_EN = ecc then d else d.dramLost
    if v.testBit 0 then ddrEnable d else (d.set DDR_STAT_READY 0).set DDR_STAT_SELFREF 0
  | _ => d.putWord h a v

/-- Writes of the SYS block (R575, R577). -/
def Dev.writeSys (h : Hit) (a v : Nat) (d : Dev) : Dev :=
  match h.rd.name with
  | .SYS_RST => if v.testBit 0 then d.softReset 1 else d
  | .SYS_WDOG_CTL => wdogCtlWrite (v.testBit 0) (v / 2 ^ 16) d
  | .SYS_WDOG_KICK => wdogKick v d
  | _ => d.putWord h a v

/-- A register write acts in its domain: `t` is the thread that made it (R10, R17). -/
def Dev.actWrite (a v t : Nat) (e : ActEnv) (d : Dev) : Dev :=
  match findReg a with
  | none => d
  | some h =>
    if !d.domOn (powerDomain a) || d.bridgeCut a || !d.takesWrite h then d
    else
      let d := d.noteWrite a
      match (a - 0x10000000) / 0x100000 with
      | 0 => d.writeSys h a v
      | 1 => d.writePwr h a v
      | 2 => d.writeHsw h a v
      | 3 => d.writeTmb h a v
      | 4 => d.writeTrk h a v
      | 5 => d.writeTnl h a v
      | 6 => d.writeSwc h a v
      | 7 => d.writeSch h a v
      | 8 => d.writeAcd h a v
      | 9 => d.writeSyn h a v
      | 10 => d.writeEth h a v e
      | 11 => d.writeSto h a v
      | 12 => d.writePdc h a v
      | 13 => d.writeDso h a v e
      | 14 => d.writeUsb h a v
      | 15 => d.writeKey h a v
      | 16 => d.writeRel h a v t e
      | 17 => d.writeDdr h a v
      | 19 => d.writeSil h a v
      | _ => d.putWord h a v

/-! ### Posted writes -/

/-- The clock domain of the register at an address (R33). -/
def clkDom (a : Nat) : Option ClkDom := (findReg a).map (fun h => h.rd.dom.at h.i)

/-- The posted write at a place of the list acts, and leaves the list (R17, R20). -/
def Dev.postedActs (k : Nat) (e : ActEnv) (d : Dev) : Dev :=
  match d.posted[k]? with
  | some w =>
    let d := { d with posted := d.posted.eraseIdx k }
    (if w.desc = [] then d.actWrite w.addr w.val w.thr e else d.keySubmit w.val w.desc).postedGone w.thr
  | none => d

/-- The posted writes that a test picks act, in the order they were posted, at most `n` of them. -/
def Dev.postedAct (n : Nat) (pick : PostedWrite → Bool) (e : ActEnv) (d : Dev) : Dev :=
  match n with
  | 0 => d
  | n + 1 =>
    match d.posted.findIdx? pick with
    | some k => (d.postedActs k e).postedAct n pick e
    | none => d

/-- A posted write acts, once the earlier ones of its thread to its domain have (R17, R18, R20). -/
def regWriteActs (k : Nat) (e : ActEnv) (d : Dev) : Dev :=
  match d.posted[k]? with
  | some w =>
    if (d.posted.take k).any (fun x => x.thr == w.thr && clkDom x.addr == clkDom w.addr) then d else d.postedActs k e
  | none => d

def execRegWriteActs (k : Nat) (e : ActEnv) (s : State) : Host.Outcome State Fault Refusal := s.run (regWriteActs k e)

/-- The registers of a clock domain have switched to REF or back: the writes held meanwhile act, `held` of them (R39). -/
def execDomainClockSwitch (c : ClkDom) (held : Nat) (e : ActEnv) (s : State) : Host.Outcome State Fault Refusal :=
  s.run (Dev.postedAct held (fun w => clkDom w.addr == some c) e)

/-! ### Command registers -/

/-- The OP values a window lists (R153, R211, R273, R276, R278, R558, R574). -/
def Window.ops : Window → List Nat
  | .ctx => [1, 2, 3, 4, 5]
  | .queue => [1, 2, 3]
  | .gate => [1, 2]
  | .qstate => [1, 3]
  | .pstate => [1, 3]
  | .keySlot => [1]
  | .mem => [1, 2, 3, 4]

/-- An OP the window does not list performs nothing: DONE stays 1, ERR reads 0 (R16). -/
def windowUnlistedOp (w : Window) (op : Nat) (d : Dev) : Dev :=
  if w.ops.contains op then d
  else match w with
    | .ctx => d.winNone TNL_CTX_RES_DONE (some TNL_CTX_RES_ERR)
    | .queue => d.winNone SWC_Q_RES_DONE (some SWC_Q_RES_ERR)
    | .gate => d.winNone SCH_GW_RES_DONE (some SCH_GW_RES_ERR)
    | .qstate => d.winNone SCH_QS_RES_DONE none
    | .pstate => d.winNone SCH_PS_RES_DONE none
    | .keySlot => d.winNone KEY_SLOT_RES_DONE none
    | .mem => d.winNone REL_MW_RES_DONE (some REL_MW_RES_ERR)

def execWindowUnlistedOp (w : Window) (op : Nat) (s : State) : Host.Outcome State Fault Refusal := s.run (windowUnlistedOp w op)

/-! ### Register reads -/

/-- The earlier register writes of a thread to the domain of an address act before it reads there (R38). -/
def Dev.beforeRead (t a : Nat) (e : ActEnv) (d : Dev) : Dev :=
  d.postedAct d.posted.length (fun w => w.thr == t && clkDom w.addr == clkDom a) e

/-- A register read of a waiting thread completes (R38, R332); one that a thread reset left in flight completes first, and its value is
discarded (R319). -/
def regReadComplete (t : Nat) (e : ActEnv) (d : Dev) : Dev :=
  match d.syn.orphans.find? (fun x => x.1 == t), (d.thr t).wait with
  | some x, _ =>
    let d := { d with syn := { d.syn with orphans := d.syn.orphans.erase x } }
    ((d.beforeRead t x.2 e).busRead t x.2).2
  | none, .reg rd a len =>
    let (v, d) := (d.beforeRead t a e).busRead t a
    if (d.thr t).wait = .reg rd a len then (d.wr t (rd % 32) (extend 4 v (32 ≤ rd))).retire t len else d
  | _, _ => d

def execRegReadComplete (t : Fin 32) (e : ActEnv) (s : State) : Host.Outcome State Fault Refusal := s.run (regReadComplete t e)

/-- A word read by WCMD: a register over the bus, else memory. -/
def Dev.wordRead (t a : Nat) (d : Dev) : Nat × Dev :=
  if d.region a = .regs then d.busRead t a else (leNat ((List.range 4).map (fun k => d.memByte (a + k))), d)

/-- A word written by WCMD: it acts before the read that follows (R38). -/
def Dev.wordWrite (t a v : Nat) (e : ActEnv) (d : Dev) : Dev :=
  if d.region a = .regs then
    let n := d.posted.length
    let d := d.postWrite t a v
    if n < d.posted.length then d.postedActs n e else d
  else d.plainStore t a 4 v

/-- WCMD (R367, R373): inside an OPEN accord it aborts the accord and is not performed. It lasts until the window's commands complete. -/
def Dev.wcmd (t rd rs1 rs2 : Nat) (e : ActEnv) (d : Dev) : Dev :=
  match d.openOf t with
  | some m => (d.abortSlot m 8).retire t 4
  | none =>
    let a := (d.rg t rs1).toNat % 2 ^ 40
    if a % 4 ≠ 0 then d.exc t 2 (some a)
    else if d.region a = .hole ∨ d.region (a + 4) = .hole then d.exc t 5 (some a)
    else
      let (v, d) := (d.beforeRead t (a + 4) e).winEnd.wordRead t (a + 4)
      if v % 2 = 0 then (d.wr t rd (BitVec.ofNat 64 v)).retire t 4
      else
        let (v, d) := (d.wordWrite t a ((d.rg t rs2).toNat % 2 ^ 32) e).winEnd.wordRead t (a + 4)
        if d.tstate t = 1 then (d.wr t rd (BitVec.ofNat 64 v)).retire t 4 else d

def execWcmd (t : Fin 32) (p : Fin 8) (rd rs1 rs2 : Fin 32) (e : ActEnv) (s : State) : Host.Outcome State Fault Refusal :=
  s.issue t (.wcmd t p rd rs1 rs2 e) (Dev.instr t p 4 .wait (Dev.wcmd t rd rs1 rs2 e))

/-! ### The AON queue and the bridge -/

/-- An entry frees in the AON queue: one record says how many were not stored, and when the first of them was (R28). -/
def aonEvqOverflow (d : Dev) : Dev :=
  if d.aon.lost = 0 ∨ 64 ≤ d.aon.recs.length then d
  else
    let r : EvRec := ⟨0x0001, 0x1B, d.aon.lostTime, d.aon.lost % 2 ^ 32⟩
    Dev.postAon { d with aon := { d.aon with lost := 0, lostTime := 0 } } r

def execAonEvqOverflow (s : State) : Host.Outcome State Fault Refusal := s.run aonEvqOverflow

/-- The bridge has not completed a transfer for 50 µs: of the posted writes to the power die the first `done` have acted, the others
are discarded (R29, R66). -/
def bridgeTransferTimeout (done : Nat) (e : ActEnv) (d : Dev) : Dev :=
  if !d.aon.bridgeUp then d
  else
    let d := d.postedAct done (fun w => onPowerDie w.addr) e
    let cut := (d.posted.filter (fun w => onPowerDie w.addr)).map (·.thr)
    let d := { d with posted := d.posted.filter (fun w => !onPowerDie w.addr) }
    let d := { d with aon := { d.aon with bridgeUp := false } }
    (forAll cut (fun t d => d.postedGone t) (d.event 0x0F 0x0003 0)).bypSync

def execBridgeTransferTimeout (done : Nat) (e : ActEnv) (s : State) : Host.Outcome State Fault Refusal :=
  s.run (bridgeTransferTimeout done e)

/-- The bridge is back: the held records go to their queues (R29). -/
def bridgeRetrained (d : Dev) : Dev :=
  if d.aon.bridgeUp then d
  else (Dev.deliverAon { d with aon := { d.aon with bridgeUp := true } }).wakeRecords.bypSync

def execBridgeRetrained (s : State) : Host.Outcome State Fault Refusal := s.run bridgeRetrained

end Sys2Proof.Machine
end

