-- ==== Sys2Proof/Machine/Dispatch.lean ====
section
/-! DEFINITION. The dispatch: one arm for each command, a direct call of its meaning, or rejected by name. -/

namespace Sys2Proof.Machine

def exec (i : Instr) (s : State) : Host.Outcome State Fault Refusal :=
  match i with
  | .regWrite t a v => Sys2Proof.Machine.execRegWrite t a v s
  | .regWriteActs k e => Sys2Proof.Machine.execRegWriteActs k e s
  | .unmappedRegAccess t a => Sys2Proof.Machine.execUnmappedRegAccess t a s
  | .domainOffAccess t a => Sys2Proof.Machine.execDomainOffAccess t a s
  | .windowUnlistedOp w op => Sys2Proof.Machine.execWindowUnlistedOp w op s
  | .domainClockSwitch c held e => Sys2Proof.Machine.execDomainClockSwitch c held e s
  | .aonEvqOverflow => Sys2Proof.Machine.execAonEvqOverflow s
  | .bridgeTransferTimeout done e => Sys2Proof.Machine.execBridgeTransferTimeout done e s
  | .bridgeRetrained => Sys2Proof.Machine.execBridgeRetrained s
  | .seqEnable p => Sys2Proof.Machine.execSeqEnable p s
  | .seqDisable p => Sys2Proof.Machine.execSeqDisable p s
  | .trkRetrain p => Sys2Proof.Machine.execTrkRetrain p s
  | .alignmentSetRx p n skew set own => Sys2Proof.Machine.execAlignmentSetRx p n skew set own s
  | .commaBlockRx p n skew blk own => Sys2Proof.Machine.execCommaBlockRx p n skew blk own s
  | .alignMarkerMissing p n => Sys2Proof.Machine.execAlignMarkerMissing p n s
  | .codeErrorThreshold p n => Sys2Proof.Machine.execCodeErrorThreshold p n s
  | .losTimeout p n => Sys2Proof.Machine.execLosTimeout p n s
  | .planTxTimeout p => Sys2Proof.Machine.execPlanTxTimeout p s
  | .ladderL25Timeout p => Sys2Proof.Machine.execLadderL25Timeout p s
  | .ladderL10Timeout p => Sys2Proof.Machine.execLadderL10Timeout p s
  | .capTimeout p => Sys2Proof.Machine.execCapTimeout p s
  | .retrainTimeout p => Sys2Proof.Machine.execRetrainTimeout p s
  | .capSendTimer p => Sys2Proof.Machine.execCapSendTimer p s
  | .capRx p b => Sys2Proof.Machine.execCapRx p b s
  | .blotWindowEnd p bits => Sys2Proof.Machine.execBlotWindowEnd p bits s
  | .blotResultRepeat p => Sys2Proof.Machine.execBlotResultRepeat p s
  | .blotResultRx p b => Sys2Proof.Machine.execBlotResultRx p b s
  | .blotResultTimeout p => Sys2Proof.Machine.execBlotResultTimeout p s
  | .reserveClaimMet p => Sys2Proof.Machine.execReserveClaimMet p s
  | .bypassInlineWrite v => Sys2Proof.Machine.execBypassInlineWrite v s
  | .dataBlockRx p b => Sys2Proof.Machine.execDataBlockRx p b s
  | .blockRxBad p b => Sys2Proof.Machine.execBlockRxBad p b s
  | .idleBlockRx p b => Sys2Proof.Machine.execIdleBlockRx p b s
  | .creditRx p b => Sys2Proof.Machine.execCreditRx p b s
  | .creditSendTimer p => Sys2Proof.Machine.execCreditSendTimer p s
  | .txBlockBoundary p ecc => Sys2Proof.Machine.execTxBlockBoundary p ecc s
  | .ackTimeout p => Sys2Proof.Machine.execAckTimeout p s
  | .retryBudgetTime p => Sys2Proof.Machine.execRetryBudgetTime p s
  | .linkSilent p => Sys2Proof.Machine.execLinkSilent p s
  | .linkInitTimeout p => Sys2Proof.Machine.execLinkInitTimeout p s
  | .authTimeout p => Sys2Proof.Machine.execAuthTimeout p s
  | .linkFailedExpire p => Sys2Proof.Machine.execLinkFailedExpire p s
  | .linkAdmitWrite p => Sys2Proof.Machine.execLinkAdmitWrite p s
  | .linkUnadmitWrite p => Sys2Proof.Machine.execLinkUnadmitWrite p s
  | .linkFailWrite p => Sys2Proof.Machine.execLinkFailWrite p s
  | .wrapNoticeRx p b => Sys2Proof.Machine.execWrapNoticeRx p b s
  | .unwrapNoticeRx p b => Sys2Proof.Machine.execUnwrapNoticeRx p b s
  | .tickDue => Sys2Proof.Machine.execTickDue s
  | .tickRx p b => Sys2Proof.Machine.execTickRx p b s
  | .delayReqDue p => Sys2Proof.Machine.execDelayReqDue p s
  | .delayReqRx p b => Sys2Proof.Machine.execDelayReqRx p b s
  | .delayReplyRx p b => Sys2Proof.Machine.execDelayReplyRx p b s
  | .stnIdWrite v => Sys2Proof.Machine.execStnIdWrite v s
  | .fenceClearWrite => Sys2Proof.Machine.execFenceClearWrite s
  | .helloRx p uid hint line epoch port depth => Sys2Proof.Machine.execHelloRx p uid hint line epoch port depth s
  | .assignRx relay origin xid num role depth ring => Sys2Proof.Machine.execAssignRx relay origin xid num role depth ring s
  | .allotLoadRx origin xid epoch image last => Sys2Proof.Machine.execAllotLoadRx origin xid epoch image last s
  | .admitMsgRx origin xid mask epoch => Sys2Proof.Machine.execAdmitMsgRx origin xid mask epoch s
  | .fencedMsgRx p => Sys2Proof.Machine.execFencedMsgRx p s
  | .leaveRx origin xid => Sys2Proof.Machine.execLeaveRx origin xid s
  | .segReqRx origin xid p plan ring byp => Sys2Proof.Machine.execSegReqRx origin xid p plan ring byp s
  | .statusQueryRx origin xid regs => Sys2Proof.Machine.execStatusQueryRx origin xid regs s
  | .unknownEniqueRx origin xid => Sys2Proof.Machine.execUnknownEniqueRx origin xid s
  | .eniqueRepeat code => Sys2Proof.Machine.execEniqueRepeat code s
  | .helloSilence => Sys2Proof.Machine.execHelloSilence s
  | .modeReqGo p plan ring byp => Sys2Proof.Machine.execModeReqGo p plan ring byp s
  | .modeReqRepeat p => Sys2Proof.Machine.execModeReqRepeat p s
  | .modeReqTimeout p => Sys2Proof.Machine.execModeReqTimeout p s
  | .modeReqRx p b => Sys2Proof.Machine.execModeReqRx p b s
  | .modeAckRx p b => Sys2Proof.Machine.execModeAckRx p b s
  | .collideRx p b => Sys2Proof.Machine.execCollideRx p b s
  | .modeAckRestartTimer p => Sys2Proof.Machine.execModeAckRestartTimer p s
  | .mreqBackoffEnd p => Sys2Proof.Machine.execMreqBackoffEnd p s
  | .packetFirstBlock p ecc => Sys2Proof.Machine.execPacketFirstBlock p ecc s
  | .admissionRetry ing ecc => Sys2Proof.Machine.execAdmissionRetry ing ecc s
  | .packetLastBlock p ecc => Sys2Proof.Machine.execPacketLastBlock p ecc s
  | .ackPacketRx c una sack => Sys2Proof.Machine.execAckPacketRx c una sack s
  | .refreshPacketRx c payload => Sys2Proof.Machine.execRefreshPacketRx c payload s
  | .localPacketEntry c ing payload pre aux => Sys2Proof.Machine.execLocalPacketEntry c ing payload pre aux s
  | .policerRelease k => Sys2Proof.Machine.execPolicerRelease k s
  | .tunnelAckTimer c => Sys2Proof.Machine.execTunnelAckTimer c s
  | .tunnelRtoExpire c => Sys2Proof.Machine.execTunnelRtoExpire c s
  | .ctxRead => Sys2Proof.Machine.execCtxRead s
  | .ctxWrite => Sys2Proof.Machine.execCtxWrite s
  | .ctxEnable => Sys2Proof.Machine.execCtxEnable s
  | .ctxDisable => Sys2Proof.Machine.execCtxDisable s
  | .ctxClrcnt => Sys2Proof.Machine.execCtxClrcnt s
  | .tmtStoreRefused => Sys2Proof.Machine.execTmtStoreRefused s
  | .refillStart q => Sys2Proof.Machine.execRefillStart q s
  | .refillCellArrive q ecc => Sys2Proof.Machine.execRefillCellArrive q ecc s
  | .swcQRead => Sys2Proof.Machine.execSwcQRead s
  | .swcQWrite => Sys2Proof.Machine.execSwcQWrite s
  | .swcQClrcnt => Sys2Proof.Machine.execSwcQClrcnt s
  | .tbSnapshot => Sys2Proof.Machine.execTbSnapshot s
  | .tbIncrWrite n frac val => Sys2Proof.Machine.execTbIncrWrite n frac val s
  | .tbPhaseSlew n val => Sys2Proof.Machine.execTbPhaseSlew n val s
  | .padjSlewDone n => Sys2Proof.Machine.execPadjSlewDone n s
  | .tbLoad n => Sys2Proof.Machine.execTbLoad n s
  | .timePllLock => Sys2Proof.Machine.execTimePllLock s
  | .timerefLost => Sys2Proof.Machine.execTimerefLost s
  | .servoEnable => Sys2Proof.Machine.execServoEnable s
  | .servoDisable => Sys2Proof.Machine.execServoDisable s
  | .servoReacq => Sys2Proof.Machine.execServoReacq s
  | .servoSrcWrite src => Sys2Proof.Machine.execServoSrcWrite src s
  | .servoSampleTimeout => Sys2Proof.Machine.execServoSampleTimeout s
  | .ppsInEdge rise => Sys2Proof.Machine.execPpsInEdge rise s
  | .ppsOutPulse => Sys2Proof.Machine.execPpsOutPulse s
  | .ppsOutPulseEnd => Sys2Proof.Machine.execPpsOutPulseEnd s
  | .tioPushLow k width => Sys2Proof.Machine.execTioPushLow k width s
  | .tioPushHigh k width => Sys2Proof.Machine.execTioPushHigh k width s
  | .tioPushPulse k width => Sys2Proof.Machine.execTioPushPulse k width s
  | .tioPushStart k width => Sys2Proof.Machine.execTioPushStart k width s
  | .tioPushStop k width => Sys2Proof.Machine.execTioPushStop k width s
  | .tioPushClear k => Sys2Proof.Machine.execTioPushClear k s
  | .tioEventDue k => Sys2Proof.Machine.execTioEventDue k s
  | .tioPulseEnd k => Sys2Proof.Machine.execTioPulseEnd k s
  | .tioTrainPeriod k => Sys2Proof.Machine.execTioTrainPeriod k s
  | .tioCaptureEdge k rise => Sys2Proof.Machine.execTioCaptureEdge k rise s
  | .tioCapPop => Sys2Proof.Machine.execTioCapPop s
  | .tioCfgWrite k val => Sys2Proof.Machine.execTioCfgWrite k val s
  | .sillageWrite => Sys2Proof.Machine.execSillageWrite s
  | .sillageGap => Sys2Proof.Machine.execSillageGap s
  | .silRdWrite val => Sys2Proof.Machine.execSilRdWrite val s
  | .gateCycleStart p => Sys2Proof.Machine.execGateCycleStart p s
  | .gateEntryBoundary p => Sys2Proof.Machine.execGateEntryBoundary p s
  | .telPassStart => Sys2Proof.Machine.execTelPassStart s
  | .gwRead => Sys2Proof.Machine.execGwRead s
  | .gwWrite => Sys2Proof.Machine.execGwWrite s
  | .qsRead => Sys2Proof.Machine.execQsRead s
  | .qsClrcnt => Sys2Proof.Machine.execQsClrcnt s
  | .psRead => Sys2Proof.Machine.execPsRead s
  | .psClrcnt => Sys2Proof.Machine.execPsClrcnt s
  | .atCommitPoint n => Sys2Proof.Machine.execAtCommitPoint n s
  | .accordPrepareRx p b => Sys2Proof.Machine.execAccordPrepareRx p b s
  | .accordVoteRx p b => Sys2Proof.Machine.execAccordVoteRx p b s
  | .accordGoRx p b => Sys2Proof.Machine.execAccordGoRx p b s
  | .accordAbandonRx p b => Sys2Proof.Machine.execAccordAbandonRx p b s
  | .lineCommitT id => Sys2Proof.Machine.execLineCommitT id s
  | .lineVoteDeadline id => Sys2Proof.Machine.execLineVoteDeadline id s
  | .heldAccordTimeout n => Sys2Proof.Machine.execHeldAccordTimeout n s
  | .epochStore => Sys2Proof.Machine.execEpochStore s
  | .threadStart t => Sys2Proof.Machine.execThreadStart t s
  | .threadStop t => Sys2Proof.Machine.execThreadStop t s
  | .threadReset t => Sys2Proof.Machine.execThreadReset t s
  | .dcacheMissReturn t ecc => Sys2Proof.Machine.execDcacheMissReturn t ecc s
  | .evqRdWrite q v => Sys2Proof.Machine.execEvqRdWrite q v s
  | .evqCfgWrite q v => Sys2Proof.Machine.execEvqCfgWrite q v s
  | .pqCfgWrite q v => Sys2Proof.Machine.execPqCfgWrite q v s
  | .perfSnapshot v => Sys2Proof.Machine.execPerfSnapshot v s
  | .pktTxDone => Sys2Proof.Machine.execPktTxDone s
  | .add t p rd rs1 rs2 => Sys2Proof.Machine.execAdd t p rd rs1 rs2 s
  | .sub t p rd rs1 rs2 => Sys2Proof.Machine.execSub t p rd rs1 rs2 s
  | .and t p rd rs1 rs2 => Sys2Proof.Machine.execAnd t p rd rs1 rs2 s
  | .or t p rd rs1 rs2 => Sys2Proof.Machine.execOr t p rd rs1 rs2 s
  | .xor t p rd rs1 rs2 => Sys2Proof.Machine.execXor t p rd rs1 rs2 s
  | .andn t p rd rs1 rs2 => Sys2Proof.Machine.execAndn t p rd rs1 rs2 s
  | .shl t p rd rs1 rs2 => Sys2Proof.Machine.execShl t p rd rs1 rs2 s
  | .shr t p rd rs1 rs2 => Sys2Proof.Machine.execShr t p rd rs1 rs2 s
  | .sar t p rd rs1 rs2 => Sys2Proof.Machine.execSar t p rd rs1 rs2 s
  | .mul t p rd rs1 rs2 => Sys2Proof.Machine.execMul t p rd rs1 rs2 s
  | .mulhu t p rd rs1 rs2 => Sys2Proof.Machine.execMulhu t p rd rs1 rs2 s
  | .mulhs t p rd rs1 rs2 => Sys2Proof.Machine.execMulhs t p rd rs1 rs2 s
  | .divu t p rd rs1 rs2 => Sys2Proof.Machine.execDivu t p rd rs1 rs2 s
  | .div t p rd rs1 rs2 => Sys2Proof.Machine.execDiv t p rd rs1 rs2 s
  | .remu t p rd rs1 rs2 => Sys2Proof.Machine.execRemu t p rd rs1 rs2 s
  | .rem t p rd rs1 rs2 => Sys2Proof.Machine.execRem t p rd rs1 rs2 s
  | .minu t p rd rs1 rs2 => Sys2Proof.Machine.execMinu t p rd rs1 rs2 s
  | .maxu t p rd rs1 rs2 => Sys2Proof.Machine.execMaxu t p rd rs1 rs2 s
  | .min t p rd rs1 rs2 => Sys2Proof.Machine.execMin t p rd rs1 rs2 s
  | .max t p rd rs1 rs2 => Sys2Proof.Machine.execMax t p rd rs1 rs2 s
  | .clz t p rd rs1 => Sys2Proof.Machine.execClz t p rd rs1 s
  | .popc t p rd rs1 => Sys2Proof.Machine.execPopc t p rd rs1 s
  | .bswap16 t p rd rs1 => Sys2Proof.Machine.execBswap16 t p rd rs1 s
  | .bswap32 t p rd rs1 => Sys2Proof.Machine.execBswap32 t p rd rs1 s
  | .bswap64 t p rd rs1 => Sys2Proof.Machine.execBswap64 t p rd rs1 s
  | .addi t p rd rs1 imm => Sys2Proof.Machine.execAddi t p rd rs1 imm s
  | .andi t p rd rs1 imm => Sys2Proof.Machine.execAndi t p rd rs1 imm s
  | .ori t p rd rs1 imm => Sys2Proof.Machine.execOri t p rd rs1 imm s
  | .xori t p rd rs1 imm => Sys2Proof.Machine.execXori t p rd rs1 imm s
  | .muli t p rd rs1 imm => Sys2Proof.Machine.execMuli t p rd rs1 imm s
  | .shli t p rd rs1 sh => Sys2Proof.Machine.execShli t p rd rs1 sh s
  | .shri t p rd rs1 sh => Sys2Proof.Machine.execShri t p rd rs1 sh s
  | .sari t p rd rs1 sh => Sys2Proof.Machine.execSari t p rd rs1 sh s
  | .extu t p rd rs1 pos lenM1 => Sys2Proof.Machine.execExtu t p rd rs1 pos lenM1 s
  | .exts t p rd rs1 pos lenM1 => Sys2Proof.Machine.execExts t p rd rs1 pos lenM1 s
  | .ins t p rd rs1 pos lenM1 => Sys2Proof.Machine.execIns t p rd rs1 pos lenM1 s
  | .cmp t p pd pdn rs1 rs2 cond => Sys2Proof.Machine.execCmp t p pd pdn rs1 rs2 cond s
  | .cmpi t p pd pdn rs1 cond imm => Sys2Proof.Machine.execCmpi t p pd pdn rs1 cond imm s
  | .pand t p pd pa pb => Sys2Proof.Machine.execPand t p pd pa pb s
  | .por t p pd pa pb => Sys2Proof.Machine.execPor t p pd pa pb s
  | .pxor t p pd pa pb => Sys2Proof.Machine.execPxor t p pd pa pb s
  | .pandn t p pd pa pb => Sys2Proof.Machine.execPandn t p pd pa pb s
  | .pnot t p pd pa => Sys2Proof.Machine.execPnot t p pd pa s
  | .pget t p rx => Sys2Proof.Machine.execPget t p rx s
  | .pput t p rx => Sys2Proof.Machine.execPput t p rx s
  | .ld8u t p rd rs1 imm miss ecc => Sys2Proof.Machine.execLd8u t p rd rs1 imm miss ecc s
  | .ld16u t p rd rs1 imm miss ecc => Sys2Proof.Machine.execLd16u t p rd rs1 imm miss ecc s
  | .ld32u t p rd rs1 imm miss ecc => Sys2Proof.Machine.execLd32u t p rd rs1 imm miss ecc s
  | .ld64 t p rd rs1 imm miss ecc => Sys2Proof.Machine.execLd64 t p rd rs1 imm miss ecc s
  | .ld8s t p rd rs1 imm miss ecc => Sys2Proof.Machine.execLd8s t p rd rs1 imm miss ecc s
  | .ld16s t p rd rs1 imm miss ecc => Sys2Proof.Machine.execLd16s t p rd rs1 imm miss ecc s
  | .ld32s t p rd rs1 imm miss ecc => Sys2Proof.Machine.execLd32s t p rd rs1 imm miss ecc s
  | .st8 t p rs2 rs1 imm => Sys2Proof.Machine.execSt8 t p rs2 rs1 imm s
  | .st16 t p rs2 rs1 imm => Sys2Proof.Machine.execSt16 t p rs2 rs1 imm s
  | .st32 t p rs2 rs1 imm => Sys2Proof.Machine.execSt32 t p rs2 rs1 imm s
  | .st64 t p rs2 rs1 imm => Sys2Proof.Machine.execSt64 t p rs2 rs1 imm s
  | .amoSwap t p rd rs1 rs2 fence ecc => Sys2Proof.Machine.execAmoSwap t p rd rs1 rs2 fence ecc s
  | .amoAdd t p rd rs1 rs2 fence ecc => Sys2Proof.Machine.execAmoAdd t p rd rs1 rs2 fence ecc s
  | .amoAnd t p rd rs1 rs2 fence ecc => Sys2Proof.Machine.execAmoAnd t p rd rs1 rs2 fence ecc s
  | .amoOr t p rd rs1 rs2 fence ecc => Sys2Proof.Machine.execAmoOr t p rd rs1 rs2 fence ecc s
  | .amoCas t p rd rs1 rs2 fence ecc => Sys2Proof.Machine.execAmoCas t p rd rs1 rs2 fence ecc s
  | .b t p off => Sys2Proof.Machine.execB t p off s
  | .bl t p off => Sys2Proof.Machine.execBl t p off s
  | .jr t p rs1 => Sys2Proof.Machine.execJr t p rs1 s
  | .jrLink t p rd rs1 => Sys2Proof.Machine.execJrLink t p rd rs1 s
  | .halt t p => Sys2Proof.Machine.execHalt t p s
  | .trap t p => Sys2Proof.Machine.execTrap t p s
  | .eret t p => Sys2Proof.Machine.execEret t p s
  | .fence t p => Sys2Proof.Machine.execFence t p s
  | .fenceD t p => Sys2Proof.Machine.execFenceD t p s
  | .fenceT t p => Sys2Proof.Machine.execFenceT t p s
  | .mfs t p rd n => Sys2Proof.Machine.execMfs t p rd n s
  | .mts t p rs1 n => Sys2Proof.Machine.execMts t p rs1 n s
  | .iinv t p rs1 rs2 fetched => Sys2Proof.Machine.execIinv t p rs1 rs2 fetched s
  | .pref t p rs1 => Sys2Proof.Machine.execPref t p rs1 s
  | .evw t p rd rs1 rs2 => Sys2Proof.Machine.execEvw t p rd rs1 rs2 s
  | .evwResume t => Sys2Proof.Machine.execEvwResume t s
  | .psend t p rs1 rs2 => Sys2Proof.Machine.execPsend t p rs1 rs2 s
  | .wcmd t p rd rs1 rs2 e => Sys2Proof.Machine.execWcmd t p rd rs1 rs2 e s
  | .crc8 t p rd rs1 rs2 => Sys2Proof.Machine.execCrc8 t p rd rs1 rs2 s
  | .crc64 t p rd rs1 rs2 => Sys2Proof.Machine.execCrc64 t p rd rs1 rs2 s
  | .tmtb t p rd rs1 rs2 => Sys2Proof.Machine.execTmtb t p rd rs1 rs2 s
  | .kop t p rs1 rs2 => Sys2Proof.Machine.execKop t p rs1 rs2 s
  | .acbNow t p rd => Sys2Proof.Machine.execAcbNow t p rd s
  | .acbAt t p rd rs1 tb => Sys2Proof.Machine.execAcbAt t p rd rs1 tb s
  | .acbLine t p rd rs1 => Sys2Proof.Machine.execAcbLine t p rd rs1 s
  | .acw t p rs1 rs2 wide => Sys2Proof.Machine.execAcw t p rs1 rs2 wide s
  | .acc t p rd rs1 pd pdn => Sys2Proof.Machine.execAcc t p rd rs1 pd pdn s
  | .accHeld t p rd rs1 pd pdn => Sys2Proof.Machine.execAccHeld t p rd rs1 pd pdn s
  | .aca t p rd => Sys2Proof.Machine.execAca t p rd s
  | .acs t p rd => Sys2Proof.Machine.execAcs t p rd s
  | .acsByid t p rd rs1 => Sys2Proof.Machine.execAcsByid t p rd rs1 s
  | .ethFrameRx n frame => Sys2Proof.Machine.execEthFrameRx n frame s
  | .pauseExpire n => Sys2Proof.Machine.execPauseExpire n s
  | .ethFrameTx n ecc => Sys2Proof.Machine.execEthFrameTx n ecc s
  | .ethLinkUp n an pause => Sys2Proof.Machine.execEthLinkUp n an pause s
  | .ethLinkDown n cut => Sys2Proof.Machine.execEthLinkDown n cut s
  | .ethModeWrite n mode cut => Sys2Proof.Machine.execEthModeWrite n mode cut s
  | .ethHtxWrWrite n v => Sys2Proof.Machine.execEthHtxWrWrite n v s
  | .htxDone n => Sys2Proof.Machine.execHtxDone n s
  | .ethTsfPop n => Sys2Proof.Machine.execEthTsfPop n s
  | .driveEnable n => Sys2Proof.Machine.execDriveEnable n s
  | .driveReady n gen x2 => Sys2Proof.Machine.execDriveReady n gen x2 s
  | .driveLinkTimeout n => Sys2Proof.Machine.execDriveLinkTimeout n s
  | .driveLost n => Sys2Proof.Machine.execDriveLost n s
  | .driveRetry n => Sys2Proof.Machine.execDriveRetry n s
  | .driveDisable n => Sys2Proof.Machine.execDriveDisable n s
  | .storRead lq => Sys2Proof.Machine.execStorRead lq s
  | .storWrite lq => Sys2Proof.Machine.execStorWrite lq s
  | .storFlush lq => Sys2Proof.Machine.execStorFlush lq s
  | .storTrim lq => Sys2Proof.Machine.execStorTrim lq s
  | .storIdentify lq blocks serial => Sys2Proof.Machine.execStorIdentify lq blocks serial s
  | .nvmeCompletion n k id status nvstat data => Sys2Proof.Machine.execNvmeCompletion n k id status nvstat data s
  | .stoCmdTimeout n k id => Sys2Proof.Machine.execStoCmdTimeout n k id s
  | .nvmeAbortTimeout n => Sys2Proof.Machine.execNvmeAbortTimeout n s
  | .stoBindingWrite n k v => Sys2Proof.Machine.execStoBindingWrite n k v s
  | .bindingRelease n k => Sys2Proof.Machine.execBindingRelease n k s
  | .ccRdDetect n cc2 => Sys2Proof.Machine.execCcRdDetect n cc2 s
  | .ccDebounceDone n cur epr spd debug => Sys2Proof.Machine.execCcDebounceDone n cur epr spd debug s
  | .attachwaitTimeout n => Sys2Proof.Machine.execAttachwaitTimeout n s
  | .detachConfirmed n => Sys2Proof.Machine.execDetachConfirmed n s
  | .vbusDischarged n => Sys2Proof.Machine.execVbusDischarged n s
  | .sourceCapsRx n id rev3 objs => Sys2Proof.Machine.execSourceCapsRx n id rev3 objs s
  | .requestRx n id rev3 pos volt cur => Sys2Proof.Machine.execRequestRx n id rev3 pos volt cur s
  | .acceptRx n id => Sys2Proof.Machine.execAcceptRx n id s
  | .rejectRx n id ns => Sys2Proof.Machine.execRejectRx n id ns s
  | .waitRx n id => Sys2Proof.Machine.execWaitRx n id s
  | .psRdyRx n id => Sys2Proof.Machine.execPsRdyRx n id s
  | .prSwapRx n id => Sys2Proof.Machine.execPrSwapRx n id s
  | .drSwapRx n id => Sys2Proof.Machine.execDrSwapRx n id s
  | .vconnSwapRx n id => Sys2Proof.Machine.execVconnSwapRx n id s
  | .eprModeRx n id => Sys2Proof.Machine.execEprModeRx n id s
  | .hardResetRx n => Sys2Proof.Machine.execHardResetRx n s
  | .unsupportedMsgRx n id vdm svid cmd => Sys2Proof.Machine.execUnsupportedMsgRx n id vdm svid cmd s
  | .svdmRequestRx n id cmd => Sys2Proof.Machine.execSvdmRequestRx n id cmd s
  | .enterModeRx n id => Sys2Proof.Machine.execEnterModeRx n id s
  | .exitModeRx n id => Sys2Proof.Machine.execExitModeRx n id s
  | .tConfigRx n id allow => Sys2Proof.Machine.execTConfigRx n id allow s
  | .tStatusRx n id => Sys2Proof.Machine.execTStatusRx n id s
  | .attentionRx n id hpd irq bad => Sys2Proof.Machine.execAttentionRx n id hpd irq bad s
  | .vdmAckRx n id ack tirrun dp allow pins hpd cur epr spd => Sys2Proof.Machine.execVdmAckRx n id ack tirrun dp allow pins hpd cur epr spd s
  | .vdmResponseTimeout n => Sys2Proof.Machine.execVdmResponseTimeout n s
  | .senderResponseTimeout n => Sys2Proof.Machine.execSenderResponseTimeout n s
  | .swapWaitRetry n => Sys2Proof.Machine.execSwapWaitRetry n s
  | .srcTransitionDone n => Sys2Proof.Machine.execSrcTransitionDone n s
  | .vbusRegAck n => Sys2Proof.Machine.execVbusRegAck n s
  | .vbusInWindow n mv ma => Sys2Proof.Machine.execVbusInWindow n mv ma s
  | .vbusAckTimeout n => Sys2Proof.Machine.execVbusAckTimeout n s
  | .vbusSettleTimeout n => Sys2Proof.Machine.execVbusSettleTimeout n s
  | .vbusOutOfWindow n mv ma => Sys2Proof.Machine.execVbusOutOfWindow n mv ma s
  | .vbusOvervoltage n mv ma => Sys2Proof.Machine.execVbusOvervoltage n mv ma s
  | .vconnOvercurrent n => Sys2Proof.Machine.execVconnOvercurrent n s
  | .ppsRequestTimeout n => Sys2Proof.Machine.execPpsRequestTimeout n s
  | .eprKeepaliveLapse n => Sys2Proof.Machine.execEprKeepaliveLapse n s
  | .pdcNodeWrite w => Sys2Proof.Machine.execPdcNodeWrite w s
  | .pdcSendCaps n => Sys2Proof.Machine.execPdcSendCaps n s
  | .pdcPrSwap n => Sys2Proof.Machine.execPdcPrSwap n s
  | .pdcDrSwap n => Sys2Proof.Machine.execPdcDrSwap n s
  | .pdcVconnSwap n => Sys2Proof.Machine.execPdcVconnSwap n s
  | .pdcHardReset n => Sys2Proof.Machine.execPdcHardReset n s
  | .pdcExitAlt n => Sys2Proof.Machine.execPdcExitAlt n s
  | .pdcDisable n => Sys2Proof.Machine.execPdcDisable n s
  | .tclStartTimeout n => Sys2Proof.Machine.execTclStartTimeout n s
  | .tclStepTimeout n => Sys2Proof.Machine.execTclStepTimeout n s
  | .tclRestep n => Sys2Proof.Machine.execTclRestep n s
  | .tclDisable n => Sys2Proof.Machine.execTclDisable n s
  | .dsoEnable n psr => Sys2Proof.Machine.execDsoEnable n psr s
  | .dsoDisable n => Sys2Proof.Machine.execDsoDisable n s
  | .linkTrainingDone n ok lanes rate => Sys2Proof.Machine.execLinkTrainingDone n ok lanes rate s
  | .hpdHigh n => Sys2Proof.Machine.execHpdHigh n s
  | .hpdLowTimeout n => Sys2Proof.Machine.execHpdLowTimeout n s
  | .irqHpd n bad => Sys2Proof.Machine.execIrqHpd n bad s
  | .vblankStart n word ecc => Sys2Proof.Machine.execVblankStart n word ecc s
  | .teEdge n => Sys2Proof.Machine.execTeEdge n s
  | .teFrameSent n => Sys2Proof.Machine.execTeFrameSent n s
  | .teTimeout n => Sys2Proof.Machine.execTeTimeout n s
  | .pixelUnderrun n x y => Sys2Proof.Machine.execPixelUnderrun n x y s
  | .deltaRect n => Sys2Proof.Machine.execDeltaRect n s
  | .deltaFlip n => Sys2Proof.Machine.execDeltaFlip n s
  | .deltaPalette n => Sys2Proof.Machine.execDeltaPalette n s
  | .catchupCopyDone n => Sys2Proof.Machine.execCatchupCopyDone n s
  | .dsoRefreshReq c layer => Sys2Proof.Machine.execDsoRefreshReq c layer s
  | .refreshSend c => Sys2Proof.Machine.execRefreshSend c s
  | .usbAttach speed => Sys2Proof.Machine.execUsbAttach speed s
  | .usbDisconnect vbus => Sys2Proof.Machine.execUsbDisconnect vbus s
  | .usbBusReset warm speed => Sys2Proof.Machine.execUsbBusReset warm speed s
  | .usbSetupRx hub ty req val idx len => Sys2Proof.Machine.execUsbSetupRx hub ty req val idx len s
  | .usbDataDone data => Sys2Proof.Machine.execUsbDataDone data s
  | .ctrlAck tag => Sys2Proof.Machine.execCtrlAck tag s
  | .ctrlStall tag => Sys2Proof.Machine.execCtrlStall tag s
  | .ctrlDataIn tag len => Sys2Proof.Machine.execCtrlDataIn tag len s
  | .statusStageComplete => Sys2Proof.Machine.execStatusStageComplete s
  | .ctrlTimeout => Sys2Proof.Machine.execCtrlTimeout s
  | .getInfo => Sys2Proof.Machine.execGetInfo s
  | .gwBind t => Sys2Proof.Machine.execGwBind t s
  | .gwUnbind t => Sys2Proof.Machine.execGwUnbind t s
  | .gwColour t => Sys2Proof.Machine.execGwColour t s
  | .audTrim t => Sys2Proof.Machine.execAudTrim t s
  | .wakeMask t => Sys2Proof.Machine.execWakeMask t s
  | .gwOutPacket g ping data => Sys2Proof.Machine.execGwOutPacket g ping data s
  | .gwInTransfer g => Sys2Proof.Machine.execGwInTransfer g s
  | .noticeRead => Sys2Proof.Machine.execNoticeRead s
  | .notePush => Sys2Proof.Machine.execNotePush s
  | .audIsoOut data => Sys2Proof.Machine.execAudIsoOut data s
  | .audFeedbackRead => Sys2Proof.Machine.execAudFeedbackRead s
  | .audTrimUpdate ns => Sys2Proof.Machine.execAudTrimUpdate ns s
  | .lpmL1Request => Sys2Proof.Machine.execLpmL1Request s
  | .usbSuspend => Sys2Proof.Machine.execUsbSuspend s
  | .usbWakeWrite => Sys2Proof.Machine.execUsbWakeWrite s
  | .remoteWakeSignal => Sys2Proof.Machine.execRemoteWakeSignal s
  | .hostResume own => Sys2Proof.Machine.execHostResume own s
  | .portOvercurrent e => Sys2Proof.Machine.execPortOvercurrent e s
  | .feedValid x v => Sys2Proof.Machine.execFeedValid x v s
  | .feedInvalid x v => Sys2Proof.Machine.execFeedInvalid x v s
  | .feedOv v => Sys2Proof.Machine.execFeedOv v s
  | .feedRevertTimer => Sys2Proof.Machine.execFeedRevertTimer s
  | .switchDeadTimeEnd us => Sys2Proof.Machine.execSwitchDeadTimeEnd us s
  | .seatAssert => Sys2Proof.Machine.execSeatAssert s
  | .seatDebounceDone => Sys2Proof.Machine.execSeatDebounceDone s
  | .seatLost pin => Sys2Proof.Machine.execSeatLost pin s
  | .selectStart us => Sys2Proof.Machine.execSelectStart us s
  | .rampComplete vin vout => Sys2Proof.Machine.execRampComplete vin vout s
  | .rampTimeout us => Sys2Proof.Machine.execRampTimeout us s
  | .gateOn => Sys2Proof.Machine.execGateOn s
  | .gateRiseTimeout => Sys2Proof.Machine.execGateRiseTimeout s
  | .fastTrip sense us => Sys2Proof.Machine.execFastTrip sense us s
  | .faultTimerStart sense us => Sys2Proof.Machine.execFaultTimerStart sense us s
  | .faultTimerReset sense => Sys2Proof.Machine.execFaultTimerReset sense s
  | .slowTrip us => Sys2Proof.Machine.execSlowTrip us s
  | .retryWaitEnd => Sys2Proof.Machine.execRetryWaitEnd s
  | .historyClearTimer => Sys2Proof.Machine.execHistoryClearTimer s
  | .hswEnable => Sys2Proof.Machine.execHswEnable s
  | .hswDisable => Sys2Proof.Machine.execHswDisable s
  | .hswClrLatch => Sys2Proof.Machine.execHswClrLatch s
  | .hswClrLockA => Sys2Proof.Machine.execHswClrLockA s
  | .hswClrLockB => Sys2Proof.Machine.execHswClrLockB s
  | .hswClrHist => Sys2Proof.Machine.execHswClrHist s
  | .hswClrEnergy => Sys2Proof.Machine.execHswClrEnergy s
  | .hswSnap => Sys2Proof.Machine.execHswSnap s
  | .hswAdcSample va vb vout sense => Sys2Proof.Machine.execHswAdcSample va vb vout sense s
  | .hswIRead => Sys2Proof.Machine.execHswIRead s
  | .domainRequestWrite n target => Sys2Proof.Machine.execDomainRequestWrite n target s
  | .quiesceDone n => Sys2Proof.Machine.execQuiesceDone n s
  | .drainDone n => Sys2Proof.Machine.execDrainDone n s
  | .drainTimeout n => Sys2Proof.Machine.execDrainTimeout n s
  | .clockstopDone n => Sys2Proof.Machine.execClockstopDone n s
  | .holdDone n => Sys2Proof.Machine.execHoldDone n s
  | .saveDone n => Sys2Proof.Machine.execSaveDone n s
  | .dryDone n => Sys2Proof.Machine.execDryDone n s
  | .domainWakeDone n => Sys2Proof.Machine.execDomainWakeDone n s
  | .wakeSourceEvent src => Sys2Proof.Machine.execWakeSourceEvent src s
  | .wakeTimerExpire => Sys2Proof.Machine.execWakeTimerExpire s
  | .wakeSwGo => Sys2Proof.Machine.execWakeSwGo s
  | .padRelease n => Sys2Proof.Machine.execPadRelease n s
  | .avsTargetWrite target ret => Sys2Proof.Machine.execAvsTargetWrite target ret s
  | .avsAck => Sys2Proof.Machine.execAvsAck s
  | .avsAckTimeout mv => Sys2Proof.Machine.execAvsAckTimeout mv s
  | .avsRetryTimer => Sys2Proof.Machine.execAvsRetryTimer s
  | .pmbTransactionDone ok fault => Sys2Proof.Machine.execPmbTransactionDone ok fault s
  | .pmbSclTimeout => Sys2Proof.Machine.execPmbSclTimeout s
  | .pmbAlert addr status => Sys2Proof.Machine.execPmbAlert addr status s
  | .railRefreshTimer => Sys2Proof.Machine.execRailRefreshTimer s
  | .railEntryWrite k v => Sys2Proof.Machine.execRailEntryWrite k v s
  | .enfleurageDone ikm => Sys2Proof.Machine.execEnfleurageDone ikm s
  | .keyLoad => Sys2Proof.Machine.execKeyLoad s
  | .keyEvict => Sys2Proof.Machine.execKeyEvict s
  | .keyRotate => Sys2Proof.Machine.execKeyRotate s
  | .keyExport => Sys2Proof.Machine.execKeyExport s
  | .keyDerive => Sys2Proof.Machine.execKeyDerive s
  | .keySeal => Sys2Proof.Machine.execKeySeal s
  | .keyOpen => Sys2Proof.Machine.execKeyOpen s
  | .keyMac => Sys2Proof.Machine.execKeyMac s
  | .keySign => Sys2Proof.Machine.execKeySign s
  | .keyPubkey => Sys2Proof.Machine.execKeyPubkey s
  | .keyAgree => Sys2Proof.Machine.execKeyAgree s
  | .keyProve => Sys2Proof.Machine.execKeyProve s
  | .keyRandom => Sys2Proof.Machine.execKeyRandom s
  | .keyEnroll => Sys2Proof.Machine.execKeyEnroll s
  | .keyVerify => Sys2Proof.Machine.execKeyVerify s
  | .keyOpDone k => Sys2Proof.Machine.execKeyOpDone k s
  | .keyExpiryCheck => Sys2Proof.Machine.execKeyExpiryCheck s
  | .keySubmitStore => Sys2Proof.Machine.execKeySubmitStore s
  | .keySlotRead => Sys2Proof.Machine.execKeySlotRead s
  | .rngHealthFail => Sys2Proof.Machine.execRngHealthFail s
  | .authCertRx p bs => Sys2Proof.Machine.execAuthCertRx p bs s
  | .authFinishRx p bs => Sys2Proof.Machine.execAuthFinishRx p bs s
  | .authRefuseRx p bs => Sys2Proof.Machine.execAuthRefuseRx p bs s
  | .rekeyTrigger p reason => Sys2Proof.Machine.execRekeyTrigger p reason s
  | .rekeyReqRx p bs => Sys2Proof.Machine.execRekeyReqRx p bs s
  | .rekeyAckRx p bs => Sys2Proof.Machine.execRekeyAckRx p bs s
  | .rekeySwitchRx p bs => Sys2Proof.Machine.execRekeySwitchRx p bs s
  | .rekeyAckTimeout p => Sys2Proof.Machine.execRekeyAckTimeout p s
  | .rekeyOrphanTimeout p => Sys2Proof.Machine.execRekeyOrphanTimeout p s
  | .scrubGo => Sys2Proof.Machine.execScrubGo s
  | .scrubAbort read ces ues => Sys2Proof.Machine.execScrubAbort read ces ues s
  | .scrubPassDone ces ues => Sys2Proof.Machine.execScrubPassDone ces ues s
  | .relMwRead => Sys2Proof.Machine.execRelMwRead s
  | .relMwClrcnt => Sys2Proof.Machine.execRelMwClrcnt s
  | .relMwRemap ecc => Sys2Proof.Machine.execRelMwRemap ecc s
  | .relMwUnmap => Sys2Proof.Machine.execRelMwUnmap s
  | .bistSliceGo thr => Sys2Proof.Machine.execBistSliceGo thr s
  | .bistSliceDone misr res => Sys2Proof.Machine.execBistSliceDone misr res s
  | .ddrEnable => Sys2Proof.Machine.execDdrEnable s
  | .ddrTrainingDone => Sys2Proof.Machine.execDdrTrainingDone s
  | .ddrSelfRefreshEnter => Sys2Proof.Machine.execDdrSelfRefreshEnter s
  | .ddrSelfRefreshExit => Sys2Proof.Machine.execDdrSelfRefreshExit s
  | .dramWipeDone => Sys2Proof.Machine.execDramWipeDone s
  | .powerDiePor => Sys2Proof.Machine.execPowerDiePor s
  | .mainDiePor => Sys2Proof.Machine.execMainDiePor s
  | .porstRelease => Sys2Proof.Machine.execPorstRelease s
  | .mainPllLock => Sys2Proof.Machine.execMainPllLock s
  | .bootCoreBistDone k pass => Sys2Proof.Machine.execBootCoreBistDone k pass s
  | .bootRomStart ikm fails bad => Sys2Proof.Machine.execBootRomStart ikm fails bad s
  | .softReset => Sys2Proof.Machine.execSoftReset s
  | .wdogCtlWrite en timeout => Sys2Proof.Machine.execWdogCtlWrite en timeout s
  | .wdogKick v => Sys2Proof.Machine.execWdogKick v s
  | .wdogExpire => Sys2Proof.Machine.execWdogExpire s
  | .regReadComplete t e => Sys2Proof.Machine.execRegReadComplete t e s
  | .ccRpDetect n cc2 rp => Sys2Proof.Machine.execCcRpDetect n cc2 rp s
  | .drpToggle n => Sys2Proof.Machine.execDrpToggle n s
  | .tryDwellExpire n found => Sys2Proof.Machine.execTryDwellExpire n found s
  | .hubPortConnect e what speed => Sys2Proof.Machine.execHubPortConnect e what speed s
  | .audFrameOut => Sys2Proof.Machine.execAudFrameOut s
  | .usbLinkIdleTimer u2 host => Sys2Proof.Machine.execUsbLinkIdleTimer u2 host s
  | .driveShutdownDone n => Sys2Proof.Machine.execDriveShutdownDone n s
  | .snPerstNRelease n => Sys2Proof.Machine.execSnPerstNRelease n s
  | .powerDiePorRelease => Sys2Proof.Machine.execPowerDiePorRelease s

end Sys2Proof.Machine
end

