-- ==== Sys2Proof/Machine/Idle.lean ====
section
/-! DEFINITION. What the block does when no command waits: one TIME cycle passes (DESIGN CHOICE, log entry 1). -/

namespace Sys2Proof.Machine

/-- One TIME cycle of the block's own clocks: time bases, counters and slews advance (R213, R216), the visits of a telemetry pass are made
(R265), the feed controller's tick ends where another begins (R507), the agent sends the answers it owes on ports that have come to RUN (R131), and the engine ports take the packets that have become
eligible (R250, R251), and an engine in TE mode whose GO an accord has cleared enters PSR
(R437); endpoints that have become ready send ERDY, and the base image answers vendor requests that it does not serve (R467, R475). -/
def idle (s : State) : Host.Outcome State Fault Refusal := s.run (fun d => ((d.elapse 1).hswTicks.flushAgent.drainLocal .ok).enterPsr 0 |>.enterPsr 1 |>.sendErdys |>.imageStall)

end Sys2Proof.Machine
end

