-- ==== Sys2Proof/WellFormed.lean ====
section
/-! DEFINITION. Which commands can come from outside: the bounds the spec sets on payloads that their types do not set already. The
meanings take any operands; what is ill-formed here is nothing the block can meet on its pins. -/

namespace Sys2Proof

open Sys2Proof.Machine

/-- A block off the lanes: 272 bytes, and FEC work for at most four lanes (R77, R50). -/
def RxBlk.wf (b : RxBlk) : Bool := b.bytes.length == 272 && b.fec.length ≤ 4

/-- What a register write meets: no word both corrected and uncorrectable (R563, R566). -/
def ActEnv.wf (e : ActEnv) : Bool := e.ces.all (fun w => !e.ues.contains w)

/-- A command that can come from outside. Every other command's operands are bounded by their types. -/
def Instr.wf : Instr → Bool
  | .regWriteActs _ e => ActEnv.wf e
  | .domainClockSwitch _ _ e => ActEnv.wf e
  | .bridgeTransferTimeout _ e => ActEnv.wf e
  | .regReadComplete _ e => ActEnv.wf e
  | .wcmd _ _ _ _ _ e => ActEnv.wf e
  | .capRx _ blk => RxBlk.wf blk
  | .blotResultRx _ blk => RxBlk.wf blk
  | .dataBlockRx _ blk => RxBlk.wf blk
  | .blockRxBad _ blk => RxBlk.wf blk
  | .idleBlockRx _ blk => RxBlk.wf blk
  | .creditRx _ blk => RxBlk.wf blk
  | .wrapNoticeRx _ blk => RxBlk.wf blk
  | .unwrapNoticeRx _ blk => RxBlk.wf blk
  | .tickRx _ blk => RxBlk.wf blk
  | .delayReqRx _ blk => RxBlk.wf blk
  | .delayReplyRx _ blk => RxBlk.wf blk
  | .modeReqRx _ blk => RxBlk.wf blk
  | .modeAckRx _ blk => RxBlk.wf blk
  | .collideRx _ blk => RxBlk.wf blk
  | .accordPrepareRx _ blk => RxBlk.wf blk
  | .accordVoteRx _ blk => RxBlk.wf blk
  | .accordGoRx _ blk => RxBlk.wf blk
  | .accordAbandonRx _ blk => RxBlk.wf blk
  | .authCertRx _ bs => bs.all RxBlk.wf && bs.length ≤ 16
  | .authFinishRx _ bs => bs.all RxBlk.wf && bs.length ≤ 16
  | .authRefuseRx _ bs => bs.all RxBlk.wf && bs.length ≤ 16
  | .rekeyReqRx _ bs => bs.all RxBlk.wf && bs.length ≤ 16
  | .rekeyAckRx _ bs => bs.all RxBlk.wf && bs.length ≤ 16
  | .rekeySwitchRx _ bs => bs.all RxBlk.wf && bs.length ≤ 16
  | .blotWindowEnd _ bits => bits.length ≤ 4
  | .localPacketEntry _ _ payload _ _ => payload.length ≤ 16104
  | .refreshPacketRx _ payload => payload.length ≤ 16104
  | .ethFrameRx _ frame => 1 ≤ frame.length
  | .gwOutPacket _ _ data => data.length ≤ 1024
  | .audIsoOut data => data.length ≤ 1024
  | .sourceCapsRx _ _ _ objs => 1 ≤ objs.length && objs.length ≤ 11
  | .scrubAbort _ ces ues => ces.all (fun w => !ues.contains w)
  | .scrubPassDone ces ues => ces.all (fun w => !ues.contains w)
  | _ => true

end Sys2Proof
end

