-- ==== Sys2Proof/Safety.lean ====
section
/-! DEFINITION. What counts as a safe run, in the terms claims use: every step answers a next state; and the conditions on a state that
statements assume. -/

namespace Sys2Proof.Machine

/-- The step from a state answers a next state. -/
def State.goes (s : State) : Prop := ∃ t, step s = .next t

/-- The state after a number of steps, where none stops. -/
def State.after : Nat → State → Option State
  | 0, s => some s
  | k + 1, s =>
    match step s with
    | .next t => State.after k t
    | _ => none

/-- A run that never stops. -/
def State.safe (s : State) : Prop := ∀ k, (State.after k s).isSome

/-- Every command that waits can come from outside. -/
def State.queueWf (s : State) : Prop := ∀ c ∈ s.pending, Sys2Proof.Instr.wf c = true

/-- Memory is in its canonical form. -/
def State.memWf (s : State) : Prop := Memory.wf s.dev.mem = true

/-! ### Shapes of statements -/

/-- A command completes: `exec` answers a next state, the queue of waiting commands as it was, and the device before and after it
are as `P` says. -/
def Does (c : Instr) (s : State) (P : Dev → Dev → Prop) : Prop :=
  ∃ t, exec c s = .next t ∧ t.pending = s.pending ∧ P s.dev t.dev

/-- Nothing changes but the register fields at the bit addresses listed, and what the present cycle has brought (R12, R14). -/
def Dev.only (d : Dev) (l : List Nat) (e : Dev) : Prop :=
  e = { d with flds := e.flds, cycle := e.cycle } ∧ ∀ f : Fld, f.key ∉ l → e.get f = d.get f

/-- Behind a load that missed a thread runs ahead (R324, R325): no register, no predicate, no pc, no byte of memory and no other thread
changes; only what the thread keeps for its run-ahead, whether it runs ahead, and its counters may. -/
def Dev.AheadOnly (d : Dev) (t : Nat) (e : Dev) : Prop :=
  e.thr t = { d.thr t with ahead := (e.thr t).ahead, shadow := (e.thr t).shadow } ∧ (∀ u, u < 32 → u ≠ t → e.thr u = d.thr u)
  ∧ Dev.only { d with syn := e.syn, freeCtr := e.freeCtr } [(SYN_THn_STAT_RUNAHEAD t).key] e

/-- An instruction `i` of `len` bytes under predicate `p` (R319, R320, R324, R326, R352 to R356): where the words at pc spell another
instruction the thread does not execute this one; a thread that does not run issues nothing; one that runs ahead of a load leaves no
trace; where the memory at pc holds no instruction, what the fetch finds happens in its place; a false predicate retires it without
effect; else `P` says what it does. -/
def Dev.Issued (d : Dev) (t : Fin 32) (i : Instr) (p len : Nat) (P : Prop) (e : Dev) : Prop :=
  if d.fetchesOther t i = true ∨ d.tstate t ≠ 1 then e = d
  else if (d.thr t).wait.isLoad then d.AheadOnly t e
  else match d.fetch t with
    | .raises code addr => e = (d.fetchUe code addr).exc t code addr
    | .nothing => e = (d.perfAdd t 2).retire t 4
    | .insn => if d.pred t p then P else e = (d.perfAdd t 2).retire t len

/-- Thread `t` retires an instruction: nothing of it changes but general registers, predicates, the pc, which becomes `pc`, and what
it waits for; it runs on, or stops where STOP was written; nothing of the other threads changes, and no register but its status and,
where it stops, its start pc. -/
def Dev.Retired (d : Dev) (t pc : Nat) (e : Dev) : Prop :=
  e.thr t = { d.thr t with w := (e.thr t).w, p := (e.thr t).p, pc := pc % 2 ^ 40, wait := .none, stop := false, ahead := 0, shadow := Ahead.reset }
  ∧ (∀ u, u < 32 → u ≠ t → e.thr u = d.thr u)
  ∧ e.get (SYN_THn_STAT_STATE t) = (if (d.thr t).stop then 0 else 1) ∧ e.get (SYN_THn_STAT_RUNAHEAD t) = 0
  ∧ Dev.only { d with syn := e.syn } [(SYN_THn_STAT_STATE t).key, (SYN_THn_STAT_RUNAHEAD t).key, (SYN_THn_PC_LO_PC t).key,
      (SYN_THn_PC_HI_PC t).key] e

/-- Of the general registers of thread `t` only `rd` takes a value; w0 discards it and reads 0 (R320). -/
def Dev.WritesReg (d : Dev) (t rd : Nat) (v : DWord) (e : Dev) : Prop :=
  ∀ r, r < 32 → e.rg t r = if r = 0 then 0 else if r = rd then v else d.rg t r

/-- An instruction of `len` bytes whose one result is a general register. -/
def Dev.Result (d : Dev) (t rd : Nat) (v : DWord) (len : Nat) (e : Dev) : Prop :=
  d.Retired t ((d.thr t).pc + len) e ∧ d.WritesReg t rd v e ∧ (e.thr t).p = (d.thr t).p

/-- An instruction of `len` bytes whose results are predicates: each reads as `f` says; p0 reads true (R320). -/
def Dev.PredResult (d : Dev) (t len : Nat) (f : Nat → Bool) (e : Dev) : Prop :=
  d.Retired t ((d.thr t).pc + len) e ∧ (∀ q, 1 ≤ q → q < 8 → e.pred t q = f q) ∧ e.pred t 0 = true ∧ (e.thr t).w = (d.thr t).w

/-- A transfer of control: the pc takes the target; nothing else of the thread changes but general registers. -/
def Dev.Jumps (d : Dev) (t target : Nat) (e : Dev) : Prop :=
  e.thr t = { d.thr t with w := (e.thr t).w, pc := target / 4 * 4 % 2 ^ 40 }
  ∧ (∀ u, u < 32 → u ≠ t → e.thr u = d.thr u) ∧ e = { d with syn := e.syn }

/-- A precise exception of a thread (R319, R338, R339): outside a handler it is saved and the handler entered; inside one the thread halts. A
STOP written meanwhile stops it then. -/
def Dev.Excepts (d : Dev) (t code : Nat) (addr : Option Nat) (e : Dev) : Prop :=
  e.get (SYN_THn_STAT_CODE t) = code ∧ (e.thr t).w = (d.thr t).w
  ∧ ((d.thr t).active = false → e.mem = d.mem ∧ e.thr t = { d.thr t with
      epc := (d.thr t).pc, code := code, active := true, eaddr := addr.getD (d.thr t).eaddr
      pc := (d.thr t).evbase / 4 * 4 % 2 ^ 40, stop := false }
    ∧ ((d.thr t).stop = true → e.tstate t = 0))
  ∧ ((d.thr t).active = true → e.thr t = { d.thr t with stop := false } ∧ e.tstate t = (if (d.thr t).stop then 0 else 3))

/-- `n` bytes at `a` take the low bytes of `v`, least significant first (R3), and every other byte is as it was. -/
def Dev.Wrote (d : Dev) (a n v : Nat) (e : Dev) : Prop :=
  (∀ k, k < n → e.byte (a + k) = BitVec.ofNat 8 (v / 256 ^ k)) ∧ ∀ c, c < a ∨ a + n ≤ c → e.byte c = d.byte c

/-- What the checker finds on a read at `a`: an uncorrectable error where a read has found one before (R329, R564). -/
def Dev.found (d : Dev) (a : Nat) (x : Ecc) : Ecc := if d.flawed a then .ue else x

/-- A load of `n` bytes into `rd` (R324, R326, R327, R329, R332, R360). -/
def Dev.Loads (d : Dev) (t rd a n : Nat) (signed : Bool) (len : Nat) (miss : Bool) (x : Ecc) (e : Dev) : Prop :=
  if a % n ≠ 0 ∨ (d.region a = .regs ∧ n ≠ 4) then e = d.exc t 2 (some a) ∧ d.Excepts t 2 (some a) e
  else if d.region a = .hole then e = d.exc t 5 (some a) ∧ d.Excepts t 5 (some a) e
  else if d.region a = .regs then e.tstate t = 2 ∧ (e.thr t).wait = .reg (if signed then rd + 32 else rd) a len ∧ e.mem = d.mem
  else if miss = true ∧ (d.region a = .dram ∨ (d.flag (SYN_THn_STAT_RUNAHEAD t) = true ∧ (d.region a = .flash ∨ d.region a = .rom))) then
    e.get (SYN_THn_STAT_RUNAHEAD t) = 1 ∧ (e.thr t).wait = .load rd a n signed len ∧ (e.thr t).pc = (d.thr t).pc ∧ e.mem = d.mem
  else
    let y := (d.dataEcc a (d.found a x)).flashEnd t a n
    let h := y.modThr t (fun z => { z with wait := .none })
    if d.found a x = .ue ∧ (d.region a).checked = true then e = h.exc t 4 (some a) ∧ h.Excepts t 4 (some a) e
    else y.WritesReg t rd (extend n (leNat (y.seenBytes t a n)) signed) e ∧ (e.thr t).pc = ((d.thr t).pc + len) % 2 ^ 40

/-- A store of the low `n` bytes of `v` at `a` (R283, R326, R327, R360, R372, R373). Outside an accord the bytes are stored, and every
other byte is as it was but for the records that an accord aborted by the store posts; inside one they are staged. -/
def Dev.Stores (d : Dev) (t a n v len : Nat) (e : Dev) : Prop :=
  if a % n ≠ 0 ∨ (d.region a = .regs ∧ n ≠ 4) then e = d.exc t 2 (some a) ∧ d.Excepts t 2 (some a) e
  else if d.region a = .hole then e = d.exc t 5 (some a) ∧ d.Excepts t 5 (some a) e
  else if d.spent t then d.Retired t ((d.thr t).pc + len) e ∧ (e.thr t).w = (d.thr t).w ∧ e.mem = d.mem
  else if (d.openOf t).isSome then e = (d.accordStore ((d.openOf t).getD 0) a n v).retire t len
  else if d.region a = .sram ∨ d.region a = .dram then e = ((((d.keepLine a).store a n v).mend a n).memTouched a n 16).retire t len
    ∧ (d.pendingSlots = [] → d.Wrote a n v e)
  else if d.region a = .regs then e = (d.postWrite t a v).retire t len ∧ e.mem = d.mem
  else e = (d.busEvent 0x0004 a t).retire t len

/-- An atomic operation on the 64-bit word at `a`: `rd` takes the old word, the word takes `f` of it (R327, R361, R373). -/
def Dev.Amo (d : Dev) (t rd a : Nat) (x : Ecc) (f : DWord → DWord) (e : Dev) : Prop :=
  let y := (d.dataEcc a (d.found a x)).flashEnd t a 8
  let old := BitVec.ofNat 64 (leNat ((List.range 8).map (fun k => y.memByte (a + k))))
  if a % 8 ≠ 0 ∨ d.region a = .regs then e = d.exc t 2 (some a) ∧ d.Excepts t 2 (some a) e
  else if d.region a = .hole then e = d.exc t 5 (some a) ∧ d.Excepts t 5 (some a) e
  else if (d.openOf t).isSome then e = (d.abortSlot ((d.openOf t).getD 0) 8).retire t 4
  else if d.found a x = .ue ∧ (d.region a).checked = true then e = y.exc t 4 (some a) ∧ y.Excepts t 4 (some a) e
  else e = ((y.plainStore t a 8 (f old).toNat).wr t rd old).retire t 4 ∧ e.rg t rd = (if rd = 0 then 0 else old)

/-- An operation is refused (R547): counted, also as an authentication failure for status 7, with a REFUSE record; the slots, the
values, the queue and what runs stay. -/
def Dev.KeyRefuses (x : Dev) (o : KeyOp) (st : Nat) (e : Dev) : Prop :=
  e = x.keyRefuse o.tag st ∧ e.key = x.key ∧ (∀ n, n < 64 → e.slotOf n = x.slotOf n)
    ∧ e.get KEY_REFUSED_COUNT = (x.inc KEY_REFUSED_COUNT).get KEY_REFUSED_COUNT
    ∧ e.get KEY_AUTHFAIL_COUNT = (if st = 7 then x.inc KEY_AUTHFAIL_COUNT else x).get KEY_AUTHFAIL_COUNT

/-- The key unit takes the operation at the front of its queue (R532, R534, R540, R545, R547): nothing where the queue is empty, the
operation is of another kind or waits, or SEC is not ON; an operation that needs the root is refused with NOROOT where there is none;
else `P` says what starts, from the device with the operation taken off the queue. -/
def Dev.KeyTakes (d : Dev) (op : Nat) (P : KeyOp → Dev → Dev → Prop) (e : Dev) : Prop :=
  match d.key.queue with
  | [] => e = d
  | o :: rest =>
    if o.op ≠ op ∨ d.keyWaits o = true ∨ d.domOn 4 = false then e = d
    else if o.needsRoot = true ∧ d.key.root = none then (keyExpiryCheck (d.setKeyQueue rest)).KeyRefuses o 10 e
    else e.key.queue = rest ∧ P o (keyExpiryCheck (d.setKeyQueue rest)) e

/-- An operation runs from `y` towards a status with an output and a slot that it fills; nothing else changes (R547). -/
def Dev.KeyRuns (y : Dev) (o : KeyOp) (st : Nat) (out : List Byte) (fills : Option Nat) (e : Dev) : Prop :=
  e = { y with key := { y.key with running := y.key.running ++ [⟨o, st, out, fills⟩] } }

/-- An operation that uses a slot (R538, R540, R542, R547): refused with the status of the slot where it may not be used; else `P`,
from the device with the slot loaded again where it had lost its value. -/
def Dev.KeyUses (y : Dev) (o : KeyOp) (n a b : Nat) (P : Dev → Dev → Prop) (e : Dev) : Prop :=
  if (y.useSlot n a b).1 ≠ 0 then (y.useSlot n a b).2.KeyRefuses o (y.useSlot n a b).1 e else P (y.useSlot n a b).2 e

/-! ### Blocks off the lanes -/

/-- A port that does not take blocks leaves a bad one; else it is counted and a NAK is owed, and the 1,024th failed tag within a second
ends a segment that has a receive key (R79, R84, R98). -/
def Dev.TakesBad (p : Nat) (d e : Dev) : Prop :=
  let fails := (d.lnk p).tagFails.filter (fun t => d.cyc < t + 500000000) ++ [d.cyc]
  if d.linkUp p = false then e = d
  else if (d.lnk p).rxKey = none ∧ (d.lnk p).rxNext = none then
    e.lnk p = { d.lnk p with akind := 2, ackOwed := true } ∧ e = { d.inc (LNK_RXBAD_COUNT p) with links := e.links }
  else if fails.length < 1024 then
    e.lnk p = { d.lnk p with akind := 2, ackOwed := true, tagFails := fails } ∧ e = { d.inc (LNK_RXBAD_COUNT p) with links := e.links }
  else e = ((((d.inc (LNK_RXBAD_COUNT p)).oweNak p).modLnk p (fun l => { l with tagFails := fails })).raise (LNK_EVT_TAG_STORM p)).linkFail p 5

/-- Each key of a port has room for one more block (R99). -/
def Dev.keysYoung (d : Dev) (p : Nat) : Prop :=
  ∀ k ∈ [(d.lnk p).txKey, (d.lnk p).rxKey, (d.lnk p).rxNext.map (·.1)], (k.map (·.blocks)).getD 0 + 1 < 2 ^ 32

/-- A block off the lanes (R79): a bad one is taken as one; a good one of the command's kind does as `P` says, from the device with its FEC
work and its key's block counted, where the port's keys have room for it; one of another kind is no event of this command. -/
def Dev.Receives (d : Dev) (p : Nat) (b : RxBlk) (kind : BlkHdr → List Byte → Bool) (P : BlkHdr → List Byte → Dev → Dev → Prop) (e : Dev) :
    Prop :=
  match d.opened p b with
  | none => (d.fecCounts p b.fec).TakesBad p e
  | some (h, l) => if kind h l = false then e = d else d.keysYoung p → P h l ((d.fecCounts p b.fec).countRx p h) e

/-- How far a sequence number lies ahead of the one expected, modulo 4,096 (R84). -/
def Dev.ahead (d : Dev) (p seq : Nat) : Nat := (seq + 4096 - (d.lnk p).rxExp % 4096) % 4096

/-- A sequenced block in a port that takes blocks, its fields read: `P` from the device with the block accepted, where its number is
the expected one; ahead of it a NAK, behind it an acknowledgement is owed (R81, R82, R84, R91). -/
def Dev.Sequenced (p : Nat) (h : BlkHdr) (P : Dev → Dev → Prop) (d e : Dev) : Prop :=
  let y := d.fields p h
  if d.linkUp p = false then e = d
  else if y.linkUp p = false then e = y
  else if y.ahead p h.seq = 0 then
    P (((y.modLnk p (fun l => { l with rxExp := l.rxExp + 1, akind := 1, ackOwed := true })).inc (LNK_RXSEQ_COUNT p)).turnKey p) e
  else e.lnk p = { y.lnk p with akind := if y.ahead p h.seq < 2048 then 2 else (y.lnk p).akind, ackOwed := true }
    ∧ e = { y.inc (LNK_RXOOS_COUNT p) with links := e.links }

/-- An unsequenced block in a port that takes blocks (R84, R97): an encrypted one whose NONCE does not rise is discarded; else its
fields are read, a NAK is owed where it shows that blocks are missing, and `P` says what it carries. -/
def Dev.Unsequenced (p : Nat) (h : BlkHdr) (P : Dev → Dev → Prop) (d e : Dev) : Prop :=
  let y := (d.modLnk p (fun l => { l with nonceRx := if h.nonce = 0 then l.nonceRx else h.nonce })).fields p h
  if d.linkUp p = false ∨ ((d.keyOf p h).isSome ∧ h.nonce ≤ (d.lnk p).nonceRx) then e = d
  else if y.linkUp p = false then e = y
  else P (if 1 ≤ y.ahead p h.seq ∧ y.ahead p h.seq < 2048 then y.oweNak p else y) e

/-- A sequenced control block of a type and subtype: what it carries acts in ADMIT and RUN (R100). -/
def Dev.ReceivesCtl (d : Dev) (p : Nat) (b : RxBlk) (ty sub : Nat) (P : List Byte → Dev → Dev → Prop) (e : Dev) : Prop :=
  d.Receives p b (fun h l => h.ty == ty && fieldGet 0 1 0 8 l == sub)
    (fun h l => Dev.Sequenced p h (fun y e => if y.carriesCtl p then P l y e else e = y)) e

/-- An unsequenced control block of a type and, where it has them, a subtype. -/
def Dev.ReceivesFree (d : Dev) (p : Nat) (b : RxBlk) (ty : Nat) (sub : Option Nat) (P : List Byte → Dev → Dev → Prop) (e : Dev) : Prop :=
  d.Receives p b (freeKind ty sub) (fun h l => Dev.Unsequenced p h (P l)) e

/-- A block of an AUTH message, in AUTH, ADMIT or RUN (R82, R94): the message acts as `P` says where the block completes it; else the
fragment waits for the others. -/
def Dev.HearsBlock (d : Dev) (p msg : Nat) (P : List Byte → Dev → Dev → Prop) (b : RxBlk) (e : Dev) : Prop :=
  d.Receives p b (fun h l => h.ty == 15 && fieldGet 0 1 0 8 l == msg)
    (fun h l => Dev.Sequenced p h (fun y e =>
      if y.linkState p < 2 ∨ 4 < y.linkState p then e = y
      else match y.addFrag p (fragOf h.len l) with
        | (some body, z) => P body z e
        | (none, z) => e = z ∧ e = { y with links := e.links })) e

/-- The blocks of an AUTH message in order (R82, R94); `f` is what the model does with a whole message, and `P` says what that is. -/
def Dev.Hears (p msg : Nat) (f : List Byte → Dev → Dev) (P : List Byte → Dev → Dev → Prop) : List RxBlk → Dev → Dev → Prop
  | [], d, e => e = d
  | b :: t, d, e => d.HearsBlock p msg P b (d.authBlock p msg f b) ∧ Dev.Hears p msg f P t (d.authBlock p msg f b) e

/-! ### The Enique agent -/

/-- The agent has not acted on a transaction of a sender yet (R124). -/
def Dev.Unheard (d : Dev) (origin xid : Nat) : Prop :=
  d.enq.answers.find? (fun a => a.1 == (origin, xid)) = none ∧ d.enq.admits.any (fun a => a.1 == origin && a.2.1 == xid) = false

/-- The agent has answered a transaction, and keeps the answer for its repeats (R124). -/
def Dev.Answered (d : Dev) (origin xid code : Nat) (body : List Nat) : Prop :=
  ((origin, xid), some ⟨code, false, xid, body, none⟩) ∈ d.enq.answers

/-! ### Threads issue -/

/-- A thread issues the instruction `i`, with predicate `p` true: it runs, awaits no load, and the words at its pc spell `i` (R319, R320,
R324, R326, R352 to R356). -/
def Dev.mayIssue (d : Dev) (t : Fin 32) (i : Instr) (p : Nat) : Prop :=
  d.tstate t = 1 ∧ (d.thr t).wait.isLoad = false ∧ d.fetch t = .insn ∧ d.insnAt t = some (quiet i) ∧ d.pred t p = true

/-- A store of `n` bytes at `a` by a thread reaches memory at once (R283, R326, R327, R372): aligned, in CTL SRAM or DRAM, outside an
accord, with no accord pending that the store could abort. -/
abbrev Dev.storesAtOnce (d : Dev) (t a n : Nat) : Prop :=
  a % n = 0 ∧ (d.region a = .sram ∨ d.region a = .dram) ∧ d.openOf t = none ∧ d.spent t = false ∧ d.pendingSlots = []

/-- ALIGN raised for an access at `a` that is not performed (R327, R338, R339): no general register changes, and outside a handler the
handler is entered with the address, and no byte of memory changes. -/
def Dev.RaisesAlign (d : Dev) (t a : Nat) (e : Dev) : Prop :=
  e = d.exc t 2 (some a) ∧ e.get (SYN_THn_STAT_CODE t) = 2 ∧ (e.thr t).w = (d.thr t).w
  ∧ ((d.thr t).active = false → e.mem = d.mem ∧ e.thr t = { d.thr t with
      epc := (d.thr t).pc, code := 2, active := true, eaddr := a, pc := (d.thr t).evbase / 4 * 4 % 2 ^ 40, stop := false })

/-! ### Records -/

/-- A record for an event queue (R333 to R336): stored at WR where CTL SRAM holds the slot, and WR moves on; counted and noted where the
ring is full; counted as unrouted where the queue is not in use. -/
def Dev.PostsTo (d : Dev) (q : Nat) (r : EvRec) (e : Dev) : Prop :=
  if d.evqOn q = false then e.get SYN_EV_UNROUTED_COUNT = (d.get SYN_EV_UNROUTED_COUNT + 1) % 2 ^ 32 ∧ d.only [SYN_EV_UNROUTED_COUNT.key] e
  else if d.evqFull q = true then e.get (SYN_EVQq_DROP_COUNT q) = (d.get (SYN_EVQq_DROP_COUNT q) + 1) % 2 ^ 32
    ∧ e.evqLost.get q 0 = d.evqLost.get q 0 + 1 ∧ e.mem = d.mem
  else e.get (SYN_EVQq_WR_IDX q) = (d.get (SYN_EVQq_WR_IDX q) + 1) % d.evqSize q
    ∧ (16 * d.get (SYN_EVQq_CFG_BASE q) + 16 * d.get (SYN_EVQq_WR_IDX q) + 16 ≤ 0x200000 → ∀ k, k < 16 →
        e.byte (16 * d.get (SYN_EVQq_CFG_BASE q) + 16 * d.get (SYN_EVQq_WR_IDX q) + k) = BitVec.ofNat 8 (r.word / 256 ^ k))

/-- A record of a source with a route (R335, R349), while CTL is ON. -/
def Dev.Routed (d : Dev) (r : EvRec) (e : Dev) : Prop :=
  d.domOn 1 = true → match d.route r.src with
    | some q => d.PostsTo q r e
    | none => e.get SYN_EV_UNROUTED_COUNT = (d.get SYN_EV_UNROUTED_COUNT + 1) % 2 ^ 32

/-! ### Packets -/

/-- No packet waits at an engine port (R188, R250). -/
abbrev Dev.enginesIdle (d : Dev) : Prop := (d.sw.queues.all (fun x => queueEgress x.1 < 20)) = true

/-- No packet waits at a local source, and no thread waits to send one (R164, R366). -/
abbrev Dev.sourcesIdle (d : Dev) : Prop :=
  d.waits = [] ∧ (List.range 32).all (fun t => match (d.thr t).wait with
    | .send _ _ => false
    | _ => true) = true

/-- The switch core takes a packet of `n` cells from an ingress for a queue on-chip at once (R190, R193 to R195): it runs, no claim is
pending, the ingress holds no packet, nothing of the queue is spilled, its on-chip part is below its threshold, and SHARED has room. -/
abbrev Dev.takesPacket (d : Dev) (ing q n : Nat) : Prop :=
  d.flag SWC_CTL_EN = true ∧ d.sw.claims = [] ∧ d.sw.held.get ing [] = [] ∧ d.get (SWQ_W3_SPILLED q) = 0
  ∧ d.get (SWQ_W2_OCC q) < d.threshold q ∧ n ≤ d.freeShared

/-- One more packet stands at the end of a queue: its header and its bytes. -/
def Dev.Queued (d : Dev) (q : Nat) (h : THdr) (l : List Byte) (e : Dev) : Prop :=
  e.queue q = d.queue q ++ [d.sw.nextPkt] ∧ (e.pkt d.sw.nextPkt).map (fun k => (k.hdr, k.data)) = some (h, l)

/-- A packet that the hub builds goes out on the one port `p` of its context, which is open, and the switch core takes it at once: it
stands in the port's queue with its STAMP and CRC (R106, R149, R194). -/
def Dev.Sends (d : Dev) (p sq : Nat) (h : THdr) (payload : List Byte) (e : Dev) : Prop :=
  h.g = false → d.openFor p h.cls = true →
    d.takesPacket 20 (portQueue p sq) (cellsOf (packetBytes h payload d.stamp)).length →
      d.Queued (portQueue p sq) h (packetBytes h payload d.stamp) e

/-- The request at the front of an STO queue, where it is of the operation or of none of R399 (R398 to R404): it leaves the queue; without a
binding it is only answered; a new ID is counted and becomes H, and the request is completed at once where it is unsound or its drive is not
READY, else it waits with the others of its binding; a known ID is answered from the cache, or counted while it runs; an old one is stale. -/
def Dev.StoRequests (d : Dev) (op lq : Nat) (rec_ : List Byte) (e : Dev) : Prop :=
  match d.port.inq.get (1120 + lq) [] with
  | [] => e = d
  | x :: t =>
    let o := beNat (x.payload.take 1)
    let r := parseReq x.ctx x.payload
    if x.hdr.kind ≠ 0 ∨ (o ≠ op ∧ o ≠ 0 ∧ o ≤ 5) then e = d
    else e = (d.modPort (fun p => { p with inq := p.inq.set (1120 + lq) t [] })).request x.ctx x.payload rec_
      ∧ (d.enginesIdle → e.port.inq.get (1120 + lq) [] = t)
      ∧ (match d.bindingOf x.ctx with
        | none => e.sto = d.sto
        | some b =>
          if (d.win b).high.all (fun h => 1 ≤ (r.id + 2 ^ 32 - h) % 2 ^ 32 && (r.id + 2 ^ 32 - h) % 2 ^ 32 < 2 ^ 31) = true then
            e.get (STO_Sn_REQS_COUNT (b / 64)) = (d.get (STO_Sn_REQS_COUNT (b / 64)) + 1) % 2 ^ 32 ∧ (e.win b).high = some r.id
            ∧ (if r.sound x.payload.length = false ∨ (r.op ≠ 5 ∧ (d.stoState (b / 64) ≠ 2 ∨ (d.drive (b / 64)).shut = true)) then
                (e.win b).reqs.all (fun q => q.id != r.id) = true
              else r.op ≠ 5 → (d.win b).reqs.all (fun q => q.op != 5) = true → (e.win b).reqs.map (·.id) = (d.win b).reqs.map (·.id) ++ [r.id])
          else if (d.win b).within r.id = false then
            e.get (STO_Sn_STALE_COUNT (b / 64)) = (d.get (STO_Sn_STALE_COUNT (b / 64)) + 1) % 2 ^ 32 ∧ e.sto = d.sto
          else match (d.win b).cache.find r.id with
            | some _ => e.get (STO_Sn_DUP_CACHED_COUNT (b / 64)) = (d.get (STO_Sn_DUP_CACHED_COUNT (b / 64)) + 1) % 2 ^ 32 ∧ e.sto = d.sto
            | none => if (d.win b).reqs.any (fun q => q.id == r.id) = true then
                e.get (STO_Sn_DUP_INFLIGHT_COUNT (b / 64)) = (d.get (STO_Sn_DUP_INFLIGHT_COUNT (b / 64)) + 1) % 2 ^ 32 ∧ e.sto = d.sto
              else e.get (STO_Sn_REQS_COUNT (b / 64)) = (d.get (STO_Sn_REQS_COUNT (b / 64)) + 1) % 2 ^ 32)

/-- A command of an indirect window (R16, R153, R211, R276, R558): discarded while DONE reads 0; else it takes effect, and DONE reads 0 until
time passes. -/
def Dev.Windowed (d : Dev) (done : Fld) (P : Prop) (e : Dev) : Prop :=
  if d.get done = 0 then e = d else e.get done = 0 ∧ e.cycle.windows = d.cycle.windows ++ [done.key] ∧ P

/-! ### Panels -/

/-- Software's refresh request, or the ingest's (R445): within 1 ms of the last one it waits, merged with the one that waits; else it goes
out, and is counted where the context is a panel's. -/
def Dev.AsksRefresh (d : Dev) (c : Nat) (r : Refresh) (e : Dev) : Prop :=
  if (match (d.ctx c).refreshAt with
    | some t => decide (d.now < t + 1000000)
    | none => false) = true then
    e = { d with port := e.port } ∧ e.port.refresh.get c none = some (match d.port.refresh.get c none with
      | some w => w.merge r
      | none => r)
  else e = d.sendRefresh c r ∧ (d.enginesIdle → e.port.refresh.get c none = none ∧ (e.ctx c).refreshAt = some d.now
    ∧ (d.get (CTX_W1_LPORT c) = 3 → d.get (CTX_W1_LQ c) < 2 →
        e.get (DSO_IN_REFRESHn_COUNT (d.get (CTX_W1_LQ c))) = (d.get (DSO_IN_REFRESHn_COUNT (d.get (CTX_W1_LQ c))) + 1) % 2 ^ 32))

/-- The pending set of an engine applies (R444, R446, R447, R449): it is the active set, GO clears unless software writes it in the same
cycle (R14), FLIPs taken are served, and a change of FRONT is stamped with its event. -/
def Dev.Commits (d : Dev) (n : Nat) (e : Dev) : Prop :=
  (e.panel n).active = d.flds.filter (fun x => inSet n x.1)
  ∧ e.get (DSO_Dn_APPLIED_COUNT n) = (d.get (DSO_Dn_APPLIED_COUNT n) + 1) % 2 ^ 32
  ∧ (d.writtenNow (DSO_Dn_COMMIT_GO n) = false → e.get (DSO_Dn_COMMIT_GO n) = 0)
  ∧ (e.ingest n).flipped = [] ∧ (e.ingest n).notBefore = []
  ∧ ((List.range 4).any (fun l => (d.panel n).active.get (DSO_Dn_Ll_CFG_FRONT n l).key 0 != d.get (DSO_Dn_Ll_CFG_FRONT n l)) = true →
      e.get (DSO_Dn_EVT_FLIP n) = 1 ∧ e.get (DSO_Dn_FLIPTS_SEC_SEC n) = (d.tb 0).sec % 2 ^ 32
      ∧ e.get (DSO_Dn_FLIPTS_NS_NS n) = (d.tb 0).ns % 2 ^ (DSO_Dn_FLIPTS_NS_NS n).w)

/-- The state that an engine's hot plug detect leaves it in (R436, R437): no video where its output carries none; NOLINK trains where HPD
is high. -/
def Dev.stateFor (d : Dev) (n : Nat) (h : Bool) : Nat :=
  if d.carries n = false ∧ (d.dso n = 1 ∨ d.dso n = 2 ∨ d.dso n = 3) then 4 else if h = true ∧ d.dso n = 4 then 1 else d.dso n

/-- The delta at the front of an output's queue, where it is of the operation or of none of R440 (R440, R443, R444, R458): it leaves the
queue and is counted; malformed or out of bounds it is counted as such and a refresh asked for; else `P` says what it does. -/
def Dev.TakesDelta (d : Dev) (n op : Nat) (P : Nat → Delta → Dev → Dev → Prop) (e : Dev) : Prop :=
  match d.port.inq.get (1152 + n) [] with
  | [] => e = d
  | x :: t =>
    let l := x.payload
    let o := beNat (l.take 1)
    let h := parseDelta l
    if d.flag DSO_IN_CTL_EN = false ∨ (o ≠ op ∧ o ≠ 0 ∧ o ≤ 3) ∨ (d.ingest n).holds l = true then e = d
    else
      let z := (d.modPort (fun p => { p with inq := p.inq.set (1152 + n) t [] })).inc (DSO_IN_PKTSn_COUNT n)
      let y := if 16 ≤ l.length then z.set (DSO_IN_FRAMEn_FRAME n) h.frame else z
      (d.enginesIdle → e.port.inq.get (1152 + n) [] = t)
      ∧ e.get (DSO_IN_PKTSn_COUNT n) = (d.get (DSO_IN_PKTSn_COUNT n) + 1) % 2 ^ 32
      ∧ (16 ≤ l.length → e.get (DSO_IN_FRAMEn_FRAME n) = h.frame % 2 ^ 32)
      ∧ (if d.paired = true ∧ n = 1 then e.get (DSO_IN_MALFORMEDn_COUNT n) = (d.get (DSO_IN_MALFORMEDn_COUNT n) + 1) % 2 ^ 32
          ∧ (y.inc (DSO_IN_MALFORMEDn_COUNT n)).AsksRefresh x.ctx ⟨3, if l.length < 16 ∨ o = 2 ∨ 3 < h.layer then 0xFF else h.layer, 0, 0, 0, 0⟩ e
        else if l.length < 16 ∨ o = 0 ∨ 3 < o ∨ (if o = 1 then 2 else 0) < h.enc ∨ (o ≠ 2 ∧ 3 < h.layer) then
          e.get (DSO_IN_MALFORMEDn_COUNT n) = (d.get (DSO_IN_MALFORMEDn_COUNT n) + 1) % 2 ^ 32
          ∧ (y.inc (DSO_IN_MALFORMEDn_COUNT n)).AsksRefresh x.ctx ⟨1, if l.length < 16 ∨ o = 2 ∨ 3 < h.layer then 0xFF else h.layer, 0, 0, 0, 0⟩ e
        else if o ≠ 2 ∧ d.flag (DSO_Dn_Ll_CFG_EN n h.layer) = false then
          e.get (DSO_IN_BOUNDSn_COUNT n) = (d.get (DSO_IN_BOUNDSn_COUNT n) + 1) % 2 ^ 32 ∧ e = y.inc (DSO_IN_BOUNDSn_COUNT n)
        else P x.ctx h y e)

/-! ### Power domains -/

/-- What QUIESCE leaves of a domain (R516). -/
def Dev.Quiesced (d : Dev) (n : Nat) (ret : Bool) (e : Dev) : Prop :=
  (n = 1 → e.aon.bridgeUp = false) ∧ (n = 2 → ret = true → e.get DDR_STAT_SELFREF = 1)
  ∧ (n = 3 → e.sw = SwitchPart.reset)
  ∧ (n = 5 → e.get (TRK_STAT_STATE 0) = 0) ∧ (n = 6 → e.get (TRK_STAT_STATE 1) = 0)
  ∧ (n = 7 → ∀ k ∈ List.range 4, e.get (TCL_STAT_STATE k) = 0)
  ∧ (n = 8 → ∀ k ∈ List.range 4, e.get (TCL_STAT_STATE (4 + k)) = 0)
  ∧ (n = 10 → e.dso 0 = 0 ∧ e.dso 1 = 0)
  ∧ (n = 12 → e.get USB_STAT_SPEED = 0 ∧ (d.get USB_STAT_SPEED ≠ 0 → e.get USB_STAT_CONFIGURED = 0))

/-! ### The feed controller -/

/-- Nothing that a later event of the same evaluation tick could displace has come in the present one (R507). -/
abbrev Dev.quietTick (d : Dev) : Prop := d.hsw.meets = { HswMeet.none with tick := d.hsw.meets.tick }

/-- The state that a start over leads to (R492, R505): UNSEATED, LOCKOUT with both feeds locked out, else SELECT. -/
def Dev.selectState (d : Dev) : Nat :=
  if d.get HSW_STAT_SEAT0 = 0 ∨ d.get HSW_STAT_SEAT1 = 0 then 1
  else if d.get HSW_STAT_LOCK_A = 1 ∧ d.get HSW_STAT_LOCK_B = 1 then 9 else 3

/-- A trip after an on time in µs (R500, R501, R507, R510): PGOOD and the fault timer end, the gate stays off for 100 times the on time or
RETRY_MIN, and RETRY_WAIT follows, or LATCHED with no retry left. A fast trip is counted at once, a slow one with its tick. -/
def Dev.TripsHsw (d : Dev) (fast : Bool) (us : Nat) (e : Dev) : Prop :=
  e = d.trip fast us ∧ e.get HSW_STAT_PGOOD = 0 ∧ e.get HSW_STAT_FT_RUN = 0
  ∧ (fast = true → e.get HSW_EVT_FAST_TRIP = 1 ∧ e.get HSW_FAST_TRIPS_COUNT = (d.get HSW_FAST_TRIPS_COUNT + 1) % 2 ^ 32)
  ∧ (d.quietTick → e.hsw.offLeft = max (10 * us) (1000 * d.get HSW_TIMER_RETRY_MIN)
    ∧ e.get HSW_HIST_TRIPS = min (2 ^ HSW_HIST_TRIPS.w - 1) (d.get HSW_HIST_TRIPS + 1)
    ∧ e.get HSW_HIST_WAIT = min 0xFFFF ((e.hsw.offLeft + 99) / 100)
    ∧ (if d.get HSW_RETRY_COUNT = 255 ∨ d.get HSW_HIST_RETRIES < d.get HSW_RETRY_COUNT then e.hswState = 7
      else e.hswState = 8 ∧ e.get HSW_EVT_LATCHED = 1)
    ∧ (fast = false → e.hswTick.get HSW_EVT_SLOW_TRIP = 1
      ∧ e.hswTick.get HSW_SLOW_TRIPS_COUNT = (d.get HSW_SLOW_TRIPS_COUNT + 1) % 2 ^ 32))

/-- The selected feed is lost in RAMP or ON (R491, R505): the other is selected and switched to where it is valid, else the controller
starts over. -/
def Dev.LosesFeed (d e : Dev) : Prop :=
  if d.feedValid (1 - d.feed) = true then e.hswState = 6 ∧ e.feed = 1 - d.feed ∧ e.get HSW_EVT_SWITCHOVER = 1
    ∧ e.get HSW_SWITCHOVERS_COUNT = (d.get HSW_SWITCHOVERS_COUNT + 1) % 2 ^ 32
  else e.hswState = d.selectState ∧ e.get HSW_STAT_PGOOD = 0

/-! ### USB -/

/-- A transfer whose status stage has not completed is abandoned (R474): its buffer is discarded, and its event is posted. -/
def Dev.Abandons (d e : Dev) : Prop :=
  d.phase = 1 ∨ d.phase = 2 → e.get USB_EVT_CTRL_ABORT = 1 ∧ ∀ k ∈ List.range 256, e.get (USB_CBUFk_WORD k) = 0

/-- What a reset on the bus or a disconnect leaves (R461, R469, R474, R477): the function unconfigured at address 0 and awake, nothing that
the host had set, no gateway holding a packet, no port enabled, and no transfer waiting. -/
def Dev.BusCleared (d e : Dev) : Prop :=
  e.get USB_STAT_ADDR = 0 ∧ e.get USB_STAT_CONFIGURED = 0 ∧ e.get USB_STAT_RWAKE_EN = 0 ∧ e.get USB_STAT_SUSPENDED = 0
  ∧ e.get USB_STAT_L1 = 0 ∧ e.get USB_STAT_ULINK = 0 ∧ e.get AUD_STAT_RUN = 0
  ∧ e.usb.fn = FnPart.reset ∧ e.usb.hubs = [] ∧ e.usb.inner = [] ∧ e.usb.waking = false ∧ e.usb.alt = false
  ∧ (∀ g ∈ List.range 8, e.gw g = Gateway.reset ∧ e.port.inq.get (1184 + g) [] = [])
  ∧ (∀ p ∈ List.range 15, e.get (USB_HPp_ENABLED p) = 0 ∧ e.get (USB_HPp_SUSP p) = 0)
  ∧ (d.get USB_STAT_CONFIGURED = 1 → e.get USB_EVT_CONFIG = 1) ∧ d.Abandons e
  ∧ (d.phase = 1 ∨ d.phase = 2 → e.phase = 4 ∧ e.get USB_CTRL_STAT_DLEN = 0 ∧ e.usb.stale = true)

/-- An endpoint that is not ready answers NAK, or at SuperSpeed NRDY, and then owes an ERDY (R467). -/
def Dev.NotReady (d : Dev) (ep : Nat) (e : Dev) : Prop :=
  if 2 ≤ d.get USB_STAT_SPEED then e.usb.shake = .nrdy ∧ ep ∈ e.usb.fn.nrdy ∧ e = { d with usb := e.usb }
  else e = { d with usb := { d.usb with shake := .nak } }

/-- A vendor request served as a held accord of one word of thread `t` (R309, R475): STALL where no two slots are free, or accords are off;
else an accord is opened, and the word staged and held for the status stage, or the request is stalled where the word is refused. -/
def Dev.HoldsWord (d : Dev) (e : Dev) : Prop :=
  if d.freeSlots.length < 2 ∨ d.flag ACD_CTL_EN = false then e.phase = 3 ∧ e.usb = { d.usb with shake := .stall }
    ∧ Dev.only { d with usb := e.usb } [USB_CTRL_STAT_PHASE.key] e
  else e.get ACD_SERIAL_SERIAL = (d.get ACD_SERIAL_SERIAL + 1) % 2 ^ ACD_SERIAL_SERIAL.w
    ∧ ((e.usb.armed = true ∧ (e.accSlot (d.freeSlots.headD 0)).tag = some (d.get USB_CTRL_STAT_TAG)
        ∧ e.get (ACD_SLOTn_STAT_STATE (d.freeSlots.headD 0)) = 3 ∧ e.get (ACD_SLOTn_STAT_KIND (d.freeSlots.headD 0)) = 3)
      ∨ (e.phase = 3 ∧ e.usb.shake = .stall))

/-! ### Type-C ports -/

/-- A message received from the partner, or from the cable (R409): without a partner, and where its MessageID is that of the message last
taken, nothing changes; else the MessageID is kept and `P` says what the message does. -/
def Dev.Heard (d : Dev) (n : Nat) (cable : Bool) (id : Nat) (P : Dev → Dev → Prop) (e : Dev) : Prop :=
  if d.attached n = false ∨ (if cable then (d.pc n).heardCable else (d.pc n).heard) = some id then e = d
  else P (d.modPc n (fun x => if cable then { x with heardCable := some id } else { x with heard := some id })) e

/-- Neither a request for power nor a reclaim is under way, and no port waits for power (R416 to R418). -/
abbrev Dev.powerIdle (d : Dev) : Prop := d.pdc.busy = none ∧ d.pdc.asks = [] ∧ d.waitingPower = []

/-- A port (8: the node) asks for power (R416, R417): nothing changes where it is there. Where the budget is idle, the victim is offered what
the shortfall leaves it, at least its floor, and counted; without one a port is left as it is, and the node sheds until the allocations fit. -/
def Dev.AsksPower (d : Dev) (who need : Nat) (e : Dev) : Prop :=
  if d.shortfall who need = 0 then e = d
  else e = d.askPower who need ∧ (d.powerIdle →
    match d.victim (if who = 8 then none else some (d.get (PDC_Pn_CFG_PRIO who))) with
    | some q => e.pdc.busy = some q ∧ e.pdc.asks = [(who, need)]
        ∧ e.get PDC_RECLAIMS_COUNT = (d.get PDC_RECLAIMS_COUNT + 1) % 2 ^ 32
        ∧ (e.pc q).offer = max (d.minW q) (d.get (PDC_Pn_ALLOC_W q) - d.shortfall who need)
        ∧ (e.pc q).sent = some (.sourceCaps (d.pdos q (e.pc q).offer)) ∧ (e.pc q).wait = .request
    | none => e.pdc.asks = [] ∧ (who = 8 → e.sumAlloc ≤ d.get PDC_NODE_NODE_W) ∧ (who ≠ 8 → e = d))

/-- A port attaches as Source with an Rp, or hosts a debug accessory (R408, R417, R419, R432). -/
def Dev.AttachesSource (n r : Nat) (debug : Bool) (e : Dev) : Prop :=
  e.conn n = (if debug then 4 else 2) ∧ e.get (PDC_Pn_STAT_RPCUR n) = r ∧ e.get (PDC_Pn_STAT_DFP n) = 1
  ∧ e.get (PDC_Pn_ALLOC_W n) = rpPower r ∧ e.get (PDC_Pn_CONTRACT_VOLT n) = 250 ∧ e.get (PDC_Pn_CONTRACT_POS n) = 0
  ∧ (e.pc n).phase = 2 ∧ (e.pc n).asked = 5000 ∧ e.get (PDC_Pn_EVT_ATTACH n) = 1

/-- A Hard Reset of a port (R410, R427, R430): counted, with its event; the contract and the mode end and the switch opens; own swaps end
TIMEOUT. Where the budget is idle a Source asks for 5 V again with its Rp's power, and a Sink is UFP. -/
def Dev.HardResets (d : Dev) (n : Nat) (e : Dev) : Prop :=
  e = d.hardReset n ∧ e.get (PDC_Pn_HRESET_COUNT n) = (d.get (PDC_Pn_HRESET_COUNT n) + 1) % 2 ^ 32
  ∧ e.get (PDC_Pn_EVT_HARD_RESET n) = 1 ∧ e.get (PDC_Pn_STAT_EXPLICIT n) = 0 ∧ e.get (PDC_Pn_STAT_EPR n) = 0
  ∧ e.get (PDC_Pn_STAT_ALT n) = 0 ∧ (e.pc n).closed = false ∧ (e.pc n).own = none ∧ (e.pc n).vdm = 0
  ∧ ((d.pc n).own.isSome = true → (d.pc n).byCmd = true → e.get (PDC_Pn_CMDRES_RESULT n) = 3 ∧ e.get (PDC_Pn_CMDRES_DONE n) = 1)
  ∧ (d.powerIdle → e.conn n = d.conn n ∧ e.get (PDC_Pn_STAT_DFP n) = b2n (d.isSource n)
    ∧ e.get (PDC_Pn_CONTRACT_VOLT n) = 250 ∧ e.get (PDC_Pn_CONTRACT_POS n) = 0
    ∧ (d.isSource n = true → (e.pc n).phase = 2 ∧ (e.pc n).asked = 5000
      ∧ e.get (PDC_Pn_ALLOC_W n) = rpPower (d.get (PDC_Pn_STAT_RPCUR n))))

/-- A contract takes effect (R412, R416, R432): its registers, its event, a Source's allocation. -/
def Dev.ContractTakes (d : Dev) (n : Nat) (c : Contract) (e : Dev) : Prop :=
  e = d.contractDone n c ∧ e.get (PDC_Pn_EVT_CONTRACT n) = 1
  ∧ (d.pdc.asks = [] → d.waitingPower = [] → e.get (PDC_Pn_STAT_EXPLICIT n) = 1 ∧ e.get (PDC_Pn_CONTRACT_VOLT n) = c.mv / 20 % 2 ^ 12
    ∧ e.get (PDC_Pn_CONTRACT_CUR n) = c.ma / 10 % 2 ^ 10 ∧ e.get (PDC_Pn_CONTRACT_POS n) = c.pos % 2 ^ 4
    ∧ e.get (PDC_Pn_CONTRACT_TYPE n) = c.ty % 2 ^ 2 ∧ e.get (PDC_Pn_CONTRACT_SINK n) = b2n c.sink
    ∧ e.get (PDC_Pn_ALLOC_W n) = (if c.sink then d.get (PDC_Pn_ALLOC_W n) else c.alloc % 2 ^ 16)
    ∧ (e.pc n).now = some c ∧ (e.pc n).pend = none ∧ (e.pc n).phase = 0 ∧ (e.pc n).wait = .none)

/-- A swap request of the partner (R422, R423): a Source whose own request is out answers Wait; else the answer is Accept or Reject, and a
request of the port's own is retried behind the partner's swap, or ends OVERTAKEN where it has been retried. -/
def Dev.SwapIn (d : Dev) (n k : Nat) (accept : Bool) (e : Dev) : Prop :=
  e = d.swapIn n k accept ∧ (if (d.pc n).swap = .sent ∧ d.isSource n = true then (e.pc n).sent = some .wait ∧ (e.pc n).swap = .sent
    else if accept = false then (e.pc n).sent = some .reject ∧ (e.pc n).swapping = (d.pc n).swapping
      ∧ (e.pc n).own = (if (d.pc n).swap = .sent ∧ (d.pc n).retried = true then none else (d.pc n).own)
      ∧ ((d.pc n).swap = .sent → (d.pc n).retried = false → (e.pc n).retried = true ∧ (e.pc n).swap = .again)
    else if k = 3 then e.get (PDC_Pn_STAT_DFP n) = 1 - d.get (PDC_Pn_STAT_DFP n) ∧ e.get (PDC_Pn_EVT_SWAP_DONE n) = 1
      ∧ (e.pc n).swapping = none
    else if k = 4 ∧ d.flag (PDC_Pn_STAT_VCONN n) = false then e.get (PDC_Pn_STAT_VCONN n) = 1 ∧ e.get (PDC_Pn_EVT_SWAP_DONE n) = 1
      ∧ (e.pc n).swapping = none
    else (e.pc n).swapping = some (k, false) ∧ (e.pc n).swap = .ready
      ∧ (k = 2 → d.isSource n = true → (e.pc n).closed = false ∧ (e.pc n).sent = some .psRdy))

/-- The port sends the next step of discovery or entry (R425 to R427). -/
def Dev.NextVdm (d : Dev) (n step : Nat) (e : Dev) : Prop :=
  e = d.nextVdm n step ∧ (e.pc n).vdm = step ∧ (e.pc n).tries = 0 ∧ (e.pc n).toAlt = (d.pc n).toAlt
  ∧ (e.pc n).sent = some (if step = 1 then .vdm true 0xFF00 1 [] else if step = 2 then .vdm false 0xFF00 1 []
      else if step = 3 then .vdm false 0xFF00 2 []
      else if step = 4 ∨ step = 5 then .vdm false (if (d.pc n).toAlt = 2 then 0xC7A1 else 0xFF01) (step - 1) []
      else if step = 6 then
        .vdm false 0xC7A1 0x10 [d.get STN_ID_NUM * 2 ^ 20 + d.get STN_ID_DEPTH * 2 ^ 18 + (if 3 ≤ d.get (PDC_Pn_STAT_CABLE_SPD n) ∨ d.get (TCL_CTL_FORCE_L25 n) = 1 then 0x19 else 0x01)]
      else if step = 7 then .vdm false 0xFF01 0x10 [] else .vdm false 0xFF01 0x11 [(d.pc n).pins])

/-- A mode of a port ends (R427, R432, R436): the port's registers show none, its lanes stop. -/
def Dev.EndsAlt (d : Dev) (n : Nat) (e : Dev) : Prop :=
  e = d.exitAlt n ∧ e.get (PDC_Pn_STAT_ALT n) = 0 ∧ (e.pc n).vdm = 0 ∧ (e.pc n).lanes = false
  ∧ (d.get (PDC_Pn_STAT_ALT n) ≠ 0 → e.get (PDC_Pn_STAT_PIN n) = 0 ∧ e.get (PDC_Pn_STAT_HPD n) = 0 ∧ e.get (PDC_Pn_EVT_ALT_CHANGE n) = 1)
  ∧ (d.get (PDC_Pn_STAT_ALT n) = 2 → d.domOn (laneDomain n) = true → e.seqState (2 + n) = 0)

/-- A mode entered (R406, R425, R432). -/
def Dev.EntersAlt (d : Dev) (n alt : Nat) (e : Dev) : Prop :=
  e = d.enterAlt n alt ∧ e.get (PDC_Pn_STAT_ALT n) = alt ∧ e.get (PDC_Pn_EVT_ALT_CHANGE n) = 1
  ∧ (d.domOn (laneDomain n) = false → e.get (PDC_Pn_EVT_ALT_NO_LANES n) = 1)

/-- A swap completes (R422, R423, R432): its event; the port's own request ends OK where it was the one asked for, else it may be sent
again. -/
def Dev.SwapEnds (d : Dev) (n : Nat) (mine : Bool) (e : Dev) : Prop :=
  e = d.swapEnd n mine ∧ e.get (PDC_Pn_EVT_SWAP_DONE n) = 1 ∧ (e.pc n).swapping = none
  ∧ (mine = false → (e.pc n).after = false) ∧ (mine = true → (d.pc n).own.isSome = true → (d.pc n).byCmd = true →
      e.get (PDC_Pn_CMDRES_RESULT n) = 0 ∧ e.get (PDC_Pn_CMDRES_DONE n) = 1)
  ∧ (mine = false → (d.pc n).own.isSome = true → (e.pc n).own = (d.pc n).own)

/-- A swap accepted by the partner, or by the port, goes on (R422). -/
def Dev.SwapGoes (d : Dev) (n k : Nat) (mine : Bool) (e : Dev) : Prop :=
  e = d.doSwap n k mine
  ∧ (if k = 3 then e.get (PDC_Pn_STAT_DFP n) = 1 - d.get (PDC_Pn_STAT_DFP n) ∧ e.get (PDC_Pn_EVT_SWAP_DONE n) = 1
      ∧ (e.pc n).swapping = none
    else if k = 4 ∧ d.flag (PDC_Pn_STAT_VCONN n) = false then e.get (PDC_Pn_STAT_VCONN n) = 1 ∧ e.get (PDC_Pn_EVT_SWAP_DONE n) = 1
      ∧ (e.pc n).swapping = none
    else (e.pc n).swapping = some (if k = 4 then 4 else 2, mine) ∧ (e.pc n).swap = .ready
      ∧ (k ≠ 4 → d.isSource n = true → (e.pc n).closed = false ∧ (e.pc n).sent = some .psRdy))

/-- The port's own swap request ends with a result (R422, R433). -/
def Dev.OwnEnds (d : Dev) (n result : Nat) (e : Dev) : Prop :=
  if (d.pc n).own = none then e = d
  else (e.pc n).own = none ∧ (e.pc n).retried = false ∧ (e.pc n).byCmd = false
    ∧ (if (d.pc n).byCmd = true then e.get (PDC_Pn_CMDRES_RESULT n) = result ∧ e.get (PDC_Pn_CMDRES_DONE n) = 1
        ∧ e.get (PDC_Pn_EVT_CMD_DONE n) = 1
      else e = { d with pdc := e.pdc })

/-- What an event does at its pin (R230): LOW and HIGH set the level, PULSE and START begin a pulse of the level that is not IDLE, START
runs the train, STOP ends it. -/
def Dev.TioActs (d : Dev) (k act width : Nat) (e : Dev) : Prop :=
  (act < 2 → e.get (TIO_STATk_LEVEL k) = act ∧ e.pin k = d.pin k)
  ∧ (act = 2 → e.get (TIO_STATk_LEVEL k) = 1 - d.get (TIO_CFGk_IDLE k) ∧ e.pin k = { d.pin k with pulse := true })
  ∧ (act = 3 → e.get (TIO_STATk_LEVEL k) = 1 - d.get (TIO_CFGk_IDLE k) ∧ e.pin k = { d.pin k with pulse := true, train := some width })
  ∧ (act = 4 → e.get (TIO_STATk_LEVEL k) = d.get (TIO_STATk_LEVEL k) ∧ e.pin k = { d.pin k with train := none })

/-- A push of an event for the instant in TIO_EV_SEC and TIO_EV_NS (R230, R231): ERR 3 for what the pin does not take, 1 where sixteen
wait, 2 where it is not later than the last; else ERR 0, and the event waits last, or where its instant has passed it is late: counted,
raised, and discarded or acted on at once. -/
def Dev.Pushes (d : Dev) (k act width : Nat) (e : Dev) : Prop :=
  let at_ := (d.get TIO_EV_SEC_SEC, d.get TIO_EV_NS_NS)
  if d.tioSuits k act width = false then e = d.set TIO_EV_RES_ERR 3
  else if (d.pin k).evq.length = 16 then e = d.set TIO_EV_RES_ERR 1
  else if laterThan at_.1 at_.2 (d.pin k).evq.getLast? = false then e = d.set TIO_EV_RES_ERR 2
  else e.get TIO_EV_RES_ERR = 0 ∧
    (if d.passed k at_.1 at_.2 = false then
      e.pin k = { d.pin k with evq := (d.pin k).evq ++ [⟨at_.1, at_.2, act, width⟩] } ∧ e = { d with flds := e.flds, time := e.time }
      ∧ e.get (TIO_STATk_LEVEL k) = d.get (TIO_STATk_LEVEL k)
    else e.get TIO_LATE_COUNT = (d.get TIO_LATE_COUNT + 1) % 2 ^ 32 ∧ e.get TMB_EVT_TIO_LATE = 1
      ∧ (if d.flag (TIO_CFGk_LATE k) = true then d.TioActs k act width e
        else e.pin k = d.pin k ∧ e.get (TIO_STATk_LEVEL k) = d.get (TIO_STATk_LEVEL k)))

end Sys2Proof.Machine
end

