-- ==== Sys2Proof/Certificates/Slice0/Obligations.lean ====
section
/-! DEFINITION. The statements for the provers: what every command of the opcode table does (each command completes in every state), how
the queue and the steps go, and rules of the spec word for word. `d` is the device before a command, `d'` the device after it. -/

open Sys2Proof Sys2Proof.Machine

/-- For every command c and every state whose queue begins with c: step is exec of c on that state with the queue's rest. How a
block is driven (a queue of commands, first in, first out) is the model's form, not a rule of the spec.
(01_the_line_and_the_hub.md, INDEX.md) -/
def Obligations.StepRunsTheFrontCommand : Prop :=
  ∀ (c : Instr) (rest : List Instr) (s : State), step { s with pending := c :: rest } = exec c { s with pending := rest }

/-- For every state with an empty queue: step answers a next state with an empty queue whose power-die clock is one TIME cycle on,
and no step stops there. The table has no row for a clock; that an idle step is one TIME cycle is the model's choice (log entry
1). (07_line_time.md) -/
def Obligations.EmptyQueuePassesOneCycle : Prop :=
  ∀ s : State, s.pending = [] → ∃ t, step s = .next t ∧ t.pending = [] ∧ t.dev.power.osc = s.dev.power.osc + 1

/-- For every command, with any operands, and every state: exec answers a next state whose queue is the queue it was given. No
command ends in a fault or a refusal: the spec gives each one an effect, be it that nothing happens. (INDEX.md) -/
def Obligations.EveryCommandCompletes : Prop :=
  ∀ (c : Instr) (s : State), ∃ d : Dev, exec c s = .next { s with dev := d }

/-- For every state and every number of steps: the run from the state never ends in a fault or a refusal. (INDEX.md) -/
def Obligations.NoRunStops : Prop :=
  ∀ s : State, s.safe

/-- For every state and every k up to the length of its queue: k steps answer a state in which exactly the first k commands are gone
and the others wait in their order; so after as many steps as commands the queue is empty. First in, first out is the model's
form of the block's interface. (INDEX.md) -/
def Obligations.QueueDrainsInOrder : Prop :=
  ∀ (s : State) (k : Nat), k ≤ s.pending.length → ∃ t, State.after k s = some t ∧ t.pending = s.pending.drop k

/-- For every state whose waiting commands are all well-formed: if step answers a next state, all its waiting commands are
well-formed; and so after every number of steps. (INDEX.md) -/
def Obligations.StepsKeepQueueWellFormed : Prop :=
  (∀ s t : State, s.queueWf → step s = .next t → t.queueWf) ∧ ∀ (s t : State) (k : Nat), s.queueWf → State.after k s = some t → t.queueWf

/-- State.reset has an empty queue, an empty memory in canonical form, and meets the invariant of the queue. What an unwritten byte
reads as and the state of the fuses are the model's choices (log entries 3 and 4). (20_reset_boot_lifecycle.md, R575) -/
def Obligations.ResetIsWellFormed : Prop :=
  State.reset.pending = [] ∧ State.reset.queueWf ∧ State.reset.memWf ∧ State.reset.dev.mem = [] ∧ State.reset.dev.boot.stage = 0 ∧ State.reset.dev.boot.porst = true

/-- Every field reads its reset value in State.reset; a field set to a value reads that value within its width; setting a field
leaves every field at another bit address as it was, and nothing else of the device changes. (R9, R10, R35) -/
def Obligations.FieldsReadResetUntilWritten : Prop :=
  (∀ f : Fld, State.reset.dev.get f = f.rst % 2 ^ f.w) ∧ (∀ (d : Dev) (f : Fld) (v : Nat), (d.set f v).get f = v % 2 ^ f.w)
  ∧ ∀ (d : Dev) (f : Fld) (v : Nat), d.only [f.key] (d.set f v)

/-- For every device, thread and value: w0 reads 0, p0 reads true, a write of w0 leaves the device as it was, and a write of p0
leaves every predicate as it was. (R320) -/
def Obligations.W0AndP0AreHardWired : Prop :=
  ∀ (d : Dev) (t : Nat) (v : DWord) (b : Bool), d.rg t 0 = 0 ∧ d.pred t 0 = true ∧ d.wr t 0 v = d ∧ ∀ q, (d.wp t 0 b).pred t q = d.pred t q

/-- For every device, event queue and record: on a queue that is not in use the record is counted as unrouted; on a full ring it is
dropped and counted, and memory and WR stay; else WR advances modulo the size, the record's 16 bytes stand at the old WR where
the slot lies in CTL SRAM, and every other byte of memory and RD stay. (R333, R335, R336, R337) -/
def Obligations.EventRecordsEnterTheirRing : Prop :=
  ∀ (d : Dev) (q : Nat) (r : EvRec), q < 32 →
  if d.evqOn q = false then d.postQ q r = d.inc SYN_EV_UNROUTED_COUNT
  else if (d.get (SYN_EVQq_WR_IDX q) + 1) % d.evqSize q = d.get (SYN_EVQq_RD_IDX q) % d.evqSize q then
    (d.postQ q r).mem = d.mem ∧ (d.postQ q r).get (SYN_EVQq_WR_IDX q) = d.get (SYN_EVQq_WR_IDX q)
    ∧ (d.postQ q r).get (SYN_EVQq_DROP_COUNT q) = (d.get (SYN_EVQq_DROP_COUNT q) + 1) % 2 ^ 32
  else (d.postQ q r).get (SYN_EVQq_WR_IDX q) = (d.get (SYN_EVQq_WR_IDX q) + 1) % d.evqSize q
    ∧ (d.postQ q r).get (SYN_EVQq_RD_IDX q) = d.get (SYN_EVQq_RD_IDX q)
    ∧ (if 16 * d.get (SYN_EVQq_CFG_BASE q) + 16 * d.get (SYN_EVQq_WR_IDX q) + 16 ≤ 0x200000 then
        d.Wrote (16 * d.get (SYN_EVQq_CFG_BASE q) + 16 * d.get (SYN_EVQq_WR_IDX q)) 16 r.word (d.postQ q r)
      else (d.postQ q r).mem = d.mem)

/-- For every state: a register write to an unmapped address, to a domain not ON and to a TMT slot is discarded with its record or
count; any other is posted; a posted write acts only after the earlier ones of its thread to its clock domain, and leaves the
list as it does; the fault records carry address and thread; an OP that a window does not list only leaves DONE 1 and ERR 0; a
clock-domain switch acts the writes held. (R7, R16, R17, R20, R29, R40, R158) -/
def Obligations.RegisterWritesComplete : Prop :=
  ∀ s : State,
  (∀ (t : Fin 32) (a : BitVec 40) (v : Word), Does (.regWrite t a v) s (fun d d' =>
      if (findReg a.toNat).isNone then d' = d.post ⟨0x0001, 0x0F, d.stamp, a.toNat + t * 2 ^ 40⟩
      else if !d.domOn (powerDomain a.toNat) then d' = d.post ⟨0x0002, 0x0F, d.stamp, a.toNat + t * 2 ^ 40⟩
      else if d.bridgeCut a.toNat then d' = d
      else if (tmtSlotOf a.toNat).isSome then d'.get TNL_TMTREFUSED_COUNT = (d.get TNL_TMTREFUSED_COUNT + 1) % 2 ^ 32
        ∧ d'.get TNL_EVT_TMT_REFUSED = 1 ∧ d'.posted = d.posted
      else d' = { d with posted := d.posted ++ [⟨t, a.toNat, v.toNat, []⟩] }))
  ∧ (∀ (k : Nat) (e : ActEnv), Does (.regWriteActs k e) s (fun d d' =>
      match d.posted[k]? with
      | none => d' = d
      | some w => if (d.posted.take k).any (fun x => x.thr == w.thr && clkDom x.addr == clkDom w.addr) then d' = d
        else (let y := { d with posted := d.posted.eraseIdx k }
          d' = (if w.desc = [] then Dev.actWrite w.addr w.val w.thr e y else Dev.keySubmit w.val w.desc y).postedGone w.thr
          ∧ (match findReg w.addr with
            | none => w.desc = [] → d' = y.postedGone w.thr
            | some h => (w.desc = [] → d.domOn (powerDomain w.addr) = false → d' = y.postedGone w.thr)
              ∧ (if w.desc = [] ∧ d.domOn (powerDomain w.addr) = true ∧ d.bridgeCut w.addr = false
                    ∧ [RegName.SIL_SRC_EN_LO, .SIL_SRC_EN_HI, .SIL_WATER, .SIL_EVT_EN].contains h.rd.name = true then
                  h.rd.flds.all (fun f => d'.get (fieldAt w.addr f) == w.val / 2 ^ f.lsb % 2 ^ f.w) = true ∧ d'.posted = d.posted.eraseIdx k
                else True)))))
  ∧ (∀ (t : Fin 32) (a : BitVec 40), Does (.unmappedRegAccess t a) s (fun d d' =>
      if (findReg a.toNat).isNone then d' = d.post ⟨0x0001, 0x0F, d.stamp, a.toNat + t * 2 ^ 40⟩ else d' = d))
  ∧ (∀ (t : Fin 32) (a : BitVec 40), Does (.domainOffAccess t a) s (fun d d' =>
      if (findReg a.toNat).isSome && !d.domOn (powerDomain a.toNat)
      then d' = d.post ⟨0x0002, 0x0F, d.stamp, a.toNat + t * 2 ^ 40⟩ else d' = d))
  ∧ (∀ (w : Window) (op : Nat), Does (.windowUnlistedOp w op) s (fun d d' =>
      if w.ops.contains op = true then d' = d
      else if d.get (match w with
          | .ctx => TNL_CTX_RES_DONE
          | .queue => SWC_Q_RES_DONE
          | .gate => SCH_GW_RES_DONE
          | .qstate => SCH_QS_RES_DONE
          | .pstate => SCH_PS_RES_DONE
          | .keySlot => KEY_SLOT_RES_DONE
          | .mem => REL_MW_RES_DONE) = 0 then d' = d
      else (match w with
        | .ctx => d'.get TNL_CTX_RES_DONE = 1 ∧ d'.get TNL_CTX_RES_ERR = 0
        | .queue => d'.get SWC_Q_RES_DONE = 1 ∧ d'.get SWC_Q_RES_ERR = 0
        | .gate => d'.get SCH_GW_RES_DONE = 1 ∧ d'.get SCH_GW_RES_ERR = 0
        | .qstate => d'.get SCH_QS_RES_DONE = 1
        | .pstate => d'.get SCH_PS_RES_DONE = 1
        | .keySlot => d'.get KEY_SLOT_RES_DONE = 1
        | .mem => d'.get REL_MW_RES_DONE = 1 ∧ d'.get REL_MW_RES_ERR = 0)
        ∧ d' = { d with flds := d'.flds }))
  ∧ (∀ (c : ClkDom) (held : Nat) (e : ActEnv), Does (.domainClockSwitch c held e) s (fun d d' =>
      d' = d.postedAct held (fun w => clkDom w.addr == some c) e
      ∧ (held = 0 ∨ d.posted.any (fun w => clkDom w.addr == some c) = false → d' = d)
      ∧ (match d.posted with
        | w :: rest => (if clkDom w.addr = some c ∧ held = 1 then d' = Dev.postedActs 0 e d else True)
        | [] => d' = d)))
  ∧ (Does (.aonEvqOverflow) s (fun d d' =>
      if d.aon.lost = 0 ∨ 64 ≤ d.aon.recs.length then d' = d
      else if d.aon.bridgeUp = false ∨ d.domOn 1 = false then
        d'.aon.recs = d.aon.recs ++ [⟨0x0001, 0x1B, d.aon.lostTime, d.aon.lost % 2 ^ 32⟩] ∧ d'.aon.lost = 0 ∧ d' = { d with aon := d'.aon }
      else d' = Dev.postAon { d with aon := { d.aon with lost := 0, lostTime := 0 } } ⟨0x0001, 0x1B, d.aon.lostTime, d.aon.lost % 2 ^ 32⟩))
  ∧ (∀ (done : Nat) (e : ActEnv), Does (.bridgeTransferTimeout done e) s (fun d d' =>
      if d.aon.bridgeUp = false then d' = d
      else d'.aon.bridgeUp = false ∧ d'.posted.all (fun w => !onPowerDie w.addr) = true ∧ d'.get TRK_BYP_CTL_STATE = 0))
  ∧ (Does (.bridgeRetrained) s (fun d d' =>
      if d.aon.bridgeUp then d' = d else d'.aon.bridgeUp = true ∧ (d.domOn 1 = true → d'.aon.recs = [])))

/-- For every state and port: enabling a sequencer that is OFF in a hub that is no spur, retraining one that is not (in SERVICE its
link fails with LOCK first) and the timeouts enter PLAN_TX, the ladder or OFF as R61 says; a marker at its position records
signal, lane plane and skew; losing signal ends the lane's alignment; commands that do not fit the state change nothing. (R22,
R51, R52, R54, R55, R56, R60, R61, R71, R103) -/
def Obligations.TrunkSequencersComplete : Prop :=
  ∀ s : State,
  (∀ (p : Fin 2), Does (.seqEnable p) s (fun d d' =>
      if d.domOn (portDomain p) = false then d' = d
      else if d.get STN_ID_ROLE = 1 then d' = d
      else d'.get (TRK_CTL_EN p) = 1
        ∧ (if d.seqState p = 0 ∧ d.linkState p ≠ 5 then d'.get (TRK_STAT_STATE p) = 1 ∧ d'.get (TRK_CTL_RETRAIN p) = 0 ∧ d'.get (TRK_STAT_DOWNGRADED p) = 0
           else d' = d.set (TRK_CTL_EN p) 1)))
  ∧ (∀ (p : Fin 2), Does (.seqDisable p) s (fun d d' =>
      if d.domOn (portDomain p) = false then d' = d
      else d'.get (TRK_STAT_STATE p) = 0 ∧ (∀ n, n < 4 → d'.get (TRK_LnSTAT_ALIGNED p n) = 0)
      ∧ (d.seqState p ≠ 7 → d'.get (TRK_CTL_EN p) = 0 ∧ d'.mem = d.mem)))
  ∧ (∀ (p : Fin 2), Does (.trkRetrain p) s (fun d d' =>
      if d.domOn (portDomain p) = false then d' = d
      else if d.seqState p = 0 then d' = d.set (TRK_CTL_RETRAIN p) 1
      else if d.seqState p = 7 ∧ d.linkState p ≠ 0 then (if d.linkState p ≤ 4 then d'.linkState p = 5 ∧ d'.get (LNK_STAT_CAUSE p) = 3 else d' = d.set (TRK_CTL_RETRAIN p) 1)
        ∧ d'.get (TRK_CTL_RETRAIN p) = 1
      else d'.get (TRK_STAT_STATE p) = 1 ∧ d'.get (TRK_CTL_RETRAIN p) = 0 ∧ d'.get (TRK_STAT_DOWNGRADED p) = 0))
  ∧ (∀ (p : Fin 10) (n : Fin 4) (skew : BitVec 8) (set : BitVec 24) (own : BitVec 8), Does (.alignmentSetRx p n skew set own) s (fun d d' =>
      if d.reached (portDomain p) = false then d' = d
      else if d.laneRuns p n true then d'.get (TRK_LnSTAT_SIGNAL p n) = 1 ∧ d'.get (TRK_LnSTAT_ADAPTED p n) = 1
        ∧ d'.get (TRK_LnSTAT_RX_PLANE p n) = bitsOf set.toNat 22 2 ∧ d'.get (TRK_LnSTAT_SKEW p n) = skew.toNat
        ∧ d'.get (TRK_LnBIP_COUNT p n) = (d.get (TRK_LnBIP_COUNT p n) + ones 8 (bitsOf set.toNat 8 8 ^^^ own.toNat)) % 2 ^ 32
      else d' = d))
  ∧ (∀ (p : Fin 10) (n : Fin 4) (skew : BitVec 8) (blk : BitVec 120) (own : BitVec 8), Does (.commaBlockRx p n skew blk own) s (fun d d' =>
      if d.reached (portDomain p) = false then d' = d
      else if d.laneRuns p n false = false then d' = d
      else if d.flag (TRK_LnSTAT_ALIGNED p n) ∧ 8 < ones 64 (bitsOf blk.toNat 56 64 ^^^ commaPattern) then d' = d.markerMissing p n 3
      else if d.flag (TRK_LnSTAT_ALIGNED p n) = false ∧ (bitsOf blk.toNat 56 64 ≠ commaPattern ∨ crc16 blk.toNat ≠ bitsOf blk.toNat 0 16) then d' = d.markerMissing p n 3
      else if crc16 blk.toNat = bitsOf blk.toNat 0 16 then d'.get (TRK_LnSTAT_SIGNAL p n) = 1 ∧ d'.get (TRK_LnSTAT_RX_PLANE p n) = bitsOf blk.toNat 54 2
        ∧ d'.get (TRK_LnSTAT_SKEW p n) = skew.toNat
        ∧ d'.get (TRK_LnBIP_COUNT p n) = (d.get (TRK_LnBIP_COUNT p n) + ones 8 (bitsOf blk.toNat 40 8 ^^^ own.toNat)) % 2 ^ 32
      else ((d'.seq p).lanes.get n LaneSt.reset).missed = 0 ∧ d'.flds = d.flds ∧ d'.mem = d.mem))
  ∧ (∀ (p : Fin 10) (n : Fin 4), Does (.alignMarkerMissing p n) s (fun d d' =>
      if d.domOn (portDomain p) = false then d' = d
      else let lose := if d.laneRuns p n true then 2 else 3
      let x := (d.seq p).lanes.get n LaneSt.reset
      if d.laneRuns p n true = false ∧ d.laneRuns p n false = false then d' = d
      else if d.get (TRK_LnSTAT_ALIGNED p n) = 0 then
        ((d'.seq p).lanes.get n LaneSt.reset).good = 0 ∧ d'.flds = d.flds ∧ d'.mem = d.mem
      else if x.missed + 1 < lose then
        ((d'.seq p).lanes.get n LaneSt.reset).missed = x.missed + 1 ∧ d'.flds = d.flds ∧ d'.mem = d.mem
      else d'.get (TRK_LnSTAT_ALIGNED p n) = 0 ∧ (d.seqState p = 4 ∨ d.seqState p = 5 → d'.seqState p = 1 ∧ d'.mem = d.mem)
        ∧ (d.seqState p = 7 → d.linkState p ≠ 0 → d.linkState p ≤ 4 → d'.linkState p = 5)))
  ∧ (∀ (p : Fin 10) (n : Fin 4), Does (.codeErrorThreshold p n) s (fun d d' =>
      if d.domOn (portDomain p) = false then d' = d
      else if d.laneRuns p n false then
        d'.get (TRK_LnSTAT_ALIGNED p n) = 0
        ∧ (d.seqState p ∉ [4, 5, 7] ∨ d.get (TRK_LnSTAT_ALIGNED p n) = 0 →
            d'.get (TRK_LnFECU_COUNT p n) = (d.get (TRK_LnFECU_COUNT p n) + 16) % 2 ^ 32 ∧ d'.seqState p = d.seqState p)
        ∧ (d.seqState p = 4 ∨ d.seqState p = 5 → d.get (TRK_LnSTAT_ALIGNED p n) ≠ 0 → d'.seqState p = 1)
      else if d.laneRuns p n true then
        d'.get (TRK_LnSTAT_ALIGNED p n) = 0
        ∧ (d.seqState p = 4 ∨ d.seqState p = 5 → d.get (TRK_LnSTAT_ALIGNED p n) ≠ 0 → d'.seqState p = 1)
      else d' = d))
  ∧ (∀ (p : Fin 10) (n : Fin 4), Does (.losTimeout p n) s (fun d d' =>
      if d.domOn (portDomain p) = false then d' = d
      else if n.val < laneCount p then d'.get (TRK_LnSTAT_ALIGNED p n) = 0 else d' = d))
  ∧ (∀ (p : Fin 2), Does (.planTxTimeout p) s (fun d d' =>
      if d.domOn (portDomain p) = false then d' = d
      else if d.seqState p = 1 then d'.get (TRK_STAT_STATE p) = (if (d.seq p).allow.testBit 3 then 2 else 3)
        ∧ d'.get (TRK_EVT_FALLBACK p) = 1
      else d' = d))
  ∧ (∀ (p : Fin 2), Does (.ladderL25Timeout p) s (fun d d' =>
      if d.domOn (portDomain p) = false then d' = d
      else if d.seqState p = 2 then d'.get (TRK_STAT_STATE p) = 3 ∧ (d'.seq p).target = 0 ∧ d'.mem = d.mem else d' = d))
  ∧ (∀ (p : Fin 2), Does (.ladderL10Timeout p) s (fun d d' =>
      if d.domOn (portDomain p) = false then d' = d
      else if d.seqState p = 3 then d'.get (TRK_STAT_STATE p) = 1 ∧ d'.get (TRK_STAT_DOWNGRADED p) = 0 else d' = d))
  ∧ (∀ (p : Fin 10), Does (.capTimeout p) s (fun d d' =>
      if d.domOn (portDomain p) = false then d' = d
      else if d.seqState p = 4 then d'.seqState p = 1 else d' = d))
  ∧ (∀ (p : Fin 2), Does (.retrainTimeout p) s (fun d d' =>
      if d.domOn (portDomain p) = false then d' = d
      else if d.seqState p = 6 then d'.get (TRK_STAT_STATE p) = 3 ∧ (d'.seq p).target = 0 else d' = d))

/-- For every state and port: in CAP a CAP block is queued every 10 µs; a partner's CAP block renews the neighbour record in
service; a blotter window's end records errors and results per lane and sends them; results are repeated and taken only in
BLOTTER; INLINE is refused while the plans do not fit. (R61, R64, R66, R67, R73, R93, R96, R117) -/
def Obligations.CapAndBlotterComplete : Prop :=
  ∀ s : State,
  (∀ (p : Fin 10), Does (.capSendTimer p) s (fun d d' =>
      if d.domOn (portDomain p) = false then d' = d
      else if d.seqState p = 4 then (d'.lnk p).caps = (d.lnk p).caps ++ [d.ownCap p 0] ∧ d'.flds = d.flds ∧ d'.mem = d.mem else d' = d))
  ∧ (∀ (p : Fin 10) (b : RxBlk), Does (.capRx p b) s (fun d d' =>
      if d.reached (portDomain p) = false then d' = d
      else d.Receives p b (freeKind 9 (some 0)) (fun h l y e =>
          if y.linkState p = 0 then
            (if y.seqState p ≠ 4 ∧ y.seqState p ≠ 5 then e = y
            else (e.seq p).partner = some (capOf l)
              ∧ (if y.seqState p = 5 then e.flds = y.flds ∧ e.mem = y.mem
                else ((capOf l).unitId = y.uid → e.get STN_EVT_SELF_LOOP = 1)
                  ∧ e.seqState p = (if (capOf l).cur ≠ y.cmode p then 4
                    else if 2 ≤ p.val ∨ y.bestCommon p (capOf l) = y.cmode p ∨ (y.seq p).used = true then 5 else 6)))
          else Dev.Unsequenced p h (fun z e => if (capOf l).unitId = z.uid then e = z
            else e.get (LNK_NBR_INFO_STATION p) = (capOf l).station ∧ e.get (LNK_NBR_INFO_VALID p) = b2n (capOf l).stnValid
              ∧ e.get (LNK_NBR_INFO_REV p) = (capOf l).rev ∧ e.linkState p = z.linkState p) y e) d'))
  ∧ (∀ (p : Fin 10) (bits : List (List Bool)), Does (.blotWindowEnd p bits) s (fun d d' =>
      if d.domOn (portDomain p) = false then d' = d
      else if d.seqState p ≠ 5 then d' = d
      else (∀ n, n < 4 → ((d'.seq p).own.getD []).getD n (false, 0) = ((d.runLanes p (d.cmode p)).contains n
          && checkPrbs (bits.getD n []) ≤ d.blotThr p (d.cmode p) && !((d.seq p).lanes.get n LaneSt.reset).skewBad, min (checkPrbs (bits.getD n [])) (2 ^ 31 - 1)))
        ∧ (∀ n, n < 4 → (d.runLanes p (d.cmode p)).contains n = true → d'.get (TRK_LnBERR_COUNT p n) = min (checkPrbs (bits.getD n [])) (2 ^ 32 - 1))
        ∧ (d'.lnk p).caps = (d.lnk p).caps ++ [d'.ownCap p 1] ∧ d'.mem = d.mem ∧ d'.seqState p = 5))
  ∧ (∀ (p : Fin 10), Does (.blotResultRepeat p) s (fun d d' =>
      if d.domOn (portDomain p) = false then d' = d
      else if d.seqState p = 5 ∧ (d.seq p).own.isSome = true then
        (d'.lnk p).caps = (d.lnk p).caps ++ [d.ownCap p 1] ∧ d'.flds = d.flds ∧ d'.mem = d.mem
      else d' = d))
  ∧ (∀ (p : Fin 10) (b : RxBlk), Does (.blotResultRx p b) s (fun d d' =>
      if d.reached (portDomain p) = false then d' = d
      else d.Receives p b (freeKind 9 (some 1)) (fun h l y e =>
          if y.linkState p ≠ 0 then Dev.Unsequenced p h (fun z e => e = z) y e
          else if y.seqState p ≠ 4 ∧ y.seqState p ≠ 5 then e = y
          else (if y.seqState p = 4 then (e.seq p).partner = some (capOf l) ∧ e.flds = y.flds ∧ e.mem = y.mem ∧ (e.seq p).theirs = (y.seq p).theirs
              else if (y.seq p).own.isNone = true then (e.seq p).partner = some (capOf l) ∧ (e.seq p).theirs = some (capOf l).lanes ∧ (e.seq p).own = none ∧ e.flds = y.flds ∧ e.mem = y.mem
              else (let z := (y.seqMeet p (capOf l)).modSeq p (fun x => { x with theirs := some (capOf l).lanes })
                if (y.seq p).told = true ∧ ((y.seq p).phy.half.getD []).isEmpty = true then
                  e = (if p.val < 2 then z.judgeTrunk p (z.passing p ((y.seq p).own.getD []) (capOf l).lanes)
                    else z.judgeGroup p (z.passing p ((y.seq p).own.getD []) (capOf l).lanes))
                else (e.seq p).partner = some (capOf l) ∧ (e.seq p).theirs = some (capOf l).lanes ∧ e.flds = y.flds ∧ e.mem = y.mem))) d'))
  ∧ (∀ (p : Fin 10), Does (.blotResultTimeout p) s (fun d d' =>
      if d.domOn (portDomain p) = false then d' = d
      else if d.seqState p = 5 ∧ (d.seq p).own.isSome = true ∧ (d.seq p).theirs.isNone = true then
        (if p.val < 2 then d'.get (TRK_STAT_STATE p) = 3 ∧ (d'.seq p).target = 0 ∧ d'.get (TRK_EVT_BLOT_FAIL p) = 1
          else (match (d.seq p).passed with
            | some m => d'.seqState p = 6 ∧ (d'.seq p).target = m ∧ d'.get (TCL_STAT_DOWNGRADED (p.val - 2)) = 1
            | none => d'.seqState p = 1 ∧ d'.get (TCL_STARTFAIL_COUNT (p.val - 2)) = (d.get (TCL_STARTFAIL_COUNT (p.val - 2)) + 1) % 2 ^ 32))
      else d' = d))
  ∧ (∀ (p : Fin 10), Does (.reserveClaimMet p) s (fun d d' =>
      if d.domOn 3 = false then d' = d
      else if d.sw.claims.head? = some p.val ∧ d.claimFits p = true then
        d'.sw.claims = d.sw.claims.filter (· != p.val) ∧ (d'.lnk p).claim = false ∧ (d'.lnk p).creditDue = true
        ∧ (d'.sw.rsv.get p (0, 0)).1 = d.claimSize p ∧ d'.sw.pkts = d.sw.pkts
      else d' = d))
  ∧ (∀ (v : Bool), Does (.bypassInlineWrite v) s (fun d d' =>
      if v && !(d.bypassFit 0 && d.bypassFit 1)
      then d'.get (TRK_EVT_PLAN_MISMATCH 0) = 1 ∧ d'.get (TRK_EVT_PLAN_MISMATCH 1) = 1 ∧ d'.get TRK_BYP_CTL_INLINE = d.get TRK_BYP_CTL_INLINE
      else d'.get TRK_BYP_CTL_INLINE = b2n v
        ∧ d'.get TRK_BYP_CTL_STATE = b2n (v && d.flag HSW_STAT_PGOOD && !d.boot.porst && d.aon.bridgeUp)
        ∧ d.only [TRK_BYP_CTL_INLINE.key, TRK_BYP_CTL_STATE.key] d'))

/-- For every state, port and block: a bad block is counted and owes a NAK; a good one is accepted where its number is the expected
one or, unsequenced, where the port takes it, and else only answered; then a data block waits for the engine, is passed on or is
counted as reserved; an IDLE block acts with its fields only; a CREDIT block raises the grants and ends INIT; a notice is raised
and forwarded with HOPS + 1; a tick is counted, a delay request queued for its reply with its times, a reply forms D. A tick or
a delay request becomes due on the ports that are up. (R79, R82, R84, R86, R91, R92, R94, R108, R218, R219, R220) -/
def Obligations.LinkReceptionComplete : Prop :=
  ∀ s : State,
  (∀ (p : Fin 10) (b : RxBlk), Does (.dataBlockRx p b) s (fun d d' =>
      if d.reached (portDomain p) = false then d' = d
      else d.Receives p b dataKind (fun h l => Dev.Sequenced p h (fun z e =>
          if 8 ≤ h.ty then e = z
          else if 2 ≤ h.ty then e = z.inc (LNK_RXRSV_COUNT p)
          else if z.linkState p < 3 then (e.lnk p).cum.get (h.sq / 32) 0 = ((z.lnk p).cum.get (h.sq / 32) 0 + 1) % 2 ^ 32 ∧ e = { z with links := e.links }
          else if h.first = true ∨ h.last = true ∨ (z.lnk p).rxWait.any (fun x => x.hdr.pid == h.pid) = true then
            e.lnk p = { z.lnk p with rxWait := (z.lnk p).rxWait ++ [⟨h, .data (l.take h.len)⟩] } ∧ e = { z with links := e.links }
          else e = z.laterBlock p h (l.take h.len))) d'))
  ∧ (∀ (p : Fin 10) (b : RxBlk), Does (.blockRxBad p b) s (fun d d' =>
      if d.reached (portDomain p) = false then d' = d
      else if d.opened p b = none then (d.fecCounts p b.fec).TakesBad p d' else d' = d))
  ∧ (∀ (p : Fin 10) (b : RxBlk), Does (.idleBlockRx p b) s (fun d d' =>
      if d.reached (portDomain p) = false then d' = d
      else d.Receives p b idleKind (fun h l y e => Dev.Unsequenced p h (fun z e => e = z) y e
          ∧ (y.linkUp p = true → y.keyOf p h = none → e.linkUp p = true →
            (e.lnk p).granted.get h.ccls 0 = (let g := (y.lnk p).granted.get h.ccls 0
              let x := (h.ccnt + 2 ^ 20 - g % 2 ^ 20) % 2 ^ 20
              if 1 ≤ x ∧ x < 2 ^ 19 then (g + x) % 2 ^ 32 else g)
            ∧ (h.akind = 1 → (e.lnk p).replay = (let una := ((y.lnk p).replay.head?.map (·.ext)).getD (y.lnk p).txNext
              let n := (h.ack + 4097 - una % 4096) % 4096
              if n ≤ (y.lnk p).replay.length then (y.lnk p).replay.drop n else (y.lnk p).replay))
            ∧ (h.akind = 2 → e.get (LNK_NAKRX_COUNT p) = (y.get (LNK_NAKRX_COUNT p) + 1) % 2 ^ 32))) d'))
  ∧ (∀ (p : Fin 10) (b : RxBlk), Does (.creditRx p b) s (fun d d' =>
      if d.reached (portDomain p) = false then d' = d
      else d.ReceivesFree p b 10 none (fun l z e =>
          (∀ c, c < 8 → (e.lnk p).granted.get c 0 = (let g := (z.lnk p).granted.get c 0
            let x := ((cumOf l).getD c g + 2 ^ 32 - g % 2 ^ 32) % 2 ^ 32
            if 1 ≤ x ∧ x < 2 ^ 31 then (g + x) % 2 ^ 32 else g))
          ∧ e.linkState p = (if z.linkState p = 1 ∧ (z.seq p).selfLoop = false then
              (if z.flag (LNK_CTL_AUTH_REQ p) = true ∨ z.get LCS_STATE_LC = 2 then 2 else 3) else z.linkState p)) d'))
  ∧ (∀ (p : Fin 10) (b : RxBlk), Does (.wrapNoticeRx p b) s (fun d d' =>
      if d.reached (portDomain p) = false then d' = d
      else d.ReceivesCtl p b 14 0 (fun l z e =>
          e.get (LNK_EVT_WRAP_NOTICE p) = 1 ∧ (if p.val < 2 ∧ z.ring (otherTrunk p) = true ∧ z.linkState (otherTrunk p) = 4 then
            (e.lnk (otherTrunk p)).ctl = (z.lnk (otherTrunk p)).ctl ++ [(.wrap { wrapOf l with hops := (wrapOf l).hops + 1 }, .none)]
          else e.links = z.links) ∧ e.linkState p = z.linkState p) d'))
  ∧ (∀ (p : Fin 10) (b : RxBlk), Does (.unwrapNoticeRx p b) s (fun d d' =>
      if d.reached (portDomain p) = false then d' = d
      else d.ReceivesCtl p b 14 1 (fun l z e =>
          e.get (LNK_EVT_WRAP_NOTICE p) = 1 ∧ (if p.val < 2 ∧ z.ring (otherTrunk p) = true ∧ z.linkState (otherTrunk p) = 4 then
            (e.lnk (otherTrunk p)).ctl = (z.lnk (otherTrunk p)).ctl ++ [(.wrap { wrapOf l with hops := (wrapOf l).hops + 1 }, .none)]
          else e.links = z.links) ∧ e.linkState p = z.linkState p) d'))
  ∧ (∀ (p : Fin 10) (b : RxBlk), Does (.tickRx p b) s (fun d d' =>
      if d.reached (portDomain p) = false then d' = d
      else d.ReceivesFree p b 11 none (fun l z e => e.time.servo.lastCount.find p = some (tickOf l).count
          ∧ e.get TMB_SRV_MISSED_COUNT = (z.get TMB_SRV_MISSED_COUNT + if z.get TMB_SRV_STAT_ACTIVE = p then z.tickGap p (tickOf l).count else 0) % 2 ^ 32
          ∧ (z.otherSource (tickOf l) = true → e.get TMB_EVT_SOURCE_CONFLICT = 1) ∧ e.linkState p = z.linkState p) d'))
  ∧ (∀ (p : Fin 10) (b : RxBlk), Does (.delayReqRx p b) s (fun d d' =>
      if d.reached (portDomain p) = false then d' = d
      else d.ReceivesFree p b 12 (some 0) (fun l z e =>
          (e.lnk p).delays = (z.lnk p).delays ++ [⟨true, (delayOf l).dseq, (delayOf l).t1, z.tb 0, ⟨0, 0, 0⟩⟩] ∧ e = { z with links := e.links }) d'))
  ∧ (∀ (p : Fin 10) (b : RxBlk), Does (.delayReplyRx p b) s (fun d d' =>
      if d.reached (portDomain p) = false then d' = d
      else d.ReceivesFree p b 12 (some 1) (fun l z e =>
          if (z.delayPart p).waiting = false ∨ (z.delayPart p).dseq ≠ (delayOf l).dseq then e = z
          else (e.delayPart p).waiting = false ∧ e.links = z.links ∧ ((z.delayPart p).measured = false → (e.delayPart p).measured = true
            ∧ e.get (TMB_PORTp_DLY_D p) = unsgn 32 (((((z.tb 0).units : Nat) : Int) - ((delayOf l).t1.units : Nat)
              - ((((delayOf l).t3.units : Nat) : Int) - ((delayOf l).t2.units : Nat))) / 2 / ((2 ^ 24 : Nat) : Int)))) d'))
  ∧ (Does (.tickDue) s (fun d d' =>
      if d.domOn 3 = false then d' = d
      else d'.time.tickCount = ((d.reachMultiple 0 62500 0).time.tickCount + 1) % 65536
      ∧ ∀ p, p < 10 → (d'.lnk p).tickDue = (((d.reachMultiple 0 62500 0).lnk p).tickDue || (d.reachMultiple 0 62500 0).linkUp p)))
  ∧ (∀ (p : Fin 10), Does (.delayReqDue p) s (fun d d' =>
      if d.domOn (portDomain p) = false then d' = d
      else if (d.reachMultiple 0 1000000 31250).linkUp p then
        (d'.lnk p).delays = ((d.reachMultiple 0 1000000 31250).lnk p).delays
          ++ [⟨false, (((d.reachMultiple 0 1000000 31250).delayPart p).dseq + 1) % 65536, ⟨0, 0, 0⟩, ⟨0, 0, 0⟩, ⟨0, 0, 0⟩⟩]
      else d' = d.reachMultiple 0 1000000 31250))

/-- For every state and port: a block boundary sends nothing in FAILED and, in DOWN, what the sequencer sends; the timers act in the
link states the rules name and end in replay or in FAILED; FAILED ends in DOWN; ADMIT written 1 is discarded while the hub is
fenced; ADMIT written 0 takes a port in RUN back to ADMIT. (R86, R88, R91, R93, R101, R102, R106, R109, R115, R119) -/
def Obligations.LinkTimersAndControlComplete : Prop :=
  ∀ s : State,
  (∀ (p : Fin 10) (ecc : Ecc), Does (.txBlockBoundary p ecc) s (fun d d' =>
      if d.domOn (portDomain p) = false then d' = d
      else d' = (let y := d.modLnk p (fun l => { l with wire := [] })
        let fec := decide (4 ≤ (d.seq p).target)
        let pick := if d.linkState p = 0 then y.putDown p else if d.linkState p = 5 then y
          else match y.putTimed p with
            | some x => x
            | none => match y.nextReplay p with
              | some s => y.putReplay p s
              | none =>
                let x := y.modLnk p (fun l => { l with rpPoint := none })
                if 2047 ≤ (d.lnk p).sinceIdle then x.putIdle p
                else match x.putCtl p with
                  | some w => w
                  | none => match x.putCapCredit p with
                    | some w => w
                    | none => (if (d.linkState p = 3 ∨ d.linkState p = 4) ∧ (d.lnk p).replay.length < 1920 then x.dataBlock p ecc else none).getD
                        ((x.prepare p).putIdle p)
        let z := if fec && (d.seq p).phy.half == some [] then y else if fec && (d.seq p).phy.half.isSome && (d.seq p).phy.fill then y.putFill p else pick
        let z := if fec && (d.seq p).phy.half.isNone then z.modPhy p (fun x => { x with fill := z.nothingReady p }) else z
        ((z.phyOut p).blockSent p).retagAll p)
      ∧ (1 ≤ d.linkState p → d.linkState p ≤ 4 → (d.lnk p).due = .none → d.keysYoung p → ((d.seq p).target < 4 ∨ (d.seq p).phy.half = none) → (d.lnk p).tickDue = true →
        (d'.lnk p).tickDue = false ∧ (d'.lnk p).lastTx.map (fun b => b.hdr.ty) = some 11)
      ∧ (d.linkState p = 5 → (d.lnk p).due = .none → (d'.lnk p).lastTx = (d.lnk p).lastTx)))
  ∧ (∀ (p : Fin 10), Does (.creditSendTimer p) s (fun d d' =>
      if d.domOn (portDomain p) = false then d' = d
      else if 1 ≤ d.linkState p ∧ d.linkState p ≤ 4 ∧ (d.lnk p).creditOn = true then
        (d'.lnk p).creditDue = true ∧ d' = { d with links := d'.links }
      else d' = d))
  ∧ (∀ (p : Fin 10), Does (.ackTimeout p) s (fun d d' =>
      if d.domOn (portDomain p) = false then d' = d
      else match (d.lnk p).replay with
      | [] => d' = d
      | s :: _ => if 1 ≤ d.linkState p ∧ d.linkState p ≤ 4 then
          (if s.replays < 8 then (d'.lnk p).rpPoint = some s.ext ∧ (d'.lnk p).rpNext = s.ext
            ∧ d'.get (LNK_ACKTO_CNT_COUNT p) = (d.get (LNK_ACKTO_CNT_COUNT p) + 1) % 2 ^ 32
           else d' = (d.inc (LNK_ACKTO_CNT_COUNT p)).linkFail p 1)
        else d' = d))
  ∧ (∀ (p : Fin 10), Does (.retryBudgetTime p) s (fun d d' =>
      if d.domOn (portDomain p) = false then d' = d
      else if ((d.lnk p).replay.head?.bind (fun s => s.replayAt)).isSome then d' = d.linkFail p 2 else d' = d))
  ∧ (∀ (p : Fin 10), Does (.linkSilent p) s (fun d d' =>
      if d.domOn (portDomain p) = false then d' = d
      else d' = d.linkFail p 4 ∧ ((d.linkState p = 0 ∨ 5 ≤ d.linkState p) → d' = d)))
  ∧ (∀ (p : Fin 10), Does (.linkInitTimeout p) s (fun d d' =>
      if d.domOn (portDomain p) = false then d' = d
      else if d.linkState p = 1 then d' = (if (d.seq p).selfLoop then d.raise STN_EVT_SELF_LOOP else d).linkFail p 9 else d' = d))
  ∧ (∀ (p : Fin 10), Does (.authTimeout p) s (fun d d' =>
      if d.domOn (portDomain p) = false then d' = d
      else if d.linkState p = 2 then d' = (d.raise (LNK_EVT_AUTH_FAIL p)).linkFail p 8 else d' = d))
  ∧ (∀ (p : Fin 10), Does (.linkFailedExpire p) s (fun d d' =>
      if d.domOn (portDomain p) = false then d' = d
      else if d.linkState p = 5 then (if d.seqState p = 7 ∨ (d.seqState p = 0 ∧ d.seqWanted p = true) then d'.seqState p = 1 ∧ d'.linkState p = 0
         else d' = d.setLink p 0 ∧ d'.linkState p = 0)
      else d' = d))
  ∧ (∀ (p : Fin 10), Does (.linkAdmitWrite p) s (fun d d' =>
      if d.domOn (portDomain p) = false then d' = d
      else if d.flag STN_STAT_FENCED then d' = d
      else if d.linkState p = 3 then d'.linkState p = 4 ∧ d'.get (LNK_STAT_WRAPPED p) = 0
      else d' = d.set (LNK_CTL_ADMIT p) 1))
  ∧ (∀ (p : Fin 10), Does (.linkUnadmitWrite p) s (fun d d' =>
      if d.domOn (portDomain p) = false then d' = d
      else if d.linkState p = 4 then
        d' = (((((d.set (LNK_CTL_ADMIT p) 0).setLink p 3).cutSent p (fun k => k.hdr.cls == 0)).rerouteAll p).wrapOn p 0)
      else d' = d.set (LNK_CTL_ADMIT p) 0))
  ∧ (∀ (p : Fin 10), Does (.linkFailWrite p) s (fun d d' =>
      if d.domOn (portDomain p) = false then d' = d
      else d' = d.linkFail p 7 ∧ ((d.linkState p = 0 ∨ 5 ≤ d.linkState p) → d' = d)))

/-- For every state: STN_ID takes the written number, role, depth and VALID; clearing the fence changes nothing else; each message
of the line manager is acted on once, its repeats given the first answer, by the action its row names; ASSIGN for a newcomer is
passed on; HELLO is relayed only by a hub that may; the repeats and the silence timer act only while they are waited for. (R117,
R118, R121, R122, R124, R125, R127, R128, R130, R131, R134) -/
def Obligations.StationMessagesComplete : Prop :=
  ∀ s : State,
  (∀ (v : Word), Does (.stnIdWrite v) s (fun d d' =>
      d'.get STN_ID_NUM = v.toNat % 2 ^ 12 ∧ d'.get STN_ID_ROLE = v.toNat / 2 ^ 13 % 2 ^ 2 ∧ d'.get STN_ID_DEPTH = v.toNat / 2 ^ 16 % 2 ^ 2
      ∧ d'.get STN_ID_VALID = v.toNat / 2 ^ 12 % 2
      ∧ (if v.toNat / 2 ^ 13 % 2 ^ 2 = 1 then d'.get (TRK_CTL_EN 1) = 0 ∧ d'.get (TRK_STAT_STATE 1) = 0 ∧ (d.seqState 1 ≠ 7 → d'.get (TRK_CTL_EN 0) = 0 ∧ d'.get (TRK_STAT_STATE 0) = 0)
        else d' = { d with flds := d'.flds, links := d'.links, cycle := d'.cycle })))
  ∧ (Does (.fenceClearWrite) s (fun d d' =>
      if d.domOn 3 = false then d' = d
      else d' = (d.set STN_STAT_FENCED 0).retryWaits ∧ d'.get STN_STAT_FENCED = 0 ∧ (d.waits = [] → (List.range 32).all (fun t => match (d.thr t).wait with | .send _ _ => false | _ => true) = true → d.only [STN_STAT_FENCED.key] d')))
  ∧ (∀ (p : Fin 10) (uid : DWord) (hint : BitVec 12) (line epoch : Word) (port depth : Byte), Does (.helloRx p uid hint line epoch port depth) s (fun d d' =>
      if d.domOn 3 = false then d' = d
      else if d.carriesCtl p = false ∨ d.flag STN_STAT_FENCED ∨ d.flag STN_ID_VALID = false then d' = d
      else if ports.any (fun k => d.linkState k == 4)
          && !(d.enq.waiting.map (·.1) ++ d.enq.owe).any (fun m => m.code == 2 && m.body.getLast? == some p.val) then
        d' = (d.owe 2 [uid.toNat, hint.toNat, line.toNat, epoch.toNat, port.toNat, depth.toNat, d.get STN_ID_NUM, p] none).flushAgent
      else d' = d))
  ∧ (∀ (relay : Option (Fin 10)) (origin : BitVec 12) (xid : Word) (num : BitVec 12) (role : Fin 4) (depth : Byte) (ring : Bool), Does (.assignRx relay origin xid num role depth ring) s (fun d d' =>
      if d.domOn 3 = false then d' = d
      else match relay with
      | some p => d' = (d.answered (fun m => m.code == 2 && m.body.getLast? == some p.val)).sendNbr
          ⟨3, false, xid.toNat, [num.toNat, role, depth.toNat, b2n ring], some p⟩ p ∧ d'.get STN_ID_NUM = d.get STN_ID_NUM
      | none => d' = d.once origin.toNat xid.toNat (fun d => d.assigned origin.toNat xid.toNat num.toNat role depth.toNat)
        ∧ (d.Unheard origin.toNat xid.toNat → if role = 1 ∧ (2 ≤ d.seqState 0 ∨ 2 ≤ d.seqState 1) then
            d'.Answered origin.toNat xid.toNat 0xF [1] ∧ d'.get STN_ID_NUM = d.get STN_ID_NUM
          else if role = 1 ∧ 3 < depth.toNat then d'.Answered origin.toNat xid.toNat 0xF [2] ∧ d'.get STN_ID_NUM = d.get STN_ID_NUM
          else d'.get STN_ID_NUM = num.toNat ∧ d'.get STN_ID_ROLE = role ∧ d'.get STN_ID_DEPTH = depth.toNat % 2 ^ 2 ∧ d'.get STN_ID_VALID = 1
            ∧ d'.Answered origin.toNat xid.toNat 4 [num.toNat, d.get ACD_EPOCH_EPOCH])))
  ∧ (∀ (origin : BitVec 12) (xid epoch : Word) (image : List (Nat × Nat)) (last : Bool), Does (.allotLoadRx origin xid epoch image last) s (fun d d' =>
      if d.domOn 3 = false then d' = d
      else d' = d.once origin.toNat xid.toNat (fun d =>
        let d := d.modEnq (fun e => { e with image := e.image ++ image })
        if last then
          let now := if d.imageTaken epoch.toNat then epoch.toNat else d.get ACD_EPOCH_EPOCH
          let d := ((d.commitImage epoch.toNat).modEnq (fun e => { e with image := [] })).answered (fun m => m.code == 4 || m.code == 6)
          d.answerMsg origin.toNat xid.toNat 6 [now, d.get STN_STAT_FENCED]
        else d.modEnq (fun e => { e with answers := e.answers ++ [((origin.toNat, xid.toNat), none)] }))
      ∧ (d.Unheard origin.toNat xid.toNat → if last = true then d'.enq.image = []
          ∧ d'.Answered origin.toNat xid.toNat 6 [(let y := d.modEnq (fun e => { e with image := e.image ++ image })
              if y.imageTaken epoch.toNat then epoch.toNat else y.get ACD_EPOCH_EPOCH), d'.get STN_STAT_FENCED]
        else d'.enq.image = d.enq.image ++ image ∧ ((origin.toNat, xid.toNat), none) ∈ d'.enq.answers)
      ∧ (¬ d.Unheard origin.toNat xid.toNat → d'.enq.image = d.enq.image)))
  ∧ (∀ (origin : BitVec 12) (xid : Word) (mask : BitVec 10) (epoch : Word), Does (.admitMsgRx origin xid mask epoch) s (fun d d' =>
      if d.domOn 3 = false then d' = d
      else d' = d.once origin.toNat xid.toNat (fun d =>
        let d := d.answered (fun m => m.code == 6 || m.code == 9)
        if epoch.toNat = d.get ACD_EPOCH_EPOCH then
          ((forAll (bitList 10 mask.toNat) (fun p d => linkAdmitWrite p d) (d.set STN_STAT_FENCED 0)).retryWaits).modEnq
            (fun e => { e with admits := e.admits ++ [(origin.toNat, xid.toNat, mask.toNat)] })
        else d.refuse origin.toNat xid.toNat 3)
      ∧ (d.Unheard origin.toNat xid.toNat → if epoch.toNat = d.get ACD_EPOCH_EPOCH then d'.get STN_STAT_FENCED = 0
            ∧ ∀ k, k < 10 → mask.toNat.testBit k = true → d.linkState k = 3 → d'.linkState k = 4
          else d'.Answered origin.toNat xid.toNat 0xF [3])))
  ∧ (∀ (p : Fin 10), Does (.fencedMsgRx p) s (fun d d' =>
      if d.domOn 3 = false then d' = d
      else d' = (d.unadmit p).flushAgent))
  ∧ (∀ (origin : BitVec 12) (xid : Word), Does (.leaveRx origin xid) s (fun d d' =>
      if d.domOn 3 = false then d' = d
      else d' = d.once origin.toNat xid.toNat (fun d =>
        let d := forAll ports (fun p d => d.unadmit p) d
        let d := (d.answerMsg origin.toNat xid.toNat 0xC (d.segBody 0 5)).flushAgent
        bypassInlineWrite false (d.putStn (d.get STN_ID_NUM) (d.get STN_ID_ROLE) (d.get STN_ID_DEPTH) false))
      ∧ (d.Unheard origin.toNat xid.toNat → d'.get STN_ID_VALID = 0 ∧ d'.get TRK_BYP_CTL_INLINE = 0 ∧ d'.get STN_ID_NUM = d.get STN_ID_NUM
        ∧ ∀ k, k < 10 → d.linkState k = 4 → d'.linkState k = 3)))
  ∧ (∀ (origin : BitVec 12) (xid : Word) (p : Fin 10) (plan : Fin 16) (ring byp : Bool), Does (.segReqRx origin xid p plan ring byp) s (fun d d' =>
      if d.domOn 3 = false then d' = d
      else d' = d.once origin.toNat xid.toNat (fun d =>
        (modeReqGo p plan ring byp d).answerMsg origin.toNat xid.toNat 0xC ((modeReqGo p plan ring byp d).segBody p 5))
      ∧ (d.Unheard origin.toNat xid.toNat → d'.get (LNK_MREQ_PLAN p) = plan ∧ d'.get (LNK_MREQ_RING p) = b2n ring ∧ d'.get (LNK_MREQ_BYP p) = b2n byp
        ∧ d'.Answered origin.toNat xid.toNat 0xC ((modeReqGo p plan ring byp d).segBody p 5))))
  ∧ (∀ (origin : BitVec 12) (xid : Word) (regs : List Nat), Does (.statusQueryRx origin xid regs) s (fun d d' =>
      if d.domOn 3 = false then d' = d
      else d' = d.once origin.toNat xid.toNat (fun d => (d.readList regs).2.answerMsg origin.toNat xid.toNat 0xE (d.readList regs).1)
      ∧ (d.Unheard origin.toNat xid.toNat → d'.Answered origin.toNat xid.toNat 0xE (d.readList regs).1)))
  ∧ (∀ (origin : BitVec 12) (xid : Word), Does (.unknownEniqueRx origin xid) s (fun d d' =>
      if d.domOn 3 = false then d' = d
      else d' = d.once origin.toNat xid.toNat (fun d => d.answerMsg origin.toNat xid.toNat 0xF [0])
      ∧ (d.Unheard origin.toNat xid.toNat → d'.Answered origin.toNat xid.toNat 0xF [0])))
  ∧ (∀ (code : Fin 16), Does (.eniqueRepeat code) s (fun d d' =>
      if d.domOn 3 = false then d' = d
      else if code.val = 1 ∧ (d.flag STN_ID_VALID ∨ d.get STN_ID_ROLE = 2) then d' = d
      else if code.val = 1 then
        d' = ((forAll (d.enq.waiting.filter (fun x => x.1.code == 1)) (fun x d => d.flushMsg x.1) d).hello).flushAgent
      else (let lost := fun (x : EnqMsg × Nat) => x.1.code == code.val && decide (x.2 + 500000000 ≤ d.power.osc)
        d' = (forAll (d.enq.waiting.filter (fun x => x.1.code == code.val && !lost x)) (fun x d => d.flushMsg x.1)
            (forAll (d.enq.waiting.filter lost) (fun _ d => d.owe 0xC [15, 6, code.val, 0, 0, 0] none)
              (d.modEnq (fun e => { e with waiting := e.waiting.filter (fun x => !lost x) })))).flushAgent
        ∧ (∀ x ∈ d'.enq.waiting, lost x = false ∨ x ∉ d.enq.waiting))))
  ∧ (Does (.helloSilence) s (fun d d' =>
      if d.domOn 3 = false then d' = d
      else if d.flag STN_ID_VALID then d' = d else d'.enq.slow = true ∧ d'.enq.silent = true ∧ d' = { d with enq := d'.enq }))

/-- For every state and port: GO takes the plan and is held during a back-off, answered INVALID where the plan or the link does not
allow it, else sent under the next serial; a pending request is repeated and ends with TIMEOUT; answers act only on the pending
request of their serial; the back-off's end sends a held request. (R46, R96, R134, R135, R136, R137, R142) -/
def Obligations.ModeRequestsComplete : Prop :=
  ∀ s : State,
  (∀ (p : Fin 10) (plan : Fin 16) (ring byp : Bool), Does (.modeReqGo p plan ring byp) s (fun d d' =>
      if d.domOn (portDomain p) = false then d' = d
      else d'.get (LNK_MREQ_PLAN p) = plan ∧ d'.get (LNK_MREQ_RING p) = b2n ring ∧ d'.get (LNK_MREQ_BYP p) = b2n byp
      ∧ (if (d.lnk p).mreq.pending.isSome then d'.links = d.links
         else if (d.lnk p).mreq.backoff.isSome then d'.get (LNK_MREQ_GO p) = 1 ∧ d'.get (LNK_MRES_RESULT p) = d.get (LNK_MRES_RESULT p) ∧ (d'.lnk p).mreq.held = true
         else if d.carriesCtl p = false ∨ inAllow (d.seq p).allow plan = false then d'.get (LNK_MREQ_GO p) = 0 ∧ d'.get (LNK_MRES_RESULT p) = 6
           ∧ d'.links = d.links
         else d'.get (LNK_MRES_RESULT p) = 1 ∧ d'.get (LNK_REQSER_SER p) = (d.get (LNK_REQSER_SER p) + 1) % 2 ^ 32
           ∧ (d'.lnk p).mreq.pending = some (d'.reqCap p) ∧ (d'.lnk p).caps = (d.lnk p).caps ++ [d'.reqCap p]) ∧ d'.mem = d.mem))
  ∧ (∀ (p : Fin 10), Does (.modeReqRepeat p) s (fun d d' =>
      if d.domOn (portDomain p) = false then d' = d
      else (d'.lnk p).caps = (d.lnk p).caps ++ (d.lnk p).mreq.pending.toList ∧ d'.lnk p = { d.lnk p with caps := (d'.lnk p).caps } ∧ d' = { d with links := d'.links }))
  ∧ (∀ (p : Fin 10), Does (.modeReqTimeout p) s (fun d d' =>
      if d.domOn (portDomain p) = false then d' = d
      else if (d.lnk p).mreq.pending.isSome then (d'.lnk p).mreq.pending = none ∧ d'.get (LNK_MRES_RESULT p) = 4
        ∧ d'.get STN_EVT_MREQ_DONE = 1
      else d' = d))
  ∧ (∀ (p : Fin 10) (b : RxBlk), Does (.modeReqRx p b) s (fun d d' =>
      if d.reached (portDomain p) = false then d' = d
      else d.ReceivesFree p b 9 (some 2) (fun l z e =>
          if (z.lnk p).mreq.answered.any (fun a => a.1 == (capOf l).reqSer) = true then
            (e.lnk p).caps = (z.lnk p).caps ++ ((z.lnk p).mreq.answered.map (·.2)).toList ∧ e = { z with links := e.links }
          else if (z.lnk p).mreq.pending.isSome = true ∧ z.uid < (capOf l).unitId then
            (e.lnk p).caps = (z.lnk p).caps ++ [{ z.ownCap p 4 with reqSer := (capOf l).reqSer }] ∧ (e.lnk p).mreq.pending = (z.lnk p).mreq.pending
          else (e.lnk p).mreq.restart = some (z.answerMode p (capOf l), (capOf l).ring, (capOf l).byp) ∧ (e.lnk p).mreq.pending = none
            ∧ (e.lnk p).caps = (z.lnk p).caps ++ [{ z.ownCap p 3 with plan := z.answerMode p (capOf l), ring := (capOf l).ring, byp := (capOf l).byp, reqSer := (capOf l).reqSer }]
            ∧ ((z.lnk p).mreq.pending.isSome = true → (e.lnk p).mreq.backoff.isSome = true ∧ e.get (LNK_MRES_RESULT p) = 5)) d'))
  ∧ (∀ (p : Fin 10) (b : RxBlk), Does (.modeAckRx p b) s (fun d d' =>
      if d.reached (portDomain p) = false then d' = d
      else d.ReceivesFree p b 9 (some 3) (fun l z e =>
          if (z.lnk p).mreq.pending.map (·.reqSer) = some (capOf l).reqSer ∧ (capOf l).plan % 4 ≠ 3 then
            (e.lnk p).mreq.pending = none ∧ e.get (LNK_MRES_AMODE p) = (capOf l).plan % 2 ^ 4 ∧ e.get (LNK_MRES_RESULT p) = 2
            ∧ (z.seqState p = 7 → e.linkState p = 5 ∧ e.get (LNK_STAT_CAUSE p) = 3)
          else e = z) d'))
  ∧ (∀ (p : Fin 10) (b : RxBlk), Does (.collideRx p b) s (fun d d' =>
      if d.reached (portDomain p) = false then d' = d
      else d.ReceivesFree p b 9 (some 4) (fun l z e =>
          if (z.lnk p).mreq.pending.map (·.reqSer) = some (capOf l).reqSer then
            (e.lnk p).mreq.pending = none ∧ (e.lnk p).mreq.backoff.isSome = true ∧ e.get (LNK_MRES_RESULT p) = 5
            ∧ 1000 ≤ e.get (LNK_MRES_BACKOFF p) ∧ e.get (LNK_MRES_BACKOFF p) ≤ 8000 ∧ e.freeCtr = z.freeCtr + 1
          else e = z) d'))
  ∧ (∀ (p : Fin 10), Does (.modeAckRestartTimer p) s (fun d d' =>
      if d.domOn (portDomain p) = false then d' = d
      else if (d.lnk p).mreq.restart.isNone then d' = d
      else d' = d.agreed p ∧ (d'.lnk p).mreq.restart = none
        ∧ (if d.seqState p = 0 then d'.seqState p = 0
          else if d.seqState p = 7 ∧ d.linkState p ≠ 0 then (d.linkState p ≤ 4 → d'.linkState p = 5) else d'.seqState p = 1)
        ∧ (if p.val < 2 ∧ d.writtenNow (TRK_PLAN_PMODE p) = false ∧ d.writtenNow (TRK_PLAN_BYP p) = false then
            d'.get (TRK_PLAN_PMODE p) = ((d.lnk p).mreq.restart.getD (0, false, false)).1 % 16
            ∧ d'.get (TRK_PLAN_BYP p) = b2n ((d.lnk p).mreq.restart.getD (0, false, false)).2.2
          else True)))
  ∧ (∀ (p : Fin 10), Does (.mreqBackoffEnd p) s (fun d d' =>
      if d.domOn (portDomain p) = false then d' = d
      else if (d.lnk p).mreq.backoff = none then d' = d
      else d'.get (LNK_MRES_BACKOFF p) = 0 ∧ (d'.lnk p).mreq.backoff = none ∧ (d'.lnk p).mreq.held = false
        ∧ (if (d.lnk p).mreq.held = false then d'.get (LNK_MRES_RESULT p) = 3 ∧ d.only [(LNK_MRES_BACKOFF p).key, (LNK_MRES_RESULT p).key] { d' with links := d.links }
           else d'.get (LNK_MREQ_GO p) = 0)))

/-- For every state: a waiting first block is taken; where its packet goes out on one Tirrun port and the switch core takes it, it
stands in that port's queue with its bytes; in ADMIT with CLASS not 0 and while the engine is off it is discarded and counted. A
last block makes its packet whole, poisoned where it is bad. A held packet is admitted once it may be. An acknowledgement of
copies moves TX_UNA past them and frees them; one outside the window changes nothing. A refresh for the origin of a DISP tunnel
reaches the engine of its LPORT or is counted. A packet of a local source is numbered and sent, waits, or is discarded with the
counter of its reason. Timers send an ACK packet, resend the copies that SACK does not report, or break the context. (R104,
R151, R159, R164, R165, R167, R170, R171, R172, R174, R194, R263) -/
def Obligations.PacketAndTunnelCommandsComplete : Prop :=
  ∀ s : State,
  (∀ (p : Fin 10) (ecc : Ecc), Does (.packetFirstBlock p ecc) s (fun d d' =>
      if d.domOn 3 = false then d' = d
      else match d.takeWait p (fun b => b.hdr.first) with
      | none => d' = d
      | some (b, y) => d' = (forAll (((y.firstBlock p b.hdr b.bytes).lnk p).rxWait.filter
            (fun x => x.hdr.pid == b.hdr.pid && !x.hdr.first && !x.hdr.last))
          (fun x z => (z.modLnk p (fun l => { l with rxWait := l.rxWait.erase x })).laterBlock p x.hdr x.bytes)
          (y.firstBlock p b.hdr b.bytes)).drainLocal ecc
        ∧ (d.enginesIdle → (y.lnk p).rxWait = [] →
          (d'.lnk p).rxWait = []
          ∧ (if d.linkState p = 3 ∧ (THdr.parse b.bytes).cls ≠ 0 then
              d'.get (LNK_FENCEDROP_COUNT p) = (d.get (LNK_FENCEDROP_COUNT p) + 1) % 2 ^ 32 ∧ d'.sw.pkts = d.sw.pkts
            else if d.flag TNL_CTL_EN = false then d'.get TNL_NOCTX_COUNT = (d.get TNL_NOCTX_COUNT + 1) % 2 ^ 32 ∧ d'.sw.pkts = d.sw.pkts
            else (let pl := ((y.tmtSeen (THdr.parse b.bytes)).plan p b.hdr.sq (THdr.parse b.bytes) (b.hdr.ty == 1)).1
              if pl = Plan.none then d'.sw.pkts = d.sw.pkts
              else (match pl.outs with
                | [(p', sq, _)] => (if pl.term = none ∧ pl.agent = false ∧ p' < 10 ∧ d.takesPacket p (portQueue p' sq) 1 then
                    d.Queued (portQueue p' sq) (THdr.parse b.bytes) b.bytes d' else True)
                | _ => True))))))
  ∧ (∀ (p : Fin 10) (ecc : Ecc), Does (.packetLastBlock p ecc) s (fun d d' =>
      if d.domOn 3 = false then d' = d
      else match d.takeWait p (fun b => b.hdr.last && !b.hdr.first
          && !(d.lnk p).rxWait.any (fun x => x.hdr.first && x.hdr.pid == b.hdr.pid)) with
      | none => d' = d
      | some (b, y) => d' = (y.laterBlock p b.hdr b.bytes).drainLocal ecc
        ∧ (d.enginesIdle → (d'.lnk p).rxWait = (d.lnk p).rxWait.erase b ∧ d'.sw.rxOpen.get (openKey p b.hdr.pid) none = none
          ∧ (match d.sw.rxOpen.get (openKey p b.hdr.pid) none with
            | some [i] => (match d.pkt i with
              | some k => (if k.trunc.isSome = true then d'.pkt i = none ∧ (k.trunc.map (fun q => d'.get (LNK_TRUNC_COUNT q)))
                    = k.trunc.map (fun q => (d.get (LNK_TRUNC_COUNT q) + 1) % 2 ^ 32)
                  else if k.ing = p.val then (d'.pkt i).map (fun x => (x.whole, x.poison, x.data))
                    = some (true, k.poison || b.hdr.poison || b.bytes == [] || (k.feed b.bytes).bad, k.data ++ b.bytes)
                  else True)
              | none => True)
            | _ => True))))
  ∧ (∀ (ing : Fin 23) (ecc : Ecc), Does (.admissionRetry ing ecc) s (fun d d' =>
      if d.domOn 3 = false then d' = d
      else d' = (((d.chargeWaiting ing).sw.held.get ing []).foldl (fun (x : List Nat × Dev) i => match x.2.pkt i with
          | none => x
          | some k => if x.1.contains k.queue then x else (if ((x.2.admission i).sw.held.get ing []).contains i then k.queue :: x.1 else x.1, x.2.admission i)) ([], d.chargeWaiting ing)).2.drainLocal ecc
      ∧ (match d.sw.held.get ing [] with
        | [] => d.enginesIdle → d.sw.pkts.all (fun x => !(x.2.ing == ing.val && x.2.waiting)) = true → d' = d
        | [i] => (match d.pkt i with
          | some k => (if d.enginesIdle ∧ d.sw.pkts.all (fun x => !(x.2.ing == ing.val && x.2.waiting)) = true ∧ k.place = .held ∧ k.ing = ing.val
                ∧ queueEgress k.queue < 20 then
              (if d.flag SWC_CTL_EN = false ∨ d.sw.claims ≠ [] then
                (if 10 ≤ ing.val ∧ ing.val < 20 then d'.get SWC_DROP_PKTS_COUNT = (d.get SWC_DROP_PKTS_COUNT + 1) % 2 ^ 32 else d' = d)
              else if d.get (SWQ_W3_SPILLED k.queue) = 0 ∧ d.get (SWQ_W2_OCC k.queue) < d.threshold k.queue ∧ k.cells.length ≤ d.freeShared then
                d'.queue k.queue = d.queue k.queue ++ [i] ∧ d'.sw.held.get ing [] = [] ∧ (d'.pkt i).map Pkt.data = some k.data
                ∧ (d'.pkt i).map (·.place) = some .chip
                ∧ d'.get (SWQ_W4_ADMIT_PKTS k.queue) = (d.get (SWQ_W4_ADMIT_PKTS k.queue) + 1) % 2 ^ 32
              else True)
            else True)
          | none => True)
        | _ => True)))
  ∧ (∀ (c : Fin 1024) (una : Word) (sack : Option (BitVec 16)), Does (.ackPacketRx c una sack) s (fun d d' =>
      if d.domOn 3 = false then d' = d
      else if d.ctxRun c = false ∨ d.flag (CTX_W0_REL c) = false
        ∨ (d.get (CTX_W3_TX_NEXT c) + 2 ^ 32 - d.get (CTX_W4_TX_UNA c)) % 2 ^ 32 < (una.toNat + 1 + 2 ^ 32 - d.get (CTX_W4_TX_UNA c)) % 2 ^ 32
        then d' = d
      else if (una.toNat + 1) % 2 ^ 32 = d.get (CTX_W4_TX_UNA c) then
        (d'.ctx c).sack = (sack.map BitVec.toNat).getD (d.ctx c).sack ∧ (d'.ctx c).copies = (d.ctx c).copies ∧ d' = { d with ctxs := d'.ctxs }
      else (let x := (una.toNat + 1 + 2 ^ 32 - d.get (CTX_W4_TX_UNA c)) % 2 ^ 32
        let cov := fun (k : Copy) => decide ((k.tseq + 2 ^ 32 - d.get (CTX_W4_TX_UNA c)) % 2 ^ 32 < x)
        d'.get (CTX_W4_TX_UNA c) = (una.toNat + 1) % 2 ^ 32
        ∧ (if d.sourcesIdle then
            (d'.ctx c).copies = (d.ctx c).copies.filter (fun k => !cov k)
            ∧ (d'.ctx c).sack = (sack.map BitVec.toNat).getD (if 16 ≤ x then 0 else (d.ctx c).sack / 2 ^ x)
            ∧ (((d.ctx c).copies.filter cov).flatMap (·.cells) ≠ [] → d'.get TNL_STAT_RS_FULL = 0 ∧ d'.get TNL_RS_USED_CELLS
                = d.get TNL_RS_USED_CELLS - (((d.ctx c).copies.filter cov).flatMap (·.cells)).length)
            ∧ d' = { d with flds := d'.flds, ctxs := d'.ctxs }
          else d' = Dev.ackRx c una.toNat (sack.map BitVec.toNat) d))))
  ∧ (∀ (c : Fin 1024) (payload : List Byte), Does (.refreshPacketRx c payload) s (fun d d' =>
      if d.domOn 3 = false then d' = d
      else if (d.ctxRun c && d.orig c && d.get (CTX_W0_CLASS c) == 3) = false then
        d'.get TNL_NOCTX_COUNT = (d.get TNL_NOCTX_COUNT + 1) % 2 ^ 32 ∧ d'.get TNL_EVT_NOCTX = 1
      else d' = (d.handOver c ⟨1, 3, false, d.get STN_ID_NUM, d.get (CTX_W0_PEER c), d.get (CTX_W0_INDEX c), 0, false, true, 2,
          payload.length, false, 0, 0⟩ payload 0).getD (d.inc (CTX_W15_RXFULL c))
        ∧ (d.get (CTX_W1_LPORT c) = 3 → d.dsoTakes (d.get (CTX_W1_LQ c)) = true →
            (d'.port.inq.get (1152 + d.get (CTX_W1_LQ c)) []).map (·.payload) = (d.port.inq.get (1152 + d.get (CTX_W1_LQ c)) []).map (·.payload) ++ [payload]
            ∧ d' = { d with port := d'.port })
        ∧ (d.get (CTX_W1_LPORT c) = 0 ∨ (d.get (CTX_W1_LPORT c) = 3 ∧ d.dsoTakes (d.get (CTX_W1_LQ c)) = false) →
            d'.get (CTX_W15_RXFULL c) = (d.get (CTX_W15_RXFULL c) + 1) % 2 ^ 32 ∧ d.only [(CTX_W15_RXFULL c).key] d')))
  ∧ (∀ (c : Fin 1024) (ing : Fin 13) (payload : List Byte) (pre : Option (Fin 3)) (aux : Word), Does (.localPacketEntry c ing payload pre aux) s (fun d d' =>
      if d.domOn 3 = false then d' = d
      else d' = d.offer ⟨c, 10 + ing, payload, pre.map Fin.val, aux.toNat, none, false⟩
      ∧ (let x : LocalPkt := ⟨c, 10 + ing, payload, pre.map Fin.val, aux.toNat, none, false⟩
        if d.behind x = true ∨ d.flag TNL_CTL_EN = false ∨ d.get (CTX_W0_STATE c) = 2 ∧ payload.length ≤ d.maxLen c then
          d'.waits = d.waits ++ [x]
        else if d.rel.flaws ≠ [] then True
        else if d.get (CTX_W0_STATE c) = 0 then d'.get TNL_NOCTX_COUNT = (d.get TNL_NOCTX_COUNT + 1) % 2 ^ 32 ∧ d'.get TNL_EVT_NOCTX = 1 ∧ d'.waits = d.waits
        else if d.maxLen c < payload.length then d' = d
        else if d.ctxRun c = false then d'.waits = d.waits ++ [x]
        else if d.flag STN_STAT_FENCED = true ∧ d.get (CTX_W0_CLASS c) ≠ 0 then
          (if ing.val < 10 then d'.get TNL_FENCEDROP_COUNT = (d.get TNL_FENCEDROP_COUNT + 1) % 2 ^ 32 ∧ d.only [TNL_FENCEDROP_COUNT.key] d'
            else d' = { d with waits := d.waits ++ [x] })
        else if d.flag (CTX_W0_REL c) = true then
          (d.ctxWin c ≤ (d.ctx c).copies.length → d' = { d with waits := d.waits ++ [x] })
        else (match d.sqOf c with
          | none => d'.get TNL_NOALLOT_COUNT = (d.get TNL_NOALLOT_COUNT + 1) % 2 ^ 32 ∧ d'.get TNL_EVT_NOALLOT = 1 ∧ d'.waits = d.waits
          | some sq => if (d.colourAt c x (16 + payload.length + 8)).1 = none then d'.waits = d.waits ∧ d'.sw = d.sw
              ∧ d'.get (CTX_W3_TX_NEXT c) = d.get (CTX_W3_TX_NEXT c)
            else d'.get (CTX_W3_TX_NEXT c) = (d.get (CTX_W3_TX_NEXT c) + 1) % 2 ^ 32
              ∧ d'.get (CTX_W8_TX_PKTS c) = (d.get (CTX_W8_TX_PKTS c) + 1) % 2 ^ 32 ∧ d'.waits = d.waits
              ∧ (if d.ctxGroup c = false ∧ d.get (CTX_W1_EGRESS c) < 10 ∧ d.openFor (d.get (CTX_W1_EGRESS c)) (d.get (CTX_W0_CLASS c)) = true
                    ∧ d.takesPacket (10 + ing) (portQueue (d.get (CTX_W1_EGRESS c)) sq) ((payload.length + 279) / 256) then
                  d'.queue (portQueue (d.get (CTX_W1_EGRESS c)) sq) = d.queue (portQueue (d.get (CTX_W1_EGRESS c)) sq) ++ [d.sw.nextPkt]
                  ∧ (d'.pkt d.sw.nextPkt).map (fun k => (k.hdr.cls, k.hdr.dest, k.hdr.origin, k.hdr.index, k.hdr.kind, k.hdr.tseq))
                    = some (d.get (CTX_W0_CLASS c), d.get (CTX_W0_PEER c), d.get STN_ID_NUM, d.get (CTX_W0_INDEX c), 0, d.get (CTX_W3_TX_NEXT c))
                  ∧ (d'.pkt d.sw.nextPkt).map (fun k => (k.data.drop 16).take payload.length) = some payload
                else True)))))
  ∧ (∀ (k : Nat), Does (.policerRelease k) s (fun d d' =>
      if d.domOn 3 = false then d' = d
      else d' = (d.elapse k).retryWaits
      ∧ d'.power.osc = d.power.osc + k
      ∧ (let y := d.elapse k
        (y.sourcesIdle → d' = y)
        ∧ (match y.waits with
          | [x] => (if y.rel.flaws = [] ∧ y.flag TNL_CTL_EN = true ∧ y.ctxRun x.ctx = true ∧ y.flag STN_STAT_FENCED = false ∧ x.payload.length ≤ y.maxLen x.ctx
                ∧ y.flag (CTX_W0_REL x.ctx) = false ∧ (y.sqOf x.ctx).isSome = true ∧ (y.colourAt x.ctx x (16 + x.payload.length + 8)).1.isSome = true
                ∧ Dev.sourcesIdle { y with waits := [] } then
              d'.waits = [] ∧ d'.get (CTX_W3_TX_NEXT x.ctx) = (y.get (CTX_W3_TX_NEXT x.ctx) + 1) % 2 ^ 32
              ∧ d'.get (CTX_W8_TX_PKTS x.ctx) = (y.get (CTX_W8_TX_PKTS x.ctx) + 1) % 2 ^ 32
            else True)
          | _ => True))))
  ∧ (∀ (c : Fin 1024), Does (.tunnelAckTimer c) s (fun d d' =>
      if d.domOn 3 = false then d' = d
      else if d.ctxRun c = true ∧ 0 < (d.ctx c).unacked then
        (d'.ctx c).unacked = 0
        ∧ (match d.sqOf c with
          | none => d'.get TNL_NOALLOT_COUNT = (d.get TNL_NOALLOT_COUNT + 1) % 2 ^ 32 ∧ d'.get TNL_EVT_NOALLOT = 1
          | some sq => (let h : THdr := { d.ctxHdr c 1 4 with akv := true, aux := (d.get (CTX_W5_RX_EXP c) + 2 ^ 32 - 1) % 2 ^ 32 }
              d' = (d.modCtx c (fun x => { x with unacked := 0 })).sendControl c 1 true ((d.get (CTX_W5_RX_EXP c) + 2 ^ 32 - 1) % 2 ^ 32)
                (natBE 4 (d.get (CTX_W6_HELD c) * 2 ^ 16))
              ∧ (d.get (CTX_W1_EGRESS c) < 10 → d.Sends (d.get (CTX_W1_EGRESS c)) sq h (natBE 4 (d.get (CTX_W6_HELD c) * 2 ^ 16)) d')))
      else d' = d))
  ∧ (∀ (c : Fin 1024), Does (.tunnelRtoExpire c) s (fun d d' =>
      if d.domOn 3 = false then d' = d
      else if (d.ctxSeen c).ctxRun c = false then d' = d.ctxSeen c
      else match ((d.ctxSeen c).ctx c).copies with
      | [] => d' = d.ctxSeen c
      | k :: t => if ((d.ctxSeen c).ctx c).ackAt = some d.time.cyc ∧ d.time.cyc < k.sentAt + (d.ctxSeen c).rto c then d' = d.ctxSeen c
        else if (d.ctxSeen c).ctxRetry c ≤ k.resends then
          d'.get (CTX_W0_STATE c) = 2 ∧ d'.get TNL_BROKEN_CTX = c ∧ d'.get TNL_BROKEN_VALID = 1 ∧ d'.get TNL_EVT_CTX_BROKEN = 1
        else (let l := k :: t.filter (fun z => !((z.tseq + 2 ^ 32 - (d.ctxSeen c).get (CTX_W4_TX_UNA c) - 1) % 2 ^ 32 < 16
            && ((d.ctxSeen c).ctx c).sack.testBit ((z.tseq + 2 ^ 32 - (d.ctxSeen c).get (CTX_W4_TX_UNA c) - 1) % 2 ^ 32)))
          d' = forAll l (fun z y => y.resend c z) (d.ctxSeen c)
          ∧ d'.get (CTX_W10_RESENT c) = ((d.ctxSeen c).get (CTX_W10_RESENT c) + l.length) % 2 ^ 32
          ∧ (d'.ctx c).copies.map (fun z => (z.tseq, z.size, z.cells)) = ((d.ctxSeen c).ctx c).copies.map (fun z => (z.tseq, z.size, z.cells))
          ∧ (∀ z ∈ (d'.ctx c).copies, l.any (fun y => y.tseq == z.tseq) = true → z.sentAt = d.time.cyc ∧ 1 ≤ z.resends))))

/-- For every state: READ copies the sixteen words of the context into the data registers; WRITE and ENABLE answer ERR 1 for a
context that is not disabled, ENABLE ERR 2 for an unsound one and ERR 3 for an origin whose INDEX is not its number, and else do
their work with ERR 0; DISABLE and CLRCNT answer 0; a plain store to the TMT is counted and raised. (R16, R150, R151, R153,
R158, R163) -/
def Obligations.ContextWindowComplete : Prop :=
  ∀ s : State,
  (Does (.ctxRead) s (fun d d' =>
      if d.domOn 3 = false then d' = d
      else d.Windowed TNL_CTX_RES_DONE (d'.get TNL_CTX_RES_ERR = 0
      ∧ (∀ k, k < 16 → d'.get (TNL_CTX_DATAk_WORD k) = d.ctxWord (d.get TNL_CTX_IDX_CTX) k % 2 ^ 32)
      ∧ d.only ([TNL_CTX_RES_DONE.key, TNL_CTX_RES_ERR.key] ++ (List.range 16).map (fun k => (TNL_CTX_DATAk_WORD k).key)) d') d'))
  ∧ (Does (.ctxWrite) s (fun d d' =>
      if d.domOn 3 = false then d' = d
      else d.Windowed TNL_CTX_RES_DONE
      (if d.get (CTX_W0_STATE (d.get TNL_CTX_IDX_CTX)) ≠ 0 then d'.get TNL_CTX_RES_ERR = 1
          ∧ d.only [TNL_CTX_RES_DONE.key, TNL_CTX_RES_ERR.key] d'
        else d'.get TNL_CTX_RES_ERR = 0
          ∧ d'.get (CTX_W0_CLASS (d.get TNL_CTX_IDX_CTX)) = d.get (TNL_CTX_DATAk_WORD 0) / 2 % 2 ^ (CTX_W0_CLASS (d.get TNL_CTX_IDX_CTX)).w
          ∧ d'.get (CTX_W0_PEER (d.get TNL_CTX_IDX_CTX)) = d.get (TNL_CTX_DATAk_WORD 0) / 2 ^ 8 % 2 ^ 12
          ∧ d'.get (CTX_W3_TX_NEXT (d.get TNL_CTX_IDX_CTX)) = d.get (TNL_CTX_DATAk_WORD 3)
          ∧ d'.get (CTX_W5_RX_EXP (d.get TNL_CTX_IDX_CTX)) = d.get (TNL_CTX_DATAk_WORD 5)
          ∧ d' = { d with flds := d'.flds, cycle := d'.cycle }) d'))
  ∧ (Does (.ctxEnable) s (fun d d' =>
      if d.domOn 3 = false then d' = d
      else d.Windowed TNL_CTX_RES_DONE
      (if d.get (CTX_W0_STATE (d.get TNL_CTX_IDX_CTX)) ≠ 0 then d'.get TNL_CTX_RES_ERR = 1 ∧ d.only [TNL_CTX_RES_DONE.key, TNL_CTX_RES_ERR.key] d'
      else if d.ctxSound (d.get TNL_CTX_IDX_CTX) = false then d'.get TNL_CTX_RES_ERR = 2 ∧ d.only [TNL_CTX_RES_DONE.key, TNL_CTX_RES_ERR.key] d'
      else if (d.orig (d.get TNL_CTX_IDX_CTX) && d.get (CTX_W0_INDEX (d.get TNL_CTX_IDX_CTX)) != d.get TNL_CTX_IDX_CTX) = true then
        d'.get TNL_CTX_RES_ERR = 3 ∧ d.only [TNL_CTX_RES_DONE.key, TNL_CTX_RES_ERR.key] d'
      else d'.get TNL_CTX_RES_ERR = 0 ∧ d'.get (CTX_W0_STATE (d.get TNL_CTX_IDX_CTX)) = 1
        ∧ d'.get (CTX_W4_TX_UNA (d.get TNL_CTX_IDX_CTX)) = d.get (CTX_W3_TX_NEXT (d.get TNL_CTX_IDX_CTX))
        ∧ d'.get (CTX_W6_HELD (d.get TNL_CTX_IDX_CTX)) = 0 ∧ d'.get (CTX_W6_HELDN (d.get TNL_CTX_IDX_CTX)) = 0
        ∧ d'.get TNL_STAT_CTX_RUN = (d.get TNL_STAT_CTX_RUN + 1) % 2 ^ 11
        ∧ (d.sourcesIdle → d'.ctx (d.get TNL_CTX_IDX_CTX) = CtxSt.reset ∧ d' = { d with flds := d'.flds, ctxs := d'.ctxs, cycle := d'.cycle })) d'))
  ∧ (Does (.ctxDisable) s (fun d d' =>
      if d.domOn 3 = false then d' = d
      else d.Windowed TNL_CTX_RES_DONE
      (d'.get TNL_CTX_RES_ERR = 0 ∧ d'.get (CTX_W0_STATE (d.get TNL_CTX_IDX_CTX)) = 0
        ∧ d'.get (CTX_W6_HELD (d.get TNL_CTX_IDX_CTX)) = 0 ∧ d'.get (CTX_W6_HELDN (d.get TNL_CTX_IDX_CTX)) = 0
        ∧ d'.get TNL_STAT_CTX_RUN = (if d.get (CTX_W0_STATE (d.get TNL_CTX_IDX_CTX)) = 0 then d.get TNL_STAT_CTX_RUN else (d.get TNL_STAT_CTX_RUN - 1) % 2 ^ 11)
        ∧ d'.ctx (d.get TNL_CTX_IDX_CTX) = CtxSt.reset ∧ d'.waits.all (fun x => x.ctx != d.get TNL_CTX_IDX_CTX) = true
        ∧ d'.port.refresh.get (d.get TNL_CTX_IDX_CTX) none = none
        ∧ d'.get TNL_RS_USED_CELLS = (d.get TNL_RS_USED_CELLS - ((d.ctx (d.get TNL_CTX_IDX_CTX)).copies.flatMap (·.cells)).length) % 2 ^ (TNL_RS_USED_CELLS).w) d'))
  ∧ (Does (.ctxClrcnt) s (fun d d' =>
      if d.domOn 3 = false then d' = d
      else d.Windowed TNL_CTX_RES_DONE (d'.get TNL_CTX_RES_ERR = 0 ∧ d'.get (CTX_W8_TX_PKTS (d.get TNL_CTX_IDX_CTX)) = 0
      ∧ d'.get (CTX_W9_RX_PKTS (d.get TNL_CTX_IDX_CTX)) = 0 ∧ d'.get (CTX_W10_RESENT (d.get TNL_CTX_IDX_CTX)) = 0
      ∧ d'.get (CTX_W11_DUP (d.get TNL_CTX_IDX_CTX)) = 0 ∧ d'.get (CTX_W12_LOST (d.get TNL_CTX_IDX_CTX)) = 0
      ∧ d'.get (CTX_W13_POISONED (d.get TNL_CTX_IDX_CTX)) = 0 ∧ d'.get (CTX_W14_STALE (d.get TNL_CTX_IDX_CTX)) = 0
      ∧ d'.get (CTX_W15_RXFULL (d.get TNL_CTX_IDX_CTX)) = 0 ∧ d' = { d with flds := d'.flds, cycle := d'.cycle }) d'))
  ∧ (Does (.tmtStoreRefused) s (fun d d' =>
      d'.get TNL_TMTREFUSED_COUNT = (d.get TNL_TMTREFUSED_COUNT + 1) % 2 ^ 32 ∧ d'.get TNL_EVT_TMT_REFUSED = 1 ∧ d'.posted = d.posted))

/-- For every state: a refill starts for a spilled queue whose on-chip cells are below LOW; READ copies the eight words of the
queue; WRITE takes the threshold and spill fields; CLRCNT clears W4 to W7; a queue number or threshold that does not exist
answers ERR 2 and changes nothing else. (R16, R206, R208, R211) -/
def Obligations.QueueWindowAndRefillComplete : Prop :=
  ∀ s : State,
  (∀ (q : Fin 1216), Does (.refillStart q) s (fun d d' =>
      if d.domOn 3 = false then d' = d
      else if d.get (SWQ_W2_OCC q) < d.get SWC_STAGE_Q_LOW ∧ 0 < d.get (SWQ_W3_SPILLED q)
      then d'.sw.refill.get q false = true ∧ d' = { d with sw := d'.sw } else d' = d))
  ∧ (∀ (q : Fin 1216) (ecc : Ecc), Does (.refillCellArrive q ecc) s (fun d d' =>
      if d.domOn 3 = false then d' = d
      else if d.sw.refill.get q false = false then d' = d
      else d' = (let y := (d.elapse ((d.sw.spillAt - d.ps + 1999) / 2000)).stageCell q ecc
          (if y.get (SWQ_W3_SPILLED q) = 0 ∨ y.get SWC_STAGE_Q_PERQ ≤ y.stagedOf q then
            y.modSw (fun w => { w with refill := w.refill.set q false false }) else y).drainLocal .ok)
        ∧ (if d.enginesIdle ∧ d.sw.spillAt ≤ d.ps ∧ d.rel.flaws = [] then
            (if d.get SWC_STAGE_Q_PERQ ≤ d.stagedOf q then d'.sw.refill.get q false = false ∧ d'.sw.pkts = d.sw.pkts
            else if d.spillRate = 0 then d'.sw.pkts = d.sw.pkts
            else if d.stageTurn q = false then d'.sw.pkts = d.sw.pkts ∧ d'.sw.stageWait = d.sw.stageWait.filter (· != q.val) ++ [q.val]
            else (match d.nextSpilled q, d.nextBank 23 with
              | some (i, k), some _ => d'.get (SWQ_W3_SPILLED q) = d.get (SWQ_W3_SPILLED q) - 1
                  ∧ d'.get SWC_SPILL_OUT_COUNT = (d.get SWC_SPILL_OUT_COUNT + 1) % 2 ^ 32
                  ∧ d'.get SWC_SPILL_ECC_COUNT = (if ecc = .ue then (d.get SWC_SPILL_ECC_COUNT + 1) % 2 ^ 32 else d.get SWC_SPILL_ECC_COUNT)
                  ∧ (ecc = .ue → d'.get SWC_EVT_SPILL_ECC = 1)
                  ∧ (d'.pkt i).map (fun x => (x.cells.filter (fun c => c.pool == .spill)).length)
                    = some ((k.cells.filter (fun c => c.pool == .spill)).length - 1)
                  ∧ (d'.pkt i).map (fun x => (x.cells.filter (fun c => c.pool == .stage)).length)
                    = some ((k.cells.filter (fun c => c.pool == .stage)).length + 1)
              | _, _ => d'.sw.pkts = d.sw.pkts))
          else True)))
  ∧ (Does (.swcQRead) s (fun d d' =>
      if d.domOn 3 = false then d' = d
      else d.Windowed SWC_Q_RES_DONE
      (if 1216 ≤ d.get SWC_Q_IDX_Q then d'.get SWC_Q_RES_ERR = 2 ∧ d.only [SWC_Q_RES_DONE.key, SWC_Q_RES_ERR.key] d'
        else d'.get SWC_Q_RES_ERR = 0 ∧ (∀ k, k < 8 → d'.get (SWC_Q_DATAk_WORD k) = d.swqWord (d.get SWC_Q_IDX_Q) k % 2 ^ 32)
          ∧ d.only ([SWC_Q_RES_DONE.key, SWC_Q_RES_ERR.key] ++ (List.range 8).map (fun k => (SWC_Q_DATAk_WORD k).key)) d') d'))
  ∧ (Does (.swcQWrite) s (fun d d' =>
      if d.domOn 3 = false then d' = d
      else d.Windowed SWC_Q_RES_DONE
      (if 1216 ≤ d.get SWC_Q_IDX_Q ∨ (4 ≤ d.get (SWC_Q_DATAk_WORD 0) % 16 ∧ d.get (SWC_Q_DATAk_WORD 0) % 16 < 12) then
          d'.get SWC_Q_RES_ERR = 2 ∧ d.only [SWC_Q_RES_DONE.key, SWC_Q_RES_ERR.key] d'
        else d'.get SWC_Q_RES_ERR = 0 ∧ d'.get (SWQ_W0_K (d.get SWC_Q_IDX_Q)) = d.get (SWC_Q_DATAk_WORD 0) % 16
          ∧ d'.get (SWQ_W0_SPILL_EN (d.get SWC_Q_IDX_Q)) = d.get (SWC_Q_DATAk_WORD 0) / 16 % 2
          ∧ d'.get (SWQ_W1_SPILL_CAP (d.get SWC_Q_IDX_Q))
            = d.get (SWC_Q_DATAk_WORD 1) % 2 ^ (SWQ_W1_SPILL_CAP (d.get SWC_Q_IDX_Q)).w
          ∧ d' = { d with flds := d'.flds, cycle := d'.cycle }) d'))
  ∧ (Does (.swcQClrcnt) s (fun d d' =>
      if d.domOn 3 = false then d' = d
      else d.Windowed SWC_Q_RES_DONE
      (if 1216 ≤ d.get SWC_Q_IDX_Q then d'.get SWC_Q_RES_ERR = 2 ∧ d.only [SWC_Q_RES_DONE.key, SWC_Q_RES_ERR.key] d'
        else d'.get SWC_Q_RES_ERR = 0 ∧ d'.get (SWQ_W4_ADMIT_PKTS (d.get SWC_Q_IDX_Q)) = 0 ∧ d'.get (SWQ_W5_DROP_PKTS (d.get SWC_Q_IDX_Q)) = 0
          ∧ d'.get (SWQ_W6_SPILL_PKTS (d.get SWC_Q_IDX_Q)) = 0 ∧ d'.get (SWQ_W7_PEAK (d.get SWC_Q_IDX_Q)) = 0
          ∧ d' = { d with flds := d'.flds, cycle := d'.cycle }) d'))

/-- For every state: a snapshot copies the four time bases; a base the servo owns refuses rate, phase and load; a rate is taken; a
phase step beyond STEPLIM or during a slew is refused, else its slew starts; a load puts the new time; the PLL's lock starts the
count; a lost reference is raised only where one is selected; the servo's enable, disable, REACQ and source leave the state and
the owner the rules name. (R213, R214, R215, R216, R217, R222, R224, R230) -/
def Obligations.TimeBaseAndServoComplete : Prop :=
  ∀ s : State,
  (Does (.tbSnapshot) s (fun d d' =>
      if d.domOn 3 = false then d' = d
      else (∀ n, n < 4 → (let x := match d.time.pre with
          | some (c, l) => if c = d.time.cyc then l.get n ⟨0, 0, 0⟩ else d.tb n
          | none => d.tb n
        d'.get (TMB_TBn_SNAP_SEC_LO_SEC n) = x.sec % 2 ^ 32
        ∧ d'.get (TMB_TBn_SNAP_SEC_HI_SEC n) = x.sec / 2 ^ 32 % 2 ^ (TMB_TBn_SNAP_SEC_HI_SEC n).w
        ∧ d'.get (TMB_TBn_SNAP_NS_NS n) = x.ns % 2 ^ 30 ∧ d'.get (TMB_TBn_SNAP_FRAC_FRAC n) = x.frac % 2 ^ 32))
      ∧ d' = { d with flds := d'.flds }))
  ∧ (∀ (n : Fin 4) (frac : Bool) (val : Word), Does (.tbIncrWrite n frac val) s (fun d d' =>
      if d.domOn 3 = false then d' = d
      else if d.owned n then d'.get TMB_EVT_SW_REFUSED = 1 ∧ d'.time = d.time
      else if frac then d'.get (TMB_TBn_INCR_FRAC_FRAC n) = val.toNat % 2 ^ (TMB_TBn_INCR_FRAC_FRAC n).w ∧ d.only [(TMB_TBn_INCR_FRAC_FRAC n).key] d'
      else d'.get (TMB_TBn_INCR_NS_NS n) = val.toNat % 2 ^ (TMB_TBn_INCR_NS_NS n).w ∧ d.only [(TMB_TBn_INCR_NS_NS n).key] d'))
  ∧ (∀ (n : Fin 4) (val : Word), Does (.tbPhaseSlew n val) s (fun d d' =>
      if d.domOn 3 = false then d' = d
      else if d.owned n then d'.get TMB_EVT_SW_REFUSED = 1 ∧ d'.time = d.time
      else if d.flag (TMB_TBn_STAT_PADJ_BUSY n) ∨ d.get (TMB_TBn_STEPLIM_NS n) < val.toInt.natAbs then
        d'.get TMB_EVT_JUMP_REFUSED = 1 ∧ d'.time = d.time
      else d'.time.padj.get n 0 = val.toInt * 2 ^ 32 ∧ d'.get (TMB_TBn_STAT_PADJ_BUSY n) = (if val = 0 then 0 else 1)
        ∧ d.only [(TMB_TBn_STAT_PADJ_BUSY n).key] { d' with time := d.time }))
  ∧ (∀ (n : Fin 4), Does (.padjSlewDone n) s (fun d d' =>
      if d.domOn 3 = false then d' = d
      else if 0 < d.incr n ∧ d.time.counting = true then
        d' = (let y := d.elapse (((d.time.padj.get n 0).natAbs * 10000 + d.incr n - 1) / d.incr n)
          if y.time.padj.get n 0 = 0 then y.set (TMB_TBn_STAT_PADJ_BUSY n) 0 else y)
        ∧ (d.acc.swaps = [] → d.time.sample = none → d'.time.padj.get n 0 = 0 ∧ d'.get (TMB_TBn_STAT_PADJ_BUSY n) = 0
          ∧ d'.time.cyc = d.time.cyc + ((d.time.padj.get n 0).natAbs * 10000 + d.incr n - 1) / d.incr n)
      else if d.time.padj.get n 0 = 0 then d'.get (TMB_TBn_STAT_PADJ_BUSY n) = 0 ∧ d.only [(TMB_TBn_STAT_PADJ_BUSY n).key] d' else d' = d))
  ∧ (∀ (n : Fin 4), Does (.tbLoad n) s (fun d d' =>
      if d.domOn 3 = false then d' = d
      else if d.owned n = true ∨ 1000000000 ≤ d.get TMB_LOAD_NS_NS then d'.get TMB_EVT_SW_REFUSED = 1 ∧ d'.time = d.time
      else d'.time.padj.get n 0 = 0 ∧ d'.get (TMB_TBn_STAT_PADJ_BUSY n) = 0
        ∧ d'.tb n = ⟨d.get TMB_LOAD_SEC_HI_SEC * 2 ^ 32 + d.get TMB_LOAD_SEC_LO_SEC, d.get TMB_LOAD_NS_NS, 0⟩))
  ∧ (Does (.timePllLock) s (fun d d' =>
      if d.domOn 3 = false then d' = d
      else d'.get TMB_CLK_CTL_PLL_LOCK = 1 ∧ d'.time.counting = true ∧ d.only [TMB_CLK_CTL_PLL_LOCK.key] { d' with time := d.time }))
  ∧ (Does (.timerefLost) s (fun d d' =>
      if d.domOn 3 = false then d' = d
      else if d.get TMB_CLK_CTL_REFSEL = 1 ∨ d.get TMB_CLK_CTL_REFSEL = 2 then
        d'.get TMB_CLK_CTL_PLL_LOCK = 0 ∧ d'.get TMB_EVT_TIMEREF_LOST = 1 ∧ d'.time = d.time
      else d' = d))
  ∧ (Does (.servoEnable) s (fun d d' =>
      if d.domOn 3 = false then d' = d
      else d'.get TMB_SRV_CTL_EN = 1 ∧ d'.get (TMB_TBn_STAT_OWNED 0) = 1
      ∧ (d.get TMB_SRV_STAT_STATE = 0 → d'.get TMB_SRV_STAT_STATE = 1)
      ∧ (d.get TMB_SRV_STAT_STATE ≠ 0 → d' = (d.set TMB_SRV_CTL_EN 1).set (TMB_TBn_STAT_OWNED 0) 1)))
  ∧ (Does (.servoDisable) s (fun d d' =>
      if d.domOn 3 = false then d' = d
      else d'.get TMB_SRV_CTL_EN = 0 ∧ d'.get (TMB_TBn_STAT_OWNED 0) = 0 ∧ d'.get TMB_SRV_STAT_STATE = 0
      ∧ d'.tb 0 = d.tb 0 ∧ d'.tb 1 = d.tb 1 ∧ d'.mem = d.mem))
  ∧ (Does (.servoReacq) s (fun d d' =>
      if d.domOn 3 = false then d' = d
      else if d.get TMB_SRV_STAT_STATE = 0 then d'.get TMB_SRV_CTL_REACQ = 1 ∧ d.only [TMB_SRV_CTL_REACQ.key] d'
      else d'.get TMB_SRV_STAT_STATE = 1 ∧ d'.get TMB_SRV_CTL_REACQ = 0 ∧ d'.get TMB_SRV_FREQ_F = 0 ∧ d'.time.servo.fnum = 0
        ∧ d'.get TMB_SRV_STAT_SOURCE = 0xFFF ∧ d'.tb 0 = d.tb 0 ∧ d'.time.sample = d.time.sample))
  ∧ (∀ (src : Fin 16), Does (.servoSrcWrite src) s (fun d d' =>
      if d.domOn 3 = false then d' = d
      else if d.get TMB_SRV_CTL_SRC = src.val then d' = d
      else d'.get TMB_SRV_CTL_SRC = src ∧ d'.get TMB_SRV_STAT_ACTIVE = portCode src % 2 ^ 4
        ∧ d.only [TMB_SRV_CTL_SRC.key, TMB_SRV_STAT_ACTIVE.key] d'))
  ∧ (Does (.servoSampleTimeout) s (fun d d' =>
      if d.domOn 3 = false then d' = d
      else if d.get TMB_SRV_STAT_STATE ≠ 2 ∧ d.get TMB_SRV_STAT_STATE ≠ 3 then d' = d
      else if portCode (d.get TMB_SRV_CTL_ALT) ≠ 15 ∧ portCode (d.get TMB_SRV_CTL_ALT) ≠ d.get TMB_SRV_STAT_ACTIVE
          ∧ d.time.cyc ≤ d.time.servo.lastTick.get (portCode (d.get TMB_SRV_CTL_ALT)) 0 + d.samplePeriod
          ∧ (d.time.servo.lastTick.find (portCode (d.get TMB_SRV_CTL_ALT))).isSome = true then
        d'.get TMB_SRV_STAT_ACTIVE = portCode (d.get TMB_SRV_CTL_ALT) ∧ d'.get TMB_EVT_SRC_SWITCH = 1
        ∧ d'.get TMB_SRV_STAT_STATE = d.get TMB_SRV_STAT_STATE
      else d'.get TMB_SRV_STAT_STATE = 4 ∧ d'.get TMB_EVT_HOLDOVER = 1 ∧ d'.tb 0 = d.tb 0))

/-- For every state and pin: the PPS input takes the time of the edge that is selected; the PPS output pulses while enabled; a push
is refused with ERR 3 for what its pin does not take, 1 for a full queue, 2 for an event not later than the last, else queued
or, if its time is past, treated as late; CLEAR empties a queue; pulses end at the idle level; a capture is queued or counted as
lost; POP drops the oldest; a configuration write resets the pin. (R229, R231, R232, R243, R244, R245) -/
def Obligations.PpsAndTimedPinsComplete : Prop :=
  ∀ s : State,
  (∀ (rise : Bool), Does (.ppsInEdge rise) s (fun d d' =>
      if d.reached 3 = false then d' = d
      else if d.flag TMB_PPS_CTL_IN_EDGE = rise then d' = d
      else d'.get TMB_PPS_IN_SEC_SEC = (d.tb (d.get TMB_PPS_CTL_IN_TB)).sec % 2 ^ 32 ∧ d'.get TMB_PPS_IN_NS_NS = (d.tb (d.get TMB_PPS_CTL_IN_TB)).ns % 2 ^ (TMB_PPS_IN_NS_NS).w
        ∧ d'.get TMB_EVT_PPS_IN = 1
        ∧ (if d.get TMB_SRV_STAT_ACTIVE ≠ 10 then d'.time = d.time
          else d'.time.servo.lastTick.get 10 0 = d.time.cyc ∧ (d'.time.sample).map (·.port) = some 10
            ∧ (d.time.sample = none → (d'.time.sample).map (·.e) = some ((((d.tb 0).units / 2 ^ 24 + 128000000000) / 256000000000 * 256000000000 : Nat)
                - (((d.tb 0).units / 2 ^ 24 : Nat) : Int))))))
  ∧ (Does (.ppsOutPulse) s (fun d d' =>
      if d.domOn 3 = false then d' = d
      else if d.flag TMB_PPS_CTL_OUT_EN then d'.time.ppsOut = true else d' = d))
  ∧ (Does (.ppsOutPulseEnd) s (fun d d' =>
      if d.domOn 3 = false then d' = d
      else d'.time.ppsOut = false ∧ d' = { d with time := { d.time with ppsOut := false } }))
  ∧ (∀ (k : Fin 16) (width : BitVec 24), Does (.tioPushLow k width) s (fun d d' =>
      if d.domOn 3 = false then d' = d
      else d.Pushes k 0 width.toNat d'))
  ∧ (∀ (k : Fin 16) (width : BitVec 24), Does (.tioPushHigh k width) s (fun d d' =>
      if d.domOn 3 = false then d' = d
      else d.Pushes k 1 width.toNat d'))
  ∧ (∀ (k : Fin 16) (width : BitVec 24), Does (.tioPushPulse k width) s (fun d d' =>
      if d.domOn 3 = false then d' = d
      else d.Pushes k 2 width.toNat d'))
  ∧ (∀ (k : Fin 16) (width : BitVec 24), Does (.tioPushStart k width) s (fun d d' =>
      if d.domOn 3 = false then d' = d
      else d.Pushes k 3 width.toNat d'))
  ∧ (∀ (k : Fin 16) (width : BitVec 24), Does (.tioPushStop k width) s (fun d d' =>
      if d.domOn 3 = false then d' = d
      else d.Pushes k 4 width.toNat d'))
  ∧ (∀ (k : Fin 16), Does (.tioPushClear k) s (fun d d' =>
      if d.domOn 3 = false then d' = d
      else if d.tioSuits k 5 0 = false then d' = d.set TIO_EV_RES_ERR 3 else d'.get TIO_EV_RES_ERR = 0 ∧ (d'.pin k).evq = []))
  ∧ (∀ (k : Fin 16), Does (.tioEventDue k) s (fun d d' =>
      if d.domOn 3 = false then d' = d
      else match (d.pin k).evq with
      | [] => d' = d
      | e :: rest => (let y := d.reach (d.get (TIO_CFGk_TB k)) (Ts.units ⟨(d.tb (d.get (TIO_CFGk_TB k))).sec / 2 ^ 32 * 2 ^ 32 + e.sec, e.ns, 0⟩)
          if y.passed k e.sec e.ns then (y.putPin k { y.pin k with evq := rest }).TioActs k e.act e.width d' ∧ d' = { y with flds := d'.flds, time := d'.time }
          else d' = y)))
  ∧ (∀ (k : Fin 16), Does (.tioPulseEnd k) s (fun d d' =>
      if d.domOn 3 = false then d' = d
      else if (d.pin k).pulse then d'.get (TIO_STATk_LEVEL k) = d.get (TIO_CFGk_IDLE k) ∧ (d'.pin k).pulse = false else d' = d))
  ∧ (∀ (k : Fin 16), Does (.tioTrainPeriod k) s (fun d d' =>
      if d.domOn 3 = false then d' = d
      else if d.get (TIO_CFGk_MODE k) = 5 ∧ (d.pin k).train.isSome = true then
        d'.get (TIO_STATk_LEVEL k) = 1 - d.get (TIO_CFGk_IDLE k) ∧ d'.pin k = { d.pin k with pulse := true }
        ∧ d.only [(TIO_STATk_LEVEL k).key] { d' with time := d.time } else d' = d))
  ∧ (∀ (k : Fin 16) (rise : Bool), Does (.tioCaptureEdge k rise) s (fun d d' =>
      if d.reached 3 = false then d' = d
      else d'.time.levels.get k false = rise
      ∧ ((d.get (TIO_CFGk_MODE k) = 0 ∨ d.get (TIO_CFGk_MODE k) = 1 ∨ d.get (TIO_CFGk_MODE k) = 3) → d'.get (TIO_STATk_LEVEL k) = b2n rise)
      ∧ (if d.get (TIO_CFGk_MODE k) ≠ 3 ∨ (d.get (TIO_CFGk_EDGE k)).testBit (if rise then 0 else 1) = false then
          d.only [(TIO_STATk_LEVEL k).key] { d' with time := d.time } ∧ d'.time.pins = d.time.pins
        else if (d.pin k).caps.length < 16 then (d'.pin k).caps = (d.pin k).caps
            ++ [⟨(d.tb (d.get (TIO_CFGk_TB k))).sec % 2 ^ 32, (d.tb (d.get (TIO_CFGk_TB k))).ns, rise⟩]
        else d'.get TIO_CAPLOST_COUNT = (d.get TIO_CAPLOST_COUNT + 1) % 2 ^ 32 ∧ d'.time.pins = d.time.pins)))
  ∧ (Does (.tioCapPop) s (fun d d' =>
      if d.domOn 3 = false then d' = d
      else (d'.pin (d.get TIO_CAP_SEL_PIN)).caps = (d.pin (d.get TIO_CAP_SEL_PIN)).caps.drop 1))
  ∧ (∀ (k : Fin 16) (val : Word), Does (.tioCfgWrite k val) s (fun d d' =>
      if d.domOn 3 = false then d' = d
      else d'.get (TIO_CFGk_MODE k) = val.toNat % 2 ^ (TIO_CFGk_MODE k).w ∧ d'.get (TIO_CFGk_TB k) = val.toNat / 16 % 2 ^ (TIO_CFGk_TB k).w
      ∧ d'.get (TIO_CFGk_IDLE k) = val.toNat / 1024 % 2 ∧ d'.pin k = TioPin.reset
      ∧ (∀ j : Fin 16, j ≠ k → d'.pin j = d.pin j) ∧ d'.mem = d.mem ∧ d'.syn = d.syn))

/-- For every state: the trace writer stores the oldest entry, after a GAP record for entries lost, or drops it where the ring is
full, and only while it runs; RD takes the index and clears OVERRUN; a gate cycle start acts only on a pending or running
schedule; a telemetry pass that starts too early is counted; the windows read their words and clear their counters, and a gate
entry of the running bank refuses a write with ERR 1. (R16, R237, R238, R239, R241, R257, R263, R265, R270, R271, R272, R273) -/
def Obligations.SillageAndScheduleWindowsComplete : Prop :=
  ∀ s : State,
  (Does (.sillageWrite) s (fun d d' =>
      if d.domOn 3 = false then d' = d
      else match d.sil.fifo with
      | [] => d' = sillageGap d
      | e :: rest => if d.flag SIL_CTL_EN = false then d' = d
        else d' = (let y := { sillageGap d with sil := { (sillageGap d).sil with fifo := rest } }
          if y.silFree then y.silStore e else y.silDrop) ∧ d'.sil.fifo = rest
          ∧ (d.sil.lost = 0 → if d.silFree = true then d'.get SIL_WR_IDX = (d.get SIL_WR_IDX + 1) % d.silSize % 2 ^ SIL_WR_IDX.w
                ∧ d'.get SIL_SEQ_SEQ = (d.get SIL_SEQ_SEQ + 1) % 2 ^ 32 ∧ d'.sil.lost = 0
                ∧ (d.flag SIL_CTL_MODE = true → (d.get SIL_WR_IDX + 1) % d.silSize = d.get SIL_RD_IDX % d.silSize → d'.get SIL_STAT_OVERRUN = 1)
                ∧ (d.flag SIL_CTL_MODE = false → (d.get SIL_WR_IDX + 2) % d.silSize = d.get SIL_RD_IDX % d.silSize → d'.get SIL_EVT_FULL = 1)
              else d'.get SIL_DROP_COUNT = (d.get SIL_DROP_COUNT + 1) % 2 ^ 32 ∧ d'.get SIL_EVT_DROP = 1 ∧ d'.sil.lost = 1
                ∧ d'.get SIL_WR_IDX = d.get SIL_WR_IDX)))
  ∧ (Does (.sillageGap) s (fun d d' =>
      if d.domOn 3 = false then d' = d
      else if d.flag SIL_CTL_EN = true ∧ d.silFree = true ∧ 0 < d.sil.lost then d'.sil.lost = 0 ∧ d'.sil.fifo = d.sil.fifo
        ∧ d'.get SIL_WR_IDX = (d.get SIL_WR_IDX + 1) % d.silSize % 2 ^ SIL_WR_IDX.w ∧ d'.get SIL_SEQ_SEQ = (d.get SIL_SEQ_SEQ + 1) % 2 ^ 32
        ∧ d' = (({ d with sil := { d.sil with lost := 0 } }).silStore ⟨d.now % 2 ^ 64, 0x00, 0x0001, d.sil.lost % 2 ^ 32⟩)
      else d' = d))
  ∧ (∀ (val : Word), Does (.silRdWrite val) s (fun d d' =>
      if d.domOn 3 = false then d' = d
      else d'.get SIL_RD_IDX = val.toNat % 2 ^ SIL_RD_IDX.w ∧ d'.get SIL_STAT_OVERRUN = 0 ∧ d.only [SIL_RD_IDX.key, SIL_STAT_OVERRUN.key] d'))
  ∧ (∀ (p : Fin 2), Does (.gateCycleStart p) s (fun d d' =>
      if d.domOn 3 = false then d' = d
      else if d.flag (SCH_GATEp_CTL_PENDING p) = false
        ∧ (d.sch.gateOn.get p false && d.bankValid p (d.get (SCH_GATEp_CTL_ACTIVE p))) = false then d' = d
      else d'.get (SCH_GATEp_CTL_PENDING p) = 0))
  ∧ (∀ (p : Fin 2), Does (.gateEntryBoundary p) s (fun d d' =>
      if d.domOn 3 = false then d' = d
      else match d.gateState p with
      | none => d' = d
      | some (l, ph) => match cycleFrom l ph with
        | some (x, _) => d' = d.elapse (d.cyclesFor 0 (((x.stop * 2 ^ 32 - ph : Nat)) : Int))
          ∧ (d.acc.swaps = [] → d.time.sample = none → d.time.counting = true → d.flag TMB_SRV_CTL_EN = false → d.time.padj.get 0 0 = 0 → 0 < d.incr 0 →
            d'.time.cyc = d.time.cyc + (x.stop * 2 ^ 32 - ph + d.incr 0 - 1) / d.incr 0
            ∧ (d'.tb 0).units = ((d.tb 0).units + d.incr 0 * ((x.stop * 2 ^ 32 - ph + d.incr 0 - 1) / d.incr 0)) % (2 ^ 80 * 1000000000))
        | none => d' = d))
  ∧ (Does (.telPassStart) s (fun d d' =>
      if d.domOn 3 = false then d' = d
      else if d.flag SCH_TEL_CTL_EN = false ∨ d.get SCH_TEL_CTL_PERIOD = 0 then d' = d
      else if d.reachPass.passRuns then
        d'.get SCH_TEL_OVERRUN_COUNT = (d.reachPass.get SCH_TEL_OVERRUN_COUNT + 1) % 2 ^ 32 ∧ d'.get SCH_EVT_TEL_OVERRUN = 1
        ∧ d'.sch.visits = d.reachPass.sch.visits
      else d' = (let qs := (List.range 1216).filter (fun q => d.reachPass.flag (QCFG_W0_TEL q))
        ((d.reachPass.modSch (fun s => { s with visits := qs, visitAt := d.reachPass.coreCycles })).setB SCH_STAT_TEL_BUSY (qs != [])).passOn)
        ∧ (let qs := (List.range 1216).filter (fun q => d.reachPass.flag (QCFG_W0_TEL q))
          d'.sch.visits = qs.tail ∧ d'.get SCH_STAT_TEL_BUSY = b2n (qs != [])
          ∧ d'.get SCH_TEL_OVERRUN_COUNT = d.reachPass.get SCH_TEL_OVERRUN_COUNT)))
  ∧ (Does (.gwRead) s (fun d d' =>
      if d.domOn 3 = false then d' = d
      else d.Windowed SCH_GW_RES_DONE (d'.get SCH_GW_DATA0_WORD = (d.get (GENT_W0_DUR d.gwEntry.1 d.gwEntry.2) + d.get (GENT_W0_HT_OPEN d.gwEntry.1 d.gwEntry.2) * 2 ^ 31) % 2 ^ 32
      ∧ d'.get SCH_GW_DATA1_WORD = d.get (GENT_W1_BASE_OPEN d.gwEntry.1 d.gwEntry.2) % 2 ^ 32 ∧ d'.get SCH_GW_RES_ERR = 0
      ∧ d.only [SCH_GW_DATA0_WORD.key, SCH_GW_DATA1_WORD.key, SCH_GW_RES_DONE.key, SCH_GW_RES_ERR.key] d') d'))
  ∧ (Does (.gwWrite) s (fun d d' =>
      if d.domOn 3 = false then d' = d
      else d.Windowed SCH_GW_RES_DONE
      (if d.flag (SCH_GATEp_CTL_EN (d.get SCH_GW_IDX_PORT)) = true ∧ d.get (SCH_GATEp_CTL_ACTIVE (d.get SCH_GW_IDX_PORT)) = d.get SCH_GW_IDX_BANK then
        d'.get SCH_GW_RES_ERR = 1 ∧ d.only [SCH_GW_RES_DONE.key, SCH_GW_RES_ERR.key] d'
      else d'.get SCH_GW_RES_ERR = 0 ∧ d'.get (GENT_W0_DUR d.gwEntry.1 d.gwEntry.2) = d.get SCH_GW_DATA0_WORD % 2 ^ (GENT_W0_DUR d.gwEntry.1 d.gwEntry.2).w
        ∧ d'.get (GENT_W0_HT_OPEN d.gwEntry.1 d.gwEntry.2) = d.get SCH_GW_DATA0_WORD / 2 ^ 31
        ∧ d'.get (GENT_W1_BASE_OPEN d.gwEntry.1 d.gwEntry.2) = d.get SCH_GW_DATA1_WORD % 2 ^ (GENT_W1_BASE_OPEN d.gwEntry.1 d.gwEntry.2).w
        ∧ d' = { d with flds := d'.flds, cycle := d'.cycle }) d'))
  ∧ (Does (.qsRead) s (fun d d' =>
      if d.domOn 3 = false then d' = d
      else d.Windowed SCH_QS_RES_DONE (∀ k, k < 16 → d'.get (SCH_QS_DATAk_WORD k)
      = (d.retag (queueEgress (d.get SCH_QS_IDX_Q)) (d.get SCH_QS_IDX_Q)).qsWord (d.get SCH_QS_IDX_Q) k % 2 ^ 32) d'))
  ∧ (Does (.qsClrcnt) s (fun d d' =>
      if d.domOn 3 = false then d' = d
      else d.Windowed SCH_QS_RES_DONE (d'.get (QS_W4_TX_PKTS (d.get SCH_QS_IDX_Q)) = 0 ∧ d'.get (QS_W5_TX_BYTES_LO (d.get SCH_QS_IDX_Q)) = 0
      ∧ d'.get (QS_W6_TX_BYTES_HI (d.get SCH_QS_IDX_Q)) = 0 ∧ d'.get (QS_W7_YELLOW (d.get SCH_QS_IDX_Q)) = 0
      ∧ d'.get (QS_W8_OVERSIZE (d.get SCH_QS_IDX_Q)) = 0 ∧ d'.get (QS_W11_MAX_DEPTH (d.get SCH_QS_IDX_Q)) = 0
      ∧ d'.get (QS_W12_MAX_SOJ (d.get SCH_QS_IDX_Q)) = 0 ∧ d'.get (QS_W13_SAMPLES (d.get SCH_QS_IDX_Q)) = 0
      ∧ d'.get (QS_W14_OVERRUN (d.get SCH_QS_IDX_Q)) = 0 ∧ d' = { d with flds := d'.flds, cycle := d'.cycle }) d'))
  ∧ (Does (.psRead) s (fun d d' =>
      if d.domOn 3 = false then d' = d
      else d.Windowed SCH_PS_RES_DONE (d'.get (SCH_PS_DATAk_WORD 0) = (d.buckets (d.get SCH_PS_IDX_C)).tc / 2 ^ 24 % 2 ^ 32
      ∧ d'.get (SCH_PS_DATAk_WORD 1) = (d.buckets (d.get SCH_PS_IDX_C)).tx / 2 ^ 24 % 2 ^ 32
      ∧ d'.get (SCH_PS_DATAk_WORD 2) = d.get (PS_W2_GREEN (d.get SCH_PS_IDX_C)) ∧ d'.get (SCH_PS_DATAk_WORD 3) = d.get (PS_W3_YELLOW (d.get SCH_PS_IDX_C))
      ∧ d'.get (SCH_PS_DATAk_WORD 4) = d.get (PS_W4_RED (d.get SCH_PS_IDX_C)) ∧ d'.get (SCH_PS_DATAk_WORD 5) = d.get (PS_W5_HELD (d.get SCH_PS_IDX_C))
      ∧ d' = { d with flds := d'.flds, cycle := d'.cycle }) d'))
  ∧ (Does (.psClrcnt) s (fun d d' =>
      if d.domOn 3 = false then d' = d
      else d.Windowed SCH_PS_RES_DONE (d'.get (PS_W2_GREEN (d.get SCH_PS_IDX_C)) = 0 ∧ d'.get (PS_W3_YELLOW (d.get SCH_PS_IDX_C)) = 0
      ∧ d'.get (PS_W4_RED (d.get SCH_PS_IDX_C)) = 0 ∧ d'.get (PS_W5_HELD (d.get SCH_PS_IDX_C)) = 0
      ∧ d.only [SCH_PS_RES_DONE.key, (PS_W2_GREEN (d.get SCH_PS_IDX_C)).key, (PS_W3_YELLOW (d.get SCH_PS_IDX_C)).key,
        (PS_W4_RED (d.get SCH_PS_IDX_C)).key, (PS_W5_HELD (d.get SCH_PS_IDX_C)).key] d') d'))

/-- For every state: a CLOSED AT accord commits when its time base reaches its instant, any other slot is left alone; an ACCORD
block acts only when accepted on a port in ADMIT or RUN; T and the vote deadline act only on LINE accords the hub holds; a HELD
accord that times out aborts with LATE; a plain store to ACD_EPOCH is refused and raised. (R100, R293, R294, R297, R298, R299,
R301, R302, R303, R308) -/
def Obligations.AccordEngineComplete : Prop :=
  ∀ s : State,
  (∀ (n : Fin 16), Does (.atCommitPoint n) s (fun d d' =>
      if d.domOn 3 = false then d' = d
      else if d.get (ACD_SLOTn_STAT_STATE n) = 2 ∧ d.get (ACD_SLOTn_STAT_KIND n) = 1 then
        d' = (let y := d.reach (d.get (ACD_SLOTn_STAT_TB n)) (d.accSlot n).t.units
          if (y.accSlot n).t.units ≤ (y.tb (d.get (ACD_SLOTn_STAT_TB n))).units then y.commitSlot n else y)
        ∧ ((d.accSlot n).t.units ≤ (d.tb (d.get (ACD_SLOTn_STAT_TB n))).units → (d.accSlot n).regs = [] →
          d'.get (ACD_SLOTn_STAT_STATE n) = 4 ∧ d'.get (ACD_SLOTn_STAT_CODE n) = 0 ∧ d'.accSlot n = AccSlot.reset
          ∧ d'.get ACD_COMMITS_COUNT = (d.get ACD_COMMITS_COUNT + 1) % 2 ^ 32
          ∧ (d.pendingSlots = [n.val] → d.evqOn (d.get ACD_CTL_EVQ) = false →
              match (d.accSlot n).mems with
              | [x] => d'.load (8 * x.1) 8 = mergeWord (d.load (8 * x.1) 8) x.2.1 x.2.2
              | _ => True))
      else d' = d))
  ∧ (∀ (p : Fin 10) (b : RxBlk), Does (.accordPrepareRx p b) s (fun d d' =>
      if d.reached (portDomain p) = false then d' = d
      else d.ReceivesCtl p b 13 0 (fun l z e =>
          (z.inHistory (acOf l).id = true → e.get ACD_DUPMSG_COUNT = (z.get ACD_DUPMSG_COUNT + 1) % 2 ^ 32)
          ∧ (z.inHistory (acOf l).id = false → z.line (acOf l).id = none →
            e = (z.lineStart (acOf l).id (acOf l).epoch (acOf l).commit (acOf l).coord (some p) false ((acOf l).hops + 1) (acOf l).raw).epochFence (acOf l)
            ∧ (((acOf l).epoch + 2 ^ 32 - z.get ACD_EPOCH_EPOCH) % 2 ^ 32 < 2 →
              (e.line (acOf l).id).map (fun r => (r.epoch, r.t, r.coord, r.up, r.role, r.down, r.phase))
                = some ((acOf l).epoch, (acOf l).commit, (acOf l).coord, some p.val, false, z.accPorts (some p), if z.accPorts (some p) = [] then 2 else 1)
              ∧ (z.passive = true → (e.line (acOf l).id).map (·.own) = some none)
              ∧ (z.passive = false → ((acOf l).epoch = z.get ACD_EPOCH_EPOCH ∨ (acOf l).commit.units ≤ (z.tb 0).units) →
                  (e.line (acOf l).id).map (fun r => (r.own, r.code)) = some (some false, 6) ∧ e.get ACD_EVT_VOTE_NO = 1)))
          ∧ (2 ≤ ((acOf l).epoch + 2 ^ 32 - z.get ACD_EPOCH_EPOCH) % 2 ^ 32 → ((acOf l).epoch + 2 ^ 32 - z.get ACD_EPOCH_EPOCH) % 2 ^ 32 < 2 ^ 31 →
            e.get STN_STAT_FENCED = 1)) d'))
  ∧ (∀ (p : Fin 10) (b : RxBlk), Does (.accordVoteRx p b) s (fun d d' =>
      if d.reached (portDomain p) = false then d' = d
      else d.ReceivesCtl p b 13 1 (fun l z e =>
          ((z.line (acOf l).id = none ∨ z.get ACD_EPOCH_EPOCH = (acOf l).epoch) → e = match z.line (acOf l).id with
            | some r => if r.phase = 1 ∧ r.down.contains p = true ∧ r.answers.find p = none then
                (z.putLine (acOf l).id { r with answers := Tab.insert p (some (acOf l)) r.answers }).lineStep (acOf l).id else z
            | none => z.epochFence (acOf l))
          ∧ (z.get ACD_EPOCH_EPOCH = (acOf l).epoch → match z.line (acOf l).id with
            | some r => (if r.phase = 1 ∧ r.down.contains p = true ∧ r.answers.find p = none then
                  (let all := r.down.all (fun q => q == p.val || (r.answers.find q).isSome);
                    (r.role = false → (e.line (acOf l).id).map (fun x => (x.answers, x.phase))
                      = some (Tab.insert p (some (acOf l)) r.answers, if all then 2 else 1))
                    ∧ (r.role = true → r.own = some false → e.line (acOf l).id = none ∧ e.inHistory (acOf l).id = true ∧ e.get ACD_LINE_STAT_PHASE = 5))
                else True)
            | none => True)
          ∧ (2 ≤ ((acOf l).epoch + 2 ^ 32 - z.get ACD_EPOCH_EPOCH) % 2 ^ 32 → ((acOf l).epoch + 2 ^ 32 - z.get ACD_EPOCH_EPOCH) % 2 ^ 32 < 2 ^ 31 →
            e.get STN_STAT_FENCED = 1)) d'))
  ∧ (∀ (p : Fin 10) (b : RxBlk), Does (.accordGoRx p b) s (fun d d' =>
      if d.reached (portDomain p) = false then d' = d
      else d.ReceivesCtl p b 13 2 (fun l z e =>
          e = z.decisionRx p (acOf l) true ∧ (z.get ACD_EPOCH_EPOCH = (acOf l).epoch → z.inHistory (acOf l).id = true →
            e = z.inc ACD_DUPMSG_COUNT)
          ∧ (z.get ACD_EPOCH_EPOCH = (acOf l).epoch → z.inHistory (acOf l).id = false → e.inHistory (acOf l).id = true ∧ match z.line (acOf l).id with
            | some r => (if r.own = none then e.line (acOf l).id = none ∧ e.get ACD_LINE_STAT_PHASE = 5
                else if r.code = 0 then e.line (acOf l).id = some { r with phase := 3 } ∧ e.get ACD_LINE_STAT_PHASE = 3
                else e.line (acOf l).id = none ∧ e.get ACD_LINE_STAT_PHASE = 5 ∧ e.get ACD_LINE_STAT_CODE = r.code % 16)
            | none => e.line (acOf l).id = none ∧ (z.passive = false → e.get STN_STAT_FENCED = 1))) d'))
  ∧ (∀ (p : Fin 10) (b : RxBlk), Does (.accordAbandonRx p b) s (fun d d' =>
      if d.reached (portDomain p) = false then d' = d
      else d.ReceivesCtl p b 13 3 (fun l z e =>
          e = z.decisionRx p (acOf l) false ∧ (z.get ACD_EPOCH_EPOCH = (acOf l).epoch → z.inHistory (acOf l).id = true →
            e = z.inc ACD_DUPMSG_COUNT)
          ∧ (z.get ACD_EPOCH_EPOCH = (acOf l).epoch → z.inHistory (acOf l).id = false → e.inHistory (acOf l).id = true
            ∧ e.line (acOf l).id = none ∧ e.lineSlots (acOf l).id = [] ∧ e.get ACD_LINE_STAT_PHASE = 5
            ∧ e.get ACD_LINE_INFO_NO_STN = (acOf l).noStn % 2 ^ 12)) d'))
  ∧ (∀ (id : Word), Does (.lineCommitT id) s (fun d d' =>
      if d.domOn 3 = false then d' = d
      else match d.line id.toNat with
      | none => d' = d
      | some r => (let y := d.reach 0 r.t.units
          if (y.tb 0).units < r.t.units then d' = y
          else if r.phase = 3 then
            (if r.own = some true ∧ (∃ n, n ∈ y.lineSlots id.toNat ∧ y.get (ACD_SLOTn_STAT_STATE n) = 2) then
              d' = (forAll ((y.lineSlots id.toNat).filter (fun n => y.get (ACD_SLOTn_STAT_STATE n) == 2))
                (fun n x => (x.setAccSlot n { x.accSlot n with epoch := some r.epoch }).commitSlot n) y).dropLine id.toNat { r with phase := 4, code := 0 }
              ∧ d'.line id.toNat = none ∧ d'.get ACD_LINE_STAT_PHASE = 4 ∧ d'.get ACD_LINE_STAT_CODE = 0 ∧ d'.get ACD_LINE_ID_ID = id.toNat
            else d' = y.dropLine id.toNat { r with phase := 5, code := if r.code = 0 then 9 else r.code } ∧ d'.line id.toNat = none
              ∧ d'.get ACD_LINE_STAT_PHASE = 5 ∧ d'.acc = { y.acc with lines := Tab.erase id.toNat y.acc.lines })
          else if r.phase ≤ 2 ∧ r.own = some true then
            d' = (((y.remember id.toNat 4).abortLine id.toNat 4).dropLine id.toNat { r with phase := 5, code := 4 }).fence 1 ∧ d'.get STN_STAT_FENCED = 1
            ∧ d'.line id.toNat = none ∧ d'.inHistory id.toNat = true ∧ d'.lineSlots id.toNat = []
          else if r.phase = 5 then d' = y.dropLine id.toNat r ∧ d'.line id.toNat = none ∧ d'.get ACD_LINE_STAT_PHASE = 5
          else d' = y)))
  ∧ (∀ (id : Word), Does (.lineVoteDeadline id) s (fun d d' =>
      if d.domOn 3 = false then d' = d
      else match d.line id.toNat with
      | none => d' = d
      | some r => if r.role = false ∨ r.phase ≠ 1 then d' = d
        else (let y := d.reach 0 (r.t.units - d.get ACD_GO_LEAD_US * 1000 * 2 ^ 32)
          if (y.tb 0).units < r.t.units - d.get ACD_GO_LEAD_US * 1000 * 2 ^ 32 then d' = y
          else d' = y.decideLine id.toNat r false { r.combined y id.toNat with noStn := 0xFFF } ∧ d'.line id.toNat = none
            ∧ d'.inHistory id.toNat = true ∧ d'.get ACD_LINE_INFO_NO_STN = 0xFFF ∧ d'.get ACD_LINE_STAT_PHASE = 5 ∧ d'.lineSlots id.toNat = [])))
  ∧ (∀ (n : Fin 16), Does (.heldAccordTimeout n) s (fun d d' =>
      if d.domOn 3 = false then d' = d
      else if d.get (ACD_SLOTn_STAT_STATE n) = 3 then d' = d.abortSlot n 4 ∧ d'.get (ACD_SLOTn_STAT_STATE n) = 5
        ∧ d'.get (ACD_SLOTn_STAT_CODE n) = 4 ∧ d'.accSlot n = AccSlot.reset ∧ d'.get (ACD_ABORTc_COUNT 3) = (d.get (ACD_ABORTc_COUNT 3) + 1) % 2 ^ 32
        ∧ d'.posted = d.posted
      else d' = d))
  ∧ (Does (.epochStore) s (fun d d' =>
      if d.domOn 3 = false then d' = d
      else d'.get ACD_EVT_EPOCH_REFUSED = 1 ∧ d'.get ACD_EPOCH_EPOCH = d.get ACD_EPOCH_EPOCH ∧ d'.acc = d.acc))

/-- For every state: START runs an OFF thread of a good core at its start pc; STOP takes an idle or event-waiting thread OFF at
once, any other after what it issued; RESET returns the thread's registers and counters to reset; a miss that returns ends the
run-ahead; the configuration of an enabled queue does not change while it is enabled, and enabling clears both indexes; reading
a counter of performance shows its value. (R318, R319, R324, R333, R336, R341, R343, R348, R350, R351) -/
def Obligations.ThreadsAndQueuesComplete : Prop :=
  ∀ s : State,
  (∀ (t : Fin 32), Does (.threadStart t) s (fun d d' =>
      d'.get (SYN_THn_CTL_START t) = 0
      ∧ (if d.tstate t = 0 ∧ (d.get SYN_STAT_CORE_OK).testBit (t.val / 4) = true then d'.tstate t = 1
          ∧ d'.thr t = { d.thr t with pc := (d.get (SYN_THn_PC_HI_PC t) * 2 ^ 32 + d.get (SYN_THn_PC_LO_PC t)) / 4 * 4 }
        else d' = d.set (SYN_THn_CTL_START t) 0)))
  ∧ (∀ (t : Fin 32), Does (.threadStop t) s (fun d d' =>
      d'.get (SYN_THn_CTL_STOP t) = 0
      ∧ (if d.tstate t = 0 then d' = d.set (SYN_THn_CTL_STOP t) 0
        else match (d.thr t).wait with
        | .none => d'.tstate t = 0 ∧ (d'.thr t).pc = (d.thr t).pc
        | .event _ _ _ => d'.tstate t = 0 ∧ (d'.thr t).wait = .none ∧ (d'.thr t).pc = (d.thr t).pc
        | _ => if d.tstate t = 3 then d'.tstate t = 0 else (d'.thr t).stop = true ∧ d'.tstate t = d.tstate t)))
  ∧ (∀ (t : Fin 32), Does (.threadReset t) s (fun d d' =>
      d'.thr t = Thr.reset ∧ d'.tstate t = 0 ∧ d'.get (SYN_THn_STAT_CODE t) = 0 ∧ d'.get (SYN_THn_STAT_RUNAHEAD t) = 0
      ∧ d'.get (SYN_THn_CTL_RESET t) = 0 ∧ d'.acst t = Acst.reset
      ∧ (∀ u : Fin 32, u ≠ t → (d.thr u).wait ≠ .accords → d'.thr u = d.thr u)))
  ∧ (∀ (t : Fin 32) (ecc : Ecc), Does (.dcacheMissReturn t ecc) s (fun d d' =>
      match (d.thr t).wait with
      | .load rd a n signed len => (let y := ((d.modThr t (fun x => { x with wait := .none, shadow := Ahead.reset })).set (SYN_THn_STAT_RUNAHEAD t) 0)
          if d.region a = .hole then d' = y.exc t 5 (some a) ∧ y.Excepts t 5 (some a) d'
          else (let z := (y.dataEcc a (y.found a ecc)).flashEnd t a n
            if y.found a ecc = .ue ∧ (d.region a).checked = true then d' = (z.modThr t (fun x => { x with wait := .none })).exc t 4 (some a)
              ∧ (z.modThr t (fun x => { x with wait := .none })).Excepts t 4 (some a) d'
            else z.WritesReg t rd (extend n (leNat (z.seenBytes t a n)) signed) d' ∧ (d'.thr t).pc = ((d.thr t).pc + len) % 2 ^ 40
              ∧ (d'.thr t).wait = .none ∧ d'.tstate t = (if (d.thr t).stop then 0 else 1) ∧ d'.get (SYN_THn_STAT_RUNAHEAD t) = 0))
      | _ => d' = d))
  ∧ (∀ (q : Fin 32) (v : BitVec 12), Does (.evqRdWrite q v) s (fun d d' =>
      d'.get (SYN_EVQq_RD_IDX q) = v.toNat
      ∧ (if 0 < d.evqLost.get q 0 ∧ d.evqOn q = true ∧ (d.set (SYN_EVQq_RD_IDX q) v.toNat).evqFull q = false then
          d'.evqLost.get q 0 = 0 ∧ d'.get (SYN_EVQq_WR_IDX q) = (d.get (SYN_EVQq_WR_IDX q) + 1) % d.evqSize q
        else d' = d.set (SYN_EVQq_RD_IDX q) v.toNat)))
  ∧ (∀ (q : Fin 32) (v : Word), Does (.evqCfgWrite q v) s (fun d d' =>
      if d.flag (SYN_EVQq_CFG_EN q) = true ∧ v.getLsbD 31 = true then d' = d
      else d'.get (SYN_EVQq_CFG_BASE q) = v.toNat % 2 ^ (SYN_EVQq_CFG_BASE q).w ∧ d'.get (SYN_EVQq_CFG_LOG2 q) = v.toNat / 2 ^ 20 % 2 ^ (SYN_EVQq_CFG_LOG2 q).w
        ∧ d'.get (SYN_EVQq_CFG_EN q) = b2n (v.getLsbD 31)
        ∧ (v.getLsbD 31 = true → d'.get (SYN_EVQq_WR_IDX q) = 0 ∧ d'.get (SYN_EVQq_RD_IDX q) = 0) ∧ d' = { d with flds := d'.flds }))
  ∧ (∀ (q : Fin 32) (v : Word), Does (.pqCfgWrite q v) s (fun d d' =>
      if d.flag (SYN_PQq_CFG_EN q) = true ∧ v.getLsbD 16 = true then d' = d
      else d'.get (SYN_PQq_CFG_LOG2 q) = v.toNat % 2 ^ (SYN_PQq_CFG_LOG2 q).w ∧ d'.get (SYN_PQq_CFG_EVQ q) = v.toNat / 2 ^ 8 % 2 ^ (SYN_PQq_CFG_EVQ q).w
        ∧ d'.get (SYN_PQq_CFG_EN q) = b2n (v.getLsbD 16)
        ∧ (v.getLsbD 16 = true → d'.get (SYN_PQq_WR_IDX q) = 0 ∧ d'.get (SYN_PQq_RD_IDX q) = 0) ∧ d' = { d with flds := d'.flds }))
  ∧ (∀ (v : Word), Does (.perfSnapshot v) s (fun d d' =>
      d'.get SYN_PERF_IDX_THREAD = v.toNat % 32 ∧ d'.get SYN_PERF_IDX_EVENT = v.toNat / 256 % 16
      ∧ (11 ≤ v.toNat / 256 % 16 → d'.get SYN_PERF_LO_COUNT = 0 ∧ d'.get SYN_PERF_HI_COUNT = 0)
      ∧ ([1, 2, 5, 6, 7].contains (v.toNat / 256 % 16) →
          d'.get SYN_PERF_LO_COUNT = d.syn.perf.get (16 * (v.toNat % 32) + v.toNat / 256 % 16) 0 % 2 ^ 32
          ∧ d'.get SYN_PERF_HI_COUNT = d.syn.perf.get (16 * (v.toNat % 32) + v.toNat / 256 % 16) 0 / 2 ^ 32 % 2 ^ 32)
      ∧ d' = { d with flds := d'.flds, freeCtr := d'.freeCtr, syn := { d.syn with perf := d'.syn.perf, seen := d'.syn.seen } }))
  ∧ (Does (.pktTxDone) s (fun d d' =>
      match d.syn.sent with
      | [] => d' = d
      | (t, g, refused) :: l => d'.syn.sent = l ∧ d.Routed ⟨0x0002, 0x0E, d.stamp, t % 32 + g % 32 * 32 + b2n refused * 2 ^ 16⟩ d'
        ∧ d' = { d with flds := d'.flds, mem := d'.mem, evqLost := d'.evqLost, syn := { d.syn with sent := l } }))

/-- For every state, thread, predicate and registers: ADD, SUB, AND, OR, XOR, ANDN, SHL, SHR, SAR, MUL, MULHU, MULHS, DIVU, DIV,
REMU and REM complete; issued under a true predicate each writes its result to RD alone (w0 discards it) and retires; under a
false one, in run-ahead, at a faulting pc or in a thread that does not run they have the effect R319 to R326 give. (R318, R320,
R355, R356, R357) -/
def Obligations.SynoshArithmeticComplete : Prop :=
  ∀ s : State,
  (∀ (t : Fin 32) (p : Fin 8) (rd rs1 rs2 : Fin 32), Does (.add t p rd rs1 rs2) s (fun d d' =>
      d.Issued t (.add t p rd rs1 rs2) p 4 (d.Result t rd (d.rg t rs1 + d.rg t rs2) 4 d') d'))
  ∧ (∀ (t : Fin 32) (p : Fin 8) (rd rs1 rs2 : Fin 32), Does (.sub t p rd rs1 rs2) s (fun d d' =>
      d.Issued t (.sub t p rd rs1 rs2) p 4 (d.Result t rd (d.rg t rs1 - d.rg t rs2) 4 d') d'))
  ∧ (∀ (t : Fin 32) (p : Fin 8) (rd rs1 rs2 : Fin 32), Does (.and t p rd rs1 rs2) s (fun d d' =>
      d.Issued t (.and t p rd rs1 rs2) p 4 (d.Result t rd (d.rg t rs1 &&& d.rg t rs2) 4 d') d'))
  ∧ (∀ (t : Fin 32) (p : Fin 8) (rd rs1 rs2 : Fin 32), Does (.or t p rd rs1 rs2) s (fun d d' =>
      d.Issued t (.or t p rd rs1 rs2) p 4 (d.Result t rd (d.rg t rs1 ||| d.rg t rs2) 4 d') d'))
  ∧ (∀ (t : Fin 32) (p : Fin 8) (rd rs1 rs2 : Fin 32), Does (.xor t p rd rs1 rs2) s (fun d d' =>
      d.Issued t (.xor t p rd rs1 rs2) p 4 (d.Result t rd (d.rg t rs1 ^^^ d.rg t rs2) 4 d') d'))
  ∧ (∀ (t : Fin 32) (p : Fin 8) (rd rs1 rs2 : Fin 32), Does (.andn t p rd rs1 rs2) s (fun d d' =>
      d.Issued t (.andn t p rd rs1 rs2) p 4 (d.Result t rd (d.rg t rs1 &&& ~~~d.rg t rs2) 4 d') d'))
  ∧ (∀ (t : Fin 32) (p : Fin 8) (rd rs1 rs2 : Fin 32), Does (.shl t p rd rs1 rs2) s (fun d d' =>
      d.Issued t (.shl t p rd rs1 rs2) p 4 (d.Result t rd (d.rg t rs1 <<< ((d.rg t rs2).toNat % 64)) 4 d') d'))
  ∧ (∀ (t : Fin 32) (p : Fin 8) (rd rs1 rs2 : Fin 32), Does (.shr t p rd rs1 rs2) s (fun d d' =>
      d.Issued t (.shr t p rd rs1 rs2) p 4 (d.Result t rd (d.rg t rs1 >>> ((d.rg t rs2).toNat % 64)) 4 d') d'))
  ∧ (∀ (t : Fin 32) (p : Fin 8) (rd rs1 rs2 : Fin 32), Does (.sar t p rd rs1 rs2) s (fun d d' =>
      d.Issued t (.sar t p rd rs1 rs2) p 4 (d.Result t rd ((d.rg t rs1).sshiftRight ((d.rg t rs2).toNat % 64)) 4 d') d'))
  ∧ (∀ (t : Fin 32) (p : Fin 8) (rd rs1 rs2 : Fin 32), Does (.mul t p rd rs1 rs2) s (fun d d' =>
      d.Issued t (.mul t p rd rs1 rs2) p 4 (d.Result t rd (d.rg t rs1 * d.rg t rs2) 4 d') d'))
  ∧ (∀ (t : Fin 32) (p : Fin 8) (rd rs1 rs2 : Fin 32), Does (.mulhu t p rd rs1 rs2) s (fun d d' =>
      d.Issued t (.mulhu t p rd rs1 rs2) p 4 (d.Result t rd (BitVec.ofNat 64 ((d.rg t rs1).toNat * (d.rg t rs2).toNat / 2 ^ 64)) 4 d') d'))
  ∧ (∀ (t : Fin 32) (p : Fin 8) (rd rs1 rs2 : Fin 32), Does (.mulhs t p rd rs1 rs2) s (fun d d' =>
      d.Issued t (.mulhs t p rd rs1 rs2) p 4 (d.Result t rd (BitVec.ofInt 64 ((d.rg t rs1).toInt * (d.rg t rs2).toInt / ((2 ^ 64 : Nat) : Int))) 4 d') d'))
  ∧ (∀ (t : Fin 32) (p : Fin 8) (rd rs1 rs2 : Fin 32), Does (.divu t p rd rs1 rs2) s (fun d d' =>
      d.Issued t (.divu t p rd rs1 rs2) p 4 (d.Result t rd (if d.rg t rs2 = 0 then BitVec.allOnes 64 else d.rg t rs1 / d.rg t rs2) 4 d') d'))
  ∧ (∀ (t : Fin 32) (p : Fin 8) (rd rs1 rs2 : Fin 32), Does (.div t p rd rs1 rs2) s (fun d d' =>
      d.Issued t (.div t p rd rs1 rs2) p 4 (d.Result t rd (if d.rg t rs2 = 0 then BitVec.allOnes 64 else (d.rg t rs1).sdiv (d.rg t rs2)) 4 d') d'))
  ∧ (∀ (t : Fin 32) (p : Fin 8) (rd rs1 rs2 : Fin 32), Does (.remu t p rd rs1 rs2) s (fun d d' =>
      d.Issued t (.remu t p rd rs1 rs2) p 4 (d.Result t rd (if d.rg t rs2 = 0 then d.rg t rs1 else d.rg t rs1 % d.rg t rs2) 4 d') d'))
  ∧ (∀ (t : Fin 32) (p : Fin 8) (rd rs1 rs2 : Fin 32), Does (.rem t p rd rs1 rs2) s (fun d d' =>
      d.Issued t (.rem t p rd rs1 rs2) p 4 (d.Result t rd (if d.rg t rs2 = 0 then d.rg t rs1 else (d.rg t rs1).srem (d.rg t rs2)) 4 d') d'))

/-- For every state, thread, predicate, registers and immediates: MINU, MAXU, MIN, MAX, CLZ, POPC, BSWAP16, BSWAP32, BSWAP64, ADDI,
ANDI, ORI, XORI, MULI, SHLI, SHRI, SARI, EXTU, EXTS and INS complete; issued under a true predicate each writes its result to RD
alone and retires 4 or, with a LIMM pair, 8 bytes on. (R320, R354, R355, R357, R358) -/
def Obligations.SynoshImmediatesAndFieldsComplete : Prop :=
  ∀ s : State,
  (∀ (t : Fin 32) (p : Fin 8) (rd rs1 rs2 : Fin 32), Does (.minu t p rd rs1 rs2) s (fun d d' =>
      d.Issued t (.minu t p rd rs1 rs2) p 4 (d.Result t rd (if (d.rg t rs1).toNat < (d.rg t rs2).toNat then d.rg t rs1 else d.rg t rs2) 4 d') d'))
  ∧ (∀ (t : Fin 32) (p : Fin 8) (rd rs1 rs2 : Fin 32), Does (.maxu t p rd rs1 rs2) s (fun d d' =>
      d.Issued t (.maxu t p rd rs1 rs2) p 4 (d.Result t rd (if (d.rg t rs1).toNat < (d.rg t rs2).toNat then d.rg t rs2 else d.rg t rs1) 4 d') d'))
  ∧ (∀ (t : Fin 32) (p : Fin 8) (rd rs1 rs2 : Fin 32), Does (.min t p rd rs1 rs2) s (fun d d' =>
      d.Issued t (.min t p rd rs1 rs2) p 4 (d.Result t rd (if (d.rg t rs1).toInt < (d.rg t rs2).toInt then d.rg t rs1 else d.rg t rs2) 4 d') d'))
  ∧ (∀ (t : Fin 32) (p : Fin 8) (rd rs1 rs2 : Fin 32), Does (.max t p rd rs1 rs2) s (fun d d' =>
      d.Issued t (.max t p rd rs1 rs2) p 4 (d.Result t rd (if (d.rg t rs1).toInt < (d.rg t rs2).toInt then d.rg t rs2 else d.rg t rs1) 4 d') d'))
  ∧ (∀ (t : Fin 32) (p : Fin 8) (rd rs1 : Fin 32), Does (.clz t p rd rs1) s (fun d d' =>
      d.Issued t (.clz t p rd rs1) p 4 (d.Result t rd (BitVec.ofNat 64 (leadZeros (d.rg t rs1).toNat)) 4 d') d'))
  ∧ (∀ (t : Fin 32) (p : Fin 8) (rd rs1 : Fin 32), Does (.popc t p rd rs1) s (fun d d' =>
      d.Issued t (.popc t p rd rs1) p 4 (d.Result t rd (BitVec.ofNat 64 ((List.range 64).filter (fun k => (d.rg t rs1).getLsbD k)).length) 4 d') d'))
  ∧ (∀ (t : Fin 32) (p : Fin 8) (rd rs1 : Fin 32), Does (.bswap16 t p rd rs1) s (fun d d' =>
      d.Issued t (.bswap16 t p rd rs1) p 4 (d.Result t rd (BitVec.ofNat 64 (beNat (natLE 2 (d.rg t rs1).toNat))) 4 d') d'))
  ∧ (∀ (t : Fin 32) (p : Fin 8) (rd rs1 : Fin 32), Does (.bswap32 t p rd rs1) s (fun d d' =>
      d.Issued t (.bswap32 t p rd rs1) p 4 (d.Result t rd (BitVec.ofNat 64 (beNat (natLE 4 (d.rg t rs1).toNat))) 4 d') d'))
  ∧ (∀ (t : Fin 32) (p : Fin 8) (rd rs1 : Fin 32), Does (.bswap64 t p rd rs1) s (fun d d' =>
      d.Issued t (.bswap64 t p rd rs1) p 4 (d.Result t rd (BitVec.ofNat 64 (beNat (natLE 8 (d.rg t rs1).toNat))) 4 d') d'))
  ∧ (∀ (t : Fin 32) (p : Fin 8) (rd rs1 : Fin 32) (imm : Imm 13), Does (.addi t p rd rs1 imm) s (fun d d' =>
      d.Issued t (.addi t p rd rs1 imm) p (immLen imm) (d.Result t rd (d.rg t rs1 + immS imm) (immLen imm) d') d'))
  ∧ (∀ (t : Fin 32) (p : Fin 8) (rd rs1 : Fin 32) (imm : Imm 13), Does (.andi t p rd rs1 imm) s (fun d d' =>
      d.Issued t (.andi t p rd rs1 imm) p (immLen imm) (d.Result t rd (d.rg t rs1 &&& immZ imm) (immLen imm) d') d'))
  ∧ (∀ (t : Fin 32) (p : Fin 8) (rd rs1 : Fin 32) (imm : Imm 13), Does (.ori t p rd rs1 imm) s (fun d d' =>
      d.Issued t (.ori t p rd rs1 imm) p (immLen imm) (d.Result t rd (d.rg t rs1 ||| immZ imm) (immLen imm) d') d'))
  ∧ (∀ (t : Fin 32) (p : Fin 8) (rd rs1 : Fin 32) (imm : Imm 13), Does (.xori t p rd rs1 imm) s (fun d d' =>
      d.Issued t (.xori t p rd rs1 imm) p (immLen imm) (d.Result t rd (d.rg t rs1 ^^^ immZ imm) (immLen imm) d') d'))
  ∧ (∀ (t : Fin 32) (p : Fin 8) (rd rs1 : Fin 32) (imm : Imm 13), Does (.muli t p rd rs1 imm) s (fun d d' =>
      d.Issued t (.muli t p rd rs1 imm) p (immLen imm) (d.Result t rd (d.rg t rs1 * immS imm) (immLen imm) d') d'))
  ∧ (∀ (t : Fin 32) (p : Fin 8) (rd rs1 : Fin 32) (sh : BitVec 6), Does (.shli t p rd rs1 sh) s (fun d d' =>
      d.Issued t (.shli t p rd rs1 sh) p 4 (d.Result t rd (d.rg t rs1 <<< sh.toNat) 4 d') d'))
  ∧ (∀ (t : Fin 32) (p : Fin 8) (rd rs1 : Fin 32) (sh : BitVec 6), Does (.shri t p rd rs1 sh) s (fun d d' =>
      d.Issued t (.shri t p rd rs1 sh) p 4 (d.Result t rd (d.rg t rs1 >>> sh.toNat) 4 d') d'))
  ∧ (∀ (t : Fin 32) (p : Fin 8) (rd rs1 : Fin 32) (sh : BitVec 6), Does (.sari t p rd rs1 sh) s (fun d d' =>
      d.Issued t (.sari t p rd rs1 sh) p 4 (d.Result t rd ((d.rg t rs1).sshiftRight sh.toNat) 4 d') d'))
  ∧ (∀ (t : Fin 32) (p : Fin 8) (rd rs1 : Fin 32) (pos lenM1 : BitVec 6), Does (.extu t p rd rs1 pos lenM1) s (fun d d' =>
      d.Issued t (.extu t p rd rs1 pos lenM1) p 4 (d.Result t rd ((d.rg t rs1).rotateRight pos.toNat &&& lowMask (lenM1.toNat + 1)) 4 d') d'))
  ∧ (∀ (t : Fin 32) (p : Fin 8) (rd rs1 : Fin 32) (pos lenM1 : BitVec 6), Does (.exts t p rd rs1 pos lenM1) s (fun d d' =>
      d.Issued t (.exts t p rd rs1 pos lenM1) p 4 (d.Result t rd (if ((d.rg t rs1).rotateRight pos.toNat).getLsbD lenM1.toNat then (d.rg t rs1).rotateRight pos.toNat ||| ~~~(lowMask (lenM1.toNat + 1)) else (d.rg t rs1).rotateRight pos.toNat &&& lowMask (lenM1.toNat + 1)) 4 d') d'))
  ∧ (∀ (t : Fin 32) (p : Fin 8) (rd rs1 : Fin 32) (pos lenM1 : BitVec 6), Does (.ins t p rd rs1 pos lenM1) s (fun d d' =>
      d.Issued t (.ins t p rd rs1 pos lenM1) p 4 (d.Result t rd ((d.rg t rd &&& ~~~((lowMask (lenM1.toNat + 1)).rotateLeft pos.toNat)) ||| ((d.rg t rs1 &&& lowMask (lenM1.toNat + 1)).rotateLeft pos.toNat)) 4 d') d'))

/-- For every state, thread, predicates, registers and condition: CMP and CMPI write the result to PD and its complement to PDN;
PAND, POR, PXOR, PANDN and PNOT write PD; PPUT writes p1 to p7 and PGET reads all eight; p0 reads true and discards a write;
nothing else of the thread changes but its pc. (R320, R355, R359) -/
def Obligations.SynoshPredicatesComplete : Prop :=
  ∀ s : State,
  (∀ (t : Fin 32) (p pd pdn : Fin 8) (rs1 rs2 : Fin 32) (cond : Cond), Does (.cmp t p pd pdn rs1 rs2 cond) s (fun d d' =>
      d.Issued t (.cmp t p pd pdn rs1 rs2 cond) p 4 (d.PredResult t 4 (fun q => if q = pdn.val then !(compare cond (d.rg t rs1) (d.rg t rs2)) else if q = pd.val then compare cond (d.rg t rs1) (d.rg t rs2) else d.pred t q) d') d'))
  ∧ (∀ (t : Fin 32) (p pd pdn : Fin 8) (rs1 : Fin 32) (cond : Cond) (imm : Imm 8), Does (.cmpi t p pd pdn rs1 cond imm) s (fun d d' =>
      d.Issued t (.cmpi t p pd pdn rs1 cond imm) p (immLen imm) (d.PredResult t (immLen imm) (fun q => if q = pdn.val then !(compare cond (d.rg t rs1) (immS imm)) else if q = pd.val then compare cond (d.rg t rs1) (immS imm) else d.pred t q) d') d'))
  ∧ (∀ (t : Fin 32) (p pd pa pb : Fin 8), Does (.pand t p pd pa pb) s (fun d d' =>
      d.Issued t (.pand t p pd pa pb) p 4 (d.PredResult t 4 (fun q => if q = pd.val then (d.pred t pa && d.pred t pb) else d.pred t q) d') d'))
  ∧ (∀ (t : Fin 32) (p pd pa pb : Fin 8), Does (.por t p pd pa pb) s (fun d d' =>
      d.Issued t (.por t p pd pa pb) p 4 (d.PredResult t 4 (fun q => if q = pd.val then (d.pred t pa || d.pred t pb) else d.pred t q) d') d'))
  ∧ (∀ (t : Fin 32) (p pd pa pb : Fin 8), Does (.pxor t p pd pa pb) s (fun d d' =>
      d.Issued t (.pxor t p pd pa pb) p 4 (d.PredResult t 4 (fun q => if q = pd.val then (d.pred t pa != d.pred t pb) else d.pred t q) d') d'))
  ∧ (∀ (t : Fin 32) (p pd pa pb : Fin 8), Does (.pandn t p pd pa pb) s (fun d d' =>
      d.Issued t (.pandn t p pd pa pb) p 4 (d.PredResult t 4 (fun q => if q = pd.val then (d.pred t pa && !d.pred t pb) else d.pred t q) d') d'))
  ∧ (∀ (t : Fin 32) (p pd pa : Fin 8), Does (.pnot t p pd pa) s (fun d d' =>
      d.Issued t (.pnot t p pd pa) p 4 (d.PredResult t 4 (fun q => if q = pd.val then (!d.pred t pa) else d.pred t q) d') d'))
  ∧ (∀ (t : Fin 32) (p : Fin 8) (rx : Fin 32), Does (.pget t p rx) s (fun d d' =>
      d.Issued t (.pget t p rx) p 4 (d.Result t rx (BitVec.ofNat 64 ((d.thr t).p ||| 1)) 4 d') d'))
  ∧ (∀ (t : Fin 32) (p : Fin 8) (rx : Fin 32), Does (.pput t p rx) s (fun d d' =>
      d.Issued t (.pput t p rx) p 4 (d.PredResult t 4 (fun q => (d.rg t rx).getLsbD q) d') d'))

/-- For every state, thread, predicate, registers, immediate, D-cache outcome and checker finding: LD8U, LD16U, LD32U, LD64, LD8S,
LD16S and LD32S complete; issued, each raises ALIGN or UNMAPPED, waits for its register read, runs ahead of a missed DRAM line,
raises MEM_ECC on an uncorrectable word, or writes the extended little-endian value to RD alone. (R323, R324, R326, R327, R329,
R332, R354, R360) -/
def Obligations.SynoshLoadsComplete : Prop :=
  ∀ s : State,
  (∀ (t : Fin 32) (p : Fin 8) (rd rs1 : Fin 32) (imm : Imm 13) (miss : Bool) (ecc : Ecc), Does (.ld8u t p rd rs1 imm miss ecc) s (fun d d' =>
      d.Issued t (.ld8u t p rd rs1 imm miss ecc) p (immLen imm)
      (d.Loads t rd ((d.rg t rs1 + immS imm).toNat % 2 ^ 40) 1 false (immLen imm) miss ecc d') d'))
  ∧ (∀ (t : Fin 32) (p : Fin 8) (rd rs1 : Fin 32) (imm : Imm 13) (miss : Bool) (ecc : Ecc), Does (.ld16u t p rd rs1 imm miss ecc) s (fun d d' =>
      d.Issued t (.ld16u t p rd rs1 imm miss ecc) p (immLen imm)
      (d.Loads t rd ((d.rg t rs1 + immS imm).toNat % 2 ^ 40) 2 false (immLen imm) miss ecc d') d'))
  ∧ (∀ (t : Fin 32) (p : Fin 8) (rd rs1 : Fin 32) (imm : Imm 13) (miss : Bool) (ecc : Ecc), Does (.ld32u t p rd rs1 imm miss ecc) s (fun d d' =>
      d.Issued t (.ld32u t p rd rs1 imm miss ecc) p (immLen imm)
      (d.Loads t rd ((d.rg t rs1 + immS imm).toNat % 2 ^ 40) 4 false (immLen imm) miss ecc d') d'))
  ∧ (∀ (t : Fin 32) (p : Fin 8) (rd rs1 : Fin 32) (imm : Imm 13) (miss : Bool) (ecc : Ecc), Does (.ld64 t p rd rs1 imm miss ecc) s (fun d d' =>
      d.Issued t (.ld64 t p rd rs1 imm miss ecc) p (immLen imm)
      (d.Loads t rd ((d.rg t rs1 + immS imm).toNat % 2 ^ 40) 8 false (immLen imm) miss ecc d') d'))
  ∧ (∀ (t : Fin 32) (p : Fin 8) (rd rs1 : Fin 32) (imm : Imm 13) (miss : Bool) (ecc : Ecc), Does (.ld8s t p rd rs1 imm miss ecc) s (fun d d' =>
      d.Issued t (.ld8s t p rd rs1 imm miss ecc) p (immLen imm)
      (d.Loads t rd ((d.rg t rs1 + immS imm).toNat % 2 ^ 40) 1 true (immLen imm) miss ecc d') d'))
  ∧ (∀ (t : Fin 32) (p : Fin 8) (rd rs1 : Fin 32) (imm : Imm 13) (miss : Bool) (ecc : Ecc), Does (.ld16s t p rd rs1 imm miss ecc) s (fun d d' =>
      d.Issued t (.ld16s t p rd rs1 imm miss ecc) p (immLen imm)
      (d.Loads t rd ((d.rg t rs1 + immS imm).toNat % 2 ^ 40) 2 true (immLen imm) miss ecc d') d'))
  ∧ (∀ (t : Fin 32) (p : Fin 8) (rd rs1 : Fin 32) (imm : Imm 13) (miss : Bool) (ecc : Ecc), Does (.ld32s t p rd rs1 imm miss ecc) s (fun d d' =>
      d.Issued t (.ld32s t p rd rs1 imm miss ecc) p (immLen imm)
      (d.Loads t rd ((d.rg t rs1 + immS imm).toNat % 2 ^ 40) 4 true (immLen imm) miss ecc d') d'))

/-- For every state, thread, predicate, registers and immediate: ST8, ST16, ST32 and ST64 complete; issued, each raises ALIGN or
UNMAPPED, is discarded by a spent thread, joins the write set of an OPEN accord, stores its bytes in CTL SRAM or DRAM, posts a
register write, or is recorded as unwritable. AMO SWAP, ADD, AND, OR and CAS store the new word and give RD the old one. (R282,
R283, R326, R327, R354, R360, R361, R372, R373) -/
def Obligations.SynoshStoresAndAtomicsComplete : Prop :=
  ∀ s : State,
  (∀ (t : Fin 32) (p : Fin 8) (rs2 rs1 : Fin 32) (imm : Imm 13), Does (.st8 t p rs2 rs1 imm) s (fun d d' =>
      d.Issued t (.st8 t p rs2 rs1 imm) p (immLen imm)
      (d.Stores t ((d.rg t rs1 + immS imm).toNat % 2 ^ 40) 1 ((d.rg t rs2).toNat % 2 ^ 8) (immLen imm) d') d'))
  ∧ (∀ (t : Fin 32) (p : Fin 8) (rs2 rs1 : Fin 32) (imm : Imm 13), Does (.st16 t p rs2 rs1 imm) s (fun d d' =>
      d.Issued t (.st16 t p rs2 rs1 imm) p (immLen imm)
      (d.Stores t ((d.rg t rs1 + immS imm).toNat % 2 ^ 40) 2 ((d.rg t rs2).toNat % 2 ^ 16) (immLen imm) d') d'))
  ∧ (∀ (t : Fin 32) (p : Fin 8) (rs2 rs1 : Fin 32) (imm : Imm 13), Does (.st32 t p rs2 rs1 imm) s (fun d d' =>
      d.Issued t (.st32 t p rs2 rs1 imm) p (immLen imm)
      (d.Stores t ((d.rg t rs1 + immS imm).toNat % 2 ^ 40) 4 ((d.rg t rs2).toNat % 2 ^ 32) (immLen imm) d') d'))
  ∧ (∀ (t : Fin 32) (p : Fin 8) (rs2 rs1 : Fin 32) (imm : Imm 13), Does (.st64 t p rs2 rs1 imm) s (fun d d' =>
      d.Issued t (.st64 t p rs2 rs1 imm) p (immLen imm)
      (d.Stores t ((d.rg t rs1 + immS imm).toNat % 2 ^ 40) 8 ((d.rg t rs2).toNat % 2 ^ 64) (immLen imm) d') d'))
  ∧ (∀ (t : Fin 32) (p : Fin 8) (rd rs1 rs2 : Fin 32) (fence : Bool) (ecc : Ecc), Does (.amoSwap t p rd rs1 rs2 fence ecc) s (fun d d' =>
      d.Issued t (.amoSwap t p rd rs1 rs2 fence ecc) p 4 (d.Amo t rd ((d.rg t rs1).toNat % 2 ^ 40) ecc (fun _ => d.rg t rs2) d') d'))
  ∧ (∀ (t : Fin 32) (p : Fin 8) (rd rs1 rs2 : Fin 32) (fence : Bool) (ecc : Ecc), Does (.amoAdd t p rd rs1 rs2 fence ecc) s (fun d d' =>
      d.Issued t (.amoAdd t p rd rs1 rs2 fence ecc) p 4 (d.Amo t rd ((d.rg t rs1).toNat % 2 ^ 40) ecc (fun old => old + d.rg t rs2) d') d'))
  ∧ (∀ (t : Fin 32) (p : Fin 8) (rd rs1 rs2 : Fin 32) (fence : Bool) (ecc : Ecc), Does (.amoAnd t p rd rs1 rs2 fence ecc) s (fun d d' =>
      d.Issued t (.amoAnd t p rd rs1 rs2 fence ecc) p 4 (d.Amo t rd ((d.rg t rs1).toNat % 2 ^ 40) ecc (fun old => old &&& d.rg t rs2) d') d'))
  ∧ (∀ (t : Fin 32) (p : Fin 8) (rd rs1 rs2 : Fin 32) (fence : Bool) (ecc : Ecc), Does (.amoOr t p rd rs1 rs2 fence ecc) s (fun d d' =>
      d.Issued t (.amoOr t p rd rs1 rs2 fence ecc) p 4 (d.Amo t rd ((d.rg t rs1).toNat % 2 ^ 40) ecc (fun old => old ||| d.rg t rs2) d') d'))
  ∧ (∀ (t : Fin 32) (p : Fin 8) (rd rs1 rs2 : Fin 32) (fence : Bool) (ecc : Ecc), Does (.amoCas t p rd rs1 rs2 fence ecc) s (fun d d' =>
      d.Issued t (.amoCas t p rd rs1 rs2 fence ecc) p 4 (d.Amo t rd ((d.rg t rs1).toNat % 2 ^ 40) ecc (fun old => if old = d.rg t rd then d.rg t rs2 else old) d') d'))

/-- For every state, thread and predicate: B, BL, JR and JR LINK take the pc to their target and link where they do; HALT stops the
thread in HALT; TRAP raises code 6; ERET clears ACTIVE and goes to epc; FENCE and PREF only retire; IINV leaves no I-cache a
line of its range, and what the checker finds on the fetch comes with it; FENCE.D and FENCE.T wait while a register write, or a
closed accord, of the thread is pending; MFS reads and MTS writes the special registers, a reserved one raising ILLOP. (R20,
R319, R321, R331, R338, R341, R362, R363, R364) -/
def Obligations.SynoshControlTransferComplete : Prop :=
  ∀ s : State,
  (∀ (t : Fin 32) (p : Fin 8) (off : BitVec 23), Does (.b t p off) s (fun d d' =>
      d.Issued t (.b t p off) p 4 (d.Jumps t (d.target t off) d' ∧ (d'.thr t).w = (d.thr t).w) d'))
  ∧ (∀ (t : Fin 32) (p : Fin 8) (off : BitVec 23), Does (.bl t p off) s (fun d d' =>
      d.Issued t (.bl t p off) p 4 (d.Jumps t (d.target t off) d' ∧ d.WritesReg t 31 (BitVec.ofNat 64 ((d.thr t).pc + 4)) d') d'))
  ∧ (∀ (t : Fin 32) (p : Fin 8) (rs1 : Fin 32), Does (.jr t p rs1) s (fun d d' =>
      d.Issued t (.jr t p rs1) p 4 (d.Jumps t (d.rg t rs1).toNat d' ∧ (d'.thr t).w = (d.thr t).w) d'))
  ∧ (∀ (t : Fin 32) (p : Fin 8) (rd rs1 : Fin 32), Does (.jrLink t p rd rs1) s (fun d d' =>
      d.Issued t (.jrLink t p rd rs1) p 4 (d.Jumps t (d.rg t rs1).toNat d' ∧ d.WritesReg t rd (BitVec.ofNat 64 ((d.thr t).pc + 4)) d') d'))
  ∧ (∀ (t : Fin 32) (p : Fin 8), Does (.halt t p) s (fun d d' =>
      d.Issued t (.halt t p) p 4 (d'.tstate t = 3 ∧ (d.openOf t = none → (d'.thr t).pc = ((d.thr t).pc + 4) % 2 ^ 40 ∧ d'.acc = d.acc)
      ∧ (match d.openOf t with
        | some m => d' = ((d.abortSlot m 9).retire t 4).halt t 0 ∧ d'.get (ACD_SLOTn_STAT_STATE m) = 5 ∧ d'.get (ACD_SLOTn_STAT_CODE m) = 9
            ∧ d'.accSlot m = AccSlot.reset
        | none => True)) d'))
  ∧ (∀ (t : Fin 32) (p : Fin 8), Does (.trap t p) s (fun d d' =>
      d.Issued t (.trap t p) p 4 (d' = d.exc t 6 none ∧ d.Excepts t 6 none d') d'))
  ∧ (∀ (t : Fin 32) (p : Fin 8), Does (.eret t p) s (fun d d' =>
      d.Issued t (.eret t p) p 4 (d'.thr t = { d.thr t with active := false, pc := (d.thr t).epc / 4 * 4 % 2 ^ 40 } ∧ d' = { d with syn := d'.syn }) d'))
  ∧ (∀ (t : Fin 32) (p : Fin 8), Does (.fence t p) s (fun d d' =>
      d.Issued t (.fence t p) p 4 (d.Retired t ((d.thr t).pc + 4) d' ∧ (d'.thr t).w = (d.thr t).w ∧ (d'.thr t).p = (d.thr t).p) d'))
  ∧ (∀ (t : Fin 32) (p : Fin 8), Does (.fenceD t p) s (fun d d' =>
      d.Issued t (.fenceD t p) p 4 (if d.posted.any (fun w => w.thr == t.val) then
        d'.tstate t = 2 ∧ d'.thr t = { d.thr t with wait := .posted } ∧ d'.posted = d.posted ∧ d'.mem = d.mem
      else d.Retired t ((d.thr t).pc + 4) d' ∧ (d'.thr t).w = (d.thr t).w) d'))
  ∧ (∀ (t : Fin 32) (p : Fin 8), Does (.fenceT t p) s (fun d d' =>
      d.Issued t (.fenceT t p) p 4 (if d.closedOf t ≠ [] then
        d'.tstate t = 2 ∧ d'.thr t = { d.thr t with wait := .accords } ∧ d'.acc = d.acc ∧ d'.mem = d.mem
      else d.Retired t ((d.thr t).pc + 4) d' ∧ (d'.thr t).w = (d.thr t).w) d'))
  ∧ (∀ (t : Fin 32) (p : Fin 8) (rd n : Fin 32), Does (.mfs t p rd n) s (fun d d' =>
      d.Issued t (.mfs t p rd n) p 4 (if n.val = 0 then d.Result t rd (BitVec.ofNat 64 (t.val % 32 + t.val / 4 * 32)) 4 d'
      else if n.val = 1 then d.Result t rd (BitVec.ofNat 64 d.now) 4 d'
      else if n.val = 2 then d.Result t rd (BitVec.ofNat 64 (d.acst t).word) 4 d'
      else if n.val = 3 then d.Result t rd (BitVec.ofNat 64 ((d.thr t).code + b2n (d.thr t).active * 2 ^ 8)) 4 d'
      else if n.val = 4 then d.Result t rd (BitVec.ofNat 64 (d.thr t).epc) 4 d'
      else if n.val = 5 then d.Result t rd (BitVec.ofNat 64 (d.thr t).eaddr) 4 d'
      else if n.val = 6 then d.Result t rd (BitVec.ofNat 64 (d.thr t).evbase) 4 d'
      else if n.val = 7 then d.Result t rd (BitVec.ofNat 64 (d.thr t).escr) 4 d'
      else d' = d.exc t 1 none ∧ d.Excepts t 1 none d') d'))
  ∧ (∀ (t : Fin 32) (p : Fin 8) (rs1 n : Fin 32), Does (.mts t p rs1 n) s (fun d d' =>
      d.Issued t (.mts t p rs1 n) p 4 (if n.val = 3 then (d'.thr t).code = (d.rg t rs1).toNat % 16 ∧ (d'.thr t).active = (d.rg t rs1).getLsbD 8
        ∧ (d'.thr t).epc = (d.thr t).epc ∧ (d'.thr t).pc = ((d.thr t).pc + 4) % 2 ^ 40 ∧ (d'.thr t).w = (d.thr t).w ∧ d' = { d with flds := d'.flds, syn := d'.syn }
      else if n.val = 4 then (d'.thr t).epc = (d.rg t rs1).toNat ∧ (d'.thr t).code = (d.thr t).code ∧ (d'.thr t).pc = ((d.thr t).pc + 4) % 2 ^ 40
        ∧ (d'.thr t).w = (d.thr t).w ∧ d' = { d with flds := d'.flds, syn := d'.syn }
      else if n.val = 6 then (d'.thr t).evbase = (d.rg t rs1).toNat / 64 * 64 ∧ (d'.thr t).epc = (d.thr t).epc ∧ (d'.thr t).pc = ((d.thr t).pc + 4) % 2 ^ 40
        ∧ (d'.thr t).w = (d.thr t).w ∧ d' = { d with flds := d'.flds, syn := d'.syn }
      else if n.val = 7 then (d'.thr t).escr = (d.rg t rs1).toNat ∧ (d'.thr t).epc = (d.thr t).epc ∧ (d'.thr t).pc = ((d.thr t).pc + 4) % 2 ^ 40
        ∧ (d'.thr t).w = (d.thr t).w ∧ d' = { d with flds := d'.flds, syn := d'.syn }
      else d' = d.exc t 1 none ∧ d.Excepts t 1 none d') d'))
  ∧ (∀ (t : Fin 32) (p : Fin 8) (rs1 rs2 : Fin 32) (fetched : Ecc), Does (.iinv t p rs1 rs2 fetched) s (fun d d' =>
      let d := d.fetchFinds t fetched; d.Issued t (.iinv t p rs1 rs2 fetched) p 4 (d.Retired t ((d.thr t).pc + 4) d' ∧ (d'.thr t).w = (d.thr t).w ∧ (d'.thr t).p = (d.thr t).p
          ∧ d'.syn.stale = d.syn.stale.filter (fun x => decide ((d.rg t rs2).toNat = 0 ∨ 64 * x.1 + 63 < (d.rg t rs1).toNat
              ∨ (d.rg t rs1).toNat + (d.rg t rs2).toNat ≤ 64 * x.1))) d'))
  ∧ (∀ (t : Fin 32) (p : Fin 8) (rs1 : Fin 32), Does (.pref t p rs1) s (fun d d' =>
      d.Issued t (.pref t p rs1) p 4 (d.Retired t ((d.thr t).pc + 4) d' ∧ (d'.thr t).w = (d.thr t).w ∧ (d'.thr t).p = (d.thr t).p) d'))

/-- For every state, thread and predicate: EVW answers the ready queue or 32, or waits, and resumes when one is ready or the
deadline passes; PSEND, WCMD and KOP raise ALIGN or UNMAPPED before anything else; CRC8, CRC64 and TMTB give their function of
two registers; ACB opens or refuses an accord, ACW is a store that must stand in one, ACC, ACC HELD and ACA end one, ACS and ACS
BYID give its status. (R281, R286, R365, R366, R367, R368, R370, R371, R372, R373) -/
def Obligations.SynoshEventsAccordsAndChecksComplete : Prop :=
  ∀ s : State,
  (∀ (t : Fin 32) (p : Fin 8) (rd rs1 rs2 : Fin 32), Does (.evw t p rd rs1 rs2) s (fun d d' =>
      d.Issued t (.evw t p rd rs1 rs2) p 4 (match d.eventReady (d.rg t rs1).toNat (d.rg t rs2).toNat with
      | some q => d.Result t rd (BitVec.ofNat 64 q) 4 d'
      | none => d'.tstate t = 2 ∧ d'.thr t = { d.thr t with wait := .event rd (d.rg t rs1).toNat (d.rg t rs2).toNat } ∧ d'.mem = d.mem) d'))
  ∧ (∀ (t : Fin 32), Does (.evwResume t) s (fun d d' =>
      match (d.thr t).wait with
      | .event rd mask dl => (match d.eventReady mask dl with
        | some q => d.Result t rd (BitVec.ofNat 64 q) 4 d'
        | none => if dl = 0 then d' = d else (let y := d.reach 0 (dl * 2 ^ 32)
            match y.eventReady mask dl with
            | some q => y.Result t rd (BitVec.ofNat 64 q) 4 d'
            | none => d' = y ∧ d'.tstate t = y.tstate t))
      | _ => d' = d))
  ∧ (∀ (t : Fin 32) (p : Fin 8) (rs1 rs2 : Fin 32), Does (.psend t p rs1 rs2) s (fun d d' =>
      d.Issued t (.psend t p rs1 rs2) p 4 (if (d.rg t rs1).toNat % 8 ≠ 0 then d' = d.exc t 2 (some ((d.rg t rs1).toNat % 2 ^ 40)) ∧ d.Excepts t 2 (some ((d.rg t rs1).toNat % 2 ^ 40)) d'
      else match d.outside ((d.rg t rs1).toNat % 2 ^ 40) (bitsOf (d.rg t rs2).toNat 10 14) with
        | some x => d' = d.exc t 5 (some x) ∧ d.Excepts t 5 (some x) d'
        | none => if 64 ≤ d.sendsWaiting then d'.tstate t = 2 ∧ (d'.thr t).pc = (d.thr t).pc ∧ d'.mem = d.mem ∧ d'.waits = d.waits
            ∧ (d'.thr t).wait = .send ((d.rg t rs1).toNat % 2 ^ 40) (d.rg t rs2).toNat
          else if !(d.ctxRun (bitsOf (d.rg t rs2).toNat 0 10) && d.orig (bitsOf (d.rg t rs2).toNat 0 10))
              || (d.flag STN_STAT_FENCED && d.get (CTX_W0_CLASS (bitsOf (d.rg t rs2).toNat 0 10)) != 0)
              || d.maxLen (bitsOf (d.rg t rs2).toNat 0 10) < bitsOf (d.rg t rs2).toNat 10 14
              || bitsOf (d.rg t rs2).toNat 24 2 == 3 || bitsOf (d.rg t rs2).toNat 31 33 != 0 then
            d' = (d.txDone (some (t, bitsOf (d.rg t rs2).toNat 26 5)) true).retire t 4
            ∧ d'.syn.sent = d.syn.sent ++ [(t.val, bitsOf (d.rg t rs2).toNat 26 5, true)] ∧ (d'.thr t).pc = ((d.thr t).pc + 4) % 2 ^ 40 ∧ d'.sw = d.sw ∧ d'.waits = d.waits
          else d' = (d.offer ⟨bitsOf (d.rg t rs2).toNat 0 10, 20, d.bytes ((d.rg t rs1).toNat % 2 ^ 40) (bitsOf (d.rg t rs2).toNat 10 14),
            some (bitsOf (d.rg t rs2).toNat 24 2), 0, some (t, bitsOf (d.rg t rs2).toNat 26 5), false⟩).retire t 4
            ∧ (d.enginesIdle → (d'.thr t).pc = ((d.thr t).pc + 4) % 2 ^ 40)
            ∧ (d.flag TNL_CTL_EN = false → d'.waits = d.waits ++ [⟨bitsOf (d.rg t rs2).toNat 0 10, 20, d.bytes ((d.rg t rs1).toNat % 2 ^ 40) (bitsOf (d.rg t rs2).toNat 10 14),
                some (bitsOf (d.rg t rs2).toNat 24 2), 0, some (t.val, bitsOf (d.rg t rs2).toNat 26 5), false⟩])) d'))
  ∧ (∀ (t : Fin 32) (p : Fin 8) (rd rs1 rs2 : Fin 32) (e : ActEnv), Does (.wcmd t p rd rs1 rs2 e) s (fun d d' =>
      d.Issued t (.wcmd t p rd rs1 rs2 e) p 4 (match d.openOf t with
      | some m => d' = (d.abortSlot m 8).retire t 4 ∧ d'.get (ACD_SLOTn_STAT_STATE m) = 5 ∧ d'.get (ACD_SLOTn_STAT_CODE m) = 8
          ∧ (d'.thr t).pc = ((d.thr t).pc + 4) % 2 ^ 40 ∧ (d'.thr t).w = (d.thr t).w
      | none => if (d.rg t rs1).toNat % 4 ≠ 0 then d' = d.exc t 2 (some ((d.rg t rs1).toNat % 2 ^ 40)) ∧ d.Excepts t 2 (some ((d.rg t rs1).toNat % 2 ^ 40)) d'
        else if d.region ((d.rg t rs1).toNat % 2 ^ 40) = .hole ∨ d.region ((d.rg t rs1).toNat % 2 ^ 40 + 4) = .hole then
          d' = d.exc t 5 (some ((d.rg t rs1).toNat % 2 ^ 40)) ∧ d.Excepts t 5 (some ((d.rg t rs1).toNat % 2 ^ 40)) d'
        else (let y := (d.beforeRead t ((d.rg t rs1).toNat % 2 ^ 40 + 4) e).winEnd.wordRead t ((d.rg t rs1).toNat % 2 ^ 40 + 4)
          if y.1 % 2 = 0 then d' = (y.2.wr t rd (BitVec.ofNat 64 y.1)).retire t 4 ∧ y.2.WritesReg t rd (BitVec.ofNat 64 y.1) d'
            ∧ (d'.thr t).pc = ((y.2.thr t).pc + 4) % 2 ^ 40
          else (let z := (y.2.wordWrite t ((d.rg t rs1).toNat % 2 ^ 40) ((y.2.rg t rs2).toNat % 2 ^ 32) e).winEnd.wordRead t ((d.rg t rs1).toNat % 2 ^ 40 + 4)
            if z.2.tstate t = 1 then d' = (z.2.wr t rd (BitVec.ofNat 64 z.1)).retire t 4 ∧ z.2.WritesReg t rd (BitVec.ofNat 64 z.1) d'
              ∧ (d'.thr t).pc = ((z.2.thr t).pc + 4) % 2 ^ 40
            else d' = z.2))) d'))
  ∧ (∀ (t : Fin 32) (p : Fin 8) (rd rs1 rs2 : Fin 32), Does (.crc8 t p rd rs1 rs2) s (fun d d' =>
      d.Issued t (.crc8 t p rd rs1 rs2) p 4 (d.Result t rd (BitVec.ofNat 64 (crcByte ((d.rg t rs1).toNat % 2 ^ 32) ((d.rg t rs2).setWidth 8))) 4 d') d'))
  ∧ (∀ (t : Fin 32) (p : Fin 8) (rd rs1 rs2 : Fin 32), Does (.crc64 t p rd rs1 rs2) s (fun d d' =>
      d.Issued t (.crc64 t p rd rs1 rs2) p 4 (d.Result t rd (BitVec.ofNat 64 (crcRun ((d.rg t rs1).toNat % 2 ^ 32) (natBE 8 (d.rg t rs2).toNat))) 4 d') d'))
  ∧ (∀ (t : Fin 32) (p : Fin 8) (rd rs1 rs2 : Fin 32), Does (.tmtb t p rd rs1 rs2) s (fun d d' =>
      d.Issued t (.tmtb t p rd rs1 rs2) p 4 (d.Result t rd (BitVec.ofNat 64 (tmtBucket ((d.rg t rs1).toNat % 2 ^ 36) ((d.rg t rs2).toNat % 2 ^ 32))) 4 d') d'))
  ∧ (∀ (t : Fin 32) (p : Fin 8) (rs1 rs2 : Fin 32), Does (.kop t p rs1 rs2) s (fun d d' =>
      d.Issued t (.kop t p rs1 rs2) p 4 (if (d.rg t rs1).toNat % 64 ≠ 0 then d' = d.exc t 2 (some ((d.rg t rs1).toNat % 2 ^ 40)) ∧ d.Excepts t 2 (some ((d.rg t rs1).toNat % 2 ^ 40)) d'
      else match d.outside ((d.rg t rs1).toNat % 2 ^ 40) 64 with
        | some x => d' = d.exc t 5 (some x) ∧ d.Excepts t 5 (some x) d'
        | none => match d.openOf t with
          | some m => d' = (d.abortSlot m 8).retire t 4 ∧ d'.get (ACD_SLOTn_STAT_STATE m) = 5 ∧ d'.get (ACD_SLOTn_STAT_CODE m) = 8
              ∧ (d'.thr t).pc = ((d.thr t).pc + 4) % 2 ^ 40
          | none => if d.domOn 4 then Dev.Retired { d with posted := d'.posted } t ((d.thr t).pc + 4) d' ∧ (d'.thr t).w = (d.thr t).w
              ∧ d'.posted = d.posted ++ [⟨t, KEY_SUBMIT_A, (d.rg t rs2).toNat, d.bytes ((d.rg t rs1).toNat % 2 ^ 40) 64⟩]
            else d' = (d.busEvent 0x0002 KEY_SUBMIT_A t).retire t 4 ∧ (d'.thr t).pc = ((d.thr t).pc + 4) % 2 ^ 40 ∧ d'.posted = d.posted ∧ d'.key = d.key) d'))
  ∧ (∀ (t : Fin 32) (p : Fin 8) (rd : Fin 32), Does (.acbNow t p rd) s (fun d d' =>
      d.Issued t (.acbNow t p rd) p 4 (d' = d.acbLocal t rd 0 0 ⟨0, 0, 0⟩
      ∧ (d'.thr t).pc = ((d.thr t).pc + 4) % 2 ^ 40 ∧ d'.rg t rd = (if rd.val = 0 then 0 else BitVec.ofNat 64 (d'.acst t).word)
      ∧ (match d.openOf t, d.localSlot with
        | some m, _ => d'.get (ACD_SLOTn_STAT_STATE m) = 5 ∧ d'.get (ACD_SLOTn_STAT_CODE m) = 8
        | none, some n => d'.get (ACD_SLOTn_STAT_STATE n) = 1 ∧ d'.get (ACD_SLOTn_STAT_KIND n) = 0 ∧ d'.get (ACD_SLOTn_STAT_THREAD n) = t
            ∧ d'.get (ACD_SLOTn_ID_ID n) = d.nextId % 2 ^ 32 ∧ d'.get ACD_SERIAL_SERIAL = (d.get ACD_SERIAL_SERIAL + 1) % 2 ^ 20
            ∧ d'.accSlot n = AccSlot.reset ∧ (d'.acst t).state = 1 ∧ (d'.acst t).slot = n ∧ d'.spent t = false
        | none, none => (d'.acst t).state = 5 ∧ (d'.acst t).code = 2 ∧ d'.spent t = true)) d'))
  ∧ (∀ (t : Fin 32) (p : Fin 8) (rd rs1 : Fin 32) (tb : Fin 4), Does (.acbAt t p rd rs1 tb) s (fun d d' =>
      d.Issued t (.acbAt t p rd rs1 tb) p 4 (d' = d.acbLocal t rd 1 tb ⟨(d.rg t rs1).toNat / 1000000000, (d.rg t rs1).toNat % 1000000000, 0⟩
      ∧ (d'.thr t).pc = ((d.thr t).pc + 4) % 2 ^ 40 ∧ d'.rg t rd = (if rd.val = 0 then 0 else BitVec.ofNat 64 (d'.acst t).word)
      ∧ (match d.openOf t, d.localSlot with
        | some m, _ => d'.get (ACD_SLOTn_STAT_STATE m) = 5 ∧ d'.get (ACD_SLOTn_STAT_CODE m) = 8
        | none, some n => d'.get (ACD_SLOTn_STAT_STATE n) = 1 ∧ d'.get (ACD_SLOTn_STAT_KIND n) = 1 ∧ d'.get (ACD_SLOTn_STAT_TB n) = tb
            ∧ d'.get (ACD_SLOTn_STAT_THREAD n) = t ∧ d'.get (ACD_SLOTn_ID_ID n) = d.nextId % 2 ^ 32
            ∧ d'.get ACD_SERIAL_SERIAL = (d.get ACD_SERIAL_SERIAL + 1) % 2 ^ 20
            ∧ d'.accSlot n = { AccSlot.reset with t := ⟨(d.rg t rs1).toNat / 1000000000, (d.rg t rs1).toNat % 1000000000, 0⟩ }
            ∧ (d'.acst t).state = 1 ∧ (d'.acst t).slot = n ∧ d'.spent t = false
        | none, none => (d'.acst t).state = 5 ∧ (d'.acst t).code = 2 ∧ d'.spent t = true)) d'))
  ∧ (∀ (t : Fin 32) (p : Fin 8) (rd rs1 : Fin 32), Does (.acbLine t p rd rs1) s (fun d d' =>
      d.Issued t (.acbLine t p rd rs1) p 4 (d' = d.acbLine t rd ((d.rg t rs1).toNat % 2 ^ 32)
      ∧ (d'.thr t).pc = ((d.thr t).pc + 4) % 2 ^ 40 ∧ d'.rg t rd = (if rd.val = 0 then 0 else BitVec.ofNat 64 (d'.acst t).word)
      ∧ (match d.openOf t with
        | some m => d'.get (ACD_SLOTn_STAT_STATE m) = 5 ∧ d'.get (ACD_SLOTn_STAT_CODE m) = 8
        | none => (if d.flag STN_STAT_FENCED = true then (d'.acst t).state = 5 ∧ (d'.acst t).code = 5 ∧ d'.spent t = true
            else if (d.inHistory ((d.rg t rs1).toNat % 2 ^ 32) || (d.line ((d.rg t rs1).toNat % 2 ^ 32)).isSome) = true then
              (d'.acst t).state = 5 ∧ (d'.acst t).code = 8 ∧ d'.spent t = true
            else if d.flag ACD_CTL_EN = false ∨ d.freeSlots = [] then (d'.acst t).state = 5 ∧ (d'.acst t).code = 2 ∧ d'.spent t = true
            else (let n := d.freeSlots.headD 0
              d'.get (ACD_SLOTn_STAT_STATE n) = 1 ∧ d'.get (ACD_SLOTn_STAT_KIND n) = 2 ∧ d'.get (ACD_SLOTn_STAT_THREAD n) = t
              ∧ d'.get (ACD_SLOTn_ID_ID n) = (d.rg t rs1).toNat % 2 ^ 32 ∧ d'.accSlot n = AccSlot.reset
              ∧ (d'.acst t).state = 1 ∧ (d'.acst t).slot = n ∧ d'.spent t = false)))) d'))
  ∧ (∀ (t : Fin 32) (p : Fin 8) (rs1 rs2 : Fin 32) (wide : Bool), Does (.acw t p rs1 rs2 wide) s (fun d d' =>
      d.Issued t (.acw t p rs1 rs2 wide) p 4 (if d.openOf t = none ∧ d.spent t = false then d' = d.exc t 1 none ∧ d.Excepts t 1 none d'
      else d.Stores t ((d.rg t rs1).toNat % 2 ^ 40) (if wide then 8 else 4) ((d.rg t rs2).toNat % 2 ^ (if wide then 64 else 32)) 4 d') d'))
  ∧ (∀ (t : Fin 32) (p : Fin 8) (rd rs1 : Fin 32) (pd pdn : Fin 8), Does (.acc t p rd rs1 pd pdn) s (fun d d' =>
      d.Issued t (.acc t p rd rs1 pd pdn) p 4 (match d.openOf t with
      | none => d'.pred t pdn = true ∧ (pd.val ≠ 0 → pd ≠ pdn → d'.pred t pd = false) ∧ d'.spent t = false ∧ (d.acc.swaps = [] → (d'.thr t).pc = ((d.thr t).pc + 4) % 2 ^ 40)
      | some n => d' = (let y := (d.closeAccord n (d.rg t rs1).toNat).unspend t
          (y.putPair t pd pdn (2 ≤ y.get (ACD_SLOTn_STAT_STATE n) && y.get (ACD_SLOTn_STAT_STATE n) ≤ 4)).accordResult t rd)
          ∧ (d.get (ACD_SLOTn_STAT_KIND n) = 0 → (d.accSlot n).regs = [] → d'.get (ACD_SLOTn_STAT_STATE n) = 4 ∧ d'.get (ACD_SLOTn_STAT_CODE n) = 0
            ∧ d'.get ACD_COMMITS_COUNT = (d.get ACD_COMMITS_COUNT + 1) % 2 ^ 32 ∧ (pd.val ≠ 0 → pd ≠ pdn → d'.pred t pd = true))
          ∧ (d.get (ACD_SLOTn_STAT_KIND n) = 1 →
            (if (d.accSlot n).t.units ≤ (d.tb (d.get (ACD_SLOTn_STAT_TB n))).units then d'.get (ACD_SLOTn_STAT_STATE n) = 5 ∧ d'.get (ACD_SLOTn_STAT_CODE n) = 4
                ∧ d'.pred t pdn = true
              else d'.get (ACD_SLOTn_STAT_STATE n) = 2 ∧ d'.accSlot n = { d.accSlot n with rset := [] } ∧ (pd.val ≠ 0 → pd ≠ pdn → d'.pred t pd = true)))
          ∧ (d.get (ACD_SLOTn_STAT_KIND n) = 2 → d.inHistory (d.get (ACD_SLOTn_ID_ID n)) = true →
              d'.get (ACD_SLOTn_STAT_STATE n) = 5 ∧ d'.get (ACD_SLOTn_STAT_CODE n) = 8 ∧ d'.pred t pdn = true)
          ∧ (d.get (ACD_SLOTn_STAT_KIND n) = 2 → d.inHistory (d.get (ACD_SLOTn_ID_ID n)) = false → d.line (d.get (ACD_SLOTn_ID_ID n)) = none →
              d.get (ACD_SLOTn_ID_ID n) / 2 ^ 20 ≠ d.get STN_ID_NUM → d'.get (ACD_SLOTn_STAT_STATE n) = 2 ∧ (pd.val ≠ 0 → pd ≠ pdn → d'.pred t pd = true))) d'))
  ∧ (∀ (t : Fin 32) (p : Fin 8) (rd rs1 : Fin 32) (pd pdn : Fin 8), Does (.accHeld t p rd rs1 pd pdn) s (fun d d' =>
      d.Issued t (.accHeld t p rd rs1 pd pdn) p 4 (match d.openOf t with
      | none => d'.pred t pdn = true ∧ (pd.val ≠ 0 → pd ≠ pdn → d'.pred t pd = false) ∧ d'.spent t = false ∧ (d.acc.swaps = [] → (d'.thr t).pc = ((d.thr t).pc + 4) % 2 ^ 40)
      | some n => d' = (let y := (d.holdAccord n ((d.rg t rs1).toNat % 256)).unspend t
          (y.putPair t pd pdn (y.get (ACD_SLOTn_STAT_STATE n) == 3)).accordResult t rd)
          ∧ (if d.get (ACD_SLOTn_STAT_KIND n) ≠ 0 then d'.get (ACD_SLOTn_STAT_STATE n) = 5 ∧ d'.get (ACD_SLOTn_STAT_CODE n) = 8 ∧ d'.pred t pdn = true
            else if d.tagTaken ((d.rg t rs1).toNat % 256) = false then d'.get (ACD_SLOTn_STAT_STATE n) = 5 ∧ d'.get (ACD_SLOTn_STAT_CODE n) = 9 ∧ d'.pred t pdn = true
            else d'.get (ACD_SLOTn_STAT_STATE n) = 3 ∧ d'.get (ACD_SLOTn_STAT_KIND n) = 3 ∧ d'.usb.armed = true ∧ (pd.val ≠ 0 → pd ≠ pdn → d'.pred t pd = true)
              ∧ d'.accSlot n = { d.accSlot n with rset := [], tag := some ((d.rg t rs1).toNat % 256) })) d'))
  ∧ (∀ (t : Fin 32) (p : Fin 8) (rd : Fin 32), Does (.aca t p rd) s (fun d d' =>
      d.Issued t (.aca t p rd) p 4 (d' = (let x := d.acst t
        let y := if (d.resettable t).contains x.slot && x.id == d.get (ACD_SLOTn_ID_ID x.slot) && 1 ≤ x.state && x.state ≤ 3 then
          (if x.state = 2 ∧ d.atDue x.slot = true then d.commitSlot x.slot else d.abortSlot x.slot 3) else d
        (y.unspend t).accordResult t rd) ∧ d'.spent t = false
        ∧ (if (d.resettable t).contains (d.acst t).slot = true ∧ (d.acst t).id = d.get (ACD_SLOTn_ID_ID (d.acst t).slot) ∧ 1 ≤ (d.acst t).state ∧ (d.acst t).state ≤ 3 then
            ((d.acst t).state ≠ 2 ∨ d.atDue (d.acst t).slot = false → d'.get (ACD_SLOTn_STAT_STATE (d.acst t).slot) = 5 ∧ d'.get (ACD_SLOTn_STAT_CODE (d.acst t).slot) = 3
              ∧ d'.accSlot (d.acst t).slot = AccSlot.reset)
            ∧ ((d.acst t).state = 2 → d.atDue (d.acst t).slot = true → (d.accSlot (d.acst t).slot).regs = [] →
              d'.get (ACD_SLOTn_STAT_STATE (d.acst t).slot) = 4 ∧ d'.get ACD_COMMITS_COUNT = (d.get ACD_COMMITS_COUNT + 1) % 2 ^ 32)
          else d'.acc = d.acc ∧ d'.mem = d.mem)) d'))
  ∧ (∀ (t : Fin 32) (p : Fin 8) (rd : Fin 32), Does (.acs t p rd) s (fun d d' =>
      d.Issued t (.acs t p rd) p 4 (d.Result t rd (BitVec.ofNat 64 (d.acst t).word) 4 d') d'))
  ∧ (∀ (t : Fin 32) (p : Fin 8) (rd rs1 : Fin 32), Does (.acsByid t p rd rs1) s (fun d d' =>
      d.Issued t (.acsByid t p rd rs1) p 4 (d.Result t rd (BitVec.ofNat 64 (d.acsById ((d.rg t rs1).toNat % 2 ^ 32))) 4 d') d'))

/-- For every state and port: a frame on a port that is off or down is ignored, a bad one is counted by its kind, a good one is
counted; a pause ends; nothing is sent while the port pauses; a link comes up only on an enabled port with a mode, and goes down
with its negotiation results; a mode written takes the link down; a write of WR takes the new host frames of an enabled ring; a
frame done reports its record; a time stamp is popped. (R375, R376, R377, R378, R385, R386, R388, R390) -/
def Obligations.EthernetPortCommandsComplete : Prop :=
  ∀ s : State,
  (∀ (n : Fin 10) (frame : List Byte), Does (.ethFrameRx n frame) s (fun d d' =>
      if d.reached 9 = false then d' = d
      else if d.flag (ETH_CTL_EN n) = false ∨ d.flag (ETH_STAT_LINK n) = false then d' = d
      else if frame.drop (frame.length - 4) ≠ frameFcs (frame.take (frame.length - 4)) then
        d'.get (ETH_RX_FCS_COUNT n) = (d.get (ETH_RX_FCS_COUNT n) + 1) % 2 ^ 32 ∧ d.only [(ETH_RX_FCS_COUNT n).key] d'
      else if frame.length < 64 then d'.get (ETH_RX_RUNT_COUNT n) = (d.get (ETH_RX_RUNT_COUNT n) + 1) % 2 ^ 32 ∧ d.only [(ETH_RX_RUNT_COUNT n).key] d'
      else if min 9216 (d.get (ETH_CTL_MAXFRM n)) < frame.length then
        d'.get (ETH_RX_LONG_COUNT n) = (d.get (ETH_RX_LONG_COUNT n) + 1) % 2 ^ 32 ∧ d.only [(ETH_RX_LONG_COUNT n).key] d'
      else d'.get (ETH_RX_FRAMES_COUNT n) = (d.get (ETH_RX_FRAMES_COUNT n) + 1) % 2 ^ 32
        ∧ (if fieldBE (frameText frame) 12 2 = 0x8808 then d'.get (ETH_RX_PAUSE_COUNT n) = (d.get (ETH_RX_PAUSE_COUNT n) + 1) % 2 ^ 32
            ∧ d'.get (ETH_STAT_PAUSED n) = (if fieldBE (frameText frame) 14 2 = 1 ∧ d.flag (ETH_CTL_PAUSE_RX n) = true then b2n (fieldBE (frameText frame) 16 2 != 0)
                else d.get (ETH_STAT_PAUSED n))
            ∧ d.only [(ETH_RX_FRAMES_COUNT n).key, (ETH_RX_PAUSE_COUNT n).key, (ETH_STAT_PAUSED n).key] d'
          else if d.hostMatch n (frameText frame) then d' = (d.inc (ETH_RX_FRAMES_COUNT n)).toHost n (frameText frame)
            ∧ d'.get (ETH_RX_HOST_COUNT n) = (d.get (ETH_RX_HOST_COUNT n) + 1) % 2 ^ 32
            ∧ (let q := d.get (ETH_HOST_CTL_PQ n)
              let size := 2 ^ d.get (SYN_PQq_CFG_LOG2 q)
              let k := (16 + (frameText frame).length + 255) / 256
              if d.pqOn q = true ∧ k ≤ (d.get (SYN_PQq_RD_IDX q) + size - d.get (SYN_PQq_WR_IDX q) % size - 1) % size then
                d'.get (SYN_PQq_WR_IDX q) = (d.get (SYN_PQq_WR_IDX q) + k) % size % 2 ^ (SYN_PQq_WR_IDX q).w
              else d.only [(ETH_RX_FRAMES_COUNT n).key, (ETH_RX_HOST_COUNT n).key] d')
          else d' = (d.inc (ETH_RX_FRAMES_COUNT n)).bridge n (frameText frame)
            ∧ (let v := if isTagged (frameText frame) then fieldBE (frameText frame) 14 2 % 4096 else 0
              if d.flag STN_STAT_FENCED = true then d'.get TNL_FENCEDROP_COUNT = (d.get TNL_FENCEDROP_COUNT + 1) % 2 ^ 32
                ∧ d.only [(ETH_RX_FRAMES_COUNT n).key, TNL_FENCEDROP_COUNT.key] d'
              else match d.ingressMap n (if v = 0 then d.get (ETH_VLAN_PVID n) else v) with
                | none => d'.get (ETH_RX_NOMAP_COUNT n) = (d.get (ETH_RX_NOMAP_COUNT n) + 1) % 2 ^ 32
                    ∧ d.only [(ETH_RX_FRAMES_COUNT n).key, (ETH_RX_NOMAP_COUNT n).key] d'
                | some k => (if d.ctxRun (d.get (ETH_MAPk_CTX n k)) = false ∨ d.get (CTX_W0_CLASS (d.get (ETH_MAPk_CTX n k))) ≠ 2
                      ∨ d.get (CTX_W1_LPORT (d.get (ETH_MAPk_CTX n k))) ≠ 16 + n then
                    d'.get (ETH_RX_NOCTX_COUNT n) = (d.get (ETH_RX_NOCTX_COUNT n) + 1) % 2 ^ 32
                    ∧ d.only [(ETH_RX_FRAMES_COUNT n).key, (ETH_RX_NOCTX_COUNT n).key] d'
                  else d.flag TNL_CTL_EN = false →
                    d'.waits.map (fun x => (x.ctx, x.ing, x.payload)) = d.waits.map (fun x => (x.ctx, x.ing, x.payload))
                      ++ [(d.get (ETH_MAPk_CTX n k), 10 + n.val, if d.get (ETH_MAPk_TAG n k) = 0 then frameText frame else untag (frameText frame))])))))
  ∧ (∀ (n : Fin 10), Does (.pauseExpire n) s (fun d d' =>
      if d.domOn 9 = false then d' = d
      else d'.get (ETH_STAT_PAUSED n) = 0 ∧ d.only [(ETH_STAT_PAUSED n).key] d'))
  ∧ (∀ (n : Fin 10) (ecc : Ecc), Does (.ethFrameTx n ecc) s (fun d d' =>
      if d.domOn 9 = false then d' = d
      else if d.flag (ETH_STAT_PAUSED n) = true ∧ d.flag (ETH_STAT_LINK n) = true then d' = d
      else match (d.prepare (10 + n)).pickLocal (10 + n) with
      | none => d' = d.prepare (10 + n)
      | some q => match (d.prepare (10 + n)).headOf q with
        | none => d' = d.prepare (10 + n)
        | some (i, k) => d' = (let x := (((d.prepare (10 + n)).noteStart (10 + n) q k).countSent false).readOut k ecc
            let z := (x.2.releasePkt i).modEth (fun e => { e with host := e.host.set i none none })
            match (d.prepare (10 + n)).eth.host.get i none, k.term with
            | some h, _ => z.hostOut n h (x.1.cells.flatMap (·.data))
            | none, none => z
            | none, some c => if (z.terminate c x.1).1
                then (z.terminate c x.1).2.tunnelOut n c (if k.hdr.akv then 0 else k.hdr.aux) ((x.1.data.drop 16).take k.hdr.len) else (z.terminate c x.1).2)
          ∧ d'.pkt i = none ∧ d'.eth.host.get i none = none
          ∧ (match (d.prepare (10 + n)).eth.host.get i none with
            | some h => d'.eth.due = d.eth.due ++ [(n.val, h.tag, if d.flag (ETH_STAT_LINK n) then 0 else 3)]
              ∧ (if d.flag (ETH_STAT_LINK n) = false then d'.get (ETH_TX_LINKDOWN_COUNT n) = (d.get (ETH_TX_LINKDOWN_COUNT n) + 1) % 2 ^ 32
                else d'.get (ETH_TX_FRAMES_COUNT n) = (d.get (ETH_TX_FRAMES_COUNT n) + 1) % 2 ^ 32
                  ∧ (h.onestep = false → (let l := k.cells.flatMap (·.data)
                    let m := l ++ List.replicate (60 - l.length) 0
                    d'.eth.out.get n [] = m ++ frameFcs m)))
            | none => d'.eth.due = d.eth.due)))
  ∧ (∀ (n : Fin 10) (an pause : Bool), Does (.ethLinkUp n an pause) s (fun d d' =>
      if d.reached 9 = false then d' = d
      else if d.flag (ETH_CTL_EN n) = false ∨ d.get (ETH_CTL_MODE n) = 0 ∨ 4 < d.get (ETH_CTL_MODE n) ∨ d.flag (ETH_STAT_LINK n) = true then d' = d
      else d'.get (ETH_STAT_LINK n) = 1 ∧ d'.get (ETH_EVT_LINK_UP n) = 1
        ∧ d'.get (ETH_STAT_AN_DONE n) = b2n (an && d.get (ETH_CTL_MODE n) == 1 && d.flag (ETH_CTL_AN_EN n))
        ∧ d'.get (ETH_STAT_LP_PAUSE n) = b2n (pause && an && d.get (ETH_CTL_MODE n) == 1 && d.flag (ETH_CTL_AN_EN n))))
  ∧ (∀ (n : Fin 10) (cut : Bool), Does (.ethLinkDown n cut) s (fun d d' =>
      if d.domOn 9 = false then d' = d
      else if d.flag (ETH_STAT_LINK n) = false then d' = d
      else d'.get (ETH_STAT_LINK n) = 0 ∧ d'.get (ETH_STAT_AN_DONE n) = 0 ∧ d'.get (ETH_STAT_LP_PAUSE n) = 0 ∧ d'.get (ETH_STAT_PAUSED n) = 0
        ∧ d'.get (ETH_EVT_LINK_DOWN n) = 1))
  ∧ (∀ (n : Fin 10) (mode : Fin 8) (cut : Bool), Does (.ethModeWrite n mode cut) s (fun d d' =>
      if d.domOn 9 = false then d' = d
      else d'.get (ETH_CTL_MODE n) = mode ∧ d'.get (ETH_STAT_LINK n) = 0
      ∧ (∀ m : Fin 10, m ≠ n → d'.get (ETH_CTL_MODE m) = d.get (ETH_CTL_MODE m) ∧ d'.get (ETH_STAT_LINK m) = d.get (ETH_STAT_LINK m))))
  ∧ (∀ (n : Fin 10) (v : BitVec 10), Does (.ethHtxWrWrite n v) s (fun d d' =>
      if d.domOn 9 = false then d' = d
      else if d.flag (ETH_HTX_CFG_EN n) = false ∨ d.get (ETH_HTX_CFG_LOG2 n) < 4 ∨ 10 < d.get (ETH_HTX_CFG_LOG2 n)
        then d'.get (ETH_HTX_WR_IDX n) = v.toNat ∧ d.only [(ETH_HTX_WR_IDX n).key] d'
      else (let z := 2 ^ d.get (ETH_HTX_CFG_LOG2 n)
        let rd := d.get (ETH_HTX_RD_IDX n)
        let k := (v.toNat + z - rd % z) % z
        d' = forAll (List.range k) (fun _ y => y.htxTake n) (d.set (ETH_HTX_WR_IDX n) v.toNat)
        ∧ d'.get (ETH_HTX_WR_IDX n) = v.toNat ∧ (k ≠ 0 → d'.get (ETH_HTX_RD_IDX n) = v.toNat % z)
        ∧ (k = 1 → (let w := leNat (d.engRead (baseAddr (d.get (ETH_HTX_BASE_BASE n)) (d.flag (ETH_HTX_BASE_MEM n)) + 16 * rd) 16).1
          let a := bitsOf w 0 40
          let len := bitsOf w 64 16
          if len < 60 ∨ min 9216 (d.get (ETH_CTL_MAXFRM n)) - 4 < len then d'.eth.due = d.eth.due ++ [(n.val, bitsOf w 88 8, 1)] ∧ d'.sw = d.sw
          else if (d.region a ≠ .sram ∧ d.region a ≠ .dram) ∨ d.region (a + len - 1) ≠ d.region a then
            d'.eth.due = d.eth.due ++ [(n.val, bitsOf w 88 8, 2)] ∧ d'.sw = d.sw
          else (let q := 768 + 32 * n.val + bitsOf w 80 5
            d.takesPacket 20 q ((len + 255) / 256) → d'.queue q = d.queue q ++ [d.sw.nextPkt]
              ∧ d'.eth.host.get d.sw.nextPkt none = some ⟨n, bitsOf w 88 8, w.testBit 85, w.testBit 86⟩ ∧ d'.eth.due = d.eth.due
              ∧ (d'.pkt d.sw.nextPkt).map (fun x => x.cells.flatMap (·.data)) = some (d.bytes a len)))))))
  ∧ (∀ (n : Fin 10), Does (.htxDone n) s (fun d d' =>
      if d.domOn 9 = false then d' = d
      else match d.eth.due.find? (fun x => x.1 == n.val) with
      | none => d' = d
      | some x => d'.eth = { d.eth with due := d.eth.due.erase x } ∧ (x.2.2 ≠ 0 → d'.get (ETH_EVT_HTX_ERR n) = 1)
        ∧ (x.2.2 = 0 → d' = (d.modEth (fun e => { e with due := e.due.erase x })).postQ (d.get (ETH_HTX_CFG_EVQ n))
            ⟨0x0001, 0x15, d.stamp, n + x.2.1 * 2 ^ 8 + x.2.2 * 2 ^ 16⟩
          ∧ Dev.PostsTo { d with eth := d'.eth } (d.get (ETH_HTX_CFG_EVQ n)) ⟨0x0001, 0x15, d.stamp, n + x.2.1 * 2 ^ 8 + x.2.2 * 2 ^ 16⟩ d')))
  ∧ (∀ (n : Fin 10), Does (.ethTsfPop n) s (fun d d' =>
      if d.domOn 9 = false then d' = d
      else d'.eth.tsf.get n [] = (d.eth.tsf.get n []).drop 1 ∧ d'.mem = d.mem))

/-- For every state, drive and binding: EN starts an idle drive that is not shut; a trained link makes the drive READY with its
speed and width, a timeout FAILED, a loss IDLE with a retry; EN written 0 ends the drive; a request at the front of a binding's
queue is taken only by its own operation; a completion or a timeout ends the request of its id; a binding is written unless it
is pending, and released once its requests have ended. (R393, R395, R396, R397, R398, R399, R402, R403, R404) -/
def Obligations.StorageCommandsComplete : Prop :=
  ∀ s : State,
  (∀ (n : Fin 2), Does (.driveEnable n) s (fun d d' =>
      if d.domOn 11 = false then d' = d
      else d'.get (STO_Sn_CTL_EN n) = 1
      ∧ (if d.flag STO_CTL_EN = true ∧ d.stoState n = 0 ∧ (d.drive n).shut = false then d'.stoState n = 1 ∧ (d'.drive n).retry = false ∧ d'.mem = d.mem
        else d' = d.set (STO_Sn_CTL_EN n) 1)))
  ∧ (∀ (n : Fin 2) (gen : Fin 4) (x2 : Bool), Does (.driveReady n gen x2) s (fun d d' =>
      if d.reached 11 = false then d' = d
      else if d.stoState n = 1 ∧ (d.drive n).perst = true then d'.stoState n = 2 ∧ d'.get (STO_Sn_EVT_READY n) = 1
        ∧ d'.get (STO_Sn_STAT_GEN n) = min gen.val (d.get (STO_Sn_CTL_MAXGEN n)) % 2 ^ (STO_Sn_STAT_GEN n).w ∧ d'.get (STO_Sn_STAT_WIDTH n) = if x2 then 2 else 1
      else d' = d))
  ∧ (∀ (n : Fin 2), Does (.driveLinkTimeout n) s (fun d d' =>
      if d.domOn 11 = false then d' = d
      else if d.stoState n = 1 then d'.stoState n = 3 ∧ d'.get (STO_Sn_EVT_FAILED n) = 1 ∧ (d'.drive n).perst = false else d' = d))
  ∧ (∀ (n : Fin 2), Does (.driveLost n) s (fun d d' =>
      if d.domOn 11 = false then d' = d
      else if d.stoState n = 2 then d'.get (STO_Sn_EVT_LOST n) = 1
        ∧ d' = ((((((d.set (STO_Sn_STAT_STATE n) 0).set (STO_Sn_STAT_GEN n) 0).set (STO_Sn_STAT_WIDTH n) 0).modDrive n
          (fun x => { x with perst := false, retry := true })).driveLost n).raise (STO_Sn_EVT_LOST n))
        ∧ d'.stoState n = 0 ∧ d'.get (STO_Sn_STAT_GEN n) = 0 ∧ d'.get (STO_Sn_STAT_WIDTH n) = 0
        ∧ d'.drive n = { d.drive n with perst := false, retry := true, aborts := 0 }
        ∧ (∀ k, k < 64 → (d'.win (64 * n + k)).reqs = [])
      else d' = d))
  ∧ (∀ (n : Fin 2), Does (.driveRetry n) s (fun d d' =>
      if d.domOn 11 = false then d' = d
      else if (d.drive n).retry = true ∧ d.flag (STO_Sn_CTL_EN n) = true then d' = driveEnable n d else d' = d))
  ∧ (∀ (n : Fin 2), Does (.driveDisable n) s (fun d d' =>
      if d.domOn 11 = false then d' = d
      else if (d.stoState n = 1 ∨ d.stoState n = 2) then (d'.drive n).shut = true
      else d'.get (STO_Sn_CTL_EN n) = 0 ∧ d'.stoState n = 0 ∧ (d'.drive n).retry = false))
  ∧ (∀ (lq : Fin 32), Does (.storRead lq) s (fun d d' =>
      if d.domOn 11 = false then d' = d
      else d.StoRequests 1 lq [] d'))
  ∧ (∀ (lq : Fin 32), Does (.storWrite lq) s (fun d d' =>
      if d.domOn 11 = false then d' = d
      else d.StoRequests 2 lq [] d'))
  ∧ (∀ (lq : Fin 32), Does (.storFlush lq) s (fun d d' =>
      if d.domOn 11 = false then d' = d
      else d.StoRequests 3 lq [] d'))
  ∧ (∀ (lq : Fin 32), Does (.storTrim lq) s (fun d d' =>
      if d.domOn 11 = false then d' = d
      else d.StoRequests 4 lq [] d'))
  ∧ (∀ (lq : Fin 32) (blocks : DWord) (serial : List Byte), Does (.storIdentify lq blocks serial) s (fun d d' =>
      if d.domOn 11 = false then d' = d
      else d.StoRequests 5 lq (natBE 8 blocks.toNat ++ (serial ++ List.replicate 20 0).take 20) d'))
  ∧ (∀ (n : Fin 2) (k : Fin 64) (id : Word) (status : Fin 4) (nvstat : BitVec 16) (data : List Byte), Does (.nvmeCompletion n k id status nvstat data) s (fun d d' =>
      if d.domOn 11 = false then d' = d
      else match (d.win (64 * n + k)).find id.toNat with
      | none => d' = d
      | some r => d' = (d.complete (64 * n + k) r (if status.val = 0 then 0 else if status.val = 1 then 3 else if status.val = 2 then 4 else 5)
          (if status.val = 3 then nvstat.toNat else 0)
          ((data ++ List.replicate (if status.val = 0 ∧ r.op = 1 then 4096 * r.count else 0) 0).take
            (if status.val = 0 ∧ r.op = 1 then 4096 * r.count else 0))).submit (64 * n + k)
        ∧ (d'.win (64 * n + k)).reqs.all (fun q => q.id != r.id) = true ∧ (d'.win (64 * n + k)).high = (d.win (64 * n + k)).high
        ∧ d'.get (STO_Sn_ERRORS_COUNT n) = (if status.val = 3 then (d.get (STO_Sn_ERRORS_COUNT n) + 1) % 2 ^ 32 else d.get (STO_Sn_ERRORS_COUNT n))
        ∧ ((d.win (64 * n + k)).reqs.all (fun q => q.op != 5) = true → (d.win (64 * n + k)).within r.id = true → status.val ≠ 0 →
            (d'.win (64 * n + k)).cache = (d.win (64 * n + k)).cache.filter (fun x => x.1 % 256 != r.id % 256)
              ++ [(r.id, completion r.op (status.val + 2) (if status.val = 3 then nvstat.toNat else 0) r.id r.count [])])))
  ∧ (∀ (n : Fin 2) (k : Fin 64) (id : Word), Does (.stoCmdTimeout n k id) s (fun d d' =>
      if d.domOn 11 = false then d' = d
      else match (d.win (64 * n + k)).find id.toNat with
      | none => d' = d
      | some r => d' = ((((d.inc (STO_Sn_TIMEOUTS_COUNT n)).raise (STO_Sn_EVT_TIMEOUT n)).modDrive n
          (fun x => { x with aborts := x.aborts + 1 })).complete (64 * n + k) r 6 0 []).submit (64 * n + k)
        ∧ d'.get (STO_Sn_TIMEOUTS_COUNT n) = (d.get (STO_Sn_TIMEOUTS_COUNT n) + 1) % 2 ^ 32 ∧ d'.get (STO_Sn_EVT_TIMEOUT n) = 1
        ∧ d'.drive n = { d.drive n with aborts := (d.drive n).aborts + 1 } ∧ (d'.win (64 * n + k)).reqs.all (fun q => q.id != r.id) = true))
  ∧ (∀ (n : Fin 2), Does (.nvmeAbortTimeout n) s (fun d d' =>
      if d.domOn 11 = false then d' = d
      else if 0 < (d.drive n).aborts then d' = driveLost n d else d' = d))
  ∧ (∀ (n : Fin 2) (k : Fin 64) (v : Word), Does (.stoBindingWrite n k v) s (fun d d' =>
      if d.domOn 11 = false then d' = d
      else if d.flag (STO_Sn_QPk_PENDING n k) then d' = d
      else d'.get (STO_Sn_QPk_CTX n k) = v.toNat % 2 ^ (STO_Sn_QPk_CTX n k).w
        ∧ d'.get (STO_Sn_QPk_VALID n k) = b2n (v.getLsbD 31 && 4 * (64 * n.val + k.val + 1) ≤ d.get STO_DW_SIZE_MIB)
        ∧ (d'.get (STO_Sn_QPk_VALID n k) = 0 → (d.win (64 * n + k)).reqs ≠ [] → d'.get (STO_Sn_QPk_PENDING n k) = 1) ∧ d'.mem = d.mem))
  ∧ (∀ (n : Fin 2) (k : Fin 64), Does (.bindingRelease n k) s (fun d d' =>
      if d.domOn 11 = false then d' = d
      else if d.flag (STO_Sn_QPk_PENDING n k) = true ∧ (d.win (64 * n + k)).reqs = [] then
        d'.get (STO_Sn_QPk_PENDING n k) = 0 ∧ d'.get (STO_Sn_QPk_CTX n k) = 0 ∧ d'.win (64 * n + k) = StoWin.reset
        ∧ Dev.only { d with sto := d'.sto } [(STO_Sn_QPk_PENDING n k).key, (STO_Sn_QPk_CTX n k).key] d'
      else d' = d))

/-- For every state and port: an unattached Source port that sees Rd goes to AttachWait with its flip; a debounce records the cable
and attaches, tries or waits; a detach from AttachWait or an attached state acts, any other changes nothing; discharged VBUS
ends the allocation; a Source's capabilities set the revision and a request of what the Sink takes; a Request is rejected or
accepted with the contract pending; Accept, Reject, Wait and PS_RDY act only while they are awaited. (R408, R409, R412, R413,
R416, R417, R419, R420, R424, R432) -/
def Obligations.TypecAttachAndContractsComplete : Prop :=
  ∀ s : State,
  (∀ (n : Fin 8) (cc2 : Bool), Does (.ccRdDetect n cc2) s (fun d d' =>
      if (d.pdcOn n && d.conn n == 0 && (d.get (PDC_Pn_CFG_ROLE n) == 0 || (d.get (PDC_Pn_CFG_ROLE n) == 2 && (d.pc n).rp))
          && !((d.pc n).shed && d.available n < d.minW n)) = true then
        d'.get (PDC_Pn_STAT_FLIP n) = b2n cc2 ∧ (d'.pc n).cfg = d.readReg (PDC_Pn_CFG_A n)
        ∧ (d.powerIdle → d'.conn n = 1 ∧ (d'.pc n).debounced = false ∧ (d'.pc n).shed = false ∧ (d'.pc n).dwell = 0)
        ∧ Dev.AsksPower ((((d.latchCfg n).set (PDC_Pn_STAT_CONN n) 1).setB (PDC_Pn_STAT_FLIP n) cc2).modPc n
            (fun x => { x with debounced := false, shed := false, dwell := 0 })) n (d.maxW n) d'
      else d' = d))
  ∧ (∀ (n : Fin 8) (cur : Fin 3) (epr : Bool) (spd : Fin 8) (debug : Bool), Does (.ccDebounceDone n cur epr spd debug) s (fun d d' =>
      if d.conn n ≠ 1 ∨ (d.pc n).debounced = true ∨ (d.pc n).dwell ≠ 0 then d' = d
      else if (d.flag PDC_CTL_EN && d.flag (PDC_Pn_CFG_EN n)) = false then d' = (d.set (PDC_Pn_STAT_CONN n) 0).budget ∧ (d.powerIdle → d'.conn n = 0)
      else d'.get (PDC_Pn_STAT_CABLE_I n) = cur ∧ d'.get (PDC_Pn_STAT_CABLE_EPR n) = b2n epr ∧ d'.get (PDC_Pn_STAT_CABLE_SPD n) = spd
        ∧ (d'.pc n).marked = (cur != 0) ∧ d'.get PDC_ALLOC_SUM_W ≤ max (d.get PDC_ALLOC_SUM_W) (2 ^ 16)
        ∧ (if d.latched n (PDC_Pn_CFG_TRY n) = 2 ∧ d.latched n (PDC_Pn_CFG_ROLE n) = 2 ∧ (d.pc n).tried = false then
            d'.pc n = { d.pc n with marked := cur != 0, dwell := 2, tried := true, rp := false } ∧ d'.mem = d.mem
          else if 150 ≤ d.available n ∧ 2 ≤ d.latched n (PDC_Pn_CFG_RP n) then Dev.AttachesSource n 2 debug d'
          else if 75 ≤ d.available n ∧ 1 ≤ d.latched n (PDC_Pn_CFG_RP n) then Dev.AttachesSource n 1 debug d'
          else if 25 ≤ d.available n then Dev.AttachesSource n 0 debug d'
          else d'.pc n = { d.pc n with marked := cur != 0, debounced := true, debug := debug } ∧ d'.conn n = 1 ∧ d'.mem = d.mem)))
  ∧ (∀ (n : Fin 8), Does (.attachwaitTimeout n) s (fun d d' =>
      if d.conn n = 1 ∧ (d.pc n).debounced = true then d' = d.shedPort n 0 ∧ d'.conn n = 0 ∧ (d'.pc n).shed = true ∧ (d'.pc n).rp = false
          ∧ (d'.pc n).debounced = false ∧ d'.get (PDC_Pn_ALLOC_W n) = 0 ∧ d'.get PDC_SHEDS_COUNT = (d.get PDC_SHEDS_COUNT + 1) % 2 ^ 32
          ∧ d'.get (PDC_Pn_EVT_SHED n) = 1
        else d' = d))
  ∧ (∀ (n : Fin 8), Does (.detachConfirmed n) s (fun d d' =>
      if d.conn n = 1 then d' = ((((d.set (PDC_Pn_STAT_CONN n) 0).dropContract n).forgetPartner n).modPc n
          (fun x => { x with debounced := false, tried := false, dwell := 0 })).budget
          ∧ (d.powerIdle → d'.conn n = 0 ∧ (d'.pc n).tried = false ∧ d'.get (PDC_Pn_STAT_CABLE_I n) = 0)
      else if d.attached n = false then d' = d
      else d'.get (PDC_Pn_STAT_VCONN n) = 0 ∧ d'.get (PDC_Pn_STAT_REV n) = 0 ∧ d'.get (PDC_Pn_STAT_DFP n) = 0 ∧ (d'.pc n).closed = false
        ∧ d'.get (PDC_Pn_STAT_CABLE_I n) = 0 ∧ d'.get (PDC_Pn_STAT_EXPLICIT n) = 0 ∧ d'.get (PDC_Pn_STAT_ALT n) = 0
        ∧ d'.get (PDC_Pn_EVT_DETACH n) = 1 ∧ (d'.pc n).own = none
        ∧ (d.isSource n = false → d'.conn n = 0 ∧ d'.get (PDC_Pn_STAT_RPCUR n) = 0)
        ∧ (d.powerIdle → (d'.pc n).discharge = d.isSource n ∧ (d.isSource n = true → d'.conn n = d.conn n ∧ (d'.pc n).asked = 5000))
        ∧ (match (if d.isSource n = true ∨ (d.pc n).wait = .ready then (d.pc n).pend else none) with
          | some _ => d'.get (PDC_Pn_DIT_COUNT n) = (d.get (PDC_Pn_DIT_COUNT n) + 1) % 2 ^ 32 ∧ d'.get (PDC_Pn_EVT_DETACH_IN_TRANSITION n) = 1
          | none => d'.get (PDC_Pn_DIT_COUNT n) = d.get (PDC_Pn_DIT_COUNT n)
            ∧ d'.get (PDC_Pn_EVT_DETACH_IN_TRANSITION n) = d.get (PDC_Pn_EVT_DETACH_IN_TRANSITION n))))
  ∧ (∀ (n : Fin 8), Does (.vbusDischarged n) s (fun d d' =>
      if (d.pc n).discharge = false then d' = d
      else d'.conn n = 0 ∧ (d'.pc n).discharge = false ∧ d'.get (PDC_Pn_ALLOC_W n) = 0 ∧ d'.get (PDC_Pn_STAT_RPCUR n) = 0
        ∧ d'.get (PDC_Pn_STAT_DFP n) = 0
        ∧ (d.powerIdle → d'.sumAlloc = d.others n ∧ d'.get PDC_ALLOC_SUM_W = d.others n % 2 ^ 16)
        ∧ d' = ((((((d.modPc n (fun x => { x with discharge := false })).setAlloc n 0).set (PDC_Pn_STAT_CONN n) 0).set (PDC_Pn_STAT_RPCUR n) 0).set
        (PDC_Pn_STAT_DFP n) 0).budget)))
  ∧ (∀ (n id : Fin 8) (rev3 : Bool) (objs : List (BitVec 16 × BitVec 16)), Does (.sourceCapsRx n id rev3 objs) s (fun d d' =>
      d.Heard n false id (fun d d' => if d.conn n ≠ 3 then d' = d
      else d'.get (PDC_Pn_STAT_REV n) = (if rev3 then 2 else 1) ∧ (d'.pc n).wait = .answer ∧ (d'.pc n).pend.isSome = true
        ∧ d'.get (PDC_Pn_MSG_TX_COUNT n) = (d.get (PDC_Pn_MSG_TX_COUNT n) + 1) % 2 ^ (PDC_Pn_MSG_TX_COUNT n).w
        ∧ d' = { d with flds := d'.flds, pdc := d'.pdc }) d'))
  ∧ (∀ (n id : Fin 8) (rev3 : Bool) (pos : Fin 16) (volt : BitVec 12) (cur : BitVec 10), Does (.requestRx n id rev3 pos volt cur) s (fun d d' =>
      d.Heard n false id (fun d d' => if d.isSource n = false then d' = d
      else let y := (d.set (PDC_Pn_STAT_REV n) (if rev3 then 2 else 1)).modPc n (fun x => { x with wait := .none });
        match y.contractOf n pos volt.toNat cur.toNat with
        | none => (d'.pc n).sent = some .reject ∧ d'.get (PDC_Pn_STAT_REV n) = (if rev3 then 2 else 1) ∧ (d'.pc n).pend = (d.pc n).pend
        | some c => if c.alloc ≤ min (d.pc n).offer (min (min 2400 (d.get (PDC_Pn_LIMIT_MAX_W n))) (d.available n)) then
            (d'.pc n).sent = some .accept ∧ (d'.pc n).pend = some c ∧ (d'.pc n).phase = 1 ∧ (d'.pc n).wait = .none
            ∧ d'.get (PDC_Pn_ALLOC_W n) = max (d.get (PDC_Pn_ALLOC_W n)) c.alloc % 2 ^ 16
          else Dev.AsksPower (y.pdSend n .reject) n c.alloc d' ∧ (d.powerIdle → (d'.pc n).sent = some .reject ∧ (d'.pc n).pend = (d.pc n).pend)) d'))
  ∧ (∀ (n id : Fin 8), Does (.acceptRx n id) s (fun d d' =>
      d.Heard n false id (fun d d' => match (d.pc n).wait, (d.pc n).swap, (d.pc n).own with
      | .answer, _, _ => (d'.pc n).wait = .ready ∧ d' = { d with pdc := d'.pdc }
      | _, .sent, some k => d.SwapGoes n k true d'
      | _, _, _ => d' = d) d'))
  ∧ (∀ (n id : Fin 8) (ns : Bool), Does (.rejectRx n id ns) s (fun d d' =>
      d.Heard n false id (fun d d' => if (d.pc n).wait = .answer then (d'.pc n).pend = none ∧ (d'.pc n).wait = .none ∧ d' = { d with pdc := d'.pdc }
      else if (d.pc n).swap = .sent then d.OwnEnds n (if ns then 4 else 1) d'
      else d' = d) d'))
  ∧ (∀ (n id : Fin 8), Does (.waitRx n id) s (fun d d' =>
      d.Heard n false id (fun d d' => if (d.pc n).wait = .answer then (d'.pc n).pend = none ∧ (d'.pc n).wait = .none ∧ d' = { d with pdc := d'.pdc }
      else if (d.pc n).swap ≠ .sent then d' = d
      else if (d.pc n).retried then d.OwnEnds n 2 d'
      else (d'.pc n).retried = true ∧ (d'.pc n).swap = .again ∧ (d'.pc n).own = (d.pc n).own ∧ d' = { d with pdc := d'.pdc }) d'))
  ∧ (∀ (n id : Fin 8), Does (.psRdyRx n id) s (fun d d' =>
      d.Heard n false id (fun d d' => let mine := ((d.pc n).swapping.map (·.2)).getD false;
        match (d.pc n).wait, (d.pc n).pend, (d.pc n).swap with
        | .ready, some c, _ => d.ContractTakes n c d'
        | _, _, .ready =>
          if (d.pc n).swapping = some (4, mine) then (d.set (PDC_Pn_STAT_VCONN n) 0).SwapEnds n mine d' ∧ d'.get (PDC_Pn_STAT_VCONN n) = 0
          else if d.isSource n = true then d'.conn n = 3 ∧ d'.get (PDC_Pn_STAT_EXPLICIT n) = 0 ∧ d'.get (PDC_Pn_STAT_ALT n) = 0
            ∧ d'.get (PDC_Pn_ALLOC_W n) = 0 ∧ d'.get (PDC_Pn_CONTRACT_SINK n) = 1 ∧ d'.get (PDC_Pn_CONTRACT_VOLT n) = 250
            ∧ d'.get (PDC_Pn_EVT_SWAP_DONE n) = 1 ∧ (d'.pc n).swapping = none
            ∧ (mine = true → (d.pc n).own.isSome = true → (d.pc n).byCmd = true → d'.get (PDC_Pn_CMDRES_RESULT n) = 0 ∧ d'.get (PDC_Pn_CMDRES_DONE n) = 1)
          else if ((d.pc n).shed && d.available n < max 25 (d.get (PDC_Pn_LIMIT_MIN_W n))) = true then
            d'.conn n = 5 ∧ (d'.pc n).discharge = true ∧ (d'.pc n).closed = false ∧ d'.get (PDC_Pn_STAT_EXPLICIT n) = 0
          else d'.conn n = 2 ∧ (d'.pc n).swap = .newSource ∧ (d'.pc n).swapping = some (2, mine) ∧ d'.get (PDC_Pn_STAT_EXPLICIT n) = 0
            ∧ (d'.pc n).phase = 2 ∧ (d'.pc n).asked = 5000 ∧ (d'.pc n).shed = false ∧ d'.get (PDC_Pn_ALLOC_W n) = rpPower (d'.get (PDC_Pn_STAT_RPCUR n))
            ∧ d'.get (PDC_Pn_STAT_RPCUR n) = (d.fundable n).getD 0
        | _, _, _ => d' = d) d'))

/-- For every state and port: a swap request is taken by its own rule; EPR_Mode is entered only where the port may and else answered
EPR failed; a Hard Reset acts on an attached port; an unsupported message is answered Not_Supported, Reject or NAK; discovery,
mode entry, mode exit, T_CONFIG and T_STATUS are answered ACK in the modes that have them and else NAK; Attention acts in
DisplayPort mode; a response moves the discovery on, and a timeout repeats or ends it. (R421, R422, R423, R425, R426, R427,
R430) -/
def Obligations.TypecMessagesComplete : Prop :=
  ∀ s : State,
  (∀ (n id : Fin 8), Does (.prSwapRx n id) s (fun d d' =>
      d.Heard n false id (fun d d' => d.SwapIn n 2 (d.latched n (PDC_Pn_CFG_ROLE n) == 2 && (d.isSource n || !d.barred n)) d') d'))
  ∧ (∀ (n id : Fin 8), Does (.drSwapRx n id) s (fun d d' =>
      d.Heard n false id (fun d d' => d.SwapIn n 3 (!(d.latched n (PDC_Pn_CFG_DR_PREF n) == 1 && d.flag (PDC_Pn_STAT_DFP n))) d') d'))
  ∧ (∀ (n id : Fin 8), Does (.vconnSwapRx n id) s (fun d d' =>
      d.Heard n false id (fun d d' => d.SwapIn n 4 true d') d'))
  ∧ (∀ (n id : Fin 8), Does (.eprModeRx n id) s (fun d d' =>
      d.Heard n false id (fun d d' => if d.isSource n = false then d' = d
      else if d.latched n (PDC_Pn_CFG_EPR_EN n) = 1 ∧ 1000 < d.maxW n ∧ d.flag (PDC_Pn_STAT_CABLE_EPR n) = true
          ∧ d.get (PDC_Pn_STAT_CABLE_I n) = 2 ∧ d.flag (PDC_Pn_STAT_EXPLICIT n) = true ∧ d.get (PDC_Pn_CONTRACT_POS n) ≤ 7
          ∧ d.get (PDC_Pn_STAT_REV n) ≠ 1 then d'.get (PDC_Pn_STAT_EPR n) = 1 ∧ (d'.pc n).wait = .request
      else (d'.pc n).sent = some .eprFailed ∧ Dev.only { d with pdc := d'.pdc } [(PDC_Pn_MSG_TX_COUNT n).key] d') d'))
  ∧ (∀ (n : Fin 8), Does (.hardResetRx n) s (fun d d' =>
      if d.attached n = true then d.HardResets n d' else d' = d))
  ∧ (∀ (n id : Fin 8) (vdm : Bool) (svid : BitVec 16) (cmd : Fin 32), Does (.unsupportedMsgRx n id vdm svid cmd) s (fun d d' =>
      d.Heard n false id (fun d d' =>
        (d'.pc n).sent = some (if vdm then .vdmNak svid.toNat cmd else if d.get (PDC_Pn_STAT_REV n) = 1 then .reject else .notSupported)
        ∧ Dev.only { d with pdc := d'.pdc } [(PDC_Pn_MSG_TX_COUNT n).key] d') d'))
  ∧ (∀ (n id : Fin 8) (cmd : Fin 3), Does (.svdmRequestRx n id cmd) s (fun d d' =>
      d.Heard n false id (fun d d' =>
        (d'.pc n).sent = some (if cmd.val = 0 then .vdmAck 0xFF00 1 [bitsOf (d.get STN_UID_HI_UID) 16 16]
          else if d.latched n (PDC_Pn_CFG_TIRRUN_UFP n) ≠ 1 then .vdmNak (if cmd.val = 1 then 0xFF00 else 0xC7A1) (cmd + 1)
          else if cmd.val = 1 then .vdmAck 0xFF00 2 [0xC7A1 * 2 ^ 16] else .vdmAck 0xC7A1 3 [d.modeVdo n])
        ∧ Dev.only { d with pdc := d'.pdc } [(PDC_Pn_MSG_TX_COUNT n).key] d') d'))
  ∧ (∀ (n id : Fin 8), Does (.enterModeRx n id) s (fun d d' =>
      d.Heard n false id (fun d d' =>
        if d.latched n (PDC_Pn_CFG_TIRRUN_UFP n) = 1 ∧ d.flag (PDC_Pn_STAT_DFP n) = false ∧ d.get (PDC_Pn_STAT_ALT n) = 0 ∧ d.seqState 0 < 2 ∧ d.seqState 1 < 2 then
          (d.pdSend n (.vdmAck 0xC7A1 4 [])).EntersAlt n 2 d' ∧ (d'.pc n).sent = some (.vdmAck 0xC7A1 4 [])
        else (d'.pc n).sent = some (.vdmNak 0xC7A1 4) ∧ Dev.only { d with pdc := d'.pdc } [(PDC_Pn_MSG_TX_COUNT n).key] d') d'))
  ∧ (∀ (n id : Fin 8), Does (.exitModeRx n id) s (fun d d' =>
      d.Heard n false id (fun d d' =>
        if d.get (PDC_Pn_STAT_ALT n) = 2 then (d.pdSend n (.vdmAck 0xC7A1 5 [])).EndsAlt n d' ∧ (d'.pc n).sent = some (.vdmAck 0xC7A1 5 [])
        else (d'.pc n).sent = some (.vdmNak 0xC7A1 5) ∧ Dev.only { d with pdc := d'.pdc } [(PDC_Pn_MSG_TX_COUNT n).key] d') d'))
  ∧ (∀ (n id : Fin 8) (allow : BitVec 5), Does (.tConfigRx n id allow) s (fun d d' =>
      d.Heard n false id (fun d d' =>
        if d.get (PDC_Pn_STAT_ALT n) = 2 ∧ d.flag (PDC_Pn_STAT_DFP n) = false then
          (d'.pc n).sent = some (.vdmAck 0xC7A1 0x10 [d.altAllow n])
          ∧ (if d.seqState (2 + n) ≠ 0 then d' = d.pdSend n (.vdmAck 0xC7A1 0x10 [d.altAllow n])
            else (d'.pc n).lanes = true ∧ (d'.pc n).allow = d.altAllow n &&& allow.toNat
              ∧ (d.domOn (laneDomain n) = true → d.flag (TCL_CTL_EN n) = true → d.linkState (2 + n) ≠ 5 →
                  d'.seqState (2 + n) = 1 ∧ d'.get (TCL_CFG_ALLOW n) = d.altAllow n &&& allow.toNat)
              ∧ (d.domOn (laneDomain n) = false ∨ d.flag (TCL_CTL_EN n) = false → d'.seqState (2 + n) = 0))
        else (d'.pc n).sent = some (.vdmNak 0xC7A1 0x10) ∧ Dev.only { d with pdc := d'.pdc } [(PDC_Pn_MSG_TX_COUNT n).key] d') d'))
  ∧ (∀ (n id : Fin 8), Does (.tStatusRx n id) s (fun d d' =>
      d.Heard n false id (fun d d' =>
        (d'.pc n).sent = some (if d.get (PDC_Pn_STAT_ALT n) = 2 then .vdmAck 0xC7A1 0x11 [d.statusVdo n] else .vdmNak 0xC7A1 0x11)
        ∧ Dev.only { d with pdc := d'.pdc } [(PDC_Pn_MSG_TX_COUNT n).key] d') d'))
  ∧ (∀ (n id : Fin 8) (hpd irq bad : Bool), Does (.attentionRx n id hpd irq bad) s (fun d d' =>
      d.Heard n false id (fun d d' => if d.get (PDC_Pn_STAT_ALT n) ≠ 1 then d' = d
      else if d.flag (PDC_Pn_STAT_HPD n) = hpd ∧ irq = false then d' = d
      else d'.get (PDC_Pn_STAT_HPD n) = b2n hpd ∧ (d.flag (PDC_Pn_STAT_HPD n) ≠ hpd → d'.get (PDC_Pn_EVT_ALT_CHANGE n) = 1)
        ∧ ((∀ e ∈ [0, 1], d.get (DSO_Dn_CTL_ROUTE e) ≠ n.val + 1) →
            d' = if d.flag (PDC_Pn_STAT_HPD n) = hpd then d else (d.setB (PDC_Pn_STAT_HPD n) hpd).pdcRaise n 9 0)
        ∧ (let y := if d.flag (PDC_Pn_STAT_HPD n) = hpd then d else ((d.setB (PDC_Pn_STAT_HPD n) hpd).pdcRaise n 9 0).passHpd n;
          d' = if irq then forAll ((List.range 2).filter (fun e => y.get (DSO_Dn_CTL_ROUTE e) == n + 1)) (fun e y => dsoIrqHpd e bad y) y else y)) d'))
  ∧ (∀ (n id : Fin 8) (ack tirrun dp : Bool) (allow : BitVec 5) (pins : BitVec 3) (hpd : Bool) (cur : Fin 3) (epr : Bool) (spd : Fin 8), Does (.vdmAckRx n id ack tirrun dp allow pins hpd cur epr spd) s (fun d d' =>
      d.Heard n ((d.pc n).vdm == 1) id (fun d d' => if (d.pc n).vdm = 0 then d' = d
      else if (d.pc n).vdm = 1 then (if ack then d.putCable n cur epr spd else d).NextVdm n 2 d'
        ∧ (ack = true → d'.get (PDC_Pn_STAT_CABLE_I n) = cur ∧ d'.get (PDC_Pn_STAT_CABLE_EPR n) = b2n epr ∧ d'.get (PDC_Pn_STAT_CABLE_SPD n) = spd)
      else if ack = false ∧ (d.pc n).vdm = 6 then
        ((d.vdmStop n).pdSend n (.vdm false (if d.get (PDC_Pn_STAT_ALT n) = 1 then 0xFF01 else 0xC7A1) 5 [])).EndsAlt n d'
      else if ack = false then d' = d.vdmStop n ∧ (d'.pc n).vdm = 0
      else if (d.pc n).vdm = 2 then d.NextVdm n 3 d'
      else if (d.pc n).vdm = 3 then (if d.altChoice n tirrun dp = 0 then d' = d.vdmStop n
        else (d.modPc n (fun x => { x with toAlt := d.altChoice n tirrun dp })).NextVdm n 4 d')
      else if (d.pc n).vdm = 4 then (if ((d.pc n).toAlt = 1 ∧ pinOf pins.toNat = 0) ∨ ((d.pc n).toAlt = 2 ∧ d.mayParent = false) then d' = d.vdmStop n
        else (d.modPc n (fun x => { x with pins := pinOf pins.toNat })).NextVdm n 5 d')
      else if (d.pc n).vdm = 5 then (if (d.pc n).toAlt ≠ 2 then d.NextVdm n 7 d'
        else if d.mayParent = true then (d.enterAlt n 2).NextVdm n 6 d' ∧ d'.get (PDC_Pn_STAT_ALT n) = 2 ∧ d'.get (PDC_Pn_EVT_ALT_CHANGE n) = 1
        else d' = (d.vdmStop n).pdSend n (.vdm false 0xC7A1 5 []) ∧ (d'.pc n).vdm = 0 ∧ (d'.pc n).sent = some (.vdm false 0xC7A1 5 []))
      else if (d.pc n).vdm = 6 then (d'.pc n).vdm = 0 ∧ (d'.pc n).lanes = true ∧ (d'.pc n).allow = d.altAllow n &&& allow.toNat
        ∧ (d.domOn (laneDomain n) = true → d.flag (TCL_CTL_EN n) = true → d.seqState (2 + n) = 0 → d.linkState (2 + n) ≠ 5 →
            d'.seqState (2 + n) = 1 ∧ d'.get (TCL_CFG_ALLOW n) = d.altAllow n &&& allow.toNat)
        ∧ (d.domOn (laneDomain n) = false ∨ d.seqState (2 + n) ≠ 0 → d'.seqState (2 + n) = d.seqState (2 + n))
      else if (d.pc n).vdm = 7 then (d.setB (PDC_Pn_STAT_HPD n) hpd).NextVdm n 8 d' ∧ d'.get (PDC_Pn_STAT_HPD n) = b2n hpd
      else ((d.vdmStop n).set (PDC_Pn_STAT_PIN n) (d.pc n).pins).EntersAlt n 1 d' ∧ (d'.pc n).vdm = 0
        ∧ d'.get (PDC_Pn_STAT_PIN n) = (d.pc n).pins % 2 ^ 2) d'))
  ∧ (∀ (n : Fin 8), Does (.vdmResponseTimeout n) s (fun d d' =>
      if (d.pc n).vdm = 0 then d' = d
      else if (d.pc n).tries < 2 then (d'.pc n).tries = (d.pc n).tries + 1 ∧ (d'.pc n).vdm = (d.pc n).vdm
      else if (d.pc n).vdm = 1 then d.NextVdm n 2 d'
      else if (d.pc n).vdm = 6 then
        ((d.vdmStop n).pdSend n (.vdm false (if d.get (PDC_Pn_STAT_ALT n) = 1 then 0xFF01 else 0xC7A1) 5 [])).EndsAlt n d'
      else (d'.pc n).vdm = 0 ∧ (d'.pc n).toAlt = 0 ∧ d' = { d with pdc := d'.pdc }))

/-- For every state and port: the response and retry timers act only while they are awaited; a Source's transition asks its
regulator or settles; measured voltages and currents show in PDC_Pn_VBUS; faults of VBUS reset a Source; VCONN over-current ends
it; lapses of PPS and EPR reset the port; a command while another runs answers BUSY; commands on an unattached port answer their
error; the node's power limit is taken; EN written 0 and RESTEP act on a lane group as R429 says. (R412, R418, R419, R420, R422,
R429, R430, R432, R433) -/
def Obligations.TypecPowerAndCommandsComplete : Prop :=
  ∀ s : State,
  (∀ (n : Fin 8), Does (.senderResponseTimeout n) s (fun d d' =>
      match (d.pc n).wait, (d.pc n).swap with
      | .request, _ => d.HardResets n d'
      | .answer, _ => d.HardResets n d'
      | _, .sent => d.OwnEnds n 3 d'
      | _, _ => d' = d))
  ∧ (∀ (n : Fin 8), Does (.swapWaitRetry n) s (fun d d' =>
      match (d.pc n).swap, (d.pc n).own with
      | .again, some k => if (d.pc n).after then d' = d else (d'.pc n).swap = .sent ∧ (d'.pc n).sent = some (swapMsg k)
      | _, _ => d' = d))
  ∧ (∀ (n : Fin 8), Does (.srcTransitionDone n) s (fun d d' =>
      match (d.pc n).phase, (d.pc n).pend with
      | 1, some c => if c.mv = (d.pc n).asked then (d'.pc n).phase = 4 ∧ d' = { d with pdc := d'.pdc }
        else (d'.pc n).phase = 2 ∧ (d'.pc n).acked = false ∧ (d'.pc n).asked = c.mv ∧ d' = { d with pdc := d'.pdc, power := d'.power }
          ∧ d'.power.pmb.getLast? = some ⟨n, d.get (PDC_Pn_REG_ADDR n), d.get (PDC_Pn_REG_PAGE n), c.mv, false⟩
      | _, _ => d' = d))
  ∧ (∀ (n : Fin 8), Does (.vbusRegAck n) s (fun d d' =>
      if (d.pc n).phase = 2 ∧ (d.pc n).acked = true then (d'.pc n).phase = 3 ∧ (d'.pc n).closed = true
        ∧ ((d.pc n).first = true → (d.pc n).marked = true → (d.pc n).swap ≠ .newSource → d'.get (PDC_Pn_STAT_VCONN n) = 1)
      else d' = d))
  ∧ (∀ (n : Fin 8) (mv ma : BitVec 16), Does (.vbusInWindow n mv ma) s (fun d d' =>
      let y := (d.set (PDC_Pn_VBUS_MV n) mv.toNat).set (PDC_Pn_VBUS_MA n) ma.toNat;
      d'.get (PDC_Pn_VBUS_MV n) = mv.toNat ∧ d'.get (PDC_Pn_VBUS_MA n) = ma.toNat
      ∧ (if (d.pc n).phase ≠ 3 ∧ (d.pc n).phase ≠ 4 then d.only [(PDC_Pn_VBUS_MV n).key, (PDC_Pn_VBUS_MA n).key] d'
        else if (d.pc n).first then (if inWindow 0 5000 mv.toNat = false then d' = y
          else (d'.pc n).phase = 0 ∧ (d'.pc n).first = false ∧ (d'.pc n).wait = .request ∧ (d'.pc n).offer = min (d.maxW n) (d.available n)
            ∧ ((d.pc n).swap = .newSource → d'.get (PDC_Pn_EVT_SWAP_DONE n) = 1 ∧ (d'.pc n).swapping = none
              ∧ ((d.pc n).swapping = some (2, true) → (d.pc n).own.isSome = true → (d.pc n).byCmd = true →
                  d'.get (PDC_Pn_CMDRES_RESULT n) = 0 ∧ d'.get (PDC_Pn_CMDRES_DONE n) = 1)))
        else match (d.pc n).pend with
          | none => d' = y
          | some c => if inWindow c.ty c.mv mv.toNat then (y.pdSend n .psRdy).ContractTakes n c d' else d' = y)))
  ∧ (∀ (n : Fin 8), Does (.vbusAckTimeout n) s (fun d d' =>
      if (d.pc n).phase = 2 then Dev.HardResets ((d.inc (PDC_Pn_VFAULT_COUNT n)).pdcRaise n 5 0) n d'
        ∧ d'.get (PDC_Pn_VFAULT_COUNT n) = (d.get (PDC_Pn_VFAULT_COUNT n) + 1) % 2 ^ 32 ∧ d'.get (PDC_Pn_EVT_VBUS_FAULT n) = 1 else d' = d))
  ∧ (∀ (n : Fin 8), Does (.vbusSettleTimeout n) s (fun d d' =>
      if (d.pc n).phase = 2 ∨ (d.pc n).phase = 3 then Dev.HardResets ((d.inc (PDC_Pn_VFAULT_COUNT n)).pdcRaise n 5 0) n d'
        ∧ d'.get (PDC_Pn_VFAULT_COUNT n) = (d.get (PDC_Pn_VFAULT_COUNT n) + 1) % 2 ^ 32 ∧ d'.get (PDC_Pn_EVT_VBUS_FAULT n) = 1 else d' = d))
  ∧ (∀ (n : Fin 8) (mv ma : BitVec 16), Does (.vbusOutOfWindow n mv ma) s (fun d d' =>
      d'.get (PDC_Pn_VBUS_MV n) = mv.toNat ∧ d'.get (PDC_Pn_VBUS_MA n) = ma.toNat
      ∧ (if d.isSource n = true ∧ (d.pc n).discharge = false ∧ (d.pc n).first = false ∧ ((d.pc n).phase < 2 ∨ (d.pc n).phase = 4) ∧ (d.pc n).swap ≠ .ready then
          Dev.HardResets ((((d.set (PDC_Pn_VBUS_MV n) mv.toNat).set (PDC_Pn_VBUS_MA n) ma.toNat).inc (PDC_Pn_VFAULT_COUNT n)).pdcRaise n 5 0) n d'
          ∧ d'.get (PDC_Pn_VFAULT_COUNT n) = (d.get (PDC_Pn_VFAULT_COUNT n) + 1) % 2 ^ 32 ∧ d'.get (PDC_Pn_EVT_VBUS_FAULT n) = 1
        else d.only [(PDC_Pn_VBUS_MV n).key, (PDC_Pn_VBUS_MA n).key] d')))
  ∧ (∀ (n : Fin 8) (mv ma : BitVec 16), Does (.vbusOvervoltage n mv ma) s (fun d d' =>
      d'.get (PDC_Pn_VBUS_MV n) = mv.toNat ∧ d'.get (PDC_Pn_VBUS_MA n) = ma.toNat
      ∧ (if d.isSource n = true ∧ (d.pc n).discharge = false then
          Dev.HardResets (((d.set (PDC_Pn_VBUS_MV n) mv.toNat).set (PDC_Pn_VBUS_MA n) ma.toNat).modPc n (fun x => { x with closed := false })) n d'
        else d.only [(PDC_Pn_VBUS_MV n).key, (PDC_Pn_VBUS_MA n).key] d')))
  ∧ (∀ (n : Fin 8), Does (.vconnOvercurrent n) s (fun d d' =>
      if d.flag (PDC_Pn_STAT_VCONN n) = false then d' = d
      else d'.get (PDC_Pn_STAT_VCONN n) = 0 ∧ d'.conn n = 5 ∧ (d'.pc n).closed = false ∧ (d'.pc n).discharge = true
        ∧ d'.get (PDC_Pn_EVT_VCONN_OC n) = 1 ∧ d'.get (PDC_Pn_STAT_EXPLICIT n) = 0 ∧ d'.get (PDC_Pn_STAT_ALT n) = 0 ∧ (d'.pc n).own = none))
  ∧ (∀ (n : Fin 8), Does (.ppsRequestTimeout n) s (fun d d' =>
      if d.sourcing n = true ∧ d.flag (PDC_Pn_STAT_EXPLICIT n) = true ∧ d.get (PDC_Pn_CONTRACT_TYPE n) = 1 then d.HardResets n d' else d' = d))
  ∧ (∀ (n : Fin 8), Does (.eprKeepaliveLapse n) s (fun d d' =>
      if d.flag (PDC_Pn_STAT_EPR n) then d.HardResets n d' else d' = d))
  ∧ (∀ (w : BitVec 16), Does (.pdcNodeWrite w) s (fun d d' =>
      d'.get PDC_NODE_NODE_W = w.toNat ∧ (if d.sumAlloc ≤ w.toNat then d' = (d.set PDC_NODE_NODE_W w.toNat).budget
          ∧ (d.powerIdle → d.only [PDC_NODE_NODE_W.key] d')
        else (d.set PDC_NODE_NODE_W w.toNat).AsksPower 8 0 d')))
  ∧ (∀ (n : Fin 8), Does (.pdcSendCaps n) s (fun d d' =>
      if d.flag (PDC_Pn_CMDRES_DONE n) = false then d' = d.set (PDC_Pn_CMDRES_RESULT n) 5
      else if d.sourcing n = true then d' = (d.sendCaps n (d.offerOf n)).cmdEnd n 0 ∧ d'.get (PDC_Pn_CMDRES_RESULT n) = 0 ∧ d'.get (PDC_Pn_CMDRES_DONE n) = 1
        ∧ (d'.pc n).wait = .request ∧ (d'.pc n).sent = some (.sourceCaps (d.pdos n (min (d.maxW n) (d.available n)))) ∧ d'.get (PDC_Pn_EVT_CMD_DONE n) = 1
      else d'.get (PDC_Pn_CMDRES_DONE n) = 1 ∧ d'.get (PDC_Pn_CMDRES_RESULT n) = 1))
  ∧ (∀ (n : Fin 8), Does (.pdcPrSwap n) s (fun d d' =>
      if d.flag (PDC_Pn_CMDRES_DONE n) = false then d' = d.set (PDC_Pn_CMDRES_RESULT n) 5
      else if d.attached n = false ∨ (d.isSource n = false ∧ d.barred n = true) then d'.get (PDC_Pn_CMDRES_RESULT n) = 1 ∧ d'.get (PDC_Pn_CMDRES_DONE n) = 1
      else if (d.pc n).own.isSome = true ∨ (d.pc n).swapping.isSome = true then d'.get (PDC_Pn_CMDRES_RESULT n) = 5 ∧ d'.get (PDC_Pn_CMDRES_DONE n) = 1
      else d'.get (PDC_Pn_CMDRES_DONE n) = 0 ∧ (d'.pc n).own = some 2 ∧ (d'.pc n).swap = .sent ∧ (d'.pc n).sent = some .prSwap))
  ∧ (∀ (n : Fin 8), Does (.pdcDrSwap n) s (fun d d' =>
      if d.flag (PDC_Pn_CMDRES_DONE n) = false then d' = d.set (PDC_Pn_CMDRES_RESULT n) 5
      else if d.attached n = false then d'.get (PDC_Pn_CMDRES_RESULT n) = 1 ∧ d'.get (PDC_Pn_CMDRES_DONE n) = 1
      else if (d.pc n).own.isSome = true ∨ (d.pc n).swapping.isSome = true then d'.get (PDC_Pn_CMDRES_RESULT n) = 5 ∧ d'.get (PDC_Pn_CMDRES_DONE n) = 1
      else d'.get (PDC_Pn_CMDRES_DONE n) = 0 ∧ (d'.pc n).own = some 3 ∧ (d'.pc n).swap = .sent ∧ (d'.pc n).sent = some .drSwap))
  ∧ (∀ (n : Fin 8), Does (.pdcVconnSwap n) s (fun d d' =>
      if d.flag (PDC_Pn_CMDRES_DONE n) = false then d' = d.set (PDC_Pn_CMDRES_RESULT n) 5
      else if d.attached n = false then d'.get (PDC_Pn_CMDRES_RESULT n) = 1 ∧ d'.get (PDC_Pn_CMDRES_DONE n) = 1
      else if (d.pc n).own.isSome = true ∨ (d.pc n).swapping.isSome = true then d'.get (PDC_Pn_CMDRES_RESULT n) = 5 ∧ d'.get (PDC_Pn_CMDRES_DONE n) = 1
      else d'.get (PDC_Pn_CMDRES_DONE n) = 0 ∧ (d'.pc n).own = some 4 ∧ (d'.pc n).swap = .sent ∧ (d'.pc n).sent = some .vconnSwap))
  ∧ (∀ (n : Fin 8), Does (.pdcHardReset n) s (fun d d' =>
      if d.flag (PDC_Pn_CMDRES_DONE n) = false then d' = d.set (PDC_Pn_CMDRES_RESULT n) 5
      else d'.get (PDC_Pn_CMDRES_RESULT n) = (if d.attached n then 0 else 1) ∧ d'.get (PDC_Pn_CMDRES_DONE n) = 1))
  ∧ (∀ (n : Fin 8), Does (.pdcExitAlt n) s (fun d d' =>
      if d.flag (PDC_Pn_CMDRES_DONE n) = false then d' = d.set (PDC_Pn_CMDRES_RESULT n) 5
      else d'.get (PDC_Pn_CMDRES_RESULT n) = 0 ∧ d'.get (PDC_Pn_CMDRES_DONE n) = 1))
  ∧ (∀ (n : Fin 8), Does (.pdcDisable n) s (fun d d' =>
      if d.flag (PDC_Pn_CMDRES_DONE n) = false then d' = d.set (PDC_Pn_CMDRES_RESULT n) 5 else d' = pdcDisable n d))
  ∧ (∀ (n : Fin 8), Does (.tclStartTimeout n) s (fun d d' =>
      if d.domOn (portDomain (2 + n)) = false then d' = d
      else if d.get (TCL_STAT_STATE n) = 1 then d' = ((d.inc (TCL_STARTFAIL_COUNT n)).lockLost (2 + n)).tclStart (2 + n)
        ∧ d'.get (TCL_STAT_STATE n) = 1 ∧ d'.get (TCL_STARTFAIL_COUNT n) = (d.get (TCL_STARTFAIL_COUNT n) + 1) % 2 ^ 32
        ∧ d'.get (TCL_EVT_LOCK_LOST n) = 1 ∧ d'.get (TCL_CTL_RESTEP n) = 0
      else d' = d))
  ∧ (∀ (n : Fin 8), Does (.tclStepTimeout n) s (fun d d' =>
      if d.domOn (portDomain (2 + n)) = false then d' = d
      else if d.get (TCL_STAT_STATE n) ≠ 6 then d' = d else d'.get (TCL_STAT_STATE n) = 1 ∨ d'.get (TCL_STAT_STATE n) = 6))
  ∧ (∀ (n : Fin 8), Does (.tclRestep n) s (fun d d' =>
      if d.domOn (portDomain (2 + n)) = false then d' = d
      else if d.get (TCL_STAT_STATE n) = 0 then d.only [(TCL_CTL_RESTEP n).key] d' ∧ d'.get (TCL_CTL_RESTEP n) = 1
      else if d.get (TCL_STAT_STATE n) = 7 ∧ d.linkState (2 + n) ≠ 0 then
        d' = (((d.set (TCL_CTL_RESTEP n) 1).set (TCL_STAT_DOWNGRADED n) 0).linkFail (2 + n) 3) ∧ d'.get (TCL_CTL_RESTEP n) = 1
        ∧ d'.get (TCL_STAT_DOWNGRADED n) = 0 ∧ d'.linkState (2 + n) = 5
      else d' = (((d.set (TCL_CTL_RESTEP n) 1).set (TCL_STAT_DOWNGRADED n) 0).tclStart (2 + n)) ∧ d'.get (TCL_STAT_STATE n) = 1 ∧ d'.get (TCL_CTL_RESTEP n) = 0))
  ∧ (∀ (n : Fin 8), Does (.tclDisable n) s (fun d d' =>
      if d.domOn (portDomain (2 + n)) = false then d' = d
      else d'.get (TCL_STAT_STATE n) = 0
      ∧ d'.get (TCL_CTL_EN n) = 0 ∧ d' = (d.set (TCL_CTL_EN n) 0).seqOff (2 + n)
      ∧ (d.get (TCL_STAT_STATE n) = 7 → d.linkState (2 + n) ≠ 0 → d'.linkState (2 + n) = 5)))

/-- For every state and engine: EN written 1 checks the configuration and then trains or waits for hot plug detect, and changes
nothing of an engine already on; EN written 0 stops video and turns the engine off; link training starts the raster or raises
TRAIN_FAIL; hot plug detect and IRQ_HPD move the engine as R437 says; vertical blank applies a due commit outside tearing-effect
mode and raises VBLANK; a TE edge and a TE timeout act only on a due commit; a missing pixel ends the cover and is counted, once
for a locked pair's frame. (R435, R437, R438, R447, R448, R449, R450) -/
def Obligations.ScanoutStateMachineComplete : Prop :=
  ∀ s : State,
  (∀ (n : Fin 2) (psr : Bool), Does (.dsoEnable n psr) s (fun d d' =>
      if d.domOn 10 = false then d' = d
      else let st := d.stateFor n (d.hpdIn n);
      let noTe := d.flag (DSO_Dn_CTL_UPD n) && !(psr && d.get (DSO_Dn_CTL_ROUTE n) == 0);
      d'.get (DSO_Dn_CTL_EN n) = 1 ∧ d'.get (DSO_Dn_STAT_HPD n) = b2n (d.hpdIn n)
      ∧ (d.flag (DSO_Dn_STAT_HPD n) ≠ d.hpdIn n → d'.get (DSO_Dn_EVT_HPD_CHANGE n) = 1)
      ∧ (if d.get (DSO_Dn_CTL_EN n) = 1 ∧ st ≠ 0 then (d'.panel n).noTe = noTe ∧ (noTe = true → d'.get (DSO_Dn_EVT_CFG_ERR n) = 1)
          ∧ d'.dso n = (if st = 2 ∧ d.flag (DSO_Dn_CTL_UPD n) = true ∧ noTe = false ∧ (d.panel n).shown = true ∧ (d.panel n).sending = false
              ∧ d.get (DSO_Dn_COMMIT_GO (d.surface n)) = 0 then 3 else st)
        else if d.paired = true ∧ (d.get (DSO_Dn_CTL_LANES 0) ≠ d.get (DSO_Dn_CTL_LANES 1) ∨ d.get (DSO_Dn_CTL_RATE 0) ≠ d.get (DSO_Dn_CTL_RATE 1)) then
          d'.get (DSO_Dn_EVT_CFG_ERR 0) = 1 ∧ d'.get (DSO_Dn_EVT_CFG_ERR 1) = 1 ∧ d'.dso n = st
        else if d.dsoSound n = false then d'.get (DSO_Dn_EVT_CFG_ERR n) = 1 ∧ d'.dso n = st
        else d'.dso n = (if d.hpdIn n = true then 1 else 4) ∧ (d'.panel n).trained = false ∧ (d'.panel n).noTe = noTe
          ∧ (noTe = true → d'.get (DSO_Dn_EVT_CFG_ERR n) = 1))))
  ∧ (∀ (n : Fin 2), Does (.dsoDisable n) s (fun d d' =>
      if d.domOn 10 = false then d' = d
      else d'.get (DSO_Dn_CTL_EN n) = 0 ∧ d'.dso n = 0 ∧ d'.mem = d.mem))
  ∧ (∀ (n : Fin 2) (ok : Bool) (lanes : Fin 3) (rate : Fin 4), Does (.linkTrainingDone n ok lanes rate) s (fun d d' =>
      if d.reached 10 = false then d' = d
      else if d.dso n ≠ 1 ∨ (d.panel n).trained = true then d' = d
      else if ok = false ∨ d.carries n = false then d'.dso n = 4 ∧ d'.get (DSO_Dn_EVT_TRAIN_FAIL n) = 1
        ∧ d'.get (DSO_Dn_STAT_LANES_ACT n) = 0 ∧ d'.get (DSO_Dn_STAT_RATE_ACT n) = 0
      else d'.get (DSO_Dn_STAT_LANES_ACT n) = min lanes.val (min (d.get (DSO_Dn_CTL_LANES n)) (d.laneCap n))
        ∧ d'.get (DSO_Dn_STAT_RATE_ACT n) = min rate.val (d.get (DSO_Dn_CTL_RATE n))
        ∧ (d.paired = false → d'.dso n = 2 ∧ (d'.panel n).sending = d.teMode n ∧ (d'.panel n).shown = false ∧ (d'.panel n).gap = none)
        ∧ (d.paired = true → d.dso (1 - n) = 1 → (d.panel (1 - n)).trained = true → d'.dso n = 2 ∧ d'.dso (1 - n) = 2)
        ∧ (d.paired = true → d.dso (1 - n) ≠ 1 ∨ (d.panel (1 - n)).trained = false → d'.dso n = 1 ∧ (d'.panel n).trained = true)))
  ∧ (∀ (n : Fin 2), Does (.hpdHigh n) s (fun d d' =>
      if d.reached 10 = false then d' = d
      else let h := if d.get (DSO_Dn_CTL_ROUTE n) = 0 then true else d.hpdIn n;
      d'.get (DSO_Dn_STAT_HPD n) = b2n h ∧ d'.dso n = d.stateFor n h
      ∧ (d.get (DSO_Dn_STAT_HPD n) ≠ b2n h → d'.get (DSO_Dn_EVT_HPD_CHANGE n) = 1)))
  ∧ (∀ (n : Fin 2), Does (.hpdLowTimeout n) s (fun d d' =>
      if d.reached 10 = false then d' = d
      else let h := if d.get (DSO_Dn_CTL_ROUTE n) = 0 then false else d.hpdIn n;
      d'.get (DSO_Dn_STAT_HPD n) = b2n h ∧ (d.get (DSO_Dn_STAT_HPD n) ≠ b2n h → d'.get (DSO_Dn_EVT_HPD_CHANGE n) = 1)
      ∧ d'.dso n = (if h = false ∧ (d.dso n = 2 ∨ d.dso n = 3) then 4 else d.stateFor n h)))
  ∧ (∀ (n : Fin 2) (bad : Bool), Does (.irqHpd n bad) s (fun d d' =>
      if d.reached 10 = false then d' = d
      else if bad = true ∧ (d.dso n = 2 ∨ d.dso n = 3) then d' = d.stopVideo n 1 ∧ d'.dso n = 1 ∧ d'.get (DSO_Dn_STAT_LANES_ACT n) = 0
        ∧ d'.get (DSO_Dn_STAT_RATE_ACT n) = 0 ∧ (d'.panel n).sending = false ∧ (d'.panel n).trained = false
        ∧ (d.paired = true → d.dso (1 - n) = 2 ∨ d.dso (1 - n) = 3 → d'.dso (1 - n) = 1 ∧ (d'.panel (1 - n)).trained = true)
      else d' = d))
  ∧ (∀ (n : Fin 2) (word : BitVec 15) (ecc : Ecc), Does (.vblankStart n word ecc) s (fun d d' =>
      if d.domOn 10 = false then d' = d
      else if d.dso n ≠ 2 then d' = d
      else let due := d.flag (DSO_Dn_COMMIT_GO n) && d.flipsDue n && !(d.paired && n.val == 1);
        let late := (d.panel n).late;
        d'.get (DSO_Dn_EVT_VBLANK n) = 1 ∧ (d'.panel n).gap = none ∧ d'.get (DSO_Dn_COVER_NS n) = d'.fullCover n ∧ d'.dso n = 2
        ∧ d'.get (DSO_Dn_FCOUNT_COUNT n) = (d.get (DSO_Dn_FCOUNT_COUNT n) + (if d.teMode n then 0 else 1)) % 2 ^ 32
        ∧ (d.teMode n = false → (d'.panel n).shown = true)
        ∧ (if due = true ∧ (d.teMode n = false ∨ late = true) then d.Commits n d'
          else (d'.panel n).active = (d.panel n).active ∧ d'.get (DSO_Dn_APPLIED_COUNT n) = d.get (DSO_Dn_APPLIED_COUNT n)
            ∧ d'.get (DSO_Dn_COMMIT_GO n) = d.get (DSO_Dn_COMMIT_GO n))
        ∧ (late = true → due = true → (d'.panel n).sending = true ∧ (d'.panel n).late = false)))
  ∧ (∀ (n : Fin 2), Does (.teEdge n) s (fun d d' =>
      if d.reached 10 = false then d' = d
      else if d.teMode n = true ∧ (d.dso n = 2 ∨ d.dso n = 3) ∧ (d.panel n).sending = false ∧ d.commitDue n = true then
        d'.dso n = 2 ∧ (d'.panel n).sending = true ∧ (d'.panel n).late = false ∧ d' = (d.commitSet n).teSend n ∧ d.Commits n d'
        ∧ (d.paired = false → d' = ((d.commitSet n).modPanel n (fun p => { p with sending := true, late := false })).setDso n 2)
        ∧ (d.paired = true → (d.commitSet n).teMode 1 = true → d.dso 1 = 2 ∨ d.dso 1 = 3 → d'.dso 1 = 2 ∧ (d'.panel 1).sending = true)
      else d' = d))
  ∧ (∀ (n : Fin 2), Does (.teFrameSent n) s (fun d d' =>
      if d.domOn 10 = false then d' = d
      else if d.dso n = 2 ∧ (d.panel n).sending = true then (d'.panel n).sending = false ∧ (d'.panel n).shown = true
        ∧ d'.dso n = (if d.teMode n = true ∧ d.get (DSO_Dn_COMMIT_GO (d.surface n)) = 0 then 3 else 2)
        ∧ d'.get (DSO_Dn_FCOUNT_COUNT n) = (d.get (DSO_Dn_FCOUNT_COUNT n) + 1) % 2 ^ 32
      else d' = d))
  ∧ (∀ (n : Fin 2), Does (.teTimeout n) s (fun d d' =>
      if d.domOn 10 = false then d' = d
      else if d.teMode n = true ∧ (d.dso n = 2 ∨ d.dso n = 3) ∧ d.get (DSO_Dn_COMMIT_GO n) = 1 ∧ (d.paired = true → n.val = 0) then
        d'.get (DSO_Dn_EVT_TE_LOST n) = 1 ∧ d'.dso n = 2 ∧ (d'.panel n).late = true
      else d' = d))
  ∧ (∀ (n : Fin 2) (x y : BitVec 14), Does (.pixelUnderrun n x y) s (fun d d' =>
      if d.domOn 10 = false then d' = d
      else if d.dso n ≠ 2 then d' = d
      else d'.get (DSO_Dn_COVER_NS n) = 0
        ∧ (if d.paired = false then (if (d.panel n).gap.any (fun g => g.2 == y.toNat) = true then d.only [(DSO_Dn_COVER_NS n).key] d'
            else d'.get (DSO_Dn_EVT_UNDERRUN n) = 1 ∧ d'.get (DSO_Dn_UNDERRUN_COUNT n) = (d.get (DSO_Dn_UNDERRUN_COUNT n) + 1) % 2 ^ 32
              ∧ (d'.panel n).gap = some (x.toNat, y.toNat)
              ∧ d'.pixel n x.toNat y.toNat = (pixelOf 2 ((d.panel n).active.get (DSO_Dn_BG_RGB n).key 0)).1)
          else if (d.panel 0).gap.isSome = true then d.only [(DSO_Dn_COVER_NS n).key] d'
          else d'.get (DSO_Dn_EVT_ABORT 0) = 1 ∧ (d'.panel 0).gap = some (x.toNat, y.toNat)
            ∧ d'.get (DSO_Dn_ABORTS_COUNT 0) = (d.get (DSO_Dn_ABORTS_COUNT 0) + 1) % 2 ^ 32)))

/-- For every state and engine: a RECT, FLIP or PALETTE delta is the next packet of that kind that its panel holds, taken off and
checked, or nothing; the catch-up copy catches up every layer that flipped and then copies nothing more; software's refresh
request asks a refresh of reason 4 of its layer; a refresh is sent only where one is asked of the context, at the earliest
instant the 1 ms limit allows. (R439, R440, R441, R442, R443, R444, R445, R446) -/
def Obligations.DeltasAndRefreshComplete : Prop :=
  ∀ s : State,
  (∀ (n : Fin 2), Does (.deltaRect n) s (fun d d' =>
      if d.domOn 10 = false then d' = d
      else d.TakesDelta n 1 (fun c h y e => let total := h.rect.w * h.rect.h;
      if d.get (DSO_Dn_Ll_SIZE_W n h.layer) < h.rect.x + h.rect.w ∨ d.get (DSO_Dn_Ll_SIZE_H n h.layer) < h.rect.y + h.rect.h then
        e.get (DSO_IN_BOUNDSn_COUNT n) = (d.get (DSO_IN_BOUNDSn_COUNT n) + 1) % 2 ^ 32
        ∧ (y.inc (DSO_IN_BOUNDSn_COUNT n)).AsksRefresh c ⟨2, h.layer, 0, 0, 0, 0⟩ e ∧ (d.enginesIdle → e.mem = d.mem)
      else if h.enc = 1 then
        (let z := (y.runTokens n h.layer h.rect (h.body.length + 1) 0 h.body).2.damaged n h.layer h.rect;
        if (y.runTokens n h.layer h.rect (h.body.length + 1) 0 h.body).1 then e = z
        else e.get (DSO_IN_MALFORMEDn_COUNT n) = (d.get (DSO_IN_MALFORMEDn_COUNT n) + 1) % 2 ^ 32
          ∧ (z.inc (DSO_IN_MALFORMEDn_COUNT n)).AsksRefresh c ⟨1, h.layer, h.rect.x, h.rect.y, h.rect.w, h.rect.h⟩ e)
      else if h.body.length ≠ (if h.enc = 0 then 4 * total else total) then
        e.get (DSO_IN_MALFORMEDn_COUNT n) = (d.get (DSO_IN_MALFORMEDn_COUNT n) + 1) % 2 ^ 32
        ∧ (y.inc (DSO_IN_MALFORMEDn_COUNT n)).AsksRefresh c ⟨1, h.layer, h.rect.x, h.rect.y, h.rect.w, h.rect.h⟩ e
      else e = (y.putPixels n h.layer h.rect 0 (if h.enc = 0 then wordsOf total h.body
          else h.body.map (fun b => natLE 4 (d.get (DSO_PAL_WORD (4 * n + h.layer) b.toNat))))).damaged n h.layer h.rect
        ∧ (d.flag (DSO_Dn_Ll_CFG_DBL n h.layer) = true → h.layer ∉ (d.ingest n).collapsed → ((d.ingest n).damage.get h.layer []).length < 64 →
            (e.ingest n).damage.get h.layer [] = (d.ingest n).damage.get h.layer [] ++ [h.rect])) d'))
  ∧ (∀ (n : Fin 2), Does (.deltaFlip n) s (fun d d' =>
      if d.domOn 10 = false then d' = d
      else d.TakesDelta n 2 (fun c h y e => if h.body.length < 4 then
        e.get (DSO_IN_MALFORMEDn_COUNT n) = (d.get (DSO_IN_MALFORMEDn_COUNT n) + 1) % 2 ^ 32
        ∧ (y.inc (DSO_IN_MALFORMEDn_COUNT n)).AsksRefresh c ⟨1, 0xFF, 0, 0, 0, 0⟩ e
      else e.get (DSO_IN_FLIPSn_COUNT n) = (d.get (DSO_IN_FLIPSn_COUNT n) + 1) % 2 ^ 32 ∧ e.get (DSO_Dn_COMMIT_GO n) = 1 ∧ e.mem = d.mem
        ∧ (∀ l ∈ List.range 4, d.writtenNow (DSO_Dn_Ll_CFG_FRONT n l) = false →
            e.get (DSO_Dn_Ll_CFG_FRONT n l) = (if h.layer.testBit l = true ∧ d.flag (DSO_Dn_Ll_CFG_DBL n l) = true
              then 1 - d.get (DSO_Dn_Ll_CFG_FRONT n l) else d.get (DSO_Dn_Ll_CFG_FRONT n l)))
        ∧ (e.ingest n).notBefore = (d.ingest n).notBefore ++ (if beNat (h.body.take 4) = 0 then [] else [beNat (h.body.take 4)])) d'))
  ∧ (∀ (n : Fin 2), Does (.deltaPalette n) s (fun d d' =>
      if d.domOn 10 = false then d' = d
      else d.TakesDelta n 3 (fun c h y e => if 256 < h.rect.x + h.rect.w then
        e.get (DSO_IN_BOUNDSn_COUNT n) = (d.get (DSO_IN_BOUNDSn_COUNT n) + 1) % 2 ^ 32
        ∧ (y.inc (DSO_IN_BOUNDSn_COUNT n)).AsksRefresh c ⟨2, h.layer, 0, 0, 0, 0⟩ e
      else if h.body.length < 4 * h.rect.w then
        e.get (DSO_IN_MALFORMEDn_COUNT n) = (d.get (DSO_IN_MALFORMEDn_COUNT n) + 1) % 2 ^ 32
        ∧ (y.inc (DSO_IN_MALFORMEDn_COUNT n)).AsksRefresh c ⟨1, h.layer, 0, 0, 0, 0⟩ e
      else e.mem = d.mem ∧ (∀ k ∈ List.range h.rect.w, d.writtenNow (DSO_PAL_WORD (4 * n + h.layer) (h.rect.x + k)) = false →
        e.get (DSO_PAL_WORD (4 * n + h.layer) (h.rect.x + k)) = leNat ((h.body.drop (4 * k)).take 4))) d'))
  ∧ (∀ (n : Fin 2), Does (.catchupCopyDone n) s (fun d d' =>
      if d.domOn 10 = false then d' = d
      else (d'.ingest n).copying = [] ∧ ((d.ingest n).copying = [] → d' = d.setIngest n (d.ingest n))
      ∧ ∀ l ∈ (d.ingest n).copying, (d'.ingest n).damage.get l [] = [] ∧ l ∉ (d'.ingest n).collapsed))
  ∧ (∀ (c : Fin 1024) (layer : Fin 4), Does (.dsoRefreshReq c layer) s (fun d d' =>
      if d.domOn 10 = false then d' = d
      else d.AsksRefresh c ⟨4, layer, 0, 0, 0, 0⟩ d'))
  ∧ (∀ (c : Fin 1024), Does (.refreshSend c) s (fun d d' =>
      if d.domOn 3 = false then d' = d
      else match d.port.refresh.get c none with
      | none => d' = d
      | some r => let y := (match (d.ctx c).refreshAt with
          | none => d
          | some t => d.elapse (d.cyclesFor 0 (((t + 1000000 : Nat) : Int) * ((2 ^ 32 : Nat) : Int) - ((d.tb 0).units : Nat))));
        d' = y.sendRefresh c r ∧ (y.enginesIdle → d'.port.refresh.get c none = none ∧ (d'.ctx c).refreshAt = some y.now
          ∧ (y.get (CTX_W1_LPORT c) = 3 → y.get (CTX_W1_LQ c) < 2 →
              d'.get (DSO_IN_REFRESHn_COUNT (y.get (CTX_W1_LQ c))) = (y.get (DSO_IN_REFRESHn_COUNT (y.get (CTX_W1_LQ c))) + 1) % 2 ^ 32))))

/-- For every state: U0 attaches only where enabled, powered and not attached; a disconnect ends the speed and clears the bus; a bus
reset raises BUS_RESET; a SETUP of the function takes the next tag and its fields, one of a hub is answered at once; data
completes a write of at most wLength bytes; ACK, STALL and DATA_IN act only on the current tag; the status stage and the timeout
end the stage; the vendor requests are served as held accords of one word, or stalled where a field is out of range. (R309,
R461, R471, R472, R473, R474, R475, R485) -/
def Obligations.UsbControlTransfersComplete : Prop :=
  ∀ s : State,
  (∀ (speed : Fin 4), Does (.usbAttach speed) s (fun d d' =>
      if d.reached 12 = false then d' = d
      else d'.get USB_STAT_VBUS = 1
      ∧ (if d.get USB_CTL_EN = 1 ∧ (d.set USB_STAT_VBUS 1).domOn 12 = true ∧ d.get (PWR_Dd_STAT_HELD 12) = 0 ∧ d.get USB_STAT_SPEED = 0 then
          d'.get USB_STAT_SPEED = (if speed = 0 then 0 else if d.get USB_CTL_SS_EN = 1 then speed.val else 1)
          ∧ (speed = 0 → d'.get USB_EVT_FS_HOST = 1)
        else d.only [USB_STAT_VBUS.key] d')))
  ∧ (∀ (vbus : Bool), Does (.usbDisconnect vbus) s (fun d d' =>
      if d.reached 12 = false then d' = d
      else if d.get USB_STAT_SPEED = 0 then d.only [USB_STAT_VBUS.key] d' ∧ d'.get USB_STAT_VBUS = b2n vbus
      else d' = (((d.set USB_STAT_VBUS (if vbus then 1 else 0)).busClear 2).set USB_STAT_SPEED 0).busState 0
        ∧ d.BusCleared d' ∧ d'.get USB_STAT_SPEED = 0 ∧ d'.get USB_STAT_VBUS = b2n vbus))
  ∧ (∀ (warm : Bool) (speed : Fin 4), Does (.usbBusReset warm speed) s (fun d d' =>
      if d.reached 12 = false then d' = d
      else if d.get USB_STAT_SPEED = 0 then d' = d
      else d'.get USB_EVT_BUS_RESET = 1 ∧ d.BusCleared d' ∧ (d.usb.wakeDue = true → d'.usb.wakeDue = true)
        ∧ d'.get USB_STAT_SPEED = (if warm = true ∧ speed ≠ 0 then (if d.get USB_CTL_SS_EN = 1 then speed.val else 1) else d.get USB_STAT_SPEED)))
  ∧ (∀ (hub : Fin 4) (ty req : Byte) (val idx len : BitVec 16), Does (.usbSetupRx hub ty req val idx len) s (fun d d' =>
      if d.reached 12 = false then d' = d
      else d'.get USB_STAT_ULINK = (if d.get USB_STAT_ULINK = 1 ∨ d.get USB_STAT_ULINK = 2 then 0 else d.get USB_STAT_ULINK)
      ∧ (if hub ≠ 0 then d'.get USB_CTRL_STAT_TAG = d.get USB_CTRL_STAT_TAG ∧ d'.mem = d.mem ∧ d'.phase = d.phase
          ∧ (if hub = 3 ∧ d.get USB_STAT_SPEED < 2 then d' = d.traffic
            else d' = d.traffic.hubRequest hub ty.toNat req.toNat val.toNat idx.toNat len.toNat
              ∧ (bitsOf ty.toNat 5 2 = 1 → bitsOf ty.toNat 0 5 = 0 → req = 6 → val.toNat / 256 = (if hub = 3 then 0x2A else 0x29) →
                  d'.usb.shake = .ack ∧ d'.usb.data = (hubDescriptor hub).take len.toNat)
              ∧ (bitsOf ty.toNat 5 2 = 1 → bitsOf ty.toNat 0 5 = 3 → req = 0 → 1 ≤ idx.toNat % 256 → idx.toNat % 256 ≤ (if hub = 2 then 8 else 9) →
                  d'.usb.shake = .ack ∧ d'.usb.data = (match (if hub = 3 then none else extPort hub (idx.toNat % 256)) with
                    | some e => natLE 2 (d.portStatus e) ++ natLE 2 (d.usb.changes.get e 0)
                    | none => natLE 2 (d.innerStatus hub (idx.toNat % 256)) ++ natLE 2 (d.usb.changes.get (64 * hub + idx.toNat % 256) 0)).take len.toNat)
              ∧ (bitsOf ty.toNat 5 2 = 1 → bitsOf ty.toNat 0 5 = 3 → req = 3 → hub = 1 → 1 ≤ idx.toNat % 256 → idx.toNat % 256 ≤ 7 → d'.usb.shake = .ack
                  ∧ (val = 8 → d'.get (USB_HPp_PWR (idx.toNat % 256 - 1)) = 1 ∧ d'.get (USB_HPp_OC (idx.toNat % 256 - 1)) = 0)
                  ∧ (val = 4 → d.get (USB_HPp_CONN (idx.toNat % 256 - 1)) = 1 → d'.get (USB_HPp_ENABLED (idx.toNat % 256 - 1)) = 1))
              ∧ (bitsOf ty.toNat 5 2 = 2 ∨ bitsOf ty.toNat 5 2 = 3 → d'.usb.shake = .stall))
        else d'.get USB_CTRL_STAT_TAG = (d.get USB_CTRL_STAT_TAG + 1) % 256 ∧ d'.get USB_CTRL_STAT_DLEN = 0 ∧ d'.usb.stale = false ∧ d.Abandons d'
          ∧ d'.get USB_SETUP0_bmRequestType = ty.toNat ∧ d'.get USB_SETUP0_bRequest = req.toNat ∧ d'.get USB_SETUP0_wValue = val.toNat
          ∧ d'.get USB_SETUP1_wIndex = idx.toNat ∧ d'.get USB_SETUP1_wLength = len.toNat
          ∧ (if bitsOf ty.toNat 5 2 = 0 then match d.standardData (bitsOf ty.toNat 0 5) req.toNat val.toNat idx.toNat with
              | none => d'.phase = 3 ∧ d'.usb.shake = .stall
              | some l => d'.phase = (if ty.toNat.testBit 7 = false ∧ len ≠ 0 then 1 else 2) ∧ d'.usb.data = l.take len.toNat ∧ d'.usb.shake = .ack
                ∧ d'.usb.fn.hw = true ∧ d'.usb.armed = (ty.toNat.testBit 7 || len == 0)
            else d'.usb.armed = false ∧ d'.usb.fn.hw = false
              ∧ (if bitsOf ty.toNat 5 2 = 2 ∧ (bitsOf ty.toNat 0 5 = 0 ∨ (bitsOf ty.toNat 0 5 = 1 ∧ idx.toNat % 256 ≤ 1)) ∧ len.toNat ≤ 1024 then
                  d'.phase = (if len.toNat = 0 then 2 else 1) ∧ d'.usb.shake = .none
                else d'.phase = 3 ∧ d'.usb.shake = .stall)))))
  ∧ (∀ (data : List Byte), Does (.usbDataDone data) s (fun d d' =>
      if d.reached 12 = false then d' = d
      else if d.phase = 1 ∧ (d.get USB_SETUP0_bmRequestType).testBit 7 = false then
        let l := data.take (d.get USB_SETUP1_wLength);
        d'.phase = 2 ∧ d'.get USB_CTRL_STAT_DLEN = l.length % 2 ^ USB_CTRL_STAT_DLEN.w ∧ d'.usb.armed = d.usb.fn.hw
        ∧ (∀ k ∈ List.range (l.length / 4), d.writtenNow (USB_CBUFk_WORD k) = false → d'.get (USB_CBUFk_WORD k) = leNat ((l.drop (4 * k)).take 4))
        ∧ d' = ((((d.traffic.putCbuf l).set USB_CTRL_STAT_DLEN l.length).set USB_CTRL_STAT_PHASE 2).modUsb (fun u => { u with armed := u.fn.hw })).event
          0x18 0x0002 (d.get USB_CTRL_STAT_TAG + l.length * 2 ^ 8)
      else d' = d.traffic))
  ∧ (∀ (tag : Byte), Does (.ctrlAck tag) s (fun d d' =>
      if d.domOn 12 = false then d' = d
      else if tag.toNat = d.get USB_CTRL_STAT_TAG ∧ d.usb.stale = false ∧ d.usb.fn.hw = false ∧ (d.phase = 1 ∨ d.phase = 2) then
        d' = { d with usb := { d.usb with armed := true } } else d' = d))
  ∧ (∀ (tag : Byte), Does (.ctrlStall tag) s (fun d d' =>
      if d.domOn 12 = false then d' = d
      else if tag.toNat = d.get USB_CTRL_STAT_TAG ∧ d.usb.stale = false ∧ d.usb.fn.hw = false ∧ (d.phase = 1 ∨ d.phase = 2) then
        d'.phase = 3 ∧ d'.usb = { d.usb with shake := .stall } ∧ Dev.only { d with usb := d'.usb } [USB_CTRL_STAT_PHASE.key] d' else d' = d))
  ∧ (∀ (tag : Byte) (len : BitVec 11), Does (.ctrlDataIn tag len) s (fun d d' =>
      if d.domOn 12 = false then d' = d
      else if d.tagTaken tag.toNat = true ∧ d.phase = 1 ∧ (d.get USB_SETUP0_bmRequestType).testBit 7 = true then
        d'.phase = 2 ∧ d'.usb = { d.usb with data := d.cbuf (min len.toNat (d.get USB_SETUP1_wLength)), shake := .ack, armed := true }
          ∧ Dev.only { d with usb := d'.usb } [USB_CTRL_STAT_PHASE.key] d'
      else d' = d))
  ∧ (Does (.statusStageComplete) s (fun d d' =>
      if d.reached 12 = false then d' = d
      else d'.get USB_STAT_ULINK = (if d.get USB_STAT_ULINK = 1 ∨ d.get USB_STAT_ULINK = 2 then 0 else d.get USB_STAT_ULINK)
      ∧ (if d.phase = 2 ∧ d.usb.armed = true then d'.phase = 3 ∧ d'.usb.armed = false ∧ d'.usb.shake = .ack ∧ d'.usb.fn.hw = false
          ∧ (d.heldSlots = [] → d.usb.fn.hw = false → d' = ((d.traffic.set USB_CTRL_STAT_PHASE 3).modUsb (fun u => { u with armed := false })).shakes .ack)
          ∧ (d.usb.fn.hw = true → d.get USB_SETUP0_bRequest = 5 → d'.get USB_STAT_ADDR = d.get USB_SETUP0_wValue % 2 ^ 7)
          ∧ (d.usb.fn.hw = true → d.get USB_SETUP0_bRequest = 9 → d'.get USB_STAT_CONFIGURED = b2n (d.get USB_SETUP0_wValue == 1))
          ∧ (d.usb.fn.hw = true → d.get USB_SETUP0_bRequest = 11 → d.get USB_SETUP1_wIndex = 1 → d'.usb.alt = (d.get USB_SETUP0_wValue == 1))
        else if (d.phase = 1 ∨ d.phase = 2) ∧ d.usb.fn.hw = false then d.traffic.NotReady 0 d' else d' = d.traffic)))
  ∧ (Does (.ctrlTimeout) s (fun d d' =>
      if d.domOn 12 = false then d' = d
      else if (d.phase = 1 ∨ d.phase = 2) ∧ d.usb.armed = false ∧ d.usb.fn.hw = false then
        d'.phase = 4 ∧ d'.usb.stale = true ∧ d'.usb.shake = .stall ∧ d'.get USB_EVT_CTRL_TIMEOUT = 1
      else d' = d))
  ∧ (Does (.getInfo) s (fun d d' =>
      if d.domOn 12 = false then d' = d
      else if d.requested 1 true = false then d' = d
      else if d.get USB_SETUP0_wValue = 0 ∧ d.get USB_SETUP1_wIndex = 0 ∧ d.get USB_SETUP1_wLength = 32 then
        (d.phase ≠ 1 → d'.phase = 2) ∧ (d.phase = 1 → d'.phase = 2 ∧ d'.usb.shake = .ack ∧ d'.usb.armed = true
          ∧ (d.cycle.words = [] → d'.usb.data = natLE 8 d.uid ++ natLE 4 (d.readReg STN_ID_A) ++ natLE 4 (d.get ACD_EPOCH_EPOCH)
            ++ natLE 4 (d.readReg STN_STAT_A) ++ natLE 4 (d.readReg USB_WAKE_A) ++ natLE 8 0))
      else d'.phase = 3 ∧ d'.usb.shake = .stall))
  ∧ (∀ (t : Fin 32), Does (.gwBind t) s (fun d d' =>
      if d.domOn 12 = false then d' = d
      else if d.requested 2 false = false ∨ (d.openOf t).isSome = true then d' = d
      else if 8 ≤ d.wValue ∨ 1024 ≤ d.wIndex ∨ d.get USB_SETUP1_wLength ≠ 0 then d' = d.stall ∧ d'.usb.shake = .stall ∧ d'.phase = 3
      else d' = d.heldRequest t 2 true (USB_GWg_CFG_A d.wValue) (gwWord d.wIndex (d.get (USB_GWg_CFG_PCOL d.wValue)) 1) ∧ d.HoldsWord d'))
  ∧ (∀ (t : Fin 32), Does (.gwUnbind t) s (fun d d' =>
      if d.domOn 12 = false then d' = d
      else if d.requested 3 false = false ∨ (d.openOf t).isSome = true then d' = d
      else if 8 ≤ d.wValue ∨ d.wIndex ≠ 0 ∨ d.get USB_SETUP1_wLength ≠ 0 then d' = d.stall ∧ d'.usb.shake = .stall ∧ d'.phase = 3
      else d' = d.heldRequest t 3 true (USB_GWg_CFG_A d.wValue) (gwWord (d.get (USB_GWg_CFG_CTX d.wValue)) (d.get (USB_GWg_CFG_PCOL d.wValue)) 0)
        ∧ d.HoldsWord d'))
  ∧ (∀ (t : Fin 32), Does (.gwColour t) s (fun d d' =>
      if d.domOn 12 = false then d' = d
      else if d.requested 4 false = false ∨ (d.openOf t).isSome = true then d' = d
      else if 8 ≤ d.wValue ∨ 2 < d.wIndex ∨ d.get USB_SETUP1_wLength ≠ 0 then d' = d.stall ∧ d'.usb.shake = .stall ∧ d'.phase = 3
      else d' = d.heldRequest t 4 true (USB_GWg_CFG_A d.wValue) (gwWord (d.get (USB_GWg_CFG_CTX d.wValue)) d.wIndex (d.get (USB_GWg_CFG_EN d.wValue)))
        ∧ d.HoldsWord d'))
  ∧ (∀ (t : Fin 32), Does (.audTrim t) s (fun d d' =>
      if d.domOn 12 = false then d' = d
      else if d.requested 5 false = false ∨ (d.openOf t).isSome = true then d' = d
      else if 1 < d.wValue ∨ d.wIndex ≠ 0 ∨ d.get USB_SETUP1_wLength ≠ 0 then d' = d.stall ∧ d'.usb.shake = .stall ∧ d'.phase = 3
      else d' = d.heldRequest t 5 true USB_AUD_CFG_A d.wValue ∧ d.HoldsWord d'))
  ∧ (∀ (t : Fin 32), Does (.wakeMask t) s (fun d d' =>
      if d.domOn 12 = false then d' = d
      else if d.requested 6 false = false ∨ (d.openOf t).isSome = true then d' = d
      else if 255 < d.wValue ∨ d.wIndex ≠ 0 ∨ d.get USB_SETUP1_wLength ≠ 0 then d' = d.stall ∧ d'.usb.shake = .stall ∧ d'.phase = 3
      else d' = d.heldRequest t 6 true USB_WAKE_A (d.wValue * 2 ^ 8) ∧ d.HoldsWord d'))

/-- For every state: a bulk OUT packet on an unready gateway is NAKed and counted; a bulk IN takes the next delivered packet or is
NAKed; a read of the interrupt endpoint takes the oldest notice; a program's notice is queued only with a program's code; audio
frames enter the queue as room allows; the feedback endpoint reads F; LPM, suspend, wake and resume act on the link as R476 to
R478 say; over-current takes a hub port's power; a port's connection is noted while it is powered. (R462, R463, R464, R467,
R468, R469, R470, R476, R477, R478, R480, R482) -/
def Obligations.UsbEndpointsAndPowerComplete : Prop :=
  ∀ s : State,
  (∀ (g : Fin 8) (ping : Bool) (data : List Byte), Does (.gwOutPacket g ping data) s (fun d d' =>
      if d.reached 12 = false then d' = d
      else if d.get USB_STAT_CONFIGURED = 0 ∨ (ping = true ∧ 2 ≤ d.get USB_STAT_SPEED) then d' = d.traffic
      else if (1 + g.val) ∈ d.usb.fn.halts then d' = d.traffic.shakes .stall ∧ d'.usb.shake = .stall
      else if (d.gw g).absorb = true ∧ data = [] ∧ ping = false then d' = (d.traffic.setGw g { d.gw g with absorb := false }).shakes .ack
      else if d.outReady g = false then (d.traffic.inc (USB_GWg_NAKS_COUNT g)).NotReady (1 + g) d'
        ∧ d'.get (USB_GWg_NAKS_COUNT g) = (d.get (USB_GWg_NAKS_COUNT g) + 1) % 2 ^ 32
      else if ping = true then d' = d.traffic.shakes .ack
      else let x := d.begunPart g;
        let l := data.take d.bulkMax;
        let l' := x.part ++ l;
        let m := max 1 (d.maxLen x.ctx);
        let y := (d.traffic.shakes .ack).cutTunnel g (decide (l.length < d.bulkMax)) (l'.length + 1) false l';
        d' = (if d.get USB_STAT_SPEED = 1 ∧ y.outReady g = false then y.shakes .nyet else y) ∧ (d'.usb.shake = .ack ∨ d'.usb.shake = .nyet)
        ∧ (d.bulkMax ≤ data.length → l'.length < m → (d'.gw g).part = l' ∧ (d'.gw g).begun = true ∧ (d'.gw g).absorb = false ∧ d'.flds = d.traffic.flds)
        ∧ (d.bulkMax ≤ data.length → l'.length = m → d'.gw g = { Gateway.reset with absorb := true })
        ∧ (data.length < d.bulkMax → d'.gw g = Gateway.reset)
        ∧ (data.length < d.bulkMax ∨ l'.length = m → l'.length ≤ m → d'.get (USB_GWg_OUT_COUNT g) = (d.get (USB_GWg_OUT_COUNT g) + 1) % 2 ^ 32
          ∧ y.gw g = d'.gw g ∧ (data.length < d.bulkMax → y = ((((d.traffic.shakes .ack).setGw g Gateway.reset).inc (USB_GWg_OUT_COUNT g)).offer
              ⟨x.ctx, 22, l', some (min x.pcol 2), 0, none, false⟩)))))
  ∧ (∀ (g : Fin 8), Does (.gwInTransfer g) s (fun d d' =>
      if d.reached 12 = false then d' = d
      else if d.get USB_STAT_CONFIGURED = 0 then d' = d.traffic
      else if (0x81 + g.val) ∈ d.usb.fn.halts then d' = d.traffic.shakes .stall ∧ d'.usb.shake = .stall
      else match d.port.inq.get (1184 + g) [] with
      | [] => (d.traffic.inc (USB_GWg_NAKS_COUNT g)).NotReady (0x81 + g) d' ∧ d'.get (USB_GWg_NAKS_COUNT g) = (d.get (USB_GWg_NAKS_COUNT g) + 1) % 2 ^ 32
      | x :: t => d'.usb.data = x.payload ∧ d'.usb.shake = .ack ∧ d'.port.inq.get (1184 + g) [] = t
        ∧ d'.get (USB_GWg_IN_COUNT g) = (d.get (USB_GWg_IN_COUNT g) + 1) % 2 ^ 32
        ∧ d'.usb.packets.flatten = x.payload ∧ d'.usb.packets.length = x.payload.length / d.bulkMax + 1
        ∧ d'.usb.packets.all (fun l => decide (l.length ≤ d.bulkMax)) = true ∧ (d'.usb.packets.getLast?.map List.length) = some (x.payload.length % d.bulkMax)))
  ∧ (Does (.noticeRead) s (fun d d' =>
      if d.reached 12 = false then d' = d
      else if d.get USB_STAT_CONFIGURED = 0 then d' = d.traffic
      else if 0x89 ∈ d.usb.fn.halts then d' = d.traffic.shakes .stall ∧ d'.usb.shake = .stall
      else match d.usb.notices with
      | [] => d.traffic.NotReady 0x89 d'
      | n :: t => d'.usb.data = n.bytes ∧ d'.usb.shake = .ack ∧ d'.usb.lost = 0
        ∧ (d.usb.lost = 0 → d'.usb.notices = t ∧ d'.get USB_NOTE_STAT_DEPTH = t.length % 2 ^ USB_NOTE_STAT_DEPTH.w)
        ∧ (d.usb.lost = 0 → n.code = 1 → ∀ b ∈ List.range 8, (d'.get USB_WAKE_PEND).testBit b = ((d.get USB_WAKE_PEND).testBit b && !n.arg.testBit b))
        ∧ (0 < d.usb.lost → t.length < 32 → d'.usb.notices = t ++ [⟨2, 0, d.usb.seq, d.stamp, d.usb.lost % 2 ^ 32⟩])))
  ∧ (Does (.notePush) s (fun d d' =>
      if d.domOn 12 = false then d' = d
      else if d.get (USB_NOTE_Wk_WORD 0) % 2 ^ 16 < 0x8000 then d' = d
      else if 32 ≤ d.usb.notices.length then d'.get USB_EVT_NOTE_OVF = 1 ∧ d'.usb.notices = d.usb.notices ∧ d'.usb.lost = d.usb.lost + 1
      else d'.usb.notices = d.usb.notices ++ [⟨d.get (USB_NOTE_Wk_WORD 0) % 2 ^ 16, 1, d.usb.seq, d.stamp, d.get (USB_NOTE_Wk_WORD 2) + d.get (USB_NOTE_Wk_WORD 3) * 2 ^ 32⟩]
        ∧ d'.usb.seq = (d.usb.seq + 1) % 256 ∧ d'.usb.lost = d.usb.lost))
  ∧ (∀ (data : List Byte), Does (.audIsoOut data) s (fun d d' =>
      if d.reached 12 = false then d' = d
      else if d.usb.alt = false ∨ data.length % 6 ≠ 0 ∨ 48 < data.length then d' = d.traffic
      else d'.usb.fifo = d.usb.fifo ++ (framesOf (data.length / 6) data).take (1024 - d.usb.fifo.length)
        ∧ d'.get AUD_STAT_FILL = d'.usb.fifo.length % 2 ^ AUD_STAT_FILL.w
        ∧ (1024 - d.usb.fifo.length < data.length / 6 → d'.get USB_EVT_AUD_OVER = 1
          ∧ d'.get AUD_OVER_COUNT = (d.get AUD_OVER_COUNT + (data.length / 6 - (1024 - d.usb.fifo.length))) % 2 ^ 32)))
  ∧ (Does (.audFeedbackRead) s (fun d d' =>
      if d.reached 12 = false then d' = d
      else d'.usb = { d.usb with data := natLE 4 (d.get AUD_FB_F) } ∧ Dev.only { d with usb := d'.usb } [USB_STAT_ULINK.key] d'
      ∧ d'.get USB_STAT_ULINK = (if d.get USB_STAT_ULINK = 1 ∨ d.get USB_STAT_ULINK = 2 then 0 else d.get USB_STAT_ULINK)))
  ∧ (∀ (ns : Word), Does (.audTrimUpdate ns) s (fun d d' =>
      if d.domOn 12 = false then d' = d
      else if ns.toNat = 0 then d' = d else Dev.only d [AUD_RATE_PPB.key, AUD_FB_F.key] d'
      ∧ d'.get AUD_FB_F = ((24576 : Int) * (1000000000 + sgn 32 (d.get AUD_RATE_PPB)) * ns.toNat / 1000000000000000).toNat % 2 ^ AUD_FB_F.w
      ∧ (d.get USB_AUD_CFG_TRIM = 0 → d'.get AUD_RATE_PPB = 0)
      ∧ (d.get USB_AUD_CFG_TRIM = 1 → -500000 ≤ sgn 32 (d.get AUD_RATE_PPB) → sgn 32 (d.get AUD_RATE_PPB) ≤ 500000 →
          sgn 32 (d.get AUD_RATE_PPB) - 1000 ≤ sgn 32 (d'.get AUD_RATE_PPB) ∧ sgn 32 (d'.get AUD_RATE_PPB) ≤ sgn 32 (d.get AUD_RATE_PPB) + 1000
          ∧ -500000 ≤ sgn 32 (d'.get AUD_RATE_PPB) ∧ sgn 32 (d'.get AUD_RATE_PPB) ≤ 500000)))
  ∧ (Does (.lpmL1Request) s (fun d d' =>
      if d.reached 12 = false then d' = d
      else if d.get USB_STAT_SPEED ≠ 1 then d' = d
      else d'.usb = { d.usb with shake := (if d.get USB_CTL_LPM_EN = 0 then .stall else if d.usb.alt = true ∨ d.usb.notices ≠ [] then .nyet else .ack) }
        ∧ d'.get USB_STAT_L1 = (if d'.usb.shake = .ack then 1 else d.get USB_STAT_L1) ∧ Dev.only { d with usb := d'.usb } [USB_STAT_L1.key] d'))
  ∧ (Does (.usbSuspend) s (fun d d' =>
      if d.reached 12 = false then d' = d
      else if d.get USB_STAT_SPEED = 0 ∨ d.get USB_STAT_SUSPENDED = 1 then d' = d
      else d'.get USB_STAT_SUSPENDED = 1 ∧ d'.get USB_STAT_L1 = 0 ∧ d'.get USB_EVT_SUSPEND = 1 ∧ d'.get USB_CTL_WAKE = 0 ∧ d'.usb.fn.fnWake = false
        ∧ d'.get USB_STAT_ULINK = (if 2 ≤ d.get USB_STAT_SPEED then 3 else d.get USB_STAT_ULINK)))
  ∧ (Does (.usbWakeWrite) s (fun d d' =>
      if d.domOn 12 = false then d' = d
      else if d.get USB_STAT_SUSPENDED = 1 ∨ d.usb.fn.fsusp = true then d'.get USB_CTL_WAKE = 0
        ∧ d'.get USB_WAKE_PEND = (d.get USB_WAKE_PEND ||| 2 ^ 2) % 2 ^ USB_WAKE_PEND.w ∧ d.only [USB_CTL_WAKE.key, USB_WAKE_PEND.key] d'
      else d' = d.set USB_CTL_WAKE 1))
  ∧ (Does (.remoteWakeSignal) s (fun d d' =>
      if d.domOn 12 = false then d' = d
      else if (d.get USB_STAT_SUSPENDED = 0 ∧ d.usb.fn.fsusp = false) ∨ d.get USB_STAT_RWAKE_EN = 0 ∨ (d.get USB_WAKE_PEND &&& d.get USB_WAKE_MASK) = 0 then d' = d
      else if d.get USB_STAT_SUSPENDED = 1 then d' = { d with usb := { d.usb with waking := true } }
      else d'.usb = { d.usb with fn := { d.usb.fn with fnWake := true } } ∧ Dev.only { d with usb := d'.usb } [USB_STAT_ULINK.key] d'
        ∧ d'.get USB_STAT_ULINK = (if d.get USB_STAT_ULINK = 1 ∨ d.get USB_STAT_ULINK = 2 then 0 else d.get USB_STAT_ULINK)))
  ∧ (∀ (own : Bool), Does (.hostResume own) s (fun d d' =>
      if d.reached 12 = false then d' = d
      else d'.get USB_STAT_L1 = 0 ∧ (if d.get USB_STAT_SUSPENDED = 0 then d.only [USB_STAT_L1.key, USB_STAT_ULINK.key] d'
          ∧ d'.get USB_STAT_ULINK = (if d.get USB_STAT_ULINK = 1 ∨ d.get USB_STAT_ULINK = 2 then 0 else d.get USB_STAT_ULINK)
        else d'.get USB_STAT_SUSPENDED = 0 ∧ d'.get USB_STAT_ULINK = 0 ∧ d'.get USB_EVT_RESUME = 1 ∧ d'.usb.waking = false
          ∧ (d.wantsWake = true → (own && d.usb.waking) = false → d'.get USB_EVT_WAKE_COLLIDE = 1)
          ∧ (own = true → d.usb.waking = true → 2 ≤ d.get USB_STAT_SPEED → d'.usb.fn.fnWake = true)
          ∧ d'.usb.wakeDue = (d.get USB_STAT_CONFIGURED == 0))))
  ∧ (∀ (e : Fin 7), Does (.portOvercurrent e) s (fun d d' =>
      if d.reached 12 = false then d' = d
      else d'.get (USB_HPp_PWR e) = 0 ∧ d'.get (USB_HPp_OC e) = 1 ∧ d'.get (USB_HPp_CONN e) = 0 ∧ d'.get (USB_HPp_ENABLED e) = 0
      ∧ d'.get USB_EVT_PORT_OC = 1 ∧ d'.usb.changes.get e 0 = d.usb.changes.get e 0 ||| 2 ^ 3))
  ∧ (∀ (e : Fin 15) (what speed : Fin 3), Does (.hubPortConnect e what speed) s (fun d d' =>
      if d.reached 12 = false then d' = d
      else if what = 0 ∧ d.get (USB_HPp_CONN e) = 0 then d' = d
      else if what = 0 then d'.get (USB_HPp_CONN e) = 0 ∧ d'.get (USB_HPp_ENABLED e) = 0 ∧ d'.get (USB_HPp_SUSP e) = 0 ∧ d'.usb.changes.get e 0 = d.usb.changes.get e 0 ||| 1
      else if d.portLive e = false ∨ d.get (USB_HPp_HIDE e) = 1 then d' = d
      else if what = 1 then d'.get (USB_HPp_CONN e) = 1 ∧ d'.get (USB_HPp_SPEED e) = speed ∧ d'.usb.changes.get e 0 = d.usb.changes.get e 0 ||| 1
        ∧ d'.get USB_WAKE_PEND = (if d.get USB_STAT_SUSPENDED = 1 then (d.get USB_WAKE_PEND ||| 2 ^ 3) % 2 ^ USB_WAKE_PEND.w else d.get USB_WAKE_PEND)
      else if d.get (USB_HPp_CONN e) = 1 then d'.get (USB_HPp_SUSP e) = 0 ∧ d'.usb.changes.get e 0 = d.usb.changes.get e 0 ||| 4
      else d' = d))
  ∧ (Does (.audFrameOut) s (fun d d' =>
      if d.domOn 12 = false then d' = d
      else if d.get AUD_CTL_EN = 0 then d' = d
      else d'.usb.bits = ((List.range 32).map (fun k => (false, decide (1 ≤ k) && decide (k ≤ 24) && d'.usb.frame.1.testBit (24 - k))))
          ++ ((List.range 32).map (fun k => (true, decide (1 ≤ k) && decide (k ≤ 24) && d'.usb.frame.2.testBit (24 - k))))
        ∧ (if d.get AUD_STAT_RUN = 0 ∧ (d.usb.alt = false ∨ d.usb.fifo.length < 512) then
            d' = { d with usb := { d.usb with frame := (0, 0), bits := d'.usb.bits } }
          else d'.get AUD_STAT_RUN = 1 ∧ d'.usb.fifo = d.usb.fifo.drop 1 ∧ d'.usb.frame = d.usb.fifo.headD (0, 0)
            ∧ (d.usb.fifo ≠ [] → d'.get AUD_STAT_FILL = (d.usb.fifo.length - 1) % 2 ^ AUD_STAT_FILL.w)
            ∧ (d.usb.fifo = [] → d.usb.dry = false → d'.get USB_EVT_AUD_UNDER = 1 ∧ d'.get AUD_UNDER_COUNT = (d.get AUD_UNDER_COUNT + 1) % 2 ^ 32))))
  ∧ (∀ (u2 host : Bool), Does (.usbLinkIdleTimer u2 host) s (fun d d' =>
      if d.reached 12 = false then d' = d
      else let on := if u2 then d.usb.fn.u2 else d.usb.fn.u1;
      let goes := on && ((d.get USB_STAT_ULINK == (if u2 then 1 else 0)) || (u2 && host && d.get USB_STAT_ULINK == 0));
      if 2 ≤ d.get USB_STAT_SPEED ∧ d.get USB_STAT_SUSPENDED = 0 then
        d'.get USB_STAT_ULINK = (if goes = true then (if u2 then 2 else 1) else d.get USB_STAT_ULINK)
        ∧ d'.usb = { d.usb with shake := if host then (if goes = true then .lau else .lxu) else d.usb.shake }
        ∧ Dev.only { d with usb := d'.usb } [USB_STAT_ULINK.key] d'
      else d' = d))

/-- For every state: a feed becomes valid only where it is enabled and not locked out; a selected feed that becomes invalid in RAMP
or ON gives way to the other, or the controller enters SELECT; over-voltage pulls the gate without a trip; the revert timer
changes to a valid preferred feed; the dead time ends in RAMP; both seat pins start and end the debounce; a lost seat unseats
and counts; SELECT starts the gate drive of a valid feed once the off time has passed; EN written enters UNSEATED or OFF. (R490,
R491, R492, R497, R505) -/
def Obligations.FeedSelectionAndSeatComplete : Prop :=
  ∀ s : State,
  (∀ (x : Fin 2) (v : BitVec 12), Does (.feedValid x v) s (fun d d' =>
      d'.feedValid x = (d.feedValid x || (d.flag (if x = 0 then HSW_CTL_A_EN else HSW_CTL_B_EN) && !d.flag (if x = 0 then HSW_STAT_LOCK_A else HSW_STAT_LOCK_B)
          && decide (d.get (if x = 0 then HSW_UVOV_A_UV else HSW_UVOV_B_UV) ≤ v.toNat ∧ v.toNat ≤ d.get (if x = 0 then HSW_UVOV_A_OV else HSW_UVOV_B_OV))))
      ∧ d.only [HSW_STAT_A_VALID.key, HSW_STAT_B_VALID.key] d' ∧ d'.feedValid (1 - x) = d.feedValid (1 - x)))
  ∧ (∀ (x : Fin 2) (v : BitVec 12), Does (.feedInvalid x v) s (fun d d' =>
      if v.toNat + 25 < d.get (if x = 0 then HSW_UVOV_A_UV else HSW_UVOV_B_UV) ∨ d.get (if x = 0 then HSW_UVOV_A_OV else HSW_UVOV_B_OV) < v.toNat then
        d'.feedValid x = false ∧ d.only [HSW_STAT_A_VALID.key, HSW_STAT_B_VALID.key] d' ∧ d'.feedValid (1 - x) = d.feedValid (1 - x)
        ∧ (d.quietTick → d.feed = x → d.hswState = 4 ∨ d.hswState = 5 → d'.LosesFeed d'.hswTick)
      else d' = d))
  ∧ (∀ (v : BitVec 12), Does (.feedOv v) s (fun d d' =>
      if (d.hswState = 4 ∨ d.hswState = 5) ∧ d.get (if d.feed = 0 then HSW_UVOV_A_OV else HSW_UVOV_B_OV) < v.toNat then
        d'.hsw.meets = { d.hsw.meets with high := true } ∧ d' = { d with hsw := d'.hsw }
        ∧ (d.quietTick → d'.hswTick.hswState = d.selectState ∧ d'.hswTick.get HSW_EVT_FEED_OV = 1 ∧ d'.hswTick.get HSW_STAT_PGOOD = 0
          ∧ d'.hswTick.get HSW_HIST_TRIPS = d.get HSW_HIST_TRIPS)
      else d' = d))
  ∧ (Does (.feedRevertTimer) s (fun d d' =>
      if d.get HSW_CTL_REVERT = 1 ∧ d.feed ≠ d.get HSW_CTL_PREF_B ∧ d.feedValid (d.get HSW_CTL_PREF_B) = true ∧ (d.hswState = 4 ∨ d.hswState = 5) then
        d'.hswState = 6 ∧ d'.feed = d.get HSW_CTL_PREF_B ∧ d'.get HSW_EVT_SWITCHOVER = 1
        ∧ d'.get HSW_SWITCHOVERS_COUNT = (d.get HSW_SWITCHOVERS_COUNT + 1) % 2 ^ 32 ∧ d'.get HSW_STAT_FT_RUN = 0 ∧ d'.get HSW_STAT_PGOOD = d.get HSW_STAT_PGOOD
      else d' = d))
  ∧ (∀ (us : Fin 10), Does (.switchDeadTimeEnd us) s (fun d d' =>
      if d.hswState ≠ 6 then d' = d
      else d'.hsw.ramped = false ∧ d'.hsw.gateOn = false ∧ d'.hsw.driven = 0 ∧ d'.hsw.driveAt = us
        ∧ (if d.feedValid d.feed then d'.hswState = 4 ∧ Dev.only { d with hsw := d'.hsw } [HSW_STAT_STATE.key] d' else d.LosesFeed d')))
  ∧ (Does (.seatAssert) s (fun d d' =>
      d'.get HSW_STAT_SEAT0 = 1 ∧ d'.get HSW_STAT_SEAT1 = 1 ∧ d'.hswState = (if d.hswState = 1 then 2 else d.hswState)
      ∧ d.only [HSW_STAT_SEAT0.key, HSW_STAT_SEAT1.key, HSW_STAT_STATE.key] d'))
  ∧ (Does (.seatDebounceDone) s (fun d d' =>
      if d.hswState = 2 then d'.hswState = d.selectState ∧ d'.get HSW_STAT_FT_RUN = 0
        ∧ d'.hsw = { d.hsw with loose := false, keepUv := none } ∧ Dev.only { d with hsw := d'.hsw } [HSW_STAT_STATE.key, HSW_STAT_FT_RUN.key] d'
      else if d.hswState = 8 ∧ d.get HSW_STAT_SEAT0 = 1 ∧ d.get HSW_STAT_SEAT1 = 1 then d' = { d with hsw := { d.hsw with loose := false } }
      else d' = d))
  ∧ (∀ (pin : Fin 2), Does (.seatLost pin) s (fun d d' =>
      d'.get (if pin = 0 then HSW_STAT_SEAT0 else HSW_STAT_SEAT1) = 0
      ∧ (if d.get HSW_STAT_SEAT0 = 0 ∨ d.get HSW_STAT_SEAT1 = 0 then d.only [(if pin = 0 then HSW_STAT_SEAT0 else HSW_STAT_SEAT1).key] d'
        else d'.get HSW_EVT_SEAT_LOST = 1 ∧ d'.get HSW_SEATLOSS_COUNT = (d.get HSW_SEATLOSS_COUNT + 1) % 2 ^ 32
          ∧ d'.hswState = (if d.hswState = 0 ∨ d.hswState = 8 then d.hswState else 1)
          ∧ (d.hswState = 8 → d'.hsw.loose = true) ∧ d'.hsw.owed = (d.hsw.owed || d.hswState != 2)
          ∧ (1 < d.hswState → d.hswState ≠ 8 → d'.get HSW_STAT_PGOOD = 0 ∧ d'.get HSW_STAT_FT_RUN = 0)
          ∧ d'.get HSW_HIST_TRIPS = d.get HSW_HIST_TRIPS ∧ d'.get HSW_HIST_RETRIES = d.get HSW_HIST_RETRIES)))
  ∧ (∀ (us : Fin 10), Does (.selectStart us) s (fun d d' =>
      if d.hswState = 3 ∧ d.hsw.offLeft = 0 ∧ (d.feedValid 0 = true ∨ d.feedValid 1 = true) then
        d'.hswState = 4 ∧ d'.feed = (if d.feedValid (d.get HSW_CTL_PREF_B) then d.get HSW_CTL_PREF_B else 1 - d.get HSW_CTL_PREF_B) ∧ d'.hsw.owed = false
        ∧ d'.hsw.ramped = false ∧ d'.hsw.gateOn = false ∧ d'.hsw.driven = 0 ∧ d'.hsw.driveAt = us
        ∧ (if d.hsw.owed then d'.get HSW_EVT_RETRY = 1 ∧ d'.get HSW_RETRIES_COUNT = (d.get HSW_RETRIES_COUNT + 1) % 2 ^ 32
            ∧ d'.get HSW_HIST_RETRIES = min 255 (d.get HSW_HIST_RETRIES + 1)
          else d'.get HSW_RETRIES_COUNT = d.get HSW_RETRIES_COUNT)
      else d' = d))
  ∧ (Does (.hswEnable) s (fun d d' =>
      d'.get HSW_CTL_EN = 1 ∧ d'.hswState = (if d.hswState = 0 then (if d.get HSW_STAT_SEAT0 = 1 ∧ d.get HSW_STAT_SEAT1 = 1 then 2 else 1) else d.hswState) ∧ d.only [HSW_CTL_EN.key, HSW_STAT_STATE.key] d'))
  ∧ (Does (.hswDisable) s (fun d d' =>
      d'.get HSW_CTL_EN = 0 ∧ d'.hswState = 0 ∧ d'.get HSW_STAT_PGOOD = 0
      ∧ d'.feedValid 0 = d.feedValid 0 ∧ d'.feedValid 1 = d.feedValid 1))

/-- For every state: ON is entered once the ramp is complete and the gate is on; a ramp timeout and a slow trip are slow trips, a
fast trip a fast one, each in its own states; a gate that does not rise locks its feed out; the fault timer starts once and
resets; the end of the off time counts a retry and returns to SELECT; the history clears on a quiet minute or a command; the
lockout and latch commands clear their own; SNAP copies the energy and CLR_ENERGY clears it; a sample shows its means; a read of
HSW_I clears PEAK. (R493, R494, R495, R496, R501, R502, R504, R506, R510) -/
def Obligations.HotSwapTripsAndMetersComplete : Prop :=
  ∀ s : State,
  (∀ (vin vout : BitVec 12), Does (.rampComplete vin vout) s (fun d d' =>
      if d.hswState = 4 ∧ vin.toNat ≤ vout.toNat + 50 then d'.hsw.ramped = true ∧ d'.hsw.gateOn = d.hsw.gateOn
        ∧ d'.hswState = (if d.hsw.gateOn then 5 else 4) ∧ Dev.only { d with hsw := d'.hsw } [HSW_STAT_STATE.key] d'
      else d' = d))
  ∧ (Does (.gateOn) s (fun d d' =>
      if d.hswState = 4 then d'.hsw.gateOn = true ∧ d'.hsw.ramped = d.hsw.ramped ∧ d'.hswState = (if d.hsw.ramped then 5 else 4)
        ∧ Dev.only { d with hsw := d'.hsw } [HSW_STAT_STATE.key] d'
      else d' = d))
  ∧ (∀ (us : Fin 10), Does (.rampTimeout us) s (fun d d' =>
      if d.quietTick ∧ d.hswState = 4 ∧ d.hsw.ramped = false ∧ 400 * d.vinNow + 5000 * max 1 (d.get HSW_RAMP_SLEW) ≤ max 1 (d.get HSW_RAMP_SLEW) * d.driveTime us then
        d.TripsHsw false (d.driveTime us) d'
      else d.quietTick → d' = d))
  ∧ (Does (.gateRiseTimeout) s (fun d d' =>
      if d.hswState = 4 ∧ d.hsw.ramped = true ∧ d.hsw.gateOn = false then
        d'.hsw.meets = { d.hsw.meets with rise := true } ∧ d' = { d with hsw := d'.hsw }
        ∧ (d.quietTick → d'.hswTick.get (if d.feed = 0 then HSW_STAT_LOCK_A else HSW_STAT_LOCK_B) = 1 ∧ d'.hswTick.feedValid d.feed = false
          ∧ d'.hswTick.hswState = (d.set (if d.feed = 0 then HSW_STAT_LOCK_A else HSW_STAT_LOCK_B) 1).selectState
          ∧ d'.hswTick.get HSW_EVT_FET_DAMAGED = 1 ∧ d'.hswTick.feed = (if d.feedValid (1 - d.feed) then 1 - d.feed else d.feed))
      else d' = d))
  ∧ (∀ (sense : BitVec 13) (us : Fin 10), Does (.fastTrip sense us) s (fun d d' =>
      if sense.toNat ≤ max (4 * d.get HSW_ILIM_FAST) (5 * d.get HSW_ILIM_SLOW) then d' = d
      else if d.quietTick ∧ (d.hswState = 4 ∨ d.hswState = 5) then
        d.TripsHsw true (if d.hswState = 5 ∧ d.get HSW_STAT_FT_RUN = 1 then d.timerTime us else d.driveTime us) d'
      else (d.hsw.meets.lost = none → d.hswState ≠ 4 → d.hswState ≠ 5 →
        if d.hsw.meets.slow then d'.get HSW_FAST_TRIPS_COUNT = (d.get HSW_FAST_TRIPS_COUNT + 1) % 2 ^ 32 ∧ d'.get HSW_EVT_FAST_TRIP = 1
          ∧ d'.hsw.meets.slow = false ∧ d'.hswState = d.hswState ∧ d'.get HSW_HIST_TRIPS = d.get HSW_HIST_TRIPS
        else d' = d)))
  ∧ (∀ (sense : BitVec 12) (us : Fin 10), Does (.faultTimerStart sense us) s (fun d d' =>
      if (d.hswState = 4 ∨ d.hswState = 5) ∧ d.get HSW_STAT_FT_RUN = 0 ∧ 4 * d.get HSW_ILIM_SLOW < sense.toNat then
        d'.get HSW_STAT_FT_RUN = 1 ∧ d'.hsw = { d.hsw with faultTo := max 1 (min 500 (d.get HSW_TIMER_FAULT_TO)), timed := 0, timedAt := us }
        ∧ Dev.only { d with hsw := d'.hsw } [HSW_STAT_FT_RUN.key] d'
      else d' = d))
  ∧ (∀ (sense : BitVec 12), Does (.faultTimerReset sense) s (fun d d' =>
      if d.get HSW_STAT_FT_RUN = 1 ∧ 10 * sense.toNat < 36 * d.get HSW_ILIM_SLOW then
        d'.hsw.meets = { d.hsw.meets with calm := true } ∧ d' = { d with hsw := d'.hsw } ∧ (d.quietTick → d'.hswTick.get HSW_STAT_FT_RUN = 0)
      else d' = d))
  ∧ (∀ (us : Fin 10), Does (.slowTrip us) s (fun d d' =>
      if d.quietTick ∧ d.get HSW_STAT_FT_RUN = 1 ∧ (d.hswState = 4 ∨ d.hswState = 5) then
        d.TripsHsw false (max (100 * d.hsw.faultTo) (if d.hswState = 4 then d.driveTime us else 0)) d'
      else d.quietTick → d' = d))
  ∧ (Does (.retryWaitEnd) s (fun d d' =>
      d'.hsw.offLeft = 0 ∧ d'.get HSW_HIST_WAIT = 0 ∧ d'.hswState = d.hswState ∧ Dev.only { d with hsw := d'.hsw } [HSW_HIST_WAIT.key] d'
      ∧ (if d.hswState = 7 then d'.hsw.meets.ended = true ∧ (d.quietTick → d'.hswTick.hswState = d.selectState ∧ d'.hswTick.get HSW_EVT_RETRY = 1
          ∧ d'.hswTick.get HSW_RETRIES_COUNT = (d.get HSW_RETRIES_COUNT + 1) % 2 ^ 32 ∧ d'.hswTick.get HSW_HIST_RETRIES = min 255 (d.get HSW_HIST_RETRIES + 1))
        else d'.hsw.meets = d.hsw.meets)))
  ∧ (Does (.historyClearTimer) s (fun d d' =>
      if d.get HSW_STAT_PGOOD = 1 ∧ d.get HSW_STAT_FT_RUN = 0 then d'.get HSW_HIST_TRIPS = 0 ∧ d'.get HSW_HIST_RETRIES = 0 ∧ d'.get HSW_HIST_WAIT = 0
        ∧ d'.hsw.offLeft = 0 ∧ d'.get HSW_EVT_HIST_CLEAR = 1
      else d' = d))
  ∧ (Does (.hswClrLatch) s (fun d d' =>
      d'.hsw.meets = { d.hsw.meets with unlatched := true }
      ∧ d'.hswState = (if d.hswState ≠ 8 then d.hswState else if d.hsw.loose = true ∧ d.get HSW_STAT_SEAT0 = 1 ∧ d.get HSW_STAT_SEAT1 = 1 then 2 else d.selectState)
      ∧ d'.hsw.offLeft = d.hsw.offLeft ∧ Dev.only { d with hsw := d'.hsw } [HSW_STAT_STATE.key, HSW_STAT_FT_RUN.key] d'))
  ∧ (Does (.hswClrLockA) s (fun d d' =>
      d'.get HSW_STAT_LOCK_A = 0 ∧ (if d.hswState = 9 then d'.hswState = (d.set HSW_STAT_LOCK_A 0).selectState
          ∧ Dev.only { d with hsw := d'.hsw } [HSW_STAT_LOCK_A.key, HSW_STAT_STATE.key, HSW_STAT_FT_RUN.key] d'
        else d.only [HSW_STAT_LOCK_A.key] d')))
  ∧ (Does (.hswClrLockB) s (fun d d' =>
      d'.get HSW_STAT_LOCK_B = 0 ∧ (if d.hswState = 9 then d'.hswState = (d.set HSW_STAT_LOCK_B 0).selectState
          ∧ Dev.only { d with hsw := d'.hsw } [HSW_STAT_LOCK_B.key, HSW_STAT_STATE.key, HSW_STAT_FT_RUN.key] d'
        else d.only [HSW_STAT_LOCK_B.key] d')))
  ∧ (Does (.hswClrHist) s (fun d d' =>
      d'.get HSW_HIST_TRIPS = 0 ∧ d'.get HSW_HIST_RETRIES = 0 ∧ d'.get HSW_HIST_WAIT = 0
      ∧ d'.hsw = { d.hsw with offLeft := 0, owed := false, meets := { d.hsw.meets with cleared := true } }
      ∧ Dev.only { d with hsw := d'.hsw } [HSW_HIST_TRIPS.key, HSW_HIST_RETRIES.key, HSW_HIST_WAIT.key] d'))
  ∧ (Does (.hswClrEnergy) s (fun d d' =>
      d' = { d with hsw := { d.hsw with energy := 0, frac := 0 } }))
  ∧ (Does (.hswSnap) s (fun d d' =>
      d'.get HSW_E_LO_UJ = d.hsw.energy % 2 ^ 32 ∧ d'.get HSW_E_HI_UJ = d.hsw.energy / 2 ^ 32 % 2 ^ 32 ∧ d.only [HSW_E_LO_UJ.key, HSW_E_HI_UJ.key] d'))
  ∧ (∀ (va vb vout sense : BitVec 12), Does (.hswAdcSample va vb vout sense) s (fun d d' =>
      d'.hsw.samples = ((va.toNat, vb.toNat, vout.toNat, sense.toNat) :: d.hsw.samples).take 100
      ∧ d'.hsw.energy = (d.hsw.energy + (d.hsw.frac + (if d.get HSW_RSENSE_UOHM = 0 then 0
          else ((vout.toNat * sense.toNat * 5 : Nat) : Rat) / ((d.get HSW_RSENSE_UOHM : Nat) : Rat))).floor.toNat) % 2 ^ 64
      ∧ d'.hsw.offLeft = d.hsw.offLeft - 1 ∧ d'.get HSW_VA_V = meanOf (d'.hsw.samples.map (·.1)) % 2 ^ HSW_VA_V.w
      ∧ d'.get HSW_VB_V = meanOf (d'.hsw.samples.map (·.2.1)) % 2 ^ HSW_VB_V.w))
  ∧ (Does (.hswIRead) s (fun d d' =>
      d'.get HSW_I_PEAK = 0 ∧ d.only [HSW_I_PEAK.key] d'))

/-- For every state and domain: a request with TARGET 3, or of AON, is discarded or refused; one made during a transition becomes
the next target; a drydown passes its phases in order, each command acting only in its own phase; HOLD latches the pads, and the
supply goes off in RET or OFF with DRY_DONE raised; a waking domain reaches ON with WAKE_DONE raised; an enabled wake source
that names a domain not ON latches; pads are released only of a domain that is ON and not held down. (R511, R512, R513, R515,
R516, R517, R519, R520, R521, R529) -/
def Obligations.PowerDomainsComplete : Prop :=
  ∀ s : State,
  (∀ (n : Fin 13) (target : Fin 4), Does (.domainRequestWrite n target) s (fun d d' =>
      if target = 3 ∨ (n = 0 ∧ target = 0) then d' = d
      else if n = 0 then d'.get (PWR_Dd_STAT_ERR 0) = 3 ∧ d'.get PWR_EVT_REFUSED = 1 ∧ d' = d.pwrRefuse 0 3
      else d'.get (PWR_Dd_REQ_TARGET n) = target
        ∧ (if d.phaseOf n ≠ 0 then d'.get (PWR_Dd_STAT_NEXT n) = target ∧ d.only [(PWR_Dd_REQ_TARGET n).key, (PWR_Dd_STAT_NEXT n).key] d'
          else if target = 0 then (if d.domState n = 0 then d.only [(PWR_Dd_REQ_TARGET n).key] d'
            else n.val ∈ d'.power.waking ∧ d'.domState n = d.domState n
              ∧ (d.power.avs = none → d.get PWR_AVS_STAT_LOW = 0 → (requires n).all d.steady = true → d'.phaseOf n = 7))
          else if d.wakeLatched n = true then d'.get (PWR_Dd_STAT_ERR n) = 2 ∧ d'.get PWR_EVT_REFUSED = 1 ∧ d'.domState n = d.domState n ∧ d'.phaseOf n = 0
          else if d.domState n = 0 then
            (if d.dependent n = true then d'.get (PWR_Dd_STAT_ERR n) = 1 ∧ d'.get PWR_EVT_REFUSED = 1 ∧ d'.phaseOf n = 0
            else d'.phaseOf n = 1 ∧ (d'.power.aims.get n (0, false)).1 = target
              ∧ (d.pendingSlots = [] → (d'.power.aims.get n (0, false)).2 = true ∧ d.Quiesced n (target == 1) d'))
          else if d.domState n = 1 ∧ target = 2 then d'.domState n = 2 ∧ d'.get PWR_EVT_DRY_DONE = 1
          else Dev.only { d with power := d'.power } [(PWR_Dd_REQ_TARGET n).key] d' ∧ n.val ∉ d'.power.waking)))
  ∧ (∀ (n : Fin 13), Does (.quiesceDone n) s (fun d d' =>
      if d.phaseOf n ≠ 1 then d' = d
      else if (d.power.aims.get n (0, false)).2 = true then d.only [(PWR_Dd_STAT_PHASE n).key] d' ∧ d'.phaseOf n = 2
      else if d.heldUp n = true then d' = d
      else d' = (d.quiesceIf n).set (PWR_Dd_STAT_PHASE n) 2 ∧ d'.phaseOf n = 2 ∧ (d'.power.aims.get n (0, false)) = ((d.power.aims.get n (0, false)).1, true)
        ∧ d.Quiesced n ((d.power.aims.get n (0, false)).1 == 1) d'))
  ∧ (∀ (n : Fin 13), Does (.drainDone n) s (fun d d' =>
      if d.phaseOf n = 2 ∧ d.inFlight n = false then d'.phaseOf n = 3 ∧ d.only [(PWR_Dd_STAT_PHASE n).key] d' else d' = d))
  ∧ (∀ (n : Fin 13), Does (.drainTimeout n) s (fun d d' =>
      if d.phaseOf n = 2 ∧ n ≠ 11 then d'.phaseOf n = 3 ∧ d'.get PWR_EVT_DRAIN_FORCED = 1
        ∧ d'.posted = d.posted.filter (fun w => !(powerDomain w.addr == n.val || (n.val == 1 && onPowerDie w.addr)))
        ∧ d'.key.running = (if n = 4 then [] else d.key.running)
      else d' = d))
  ∧ (∀ (n : Fin 13), Does (.clockstopDone n) s (fun d d' =>
      if d.phaseOf n = 3 then d'.phaseOf n = 4 ∧ d.only [(PWR_Dd_STAT_PHASE n).key] d' else d' = d))
  ∧ (∀ (n : Fin 13), Does (.holdDone n) s (fun d d' =>
      if d.phaseOf n = 4 then d'.get (PWR_Dd_STAT_HELD n) = 1 ∧ d'.phaseOf n = (if (d.power.aims.get n (0, false)).1 = 1 then 5 else 6)
        ∧ Dev.only { d with power := d'.power } [(PWR_Dd_STAT_PHASE n).key, (PWR_Dd_STAT_HELD n).key] d'
        ∧ d'.power.pads.get n [] = (if d.get (PWR_Dd_STAT_HELD n) = 1 then d.power.pads.get n [] else d.flds.filter (fun x => fieldDomain x.1 == n))
        ∧ d'.padLevel (USB_HPp_PWR 2) = d.padLevel (USB_HPp_PWR 2) ∧ d'.padLevel (DSO_Dn_CTL_EN 1) = d.padLevel (DSO_Dn_CTL_EN 1)
      else d' = d))
  ∧ (∀ (n : Fin 13), Does (.saveDone n) s (fun d d' =>
      if d.phaseOf n = 5 then d'.phaseOf n = 6 ∧ d.only [(PWR_Dd_STAT_PHASE n).key] d' else d' = d))
  ∧ (∀ (n : Fin 13), Does (.dryDone n) s (fun d d' =>
      if d.phaseOf n ≠ 6 then d' = d
      else d'.get PWR_EVT_DRY_DONE = 1 ∧ d'.get (PWR_Dd_STAT_NEXT n) = 3 
        ∧ (d.get (PWR_Dd_STAT_NEXT n) = 3 → d'.power.aims.get n (0, false) = (0, false)
          ∧ (n = 1 → ∀ t ∈ List.range 32, d'.thr t = Thr.reset ∧ d'.tstate t = 0)
          ∧ (n = 2 → d.aim n ≠ 1 → d'.mem.all (fun c => decide (c.1 < 0x8000000000)) = true)
          ∧ (n = 9 → d'.eth = EthPart.reset) ∧ (n = 11 → d'.sto = StoPart.reset) ∧ (n = 12 → d'.usb = UsbPart.reset))
        ∧ (d.get (PWR_Dd_STAT_NEXT n) = 3 → d.power.waking = [] → (n ≠ 0 → d'.domState n = (d.power.aims.get n (0, false)).1 % 4) ∧ d'.phaseOf n = 0)
        ∧ d' = ((((((d.set (PWR_Dd_STAT_STATE n) (d.aim n)).set (PWR_Dd_STAT_PHASE n) 0).domReset n (d.aim n == 1)).modPower
          (fun p => { p with aims := p.aims.set n (0, false) (0, false) })).pwrRaise 0 n).settled n).lowIf))
  ∧ (∀ (n : Fin 13), Does (.domainWakeDone n) s (fun d d' =>
      if d.phaseOf n ≠ 7 then d' = d
      else d'.get PWR_EVT_WAKE_DONE = 1 ∧ d'.get (PWR_Dd_STAT_NEXT n) = 3 ∧ d'.domState n = 0))
  ∧ (∀ (src : Fin 8), Does (.wakeSourceEvent src) s (fun d d' =>
      if d.get (PWR_WSRCs_EN src) = 0 ∨ (bitList 13 (d.get (PWR_WSRCs_DOMS src))).filter d.notOn = [] then d' = d
      else d'.get PWR_WLATCH_PEND = (d.get PWR_WLATCH_PEND ||| 2 ^ src.val) % 2 ^ PWR_WLATCH_PEND.w ∧ (d'.power.latched.get src (0, 0)).1 = min 255 ((d.power.latched.get src (0, 0)).1 + 1)))
  ∧ (Does (.wakeTimerExpire) s (fun d d' =>
      if d.get PWR_WTIMER_TICKS = 0 ∨ d.get (PWR_WSRCs_EN 0) = 0 ∨ (bitList 13 (d.get (PWR_WSRCs_DOMS 0))).filter d.notOn = [] then d' = d
      else d'.get PWR_WLATCH_PEND = (d.get PWR_WLATCH_PEND ||| 1) % 2 ^ PWR_WLATCH_PEND.w ∧ (d'.power.latched.get 0 (0, 0)).1 = min 255 ((d.power.latched.get 0 (0, 0)).1 + 1)))
  ∧ (Does (.wakeSwGo) s (fun d d' =>
      if d.get (PWR_WSRCs_EN 7) = 0 ∨ (bitList 13 (d.get (PWR_WSRCs_DOMS 7))).filter d.notOn = [] then d' = d
      else d'.get PWR_WLATCH_PEND = (d.get PWR_WLATCH_PEND ||| 2 ^ 7) % 2 ^ PWR_WLATCH_PEND.w ∧ (d'.power.latched.get 7 (0, 0)).1 = min 255 ((d.power.latched.get 7 (0, 0)).1 + 1)))
  ∧ (∀ (n : Fin 13), Does (.padRelease n) s (fun d d' =>
      if d.domState n = 0 ∧ d.phaseOf n < 4 then d'.get (PWR_Dd_STAT_HELD n) = 0 ∧ d'.power.pads.get n [] = [] ∧ Dev.only { d with power := d'.power } [(PWR_Dd_STAT_HELD n).key] d' else d' = d))

/-- For every state: a target is clamped and sent, or waits for the change in progress; an acknowledgement shows its voltage and
ends the change; a first timeout retries, a second raises AVS_FAIL; the retry timer asks for TARGET again after a failure; a
PMBus transaction that fails is retried once and then raises PMB_FAIL; an alert is counted and raised; a rail entry written is
stored and asked for; a PUF decode without a root key shows ENFL_FAIL. (R522, R523, R524, R525, R526, R527, R532) -/
def Obligations.RegulatorsAndRailsComplete : Prop :=
  ∀ s : State,
  (∀ (target ret : BitVec 10), Does (.avsTargetWrite target ret) s (fun d d' =>
      d'.get PWR_AVS_CTL_TARGET = target.toNat ∧ d'.get PWR_AVS_CTL_RET = ret.toNat ∧ d'.get PWR_AVS_STAT_BUSY = 1 ∧ d'.power.failed = false
      ∧ (if d.power.avs = none then d'.power.avs = some ⟨min 850 (max 650 target.toNat), false, false⟩ else d'.power.avs = d.power.avs ∧ d'.power.avsNext = some ⟨min 850 (max 650 target.toNat), false, false⟩)))
  ∧ (Does (.avsAck) s (fun d d' =>
      match d.power.avs with
      | none => d' = d
      | some r => d'.get PWR_AVS_STAT_ACKED = r.mv % 2 ^ PWR_AVS_STAT_ACKED.w ∧ d'.get PWR_AVS_STAT_LOW = b2n r.low
        ∧ (d.power.waking = [] → d'.power.avs = d.power.avsNext ∧ d'.power.avsNext = none ∧ d'.get PWR_AVS_STAT_BUSY = b2n d.power.avsNext.isSome)))
  ∧ (∀ (mv : BitVec 10), Does (.avsAckTimeout mv) s (fun d d' =>
      match d.power.avs with
      | none => d' = d
      | some r => if r.retried then d'.get PWR_EVT_AVS_FAIL = 1 ∧ d'.get PWR_AVS_STAT_ACKED = mv.toNat ∧ d'.power.avs = d.power.avsNext ∧ d'.power.failed = (d.power.failed || !r.low)
          ∧ d'.power.avsNext = none ∧ d'.get PWR_AVS_STAT_BUSY = b2n d.power.avsNext.isSome
        else d'.power = { d.power with avs := some { r with retried := true } } ∧ d'.get PWR_AVS_RETRIES_COUNT = (d.get PWR_AVS_RETRIES_COUNT + 1) % 2 ^ 32
          ∧ Dev.only { d with power := d'.power } [PWR_AVS_RETRIES_COUNT.key] d'))
  ∧ (Does (.avsRetryTimer) s (fun d d' =>
      if d.power.failed = true ∧ d.power.avs = none then
        d'.power.avs = some ⟨min 850 (max 650 (d.get PWR_AVS_CTL_TARGET)), false, false⟩ ∧ d'.get PWR_AVS_STAT_BUSY = 1 ∧ Dev.only { d with power := d'.power } [PWR_AVS_STAT_BUSY.key] d'
      else d' = d))
  ∧ (∀ (ok fault : Bool), Does (.pmbTransactionDone ok fault) s (fun d d' =>
      match d.power.pmb with
      | [] => d' = d
      | r :: rest => if ok = false ∧ r.retried = false then d'.power.pmb = { r with retried := true } :: rest
          ∧ d'.get PWR_PMB_RETRIES_COUNT = (d.get PWR_PMB_RETRIES_COUNT + 1) % 2 ^ 32 ∧ Dev.only { d with power := d'.power } [PWR_PMB_RETRIES_COUNT.key] d'
        else (8 ≤ r.owner → r.owner < 16 → d'.power.pmb = rest ∧ (d'.get PWR_RAIL_STAT_GOOD).testBit (r.owner - 8) = (ok && !fault)
            ∧ (d'.get PWR_RAIL_STAT_FAULT).testBit (r.owner - 8) = !(ok && !fault))
          ∧ (ok = true → d'.power.pmb = rest ∧ (r.owner < 8 → (d'.pc r.owner).acked = ((!fault && !rest.any (fun x => x.owner == r.owner)) || (d.pc r.owner).acked)))
          ∧ (ok = false → d'.get PWR_EVT_PMB_FAIL = 1 ∧ d'.get PWR_PMB_FAILS_COUNT = (d.get PWR_PMB_FAILS_COUNT + 1) % 2 ^ 32
            ∧ (r.owner < 8 → d.attached r.owner = true → rest.any (fun x => x.owner == r.owner) = false →
                d'.get (PDC_Pn_VFAULT_COUNT r.owner) = (d.get (PDC_Pn_VFAULT_COUNT r.owner) + 1) % 2 ^ 32
                ∧ d'.get (PDC_Pn_HRESET_COUNT r.owner) = (d.get (PDC_Pn_HRESET_COUNT r.owner) + 1) % 2 ^ 32))))
  ∧ (Does (.pmbSclTimeout) s (fun d d' =>
      match d.power.pmb with
      | [] => d' = d
      | r :: rest => if r.retried then d'.get PWR_EVT_PMB_FAIL = 1 ∧ d'.get PWR_PMB_FAILS_COUNT = (d.get PWR_PMB_FAILS_COUNT + 1) % 2 ^ 32
        else d'.power.pmb = { r with retried := true } :: rest ∧ d'.get PWR_PMB_RETRIES_COUNT = (d.get PWR_PMB_RETRIES_COUNT + 1) % 2 ^ 32
          ∧ Dev.only { d with power := d'.power } [PWR_PMB_RETRIES_COUNT.key] d'))
  ∧ (∀ (addr : BitVec 7) (status : BitVec 16), Does (.pmbAlert addr status) s (fun d d' =>
      d'.get PWR_EVT_REG_ALERT = 1 ∧ d'.get PWR_ALERTS_COUNT = (d.get PWR_ALERTS_COUNT + 1) % 2 ^ 32
      ∧ ((List.range 8).all (fun n => !(d.attached n && d.get (PDC_Pn_REG_ADDR n) == addr.toNat)) = true →
          d' = (d.inc PWR_ALERTS_COUNT).pwrRaise 6 (addr.toNat + status.toNat * 2 ^ 16))))
  ∧ (Does (.railRefreshTimer) s (fun d d' =>
      Dev.only { d with power := { d.power with pmb := d'.power.pmb } } [] d'
      ∧ (∀ k ∈ List.range 8, d.get (PWR_RAILk_EN k) = 1 →
          (⟨8 + k, d.get (PWR_RAILk_ADDR k), d.get (PWR_RAILk_PAGE k), d.get (PWR_RAILk_VOUT k), false⟩ : PmbReq) ∈ d'.power.pmb)
      ∧ d'.power.pmb.take (min 1 d.power.pmb.length) = d.power.pmb.take 1
      ∧ ((∀ k ∈ List.range 8, d.get (PWR_RAILk_EN k) = 0) → d' = d)))
  ∧ (∀ (k : Fin 8) (v : Word), Does (.railEntryWrite k v) s (fun d d' =>
      d'.get (PWR_RAILk_ADDR k) = v.toNat % 2 ^ (PWR_RAILk_ADDR k).w ∧ d'.get (PWR_RAILk_PAGE k) = v.toNat / 2 ^ 8 % 2 ^ (PWR_RAILk_PAGE k).w
      ∧ d'.get (PWR_RAILk_VOUT k) = v.toNat / 2 ^ 16 % 2 ^ (PWR_RAILk_VOUT k).w ∧ d'.get (PWR_RAILk_EN k) = v.toNat / 2 ^ 31
      ∧ (v.toNat / 2 ^ 31 = 0 → d'.power = d.power)
      ∧ (v.toNat / 2 ^ 31 = 1 → d'.power.pmb = d.power.pmb.take 1 ++ (d.power.pmb.drop 1).filter (fun x => x.owner != 8 + k.val)
          ++ [⟨8 + k.val, d'.get (PWR_RAILk_ADDR k), d'.get (PWR_RAILk_PAGE k), d'.get (PWR_RAILk_VOUT k), false⟩])))
  ∧ (∀ (ikm : Option (List (BitVec 8))), Does (.enfleurageDone ikm) s (fun d d' =>
      if d.domOn 4 = false then d' = d
      else d'.get KEY_STAT_RNG_OK = 1
      ∧ (d.key.fresh = false ∨ d.lifecycle = 0 ∨ d.lifecycle = 4 → d' = d.set KEY_STAT_RNG_OK 1)
      ∧ (d.key.fresh = true → d.lifecycle ≠ 0 → d.lifecycle ≠ 4 → d'.key.fresh = false ∧ d'.get KEY_STAT_ENFL_BUSY = 0
          ∧ (ikm = none → d'.get KEY_STAT_ENFL_FAIL = 1 ∧ d'.get KEY_EVT_ENFL_FAIL = 1 ∧ d'.key = { d.key with fresh := false }))))

/-- For every state and each operation of the key unit: it starts only from the front of the queue, when it need not wait; it is
refused with the status that R547 names for a slot that may not be used, a length or range that does not fit, a taken output
slot, a usage not allowed, a lifecycle state or an unhealthy random source; else it runs with the output R546 gives and, for
LOAD, DERIVE and AGREE, fills its slot. A draw of random bits is a free value (log entries name it). (R534, R535, R538, R539,
R540, R542, R543, R545, R546, R547, R549, R556) -/
def Obligations.KeyOperationsComplete : Prop :=
  ∀ s : State,
  (Does (.keyLoad) s (fun d d' =>
      if d.domOn 4 = false then d' = d
      else d.KeyTakes 1 (fun o x e =>
        if o.slot < 2 ∨ 64 ≤ o.slot then x.KeyRefuses o 9 e
        else if (x.loadFlacon 64 o.slot o.src true).1 ≠ 0 then (x.loadFlacon 64 o.slot o.src true).2.KeyRefuses o (x.loadFlacon 64 o.slot o.src true).1 e
        else ((x.loadFlacon 64 o.slot o.src true).2.slotGo o.slot 1).KeyRuns o 0 [] (some o.slot) e ∧ e.slotOf o.slot = 1) d'))
  ∧ (Does (.keyEvict) s (fun d d' =>
      if d.domOn 4 = false then d' = d
      else d.KeyTakes 2 (fun o x e =>
        if o.slot < 2 ∨ 64 ≤ o.slot then x.KeyRefuses o 3 e
        else if x.slotOf o.slot = 0 then x.KeyRefuses o 17 e
        else ((x.invalidate o.slot).slotEmpty o.slot).KeyRuns o 0 [] none e ∧ e.slotOf o.slot = 0 ∧ e.keyVal o.slot = []) d'))
  ∧ (Does (.keyRotate) s (fun d d' =>
      if d.domOn 4 = false then d' = d
      else d.KeyTakes 3 (fun o x e =>
        if o.slot < 2 ∨ 64 ≤ o.slot then x.KeyRefuses o 3 e
        else if (x.reload o.slot).1 ≠ 0 then (x.reload o.slot).2.KeyRefuses o (x.reload o.slot).1 e
        else if (x.reload o.slot).2.slotOf o.slot = 0 then (x.reload o.slot).2.KeyRefuses o 17 e
        else if (x.reload o.slot).2.slotOf o.slot = 3 then (x.reload o.slot).2.KeyRefuses o 1 e
        else if (x.reload o.slot).2.slotOf o.slot = 4 then (x.reload o.slot).2.KeyRefuses o 4 e
        else if ((x.reload o.slot).2.useParent o.slot).1 ≠ 0 then ((x.reload o.slot).2.useParent o.slot).2.KeyRefuses o ((x.reload o.slot).2.useParent o.slot).1 e
        else if ((x.reload o.slot).2.useParent o.slot).2.key.rngBad then ((x.reload o.slot).2.useParent o.slot).2.KeyRefuses o 15 e
        else if ((x.reload o.slot).2.useParent o.slot).2.dstFits o 112 = false then ((x.reload o.slot).2.useParent o.slot).2.KeyRefuses o 12 e
        else e.get (KSLOT_W2_GEN o.slot) = (((x.reload o.slot).2.useParent o.slot).2.get (KSLOT_W2_GEN o.slot) + 1) % 2 ^ 16
          ∧ e.key.running.dropLast = ((x.reload o.slot).2.useParent o.slot).2.key.running ∧ e.key.running.getLast?.map (fun r => (r.op, r.status, r.fills)) = some (o, 0, none)
          ∧ e.key.running.getLast?.all (fun r => r.out == e.wrapSlot o.slot (flaconNat r.out 32 12)) = true) d'))
  ∧ (Does (.keyExport) s (fun d d' =>
      if d.domOn 4 = false then d' = d
      else d.KeyTakes 4 (fun o x e =>
        x.KeyUses o o.slot 7 7 (fun y e =>
          if (y.useParent o.slot).1 ≠ 0 then (y.useParent o.slot).2.KeyRefuses o (y.useParent o.slot).1 e
          else if (y.useParent o.slot).2.key.rngBad then (y.useParent o.slot).2.KeyRefuses o 15 e
          else if (y.useParent o.slot).2.dstFits o 112 = false then (y.useParent o.slot).2.KeyRefuses o 12 e
          else ((y.useParent o.slot).2.draw 96).2.KeyRuns o 0 (((y.useParent o.slot).2.draw 96).2.wrapSlot o.slot ((y.useParent o.slot).2.draw 96).1) none e) e) d'))
  ∧ (Does (.keyDerive) s (fun d d' =>
      if d.domOn 4 = false then d' = d
      else d.KeyTakes 5 (fun o x e =>
        x.KeyUses o o.slot 4 4 (fun y e =>
          if y.auxIn o = false ∨ 48 < o.srcLen ∨ o.auxLen < o.srcLen ∨ 80 < o.auxLen - o.srcLen then y.KeyRefuses o 12 e
          else if o.slot2 < 2 ∨ 64 ≤ o.slot2 ∨ y.slotOf o.slot2 ≠ 0 then y.KeyRefuses o 9 e
          else if o.keyId = 0 then y.KeyRefuses o 8 e
          else if y.derivable o = false then y.KeyRefuses o 3 e
          else e.slotOf o.slot2 = 1 ∧ e.keyVal o.slot2 = hkdfExpand (hkdfExtract ((y.auxBytes o).take o.srcLen) (y.keyVal o.slot)) ((y.auxBytes o).drop o.srcLen) (keyLen o.ty)
            ∧ e.key.running = y.key.running ++ [⟨o, 0, [], some o.slot2⟩]) e) d'))
  ∧ (Does (.keySeal) s (fun d d' =>
      if d.domOn 4 = false then d' = d
      else d.KeyTakes 6 (fun o x e =>
        x.KeyUses o o.slot 1 1 (fun y e =>
          if 16384 < o.srcLen ∨ o.auxLen < 12 ∨ y.srcIn o = false ∨ y.auxIn o = false ∨ y.dstFits o (o.srcLen + 16) = false then y.KeyRefuses o 12 e
          else y.KeyRuns o 0 (gcmSeal (y.keyVal o.slot) ((y.auxBytes o).take 12) ((y.auxBytes o).drop 12) (y.srcBytes o)) none e) e) d'))
  ∧ (Does (.keyOpen) s (fun d d' =>
      if d.domOn 4 = false then d' = d
      else d.KeyTakes 7 (fun o x e =>
        x.KeyUses o o.slot 2 2 (fun y e =>
          if 16400 < o.srcLen ∨ o.srcLen < 16 ∨ o.auxLen < 12 ∨ y.srcIn o = false ∨ y.auxIn o = false ∨ y.dstFits o (o.srcLen - 16) = false then y.KeyRefuses o 12 e
          else if (gcmOpen (y.keyVal o.slot) ((y.auxBytes o).take 12) ((y.auxBytes o).drop 12) (y.srcBytes o)).isSome then
            y.KeyRuns o 0 ((gcmOpen (y.keyVal o.slot) ((y.auxBytes o).take 12) ((y.auxBytes o).drop 12) (y.srcBytes o)).getD []) none e
          else y.KeyRuns o 7 [] none e) e) d'))
  ∧ (Does (.keyMac) s (fun d d' =>
      if d.domOn 4 = false then d' = d
      else d.KeyTakes 8 (fun o x e =>
        x.KeyUses o o.slot 3 3 (fun y e =>
          if y.srcIn o = false ∨ y.dstFits o 48 = false then y.KeyRefuses o 12 e
          else y.KeyRuns o 0 (hmac (y.keyVal o.slot) (y.srcBytes o)) none e) e) d'))
  ∧ (Does (.keySign) s (fun d d' =>
      if d.domOn 4 = false then d' = d
      else d.KeyTakes 9 (fun o x e =>
        x.KeyUses o o.slot 5 5 (fun y e =>
          if y.identityMay o = false then y.KeyRefuses o 11 e
          else if y.key.rngBad then y.KeyRefuses o 15 e
          else if y.srcIn o = false ∨ y.dstFits o 96 = false then y.KeyRefuses o 12 e
          else y.drawKey.2.KeyRuns o 0 (ecdsaSign (beNat (y.keyVal o.slot)) y.drawKey.1 (y.srcBytes o)) none e) e) d'))
  ∧ (Does (.keyPubkey) s (fun d d' =>
      if d.domOn 4 = false then d' = d
      else d.KeyTakes 10 (fun o x e =>
        x.KeyUses o o.slot 5 6 (fun y e =>
          if y.dstFits o 97 = false then y.KeyRefuses o 12 e
          else y.KeyRuns o 0 (ecPublic (beNat (y.keyVal o.slot))) none e) e) d'))
  ∧ (Does (.keyAgree) s (fun d d' =>
      if d.domOn 4 = false then d' = d
      else d.KeyTakes 11 (fun o x e =>
        x.KeyUses o o.slot 6 6 (fun y e =>
          if y.identityMay o = false then y.KeyRefuses o 11 e
          else if o.srcLen ≠ 97 ∨ y.srcIn o = false then y.KeyRefuses o 12 e
          else if o.slot2 < 2 ∨ 64 ≤ o.slot2 ∨ y.slotOf o.slot2 ≠ 0 then y.KeyRefuses o 9 e
          else if o.keyId = 0 then y.KeyRefuses o 8 e
          else if (ecPoint (y.srcBytes o)).isNone then y.KeyRefuses o 14 e
          else e.slotOf o.slot2 = 1 ∧ e.keyVal o.slot2 = ecdh (beNat (y.keyVal o.slot)) ((ecPoint (y.srcBytes o)).getD (0, 0))
            ∧ e.key.running = y.key.running ++ [⟨o, 0, [], some o.slot2⟩]) e) d'))
  ∧ (Does (.keyProve) s (fun d d' =>
      if d.domOn 4 = false then d' = d
      else d.KeyTakes 12 (fun o x e =>
        if x.lifecycle = 0 then x.KeyRefuses o 11 e
        else x.KeyUses o (x.get KEY_LINE_SLOT) 8 8 (fun y e =>
          if o.srcLen < 1 ∨ 64 < o.srcLen ∨ y.srcIn o = false ∨ y.dstFits o 48 = false then y.KeyRefuses o 12 e
          else y.KeyRuns o 0 (hmac (y.keyVal (y.get KEY_LINE_SLOT)) (ascii "Darquin proof" ++ natBE 8 (y.get STN_UID_HI_UID * 2 ^ 32 + y.get STN_UID_LO_UID) ++ y.srcBytes o)) none e) e) d'))
  ∧ (Does (.keyRandom) s (fun d d' =>
      if d.domOn 4 = false then d' = d
      else d.KeyTakes 13 (fun o x e =>
        if x.key.rngBad then x.KeyRefuses o 15 e
        else if 4096 < o.dstLen ∨ x.dstFits o o.dstLen = false then x.KeyRefuses o 12 e
        else (x.draw (8 * o.dstLen)).2.KeyRuns o 0 (natBE o.dstLen (x.draw (8 * o.dstLen)).1) none e) d'))
  ∧ (Does (.keyEnroll) s (fun d d' =>
      if d.domOn 4 = false then d' = d
      else d.KeyTakes 14 (fun o x e =>
        if x.lifecycle ≠ 0 then x.KeyRefuses o 11 e
        else if x.key.rngBad then x.KeyRefuses o 15 e
        else if x.key.fresh = false then x.KeyRefuses o 10 e
        else if x.dstFits o 2112 = false then x.KeyRefuses o 12 e
        else e.key.fresh = false ∧ e.get KEY_STAT_ROOT_OK = 1 ∧ e.key.root.isSome = true ∧ e.slotOf 0 = 2 ∧ e.slotOf 1 = 2 ∧ e.key.running.length = x.key.running.length + 1) d'))
  ∧ (Does (.keyVerify) s (fun d d' =>
      if d.domOn 4 = false then d' = d
      else d.KeyTakes 15 (fun o x e =>
        if o.auxLen ≠ 193 ∨ x.auxIn o = false ∨ x.srcIn o = false then x.KeyRefuses o 12 e
        else x.KeyRuns o (if ecdsaVerify ((x.auxBytes o).take 97) ((x.auxBytes o).drop 97) (x.srcBytes o) then 0 else 7) [] none e) d'))

/-- For every state: a running operation that ends is removed, counted, its slot filled and its DONE record posted; the expiry check
comes at the next second of TB0; a plain store to KEY_SUBMIT is only counted; the slot window copies the eight words of its
slot's header; a failed health test shows RNG_OK 0 and raises RNG_FAIL. (R541, R544, R546, R547, R557, R558) -/
def Obligations.KeyRecordsAndTimersComplete : Prop :=
  ∀ s : State,
  (∀ (k : Fin 16), Does (.keyOpDone k) s (fun d d' =>
      if d.domOn 4 = false then d' = d
      else if d.key.running.length ≤ k then d' = d
      else d'.key.running = d.key.running.eraseIdx k ∧ d'.get KEY_OPS_COUNT = (d.inc KEY_OPS_COUNT).get KEY_OPS_COUNT
        ∧ (∀ x ∈ d.key.running[k.val]?, ∀ n ∈ x.fills, n < 64 → x.out = [] → d.slotOf n = 1 → d'.slotOf n = 2)))
  ∧ (Does (.keyExpiryCheck) s (fun d d' =>
      if d.domOn 4 = false then d' = d
      else (∀ n, n < 64 → (d.reachMultiple 0 1000000000 0).slotOf n = 2 → (d.reachMultiple 0 1000000000 0).expiry n ≠ 0
          → (d.reachMultiple 0 1000000000 0).expiry n ≤ ((d.reachMultiple 0 1000000000 0).tb 0).sec → d'.slotOf n = 3 ∨ d'.slotOf n = 4)
      ∧ ((∀ n, n < 64 → ¬ ((d.reachMultiple 0 1000000000 0).slotOf n = 2 ∧ (d.reachMultiple 0 1000000000 0).expiry n ≠ 0
          ∧ (d.reachMultiple 0 1000000000 0).expiry n ≤ ((d.reachMultiple 0 1000000000 0).tb 0).sec)) → d' = d.reachMultiple 0 1000000000 0)))
  ∧ (Does (.keySubmitStore) s (fun d d' =>
      if d.domOn 4 = false then d' = d
      else d' = d.inc KEY_BADSUB_COUNT ∧ d.only [KEY_BADSUB_COUNT.key] d'))
  ∧ (Does (.keySlotRead) s (fun d d' =>
      if d.domOn 4 = false then d' = d
      else d.Windowed KEY_SLOT_RES_DONE (
        d'.get (KEY_SLOT_DATAk_WORD 0) = d.slotOf (d.get KEY_SLOT_IDX_SLOT) + d.get (KSLOT_W0_TYPE (d.get KEY_SLOT_IDX_SLOT)) * 2 ^ 3 + d.get (KSLOT_W0_DERIVED (d.get KEY_SLOT_IDX_SLOT)) * 2 ^ 6
          + d.get (KSLOT_W0_PSLOT (d.get KEY_SLOT_IDX_SLOT)) * 2 ^ 8 + d.get (KSLOT_W0_USAGE (d.get KEY_SLOT_IDX_SLOT)) * 2 ^ 16
        ∧ d'.get (KEY_SLOT_DATAk_WORD 1) = d.get (KSLOT_W1_KEY_ID (d.get KEY_SLOT_IDX_SLOT))
        ∧ d'.get (KEY_SLOT_DATAk_WORD 2) = d.get (KSLOT_W2_GEN (d.get KEY_SLOT_IDX_SLOT)) + d.get (KSLOT_W2_PARENT_GEN (d.get KEY_SLOT_IDX_SLOT)) * 2 ^ 16
        ∧ d'.get (KEY_SLOT_DATAk_WORD 3) = d.get (KSLOT_W3_PARENT_ID (d.get KEY_SLOT_IDX_SLOT)) ∧ d'.get (KEY_SLOT_DATAk_WORD 4) = d.get (KSLOT_W4_EXPIRY_LO (d.get KEY_SLOT_IDX_SLOT))
        ∧ d'.get (KEY_SLOT_DATAk_WORD 5) = d.get (KSLOT_W5_EXPIRY_HI (d.get KEY_SLOT_IDX_SLOT)) ∧ d'.get (KEY_SLOT_DATAk_WORD 6) = d.get (KSLOT_W6_FLACON_LO (d.get KEY_SLOT_IDX_SLOT))
        ∧ d'.get (KEY_SLOT_DATAk_WORD 7) = d.get (KSLOT_W7_FLACON_HI (d.get KEY_SLOT_IDX_SLOT)) ∧ d'.key = d.key ∧ d'.mem = d.mem) d'))
  ∧ (Does (.rngHealthFail) s (fun d d' =>
      if d.domOn 4 = false then d' = d
      else d'.get KEY_STAT_RNG_OK = 0 ∧ d'.get KEY_EVT_RNG_FAIL = 1 ∧ d'.key.rngBad = true
      ∧ d'.key = { d.key with rngBad := true } ∧ d'.boot = d.boot))

/-- For every state and port: the blocks of a message are accepted in order before it acts; CERT and FINISH are checked in AUTH and
lead to the keys or to a REFUSE with its reason; REFUSE fails the handshake or the segment; a re-key is asked for, answered,
completed or refused; an unanswered request is repeated once and then fails the segment, as does an orphaned segment that is not
re-keyed. (R82, R94, R99, R115, R548, R549, R550, R551, R552, R553, R554, R556) -/
def Obligations.SegmentKeysComplete : Prop :=
  ∀ s : State,
  (∀ (p : Fin 10) (bs : List RxBlk), Does (.authCertRx p bs) s (fun d d' =>
      if d.reached (portDomain p) = false then d' = d
      else Dev.Hears p 1 (Dev.certRx p) (fun body y e =>
        if (y.seg p).mine = none ∨ y.linkState p ≠ 2 ∨ (y.seg p).theirs.isSome = true then e = y
        else if beNat (body.take 8) ≠ y.partnerUid p ∨ (y.certKey (part body 139 (beNat (part body 137 2))) (beNat (body.take 8))).isNone = true then
          e = y.modLnk p (fun l => { l with ctl := l.ctl ++ [(.auth 3 0 1 1 [1], .authFail)] })
        else if (ecPoint (part body 40 97)).isNone then e = y.modLnk p (fun l => { l with ctl := l.ctl ++ [(.auth 3 0 1 1 [6], .authFail)] })
        else if y.lineKey = none then e = y.modLnk p (fun l => { l with ctl := l.ctl ++ [(.auth 3 0 1 1 [4], .authFail)] })
        else if y.noSegments then e = y.modLnk p (fun l => { l with ctl := l.ctl ++ [(.auth 3 0 1 1 [5], .authFail)] })
        else (e.seg p).theirs = some body ∧ (e.seg p).th = thOf y.uid (beNat (body.take 8)) ((y.seg p).mine.getD []) body
          ∧ some (e.seg p).pub = y.certKey (part body 139 (beNat (part body 137 2))) (beNat (body.take 8)) ∧ (e.seg p).next.isSome = true ∧ e.linkState p = 2) bs d d'))
  ∧ (∀ (p : Fin 10) (bs : List RxBlk), Does (.authFinishRx p bs) s (fun d d' =>
      if d.reached (portDomain p) = false then d' = d
      else Dev.Hears p 2 (Dev.finishRx p) (fun body y e =>
        if (y.seg p).theirs = none ∨ (y.seg p).next = none ∨ y.linkState p ≠ 2 then e = y
        else if ecdsaVerify (y.seg p).pub (part body 0 96) (ascii "Darquin sign" ++ natBE 8 (beNat (((y.seg p).theirs.getD []).take 8)) ++ (y.seg p).th) = false then
          e = y.modLnk p (fun l => { l with ctl := l.ctl ++ [(.auth 3 0 1 1 [2], .authFail)] })
        else if y.lineKey = none then e = y.modLnk p (fun l => { l with ctl := l.ctl ++ [(.auth 3 0 1 1 [4], .authFail)] })
        else if part body 96 48 ≠ proofTh (y.lineKey.getD []) (beNat (((y.seg p).theirs.getD []).take 8)) (y.seg p).th then e = y.modLnk p (fun l => { l with ctl := l.ctl ++ [(.auth 3 0 1 1 [3], .authFail)] })
        else (e.seg p).next = none
          ∧ (if beNat (part body 144 8) < (y.lnk p).rxExp then
              e.get (LNK_STAT_ENC p) = 1 ∧ e.get (KEY_SEGp_STAT_ENC p) = 1 ∧ e.get (KEY_SEGp_STAT_ORPHANED p) = 0
                ∧ e.get (KEY_SEGp_STAT_LSLOT p) = y.get KEY_LINE_SLOT ∧ e.get (LNK_EVT_AUTH_OK p) = 1
                ∧ (e.lnk p).rxKey = (y.seg p).next ∧ (e.lnk p).rxNext = none
                ∧ (y.flag STN_STAT_ISOLATED = true → e.linkState p = (if y.flag (LNK_CTL_ADMIT p) then 4 else 3))
             else (e.lnk p).rxNext.map (·.1) = (y.seg p).next ∧ (e.lnk p).rxNext.map (·.2) = some (beNat (part body 144 8), beNat (part body 152 8))
                ∧ (e.seg p).verified = true ∧ e.linkState p = 2 ∧ e.get (LNK_STAT_ENC p) = y.get (LNK_STAT_ENC p))) bs d d'))
  ∧ (∀ (p : Fin 10) (bs : List RxBlk), Does (.authRefuseRx p bs) s (fun d d' =>
      if d.reached (portDomain p) = false then d' = d
      else Dev.Hears p 3 (fun l z => z.refuseRx p (beNat (l.take 1))) (fun body y e =>
        if y.linkState p = 2 then e = (y.raise (LNK_EVT_AUTH_FAIL p)).linkFail p 8 ∧ e.linkState p = 5
        else if beNat (body.take 1) = 7 ∨ (y.linkState p ≠ 3 ∧ y.linkState p ≠ 4) then e = y
        else e = y.keyFail p ∧ e.linkState p = 5 ∧ e.get KEY_EVT_REKEY_FAIL = 1) bs d d'))
  ∧ (∀ (p : Fin 10) (reason : Fin 3), Does (.rekeyTrigger p reason) s (fun d d' =>
      if d.domOn (portDomain p) = false then d' = d
      else if d.lineKey = none ∨ d.identity = none ∨ d.segUp p = false ∨ d.get (KEY_SEGp_STAT_REKEYING p) = 1
        ∨ (reason = 0 ∧ d.get (KEY_SEGp_STAT_ORPHANED p) = 0) ∨ (reason = 1 ∧ d.power.osc - (d.seg p).agreed < d.get KEY_REKEY_AGE_H * 3600 * 500000000)
        ∨ (reason = 2 ∧ (((d.lnk p).txKey.map (·.blocks)).getD 0) < 2 ^ d.get KEY_REKEY_BLK_LOG2) then d' = d
      else d'.get (KEY_SEGp_STAT_REKEYING p) = 1 ∧ (d'.seg p).req.isSome = true ∧ (d'.seg p).reason = reason ∧ (d'.seg p).retried = false ∧ (d'.seg p).th = (d.seg p).th))
  ∧ (∀ (p : Fin 10) (bs : List RxBlk), Does (.rekeyReqRx p bs) s (fun d d' =>
      if d.reached (portDomain p) = false then d' = d
      else Dev.Hears p 4 (Dev.rekeyReqRx p) (fun body y e =>
        if y.segUp p = false then e = y
        else if (y.seg p).req.isSome = true ∧ y.uid < y.partnerUid p then e = y.modLnk p (fun l => { l with ctl := l.ctl ++ [(.auth 3 0 1 1 [7], .none)] })
        else if (y.rekeyCheck p (sha384 ((y.seg p).th ++ body.take 129)) body).getLeft?.isSome then
          e = y.modLnk p (fun l => { l with ctl := l.ctl ++ [(.auth 3 0 1 1 [BitVec.ofNat 8 ((y.rekeyCheck p (sha384 ((y.seg p).th ++ body.take 129)) body).getLeft?.getD 0)], .keyFail)] })
        else if y.identity = none then e = y
        else e.get (KEY_SEGp_STAT_REKEYING p) = 1 ∧ (e.seg p).req = none ∧ (e.seg p).reason = 3 ∧ (e.seg p).next.isSome = true) bs d d'))
  ∧ (∀ (p : Fin 10) (bs : List RxBlk), Does (.rekeyAckRx p bs) s (fun d d' =>
      if d.reached (portDomain p) = false then d' = d
      else Dev.Hears p 5 (Dev.rekeyAckRx p) (fun body y e =>
        if (y.seg p).req = none ∨ y.segUp p = false then e = y
        else if (y.rekeyCheck p (sha384 ((y.seg p).th ++ (((y.seg p).req.map (·.1)).getD []).take 129 ++ body.take 129)) body).getLeft?.isSome then
          e = y.modLnk p (fun l => { l with ctl := l.ctl ++ [(.auth 3 0 1 1 [BitVec.ofNat 8 ((y.rekeyCheck p (sha384 ((y.seg p).th ++ (((y.seg p).req.map (·.1)).getD []).take 129 ++ body.take 129)) body).getLeft?.getD 0)], .keyFail)] })
        else e.get (KEY_SEGp_STAT_REKEYING p) = 0 ∧ e.get (KEY_SEGp_STAT_ORPHANED p) = 0 ∧ e.get (KEY_SEGp_STAT_LSLOT p) = y.get KEY_LINE_SLOT ∧ (e.seg p).req = none) bs d d'))
  ∧ (∀ (p : Fin 10) (bs : List RxBlk), Does (.rekeySwitchRx p bs) s (fun d d' =>
      if d.reached (portDomain p) = false then d' = d
      else Dev.Hears p 6 (Dev.rekeySwitchRx p) (fun body y e =>
        if (y.seg p).next = none ∨ y.segUp p = false then e = y
        else e.get (KEY_SEGp_STAT_REKEYING p) = 0 ∧ e.get (KEY_SEGp_STAT_ORPHANED p) = 0 ∧ e.get (KEY_SEGp_STAT_LSLOT p) = y.get KEY_LINE_SLOT ∧ (e.seg p).next = none
          ∧ e.get KEY_REKEYS_COUNT = (y.inc KEY_REKEYS_COUNT).get KEY_REKEYS_COUNT) bs d d'))
  ∧ (∀ (p : Fin 10), Does (.rekeyAckTimeout p) s (fun d d' =>
      if d.domOn (portDomain p) = false then d' = d
      else match (d.seg p).req with
      | none => d' = d
      | some (m, _) => if (d.seg p).retried then d' = d.keyFail p ∧ d'.get KEY_EVT_REKEY_FAIL = 1 ∧ d'.get (KEY_SEGp_STAT_REKEYING p) = 0
        else d' = (d.modSeg p (fun s => { s with retried := true })).sendAuth p 4 m .none ∧ (d'.seg p).retried = true))
  ∧ (∀ (p : Fin 10), Does (.rekeyOrphanTimeout p) s (fun d d' =>
      if d.domOn (portDomain p) = false then d' = d
      else if d.segUp p = true ∧ d.get (KEY_SEGp_STAT_ORPHANED p) = 1 then d' = d.keyFail p ∧ d'.get KEY_EVT_REKEY_FAIL = 1 ∧ d'.get (KEY_SEGp_STAT_REKEYING p) = 0
      else d' = d))

/-- For every state: GO of the scrubber is refused while a pass runs or on a range outside the bank; a pass that ends shows its
counts and raises SCR_DONE; the memory window's commands show DONE with their error and read, clear, remap or unmap; an
in-service slice is refused with its reason or runs, and its end shows its result, its MISR and raises BIST_DONE; the DRAM
controller trains, enters self-refresh only when covered, and its wipe empties DRAM. (R561, R565, R566, R567, R569, R571, R572,
R573, R576) -/
def Obligations.ReliabilityCommandsComplete : Prop :=
  ∀ s : State,
  (Does (.scrubGo) s (fun d d' =>
      if d.domOn 3 = false then d' = d
      else d'.get REL_SCR_STAT_BUSY = (if d.get REL_SCR_STAT_BUSY = 0 ∧ d.get REL_SCR_START_WORD ≤ d.get REL_SCR_END_WORD ∧ d.get REL_SCR_END_WORD < d.bankWords (d.get REL_SCR_MEM_MEM) (d.get REL_SCR_MEM_BANK) then 1
          else d.get REL_SCR_STAT_BUSY)
      ∧ (d.get REL_SCR_STAT_BUSY = d'.get REL_SCR_STAT_BUSY → d'.get REL_SCR_STAT_RESULT = 2) ∧ Dev.only { d with rel := d'.rel } [REL_SCR_STAT_BUSY.key, REL_SCR_STAT_RESULT.key] d' ∧ d'.rel.banks = d.rel.banks ∧ d'.rel.slice = d.rel.slice
      ∧ d'.rel.pass = (if d.get REL_SCR_STAT_BUSY = d'.get REL_SCR_STAT_BUSY then d.rel.pass
          else ⟨d.get REL_SCR_MEM_MEM, d.get REL_SCR_MEM_BANK, d.get REL_SCR_START_WORD, d.get REL_SCR_END_WORD⟩)))
  ∧ (∀ (read : Nat) (ces ues : List Nat), Does (.scrubAbort read ces ues) s (fun d d' =>
      if d.domOn 3 = false then d' = d
      else if d.get REL_SCR_STAT_BUSY = 0 then d' = d
      else d'.get REL_SCR_STAT_BUSY = 0 ∧ d'.get REL_SCR_STAT_RESULT = 1 ∧ d'.get REL_SCR_READ_COUNT = read % 2 ^ REL_SCR_READ_COUNT.w
        ∧ d'.get REL_SCR_CE_COUNT = ces.length % 2 ^ REL_SCR_CE_COUNT.w ∧ d'.get REL_SCR_UE_COUNT = ues.length % 2 ^ REL_SCR_UE_COUNT.w ∧ d'.get REL_EVT_SCR_DONE = 1))
  ∧ (∀ (ces ues : List Nat), Does (.scrubPassDone ces ues) s (fun d d' =>
      if d.domOn 3 = false then d' = d
      else if d.get REL_SCR_STAT_BUSY = 0 then d' = d
      else d'.get REL_SCR_STAT_BUSY = 0 ∧ d'.get REL_SCR_STAT_RESULT = 0 ∧ d'.get REL_EVT_SCR_DONE = 1
        ∧ d'.get REL_SCR_CE_COUNT = ces.length % 2 ^ REL_SCR_CE_COUNT.w ∧ d'.get REL_SCR_UE_COUNT = ues.length % 2 ^ REL_SCR_UE_COUNT.w))
  ∧ (Does (.relMwRead) s (fun d d' =>
      if d.domOn 3 = false then d' = d
      else d.Windowed REL_MW_RES_DONE (d'.get REL_MW_RES_ERR = 0 ∧ d'.rel = d.rel ∧ d'.mem = d.mem
      ∧ ∀ k, k < 14 → d'.get (REL_MW_DATAk_WORD k) = d.mwWord (d.get REL_MW_IDX_MEM) (d.get REL_MW_IDX_BANK) k % 2 ^ 32) d'))
  ∧ (Does (.relMwClrcnt) s (fun d d' =>
      if d.domOn 3 = false then d' = d
      else d.Windowed REL_MW_RES_DONE (d'.get REL_MW_RES_ERR = 0
      ∧ d'.bank (d.get REL_MW_IDX_MEM) (d.get REL_MW_IDX_BANK) = { d.bank (d.get REL_MW_IDX_MEM) (d.get REL_MW_IDX_BANK) with ce := 0, ue := 0 }) d'))
  ∧ (∀ (ecc : Ecc), Does (.relMwRemap ecc) s (fun d d' =>
      if d.domOn 3 = false then d' = d
      else d.Windowed REL_MW_RES_DONE (
      d'.get REL_MW_RES_ERR = (if d.get REL_MW_IDX_MEM = 11 then 4 else if ((d.bank (d.get REL_MW_IDX_MEM) (d.get REL_MW_IDX_BANK)).entryOf (d.get REL_MW_ARG_WORD)).isSome then 2
          else if (d.bank (d.get REL_MW_IDX_MEM) (d.get REL_MW_IDX_BANK)).freeEntry = none then 1 else 0)
      ∧ (d'.get REL_MW_RES_ERR ≠ 0 → d.only [REL_MW_RES_DONE.key, REL_MW_RES_ERR.key] d')
      ∧ (d'.get REL_MW_RES_ERR = 0 → ((d'.bank (d.get REL_MW_IDX_MEM) (d.get REL_MW_IDX_BANK)).entryOf (d.get REL_MW_ARG_WORD)).isSome = true)) d'))
  ∧ (Does (.relMwUnmap) s (fun d d' =>
      if d.domOn 3 = false then d' = d
      else d.Windowed REL_MW_RES_DONE (
      d'.get REL_MW_RES_ERR = (if d.get REL_MW_IDX_MEM = 11 then 4 else if ((d.bank (d.get REL_MW_IDX_MEM) (d.get REL_MW_IDX_BANK)).entryOf (d.get REL_MW_ARG_WORD)).isSome then 0 else 3)
      ∧ (d'.get REL_MW_RES_ERR ≠ 0 → d.only [REL_MW_RES_DONE.key, REL_MW_RES_ERR.key] d')
      ∧ (∀ k ∈ (d.bank (d.get REL_MW_IDX_MEM) (d.get REL_MW_IDX_BANK)).entryOf (d.get REL_MW_ARG_WORD), d'.get REL_MW_RES_ERR = 0
          → (d'.bank (d.get REL_MW_IDX_MEM) (d.get REL_MW_IDX_BANK)).remap = (d.bank (d.get REL_MW_IDX_MEM) (d.get REL_MW_IDX_BANK)).remap.set k none none)) d'))
  ∧ (∀ (thr : Fin 32), Does (.bistSliceGo thr) s (fun d d' =>
      if d.domOn 3 = false then d' = d
      else if d.bistReason thr (d.get REL_BIST_TGT_TARGET) ≠ 0 then
        d'.get REL_BIST_STAT_RESULT = 3 ∧ d'.get REL_BIST_STAT_REASON = d.bistReason thr (d.get REL_BIST_TGT_TARGET) ∧ d.only [REL_BIST_STAT_RESULT.key, REL_BIST_STAT_REASON.key] d'
      else d'.get REL_BIST_STAT_BUSY = 1 ∧ d'.get REL_BIST_STAT_REASON = 0
        ∧ (d'.rel.slice.map (fun x => (x.target, x.slice))) = some (d.get REL_BIST_TGT_TARGET, d.get REL_BIST_TGT_SLICE)
        ∧ (d.get REL_BIST_TGT_TARGET < 8 → d'.tstate (4 * d.get REL_BIST_TGT_TARGET) = 0)))
  ∧ (∀ (misr : BitVec 64) (res : BistEnd), Does (.bistSliceDone misr res) s (fun d d' =>
      if d.domOn 3 = false then d' = d
      else match d.rel.slice with
      | none => d' = d
      | some _ => d'.rel.slice = none ∧ d'.get REL_BIST_STAT_BUSY = 0 ∧ d'.get REL_BIST_STAT_RESULT = (match res with | .pass => 0 | .fail => 1 | .aborted => 2)
        ∧ d'.get REL_EVT_BIST_DONE = 1 ∧ (res ≠ .aborted → d'.get REL_BIST_MISR_LO_MISR = misr.toNat % 2 ^ 32 ∧ d'.get REL_BIST_MISR_HI_MISR = misr.toNat / 2 ^ 32)
        ∧ (res = .fail → d'.get REL_EVT_BIST_FAIL = 1)))
  ∧ (Does (.ddrEnable) s (fun d d' =>
      if d.domOn 2 = false then d' = d
      else d'.get DDR_CTL_EN = 1 ∧ d.only [DDR_CTL_EN.key] d'))
  ∧ (Does (.ddrTrainingDone) s (fun d d' =>
      if d.domOn 2 = false then d' = d
      else if d.get DDR_CTL_EN = 1 then d'.get DDR_STAT_READY = 1 ∧ d'.get DDR_STAT_SELFREF = 0 ∧ d.only [DDR_STAT_READY.key, DDR_STAT_SELFREF.key] d' else d' = d))
  ∧ (Does (.ddrSelfRefreshEnter) s (fun d d' =>
      d.only [DDR_STAT_SELFREF.key] d'
      ∧ d'.get DDR_STAT_SELFREF = (if d.get DDR_CTL_EN = 1 ∧ d.get DDR_STAT_READY = 1 ∧ d.get DDR_CTL_SR_EN = 1 ∧ d.get DDR_SR_EXIT * 1000 < d.get (DSO_Dn_COVER_NS 0)
          ∧ d.get DDR_SR_EXIT * 1000 < d.get (DSO_Dn_COVER_NS 1) then 1 else d.get DDR_STAT_SELFREF)))
  ∧ (Does (.ddrSelfRefreshExit) s (fun d d' =>
      if d.domOn 2 = false then d' = d
      else d'.get DDR_STAT_SELFREF = 0 ∧ d.only [DDR_STAT_SELFREF.key] d'))
  ∧ (Does (.dramWipeDone) s (fun d d' =>
      if d.get DDR_STAT_READY = 0 ∨ d.boot.wiped = true then d' = d
      else (d'.boot.wiped = true ∨ (d.boot.stage = 9 ∧ d'.boot.stage = 6 ∧ d'.get SYS_RST_CAUSE_CAUSE = 3)) ∧ (d.boot.stage ≠ 9 → d'.mem = d.mem.filter (fun c => decide (c.1 < 0x8000000000)) ∧ d'.flds = d.flds)))

/-- For every state: a power-die POR starts at the first step, a main-die POR and a soft reset leave the main die reset with SRAM
wiped, and a soft reset its cause; the steps of start-up follow one another, each command acting only in its own; the boot ROM
ends or waits for DRAM; the watchdog counts from TIMEOUT when enabled and kicked, and its expiry is a soft reset of cause WDOG;
a register read resumes its thread; a DRP port toggles and settles; a drive's shutdown and the release of PERST act only where
they are due. (R332, R396, R408, R410, R571, R575, R576, R577, R578, R581, R589) -/
def Obligations.ResetBootAndWatchdogComplete : Prop :=
  ∀ s : State,
  (Does (.powerDiePor) s (fun d d' =>
      d'.boot.stage = 0 ∧ d'.boot.porst = true ∧ d'.ctxs = [] ∧ d'.posted = [] ∧ (∀ c ∈ d'.mem, 0x200000 ≤ c.1) ∧ d'.hsw = HswPart.reset ∧ d'.hswState = 1 ∧ d'.pdc = PdcPart.reset
      ∧ d'.boot.otp = d.boot.otp ∧ d'.rel = RelPart.reset ∧ d'.boot.images = [] ∧ d'.boot.wdog = 0 ∧ (∀ n, n < 12 → d'.domOn (n + 1) = true)))
  ∧ (Does (.mainDiePor) s (fun d d' =>
      d'.boot.porst = true ∧ d'.boot.stage = (if d.get HSW_STAT_PGOOD = 1 then min 4 d.boot.stage else min 1 d.boot.stage) ∧ d'.ctxs = [] ∧ d'.posted = []
      ∧ (∀ c ∈ d'.mem, 0x200000 ≤ c.1) ∧ d'.hsw = d.hsw ∧ d'.pdc = d.pdc ∧ d'.rel = RelPart.reset ∧ d'.boot.otp = d.boot.otp
      ∧ d'.boot.images = [] ∧ d'.boot.wdog = 0 ∧ d'.aon.bridgeUp = true ∧ (∀ n, n < 12 → d'.domOn (n + 1) = true ∧ d'.get (PWR_Dd_STAT_HELD (n + 1)) = 0)))
  ∧ (Does (.softReset) s (fun d d' =>
      if d.cycle.expiry = some d.power.osc then d'.get SYS_RST_CAUSE_CAUSE = 1 ∧ d.only [SYS_RST_CAUSE_CAUSE.key] d'
      else d'.get SYS_RST_CAUSE_CAUSE = 1 ∧ d'.get SYS_RST_CAUSE_COUNT = min (2 ^ SYS_RST_CAUSE_COUNT.w - 1) (d.get SYS_RST_CAUSE_COUNT + 1)
        ∧ d'.boot.stage = min 6 d.boot.stage ∧ d'.ctxs = [] ∧ d'.posted = [] ∧ (∀ c ∈ d'.mem, 0x200000 ≤ c.1) ∧ d'.hsw = d.hsw ∧ d'.pdc = d.pdc
        ∧ d'.boot.otp = d.boot.otp ∧ d'.boot.images = [] ∧ d'.boot.wdog = 0 ∧ d'.aon.bridgeUp = true ∧ (∀ n, n < 12 → d'.domOn (n + 1) = true ∧ d'.get (PWR_Dd_STAT_HELD (n + 1)) = 0)))
  ∧ (Does (.porstRelease) s (fun d d' =>
      if d.boot.stage = 4 ∧ d.get HSW_STAT_PGOOD = 1 then d'.boot = { d.boot with porst := false, stage := 6 } ∧ d'.mem = d.mem ∧ d'.get LCS_STATE_LC = d.boot.otp.lc % 2 ^ LCS_STATE_LC.w else d' = d))
  ∧ (Does (.mainPllLock) s (fun d d' =>
      if d.boot.stage = 6 ∧ d.boot.porst = false then d'.boot.stage = 7 ∧ d'.mem = d.mem else d' = d))
  ∧ (∀ (k : Fin 8) (pass : Bool), Does (.bootCoreBistDone k pass) s (fun d d' =>
      if d.boot.stage = 7 ∧ (∀ j, j < k.val → d.boot.failed.testBit j = true) ∧ d.boot.failed.testBit k = false then
        (if pass then d' = { d with boot := { d.boot with core := k, stage := 8 } }
         else d'.boot = { d.boot with failed := d.boot.failed ||| 2 ^ k.val } ∧ d'.get SYN_STAT_CORE_OK = (d.get SYN_STAT_CORE_OK &&& (0xFF - 2 ^ k.val)) ∧ d'.tstate (4 * k) = 0
           ∧ d'.get REL_BIST_FAILS_COUNT = (d.get REL_BIST_FAILS_COUNT + 1) % 2 ^ 32)
      else d' = d))
  ∧ (∀ (ikm : Option (List (BitVec 8))) (fails : List (BitVec 8)) (bad : List (Fin 11 × Fin 32 × BitVec 24)), Does (.bootRomStart ikm fails bad) s (fun d d' =>
      if d.boot.stage ≠ 8 then d' = d
      else if d.lifecycle = 4 ∨ d.directory = none then d' = d.romEnd ∧ d'.boot.stage = 10 ∧ d'.boot.token = false
        ∧ d'.boot.report = some d.bootStatus ∧ d'.get SYS_BOOT_STAT_STATUS = d.bootStatus % 2 ^ 32
        ∧ (d.boot.images = [] ∨ d.boot.fatal = true → d'.tstate (4 * d.boot.core) = 3)
      else (d'.boot.stage = 9 ∨ d'.boot.stage = 10 ∨ (d'.boot.stage = 6 ∧ d'.get SYS_RST_CAUSE_CAUSE = 3))
        ∧ (d'.boot.stage = 9 → d'.get DDR_CTL_EN = 1 ∧ d'.boot.images ≠ [] ∧ d'.boot.wiped = false)
        ∧ (d'.boot.stage = 10 → d'.get DDR_CTL_EN = 1 ∧ d'.boot.report.isSome = true ∧ d'.get SYS_BOOT_STAT_STATUS = d'.boot.report.getD 0 % 2 ^ 32 ∧ d'.boot.token = false)
        ∧ (d'.boot.stage ≠ 6 → ∀ x ∈ bad, ((d'.bank x.1 x.2.1).entryOf x.2.2.toNat).isSome = true ∨ (d'.bank x.1 x.2.1).freeEntry = none)))
  ∧ (∀ (en : Bool) (timeout : BitVec 16), Does (.wdogCtlWrite en timeout) s (fun d d' =>
      d'.get SYS_WDOG_CTL_EN = b2n en ∧ d'.get SYS_WDOG_CTL_TIMEOUT = timeout.toNat
      ∧ d'.boot.wdog = (if en = false then 0 else if d.get SYS_WDOG_CTL_EN = 1 then d.boot.wdog else max 1 timeout.toNat)))
  ∧ (∀ (v : Word), Does (.wdogKick v) s (fun d d' =>
      if d.get SYS_WDOG_CTL_EN = 0 then d' = d
      else if v = 0x5A5A then d' = { d with boot := { d.boot with wdog := max 1 (d.get SYS_WDOG_CTL_TIMEOUT) } }
      else d' = d.softReset 2 ∧ d'.get SYS_RST_CAUSE_CAUSE = 2 ∧ d'.boot.stage = min 6 d.boot.stage ∧ d'.boot.wdog = 0
        ∧ d'.get SYS_RST_CAUSE_COUNT = min (2 ^ SYS_RST_CAUSE_COUNT.w - 1) (d.get SYS_RST_CAUSE_COUNT + 1) ∧ d'.posted = [] ∧ d'.hsw = d.hsw ∧ d'.pdc = d.pdc))
  ∧ (Does (.wdogExpire) s (fun d d' =>
      if d.get SYS_WDOG_CTL_EN = 0 then d' = d else d' = d.softReset 2 ∧ d'.get SYS_RST_CAUSE_CAUSE = 2 ∧ d'.boot.wdog = 0 ∧ d'.boot.stage = min 6 d.boot.stage
        ∧ d'.get SYS_RST_CAUSE_COUNT = min (2 ^ SYS_RST_CAUSE_COUNT.w - 1) (d.get SYS_RST_CAUSE_COUNT + 1) ∧ d'.posted = [] ∧ d'.hsw = d.hsw ∧ d'.pdc = d.pdc))
  ∧ (∀ (t : Fin 32) (e : ActEnv), Does (.regReadComplete t e) s (fun d d' =>
      match d.syn.orphans.find? (fun x => x.1 == t.val), (d.thr t).wait with
      | some x, _ => d' = (let y := { d with syn := { d.syn with orphans := d.syn.orphans.erase x } }
          ((y.beforeRead t x.2 e).busRead t x.2).2)
      | none, .reg rd a len => if (((d.beforeRead t a e).busRead t a).2.thr t).wait = .reg rd a len then
          d' = (((d.beforeRead t a e).busRead t a).2.wr t (rd % 32) (extend 4 ((d.beforeRead t a e).busRead t a).1 (decide (32 ≤ rd)))).retire t len
        else d' = ((d.beforeRead t a e).busRead t a).2
      | none, _ => d' = d))
  ∧ (∀ (n : Fin 8) (cc2 : Bool) (rp : Fin 3), Does (.ccRpDetect n cc2 rp) s (fun d d' =>
      if d.pdcOn n = true ∧ d.conn n = 0 ∧ (d.get (PDC_Pn_CFG_ROLE n) = 1 ∨ (d.get (PDC_Pn_CFG_ROLE n) = 2 ∧ (d.pc n).rp = false)) then
        d'.get (PDC_Pn_STAT_FLIP n) = b2n cc2 ∧ d'.get (PDC_Pn_STAT_RPCUR n) = rp ∧ (d'.conn n = 3 ∨ (d'.conn n = 0 ∧ (d'.pc n).dwell = 1 ∧ (d'.pc n).tried = true))
      else d' = d))
  ∧ (∀ (n : Fin 8), Does (.drpToggle n) s (fun d d' =>
      if d.pdcOn n = true ∧ d.conn n = 0 ∧ d.get (PDC_Pn_CFG_ROLE n) = 2 ∧ (d.pc n).dwell = 0 then
        (d'.pc n).rp = !(d.pc n).rp ∧ d' = { d with pdc := d'.pdc }
      else d' = d))
  ∧ (∀ (n : Fin 8) (found : Bool), Does (.tryDwellExpire n found) s (fun d d' =>
      if d.pdcOn n = false then (d'.pc n).rp = false ∧ (d'.pc n).dwell = 0 ∧ d' = { d with pdc := d'.pdc }
      else if (d.pc n).dwell = 1 ∧ found = true then
        (if d.barred n = true then (d'.pc n).rp = false ∧ (d'.pc n).dwell = 0 ∧ d' = { d with pdc := d'.pdc }
         else Dev.AsksPower ((d.modPc n (fun x => { x with dwell := 0 })).set (PDC_Pn_STAT_CONN n) 1) n (d.maxW n) d'
           ∧ (d.powerIdle → d'.conn n = 1))
      else if (d.pc n).dwell = 1 ∨ ((d.pc n).dwell = 2 ∧ found = true) then
        d'.conn n = 3 ∧ (d'.pc n).dwell = 0 ∧ d'.get (PDC_Pn_STAT_RPCUR n) = d.get (PDC_Pn_STAT_RPCUR n) ∧ d'.get (PDC_Pn_EVT_ATTACH n) = 1
          ∧ d'.get (PDC_Pn_CONTRACT_POS n) = 0
      else d' = { d with pdc := d'.pdc } ∧ (d'.pc n).dwell = 0))
  ∧ (∀ (n : Fin 2), Does (.driveShutdownDone n) s (fun d d' =>
      if d.domOn 11 = false then d' = d
      else if (d.drive n).shut then d'.get (STO_Sn_STAT_STATE n) = 0 ∧ d'.get (STO_Sn_STAT_GEN n) = 0 ∧ d'.get (STO_Sn_STAT_WIDTH n) = 0 ∧ d'.drive n = Drive.reset ∧ d'.mem = d.mem else d' = d))
  ∧ (∀ (n : Fin 2), Does (.snPerstNRelease n) s (fun d d' =>
      if d.domOn 11 = false then d' = d
      else if d.stoState n = 1 then (d'.drive n).perst = true ∧ d'.flds = d.flds ∧ d'.mem = d.mem else d' = d))
  ∧ (Does (.powerDiePorRelease) s (fun d d' =>
      if d.boot.stage = 0 then d'.boot.stage = 1 ∧ d' = { d with boot := { d.boot with stage := 1 } } else d' = d))

/-- For every state, thread, load and store of 1, 2, 4 or 8 bytes that the thread issues: at an address that is not a multiple of
its size, or in register space unless it has 4 bytes, it raises ALIGN, changes no general register, and outside a handler enters
the handler and changes no byte of memory. ALIGN is exception 2 (R338). (R327) -/
def Obligations.MisalignedAccessesRaiseAlign : Prop :=
  ∀ (s : State) (t : Fin 32) (p : Fin 8) (rs1 : Fin 32) (imm : Imm 13),
  (∀ (rd : Fin 32) (miss : Bool) (ecc : Ecc), s.dev.mayIssue t (.ld8u t p rd rs1 imm miss ecc) p → s.dev.region ((s.dev.rg t rs1 + immS imm).toNat % 2 ^ 40) = .regs →
      Does (.ld8u t p rd rs1 imm miss ecc) s (fun d d' => d.RaisesAlign t ((s.dev.rg t rs1 + immS imm).toNat % 2 ^ 40) d'))
  ∧ (∀ (rd : Fin 32) (miss : Bool) (ecc : Ecc), s.dev.mayIssue t (.ld16u t p rd rs1 imm miss ecc) p → ((s.dev.rg t rs1 + immS imm).toNat % 2 ^ 40) % 2 ≠ 0 ∨ s.dev.region ((s.dev.rg t rs1 + immS imm).toNat % 2 ^ 40) = .regs →
      Does (.ld16u t p rd rs1 imm miss ecc) s (fun d d' => d.RaisesAlign t ((s.dev.rg t rs1 + immS imm).toNat % 2 ^ 40) d'))
  ∧ (∀ (rd : Fin 32) (miss : Bool) (ecc : Ecc), s.dev.mayIssue t (.ld32u t p rd rs1 imm miss ecc) p → ((s.dev.rg t rs1 + immS imm).toNat % 2 ^ 40) % 4 ≠ 0 →
      Does (.ld32u t p rd rs1 imm miss ecc) s (fun d d' => d.RaisesAlign t ((s.dev.rg t rs1 + immS imm).toNat % 2 ^ 40) d'))
  ∧ (∀ (rd : Fin 32) (miss : Bool) (ecc : Ecc), s.dev.mayIssue t (.ld64 t p rd rs1 imm miss ecc) p → ((s.dev.rg t rs1 + immS imm).toNat % 2 ^ 40) % 8 ≠ 0 ∨ s.dev.region ((s.dev.rg t rs1 + immS imm).toNat % 2 ^ 40) = .regs →
      Does (.ld64 t p rd rs1 imm miss ecc) s (fun d d' => d.RaisesAlign t ((s.dev.rg t rs1 + immS imm).toNat % 2 ^ 40) d'))
  ∧ (∀ (rd : Fin 32) (miss : Bool) (ecc : Ecc), s.dev.mayIssue t (.ld8s t p rd rs1 imm miss ecc) p → s.dev.region ((s.dev.rg t rs1 + immS imm).toNat % 2 ^ 40) = .regs →
      Does (.ld8s t p rd rs1 imm miss ecc) s (fun d d' => d.RaisesAlign t ((s.dev.rg t rs1 + immS imm).toNat % 2 ^ 40) d'))
  ∧ (∀ (rd : Fin 32) (miss : Bool) (ecc : Ecc), s.dev.mayIssue t (.ld16s t p rd rs1 imm miss ecc) p → ((s.dev.rg t rs1 + immS imm).toNat % 2 ^ 40) % 2 ≠ 0 ∨ s.dev.region ((s.dev.rg t rs1 + immS imm).toNat % 2 ^ 40) = .regs →
      Does (.ld16s t p rd rs1 imm miss ecc) s (fun d d' => d.RaisesAlign t ((s.dev.rg t rs1 + immS imm).toNat % 2 ^ 40) d'))
  ∧ (∀ (rd : Fin 32) (miss : Bool) (ecc : Ecc), s.dev.mayIssue t (.ld32s t p rd rs1 imm miss ecc) p → ((s.dev.rg t rs1 + immS imm).toNat % 2 ^ 40) % 4 ≠ 0 →
      Does (.ld32s t p rd rs1 imm miss ecc) s (fun d d' => d.RaisesAlign t ((s.dev.rg t rs1 + immS imm).toNat % 2 ^ 40) d'))
  ∧ (∀ rs2 : Fin 32, s.dev.mayIssue t (.st8 t p rs2 rs1 imm) p → s.dev.region ((s.dev.rg t rs1 + immS imm).toNat % 2 ^ 40) = .regs →
      Does (.st8 t p rs2 rs1 imm) s (fun d d' => d.RaisesAlign t ((s.dev.rg t rs1 + immS imm).toNat % 2 ^ 40) d'))
  ∧ (∀ rs2 : Fin 32, s.dev.mayIssue t (.st16 t p rs2 rs1 imm) p → ((s.dev.rg t rs1 + immS imm).toNat % 2 ^ 40) % 2 ≠ 0 ∨ s.dev.region ((s.dev.rg t rs1 + immS imm).toNat % 2 ^ 40) = .regs →
      Does (.st16 t p rs2 rs1 imm) s (fun d d' => d.RaisesAlign t ((s.dev.rg t rs1 + immS imm).toNat % 2 ^ 40) d'))
  ∧ (∀ rs2 : Fin 32, s.dev.mayIssue t (.st32 t p rs2 rs1 imm) p → ((s.dev.rg t rs1 + immS imm).toNat % 2 ^ 40) % 4 ≠ 0 →
      Does (.st32 t p rs2 rs1 imm) s (fun d d' => d.RaisesAlign t ((s.dev.rg t rs1 + immS imm).toNat % 2 ^ 40) d'))
  ∧ (∀ rs2 : Fin 32, s.dev.mayIssue t (.st64 t p rs2 rs1 imm) p → ((s.dev.rg t rs1 + immS imm).toNat % 2 ^ 40) % 8 ≠ 0 ∨ s.dev.region ((s.dev.rg t rs1 + immS imm).toNat % 2 ^ 40) = .regs →
      Does (.st64 t p rs2 rs1 imm) s (fun d d' => d.RaisesAlign t ((s.dev.rg t rs1 + immS imm).toNat % 2 ^ 40) d'))

/-- For every state, thread and store of 1, 2, 4 or 8 bytes that the thread issues to aligned memory outside an accord, with no
accord pending: the low bytes of the register stand at the address least significant first, every other byte of memory is as it
was, no general register changes, the pc moves past the instruction, and a memory in canonical form stays so. (R3, R283, R320,
R327, R360) -/
def Obligations.StoresWriteTheirBytes : Prop :=
  ∀ (s : State) (t : Fin 32) (p : Fin 8) (rs1 rs2 : Fin 32) (imm : Imm 13),
  (s.dev.mayIssue t (.st8 t p rs2 rs1 imm) p → s.dev.storesAtOnce t ((s.dev.rg t rs1 + immS imm).toNat % 2 ^ 40) 1 →
    Does (.st8 t p rs2 rs1 imm) s (fun d d' => d.Wrote ((s.dev.rg t rs1 + immS imm).toNat % 2 ^ 40) 1 (d.rg t rs2).toNat d'
      ∧ (d'.thr t).w = (d.thr t).w ∧ (d'.thr t).pc = ((d.thr t).pc + immLen imm) % 2 ^ 40 ∧ (s.memWf → Memory.wf d'.mem = true)))
  ∧ (s.dev.mayIssue t (.st16 t p rs2 rs1 imm) p → s.dev.storesAtOnce t ((s.dev.rg t rs1 + immS imm).toNat % 2 ^ 40) 2 →
    Does (.st16 t p rs2 rs1 imm) s (fun d d' => d.Wrote ((s.dev.rg t rs1 + immS imm).toNat % 2 ^ 40) 2 (d.rg t rs2).toNat d'
      ∧ (d'.thr t).w = (d.thr t).w ∧ (d'.thr t).pc = ((d.thr t).pc + immLen imm) % 2 ^ 40 ∧ (s.memWf → Memory.wf d'.mem = true)))
  ∧ (s.dev.mayIssue t (.st32 t p rs2 rs1 imm) p → s.dev.storesAtOnce t ((s.dev.rg t rs1 + immS imm).toNat % 2 ^ 40) 4 →
    Does (.st32 t p rs2 rs1 imm) s (fun d d' => d.Wrote ((s.dev.rg t rs1 + immS imm).toNat % 2 ^ 40) 4 (d.rg t rs2).toNat d'
      ∧ (d'.thr t).w = (d.thr t).w ∧ (d'.thr t).pc = ((d.thr t).pc + immLen imm) % 2 ^ 40 ∧ (s.memWf → Memory.wf d'.mem = true)))
  ∧ (s.dev.mayIssue t (.st64 t p rs2 rs1 imm) p → s.dev.storesAtOnce t ((s.dev.rg t rs1 + immS imm).toNat % 2 ^ 40) 8 →
    Does (.st64 t p rs2 rs1 imm) s (fun d d' => d.Wrote ((s.dev.rg t rs1 + immS imm).toNat % 2 ^ 40) 8 (d.rg t rs2).toNat d'
      ∧ (d'.thr t).w = (d.thr t).w ∧ (d'.thr t).pc = ((d.thr t).pc + immLen imm) % 2 ^ 40 ∧ (s.memWf → Memory.wf d'.mem = true)))

/-- For every state in which a thread issues CMP or CMPI: PD reads the comparison of RS1 with RS2, or with the immediate, under
COND, PDN its complement (where both name one predicate it reads the complement: the model's order), p0 reads true whatever PD
and PDN name, every other predicate is as it was, and no general register changes. A reserved COND has no constructor. (R359) -/
def Obligations.ComparesWriteBothPredicates : Prop :=
  ∀ (s : State) (t : Fin 32) (p pd pdn : Fin 8) (rs1 rs2 : Fin 32) (cond : Cond) (imm : Imm 8),
  (s.dev.mayIssue t (.cmp t p pd pdn rs1 rs2 cond) p →
    Does (.cmp t p pd pdn rs1 rs2 cond) s (fun d d' => (pd ≠ 0 → pd ≠ pdn → d'.pred t pd = compare cond (d.rg t rs1) (d.rg t rs2))
      ∧ (pdn ≠ 0 → d'.pred t pdn = !(compare cond (d.rg t rs1) (d.rg t rs2))) ∧ d'.pred t 0 = true
      ∧ (∀ q, q < 8 → q ≠ pd.val → q ≠ pdn.val → d'.pred t q = d.pred t q) ∧ (d'.thr t).w = (d.thr t).w))
  ∧ (s.dev.mayIssue t (.cmpi t p pd pdn rs1 cond imm) p →
    Does (.cmpi t p pd pdn rs1 cond imm) s (fun d d' => (pd ≠ 0 → pd ≠ pdn → d'.pred t pd = compare cond (d.rg t rs1) (immS imm))
      ∧ (pdn ≠ 0 → d'.pred t pdn = !(compare cond (d.rg t rs1) (immS imm))) ∧ d'.pred t 0 = true
      ∧ (∀ q, q < 8 → q ≠ pd.val → q ≠ pdn.val → d'.pred t q = d.pred t q) ∧ (d'.thr t).w = (d.thr t).w))

/-- For every state and port with VCONN on: the command that says its over-current has lasted 1 ms leaves VCONN off, VCONN_OC raised
and the port in ErrorRecovery (CONN 5); with VCONN off there is no current to limit and nothing changes. The current itself is
outside the model. (R421) -/
def Obligations.VconnOvercurrentOpensTheSwitch : Prop :=
  ∀ (s : State) (n : Fin 8), Does (.vconnOvercurrent n) s (fun d d' => if d.get (PDC_Pn_STAT_VCONN n) = 1 then
      d'.get (PDC_Pn_STAT_VCONN n) = 0 ∧ d'.get (PDC_Pn_EVT_VCONN_OC n) = 1 ∧ d'.get (PDC_Pn_STAT_CONN n) = 5
    else d' = d)

/-- For every state in RAMP or ON in which nothing else has met in the controller's tick: a sense sample above FAST, where a FAST
below 1.25 times SLOW acts as 1.25 times SLOW, leaves RETRY_WAIT or LATCHED, in which no gate is driven, the fault timer
stopped, FAST_TRIP raised, FAST_TRIPS counted and PGOOD low; a sample at or below it changes nothing. The microsecond of the
comparator is outside the model. (R495, R496, R501) -/
def Obligations.FastTripPullsTheGateDown : Prop :=
  ∀ (s : State) (sense : BitVec 13) (us : Fin 10), s.dev.quietTick → s.dev.hswState = 4 ∨ s.dev.hswState = 5 →
    Does (.fastTrip sense us) s (fun d d' =>
      if max (4 * d.get HSW_ILIM_FAST) (5 * d.get HSW_ILIM_SLOW) < sense.toNat then
        (d'.hswState = 7 ∨ d'.hswState = 8) ∧ d'.get HSW_STAT_FT_RUN = 0 ∧ d'.get HSW_EVT_FAST_TRIP = 1 ∧ d'.get HSW_STAT_PGOOD = 0
          ∧ d'.get HSW_FAST_TRIPS_COUNT = (d.get HSW_FAST_TRIPS_COUNT + 1) % 2 ^ 32
      else d' = d)

/-- For every state, domain and target: a request during a transition leaves its phase and its state and becomes NEXT, whatever NEXT
was; when the drydown or the wake ends, the request in NEXT acts and NEXT is empty again. TARGET 3 and AON are shut out: they
take no request (R529). (R518) -/
def Obligations.RequestsWaitForTransitions : Prop :=
  (∀ (s : State) (n : Fin 13) (target : Fin 4), n ≠ 0 → target ≠ 3 → s.dev.phaseOf n ≠ 0 →
    Does (.domainRequestWrite n target) s (fun d d' => d'.phaseOf n = d.phaseOf n ∧ d'.domState n = d.domState n ∧ d'.get (PWR_Dd_STAT_NEXT n) = target))
  ∧ (∀ (s : State) (n : Fin 13), s.dev.phaseOf n = 6 → Does (.dryDone n) s (fun d d' => d' =
      ((((((d.set (PWR_Dd_STAT_STATE n) (d.aim n)).setPhase n 0).domReset n (d.aim n == 1)).modPower
        (fun p => { p with aims := p.aims.set n (0, false) (0, false) })).pwrRaise 0 n).settled n).lowIf))
  ∧ (∀ (s : State) (n : Fin 13), s.dev.phaseOf n = 7 → Does (.domainWakeDone n) s (fun d d' => d' =
      (((((((d.domReset n (d.domState n == 1)).set (PWR_Dd_STAT_STATE n) 0).setPhase n 0).modPower
        (fun p => { p with waking := p.waking.filter (· != n.val) })).domStarts n (d.domState n == 1)).pwrRaise 1 n).settled n).wakeRecords))
  ∧ ∀ (d : Dev) (n : Fin 13), d.settled n = if d.get (PWR_Dd_STAT_NEXT n) = 3 then d.wakeGo
      else ((d.set (PWR_Dd_STAT_NEXT n) 3).pwrRequest n (d.get (PWR_Dd_STAT_NEXT n))).wakeGo

/-- For every thread: the LIMM pair and the words of the worked examples of spec 11, and the all-zero word, decode to the
instructions written beside them; a LIMM before a LIMM, a LIMM before a branch and a reserved opcode decode to none.
(11_synosh_instructions.md, R352, R353, R354) -/
def Obligations.SynoshWordsDecode : Prop :=
  ∀ (t : Fin 32) (next : Nat), synDecode t 0x1F8000A8 0x00940010 = some (.addi t 0 5 0 (.pair 0x2A10))
  ∧ synDecode t 0x6D1C8108 next = some (.st32 t 3 7 4 (.short 0x108))
  ∧ synDecode t 0x1FC1C44A 0x01900000 = some (.ori t 0 4 0 (.pair 0x10711280))
  ∧ synDecode t 0x1804C001 next = some (.acbAt t 0 1 6 0) ∧ synDecode t 0x1904004C next = some (.acc t 0 1 0 2 3)
  ∧ synDecode t 0 next = some (.add t 0 0 0 0)
  ∧ synDecode t 0x1F8000A8 0x1F8000A8 = none ∧ synDecode t 0x1F8000A8 0x10000000 = none ∧ synDecode t 0x1F000000 next = none

/-- For every segment key or none, every extended number, every header whose fields are in their ranges, with its NONCE 0 in a
sequenced block and the first 8 bytes of the payload in an unsequenced one, and every payload of 256 bytes: the 272 bytes that
sealBlock builds pass the check and open to the same header and payload. AES-256-GCM is the standard one (log entry 9). (R77,
R79, R94, R97, 03_trunk_link_layer.md) -/
def Obligations.SealedBlocksOpen : Prop :=
  ∀ (key : Option SegKey) (ext : Nat) (h : BlkHdr) (payload : List Byte), payload.length = 256 → h.ty < 16 → h.seq < 4096 → h.ack < 4096
    → h.akind < 16 → h.sq < 256 → h.pid < 65536 → h.len < 512 → h.ccls < 8 → h.ccnt < 2 ^ 20
    → h.nonce = (if seqType h.ty then 0 else beNat (payload.take 8)) →
    (sealBlock key ext h payload).length = 272 ∧ openBlock key ext (sealBlock key ext h payload) = some (h, payload)

/-- For every CAP, TICK, DELAY, CREDIT, ACCORD, WRAP and AUTH body whose fields are in the ranges of the table: reading the payload
that is built from it gives each field back (of an ACCORD and a WRAP also the bytes in which it came). A received ACCORD payload
that is forwarded as it came is the same 38 bytes, its reserved bits with them. (R3, R4, R5, R94, 03_trunk_link_layer.md) -/
def Obligations.ControlPayloadsReadBack : Prop :=
  (∀ (c : Cap) (n : Nat), c.subtype < 2 ^ 8 → c.unitId < 2 ^ 64 → c.station < 2 ^ 12 → c.plan < 2 ^ 4 → c.allow < 2 ^ 12 → c.segLen < 2 ^ 14
      → c.cur < 2 ^ 4 → c.port < 2 ^ 8 → c.reqSer < 2 ^ 32 → c.lanes.length = 4 → (∀ x ∈ c.lanes, x.2 < 2 ^ 31) → c.rev < 2 ^ 8 →
      capOf ((Body.cap c).payload n) = c)
  ∧ (∀ (m : Tick) (n : Nat), m.origin.sec < 2 ^ 48 → m.origin.ns < 2 ^ 30 → m.origin.frac < 2 ^ 32 → -2 ^ 63 ≤ m.corr → m.corr < 2 ^ 63
      → m.count < 2 ^ 16 → m.source < 2 ^ 12 → m.quality < 2 ^ 8 → tickOf ((Body.tick m).payload n) = m)
  ∧ (∀ (m : Delay) (n : Nat), m.dseq < 2 ^ 16 → (∀ x ∈ [m.t1, m.t2, m.t3], x.sec < 2 ^ 48 ∧ x.ns < 2 ^ 30 ∧ x.frac < 2 ^ 32) →
      delayOf ((Body.delay m).payload n) = m)
  ∧ (∀ (l : List Nat) (n : Nat), l.length = 8 → (∀ x ∈ l, x < 2 ^ 32) → cumOf ((Body.credit l).payload n) = l)
  ∧ (∀ (m : AcMsg) (n : Nat), m.subtype < 2 ^ 8 → m.id < 2 ^ 32 → m.epoch < 2 ^ 32 → m.commit.sec < 2 ^ 48 → m.commit.ns < 2 ^ 30
      → m.commit.frac < 2 ^ 32 → m.coord < 2 ^ 12 → m.noStn < 2 ^ 12 → m.voters < 2 ^ 12 → m.hops < 2 ^ 16 → m.fenced < 2 ^ 12 →
      acOf ((Body.accord m).payload n) = { m with raw := ((Body.accord m).payload n).take 38 })
  ∧ (∀ (m : WrapMsg) (n : Nat), m.port < 2 ^ 8 → m.cause < 2 ^ 8 → m.station < 2 ^ 12 → m.hops < 2 ^ 16 → m.whenAt.sec < 2 ^ 48
      → m.whenAt.ns < 2 ^ 30 → m.whenAt.frac < 2 ^ 32 → wrapOf ((Body.wrap m).payload n) = { m with raw := ((Body.wrap m).payload n).take 24 })
  ∧ (∀ (msg idx cnt total n : Nat) (l : List Byte), msg < 2 ^ 8 → idx < 2 ^ 8 → cnt < 2 ^ 8 → total < 2 ^ 16 → l.length ≤ 248 →
      fragOf (8 + l.length) ((Body.auth msg idx cnt total l).payload n) = ⟨msg, idx, cnt, total, l⟩)
  ∧ ∀ (l : List Byte) (n : Nat), l.length = 256 → (Body.accord (acOf l)).payload n = pad256 (l.take 38)

/-- For every state: each of these commands leaves memory, threads, links, accords and every other part of the device as they were,
but for the parts its line names (register fields, and where it says so the part that holds its engine): helloSilence, ctxRead,
ctxWrite, ctxClrcnt, refillStart, swcQRead, swcQWrite, swcQClrcnt, tbSnapshot, timePllLock, servoSrcWrite, ppsOutPulseEnd,
silRdWrite, gwRead, gwWrite, qsClrcnt, psClrcnt, evqCfgWrite, pqCfgWrite, perfSnapshot, pauseExpire, ethTsfPop, ctrlAck,
ctrlStall, audFeedbackRead, audTrimUpdate, lpmL1Request, usbWakeWrite, remoteWakeSignal, feedValid, feedInvalid, seatAssert,
rampComplete, gateOn, gateRiseTimeout, faultTimerStart, faultTimerReset, retryWaitEnd, hswEnable, hswClrHist, hswClrEnergy,
hswSnap, hswIRead, clockstopDone, holdDone, saveDone, padRelease, avsAck, avsRetryTimer, railRefreshTimer, railEntryWrite,
keySubmitStore, keySlotRead, ddrEnable, ddrTrainingDone, ddrSelfRefreshExit, porstRelease, wdogCtlWrite, hubPortConnect,
usbLinkIdleTimer, powerDiePorRelease. (01_the_line_and_the_hub.md, 06_switch_core.md, 07_line_time.md,
10_synosh_programming_model.md, 16_feeds_and_hot_swap.md, 17_power_domains.md, 19_memory_protection_and_self_test.md) -/
def Obligations.QuietCommandsFrame : Prop :=
  ∀ s : State,
  (Does (.helloSilence) s (fun d d' =>
      d' = { d with enq := d'.enq }))
  ∧ (Does (.ctxRead) s (fun d d' =>
      d' = { d with flds := d'.flds, cycle := d'.cycle }))
  ∧ (Does (.ctxWrite) s (fun d d' =>
      d' = { d with flds := d'.flds, cycle := d'.cycle }))
  ∧ (Does (.ctxClrcnt) s (fun d d' =>
      d' = { d with flds := d'.flds, cycle := d'.cycle }))
  ∧ (∀ (q : Fin 1216), Does (.refillStart q) s (fun d d' =>
      d' = { d with flds := d'.flds, sw := d'.sw }))
  ∧ (Does (.swcQRead) s (fun d d' =>
      d' = { d with flds := d'.flds, cycle := d'.cycle }))
  ∧ (Does (.swcQWrite) s (fun d d' =>
      d' = { d with flds := d'.flds, cycle := d'.cycle }))
  ∧ (Does (.swcQClrcnt) s (fun d d' =>
      d' = { d with flds := d'.flds, cycle := d'.cycle }))
  ∧ (Does (.tbSnapshot) s (fun d d' =>
      d' = { d with flds := d'.flds }))
  ∧ (Does (.timePllLock) s (fun d d' =>
      d' = { d with flds := d'.flds, time := d'.time }))
  ∧ (∀ (src : Fin 16), Does (.servoSrcWrite src) s (fun d d' =>
      d' = { d with flds := d'.flds }))
  ∧ (Does (.ppsOutPulseEnd) s (fun d d' =>
      d' = { d with time := d'.time }))
  ∧ (∀ (val : Word), Does (.silRdWrite val) s (fun d d' =>
      d' = { d with flds := d'.flds }))
  ∧ (Does (.gwRead) s (fun d d' =>
      d' = { d with flds := d'.flds, cycle := d'.cycle }))
  ∧ (Does (.gwWrite) s (fun d d' =>
      d' = { d with flds := d'.flds, cycle := d'.cycle }))
  ∧ (Does (.qsClrcnt) s (fun d d' =>
      d' = { d with flds := d'.flds, cycle := d'.cycle }))
  ∧ (Does (.psClrcnt) s (fun d d' =>
      d' = { d with flds := d'.flds, cycle := d'.cycle }))
  ∧ (∀ (q : Fin 32) (v : Word), Does (.evqCfgWrite q v) s (fun d d' =>
      d' = { d with flds := d'.flds }))
  ∧ (∀ (q : Fin 32) (v : Word), Does (.pqCfgWrite q v) s (fun d d' =>
      d' = { d with flds := d'.flds }))
  ∧ (∀ (v : Word), Does (.perfSnapshot v) s (fun d d' =>
      d' = { d with flds := d'.flds, freeCtr := d'.freeCtr, syn := d'.syn }))
  ∧ (∀ (n : Fin 10), Does (.pauseExpire n) s (fun d d' =>
      d' = { d with flds := d'.flds }))
  ∧ (∀ (n : Fin 10), Does (.ethTsfPop n) s (fun d d' =>
      d' = { d with flds := d'.flds, eth := d'.eth }))
  ∧ (∀ (tag : Byte), Does (.ctrlAck tag) s (fun d d' =>
      d' = { d with usb := d'.usb }))
  ∧ (∀ (tag : Byte), Does (.ctrlStall tag) s (fun d d' =>
      d' = { d with flds := d'.flds, usb := d'.usb }))
  ∧ (Does (.audFeedbackRead) s (fun d d' =>
      d' = { d with flds := d'.flds, usb := d'.usb }))
  ∧ (∀ (ns : Word), Does (.audTrimUpdate ns) s (fun d d' =>
      d' = { d with flds := d'.flds }))
  ∧ (Does (.lpmL1Request) s (fun d d' =>
      d' = { d with flds := d'.flds, usb := d'.usb }))
  ∧ (Does (.usbWakeWrite) s (fun d d' =>
      d' = { d with flds := d'.flds }))
  ∧ (Does (.remoteWakeSignal) s (fun d d' =>
      d' = { d with flds := d'.flds, usb := d'.usb }))
  ∧ (∀ (x : Fin 2) (v : BitVec 12), Does (.feedValid x v) s (fun d d' =>
      d' = { d with flds := d'.flds }))
  ∧ (∀ (x : Fin 2) (v : BitVec 12), Does (.feedInvalid x v) s (fun d d' =>
      d' = { d with flds := d'.flds }))
  ∧ (Does (.seatAssert) s (fun d d' =>
      d' = { d with flds := d'.flds }))
  ∧ (∀ (vin vout : BitVec 12), Does (.rampComplete vin vout) s (fun d d' =>
      d' = { d with flds := d'.flds, hsw := d'.hsw }))
  ∧ (Does (.gateOn) s (fun d d' =>
      d' = { d with flds := d'.flds, hsw := d'.hsw }))
  ∧ (Does (.gateRiseTimeout) s (fun d d' =>
      d' = { d with hsw := d'.hsw }))
  ∧ (∀ (sense : BitVec 12) (us : Fin 10), Does (.faultTimerStart sense us) s (fun d d' =>
      d' = { d with flds := d'.flds, hsw := d'.hsw }))
  ∧ (∀ (sense : BitVec 12), Does (.faultTimerReset sense) s (fun d d' =>
      d' = { d with hsw := d'.hsw }))
  ∧ (Does (.retryWaitEnd) s (fun d d' =>
      d' = { d with flds := d'.flds, hsw := d'.hsw }))
  ∧ (Does (.hswEnable) s (fun d d' =>
      d' = { d with flds := d'.flds }))
  ∧ (Does (.hswClrHist) s (fun d d' =>
      d' = { d with flds := d'.flds, hsw := d'.hsw }))
  ∧ (Does (.hswClrEnergy) s (fun d d' =>
      d' = { d with hsw := d'.hsw }))
  ∧ (Does (.hswSnap) s (fun d d' =>
      d' = { d with flds := d'.flds }))
  ∧ (Does (.hswIRead) s (fun d d' =>
      d' = { d with flds := d'.flds }))
  ∧ (∀ (n : Fin 13), Does (.clockstopDone n) s (fun d d' =>
      d' = { d with flds := d'.flds }))
  ∧ (∀ (n : Fin 13), Does (.holdDone n) s (fun d d' =>
      d' = { d with flds := d'.flds, power := d'.power }))
  ∧ (∀ (n : Fin 13), Does (.saveDone n) s (fun d d' =>
      d' = { d with flds := d'.flds }))
  ∧ (∀ (n : Fin 13), Does (.padRelease n) s (fun d d' =>
      d' = { d with flds := d'.flds, power := d'.power }))
  ∧ (Does (.avsAck) s (fun d d' =>
      d' = { d with flds := d'.flds, power := d'.power, boot := d'.boot }))
  ∧ (Does (.avsRetryTimer) s (fun d d' =>
      d' = { d with flds := d'.flds, power := d'.power }))
  ∧ (Does (.railRefreshTimer) s (fun d d' =>
      d' = { d with power := d'.power }))
  ∧ (∀ (k : Fin 8) (v : Word), Does (.railEntryWrite k v) s (fun d d' =>
      d' = { d with flds := d'.flds, power := d'.power }))
  ∧ (Does (.keySubmitStore) s (fun d d' =>
      d' = { d with flds := d'.flds }))
  ∧ (Does (.keySlotRead) s (fun d d' =>
      d' = { d with flds := d'.flds, cycle := d'.cycle }))
  ∧ (Does (.ddrEnable) s (fun d d' =>
      d' = { d with flds := d'.flds }))
  ∧ (Does (.ddrTrainingDone) s (fun d d' =>
      d' = { d with flds := d'.flds }))
  ∧ (Does (.ddrSelfRefreshExit) s (fun d d' =>
      d' = { d with flds := d'.flds }))
  ∧ (Does (.porstRelease) s (fun d d' =>
      d' = { d with flds := d'.flds, boot := d'.boot }))
  ∧ (∀ (en : Bool) (timeout : BitVec 16), Does (.wdogCtlWrite en timeout) s (fun d d' =>
      d' = { d with flds := d'.flds, boot := d'.boot }))
  ∧ (∀ (e : Fin 15) (what speed : Fin 3), Does (.hubPortConnect e what speed) s (fun d d' =>
      d' = { d with flds := d'.flds, usb := d'.usb }))
  ∧ (∀ (u2 host : Bool), Does (.usbLinkIdleTimer u2 host) s (fun d d' =>
      d' = { d with flds := d'.flds, usb := d'.usb }))
  ∧ (Does (.powerDiePorRelease) s (fun d d' =>
      d' = { d with boot := d'.boot }))
end

