-- ==== Sys2Proof/Laws/Sparse.lean ====
section
/-! SUPPORT. The laws of sparse tables: a read after a write, at the same key and at another; a write keeps the
canonical form. -/

namespace Sys2Proof.Machine

variable {α : Type}

@[simp] theorem Tab.find_erase_same (k : Nat) (t : Tab α) : (Tab.erase k t).find k = none := by
  induction t with
  | nil => rfl
  | cons h t ih => obtain ⟨k', v⟩ := h; by_cases e : k' = k <;> simp [Tab.erase, Tab.find, e, ih]

@[simp] theorem Tab.find_erase_ne {k j : Nat} (h : j ≠ k) (t : Tab α) : (Tab.erase k t).find j = t.find j := by
  induction t with
  | nil => rfl
  | cons p t ih =>
    obtain ⟨k', v⟩ := p
    by_cases e : k' = k
    · subst e; simp [Tab.erase, Tab.find, ih, Ne.symm h]
    · simp [Tab.erase, Tab.find, e, ih]

theorem Tab.find_insert_same (k : Nat) (v : α) (t : Tab α) (h : t.find k = none) :
    (Tab.insert k v t).find k = some v := by
  induction t with
  | nil => simp [Tab.insert, Tab.find]
  | cons p t ih =>
    obtain ⟨k', v'⟩ := p
    have hk : k' ≠ k := by intro e; simp [Tab.find, e] at h
    have ht : Tab.find k t = none := by simpa [Tab.find, hk] using h
    by_cases e : k < k'
    · simp [Tab.insert, e, Tab.find]
    · simp [Tab.insert, e, Tab.find, hk, ih ht]

theorem Tab.find_insert_ne {k j : Nat} (h : j ≠ k) (v : α) (t : Tab α) : (Tab.insert k v t).find j = t.find j := by
  induction t with
  | nil => simp [Tab.insert, Tab.find, Ne.symm h]
  | cons p t ih =>
    obtain ⟨k', v'⟩ := p
    by_cases e : k < k'
    · simp [Tab.insert, e, Tab.find, Ne.symm h]
    · simp only [Tab.insert, e, if_false, Tab.find, ih]

/-- A read after a write of the same key gives the value written. -/
@[simp] theorem Tab.get_set_same [DecidableEq α] (t : Tab α) (k : Nat) (v d : α) : (t.set k v d).get k d = v := by
  unfold Tab.set Tab.get
  split
  · next h => simp [h]
  · rw [Tab.find_insert_same _ _ _ (by simp)]; rfl

/-- A write leaves every other key as it was. -/
@[simp] theorem Tab.get_set_ne [DecidableEq α] {k j : Nat} (h : j ≠ k) (t : Tab α) (v d e : α) :
    (t.set k v d).get j e = t.get j e := by
  unfold Tab.set Tab.get
  split
  · rw [Tab.find_erase_ne h]
  · rw [Tab.find_insert_ne h, Tab.find_erase_ne h]

/-- Every key of a table lies above `n`. -/
def Tab.above (n : Nat) (t : Tab α) : Prop := ∀ p ∈ t, n < p.1

theorem Tab.wf_cons [DecidableEq α] (d : α) (k : Nat) (v : α) (t : Tab α) :
    Tab.wf d ((k, v) :: t) = true ↔ v ≠ d ∧ Tab.above k t ∧ Tab.wf d t = true := by
  induction t generalizing k v with
  | nil => simp [Tab.wf, Tab.above]
  | cons p t ih =>
    obtain ⟨k', v'⟩ := p
    have := ih k' v'
    simp only [Tab.wf, Bool.and_eq_true, decide_eq_true_eq, Tab.above, List.mem_cons, forall_eq_or_imp]
    constructor
    · rintro ⟨⟨h1, h2⟩, h3⟩
      have h4 := (this.mp h3).2.1
      exact ⟨h1, ⟨h2, fun q hq => Nat.lt_trans h2 (h4 q hq)⟩, h3⟩
    · rintro ⟨h1, ⟨h2, _⟩, h3⟩
      exact ⟨⟨h1, h2⟩, h3⟩

theorem Tab.mem_erase {k : Nat} {t : Tab α} {p : Nat × α} (h : p ∈ Tab.erase k t) : p ∈ t := by
  induction t with
  | nil => simp [Tab.erase] at h
  | cons q t ih =>
    obtain ⟨k', v⟩ := q
    by_cases e : k' = k
    · simp only [Tab.erase, e, if_true] at h; exact List.mem_cons_of_mem _ (ih h)
    · simp only [Tab.erase, e, if_false, List.mem_cons] at h
      rcases h with h | h
      · simp [h]
      · exact List.mem_cons_of_mem _ (ih h)

theorem Tab.wf_erase [DecidableEq α] (d : α) (k : Nat) (t : Tab α) (h : Tab.wf d t = true) :
    Tab.wf d (Tab.erase k t) = true := by
  induction t with
  | nil => exact h
  | cons p t ih =>
    obtain ⟨k', v⟩ := p
    obtain ⟨h1, h2, h3⟩ := (Tab.wf_cons d k' v t).mp h
    by_cases e : k' = k
    · simpa [Tab.erase, e] using ih h3
    · simp only [Tab.erase, e, if_false]
      exact (Tab.wf_cons d k' v _).mpr ⟨h1, fun q hq => h2 q (Tab.mem_erase hq), ih h3⟩

theorem Tab.mem_insert {k : Nat} {v : α} {t : Tab α} {p : Nat × α} (h : p ∈ Tab.insert k v t) :
    p = (k, v) ∨ p ∈ t := by
  induction t with
  | nil => simpa [Tab.insert] using h
  | cons q t ih =>
    obtain ⟨k', v'⟩ := q
    by_cases e : k < k'
    · simpa [Tab.insert, e] using h
    · simp only [Tab.insert, e, if_false, List.mem_cons] at h ⊢
      rcases h with h | h
      · exact .inr (.inl h)
      · rcases ih h with h | h
        · exact .inl h
        · exact .inr (.inr h)

theorem Tab.wf_insert [DecidableEq α] (d : α) (k : Nat) (v : α) (t : Tab α) (hv : v ≠ d)
    (hk : t.find k = none) (h : Tab.wf d t = true) : Tab.wf d (Tab.insert k v t) = true := by
  induction t with
  | nil => simp [Tab.insert, Tab.wf, hv]
  | cons p t ih =>
    obtain ⟨k', v'⟩ := p
    have hne : k' ≠ k := by intro e; simp [Tab.find, e] at hk
    have ht : Tab.find k t = none := by simpa [Tab.find, hne] using hk
    obtain ⟨h1, h2, h3⟩ := (Tab.wf_cons d k' v' t).mp h
    by_cases e : k < k'
    · simp only [Tab.insert, e, if_true]
      refine (Tab.wf_cons d k v _).mpr ⟨hv, ?_, h⟩
      intro q hq
      rcases List.mem_cons.mp hq with rfl | hq
      · exact e
      · exact Nat.lt_trans e (h2 q hq)
    · simp only [Tab.insert, e, if_false]
      refine (Tab.wf_cons d k' v' _).mpr ⟨h1, ?_, ih ht h3⟩
      intro q hq
      rcases Tab.mem_insert hq with rfl | hq
      · show k' < k; omega
      · exact h2 q hq

/-- A write keeps the canonical form. -/
theorem Tab.wf_set [DecidableEq α] (t : Tab α) (k : Nat) (v d : α) (h : Tab.wf d t = true) :
    Tab.wf d (t.set k v d) = true := by
  unfold Tab.set
  split
  · exact Tab.wf_erase d k t h
  · next hv => exact Tab.wf_insert d k v _ hv (by simp) (Tab.wf_erase d k t h)

end Sys2Proof.Machine
end

