-- ==== Sys2Proof/Laws/State.lean ====
section
/-! SUPPORT. What each update of the state leaves and what it changes: one lemma per field per update, all true by computation, so that
no proof unfolds a record update. -/

namespace Sys2Proof.Machine

variable (d : Dev)

/-! `Dev.set` changes `flds`. -/

@[simp] theorem Dev.set_mem (g : Fld) (v : Nat) : (d.set g v).mem = d.mem := rfl
@[simp] theorem Dev.set_freeCtr (g : Fld) (v : Nat) : (d.set g v).freeCtr = d.freeCtr := rfl
@[simp] theorem Dev.set_posted (g : Fld) (v : Nat) : (d.set g v).posted = d.posted := rfl
@[simp] theorem Dev.set_evqLost (g : Fld) (v : Nat) : (d.set g v).evqLost = d.evqLost := rfl
@[simp] theorem Dev.set_cycle (g : Fld) (v : Nat) : (d.set g v).cycle = d.cycle := rfl
@[simp] theorem Dev.set_aon (g : Fld) (v : Nat) : (d.set g v).aon = d.aon := rfl
@[simp] theorem Dev.set_sil (g : Fld) (v : Nat) : (d.set g v).sil = d.sil := rfl
@[simp] theorem Dev.set_time (g : Fld) (v : Nat) : (d.set g v).time = d.time := rfl
@[simp] theorem Dev.set_seqs (g : Fld) (v : Nat) : (d.set g v).seqs = d.seqs := rfl
@[simp] theorem Dev.set_links (g : Fld) (v : Nat) : (d.set g v).links = d.links := rfl
@[simp] theorem Dev.set_sw (g : Fld) (v : Nat) : (d.set g v).sw = d.sw := rfl
@[simp] theorem Dev.set_sch (g : Fld) (v : Nat) : (d.set g v).sch = d.sch := rfl
@[simp] theorem Dev.set_ctxs (g : Fld) (v : Nat) : (d.set g v).ctxs = d.ctxs := rfl
@[simp] theorem Dev.set_waits (g : Fld) (v : Nat) : (d.set g v).waits = d.waits := rfl
@[simp] theorem Dev.set_rel (g : Fld) (v : Nat) : (d.set g v).rel = d.rel := rfl
@[simp] theorem Dev.set_acc (g : Fld) (v : Nat) : (d.set g v).acc = d.acc := rfl
@[simp] theorem Dev.set_port (g : Fld) (v : Nat) : (d.set g v).port = d.port := rfl
@[simp] theorem Dev.set_enq (g : Fld) (v : Nat) : (d.set g v).enq = d.enq := rfl
@[simp] theorem Dev.set_syn (g : Fld) (v : Nat) : (d.set g v).syn = d.syn := rfl
@[simp] theorem Dev.set_eth (g : Fld) (v : Nat) : (d.set g v).eth = d.eth := rfl
@[simp] theorem Dev.set_sto (g : Fld) (v : Nat) : (d.set g v).sto = d.sto := rfl
@[simp] theorem Dev.set_scan (g : Fld) (v : Nat) : (d.set g v).scan = d.scan := rfl
@[simp] theorem Dev.set_pdc (g : Fld) (v : Nat) : (d.set g v).pdc = d.pdc := rfl
@[simp] theorem Dev.set_power (g : Fld) (v : Nat) : (d.set g v).power = d.power := rfl
@[simp] theorem Dev.set_usb (g : Fld) (v : Nat) : (d.set g v).usb = d.usb := rfl
@[simp] theorem Dev.set_hsw (g : Fld) (v : Nat) : (d.set g v).hsw = d.hsw := rfl
@[simp] theorem Dev.set_boot (g : Fld) (v : Nat) : (d.set g v).boot = d.boot := rfl
@[simp] theorem Dev.set_key (g : Fld) (v : Nat) : (d.set g v).key = d.key := rfl

/-! `Dev.setB` changes `flds`. -/

@[simp] theorem Dev.setB_mem (g : Fld) (v : Bool) : (d.setB g v).mem = d.mem := rfl
@[simp] theorem Dev.setB_freeCtr (g : Fld) (v : Bool) : (d.setB g v).freeCtr = d.freeCtr := rfl
@[simp] theorem Dev.setB_posted (g : Fld) (v : Bool) : (d.setB g v).posted = d.posted := rfl
@[simp] theorem Dev.setB_evqLost (g : Fld) (v : Bool) : (d.setB g v).evqLost = d.evqLost := rfl
@[simp] theorem Dev.setB_cycle (g : Fld) (v : Bool) : (d.setB g v).cycle = d.cycle := rfl
@[simp] theorem Dev.setB_aon (g : Fld) (v : Bool) : (d.setB g v).aon = d.aon := rfl
@[simp] theorem Dev.setB_sil (g : Fld) (v : Bool) : (d.setB g v).sil = d.sil := rfl
@[simp] theorem Dev.setB_time (g : Fld) (v : Bool) : (d.setB g v).time = d.time := rfl
@[simp] theorem Dev.setB_seqs (g : Fld) (v : Bool) : (d.setB g v).seqs = d.seqs := rfl
@[simp] theorem Dev.setB_links (g : Fld) (v : Bool) : (d.setB g v).links = d.links := rfl
@[simp] theorem Dev.setB_sw (g : Fld) (v : Bool) : (d.setB g v).sw = d.sw := rfl
@[simp] theorem Dev.setB_sch (g : Fld) (v : Bool) : (d.setB g v).sch = d.sch := rfl
@[simp] theorem Dev.setB_ctxs (g : Fld) (v : Bool) : (d.setB g v).ctxs = d.ctxs := rfl
@[simp] theorem Dev.setB_waits (g : Fld) (v : Bool) : (d.setB g v).waits = d.waits := rfl
@[simp] theorem Dev.setB_rel (g : Fld) (v : Bool) : (d.setB g v).rel = d.rel := rfl
@[simp] theorem Dev.setB_acc (g : Fld) (v : Bool) : (d.setB g v).acc = d.acc := rfl
@[simp] theorem Dev.setB_port (g : Fld) (v : Bool) : (d.setB g v).port = d.port := rfl
@[simp] theorem Dev.setB_enq (g : Fld) (v : Bool) : (d.setB g v).enq = d.enq := rfl
@[simp] theorem Dev.setB_syn (g : Fld) (v : Bool) : (d.setB g v).syn = d.syn := rfl
@[simp] theorem Dev.setB_eth (g : Fld) (v : Bool) : (d.setB g v).eth = d.eth := rfl
@[simp] theorem Dev.setB_sto (g : Fld) (v : Bool) : (d.setB g v).sto = d.sto := rfl
@[simp] theorem Dev.setB_scan (g : Fld) (v : Bool) : (d.setB g v).scan = d.scan := rfl
@[simp] theorem Dev.setB_pdc (g : Fld) (v : Bool) : (d.setB g v).pdc = d.pdc := rfl
@[simp] theorem Dev.setB_power (g : Fld) (v : Bool) : (d.setB g v).power = d.power := rfl
@[simp] theorem Dev.setB_usb (g : Fld) (v : Bool) : (d.setB g v).usb = d.usb := rfl
@[simp] theorem Dev.setB_hsw (g : Fld) (v : Bool) : (d.setB g v).hsw = d.hsw := rfl
@[simp] theorem Dev.setB_boot (g : Fld) (v : Bool) : (d.setB g v).boot = d.boot := rfl
@[simp] theorem Dev.setB_key (g : Fld) (v : Bool) : (d.setB g v).key = d.key := rfl

/-! `Dev.putByte` changes `mem`. -/

@[simp] theorem Dev.putByte_flds (a : Nat) (b : Byte) : (d.putByte a b).flds = d.flds := rfl
@[simp] theorem Dev.putByte_mem (a : Nat) (b : Byte) : (d.putByte a b).mem = Tab.set d.mem a b 0 := rfl
@[simp] theorem Dev.putByte_freeCtr (a : Nat) (b : Byte) : (d.putByte a b).freeCtr = d.freeCtr := rfl
@[simp] theorem Dev.putByte_posted (a : Nat) (b : Byte) : (d.putByte a b).posted = d.posted := rfl
@[simp] theorem Dev.putByte_evqLost (a : Nat) (b : Byte) : (d.putByte a b).evqLost = d.evqLost := rfl
@[simp] theorem Dev.putByte_cycle (a : Nat) (b : Byte) : (d.putByte a b).cycle = d.cycle := rfl
@[simp] theorem Dev.putByte_aon (a : Nat) (b : Byte) : (d.putByte a b).aon = d.aon := rfl
@[simp] theorem Dev.putByte_sil (a : Nat) (b : Byte) : (d.putByte a b).sil = d.sil := rfl
@[simp] theorem Dev.putByte_time (a : Nat) (b : Byte) : (d.putByte a b).time = d.time := rfl
@[simp] theorem Dev.putByte_seqs (a : Nat) (b : Byte) : (d.putByte a b).seqs = d.seqs := rfl
@[simp] theorem Dev.putByte_links (a : Nat) (b : Byte) : (d.putByte a b).links = d.links := rfl
@[simp] theorem Dev.putByte_sw (a : Nat) (b : Byte) : (d.putByte a b).sw = d.sw := rfl
@[simp] theorem Dev.putByte_sch (a : Nat) (b : Byte) : (d.putByte a b).sch = d.sch := rfl
@[simp] theorem Dev.putByte_ctxs (a : Nat) (b : Byte) : (d.putByte a b).ctxs = d.ctxs := rfl
@[simp] theorem Dev.putByte_waits (a : Nat) (b : Byte) : (d.putByte a b).waits = d.waits := rfl
@[simp] theorem Dev.putByte_rel (a : Nat) (b : Byte) : (d.putByte a b).rel = d.rel := rfl
@[simp] theorem Dev.putByte_acc (a : Nat) (b : Byte) : (d.putByte a b).acc = d.acc := rfl
@[simp] theorem Dev.putByte_port (a : Nat) (b : Byte) : (d.putByte a b).port = d.port := rfl
@[simp] theorem Dev.putByte_enq (a : Nat) (b : Byte) : (d.putByte a b).enq = d.enq := rfl
@[simp] theorem Dev.putByte_syn (a : Nat) (b : Byte) : (d.putByte a b).syn = d.syn := rfl
@[simp] theorem Dev.putByte_eth (a : Nat) (b : Byte) : (d.putByte a b).eth = d.eth := rfl
@[simp] theorem Dev.putByte_sto (a : Nat) (b : Byte) : (d.putByte a b).sto = d.sto := rfl
@[simp] theorem Dev.putByte_scan (a : Nat) (b : Byte) : (d.putByte a b).scan = d.scan := rfl
@[simp] theorem Dev.putByte_pdc (a : Nat) (b : Byte) : (d.putByte a b).pdc = d.pdc := rfl
@[simp] theorem Dev.putByte_power (a : Nat) (b : Byte) : (d.putByte a b).power = d.power := rfl
@[simp] theorem Dev.putByte_usb (a : Nat) (b : Byte) : (d.putByte a b).usb = d.usb := rfl
@[simp] theorem Dev.putByte_hsw (a : Nat) (b : Byte) : (d.putByte a b).hsw = d.hsw := rfl
@[simp] theorem Dev.putByte_boot (a : Nat) (b : Byte) : (d.putByte a b).boot = d.boot := rfl
@[simp] theorem Dev.putByte_key (a : Nat) (b : Byte) : (d.putByte a b).key = d.key := rfl
@[simp] theorem Dev.putByte_get (a : Nat) (b : Byte) (h : Fld) : (d.putByte a b).get h = d.get h := rfl
@[simp] theorem Dev.putByte_flag (a : Nat) (b : Byte) (h : Fld) : (d.putByte a b).flag h = d.flag h := rfl

/-! `Dev.modThr` changes `syn`. -/

@[simp] theorem Dev.modThr_flds (t : Nat) (f : Thr → Thr) : (d.modThr t f).flds = d.flds := rfl
@[simp] theorem Dev.modThr_mem (t : Nat) (f : Thr → Thr) : (d.modThr t f).mem = d.mem := rfl
@[simp] theorem Dev.modThr_freeCtr (t : Nat) (f : Thr → Thr) : (d.modThr t f).freeCtr = d.freeCtr := rfl
@[simp] theorem Dev.modThr_posted (t : Nat) (f : Thr → Thr) : (d.modThr t f).posted = d.posted := rfl
@[simp] theorem Dev.modThr_evqLost (t : Nat) (f : Thr → Thr) : (d.modThr t f).evqLost = d.evqLost := rfl
@[simp] theorem Dev.modThr_cycle (t : Nat) (f : Thr → Thr) : (d.modThr t f).cycle = d.cycle := rfl
@[simp] theorem Dev.modThr_aon (t : Nat) (f : Thr → Thr) : (d.modThr t f).aon = d.aon := rfl
@[simp] theorem Dev.modThr_sil (t : Nat) (f : Thr → Thr) : (d.modThr t f).sil = d.sil := rfl
@[simp] theorem Dev.modThr_time (t : Nat) (f : Thr → Thr) : (d.modThr t f).time = d.time := rfl
@[simp] theorem Dev.modThr_seqs (t : Nat) (f : Thr → Thr) : (d.modThr t f).seqs = d.seqs := rfl
@[simp] theorem Dev.modThr_links (t : Nat) (f : Thr → Thr) : (d.modThr t f).links = d.links := rfl
@[simp] theorem Dev.modThr_sw (t : Nat) (f : Thr → Thr) : (d.modThr t f).sw = d.sw := rfl
@[simp] theorem Dev.modThr_sch (t : Nat) (f : Thr → Thr) : (d.modThr t f).sch = d.sch := rfl
@[simp] theorem Dev.modThr_ctxs (t : Nat) (f : Thr → Thr) : (d.modThr t f).ctxs = d.ctxs := rfl
@[simp] theorem Dev.modThr_waits (t : Nat) (f : Thr → Thr) : (d.modThr t f).waits = d.waits := rfl
@[simp] theorem Dev.modThr_rel (t : Nat) (f : Thr → Thr) : (d.modThr t f).rel = d.rel := rfl
@[simp] theorem Dev.modThr_acc (t : Nat) (f : Thr → Thr) : (d.modThr t f).acc = d.acc := rfl
@[simp] theorem Dev.modThr_port (t : Nat) (f : Thr → Thr) : (d.modThr t f).port = d.port := rfl
@[simp] theorem Dev.modThr_enq (t : Nat) (f : Thr → Thr) : (d.modThr t f).enq = d.enq := rfl
@[simp] theorem Dev.modThr_eth (t : Nat) (f : Thr → Thr) : (d.modThr t f).eth = d.eth := rfl
@[simp] theorem Dev.modThr_sto (t : Nat) (f : Thr → Thr) : (d.modThr t f).sto = d.sto := rfl
@[simp] theorem Dev.modThr_scan (t : Nat) (f : Thr → Thr) : (d.modThr t f).scan = d.scan := rfl
@[simp] theorem Dev.modThr_pdc (t : Nat) (f : Thr → Thr) : (d.modThr t f).pdc = d.pdc := rfl
@[simp] theorem Dev.modThr_power (t : Nat) (f : Thr → Thr) : (d.modThr t f).power = d.power := rfl
@[simp] theorem Dev.modThr_usb (t : Nat) (f : Thr → Thr) : (d.modThr t f).usb = d.usb := rfl
@[simp] theorem Dev.modThr_hsw (t : Nat) (f : Thr → Thr) : (d.modThr t f).hsw = d.hsw := rfl
@[simp] theorem Dev.modThr_boot (t : Nat) (f : Thr → Thr) : (d.modThr t f).boot = d.boot := rfl
@[simp] theorem Dev.modThr_key (t : Nat) (f : Thr → Thr) : (d.modThr t f).key = d.key := rfl
@[simp] theorem Dev.modThr_get (t : Nat) (f : Thr → Thr) (h : Fld) : (d.modThr t f).get h = d.get h := rfl
@[simp] theorem Dev.modThr_flag (t : Nat) (f : Thr → Thr) (h : Fld) : (d.modThr t f).flag h = d.flag h := rfl

/-! `Dev.modSyn` changes `syn`. -/

@[simp] theorem Dev.modSyn_flds (f : SynPart → SynPart) : (d.modSyn f).flds = d.flds := rfl
@[simp] theorem Dev.modSyn_mem (f : SynPart → SynPart) : (d.modSyn f).mem = d.mem := rfl
@[simp] theorem Dev.modSyn_freeCtr (f : SynPart → SynPart) : (d.modSyn f).freeCtr = d.freeCtr := rfl
@[simp] theorem Dev.modSyn_posted (f : SynPart → SynPart) : (d.modSyn f).posted = d.posted := rfl
@[simp] theorem Dev.modSyn_evqLost (f : SynPart → SynPart) : (d.modSyn f).evqLost = d.evqLost := rfl
@[simp] theorem Dev.modSyn_cycle (f : SynPart → SynPart) : (d.modSyn f).cycle = d.cycle := rfl
@[simp] theorem Dev.modSyn_aon (f : SynPart → SynPart) : (d.modSyn f).aon = d.aon := rfl
@[simp] theorem Dev.modSyn_sil (f : SynPart → SynPart) : (d.modSyn f).sil = d.sil := rfl
@[simp] theorem Dev.modSyn_time (f : SynPart → SynPart) : (d.modSyn f).time = d.time := rfl
@[simp] theorem Dev.modSyn_seqs (f : SynPart → SynPart) : (d.modSyn f).seqs = d.seqs := rfl
@[simp] theorem Dev.modSyn_links (f : SynPart → SynPart) : (d.modSyn f).links = d.links := rfl
@[simp] theorem Dev.modSyn_sw (f : SynPart → SynPart) : (d.modSyn f).sw = d.sw := rfl
@[simp] theorem Dev.modSyn_sch (f : SynPart → SynPart) : (d.modSyn f).sch = d.sch := rfl
@[simp] theorem Dev.modSyn_ctxs (f : SynPart → SynPart) : (d.modSyn f).ctxs = d.ctxs := rfl
@[simp] theorem Dev.modSyn_waits (f : SynPart → SynPart) : (d.modSyn f).waits = d.waits := rfl
@[simp] theorem Dev.modSyn_rel (f : SynPart → SynPart) : (d.modSyn f).rel = d.rel := rfl
@[simp] theorem Dev.modSyn_acc (f : SynPart → SynPart) : (d.modSyn f).acc = d.acc := rfl
@[simp] theorem Dev.modSyn_port (f : SynPart → SynPart) : (d.modSyn f).port = d.port := rfl
@[simp] theorem Dev.modSyn_enq (f : SynPart → SynPart) : (d.modSyn f).enq = d.enq := rfl
@[simp] theorem Dev.modSyn_syn (f : SynPart → SynPart) : (d.modSyn f).syn = f d.syn := rfl
@[simp] theorem Dev.modSyn_eth (f : SynPart → SynPart) : (d.modSyn f).eth = d.eth := rfl
@[simp] theorem Dev.modSyn_sto (f : SynPart → SynPart) : (d.modSyn f).sto = d.sto := rfl
@[simp] theorem Dev.modSyn_scan (f : SynPart → SynPart) : (d.modSyn f).scan = d.scan := rfl
@[simp] theorem Dev.modSyn_pdc (f : SynPart → SynPart) : (d.modSyn f).pdc = d.pdc := rfl
@[simp] theorem Dev.modSyn_power (f : SynPart → SynPart) : (d.modSyn f).power = d.power := rfl
@[simp] theorem Dev.modSyn_usb (f : SynPart → SynPart) : (d.modSyn f).usb = d.usb := rfl
@[simp] theorem Dev.modSyn_hsw (f : SynPart → SynPart) : (d.modSyn f).hsw = d.hsw := rfl
@[simp] theorem Dev.modSyn_boot (f : SynPart → SynPart) : (d.modSyn f).boot = d.boot := rfl
@[simp] theorem Dev.modSyn_key (f : SynPart → SynPart) : (d.modSyn f).key = d.key := rfl
@[simp] theorem Dev.modSyn_get (f : SynPart → SynPart) (h : Fld) : (d.modSyn f).get h = d.get h := rfl
@[simp] theorem Dev.modSyn_flag (f : SynPart → SynPart) (h : Fld) : (d.modSyn f).flag h = d.flag h := rfl

/-! `Dev.noteSet` changes `cycle`. -/

@[simp] theorem Dev.noteSet_flds (k : Nat) (r : Option EvRec) : (d.noteSet k r).flds = d.flds := rfl
@[simp] theorem Dev.noteSet_mem (k : Nat) (r : Option EvRec) : (d.noteSet k r).mem = d.mem := rfl
@[simp] theorem Dev.noteSet_freeCtr (k : Nat) (r : Option EvRec) : (d.noteSet k r).freeCtr = d.freeCtr := rfl
@[simp] theorem Dev.noteSet_posted (k : Nat) (r : Option EvRec) : (d.noteSet k r).posted = d.posted := rfl
@[simp] theorem Dev.noteSet_evqLost (k : Nat) (r : Option EvRec) : (d.noteSet k r).evqLost = d.evqLost := rfl
@[simp] theorem Dev.noteSet_aon (k : Nat) (r : Option EvRec) : (d.noteSet k r).aon = d.aon := rfl
@[simp] theorem Dev.noteSet_sil (k : Nat) (r : Option EvRec) : (d.noteSet k r).sil = d.sil := rfl
@[simp] theorem Dev.noteSet_time (k : Nat) (r : Option EvRec) : (d.noteSet k r).time = d.time := rfl
@[simp] theorem Dev.noteSet_seqs (k : Nat) (r : Option EvRec) : (d.noteSet k r).seqs = d.seqs := rfl
@[simp] theorem Dev.noteSet_links (k : Nat) (r : Option EvRec) : (d.noteSet k r).links = d.links := rfl
@[simp] theorem Dev.noteSet_sw (k : Nat) (r : Option EvRec) : (d.noteSet k r).sw = d.sw := rfl
@[simp] theorem Dev.noteSet_sch (k : Nat) (r : Option EvRec) : (d.noteSet k r).sch = d.sch := rfl
@[simp] theorem Dev.noteSet_ctxs (k : Nat) (r : Option EvRec) : (d.noteSet k r).ctxs = d.ctxs := rfl
@[simp] theorem Dev.noteSet_waits (k : Nat) (r : Option EvRec) : (d.noteSet k r).waits = d.waits := rfl
@[simp] theorem Dev.noteSet_rel (k : Nat) (r : Option EvRec) : (d.noteSet k r).rel = d.rel := rfl
@[simp] theorem Dev.noteSet_acc (k : Nat) (r : Option EvRec) : (d.noteSet k r).acc = d.acc := rfl
@[simp] theorem Dev.noteSet_port (k : Nat) (r : Option EvRec) : (d.noteSet k r).port = d.port := rfl
@[simp] theorem Dev.noteSet_enq (k : Nat) (r : Option EvRec) : (d.noteSet k r).enq = d.enq := rfl
@[simp] theorem Dev.noteSet_syn (k : Nat) (r : Option EvRec) : (d.noteSet k r).syn = d.syn := rfl
@[simp] theorem Dev.noteSet_eth (k : Nat) (r : Option EvRec) : (d.noteSet k r).eth = d.eth := rfl
@[simp] theorem Dev.noteSet_sto (k : Nat) (r : Option EvRec) : (d.noteSet k r).sto = d.sto := rfl
@[simp] theorem Dev.noteSet_scan (k : Nat) (r : Option EvRec) : (d.noteSet k r).scan = d.scan := rfl
@[simp] theorem Dev.noteSet_pdc (k : Nat) (r : Option EvRec) : (d.noteSet k r).pdc = d.pdc := rfl
@[simp] theorem Dev.noteSet_power (k : Nat) (r : Option EvRec) : (d.noteSet k r).power = d.power := rfl
@[simp] theorem Dev.noteSet_usb (k : Nat) (r : Option EvRec) : (d.noteSet k r).usb = d.usb := rfl
@[simp] theorem Dev.noteSet_hsw (k : Nat) (r : Option EvRec) : (d.noteSet k r).hsw = d.hsw := rfl
@[simp] theorem Dev.noteSet_boot (k : Nat) (r : Option EvRec) : (d.noteSet k r).boot = d.boot := rfl
@[simp] theorem Dev.noteSet_key (k : Nat) (r : Option EvRec) : (d.noteSet k r).key = d.key := rfl
@[simp] theorem Dev.noteSet_get (k : Nat) (r : Option EvRec) (h : Fld) : (d.noteSet k r).get h = d.get h := rfl
@[simp] theorem Dev.noteSet_flag (k : Nat) (r : Option EvRec) (h : Fld) : (d.noteSet k r).flag h = d.flag h := rfl

/-! `Dev.noteWrite` changes `cycle`. -/

@[simp] theorem Dev.noteWrite_flds (a : Nat) : (d.noteWrite a).flds = d.flds := rfl
@[simp] theorem Dev.noteWrite_mem (a : Nat) : (d.noteWrite a).mem = d.mem := rfl
@[simp] theorem Dev.noteWrite_freeCtr (a : Nat) : (d.noteWrite a).freeCtr = d.freeCtr := rfl
@[simp] theorem Dev.noteWrite_posted (a : Nat) : (d.noteWrite a).posted = d.posted := rfl
@[simp] theorem Dev.noteWrite_evqLost (a : Nat) : (d.noteWrite a).evqLost = d.evqLost := rfl
@[simp] theorem Dev.noteWrite_aon (a : Nat) : (d.noteWrite a).aon = d.aon := rfl
@[simp] theorem Dev.noteWrite_sil (a : Nat) : (d.noteWrite a).sil = d.sil := rfl
@[simp] theorem Dev.noteWrite_time (a : Nat) : (d.noteWrite a).time = d.time := rfl
@[simp] theorem Dev.noteWrite_seqs (a : Nat) : (d.noteWrite a).seqs = d.seqs := rfl
@[simp] theorem Dev.noteWrite_links (a : Nat) : (d.noteWrite a).links = d.links := rfl
@[simp] theorem Dev.noteWrite_sw (a : Nat) : (d.noteWrite a).sw = d.sw := rfl
@[simp] theorem Dev.noteWrite_sch (a : Nat) : (d.noteWrite a).sch = d.sch := rfl
@[simp] theorem Dev.noteWrite_ctxs (a : Nat) : (d.noteWrite a).ctxs = d.ctxs := rfl
@[simp] theorem Dev.noteWrite_waits (a : Nat) : (d.noteWrite a).waits = d.waits := rfl
@[simp] theorem Dev.noteWrite_rel (a : Nat) : (d.noteWrite a).rel = d.rel := rfl
@[simp] theorem Dev.noteWrite_acc (a : Nat) : (d.noteWrite a).acc = d.acc := rfl
@[simp] theorem Dev.noteWrite_port (a : Nat) : (d.noteWrite a).port = d.port := rfl
@[simp] theorem Dev.noteWrite_enq (a : Nat) : (d.noteWrite a).enq = d.enq := rfl
@[simp] theorem Dev.noteWrite_syn (a : Nat) : (d.noteWrite a).syn = d.syn := rfl
@[simp] theorem Dev.noteWrite_eth (a : Nat) : (d.noteWrite a).eth = d.eth := rfl
@[simp] theorem Dev.noteWrite_sto (a : Nat) : (d.noteWrite a).sto = d.sto := rfl
@[simp] theorem Dev.noteWrite_scan (a : Nat) : (d.noteWrite a).scan = d.scan := rfl
@[simp] theorem Dev.noteWrite_pdc (a : Nat) : (d.noteWrite a).pdc = d.pdc := rfl
@[simp] theorem Dev.noteWrite_power (a : Nat) : (d.noteWrite a).power = d.power := rfl
@[simp] theorem Dev.noteWrite_usb (a : Nat) : (d.noteWrite a).usb = d.usb := rfl
@[simp] theorem Dev.noteWrite_hsw (a : Nat) : (d.noteWrite a).hsw = d.hsw := rfl
@[simp] theorem Dev.noteWrite_boot (a : Nat) : (d.noteWrite a).boot = d.boot := rfl
@[simp] theorem Dev.noteWrite_key (a : Nat) : (d.noteWrite a).key = d.key := rfl
@[simp] theorem Dev.noteWrite_get (a : Nat) (h : Fld) : (d.noteWrite a).get h = d.get h := rfl
@[simp] theorem Dev.noteWrite_flag (a : Nat) (h : Fld) : (d.noteWrite a).flag h = d.flag h := rfl

/-! `Dev.modAcc` changes `acc`. -/

@[simp] theorem Dev.modAcc_flds (f : AccPart → AccPart) : (d.modAcc f).flds = d.flds := rfl
@[simp] theorem Dev.modAcc_mem (f : AccPart → AccPart) : (d.modAcc f).mem = d.mem := rfl
@[simp] theorem Dev.modAcc_freeCtr (f : AccPart → AccPart) : (d.modAcc f).freeCtr = d.freeCtr := rfl
@[simp] theorem Dev.modAcc_posted (f : AccPart → AccPart) : (d.modAcc f).posted = d.posted := rfl
@[simp] theorem Dev.modAcc_evqLost (f : AccPart → AccPart) : (d.modAcc f).evqLost = d.evqLost := rfl
@[simp] theorem Dev.modAcc_cycle (f : AccPart → AccPart) : (d.modAcc f).cycle = d.cycle := rfl
@[simp] theorem Dev.modAcc_aon (f : AccPart → AccPart) : (d.modAcc f).aon = d.aon := rfl
@[simp] theorem Dev.modAcc_sil (f : AccPart → AccPart) : (d.modAcc f).sil = d.sil := rfl
@[simp] theorem Dev.modAcc_time (f : AccPart → AccPart) : (d.modAcc f).time = d.time := rfl
@[simp] theorem Dev.modAcc_seqs (f : AccPart → AccPart) : (d.modAcc f).seqs = d.seqs := rfl
@[simp] theorem Dev.modAcc_links (f : AccPart → AccPart) : (d.modAcc f).links = d.links := rfl
@[simp] theorem Dev.modAcc_sw (f : AccPart → AccPart) : (d.modAcc f).sw = d.sw := rfl
@[simp] theorem Dev.modAcc_sch (f : AccPart → AccPart) : (d.modAcc f).sch = d.sch := rfl
@[simp] theorem Dev.modAcc_ctxs (f : AccPart → AccPart) : (d.modAcc f).ctxs = d.ctxs := rfl
@[simp] theorem Dev.modAcc_waits (f : AccPart → AccPart) : (d.modAcc f).waits = d.waits := rfl
@[simp] theorem Dev.modAcc_rel (f : AccPart → AccPart) : (d.modAcc f).rel = d.rel := rfl
@[simp] theorem Dev.modAcc_acc (f : AccPart → AccPart) : (d.modAcc f).acc = f d.acc := rfl
@[simp] theorem Dev.modAcc_port (f : AccPart → AccPart) : (d.modAcc f).port = d.port := rfl
@[simp] theorem Dev.modAcc_enq (f : AccPart → AccPart) : (d.modAcc f).enq = d.enq := rfl
@[simp] theorem Dev.modAcc_syn (f : AccPart → AccPart) : (d.modAcc f).syn = d.syn := rfl
@[simp] theorem Dev.modAcc_eth (f : AccPart → AccPart) : (d.modAcc f).eth = d.eth := rfl
@[simp] theorem Dev.modAcc_sto (f : AccPart → AccPart) : (d.modAcc f).sto = d.sto := rfl
@[simp] theorem Dev.modAcc_scan (f : AccPart → AccPart) : (d.modAcc f).scan = d.scan := rfl
@[simp] theorem Dev.modAcc_pdc (f : AccPart → AccPart) : (d.modAcc f).pdc = d.pdc := rfl
@[simp] theorem Dev.modAcc_power (f : AccPart → AccPart) : (d.modAcc f).power = d.power := rfl
@[simp] theorem Dev.modAcc_usb (f : AccPart → AccPart) : (d.modAcc f).usb = d.usb := rfl
@[simp] theorem Dev.modAcc_hsw (f : AccPart → AccPart) : (d.modAcc f).hsw = d.hsw := rfl
@[simp] theorem Dev.modAcc_boot (f : AccPart → AccPart) : (d.modAcc f).boot = d.boot := rfl
@[simp] theorem Dev.modAcc_key (f : AccPart → AccPart) : (d.modAcc f).key = d.key := rfl
@[simp] theorem Dev.modAcc_get (f : AccPart → AccPart) (h : Fld) : (d.modAcc f).get h = d.get h := rfl
@[simp] theorem Dev.modAcc_flag (f : AccPart → AccPart) (h : Fld) : (d.modAcc f).flag h = d.flag h := rfl

/-! `Dev.setAccSlot` changes `acc`. -/

@[simp] theorem Dev.setAccSlot_flds (n : Nat) (x : AccSlot) : (d.setAccSlot n x).flds = d.flds := rfl
@[simp] theorem Dev.setAccSlot_mem (n : Nat) (x : AccSlot) : (d.setAccSlot n x).mem = d.mem := rfl
@[simp] theorem Dev.setAccSlot_freeCtr (n : Nat) (x : AccSlot) : (d.setAccSlot n x).freeCtr = d.freeCtr := rfl
@[simp] theorem Dev.setAccSlot_posted (n : Nat) (x : AccSlot) : (d.setAccSlot n x).posted = d.posted := rfl
@[simp] theorem Dev.setAccSlot_evqLost (n : Nat) (x : AccSlot) : (d.setAccSlot n x).evqLost = d.evqLost := rfl
@[simp] theorem Dev.setAccSlot_cycle (n : Nat) (x : AccSlot) : (d.setAccSlot n x).cycle = d.cycle := rfl
@[simp] theorem Dev.setAccSlot_aon (n : Nat) (x : AccSlot) : (d.setAccSlot n x).aon = d.aon := rfl
@[simp] theorem Dev.setAccSlot_sil (n : Nat) (x : AccSlot) : (d.setAccSlot n x).sil = d.sil := rfl
@[simp] theorem Dev.setAccSlot_time (n : Nat) (x : AccSlot) : (d.setAccSlot n x).time = d.time := rfl
@[simp] theorem Dev.setAccSlot_seqs (n : Nat) (x : AccSlot) : (d.setAccSlot n x).seqs = d.seqs := rfl
@[simp] theorem Dev.setAccSlot_links (n : Nat) (x : AccSlot) : (d.setAccSlot n x).links = d.links := rfl
@[simp] theorem Dev.setAccSlot_sw (n : Nat) (x : AccSlot) : (d.setAccSlot n x).sw = d.sw := rfl
@[simp] theorem Dev.setAccSlot_sch (n : Nat) (x : AccSlot) : (d.setAccSlot n x).sch = d.sch := rfl
@[simp] theorem Dev.setAccSlot_ctxs (n : Nat) (x : AccSlot) : (d.setAccSlot n x).ctxs = d.ctxs := rfl
@[simp] theorem Dev.setAccSlot_waits (n : Nat) (x : AccSlot) : (d.setAccSlot n x).waits = d.waits := rfl
@[simp] theorem Dev.setAccSlot_rel (n : Nat) (x : AccSlot) : (d.setAccSlot n x).rel = d.rel := rfl
@[simp] theorem Dev.setAccSlot_port (n : Nat) (x : AccSlot) : (d.setAccSlot n x).port = d.port := rfl
@[simp] theorem Dev.setAccSlot_enq (n : Nat) (x : AccSlot) : (d.setAccSlot n x).enq = d.enq := rfl
@[simp] theorem Dev.setAccSlot_syn (n : Nat) (x : AccSlot) : (d.setAccSlot n x).syn = d.syn := rfl
@[simp] theorem Dev.setAccSlot_eth (n : Nat) (x : AccSlot) : (d.setAccSlot n x).eth = d.eth := rfl
@[simp] theorem Dev.setAccSlot_sto (n : Nat) (x : AccSlot) : (d.setAccSlot n x).sto = d.sto := rfl
@[simp] theorem Dev.setAccSlot_scan (n : Nat) (x : AccSlot) : (d.setAccSlot n x).scan = d.scan := rfl
@[simp] theorem Dev.setAccSlot_pdc (n : Nat) (x : AccSlot) : (d.setAccSlot n x).pdc = d.pdc := rfl
@[simp] theorem Dev.setAccSlot_power (n : Nat) (x : AccSlot) : (d.setAccSlot n x).power = d.power := rfl
@[simp] theorem Dev.setAccSlot_usb (n : Nat) (x : AccSlot) : (d.setAccSlot n x).usb = d.usb := rfl
@[simp] theorem Dev.setAccSlot_hsw (n : Nat) (x : AccSlot) : (d.setAccSlot n x).hsw = d.hsw := rfl
@[simp] theorem Dev.setAccSlot_boot (n : Nat) (x : AccSlot) : (d.setAccSlot n x).boot = d.boot := rfl
@[simp] theorem Dev.setAccSlot_key (n : Nat) (x : AccSlot) : (d.setAccSlot n x).key = d.key := rfl
@[simp] theorem Dev.setAccSlot_get (n : Nat) (x : AccSlot) (h : Fld) : (d.setAccSlot n x).get h = d.get h := rfl
@[simp] theorem Dev.setAccSlot_flag (n : Nat) (x : AccSlot) (h : Fld) : (d.setAccSlot n x).flag h = d.flag h := rfl

/-! `Dev.modTime` changes `time`. -/

@[simp] theorem Dev.modTime_flds (f : TimePart → TimePart) : (d.modTime f).flds = d.flds := rfl
@[simp] theorem Dev.modTime_mem (f : TimePart → TimePart) : (d.modTime f).mem = d.mem := rfl
@[simp] theorem Dev.modTime_freeCtr (f : TimePart → TimePart) : (d.modTime f).freeCtr = d.freeCtr := rfl
@[simp] theorem Dev.modTime_posted (f : TimePart → TimePart) : (d.modTime f).posted = d.posted := rfl
@[simp] theorem Dev.modTime_evqLost (f : TimePart → TimePart) : (d.modTime f).evqLost = d.evqLost := rfl
@[simp] theorem Dev.modTime_cycle (f : TimePart → TimePart) : (d.modTime f).cycle = d.cycle := rfl
@[simp] theorem Dev.modTime_aon (f : TimePart → TimePart) : (d.modTime f).aon = d.aon := rfl
@[simp] theorem Dev.modTime_sil (f : TimePart → TimePart) : (d.modTime f).sil = d.sil := rfl
@[simp] theorem Dev.modTime_time (f : TimePart → TimePart) : (d.modTime f).time = f d.time := rfl
@[simp] theorem Dev.modTime_seqs (f : TimePart → TimePart) : (d.modTime f).seqs = d.seqs := rfl
@[simp] theorem Dev.modTime_links (f : TimePart → TimePart) : (d.modTime f).links = d.links := rfl
@[simp] theorem Dev.modTime_sw (f : TimePart → TimePart) : (d.modTime f).sw = d.sw := rfl
@[simp] theorem Dev.modTime_sch (f : TimePart → TimePart) : (d.modTime f).sch = d.sch := rfl
@[simp] theorem Dev.modTime_ctxs (f : TimePart → TimePart) : (d.modTime f).ctxs = d.ctxs := rfl
@[simp] theorem Dev.modTime_waits (f : TimePart → TimePart) : (d.modTime f).waits = d.waits := rfl
@[simp] theorem Dev.modTime_rel (f : TimePart → TimePart) : (d.modTime f).rel = d.rel := rfl
@[simp] theorem Dev.modTime_acc (f : TimePart → TimePart) : (d.modTime f).acc = d.acc := rfl
@[simp] theorem Dev.modTime_port (f : TimePart → TimePart) : (d.modTime f).port = d.port := rfl
@[simp] theorem Dev.modTime_enq (f : TimePart → TimePart) : (d.modTime f).enq = d.enq := rfl
@[simp] theorem Dev.modTime_syn (f : TimePart → TimePart) : (d.modTime f).syn = d.syn := rfl
@[simp] theorem Dev.modTime_eth (f : TimePart → TimePart) : (d.modTime f).eth = d.eth := rfl
@[simp] theorem Dev.modTime_sto (f : TimePart → TimePart) : (d.modTime f).sto = d.sto := rfl
@[simp] theorem Dev.modTime_scan (f : TimePart → TimePart) : (d.modTime f).scan = d.scan := rfl
@[simp] theorem Dev.modTime_pdc (f : TimePart → TimePart) : (d.modTime f).pdc = d.pdc := rfl
@[simp] theorem Dev.modTime_power (f : TimePart → TimePart) : (d.modTime f).power = d.power := rfl
@[simp] theorem Dev.modTime_usb (f : TimePart → TimePart) : (d.modTime f).usb = d.usb := rfl
@[simp] theorem Dev.modTime_hsw (f : TimePart → TimePart) : (d.modTime f).hsw = d.hsw := rfl
@[simp] theorem Dev.modTime_boot (f : TimePart → TimePart) : (d.modTime f).boot = d.boot := rfl
@[simp] theorem Dev.modTime_key (f : TimePart → TimePart) : (d.modTime f).key = d.key := rfl
@[simp] theorem Dev.modTime_get (f : TimePart → TimePart) (h : Fld) : (d.modTime f).get h = d.get h := rfl
@[simp] theorem Dev.modTime_flag (f : TimePart → TimePart) (h : Fld) : (d.modTime f).flag h = d.flag h := rfl

/-! `Dev.modSw` changes `sw`. -/

@[simp] theorem Dev.modSw_flds (f : SwitchPart → SwitchPart) : (d.modSw f).flds = d.flds := rfl
@[simp] theorem Dev.modSw_mem (f : SwitchPart → SwitchPart) : (d.modSw f).mem = d.mem := rfl
@[simp] theorem Dev.modSw_freeCtr (f : SwitchPart → SwitchPart) : (d.modSw f).freeCtr = d.freeCtr := rfl
@[simp] theorem Dev.modSw_posted (f : SwitchPart → SwitchPart) : (d.modSw f).posted = d.posted := rfl
@[simp] theorem Dev.modSw_evqLost (f : SwitchPart → SwitchPart) : (d.modSw f).evqLost = d.evqLost := rfl
@[simp] theorem Dev.modSw_cycle (f : SwitchPart → SwitchPart) : (d.modSw f).cycle = d.cycle := rfl
@[simp] theorem Dev.modSw_aon (f : SwitchPart → SwitchPart) : (d.modSw f).aon = d.aon := rfl
@[simp] theorem Dev.modSw_sil (f : SwitchPart → SwitchPart) : (d.modSw f).sil = d.sil := rfl
@[simp] theorem Dev.modSw_time (f : SwitchPart → SwitchPart) : (d.modSw f).time = d.time := rfl
@[simp] theorem Dev.modSw_seqs (f : SwitchPart → SwitchPart) : (d.modSw f).seqs = d.seqs := rfl
@[simp] theorem Dev.modSw_links (f : SwitchPart → SwitchPart) : (d.modSw f).links = d.links := rfl
@[simp] theorem Dev.modSw_sw (f : SwitchPart → SwitchPart) : (d.modSw f).sw = f d.sw := rfl
@[simp] theorem Dev.modSw_sch (f : SwitchPart → SwitchPart) : (d.modSw f).sch = d.sch := rfl
@[simp] theorem Dev.modSw_ctxs (f : SwitchPart → SwitchPart) : (d.modSw f).ctxs = d.ctxs := rfl
@[simp] theorem Dev.modSw_waits (f : SwitchPart → SwitchPart) : (d.modSw f).waits = d.waits := rfl
@[simp] theorem Dev.modSw_rel (f : SwitchPart → SwitchPart) : (d.modSw f).rel = d.rel := rfl
@[simp] theorem Dev.modSw_acc (f : SwitchPart → SwitchPart) : (d.modSw f).acc = d.acc := rfl
@[simp] theorem Dev.modSw_port (f : SwitchPart → SwitchPart) : (d.modSw f).port = d.port := rfl
@[simp] theorem Dev.modSw_enq (f : SwitchPart → SwitchPart) : (d.modSw f).enq = d.enq := rfl
@[simp] theorem Dev.modSw_syn (f : SwitchPart → SwitchPart) : (d.modSw f).syn = d.syn := rfl
@[simp] theorem Dev.modSw_eth (f : SwitchPart → SwitchPart) : (d.modSw f).eth = d.eth := rfl
@[simp] theorem Dev.modSw_sto (f : SwitchPart → SwitchPart) : (d.modSw f).sto = d.sto := rfl
@[simp] theorem Dev.modSw_scan (f : SwitchPart → SwitchPart) : (d.modSw f).scan = d.scan := rfl
@[simp] theorem Dev.modSw_pdc (f : SwitchPart → SwitchPart) : (d.modSw f).pdc = d.pdc := rfl
@[simp] theorem Dev.modSw_power (f : SwitchPart → SwitchPart) : (d.modSw f).power = d.power := rfl
@[simp] theorem Dev.modSw_usb (f : SwitchPart → SwitchPart) : (d.modSw f).usb = d.usb := rfl
@[simp] theorem Dev.modSw_hsw (f : SwitchPart → SwitchPart) : (d.modSw f).hsw = d.hsw := rfl
@[simp] theorem Dev.modSw_boot (f : SwitchPart → SwitchPart) : (d.modSw f).boot = d.boot := rfl
@[simp] theorem Dev.modSw_key (f : SwitchPart → SwitchPart) : (d.modSw f).key = d.key := rfl
@[simp] theorem Dev.modSw_get (f : SwitchPart → SwitchPart) (h : Fld) : (d.modSw f).get h = d.get h := rfl
@[simp] theorem Dev.modSw_flag (f : SwitchPart → SwitchPart) (h : Fld) : (d.modSw f).flag h = d.flag h := rfl

/-! `Dev.setLnk` changes `links`. -/

@[simp] theorem Dev.setLnk_flds (p : Nat) (l : LinkSt) : (d.setLnk p l).flds = d.flds := rfl
@[simp] theorem Dev.setLnk_mem (p : Nat) (l : LinkSt) : (d.setLnk p l).mem = d.mem := rfl
@[simp] theorem Dev.setLnk_freeCtr (p : Nat) (l : LinkSt) : (d.setLnk p l).freeCtr = d.freeCtr := rfl
@[simp] theorem Dev.setLnk_posted (p : Nat) (l : LinkSt) : (d.setLnk p l).posted = d.posted := rfl
@[simp] theorem Dev.setLnk_evqLost (p : Nat) (l : LinkSt) : (d.setLnk p l).evqLost = d.evqLost := rfl
@[simp] theorem Dev.setLnk_cycle (p : Nat) (l : LinkSt) : (d.setLnk p l).cycle = d.cycle := rfl
@[simp] theorem Dev.setLnk_aon (p : Nat) (l : LinkSt) : (d.setLnk p l).aon = d.aon := rfl
@[simp] theorem Dev.setLnk_sil (p : Nat) (l : LinkSt) : (d.setLnk p l).sil = d.sil := rfl
@[simp] theorem Dev.setLnk_time (p : Nat) (l : LinkSt) : (d.setLnk p l).time = d.time := rfl
@[simp] theorem Dev.setLnk_seqs (p : Nat) (l : LinkSt) : (d.setLnk p l).seqs = d.seqs := rfl
@[simp] theorem Dev.setLnk_sw (p : Nat) (l : LinkSt) : (d.setLnk p l).sw = d.sw := rfl
@[simp] theorem Dev.setLnk_sch (p : Nat) (l : LinkSt) : (d.setLnk p l).sch = d.sch := rfl
@[simp] theorem Dev.setLnk_ctxs (p : Nat) (l : LinkSt) : (d.setLnk p l).ctxs = d.ctxs := rfl
@[simp] theorem Dev.setLnk_waits (p : Nat) (l : LinkSt) : (d.setLnk p l).waits = d.waits := rfl
@[simp] theorem Dev.setLnk_rel (p : Nat) (l : LinkSt) : (d.setLnk p l).rel = d.rel := rfl
@[simp] theorem Dev.setLnk_acc (p : Nat) (l : LinkSt) : (d.setLnk p l).acc = d.acc := rfl
@[simp] theorem Dev.setLnk_port (p : Nat) (l : LinkSt) : (d.setLnk p l).port = d.port := rfl
@[simp] theorem Dev.setLnk_enq (p : Nat) (l : LinkSt) : (d.setLnk p l).enq = d.enq := rfl
@[simp] theorem Dev.setLnk_syn (p : Nat) (l : LinkSt) : (d.setLnk p l).syn = d.syn := rfl
@[simp] theorem Dev.setLnk_eth (p : Nat) (l : LinkSt) : (d.setLnk p l).eth = d.eth := rfl
@[simp] theorem Dev.setLnk_sto (p : Nat) (l : LinkSt) : (d.setLnk p l).sto = d.sto := rfl
@[simp] theorem Dev.setLnk_scan (p : Nat) (l : LinkSt) : (d.setLnk p l).scan = d.scan := rfl
@[simp] theorem Dev.setLnk_pdc (p : Nat) (l : LinkSt) : (d.setLnk p l).pdc = d.pdc := rfl
@[simp] theorem Dev.setLnk_power (p : Nat) (l : LinkSt) : (d.setLnk p l).power = d.power := rfl
@[simp] theorem Dev.setLnk_usb (p : Nat) (l : LinkSt) : (d.setLnk p l).usb = d.usb := rfl
@[simp] theorem Dev.setLnk_hsw (p : Nat) (l : LinkSt) : (d.setLnk p l).hsw = d.hsw := rfl
@[simp] theorem Dev.setLnk_boot (p : Nat) (l : LinkSt) : (d.setLnk p l).boot = d.boot := rfl
@[simp] theorem Dev.setLnk_key (p : Nat) (l : LinkSt) : (d.setLnk p l).key = d.key := rfl
@[simp] theorem Dev.setLnk_get (p : Nat) (l : LinkSt) (h : Fld) : (d.setLnk p l).get h = d.get h := rfl
@[simp] theorem Dev.setLnk_flag (p : Nat) (l : LinkSt) (h : Fld) : (d.setLnk p l).flag h = d.flag h := rfl

/-! `Dev.modLnk` changes `links`. -/

@[simp] theorem Dev.modLnk_flds (p : Nat) (f : LinkSt → LinkSt) : (d.modLnk p f).flds = d.flds := rfl
@[simp] theorem Dev.modLnk_mem (p : Nat) (f : LinkSt → LinkSt) : (d.modLnk p f).mem = d.mem := rfl
@[simp] theorem Dev.modLnk_freeCtr (p : Nat) (f : LinkSt → LinkSt) : (d.modLnk p f).freeCtr = d.freeCtr := rfl
@[simp] theorem Dev.modLnk_posted (p : Nat) (f : LinkSt → LinkSt) : (d.modLnk p f).posted = d.posted := rfl
@[simp] theorem Dev.modLnk_evqLost (p : Nat) (f : LinkSt → LinkSt) : (d.modLnk p f).evqLost = d.evqLost := rfl
@[simp] theorem Dev.modLnk_cycle (p : Nat) (f : LinkSt → LinkSt) : (d.modLnk p f).cycle = d.cycle := rfl
@[simp] theorem Dev.modLnk_aon (p : Nat) (f : LinkSt → LinkSt) : (d.modLnk p f).aon = d.aon := rfl
@[simp] theorem Dev.modLnk_sil (p : Nat) (f : LinkSt → LinkSt) : (d.modLnk p f).sil = d.sil := rfl
@[simp] theorem Dev.modLnk_time (p : Nat) (f : LinkSt → LinkSt) : (d.modLnk p f).time = d.time := rfl
@[simp] theorem Dev.modLnk_seqs (p : Nat) (f : LinkSt → LinkSt) : (d.modLnk p f).seqs = d.seqs := rfl
@[simp] theorem Dev.modLnk_sw (p : Nat) (f : LinkSt → LinkSt) : (d.modLnk p f).sw = d.sw := rfl
@[simp] theorem Dev.modLnk_sch (p : Nat) (f : LinkSt → LinkSt) : (d.modLnk p f).sch = d.sch := rfl
@[simp] theorem Dev.modLnk_ctxs (p : Nat) (f : LinkSt → LinkSt) : (d.modLnk p f).ctxs = d.ctxs := rfl
@[simp] theorem Dev.modLnk_waits (p : Nat) (f : LinkSt → LinkSt) : (d.modLnk p f).waits = d.waits := rfl
@[simp] theorem Dev.modLnk_rel (p : Nat) (f : LinkSt → LinkSt) : (d.modLnk p f).rel = d.rel := rfl
@[simp] theorem Dev.modLnk_acc (p : Nat) (f : LinkSt → LinkSt) : (d.modLnk p f).acc = d.acc := rfl
@[simp] theorem Dev.modLnk_port (p : Nat) (f : LinkSt → LinkSt) : (d.modLnk p f).port = d.port := rfl
@[simp] theorem Dev.modLnk_enq (p : Nat) (f : LinkSt → LinkSt) : (d.modLnk p f).enq = d.enq := rfl
@[simp] theorem Dev.modLnk_syn (p : Nat) (f : LinkSt → LinkSt) : (d.modLnk p f).syn = d.syn := rfl
@[simp] theorem Dev.modLnk_eth (p : Nat) (f : LinkSt → LinkSt) : (d.modLnk p f).eth = d.eth := rfl
@[simp] theorem Dev.modLnk_sto (p : Nat) (f : LinkSt → LinkSt) : (d.modLnk p f).sto = d.sto := rfl
@[simp] theorem Dev.modLnk_scan (p : Nat) (f : LinkSt → LinkSt) : (d.modLnk p f).scan = d.scan := rfl
@[simp] theorem Dev.modLnk_pdc (p : Nat) (f : LinkSt → LinkSt) : (d.modLnk p f).pdc = d.pdc := rfl
@[simp] theorem Dev.modLnk_power (p : Nat) (f : LinkSt → LinkSt) : (d.modLnk p f).power = d.power := rfl
@[simp] theorem Dev.modLnk_usb (p : Nat) (f : LinkSt → LinkSt) : (d.modLnk p f).usb = d.usb := rfl
@[simp] theorem Dev.modLnk_hsw (p : Nat) (f : LinkSt → LinkSt) : (d.modLnk p f).hsw = d.hsw := rfl
@[simp] theorem Dev.modLnk_boot (p : Nat) (f : LinkSt → LinkSt) : (d.modLnk p f).boot = d.boot := rfl
@[simp] theorem Dev.modLnk_key (p : Nat) (f : LinkSt → LinkSt) : (d.modLnk p f).key = d.key := rfl
@[simp] theorem Dev.modLnk_get (p : Nat) (f : LinkSt → LinkSt) (h : Fld) : (d.modLnk p f).get h = d.get h := rfl
@[simp] theorem Dev.modLnk_flag (p : Nat) (f : LinkSt → LinkSt) (h : Fld) : (d.modLnk p f).flag h = d.flag h := rfl

/-! `Dev.setSeq` changes `seqs`. -/

@[simp] theorem Dev.setSeq_flds (p : Nat) (x : SeqSt) : (d.setSeq p x).flds = d.flds := rfl
@[simp] theorem Dev.setSeq_mem (p : Nat) (x : SeqSt) : (d.setSeq p x).mem = d.mem := rfl
@[simp] theorem Dev.setSeq_freeCtr (p : Nat) (x : SeqSt) : (d.setSeq p x).freeCtr = d.freeCtr := rfl
@[simp] theorem Dev.setSeq_posted (p : Nat) (x : SeqSt) : (d.setSeq p x).posted = d.posted := rfl
@[simp] theorem Dev.setSeq_evqLost (p : Nat) (x : SeqSt) : (d.setSeq p x).evqLost = d.evqLost := rfl
@[simp] theorem Dev.setSeq_cycle (p : Nat) (x : SeqSt) : (d.setSeq p x).cycle = d.cycle := rfl
@[simp] theorem Dev.setSeq_aon (p : Nat) (x : SeqSt) : (d.setSeq p x).aon = d.aon := rfl
@[simp] theorem Dev.setSeq_sil (p : Nat) (x : SeqSt) : (d.setSeq p x).sil = d.sil := rfl
@[simp] theorem Dev.setSeq_time (p : Nat) (x : SeqSt) : (d.setSeq p x).time = d.time := rfl
@[simp] theorem Dev.setSeq_links (p : Nat) (x : SeqSt) : (d.setSeq p x).links = d.links := rfl
@[simp] theorem Dev.setSeq_sw (p : Nat) (x : SeqSt) : (d.setSeq p x).sw = d.sw := rfl
@[simp] theorem Dev.setSeq_sch (p : Nat) (x : SeqSt) : (d.setSeq p x).sch = d.sch := rfl
@[simp] theorem Dev.setSeq_ctxs (p : Nat) (x : SeqSt) : (d.setSeq p x).ctxs = d.ctxs := rfl
@[simp] theorem Dev.setSeq_waits (p : Nat) (x : SeqSt) : (d.setSeq p x).waits = d.waits := rfl
@[simp] theorem Dev.setSeq_rel (p : Nat) (x : SeqSt) : (d.setSeq p x).rel = d.rel := rfl
@[simp] theorem Dev.setSeq_acc (p : Nat) (x : SeqSt) : (d.setSeq p x).acc = d.acc := rfl
@[simp] theorem Dev.setSeq_port (p : Nat) (x : SeqSt) : (d.setSeq p x).port = d.port := rfl
@[simp] theorem Dev.setSeq_enq (p : Nat) (x : SeqSt) : (d.setSeq p x).enq = d.enq := rfl
@[simp] theorem Dev.setSeq_syn (p : Nat) (x : SeqSt) : (d.setSeq p x).syn = d.syn := rfl
@[simp] theorem Dev.setSeq_eth (p : Nat) (x : SeqSt) : (d.setSeq p x).eth = d.eth := rfl
@[simp] theorem Dev.setSeq_sto (p : Nat) (x : SeqSt) : (d.setSeq p x).sto = d.sto := rfl
@[simp] theorem Dev.setSeq_scan (p : Nat) (x : SeqSt) : (d.setSeq p x).scan = d.scan := rfl
@[simp] theorem Dev.setSeq_pdc (p : Nat) (x : SeqSt) : (d.setSeq p x).pdc = d.pdc := rfl
@[simp] theorem Dev.setSeq_power (p : Nat) (x : SeqSt) : (d.setSeq p x).power = d.power := rfl
@[simp] theorem Dev.setSeq_usb (p : Nat) (x : SeqSt) : (d.setSeq p x).usb = d.usb := rfl
@[simp] theorem Dev.setSeq_hsw (p : Nat) (x : SeqSt) : (d.setSeq p x).hsw = d.hsw := rfl
@[simp] theorem Dev.setSeq_boot (p : Nat) (x : SeqSt) : (d.setSeq p x).boot = d.boot := rfl
@[simp] theorem Dev.setSeq_key (p : Nat) (x : SeqSt) : (d.setSeq p x).key = d.key := rfl
@[simp] theorem Dev.setSeq_get (p : Nat) (x : SeqSt) (h : Fld) : (d.setSeq p x).get h = d.get h := rfl
@[simp] theorem Dev.setSeq_flag (p : Nat) (x : SeqSt) (h : Fld) : (d.setSeq p x).flag h = d.flag h := rfl

/-! `Dev.modSeq` changes `seqs`. -/

@[simp] theorem Dev.modSeq_flds (p : Nat) (f : SeqSt → SeqSt) : (d.modSeq p f).flds = d.flds := rfl
@[simp] theorem Dev.modSeq_mem (p : Nat) (f : SeqSt → SeqSt) : (d.modSeq p f).mem = d.mem := rfl
@[simp] theorem Dev.modSeq_freeCtr (p : Nat) (f : SeqSt → SeqSt) : (d.modSeq p f).freeCtr = d.freeCtr := rfl
@[simp] theorem Dev.modSeq_posted (p : Nat) (f : SeqSt → SeqSt) : (d.modSeq p f).posted = d.posted := rfl
@[simp] theorem Dev.modSeq_evqLost (p : Nat) (f : SeqSt → SeqSt) : (d.modSeq p f).evqLost = d.evqLost := rfl
@[simp] theorem Dev.modSeq_cycle (p : Nat) (f : SeqSt → SeqSt) : (d.modSeq p f).cycle = d.cycle := rfl
@[simp] theorem Dev.modSeq_aon (p : Nat) (f : SeqSt → SeqSt) : (d.modSeq p f).aon = d.aon := rfl
@[simp] theorem Dev.modSeq_sil (p : Nat) (f : SeqSt → SeqSt) : (d.modSeq p f).sil = d.sil := rfl
@[simp] theorem Dev.modSeq_time (p : Nat) (f : SeqSt → SeqSt) : (d.modSeq p f).time = d.time := rfl
@[simp] theorem Dev.modSeq_links (p : Nat) (f : SeqSt → SeqSt) : (d.modSeq p f).links = d.links := rfl
@[simp] theorem Dev.modSeq_sw (p : Nat) (f : SeqSt → SeqSt) : (d.modSeq p f).sw = d.sw := rfl
@[simp] theorem Dev.modSeq_sch (p : Nat) (f : SeqSt → SeqSt) : (d.modSeq p f).sch = d.sch := rfl
@[simp] theorem Dev.modSeq_ctxs (p : Nat) (f : SeqSt → SeqSt) : (d.modSeq p f).ctxs = d.ctxs := rfl
@[simp] theorem Dev.modSeq_waits (p : Nat) (f : SeqSt → SeqSt) : (d.modSeq p f).waits = d.waits := rfl
@[simp] theorem Dev.modSeq_rel (p : Nat) (f : SeqSt → SeqSt) : (d.modSeq p f).rel = d.rel := rfl
@[simp] theorem Dev.modSeq_acc (p : Nat) (f : SeqSt → SeqSt) : (d.modSeq p f).acc = d.acc := rfl
@[simp] theorem Dev.modSeq_port (p : Nat) (f : SeqSt → SeqSt) : (d.modSeq p f).port = d.port := rfl
@[simp] theorem Dev.modSeq_enq (p : Nat) (f : SeqSt → SeqSt) : (d.modSeq p f).enq = d.enq := rfl
@[simp] theorem Dev.modSeq_syn (p : Nat) (f : SeqSt → SeqSt) : (d.modSeq p f).syn = d.syn := rfl
@[simp] theorem Dev.modSeq_eth (p : Nat) (f : SeqSt → SeqSt) : (d.modSeq p f).eth = d.eth := rfl
@[simp] theorem Dev.modSeq_sto (p : Nat) (f : SeqSt → SeqSt) : (d.modSeq p f).sto = d.sto := rfl
@[simp] theorem Dev.modSeq_scan (p : Nat) (f : SeqSt → SeqSt) : (d.modSeq p f).scan = d.scan := rfl
@[simp] theorem Dev.modSeq_pdc (p : Nat) (f : SeqSt → SeqSt) : (d.modSeq p f).pdc = d.pdc := rfl
@[simp] theorem Dev.modSeq_power (p : Nat) (f : SeqSt → SeqSt) : (d.modSeq p f).power = d.power := rfl
@[simp] theorem Dev.modSeq_usb (p : Nat) (f : SeqSt → SeqSt) : (d.modSeq p f).usb = d.usb := rfl
@[simp] theorem Dev.modSeq_hsw (p : Nat) (f : SeqSt → SeqSt) : (d.modSeq p f).hsw = d.hsw := rfl
@[simp] theorem Dev.modSeq_boot (p : Nat) (f : SeqSt → SeqSt) : (d.modSeq p f).boot = d.boot := rfl
@[simp] theorem Dev.modSeq_key (p : Nat) (f : SeqSt → SeqSt) : (d.modSeq p f).key = d.key := rfl
@[simp] theorem Dev.modSeq_get (p : Nat) (f : SeqSt → SeqSt) (h : Fld) : (d.modSeq p f).get h = d.get h := rfl
@[simp] theorem Dev.modSeq_flag (p : Nat) (f : SeqSt → SeqSt) (h : Fld) : (d.modSeq p f).flag h = d.flag h := rfl

/-! `Dev.modSch` changes `sch`. -/

@[simp] theorem Dev.modSch_flds (f : SchedPart → SchedPart) : (d.modSch f).flds = d.flds := rfl
@[simp] theorem Dev.modSch_mem (f : SchedPart → SchedPart) : (d.modSch f).mem = d.mem := rfl
@[simp] theorem Dev.modSch_freeCtr (f : SchedPart → SchedPart) : (d.modSch f).freeCtr = d.freeCtr := rfl
@[simp] theorem Dev.modSch_posted (f : SchedPart → SchedPart) : (d.modSch f).posted = d.posted := rfl
@[simp] theorem Dev.modSch_evqLost (f : SchedPart → SchedPart) : (d.modSch f).evqLost = d.evqLost := rfl
@[simp] theorem Dev.modSch_cycle (f : SchedPart → SchedPart) : (d.modSch f).cycle = d.cycle := rfl
@[simp] theorem Dev.modSch_aon (f : SchedPart → SchedPart) : (d.modSch f).aon = d.aon := rfl
@[simp] theorem Dev.modSch_sil (f : SchedPart → SchedPart) : (d.modSch f).sil = d.sil := rfl
@[simp] theorem Dev.modSch_time (f : SchedPart → SchedPart) : (d.modSch f).time = d.time := rfl
@[simp] theorem Dev.modSch_seqs (f : SchedPart → SchedPart) : (d.modSch f).seqs = d.seqs := rfl
@[simp] theorem Dev.modSch_links (f : SchedPart → SchedPart) : (d.modSch f).links = d.links := rfl
@[simp] theorem Dev.modSch_sw (f : SchedPart → SchedPart) : (d.modSch f).sw = d.sw := rfl
@[simp] theorem Dev.modSch_sch (f : SchedPart → SchedPart) : (d.modSch f).sch = f d.sch := rfl
@[simp] theorem Dev.modSch_ctxs (f : SchedPart → SchedPart) : (d.modSch f).ctxs = d.ctxs := rfl
@[simp] theorem Dev.modSch_waits (f : SchedPart → SchedPart) : (d.modSch f).waits = d.waits := rfl
@[simp] theorem Dev.modSch_rel (f : SchedPart → SchedPart) : (d.modSch f).rel = d.rel := rfl
@[simp] theorem Dev.modSch_acc (f : SchedPart → SchedPart) : (d.modSch f).acc = d.acc := rfl
@[simp] theorem Dev.modSch_port (f : SchedPart → SchedPart) : (d.modSch f).port = d.port := rfl
@[simp] theorem Dev.modSch_enq (f : SchedPart → SchedPart) : (d.modSch f).enq = d.enq := rfl
@[simp] theorem Dev.modSch_syn (f : SchedPart → SchedPart) : (d.modSch f).syn = d.syn := rfl
@[simp] theorem Dev.modSch_eth (f : SchedPart → SchedPart) : (d.modSch f).eth = d.eth := rfl
@[simp] theorem Dev.modSch_sto (f : SchedPart → SchedPart) : (d.modSch f).sto = d.sto := rfl
@[simp] theorem Dev.modSch_scan (f : SchedPart → SchedPart) : (d.modSch f).scan = d.scan := rfl
@[simp] theorem Dev.modSch_pdc (f : SchedPart → SchedPart) : (d.modSch f).pdc = d.pdc := rfl
@[simp] theorem Dev.modSch_power (f : SchedPart → SchedPart) : (d.modSch f).power = d.power := rfl
@[simp] theorem Dev.modSch_usb (f : SchedPart → SchedPart) : (d.modSch f).usb = d.usb := rfl
@[simp] theorem Dev.modSch_hsw (f : SchedPart → SchedPart) : (d.modSch f).hsw = d.hsw := rfl
@[simp] theorem Dev.modSch_boot (f : SchedPart → SchedPart) : (d.modSch f).boot = d.boot := rfl
@[simp] theorem Dev.modSch_key (f : SchedPart → SchedPart) : (d.modSch f).key = d.key := rfl
@[simp] theorem Dev.modSch_get (f : SchedPart → SchedPart) (h : Fld) : (d.modSch f).get h = d.get h := rfl
@[simp] theorem Dev.modSch_flag (f : SchedPart → SchedPart) (h : Fld) : (d.modSch f).flag h = d.flag h := rfl

/-! `Dev.setQs` changes `sch`. -/

@[simp] theorem Dev.setQs_flds (q : Nat) (x : QSched) : (d.setQs q x).flds = d.flds := rfl
@[simp] theorem Dev.setQs_mem (q : Nat) (x : QSched) : (d.setQs q x).mem = d.mem := rfl
@[simp] theorem Dev.setQs_freeCtr (q : Nat) (x : QSched) : (d.setQs q x).freeCtr = d.freeCtr := rfl
@[simp] theorem Dev.setQs_posted (q : Nat) (x : QSched) : (d.setQs q x).posted = d.posted := rfl
@[simp] theorem Dev.setQs_evqLost (q : Nat) (x : QSched) : (d.setQs q x).evqLost = d.evqLost := rfl
@[simp] theorem Dev.setQs_cycle (q : Nat) (x : QSched) : (d.setQs q x).cycle = d.cycle := rfl
@[simp] theorem Dev.setQs_aon (q : Nat) (x : QSched) : (d.setQs q x).aon = d.aon := rfl
@[simp] theorem Dev.setQs_sil (q : Nat) (x : QSched) : (d.setQs q x).sil = d.sil := rfl
@[simp] theorem Dev.setQs_time (q : Nat) (x : QSched) : (d.setQs q x).time = d.time := rfl
@[simp] theorem Dev.setQs_seqs (q : Nat) (x : QSched) : (d.setQs q x).seqs = d.seqs := rfl
@[simp] theorem Dev.setQs_links (q : Nat) (x : QSched) : (d.setQs q x).links = d.links := rfl
@[simp] theorem Dev.setQs_sw (q : Nat) (x : QSched) : (d.setQs q x).sw = d.sw := rfl
@[simp] theorem Dev.setQs_ctxs (q : Nat) (x : QSched) : (d.setQs q x).ctxs = d.ctxs := rfl
@[simp] theorem Dev.setQs_waits (q : Nat) (x : QSched) : (d.setQs q x).waits = d.waits := rfl
@[simp] theorem Dev.setQs_rel (q : Nat) (x : QSched) : (d.setQs q x).rel = d.rel := rfl
@[simp] theorem Dev.setQs_acc (q : Nat) (x : QSched) : (d.setQs q x).acc = d.acc := rfl
@[simp] theorem Dev.setQs_port (q : Nat) (x : QSched) : (d.setQs q x).port = d.port := rfl
@[simp] theorem Dev.setQs_enq (q : Nat) (x : QSched) : (d.setQs q x).enq = d.enq := rfl
@[simp] theorem Dev.setQs_syn (q : Nat) (x : QSched) : (d.setQs q x).syn = d.syn := rfl
@[simp] theorem Dev.setQs_eth (q : Nat) (x : QSched) : (d.setQs q x).eth = d.eth := rfl
@[simp] theorem Dev.setQs_sto (q : Nat) (x : QSched) : (d.setQs q x).sto = d.sto := rfl
@[simp] theorem Dev.setQs_scan (q : Nat) (x : QSched) : (d.setQs q x).scan = d.scan := rfl
@[simp] theorem Dev.setQs_pdc (q : Nat) (x : QSched) : (d.setQs q x).pdc = d.pdc := rfl
@[simp] theorem Dev.setQs_power (q : Nat) (x : QSched) : (d.setQs q x).power = d.power := rfl
@[simp] theorem Dev.setQs_usb (q : Nat) (x : QSched) : (d.setQs q x).usb = d.usb := rfl
@[simp] theorem Dev.setQs_hsw (q : Nat) (x : QSched) : (d.setQs q x).hsw = d.hsw := rfl
@[simp] theorem Dev.setQs_boot (q : Nat) (x : QSched) : (d.setQs q x).boot = d.boot := rfl
@[simp] theorem Dev.setQs_key (q : Nat) (x : QSched) : (d.setQs q x).key = d.key := rfl
@[simp] theorem Dev.setQs_get (q : Nat) (x : QSched) (h : Fld) : (d.setQs q x).get h = d.get h := rfl
@[simp] theorem Dev.setQs_flag (q : Nat) (x : QSched) (h : Fld) : (d.setQs q x).flag h = d.flag h := rfl

/-! `Dev.setCtx` changes `ctxs`. -/

@[simp] theorem Dev.setCtx_flds (c : Nat) (x : CtxSt) : (d.setCtx c x).flds = d.flds := rfl
@[simp] theorem Dev.setCtx_mem (c : Nat) (x : CtxSt) : (d.setCtx c x).mem = d.mem := rfl
@[simp] theorem Dev.setCtx_freeCtr (c : Nat) (x : CtxSt) : (d.setCtx c x).freeCtr = d.freeCtr := rfl
@[simp] theorem Dev.setCtx_posted (c : Nat) (x : CtxSt) : (d.setCtx c x).posted = d.posted := rfl
@[simp] theorem Dev.setCtx_evqLost (c : Nat) (x : CtxSt) : (d.setCtx c x).evqLost = d.evqLost := rfl
@[simp] theorem Dev.setCtx_cycle (c : Nat) (x : CtxSt) : (d.setCtx c x).cycle = d.cycle := rfl
@[simp] theorem Dev.setCtx_aon (c : Nat) (x : CtxSt) : (d.setCtx c x).aon = d.aon := rfl
@[simp] theorem Dev.setCtx_sil (c : Nat) (x : CtxSt) : (d.setCtx c x).sil = d.sil := rfl
@[simp] theorem Dev.setCtx_time (c : Nat) (x : CtxSt) : (d.setCtx c x).time = d.time := rfl
@[simp] theorem Dev.setCtx_seqs (c : Nat) (x : CtxSt) : (d.setCtx c x).seqs = d.seqs := rfl
@[simp] theorem Dev.setCtx_links (c : Nat) (x : CtxSt) : (d.setCtx c x).links = d.links := rfl
@[simp] theorem Dev.setCtx_sw (c : Nat) (x : CtxSt) : (d.setCtx c x).sw = d.sw := rfl
@[simp] theorem Dev.setCtx_sch (c : Nat) (x : CtxSt) : (d.setCtx c x).sch = d.sch := rfl
@[simp] theorem Dev.setCtx_waits (c : Nat) (x : CtxSt) : (d.setCtx c x).waits = d.waits := rfl
@[simp] theorem Dev.setCtx_rel (c : Nat) (x : CtxSt) : (d.setCtx c x).rel = d.rel := rfl
@[simp] theorem Dev.setCtx_acc (c : Nat) (x : CtxSt) : (d.setCtx c x).acc = d.acc := rfl
@[simp] theorem Dev.setCtx_port (c : Nat) (x : CtxSt) : (d.setCtx c x).port = d.port := rfl
@[simp] theorem Dev.setCtx_enq (c : Nat) (x : CtxSt) : (d.setCtx c x).enq = d.enq := rfl
@[simp] theorem Dev.setCtx_syn (c : Nat) (x : CtxSt) : (d.setCtx c x).syn = d.syn := rfl
@[simp] theorem Dev.setCtx_eth (c : Nat) (x : CtxSt) : (d.setCtx c x).eth = d.eth := rfl
@[simp] theorem Dev.setCtx_sto (c : Nat) (x : CtxSt) : (d.setCtx c x).sto = d.sto := rfl
@[simp] theorem Dev.setCtx_scan (c : Nat) (x : CtxSt) : (d.setCtx c x).scan = d.scan := rfl
@[simp] theorem Dev.setCtx_pdc (c : Nat) (x : CtxSt) : (d.setCtx c x).pdc = d.pdc := rfl
@[simp] theorem Dev.setCtx_power (c : Nat) (x : CtxSt) : (d.setCtx c x).power = d.power := rfl
@[simp] theorem Dev.setCtx_usb (c : Nat) (x : CtxSt) : (d.setCtx c x).usb = d.usb := rfl
@[simp] theorem Dev.setCtx_hsw (c : Nat) (x : CtxSt) : (d.setCtx c x).hsw = d.hsw := rfl
@[simp] theorem Dev.setCtx_boot (c : Nat) (x : CtxSt) : (d.setCtx c x).boot = d.boot := rfl
@[simp] theorem Dev.setCtx_key (c : Nat) (x : CtxSt) : (d.setCtx c x).key = d.key := rfl
@[simp] theorem Dev.setCtx_get (c : Nat) (x : CtxSt) (h : Fld) : (d.setCtx c x).get h = d.get h := rfl
@[simp] theorem Dev.setCtx_flag (c : Nat) (x : CtxSt) (h : Fld) : (d.setCtx c x).flag h = d.flag h := rfl

/-! `Dev.modPort` changes `port`. -/

@[simp] theorem Dev.modPort_flds (f : PortPart → PortPart) : (d.modPort f).flds = d.flds := rfl
@[simp] theorem Dev.modPort_mem (f : PortPart → PortPart) : (d.modPort f).mem = d.mem := rfl
@[simp] theorem Dev.modPort_freeCtr (f : PortPart → PortPart) : (d.modPort f).freeCtr = d.freeCtr := rfl
@[simp] theorem Dev.modPort_posted (f : PortPart → PortPart) : (d.modPort f).posted = d.posted := rfl
@[simp] theorem Dev.modPort_evqLost (f : PortPart → PortPart) : (d.modPort f).evqLost = d.evqLost := rfl
@[simp] theorem Dev.modPort_cycle (f : PortPart → PortPart) : (d.modPort f).cycle = d.cycle := rfl
@[simp] theorem Dev.modPort_aon (f : PortPart → PortPart) : (d.modPort f).aon = d.aon := rfl
@[simp] theorem Dev.modPort_sil (f : PortPart → PortPart) : (d.modPort f).sil = d.sil := rfl
@[simp] theorem Dev.modPort_time (f : PortPart → PortPart) : (d.modPort f).time = d.time := rfl
@[simp] theorem Dev.modPort_seqs (f : PortPart → PortPart) : (d.modPort f).seqs = d.seqs := rfl
@[simp] theorem Dev.modPort_links (f : PortPart → PortPart) : (d.modPort f).links = d.links := rfl
@[simp] theorem Dev.modPort_sw (f : PortPart → PortPart) : (d.modPort f).sw = d.sw := rfl
@[simp] theorem Dev.modPort_sch (f : PortPart → PortPart) : (d.modPort f).sch = d.sch := rfl
@[simp] theorem Dev.modPort_ctxs (f : PortPart → PortPart) : (d.modPort f).ctxs = d.ctxs := rfl
@[simp] theorem Dev.modPort_waits (f : PortPart → PortPart) : (d.modPort f).waits = d.waits := rfl
@[simp] theorem Dev.modPort_rel (f : PortPart → PortPart) : (d.modPort f).rel = d.rel := rfl
@[simp] theorem Dev.modPort_acc (f : PortPart → PortPart) : (d.modPort f).acc = d.acc := rfl
@[simp] theorem Dev.modPort_port (f : PortPart → PortPart) : (d.modPort f).port = f d.port := rfl
@[simp] theorem Dev.modPort_enq (f : PortPart → PortPart) : (d.modPort f).enq = d.enq := rfl
@[simp] theorem Dev.modPort_syn (f : PortPart → PortPart) : (d.modPort f).syn = d.syn := rfl
@[simp] theorem Dev.modPort_eth (f : PortPart → PortPart) : (d.modPort f).eth = d.eth := rfl
@[simp] theorem Dev.modPort_sto (f : PortPart → PortPart) : (d.modPort f).sto = d.sto := rfl
@[simp] theorem Dev.modPort_scan (f : PortPart → PortPart) : (d.modPort f).scan = d.scan := rfl
@[simp] theorem Dev.modPort_pdc (f : PortPart → PortPart) : (d.modPort f).pdc = d.pdc := rfl
@[simp] theorem Dev.modPort_power (f : PortPart → PortPart) : (d.modPort f).power = d.power := rfl
@[simp] theorem Dev.modPort_usb (f : PortPart → PortPart) : (d.modPort f).usb = d.usb := rfl
@[simp] theorem Dev.modPort_hsw (f : PortPart → PortPart) : (d.modPort f).hsw = d.hsw := rfl
@[simp] theorem Dev.modPort_boot (f : PortPart → PortPart) : (d.modPort f).boot = d.boot := rfl
@[simp] theorem Dev.modPort_key (f : PortPart → PortPart) : (d.modPort f).key = d.key := rfl
@[simp] theorem Dev.modPort_get (f : PortPart → PortPart) (h : Fld) : (d.modPort f).get h = d.get h := rfl
@[simp] theorem Dev.modPort_flag (f : PortPart → PortPart) (h : Fld) : (d.modPort f).flag h = d.flag h := rfl

/-! `Dev.modUsb` changes `usb`. -/

@[simp] theorem Dev.modUsb_flds (f : UsbPart → UsbPart) : (d.modUsb f).flds = d.flds := rfl
@[simp] theorem Dev.modUsb_mem (f : UsbPart → UsbPart) : (d.modUsb f).mem = d.mem := rfl
@[simp] theorem Dev.modUsb_freeCtr (f : UsbPart → UsbPart) : (d.modUsb f).freeCtr = d.freeCtr := rfl
@[simp] theorem Dev.modUsb_posted (f : UsbPart → UsbPart) : (d.modUsb f).posted = d.posted := rfl
@[simp] theorem Dev.modUsb_evqLost (f : UsbPart → UsbPart) : (d.modUsb f).evqLost = d.evqLost := rfl
@[simp] theorem Dev.modUsb_cycle (f : UsbPart → UsbPart) : (d.modUsb f).cycle = d.cycle := rfl
@[simp] theorem Dev.modUsb_aon (f : UsbPart → UsbPart) : (d.modUsb f).aon = d.aon := rfl
@[simp] theorem Dev.modUsb_sil (f : UsbPart → UsbPart) : (d.modUsb f).sil = d.sil := rfl
@[simp] theorem Dev.modUsb_time (f : UsbPart → UsbPart) : (d.modUsb f).time = d.time := rfl
@[simp] theorem Dev.modUsb_seqs (f : UsbPart → UsbPart) : (d.modUsb f).seqs = d.seqs := rfl
@[simp] theorem Dev.modUsb_links (f : UsbPart → UsbPart) : (d.modUsb f).links = d.links := rfl
@[simp] theorem Dev.modUsb_sw (f : UsbPart → UsbPart) : (d.modUsb f).sw = d.sw := rfl
@[simp] theorem Dev.modUsb_sch (f : UsbPart → UsbPart) : (d.modUsb f).sch = d.sch := rfl
@[simp] theorem Dev.modUsb_ctxs (f : UsbPart → UsbPart) : (d.modUsb f).ctxs = d.ctxs := rfl
@[simp] theorem Dev.modUsb_waits (f : UsbPart → UsbPart) : (d.modUsb f).waits = d.waits := rfl
@[simp] theorem Dev.modUsb_rel (f : UsbPart → UsbPart) : (d.modUsb f).rel = d.rel := rfl
@[simp] theorem Dev.modUsb_acc (f : UsbPart → UsbPart) : (d.modUsb f).acc = d.acc := rfl
@[simp] theorem Dev.modUsb_port (f : UsbPart → UsbPart) : (d.modUsb f).port = d.port := rfl
@[simp] theorem Dev.modUsb_enq (f : UsbPart → UsbPart) : (d.modUsb f).enq = d.enq := rfl
@[simp] theorem Dev.modUsb_syn (f : UsbPart → UsbPart) : (d.modUsb f).syn = d.syn := rfl
@[simp] theorem Dev.modUsb_eth (f : UsbPart → UsbPart) : (d.modUsb f).eth = d.eth := rfl
@[simp] theorem Dev.modUsb_sto (f : UsbPart → UsbPart) : (d.modUsb f).sto = d.sto := rfl
@[simp] theorem Dev.modUsb_scan (f : UsbPart → UsbPart) : (d.modUsb f).scan = d.scan := rfl
@[simp] theorem Dev.modUsb_pdc (f : UsbPart → UsbPart) : (d.modUsb f).pdc = d.pdc := rfl
@[simp] theorem Dev.modUsb_power (f : UsbPart → UsbPart) : (d.modUsb f).power = d.power := rfl
@[simp] theorem Dev.modUsb_usb (f : UsbPart → UsbPart) : (d.modUsb f).usb = f d.usb := rfl
@[simp] theorem Dev.modUsb_hsw (f : UsbPart → UsbPart) : (d.modUsb f).hsw = d.hsw := rfl
@[simp] theorem Dev.modUsb_boot (f : UsbPart → UsbPart) : (d.modUsb f).boot = d.boot := rfl
@[simp] theorem Dev.modUsb_key (f : UsbPart → UsbPart) : (d.modUsb f).key = d.key := rfl
@[simp] theorem Dev.modUsb_get (f : UsbPart → UsbPart) (h : Fld) : (d.modUsb f).get h = d.get h := rfl
@[simp] theorem Dev.modUsb_flag (f : UsbPart → UsbPart) (h : Fld) : (d.modUsb f).flag h = d.flag h := rfl

/-! `Dev.modEnq` changes `enq`. -/

@[simp] theorem Dev.modEnq_flds (f : EniquePart → EniquePart) : (d.modEnq f).flds = d.flds := rfl
@[simp] theorem Dev.modEnq_mem (f : EniquePart → EniquePart) : (d.modEnq f).mem = d.mem := rfl
@[simp] theorem Dev.modEnq_freeCtr (f : EniquePart → EniquePart) : (d.modEnq f).freeCtr = d.freeCtr := rfl
@[simp] theorem Dev.modEnq_posted (f : EniquePart → EniquePart) : (d.modEnq f).posted = d.posted := rfl
@[simp] theorem Dev.modEnq_evqLost (f : EniquePart → EniquePart) : (d.modEnq f).evqLost = d.evqLost := rfl
@[simp] theorem Dev.modEnq_cycle (f : EniquePart → EniquePart) : (d.modEnq f).cycle = d.cycle := rfl
@[simp] theorem Dev.modEnq_aon (f : EniquePart → EniquePart) : (d.modEnq f).aon = d.aon := rfl
@[simp] theorem Dev.modEnq_sil (f : EniquePart → EniquePart) : (d.modEnq f).sil = d.sil := rfl
@[simp] theorem Dev.modEnq_time (f : EniquePart → EniquePart) : (d.modEnq f).time = d.time := rfl
@[simp] theorem Dev.modEnq_seqs (f : EniquePart → EniquePart) : (d.modEnq f).seqs = d.seqs := rfl
@[simp] theorem Dev.modEnq_links (f : EniquePart → EniquePart) : (d.modEnq f).links = d.links := rfl
@[simp] theorem Dev.modEnq_sw (f : EniquePart → EniquePart) : (d.modEnq f).sw = d.sw := rfl
@[simp] theorem Dev.modEnq_sch (f : EniquePart → EniquePart) : (d.modEnq f).sch = d.sch := rfl
@[simp] theorem Dev.modEnq_ctxs (f : EniquePart → EniquePart) : (d.modEnq f).ctxs = d.ctxs := rfl
@[simp] theorem Dev.modEnq_waits (f : EniquePart → EniquePart) : (d.modEnq f).waits = d.waits := rfl
@[simp] theorem Dev.modEnq_rel (f : EniquePart → EniquePart) : (d.modEnq f).rel = d.rel := rfl
@[simp] theorem Dev.modEnq_acc (f : EniquePart → EniquePart) : (d.modEnq f).acc = d.acc := rfl
@[simp] theorem Dev.modEnq_port (f : EniquePart → EniquePart) : (d.modEnq f).port = d.port := rfl
@[simp] theorem Dev.modEnq_enq (f : EniquePart → EniquePart) : (d.modEnq f).enq = f d.enq := rfl
@[simp] theorem Dev.modEnq_syn (f : EniquePart → EniquePart) : (d.modEnq f).syn = d.syn := rfl
@[simp] theorem Dev.modEnq_eth (f : EniquePart → EniquePart) : (d.modEnq f).eth = d.eth := rfl
@[simp] theorem Dev.modEnq_sto (f : EniquePart → EniquePart) : (d.modEnq f).sto = d.sto := rfl
@[simp] theorem Dev.modEnq_scan (f : EniquePart → EniquePart) : (d.modEnq f).scan = d.scan := rfl
@[simp] theorem Dev.modEnq_pdc (f : EniquePart → EniquePart) : (d.modEnq f).pdc = d.pdc := rfl
@[simp] theorem Dev.modEnq_power (f : EniquePart → EniquePart) : (d.modEnq f).power = d.power := rfl
@[simp] theorem Dev.modEnq_usb (f : EniquePart → EniquePart) : (d.modEnq f).usb = d.usb := rfl
@[simp] theorem Dev.modEnq_hsw (f : EniquePart → EniquePart) : (d.modEnq f).hsw = d.hsw := rfl
@[simp] theorem Dev.modEnq_boot (f : EniquePart → EniquePart) : (d.modEnq f).boot = d.boot := rfl
@[simp] theorem Dev.modEnq_key (f : EniquePart → EniquePart) : (d.modEnq f).key = d.key := rfl
@[simp] theorem Dev.modEnq_get (f : EniquePart → EniquePart) (h : Fld) : (d.modEnq f).get h = d.get h := rfl
@[simp] theorem Dev.modEnq_flag (f : EniquePart → EniquePart) (h : Fld) : (d.modEnq f).flag h = d.flag h := rfl

/-! `Dev.modEth` changes `eth`. -/

@[simp] theorem Dev.modEth_flds (f : EthPart → EthPart) : (d.modEth f).flds = d.flds := rfl
@[simp] theorem Dev.modEth_mem (f : EthPart → EthPart) : (d.modEth f).mem = d.mem := rfl
@[simp] theorem Dev.modEth_freeCtr (f : EthPart → EthPart) : (d.modEth f).freeCtr = d.freeCtr := rfl
@[simp] theorem Dev.modEth_posted (f : EthPart → EthPart) : (d.modEth f).posted = d.posted := rfl
@[simp] theorem Dev.modEth_evqLost (f : EthPart → EthPart) : (d.modEth f).evqLost = d.evqLost := rfl
@[simp] theorem Dev.modEth_cycle (f : EthPart → EthPart) : (d.modEth f).cycle = d.cycle := rfl
@[simp] theorem Dev.modEth_aon (f : EthPart → EthPart) : (d.modEth f).aon = d.aon := rfl
@[simp] theorem Dev.modEth_sil (f : EthPart → EthPart) : (d.modEth f).sil = d.sil := rfl
@[simp] theorem Dev.modEth_time (f : EthPart → EthPart) : (d.modEth f).time = d.time := rfl
@[simp] theorem Dev.modEth_seqs (f : EthPart → EthPart) : (d.modEth f).seqs = d.seqs := rfl
@[simp] theorem Dev.modEth_links (f : EthPart → EthPart) : (d.modEth f).links = d.links := rfl
@[simp] theorem Dev.modEth_sw (f : EthPart → EthPart) : (d.modEth f).sw = d.sw := rfl
@[simp] theorem Dev.modEth_sch (f : EthPart → EthPart) : (d.modEth f).sch = d.sch := rfl
@[simp] theorem Dev.modEth_ctxs (f : EthPart → EthPart) : (d.modEth f).ctxs = d.ctxs := rfl
@[simp] theorem Dev.modEth_waits (f : EthPart → EthPart) : (d.modEth f).waits = d.waits := rfl
@[simp] theorem Dev.modEth_rel (f : EthPart → EthPart) : (d.modEth f).rel = d.rel := rfl
@[simp] theorem Dev.modEth_acc (f : EthPart → EthPart) : (d.modEth f).acc = d.acc := rfl
@[simp] theorem Dev.modEth_port (f : EthPart → EthPart) : (d.modEth f).port = d.port := rfl
@[simp] theorem Dev.modEth_enq (f : EthPart → EthPart) : (d.modEth f).enq = d.enq := rfl
@[simp] theorem Dev.modEth_syn (f : EthPart → EthPart) : (d.modEth f).syn = d.syn := rfl
@[simp] theorem Dev.modEth_eth (f : EthPart → EthPart) : (d.modEth f).eth = f d.eth := rfl
@[simp] theorem Dev.modEth_sto (f : EthPart → EthPart) : (d.modEth f).sto = d.sto := rfl
@[simp] theorem Dev.modEth_scan (f : EthPart → EthPart) : (d.modEth f).scan = d.scan := rfl
@[simp] theorem Dev.modEth_pdc (f : EthPart → EthPart) : (d.modEth f).pdc = d.pdc := rfl
@[simp] theorem Dev.modEth_power (f : EthPart → EthPart) : (d.modEth f).power = d.power := rfl
@[simp] theorem Dev.modEth_usb (f : EthPart → EthPart) : (d.modEth f).usb = d.usb := rfl
@[simp] theorem Dev.modEth_hsw (f : EthPart → EthPart) : (d.modEth f).hsw = d.hsw := rfl
@[simp] theorem Dev.modEth_boot (f : EthPart → EthPart) : (d.modEth f).boot = d.boot := rfl
@[simp] theorem Dev.modEth_key (f : EthPart → EthPart) : (d.modEth f).key = d.key := rfl
@[simp] theorem Dev.modEth_get (f : EthPart → EthPart) (h : Fld) : (d.modEth f).get h = d.get h := rfl
@[simp] theorem Dev.modEth_flag (f : EthPart → EthPart) (h : Fld) : (d.modEth f).flag h = d.flag h := rfl

/-! `Dev.modDrive` changes `sto`. -/

@[simp] theorem Dev.modDrive_flds (n : Nat) (f : Drive → Drive) : (d.modDrive n f).flds = d.flds := rfl
@[simp] theorem Dev.modDrive_mem (n : Nat) (f : Drive → Drive) : (d.modDrive n f).mem = d.mem := rfl
@[simp] theorem Dev.modDrive_freeCtr (n : Nat) (f : Drive → Drive) : (d.modDrive n f).freeCtr = d.freeCtr := rfl
@[simp] theorem Dev.modDrive_posted (n : Nat) (f : Drive → Drive) : (d.modDrive n f).posted = d.posted := rfl
@[simp] theorem Dev.modDrive_evqLost (n : Nat) (f : Drive → Drive) : (d.modDrive n f).evqLost = d.evqLost := rfl
@[simp] theorem Dev.modDrive_cycle (n : Nat) (f : Drive → Drive) : (d.modDrive n f).cycle = d.cycle := rfl
@[simp] theorem Dev.modDrive_aon (n : Nat) (f : Drive → Drive) : (d.modDrive n f).aon = d.aon := rfl
@[simp] theorem Dev.modDrive_sil (n : Nat) (f : Drive → Drive) : (d.modDrive n f).sil = d.sil := rfl
@[simp] theorem Dev.modDrive_time (n : Nat) (f : Drive → Drive) : (d.modDrive n f).time = d.time := rfl
@[simp] theorem Dev.modDrive_seqs (n : Nat) (f : Drive → Drive) : (d.modDrive n f).seqs = d.seqs := rfl
@[simp] theorem Dev.modDrive_links (n : Nat) (f : Drive → Drive) : (d.modDrive n f).links = d.links := rfl
@[simp] theorem Dev.modDrive_sw (n : Nat) (f : Drive → Drive) : (d.modDrive n f).sw = d.sw := rfl
@[simp] theorem Dev.modDrive_sch (n : Nat) (f : Drive → Drive) : (d.modDrive n f).sch = d.sch := rfl
@[simp] theorem Dev.modDrive_ctxs (n : Nat) (f : Drive → Drive) : (d.modDrive n f).ctxs = d.ctxs := rfl
@[simp] theorem Dev.modDrive_waits (n : Nat) (f : Drive → Drive) : (d.modDrive n f).waits = d.waits := rfl
@[simp] theorem Dev.modDrive_rel (n : Nat) (f : Drive → Drive) : (d.modDrive n f).rel = d.rel := rfl
@[simp] theorem Dev.modDrive_acc (n : Nat) (f : Drive → Drive) : (d.modDrive n f).acc = d.acc := rfl
@[simp] theorem Dev.modDrive_port (n : Nat) (f : Drive → Drive) : (d.modDrive n f).port = d.port := rfl
@[simp] theorem Dev.modDrive_enq (n : Nat) (f : Drive → Drive) : (d.modDrive n f).enq = d.enq := rfl
@[simp] theorem Dev.modDrive_syn (n : Nat) (f : Drive → Drive) : (d.modDrive n f).syn = d.syn := rfl
@[simp] theorem Dev.modDrive_eth (n : Nat) (f : Drive → Drive) : (d.modDrive n f).eth = d.eth := rfl
@[simp] theorem Dev.modDrive_scan (n : Nat) (f : Drive → Drive) : (d.modDrive n f).scan = d.scan := rfl
@[simp] theorem Dev.modDrive_pdc (n : Nat) (f : Drive → Drive) : (d.modDrive n f).pdc = d.pdc := rfl
@[simp] theorem Dev.modDrive_power (n : Nat) (f : Drive → Drive) : (d.modDrive n f).power = d.power := rfl
@[simp] theorem Dev.modDrive_usb (n : Nat) (f : Drive → Drive) : (d.modDrive n f).usb = d.usb := rfl
@[simp] theorem Dev.modDrive_hsw (n : Nat) (f : Drive → Drive) : (d.modDrive n f).hsw = d.hsw := rfl
@[simp] theorem Dev.modDrive_boot (n : Nat) (f : Drive → Drive) : (d.modDrive n f).boot = d.boot := rfl
@[simp] theorem Dev.modDrive_key (n : Nat) (f : Drive → Drive) : (d.modDrive n f).key = d.key := rfl
@[simp] theorem Dev.modDrive_get (n : Nat) (f : Drive → Drive) (h : Fld) : (d.modDrive n f).get h = d.get h := rfl
@[simp] theorem Dev.modDrive_flag (n : Nat) (f : Drive → Drive) (h : Fld) : (d.modDrive n f).flag h = d.flag h := rfl

/-! `Dev.setWin` changes `sto`. -/

@[simp] theorem Dev.setWin_flds (b : Nat) (w : StoWin) : (d.setWin b w).flds = d.flds := rfl
@[simp] theorem Dev.setWin_mem (b : Nat) (w : StoWin) : (d.setWin b w).mem = d.mem := rfl
@[simp] theorem Dev.setWin_freeCtr (b : Nat) (w : StoWin) : (d.setWin b w).freeCtr = d.freeCtr := rfl
@[simp] theorem Dev.setWin_posted (b : Nat) (w : StoWin) : (d.setWin b w).posted = d.posted := rfl
@[simp] theorem Dev.setWin_evqLost (b : Nat) (w : StoWin) : (d.setWin b w).evqLost = d.evqLost := rfl
@[simp] theorem Dev.setWin_cycle (b : Nat) (w : StoWin) : (d.setWin b w).cycle = d.cycle := rfl
@[simp] theorem Dev.setWin_aon (b : Nat) (w : StoWin) : (d.setWin b w).aon = d.aon := rfl
@[simp] theorem Dev.setWin_sil (b : Nat) (w : StoWin) : (d.setWin b w).sil = d.sil := rfl
@[simp] theorem Dev.setWin_time (b : Nat) (w : StoWin) : (d.setWin b w).time = d.time := rfl
@[simp] theorem Dev.setWin_seqs (b : Nat) (w : StoWin) : (d.setWin b w).seqs = d.seqs := rfl
@[simp] theorem Dev.setWin_links (b : Nat) (w : StoWin) : (d.setWin b w).links = d.links := rfl
@[simp] theorem Dev.setWin_sw (b : Nat) (w : StoWin) : (d.setWin b w).sw = d.sw := rfl
@[simp] theorem Dev.setWin_sch (b : Nat) (w : StoWin) : (d.setWin b w).sch = d.sch := rfl
@[simp] theorem Dev.setWin_ctxs (b : Nat) (w : StoWin) : (d.setWin b w).ctxs = d.ctxs := rfl
@[simp] theorem Dev.setWin_waits (b : Nat) (w : StoWin) : (d.setWin b w).waits = d.waits := rfl
@[simp] theorem Dev.setWin_rel (b : Nat) (w : StoWin) : (d.setWin b w).rel = d.rel := rfl
@[simp] theorem Dev.setWin_acc (b : Nat) (w : StoWin) : (d.setWin b w).acc = d.acc := rfl
@[simp] theorem Dev.setWin_port (b : Nat) (w : StoWin) : (d.setWin b w).port = d.port := rfl
@[simp] theorem Dev.setWin_enq (b : Nat) (w : StoWin) : (d.setWin b w).enq = d.enq := rfl
@[simp] theorem Dev.setWin_syn (b : Nat) (w : StoWin) : (d.setWin b w).syn = d.syn := rfl
@[simp] theorem Dev.setWin_eth (b : Nat) (w : StoWin) : (d.setWin b w).eth = d.eth := rfl
@[simp] theorem Dev.setWin_scan (b : Nat) (w : StoWin) : (d.setWin b w).scan = d.scan := rfl
@[simp] theorem Dev.setWin_pdc (b : Nat) (w : StoWin) : (d.setWin b w).pdc = d.pdc := rfl
@[simp] theorem Dev.setWin_power (b : Nat) (w : StoWin) : (d.setWin b w).power = d.power := rfl
@[simp] theorem Dev.setWin_usb (b : Nat) (w : StoWin) : (d.setWin b w).usb = d.usb := rfl
@[simp] theorem Dev.setWin_hsw (b : Nat) (w : StoWin) : (d.setWin b w).hsw = d.hsw := rfl
@[simp] theorem Dev.setWin_boot (b : Nat) (w : StoWin) : (d.setWin b w).boot = d.boot := rfl
@[simp] theorem Dev.setWin_key (b : Nat) (w : StoWin) : (d.setWin b w).key = d.key := rfl
@[simp] theorem Dev.setWin_get (b : Nat) (w : StoWin) (h : Fld) : (d.setWin b w).get h = d.get h := rfl
@[simp] theorem Dev.setWin_flag (b : Nat) (w : StoWin) (h : Fld) : (d.setWin b w).flag h = d.flag h := rfl

/-! `Dev.modPanel` changes `scan`. -/

@[simp] theorem Dev.modPanel_flds (n : Nat) (f : Panel → Panel) : (d.modPanel n f).flds = d.flds := rfl
@[simp] theorem Dev.modPanel_mem (n : Nat) (f : Panel → Panel) : (d.modPanel n f).mem = d.mem := rfl
@[simp] theorem Dev.modPanel_freeCtr (n : Nat) (f : Panel → Panel) : (d.modPanel n f).freeCtr = d.freeCtr := rfl
@[simp] theorem Dev.modPanel_posted (n : Nat) (f : Panel → Panel) : (d.modPanel n f).posted = d.posted := rfl
@[simp] theorem Dev.modPanel_evqLost (n : Nat) (f : Panel → Panel) : (d.modPanel n f).evqLost = d.evqLost := rfl
@[simp] theorem Dev.modPanel_cycle (n : Nat) (f : Panel → Panel) : (d.modPanel n f).cycle = d.cycle := rfl
@[simp] theorem Dev.modPanel_aon (n : Nat) (f : Panel → Panel) : (d.modPanel n f).aon = d.aon := rfl
@[simp] theorem Dev.modPanel_sil (n : Nat) (f : Panel → Panel) : (d.modPanel n f).sil = d.sil := rfl
@[simp] theorem Dev.modPanel_time (n : Nat) (f : Panel → Panel) : (d.modPanel n f).time = d.time := rfl
@[simp] theorem Dev.modPanel_seqs (n : Nat) (f : Panel → Panel) : (d.modPanel n f).seqs = d.seqs := rfl
@[simp] theorem Dev.modPanel_links (n : Nat) (f : Panel → Panel) : (d.modPanel n f).links = d.links := rfl
@[simp] theorem Dev.modPanel_sw (n : Nat) (f : Panel → Panel) : (d.modPanel n f).sw = d.sw := rfl
@[simp] theorem Dev.modPanel_sch (n : Nat) (f : Panel → Panel) : (d.modPanel n f).sch = d.sch := rfl
@[simp] theorem Dev.modPanel_ctxs (n : Nat) (f : Panel → Panel) : (d.modPanel n f).ctxs = d.ctxs := rfl
@[simp] theorem Dev.modPanel_waits (n : Nat) (f : Panel → Panel) : (d.modPanel n f).waits = d.waits := rfl
@[simp] theorem Dev.modPanel_rel (n : Nat) (f : Panel → Panel) : (d.modPanel n f).rel = d.rel := rfl
@[simp] theorem Dev.modPanel_acc (n : Nat) (f : Panel → Panel) : (d.modPanel n f).acc = d.acc := rfl
@[simp] theorem Dev.modPanel_port (n : Nat) (f : Panel → Panel) : (d.modPanel n f).port = d.port := rfl
@[simp] theorem Dev.modPanel_enq (n : Nat) (f : Panel → Panel) : (d.modPanel n f).enq = d.enq := rfl
@[simp] theorem Dev.modPanel_syn (n : Nat) (f : Panel → Panel) : (d.modPanel n f).syn = d.syn := rfl
@[simp] theorem Dev.modPanel_eth (n : Nat) (f : Panel → Panel) : (d.modPanel n f).eth = d.eth := rfl
@[simp] theorem Dev.modPanel_sto (n : Nat) (f : Panel → Panel) : (d.modPanel n f).sto = d.sto := rfl
@[simp] theorem Dev.modPanel_pdc (n : Nat) (f : Panel → Panel) : (d.modPanel n f).pdc = d.pdc := rfl
@[simp] theorem Dev.modPanel_power (n : Nat) (f : Panel → Panel) : (d.modPanel n f).power = d.power := rfl
@[simp] theorem Dev.modPanel_usb (n : Nat) (f : Panel → Panel) : (d.modPanel n f).usb = d.usb := rfl
@[simp] theorem Dev.modPanel_hsw (n : Nat) (f : Panel → Panel) : (d.modPanel n f).hsw = d.hsw := rfl
@[simp] theorem Dev.modPanel_boot (n : Nat) (f : Panel → Panel) : (d.modPanel n f).boot = d.boot := rfl
@[simp] theorem Dev.modPanel_key (n : Nat) (f : Panel → Panel) : (d.modPanel n f).key = d.key := rfl
@[simp] theorem Dev.modPanel_get (n : Nat) (f : Panel → Panel) (h : Fld) : (d.modPanel n f).get h = d.get h := rfl
@[simp] theorem Dev.modPanel_flag (n : Nat) (f : Panel → Panel) (h : Fld) : (d.modPanel n f).flag h = d.flag h := rfl

/-! `Dev.modPc` changes `pdc`. -/

@[simp] theorem Dev.modPc_flds (n : Nat) (f : PdcPort → PdcPort) : (d.modPc n f).flds = d.flds := rfl
@[simp] theorem Dev.modPc_mem (n : Nat) (f : PdcPort → PdcPort) : (d.modPc n f).mem = d.mem := rfl
@[simp] theorem Dev.modPc_freeCtr (n : Nat) (f : PdcPort → PdcPort) : (d.modPc n f).freeCtr = d.freeCtr := rfl
@[simp] theorem Dev.modPc_posted (n : Nat) (f : PdcPort → PdcPort) : (d.modPc n f).posted = d.posted := rfl
@[simp] theorem Dev.modPc_evqLost (n : Nat) (f : PdcPort → PdcPort) : (d.modPc n f).evqLost = d.evqLost := rfl
@[simp] theorem Dev.modPc_cycle (n : Nat) (f : PdcPort → PdcPort) : (d.modPc n f).cycle = d.cycle := rfl
@[simp] theorem Dev.modPc_aon (n : Nat) (f : PdcPort → PdcPort) : (d.modPc n f).aon = d.aon := rfl
@[simp] theorem Dev.modPc_sil (n : Nat) (f : PdcPort → PdcPort) : (d.modPc n f).sil = d.sil := rfl
@[simp] theorem Dev.modPc_time (n : Nat) (f : PdcPort → PdcPort) : (d.modPc n f).time = d.time := rfl
@[simp] theorem Dev.modPc_seqs (n : Nat) (f : PdcPort → PdcPort) : (d.modPc n f).seqs = d.seqs := rfl
@[simp] theorem Dev.modPc_links (n : Nat) (f : PdcPort → PdcPort) : (d.modPc n f).links = d.links := rfl
@[simp] theorem Dev.modPc_sw (n : Nat) (f : PdcPort → PdcPort) : (d.modPc n f).sw = d.sw := rfl
@[simp] theorem Dev.modPc_sch (n : Nat) (f : PdcPort → PdcPort) : (d.modPc n f).sch = d.sch := rfl
@[simp] theorem Dev.modPc_ctxs (n : Nat) (f : PdcPort → PdcPort) : (d.modPc n f).ctxs = d.ctxs := rfl
@[simp] theorem Dev.modPc_waits (n : Nat) (f : PdcPort → PdcPort) : (d.modPc n f).waits = d.waits := rfl
@[simp] theorem Dev.modPc_rel (n : Nat) (f : PdcPort → PdcPort) : (d.modPc n f).rel = d.rel := rfl
@[simp] theorem Dev.modPc_acc (n : Nat) (f : PdcPort → PdcPort) : (d.modPc n f).acc = d.acc := rfl
@[simp] theorem Dev.modPc_port (n : Nat) (f : PdcPort → PdcPort) : (d.modPc n f).port = d.port := rfl
@[simp] theorem Dev.modPc_enq (n : Nat) (f : PdcPort → PdcPort) : (d.modPc n f).enq = d.enq := rfl
@[simp] theorem Dev.modPc_syn (n : Nat) (f : PdcPort → PdcPort) : (d.modPc n f).syn = d.syn := rfl
@[simp] theorem Dev.modPc_eth (n : Nat) (f : PdcPort → PdcPort) : (d.modPc n f).eth = d.eth := rfl
@[simp] theorem Dev.modPc_sto (n : Nat) (f : PdcPort → PdcPort) : (d.modPc n f).sto = d.sto := rfl
@[simp] theorem Dev.modPc_scan (n : Nat) (f : PdcPort → PdcPort) : (d.modPc n f).scan = d.scan := rfl
@[simp] theorem Dev.modPc_power (n : Nat) (f : PdcPort → PdcPort) : (d.modPc n f).power = d.power := rfl
@[simp] theorem Dev.modPc_usb (n : Nat) (f : PdcPort → PdcPort) : (d.modPc n f).usb = d.usb := rfl
@[simp] theorem Dev.modPc_hsw (n : Nat) (f : PdcPort → PdcPort) : (d.modPc n f).hsw = d.hsw := rfl
@[simp] theorem Dev.modPc_boot (n : Nat) (f : PdcPort → PdcPort) : (d.modPc n f).boot = d.boot := rfl
@[simp] theorem Dev.modPc_key (n : Nat) (f : PdcPort → PdcPort) : (d.modPc n f).key = d.key := rfl
@[simp] theorem Dev.modPc_get (n : Nat) (f : PdcPort → PdcPort) (h : Fld) : (d.modPc n f).get h = d.get h := rfl
@[simp] theorem Dev.modPc_flag (n : Nat) (f : PdcPort → PdcPort) (h : Fld) : (d.modPc n f).flag h = d.flag h := rfl

/-! `Dev.modPower` changes `power`. -/

@[simp] theorem Dev.modPower_flds (f : PowerPart → PowerPart) : (d.modPower f).flds = d.flds := rfl
@[simp] theorem Dev.modPower_mem (f : PowerPart → PowerPart) : (d.modPower f).mem = d.mem := rfl
@[simp] theorem Dev.modPower_freeCtr (f : PowerPart → PowerPart) : (d.modPower f).freeCtr = d.freeCtr := rfl
@[simp] theorem Dev.modPower_posted (f : PowerPart → PowerPart) : (d.modPower f).posted = d.posted := rfl
@[simp] theorem Dev.modPower_evqLost (f : PowerPart → PowerPart) : (d.modPower f).evqLost = d.evqLost := rfl
@[simp] theorem Dev.modPower_cycle (f : PowerPart → PowerPart) : (d.modPower f).cycle = d.cycle := rfl
@[simp] theorem Dev.modPower_aon (f : PowerPart → PowerPart) : (d.modPower f).aon = d.aon := rfl
@[simp] theorem Dev.modPower_sil (f : PowerPart → PowerPart) : (d.modPower f).sil = d.sil := rfl
@[simp] theorem Dev.modPower_time (f : PowerPart → PowerPart) : (d.modPower f).time = d.time := rfl
@[simp] theorem Dev.modPower_seqs (f : PowerPart → PowerPart) : (d.modPower f).seqs = d.seqs := rfl
@[simp] theorem Dev.modPower_links (f : PowerPart → PowerPart) : (d.modPower f).links = d.links := rfl
@[simp] theorem Dev.modPower_sw (f : PowerPart → PowerPart) : (d.modPower f).sw = d.sw := rfl
@[simp] theorem Dev.modPower_sch (f : PowerPart → PowerPart) : (d.modPower f).sch = d.sch := rfl
@[simp] theorem Dev.modPower_ctxs (f : PowerPart → PowerPart) : (d.modPower f).ctxs = d.ctxs := rfl
@[simp] theorem Dev.modPower_waits (f : PowerPart → PowerPart) : (d.modPower f).waits = d.waits := rfl
@[simp] theorem Dev.modPower_rel (f : PowerPart → PowerPart) : (d.modPower f).rel = d.rel := rfl
@[simp] theorem Dev.modPower_acc (f : PowerPart → PowerPart) : (d.modPower f).acc = d.acc := rfl
@[simp] theorem Dev.modPower_port (f : PowerPart → PowerPart) : (d.modPower f).port = d.port := rfl
@[simp] theorem Dev.modPower_enq (f : PowerPart → PowerPart) : (d.modPower f).enq = d.enq := rfl
@[simp] theorem Dev.modPower_syn (f : PowerPart → PowerPart) : (d.modPower f).syn = d.syn := rfl
@[simp] theorem Dev.modPower_eth (f : PowerPart → PowerPart) : (d.modPower f).eth = d.eth := rfl
@[simp] theorem Dev.modPower_sto (f : PowerPart → PowerPart) : (d.modPower f).sto = d.sto := rfl
@[simp] theorem Dev.modPower_scan (f : PowerPart → PowerPart) : (d.modPower f).scan = d.scan := rfl
@[simp] theorem Dev.modPower_pdc (f : PowerPart → PowerPart) : (d.modPower f).pdc = d.pdc := rfl
@[simp] theorem Dev.modPower_power (f : PowerPart → PowerPart) : (d.modPower f).power = f d.power := rfl
@[simp] theorem Dev.modPower_usb (f : PowerPart → PowerPart) : (d.modPower f).usb = d.usb := rfl
@[simp] theorem Dev.modPower_hsw (f : PowerPart → PowerPart) : (d.modPower f).hsw = d.hsw := rfl
@[simp] theorem Dev.modPower_boot (f : PowerPart → PowerPart) : (d.modPower f).boot = d.boot := rfl
@[simp] theorem Dev.modPower_key (f : PowerPart → PowerPart) : (d.modPower f).key = d.key := rfl
@[simp] theorem Dev.modPower_get (f : PowerPart → PowerPart) (h : Fld) : (d.modPower f).get h = d.get h := rfl
@[simp] theorem Dev.modPower_flag (f : PowerPart → PowerPart) (h : Fld) : (d.modPower f).flag h = d.flag h := rfl

/-! `Dev.modHsw` changes `hsw`. -/

@[simp] theorem Dev.modHsw_flds (f : HswPart → HswPart) : (d.modHsw f).flds = d.flds := rfl
@[simp] theorem Dev.modHsw_mem (f : HswPart → HswPart) : (d.modHsw f).mem = d.mem := rfl
@[simp] theorem Dev.modHsw_freeCtr (f : HswPart → HswPart) : (d.modHsw f).freeCtr = d.freeCtr := rfl
@[simp] theorem Dev.modHsw_posted (f : HswPart → HswPart) : (d.modHsw f).posted = d.posted := rfl
@[simp] theorem Dev.modHsw_evqLost (f : HswPart → HswPart) : (d.modHsw f).evqLost = d.evqLost := rfl
@[simp] theorem Dev.modHsw_cycle (f : HswPart → HswPart) : (d.modHsw f).cycle = d.cycle := rfl
@[simp] theorem Dev.modHsw_aon (f : HswPart → HswPart) : (d.modHsw f).aon = d.aon := rfl
@[simp] theorem Dev.modHsw_sil (f : HswPart → HswPart) : (d.modHsw f).sil = d.sil := rfl
@[simp] theorem Dev.modHsw_time (f : HswPart → HswPart) : (d.modHsw f).time = d.time := rfl
@[simp] theorem Dev.modHsw_seqs (f : HswPart → HswPart) : (d.modHsw f).seqs = d.seqs := rfl
@[simp] theorem Dev.modHsw_links (f : HswPart → HswPart) : (d.modHsw f).links = d.links := rfl
@[simp] theorem Dev.modHsw_sw (f : HswPart → HswPart) : (d.modHsw f).sw = d.sw := rfl
@[simp] theorem Dev.modHsw_sch (f : HswPart → HswPart) : (d.modHsw f).sch = d.sch := rfl
@[simp] theorem Dev.modHsw_ctxs (f : HswPart → HswPart) : (d.modHsw f).ctxs = d.ctxs := rfl
@[simp] theorem Dev.modHsw_waits (f : HswPart → HswPart) : (d.modHsw f).waits = d.waits := rfl
@[simp] theorem Dev.modHsw_rel (f : HswPart → HswPart) : (d.modHsw f).rel = d.rel := rfl
@[simp] theorem Dev.modHsw_acc (f : HswPart → HswPart) : (d.modHsw f).acc = d.acc := rfl
@[simp] theorem Dev.modHsw_port (f : HswPart → HswPart) : (d.modHsw f).port = d.port := rfl
@[simp] theorem Dev.modHsw_enq (f : HswPart → HswPart) : (d.modHsw f).enq = d.enq := rfl
@[simp] theorem Dev.modHsw_syn (f : HswPart → HswPart) : (d.modHsw f).syn = d.syn := rfl
@[simp] theorem Dev.modHsw_eth (f : HswPart → HswPart) : (d.modHsw f).eth = d.eth := rfl
@[simp] theorem Dev.modHsw_sto (f : HswPart → HswPart) : (d.modHsw f).sto = d.sto := rfl
@[simp] theorem Dev.modHsw_scan (f : HswPart → HswPart) : (d.modHsw f).scan = d.scan := rfl
@[simp] theorem Dev.modHsw_pdc (f : HswPart → HswPart) : (d.modHsw f).pdc = d.pdc := rfl
@[simp] theorem Dev.modHsw_power (f : HswPart → HswPart) : (d.modHsw f).power = d.power := rfl
@[simp] theorem Dev.modHsw_usb (f : HswPart → HswPart) : (d.modHsw f).usb = d.usb := rfl
@[simp] theorem Dev.modHsw_hsw (f : HswPart → HswPart) : (d.modHsw f).hsw = f d.hsw := rfl
@[simp] theorem Dev.modHsw_boot (f : HswPart → HswPart) : (d.modHsw f).boot = d.boot := rfl
@[simp] theorem Dev.modHsw_key (f : HswPart → HswPart) : (d.modHsw f).key = d.key := rfl
@[simp] theorem Dev.modHsw_get (f : HswPart → HswPart) (h : Fld) : (d.modHsw f).get h = d.get h := rfl
@[simp] theorem Dev.modHsw_flag (f : HswPart → HswPart) (h : Fld) : (d.modHsw f).flag h = d.flag h := rfl

/-! `Dev.modBoot` changes `boot`. -/

@[simp] theorem Dev.modBoot_flds (f : BootPart → BootPart) : (d.modBoot f).flds = d.flds := rfl
@[simp] theorem Dev.modBoot_mem (f : BootPart → BootPart) : (d.modBoot f).mem = d.mem := rfl
@[simp] theorem Dev.modBoot_freeCtr (f : BootPart → BootPart) : (d.modBoot f).freeCtr = d.freeCtr := rfl
@[simp] theorem Dev.modBoot_posted (f : BootPart → BootPart) : (d.modBoot f).posted = d.posted := rfl
@[simp] theorem Dev.modBoot_evqLost (f : BootPart → BootPart) : (d.modBoot f).evqLost = d.evqLost := rfl
@[simp] theorem Dev.modBoot_cycle (f : BootPart → BootPart) : (d.modBoot f).cycle = d.cycle := rfl
@[simp] theorem Dev.modBoot_aon (f : BootPart → BootPart) : (d.modBoot f).aon = d.aon := rfl
@[simp] theorem Dev.modBoot_sil (f : BootPart → BootPart) : (d.modBoot f).sil = d.sil := rfl
@[simp] theorem Dev.modBoot_time (f : BootPart → BootPart) : (d.modBoot f).time = d.time := rfl
@[simp] theorem Dev.modBoot_seqs (f : BootPart → BootPart) : (d.modBoot f).seqs = d.seqs := rfl
@[simp] theorem Dev.modBoot_links (f : BootPart → BootPart) : (d.modBoot f).links = d.links := rfl
@[simp] theorem Dev.modBoot_sw (f : BootPart → BootPart) : (d.modBoot f).sw = d.sw := rfl
@[simp] theorem Dev.modBoot_sch (f : BootPart → BootPart) : (d.modBoot f).sch = d.sch := rfl
@[simp] theorem Dev.modBoot_ctxs (f : BootPart → BootPart) : (d.modBoot f).ctxs = d.ctxs := rfl
@[simp] theorem Dev.modBoot_waits (f : BootPart → BootPart) : (d.modBoot f).waits = d.waits := rfl
@[simp] theorem Dev.modBoot_rel (f : BootPart → BootPart) : (d.modBoot f).rel = d.rel := rfl
@[simp] theorem Dev.modBoot_acc (f : BootPart → BootPart) : (d.modBoot f).acc = d.acc := rfl
@[simp] theorem Dev.modBoot_port (f : BootPart → BootPart) : (d.modBoot f).port = d.port := rfl
@[simp] theorem Dev.modBoot_enq (f : BootPart → BootPart) : (d.modBoot f).enq = d.enq := rfl
@[simp] theorem Dev.modBoot_syn (f : BootPart → BootPart) : (d.modBoot f).syn = d.syn := rfl
@[simp] theorem Dev.modBoot_eth (f : BootPart → BootPart) : (d.modBoot f).eth = d.eth := rfl
@[simp] theorem Dev.modBoot_sto (f : BootPart → BootPart) : (d.modBoot f).sto = d.sto := rfl
@[simp] theorem Dev.modBoot_scan (f : BootPart → BootPart) : (d.modBoot f).scan = d.scan := rfl
@[simp] theorem Dev.modBoot_pdc (f : BootPart → BootPart) : (d.modBoot f).pdc = d.pdc := rfl
@[simp] theorem Dev.modBoot_power (f : BootPart → BootPart) : (d.modBoot f).power = d.power := rfl
@[simp] theorem Dev.modBoot_usb (f : BootPart → BootPart) : (d.modBoot f).usb = d.usb := rfl
@[simp] theorem Dev.modBoot_hsw (f : BootPart → BootPart) : (d.modBoot f).hsw = d.hsw := rfl
@[simp] theorem Dev.modBoot_boot (f : BootPart → BootPart) : (d.modBoot f).boot = f d.boot := rfl
@[simp] theorem Dev.modBoot_key (f : BootPart → BootPart) : (d.modBoot f).key = d.key := rfl
@[simp] theorem Dev.modBoot_get (f : BootPart → BootPart) (h : Fld) : (d.modBoot f).get h = d.get h := rfl
@[simp] theorem Dev.modBoot_flag (f : BootPart → BootPart) (h : Fld) : (d.modBoot f).flag h = d.flag h := rfl

/-! `Dev.modKey` changes `key`. -/

@[simp] theorem Dev.modKey_flds (f : KeyPart → KeyPart) : (d.modKey f).flds = d.flds := rfl
@[simp] theorem Dev.modKey_mem (f : KeyPart → KeyPart) : (d.modKey f).mem = d.mem := rfl
@[simp] theorem Dev.modKey_freeCtr (f : KeyPart → KeyPart) : (d.modKey f).freeCtr = d.freeCtr := rfl
@[simp] theorem Dev.modKey_posted (f : KeyPart → KeyPart) : (d.modKey f).posted = d.posted := rfl
@[simp] theorem Dev.modKey_evqLost (f : KeyPart → KeyPart) : (d.modKey f).evqLost = d.evqLost := rfl
@[simp] theorem Dev.modKey_cycle (f : KeyPart → KeyPart) : (d.modKey f).cycle = d.cycle := rfl
@[simp] theorem Dev.modKey_aon (f : KeyPart → KeyPart) : (d.modKey f).aon = d.aon := rfl
@[simp] theorem Dev.modKey_sil (f : KeyPart → KeyPart) : (d.modKey f).sil = d.sil := rfl
@[simp] theorem Dev.modKey_time (f : KeyPart → KeyPart) : (d.modKey f).time = d.time := rfl
@[simp] theorem Dev.modKey_seqs (f : KeyPart → KeyPart) : (d.modKey f).seqs = d.seqs := rfl
@[simp] theorem Dev.modKey_links (f : KeyPart → KeyPart) : (d.modKey f).links = d.links := rfl
@[simp] theorem Dev.modKey_sw (f : KeyPart → KeyPart) : (d.modKey f).sw = d.sw := rfl
@[simp] theorem Dev.modKey_sch (f : KeyPart → KeyPart) : (d.modKey f).sch = d.sch := rfl
@[simp] theorem Dev.modKey_ctxs (f : KeyPart → KeyPart) : (d.modKey f).ctxs = d.ctxs := rfl
@[simp] theorem Dev.modKey_waits (f : KeyPart → KeyPart) : (d.modKey f).waits = d.waits := rfl
@[simp] theorem Dev.modKey_rel (f : KeyPart → KeyPart) : (d.modKey f).rel = d.rel := rfl
@[simp] theorem Dev.modKey_acc (f : KeyPart → KeyPart) : (d.modKey f).acc = d.acc := rfl
@[simp] theorem Dev.modKey_port (f : KeyPart → KeyPart) : (d.modKey f).port = d.port := rfl
@[simp] theorem Dev.modKey_enq (f : KeyPart → KeyPart) : (d.modKey f).enq = d.enq := rfl
@[simp] theorem Dev.modKey_syn (f : KeyPart → KeyPart) : (d.modKey f).syn = d.syn := rfl
@[simp] theorem Dev.modKey_eth (f : KeyPart → KeyPart) : (d.modKey f).eth = d.eth := rfl
@[simp] theorem Dev.modKey_sto (f : KeyPart → KeyPart) : (d.modKey f).sto = d.sto := rfl
@[simp] theorem Dev.modKey_scan (f : KeyPart → KeyPart) : (d.modKey f).scan = d.scan := rfl
@[simp] theorem Dev.modKey_pdc (f : KeyPart → KeyPart) : (d.modKey f).pdc = d.pdc := rfl
@[simp] theorem Dev.modKey_power (f : KeyPart → KeyPart) : (d.modKey f).power = d.power := rfl
@[simp] theorem Dev.modKey_usb (f : KeyPart → KeyPart) : (d.modKey f).usb = d.usb := rfl
@[simp] theorem Dev.modKey_hsw (f : KeyPart → KeyPart) : (d.modKey f).hsw = d.hsw := rfl
@[simp] theorem Dev.modKey_boot (f : KeyPart → KeyPart) : (d.modKey f).boot = d.boot := rfl
@[simp] theorem Dev.modKey_key (f : KeyPart → KeyPart) : (d.modKey f).key = f d.key := rfl
@[simp] theorem Dev.modKey_get (f : KeyPart → KeyPart) (h : Fld) : (d.modKey f).get h = d.get h := rfl
@[simp] theorem Dev.modKey_flag (f : KeyPart → KeyPart) (h : Fld) : (d.modKey f).flag h = d.flag h := rfl

/-! `Dev.meet` changes `hsw`. -/

@[simp] theorem Dev.meet_flds (f : HswMeet → HswMeet) : (d.meet f).flds = d.flds := rfl
@[simp] theorem Dev.meet_mem (f : HswMeet → HswMeet) : (d.meet f).mem = d.mem := rfl
@[simp] theorem Dev.meet_freeCtr (f : HswMeet → HswMeet) : (d.meet f).freeCtr = d.freeCtr := rfl
@[simp] theorem Dev.meet_posted (f : HswMeet → HswMeet) : (d.meet f).posted = d.posted := rfl
@[simp] theorem Dev.meet_evqLost (f : HswMeet → HswMeet) : (d.meet f).evqLost = d.evqLost := rfl
@[simp] theorem Dev.meet_cycle (f : HswMeet → HswMeet) : (d.meet f).cycle = d.cycle := rfl
@[simp] theorem Dev.meet_aon (f : HswMeet → HswMeet) : (d.meet f).aon = d.aon := rfl
@[simp] theorem Dev.meet_sil (f : HswMeet → HswMeet) : (d.meet f).sil = d.sil := rfl
@[simp] theorem Dev.meet_time (f : HswMeet → HswMeet) : (d.meet f).time = d.time := rfl
@[simp] theorem Dev.meet_seqs (f : HswMeet → HswMeet) : (d.meet f).seqs = d.seqs := rfl
@[simp] theorem Dev.meet_links (f : HswMeet → HswMeet) : (d.meet f).links = d.links := rfl
@[simp] theorem Dev.meet_sw (f : HswMeet → HswMeet) : (d.meet f).sw = d.sw := rfl
@[simp] theorem Dev.meet_sch (f : HswMeet → HswMeet) : (d.meet f).sch = d.sch := rfl
@[simp] theorem Dev.meet_ctxs (f : HswMeet → HswMeet) : (d.meet f).ctxs = d.ctxs := rfl
@[simp] theorem Dev.meet_waits (f : HswMeet → HswMeet) : (d.meet f).waits = d.waits := rfl
@[simp] theorem Dev.meet_rel (f : HswMeet → HswMeet) : (d.meet f).rel = d.rel := rfl
@[simp] theorem Dev.meet_acc (f : HswMeet → HswMeet) : (d.meet f).acc = d.acc := rfl
@[simp] theorem Dev.meet_port (f : HswMeet → HswMeet) : (d.meet f).port = d.port := rfl
@[simp] theorem Dev.meet_enq (f : HswMeet → HswMeet) : (d.meet f).enq = d.enq := rfl
@[simp] theorem Dev.meet_syn (f : HswMeet → HswMeet) : (d.meet f).syn = d.syn := rfl
@[simp] theorem Dev.meet_eth (f : HswMeet → HswMeet) : (d.meet f).eth = d.eth := rfl
@[simp] theorem Dev.meet_sto (f : HswMeet → HswMeet) : (d.meet f).sto = d.sto := rfl
@[simp] theorem Dev.meet_scan (f : HswMeet → HswMeet) : (d.meet f).scan = d.scan := rfl
@[simp] theorem Dev.meet_pdc (f : HswMeet → HswMeet) : (d.meet f).pdc = d.pdc := rfl
@[simp] theorem Dev.meet_power (f : HswMeet → HswMeet) : (d.meet f).power = d.power := rfl
@[simp] theorem Dev.meet_usb (f : HswMeet → HswMeet) : (d.meet f).usb = d.usb := rfl
@[simp] theorem Dev.meet_boot (f : HswMeet → HswMeet) : (d.meet f).boot = d.boot := rfl
@[simp] theorem Dev.meet_key (f : HswMeet → HswMeet) : (d.meet f).key = d.key := rfl
@[simp] theorem Dev.meet_get (f : HswMeet → HswMeet) (h : Fld) : (d.meet f).get h = d.get h := rfl
@[simp] theorem Dev.meet_flag (f : HswMeet → HswMeet) (h : Fld) : (d.meet f).flag h = d.flag h := rfl

/-! `Dev.modFn` changes `usb`. -/

@[simp] theorem Dev.modFn_flds (f : FnPart → FnPart) : (d.modFn f).flds = d.flds := rfl
@[simp] theorem Dev.modFn_mem (f : FnPart → FnPart) : (d.modFn f).mem = d.mem := rfl
@[simp] theorem Dev.modFn_freeCtr (f : FnPart → FnPart) : (d.modFn f).freeCtr = d.freeCtr := rfl
@[simp] theorem Dev.modFn_posted (f : FnPart → FnPart) : (d.modFn f).posted = d.posted := rfl
@[simp] theorem Dev.modFn_evqLost (f : FnPart → FnPart) : (d.modFn f).evqLost = d.evqLost := rfl
@[simp] theorem Dev.modFn_cycle (f : FnPart → FnPart) : (d.modFn f).cycle = d.cycle := rfl
@[simp] theorem Dev.modFn_aon (f : FnPart → FnPart) : (d.modFn f).aon = d.aon := rfl
@[simp] theorem Dev.modFn_sil (f : FnPart → FnPart) : (d.modFn f).sil = d.sil := rfl
@[simp] theorem Dev.modFn_time (f : FnPart → FnPart) : (d.modFn f).time = d.time := rfl
@[simp] theorem Dev.modFn_seqs (f : FnPart → FnPart) : (d.modFn f).seqs = d.seqs := rfl
@[simp] theorem Dev.modFn_links (f : FnPart → FnPart) : (d.modFn f).links = d.links := rfl
@[simp] theorem Dev.modFn_sw (f : FnPart → FnPart) : (d.modFn f).sw = d.sw := rfl
@[simp] theorem Dev.modFn_sch (f : FnPart → FnPart) : (d.modFn f).sch = d.sch := rfl
@[simp] theorem Dev.modFn_ctxs (f : FnPart → FnPart) : (d.modFn f).ctxs = d.ctxs := rfl
@[simp] theorem Dev.modFn_waits (f : FnPart → FnPart) : (d.modFn f).waits = d.waits := rfl
@[simp] theorem Dev.modFn_rel (f : FnPart → FnPart) : (d.modFn f).rel = d.rel := rfl
@[simp] theorem Dev.modFn_acc (f : FnPart → FnPart) : (d.modFn f).acc = d.acc := rfl
@[simp] theorem Dev.modFn_port (f : FnPart → FnPart) : (d.modFn f).port = d.port := rfl
@[simp] theorem Dev.modFn_enq (f : FnPart → FnPart) : (d.modFn f).enq = d.enq := rfl
@[simp] theorem Dev.modFn_syn (f : FnPart → FnPart) : (d.modFn f).syn = d.syn := rfl
@[simp] theorem Dev.modFn_eth (f : FnPart → FnPart) : (d.modFn f).eth = d.eth := rfl
@[simp] theorem Dev.modFn_sto (f : FnPart → FnPart) : (d.modFn f).sto = d.sto := rfl
@[simp] theorem Dev.modFn_scan (f : FnPart → FnPart) : (d.modFn f).scan = d.scan := rfl
@[simp] theorem Dev.modFn_pdc (f : FnPart → FnPart) : (d.modFn f).pdc = d.pdc := rfl
@[simp] theorem Dev.modFn_power (f : FnPart → FnPart) : (d.modFn f).power = d.power := rfl
@[simp] theorem Dev.modFn_hsw (f : FnPart → FnPart) : (d.modFn f).hsw = d.hsw := rfl
@[simp] theorem Dev.modFn_boot (f : FnPart → FnPart) : (d.modFn f).boot = d.boot := rfl
@[simp] theorem Dev.modFn_key (f : FnPart → FnPart) : (d.modFn f).key = d.key := rfl
@[simp] theorem Dev.modFn_get (f : FnPart → FnPart) (h : Fld) : (d.modFn f).get h = d.get h := rfl
@[simp] theorem Dev.modFn_flag (f : FnPart → FnPart) (h : Fld) : (d.modFn f).flag h = d.flag h := rfl

/-! `Dev.setGw` changes `usb`. -/

@[simp] theorem Dev.setGw_flds (g : Nat) (x : Gateway) : (d.setGw g x).flds = d.flds := rfl
@[simp] theorem Dev.setGw_mem (g : Nat) (x : Gateway) : (d.setGw g x).mem = d.mem := rfl
@[simp] theorem Dev.setGw_freeCtr (g : Nat) (x : Gateway) : (d.setGw g x).freeCtr = d.freeCtr := rfl
@[simp] theorem Dev.setGw_posted (g : Nat) (x : Gateway) : (d.setGw g x).posted = d.posted := rfl
@[simp] theorem Dev.setGw_evqLost (g : Nat) (x : Gateway) : (d.setGw g x).evqLost = d.evqLost := rfl
@[simp] theorem Dev.setGw_cycle (g : Nat) (x : Gateway) : (d.setGw g x).cycle = d.cycle := rfl
@[simp] theorem Dev.setGw_aon (g : Nat) (x : Gateway) : (d.setGw g x).aon = d.aon := rfl
@[simp] theorem Dev.setGw_sil (g : Nat) (x : Gateway) : (d.setGw g x).sil = d.sil := rfl
@[simp] theorem Dev.setGw_time (g : Nat) (x : Gateway) : (d.setGw g x).time = d.time := rfl
@[simp] theorem Dev.setGw_seqs (g : Nat) (x : Gateway) : (d.setGw g x).seqs = d.seqs := rfl
@[simp] theorem Dev.setGw_links (g : Nat) (x : Gateway) : (d.setGw g x).links = d.links := rfl
@[simp] theorem Dev.setGw_sw (g : Nat) (x : Gateway) : (d.setGw g x).sw = d.sw := rfl
@[simp] theorem Dev.setGw_sch (g : Nat) (x : Gateway) : (d.setGw g x).sch = d.sch := rfl
@[simp] theorem Dev.setGw_ctxs (g : Nat) (x : Gateway) : (d.setGw g x).ctxs = d.ctxs := rfl
@[simp] theorem Dev.setGw_waits (g : Nat) (x : Gateway) : (d.setGw g x).waits = d.waits := rfl
@[simp] theorem Dev.setGw_rel (g : Nat) (x : Gateway) : (d.setGw g x).rel = d.rel := rfl
@[simp] theorem Dev.setGw_acc (g : Nat) (x : Gateway) : (d.setGw g x).acc = d.acc := rfl
@[simp] theorem Dev.setGw_port (g : Nat) (x : Gateway) : (d.setGw g x).port = d.port := rfl
@[simp] theorem Dev.setGw_enq (g : Nat) (x : Gateway) : (d.setGw g x).enq = d.enq := rfl
@[simp] theorem Dev.setGw_syn (g : Nat) (x : Gateway) : (d.setGw g x).syn = d.syn := rfl
@[simp] theorem Dev.setGw_eth (g : Nat) (x : Gateway) : (d.setGw g x).eth = d.eth := rfl
@[simp] theorem Dev.setGw_sto (g : Nat) (x : Gateway) : (d.setGw g x).sto = d.sto := rfl
@[simp] theorem Dev.setGw_scan (g : Nat) (x : Gateway) : (d.setGw g x).scan = d.scan := rfl
@[simp] theorem Dev.setGw_pdc (g : Nat) (x : Gateway) : (d.setGw g x).pdc = d.pdc := rfl
@[simp] theorem Dev.setGw_power (g : Nat) (x : Gateway) : (d.setGw g x).power = d.power := rfl
@[simp] theorem Dev.setGw_hsw (g : Nat) (x : Gateway) : (d.setGw g x).hsw = d.hsw := rfl
@[simp] theorem Dev.setGw_boot (g : Nat) (x : Gateway) : (d.setGw g x).boot = d.boot := rfl
@[simp] theorem Dev.setGw_key (g : Nat) (x : Gateway) : (d.setGw g x).key = d.key := rfl
@[simp] theorem Dev.setGw_get (g : Nat) (x : Gateway) (h : Fld) : (d.setGw g x).get h = d.get h := rfl
@[simp] theorem Dev.setGw_flag (g : Nat) (x : Gateway) (h : Fld) : (d.setGw g x).flag h = d.flag h := rfl

/-! `Dev.setIngest` changes `scan`. -/

@[simp] theorem Dev.setIngest_flds (n : Nat) (g : Ingest) : (d.setIngest n g).flds = d.flds := rfl
@[simp] theorem Dev.setIngest_mem (n : Nat) (g : Ingest) : (d.setIngest n g).mem = d.mem := rfl
@[simp] theorem Dev.setIngest_freeCtr (n : Nat) (g : Ingest) : (d.setIngest n g).freeCtr = d.freeCtr := rfl
@[simp] theorem Dev.setIngest_posted (n : Nat) (g : Ingest) : (d.setIngest n g).posted = d.posted := rfl
@[simp] theorem Dev.setIngest_evqLost (n : Nat) (g : Ingest) : (d.setIngest n g).evqLost = d.evqLost := rfl
@[simp] theorem Dev.setIngest_cycle (n : Nat) (g : Ingest) : (d.setIngest n g).cycle = d.cycle := rfl
@[simp] theorem Dev.setIngest_aon (n : Nat) (g : Ingest) : (d.setIngest n g).aon = d.aon := rfl
@[simp] theorem Dev.setIngest_sil (n : Nat) (g : Ingest) : (d.setIngest n g).sil = d.sil := rfl
@[simp] theorem Dev.setIngest_time (n : Nat) (g : Ingest) : (d.setIngest n g).time = d.time := rfl
@[simp] theorem Dev.setIngest_seqs (n : Nat) (g : Ingest) : (d.setIngest n g).seqs = d.seqs := rfl
@[simp] theorem Dev.setIngest_links (n : Nat) (g : Ingest) : (d.setIngest n g).links = d.links := rfl
@[simp] theorem Dev.setIngest_sw (n : Nat) (g : Ingest) : (d.setIngest n g).sw = d.sw := rfl
@[simp] theorem Dev.setIngest_sch (n : Nat) (g : Ingest) : (d.setIngest n g).sch = d.sch := rfl
@[simp] theorem Dev.setIngest_ctxs (n : Nat) (g : Ingest) : (d.setIngest n g).ctxs = d.ctxs := rfl
@[simp] theorem Dev.setIngest_waits (n : Nat) (g : Ingest) : (d.setIngest n g).waits = d.waits := rfl
@[simp] theorem Dev.setIngest_rel (n : Nat) (g : Ingest) : (d.setIngest n g).rel = d.rel := rfl
@[simp] theorem Dev.setIngest_acc (n : Nat) (g : Ingest) : (d.setIngest n g).acc = d.acc := rfl
@[simp] theorem Dev.setIngest_port (n : Nat) (g : Ingest) : (d.setIngest n g).port = d.port := rfl
@[simp] theorem Dev.setIngest_enq (n : Nat) (g : Ingest) : (d.setIngest n g).enq = d.enq := rfl
@[simp] theorem Dev.setIngest_syn (n : Nat) (g : Ingest) : (d.setIngest n g).syn = d.syn := rfl
@[simp] theorem Dev.setIngest_eth (n : Nat) (g : Ingest) : (d.setIngest n g).eth = d.eth := rfl
@[simp] theorem Dev.setIngest_sto (n : Nat) (g : Ingest) : (d.setIngest n g).sto = d.sto := rfl
@[simp] theorem Dev.setIngest_pdc (n : Nat) (g : Ingest) : (d.setIngest n g).pdc = d.pdc := rfl
@[simp] theorem Dev.setIngest_power (n : Nat) (g : Ingest) : (d.setIngest n g).power = d.power := rfl
@[simp] theorem Dev.setIngest_usb (n : Nat) (g : Ingest) : (d.setIngest n g).usb = d.usb := rfl
@[simp] theorem Dev.setIngest_hsw (n : Nat) (g : Ingest) : (d.setIngest n g).hsw = d.hsw := rfl
@[simp] theorem Dev.setIngest_boot (n : Nat) (g : Ingest) : (d.setIngest n g).boot = d.boot := rfl
@[simp] theorem Dev.setIngest_key (n : Nat) (g : Ingest) : (d.setIngest n g).key = d.key := rfl
@[simp] theorem Dev.setIngest_get (n : Nat) (g : Ingest) (h : Fld) : (d.setIngest n g).get h = d.get h := rfl
@[simp] theorem Dev.setIngest_flag (n : Nat) (g : Ingest) (h : Fld) : (d.setIngest n g).flag h = d.flag h := rfl

/-! `Dev.modReq` changes `links`. -/

@[simp] theorem Dev.modReq_flds (p : Nat) (f : MReq → MReq) : (d.modReq p f).flds = d.flds := rfl
@[simp] theorem Dev.modReq_mem (p : Nat) (f : MReq → MReq) : (d.modReq p f).mem = d.mem := rfl
@[simp] theorem Dev.modReq_freeCtr (p : Nat) (f : MReq → MReq) : (d.modReq p f).freeCtr = d.freeCtr := rfl
@[simp] theorem Dev.modReq_posted (p : Nat) (f : MReq → MReq) : (d.modReq p f).posted = d.posted := rfl
@[simp] theorem Dev.modReq_evqLost (p : Nat) (f : MReq → MReq) : (d.modReq p f).evqLost = d.evqLost := rfl
@[simp] theorem Dev.modReq_cycle (p : Nat) (f : MReq → MReq) : (d.modReq p f).cycle = d.cycle := rfl
@[simp] theorem Dev.modReq_aon (p : Nat) (f : MReq → MReq) : (d.modReq p f).aon = d.aon := rfl
@[simp] theorem Dev.modReq_sil (p : Nat) (f : MReq → MReq) : (d.modReq p f).sil = d.sil := rfl
@[simp] theorem Dev.modReq_time (p : Nat) (f : MReq → MReq) : (d.modReq p f).time = d.time := rfl
@[simp] theorem Dev.modReq_seqs (p : Nat) (f : MReq → MReq) : (d.modReq p f).seqs = d.seqs := rfl
@[simp] theorem Dev.modReq_sw (p : Nat) (f : MReq → MReq) : (d.modReq p f).sw = d.sw := rfl
@[simp] theorem Dev.modReq_sch (p : Nat) (f : MReq → MReq) : (d.modReq p f).sch = d.sch := rfl
@[simp] theorem Dev.modReq_ctxs (p : Nat) (f : MReq → MReq) : (d.modReq p f).ctxs = d.ctxs := rfl
@[simp] theorem Dev.modReq_waits (p : Nat) (f : MReq → MReq) : (d.modReq p f).waits = d.waits := rfl
@[simp] theorem Dev.modReq_rel (p : Nat) (f : MReq → MReq) : (d.modReq p f).rel = d.rel := rfl
@[simp] theorem Dev.modReq_acc (p : Nat) (f : MReq → MReq) : (d.modReq p f).acc = d.acc := rfl
@[simp] theorem Dev.modReq_port (p : Nat) (f : MReq → MReq) : (d.modReq p f).port = d.port := rfl
@[simp] theorem Dev.modReq_enq (p : Nat) (f : MReq → MReq) : (d.modReq p f).enq = d.enq := rfl
@[simp] theorem Dev.modReq_syn (p : Nat) (f : MReq → MReq) : (d.modReq p f).syn = d.syn := rfl
@[simp] theorem Dev.modReq_eth (p : Nat) (f : MReq → MReq) : (d.modReq p f).eth = d.eth := rfl
@[simp] theorem Dev.modReq_sto (p : Nat) (f : MReq → MReq) : (d.modReq p f).sto = d.sto := rfl
@[simp] theorem Dev.modReq_scan (p : Nat) (f : MReq → MReq) : (d.modReq p f).scan = d.scan := rfl
@[simp] theorem Dev.modReq_pdc (p : Nat) (f : MReq → MReq) : (d.modReq p f).pdc = d.pdc := rfl
@[simp] theorem Dev.modReq_power (p : Nat) (f : MReq → MReq) : (d.modReq p f).power = d.power := rfl
@[simp] theorem Dev.modReq_usb (p : Nat) (f : MReq → MReq) : (d.modReq p f).usb = d.usb := rfl
@[simp] theorem Dev.modReq_hsw (p : Nat) (f : MReq → MReq) : (d.modReq p f).hsw = d.hsw := rfl
@[simp] theorem Dev.modReq_boot (p : Nat) (f : MReq → MReq) : (d.modReq p f).boot = d.boot := rfl
@[simp] theorem Dev.modReq_key (p : Nat) (f : MReq → MReq) : (d.modReq p f).key = d.key := rfl
@[simp] theorem Dev.modReq_get (p : Nat) (f : MReq → MReq) (h : Fld) : (d.modReq p f).get h = d.get h := rfl
@[simp] theorem Dev.modReq_flag (p : Nat) (f : MReq → MReq) (h : Fld) : (d.modReq p f).flag h = d.flag h := rfl

/-! `Dev.setBank` changes `rel`. -/

@[simp] theorem Dev.setBank_flds (m b : Nat) (x : BankSt) : (d.setBank m b x).flds = d.flds := rfl
@[simp] theorem Dev.setBank_mem (m b : Nat) (x : BankSt) : (d.setBank m b x).mem = d.mem := rfl
@[simp] theorem Dev.setBank_freeCtr (m b : Nat) (x : BankSt) : (d.setBank m b x).freeCtr = d.freeCtr := rfl
@[simp] theorem Dev.setBank_posted (m b : Nat) (x : BankSt) : (d.setBank m b x).posted = d.posted := rfl
@[simp] theorem Dev.setBank_evqLost (m b : Nat) (x : BankSt) : (d.setBank m b x).evqLost = d.evqLost := rfl
@[simp] theorem Dev.setBank_cycle (m b : Nat) (x : BankSt) : (d.setBank m b x).cycle = d.cycle := rfl
@[simp] theorem Dev.setBank_aon (m b : Nat) (x : BankSt) : (d.setBank m b x).aon = d.aon := rfl
@[simp] theorem Dev.setBank_sil (m b : Nat) (x : BankSt) : (d.setBank m b x).sil = d.sil := rfl
@[simp] theorem Dev.setBank_time (m b : Nat) (x : BankSt) : (d.setBank m b x).time = d.time := rfl
@[simp] theorem Dev.setBank_seqs (m b : Nat) (x : BankSt) : (d.setBank m b x).seqs = d.seqs := rfl
@[simp] theorem Dev.setBank_links (m b : Nat) (x : BankSt) : (d.setBank m b x).links = d.links := rfl
@[simp] theorem Dev.setBank_sw (m b : Nat) (x : BankSt) : (d.setBank m b x).sw = d.sw := rfl
@[simp] theorem Dev.setBank_sch (m b : Nat) (x : BankSt) : (d.setBank m b x).sch = d.sch := rfl
@[simp] theorem Dev.setBank_ctxs (m b : Nat) (x : BankSt) : (d.setBank m b x).ctxs = d.ctxs := rfl
@[simp] theorem Dev.setBank_waits (m b : Nat) (x : BankSt) : (d.setBank m b x).waits = d.waits := rfl
@[simp] theorem Dev.setBank_acc (m b : Nat) (x : BankSt) : (d.setBank m b x).acc = d.acc := rfl
@[simp] theorem Dev.setBank_port (m b : Nat) (x : BankSt) : (d.setBank m b x).port = d.port := rfl
@[simp] theorem Dev.setBank_enq (m b : Nat) (x : BankSt) : (d.setBank m b x).enq = d.enq := rfl
@[simp] theorem Dev.setBank_syn (m b : Nat) (x : BankSt) : (d.setBank m b x).syn = d.syn := rfl
@[simp] theorem Dev.setBank_eth (m b : Nat) (x : BankSt) : (d.setBank m b x).eth = d.eth := rfl
@[simp] theorem Dev.setBank_sto (m b : Nat) (x : BankSt) : (d.setBank m b x).sto = d.sto := rfl
@[simp] theorem Dev.setBank_scan (m b : Nat) (x : BankSt) : (d.setBank m b x).scan = d.scan := rfl
@[simp] theorem Dev.setBank_pdc (m b : Nat) (x : BankSt) : (d.setBank m b x).pdc = d.pdc := rfl
@[simp] theorem Dev.setBank_power (m b : Nat) (x : BankSt) : (d.setBank m b x).power = d.power := rfl
@[simp] theorem Dev.setBank_usb (m b : Nat) (x : BankSt) : (d.setBank m b x).usb = d.usb := rfl
@[simp] theorem Dev.setBank_hsw (m b : Nat) (x : BankSt) : (d.setBank m b x).hsw = d.hsw := rfl
@[simp] theorem Dev.setBank_boot (m b : Nat) (x : BankSt) : (d.setBank m b x).boot = d.boot := rfl
@[simp] theorem Dev.setBank_key (m b : Nat) (x : BankSt) : (d.setBank m b x).key = d.key := rfl
@[simp] theorem Dev.setBank_get (m b : Nat) (x : BankSt) (h : Fld) : (d.setBank m b x).get h = d.get h := rfl
@[simp] theorem Dev.setBank_flag (m b : Nat) (x : BankSt) (h : Fld) : (d.setBank m b x).flag h = d.flag h := rfl

/-- A meaning leaves the queue as it is, and its device is what it makes of the device. -/
theorem State.run_eq (s : State) (f : Dev → Dev) : s.run f = .next ⟨f s.dev, s.pending⟩ := rfl

end Sys2Proof.Machine
end

