-- ==== Sys2Proof/Laws/Ops.lean ====
section
/-! SUPPORT. What the named operations do: a field read after a write, counters, memory read after a write, and what posting a record,
raising a flag or tracing leaves as it was. -/

namespace Sys2Proof.Machine

/-! ### Register fields -/

theorem Dev.get_lt (d : Dev) (f : Fld) : d.get f < 2 ^ f.w := Nat.mod_lt _ (Nat.two_pow_pos _)

@[simp] theorem Dev.get_set_same (d : Dev) (f : Fld) (v : Nat) : (d.set f v).get f = v % 2 ^ f.w := by
  simp [Dev.get, Dev.set]

theorem Dev.get_set_ne (d : Dev) {f g : Fld} (v : Nat) (h : g.key ≠ f.key) : (d.set f v).get g = d.get g := by
  simp [Dev.get, Dev.set, h]

@[simp] theorem Dev.get_setB_same (d : Dev) (f : Fld) (b : Bool) : (d.setB f b).get f = b2n b % 2 ^ f.w := by
  simp [Dev.setB]

theorem Dev.get_setB_ne (d : Dev) {f g : Fld} (b : Bool) (h : g.key ≠ f.key) : (d.setB f b).get g = d.get g :=
  d.get_set_ne _ h

@[simp] theorem Dev.get_inc_same (d : Dev) (f : Fld) : (d.inc f).get f = (d.get f + 1) % 2 ^ f.w := by
  simp [Dev.inc, Dev.incBy]

theorem Dev.get_inc_ne (d : Dev) {f g : Fld} (h : g.key ≠ f.key) : (d.inc f).get g = d.get g := d.get_set_ne _ h

theorem Dev.get_incBy_same (d : Dev) (f : Fld) (n : Nat) : (d.incBy f n).get f = (d.get f + n) % 2 ^ f.w := by
  simp [Dev.incBy]

theorem Dev.get_incBy_ne (d : Dev) {f g : Fld} (n : Nat) (h : g.key ≠ f.key) : (d.incBy f n).get g = d.get g :=
  d.get_set_ne _ h

theorem b2n_lt (b : Bool) : b2n b < 2 := by cases b <;> decide

/-! ### Memory -/

@[simp] theorem Dev.byte_putByte_same (d : Dev) (a : Nat) (b : Byte) : (d.putByte a b).byte a = b := by
  simp [Dev.byte, Dev.putByte]

theorem Dev.byte_putByte_ne (d : Dev) {a c : Nat} (b : Byte) (h : c ≠ a) : (d.putByte a b).byte c = d.byte c := by
  simp [Dev.byte, Dev.putByte, h]

theorem Dev.byte_putBytes_out (l : List Byte) : ∀ (d : Dev) (a c : Nat), (c < a ∨ a + l.length ≤ c) →
    (d.putBytes a l).byte c = d.byte c := by
  induction l with
  | nil => intros; rfl
  | cons b t ih =>
    intro d a c h
    have h' : c < a + 1 ∨ a + 1 + t.length ≤ c := by simp at h; omega
    have hc : c ≠ a := by simp at h; omega
    rw [Dev.putBytes, ih _ _ _ h', Dev.byte_putByte_ne d b hc]

theorem natLE_length : ∀ n v, (natLE n v).length = n
  | 0, _ => rfl
  | n + 1, v => by simp [natLE, natLE_length n]

/-- A store leaves every byte outside it. -/
theorem Dev.byte_store_out (d : Dev) (a n v c : Nat) (h : c < a ∨ a + n ≤ c) : (d.store a n v).byte c = d.byte c :=
  Dev.byte_putBytes_out _ d a c (by rw [natLE_length]; exact h)

/-- Every write keeps the canonical form of memory. -/
theorem Dev.memWf_putByte (d : Dev) (a : Nat) (b : Byte) (h : Memory.wf d.mem = true) : Memory.wf (d.putByte a b).mem = true :=
  Tab.wf_set _ _ _ _ h

theorem Dev.memWf_putBytes (l : List Byte) : ∀ (d : Dev) (a : Nat), Memory.wf d.mem = true → Memory.wf (d.putBytes a l).mem = true := by
  induction l with
  | nil => intro d a h; exact h
  | cons b t ih => intro d a h; exact ih _ _ (d.memWf_putByte a b h)

theorem Dev.memWf_store (d : Dev) (a n v : Nat) (h : Memory.wf d.mem = true) : Memory.wf (d.store a n v).mem = true :=
  Dev.memWf_putBytes _ d a h

/-- The memory after reset is in canonical form. -/
theorem memWf_reset : Memory.wf State.reset.dev.mem = true := rfl

/-! ### What a write of bytes leaves -/

/-- Two devices that differ in memory only. -/
structure Dev.SameButMem (d e : Dev) : Prop where
  flds : e.flds = d.flds
  rest : { e with mem := d.mem } = d

theorem Dev.putBytes_rest (l : List Byte) : ∀ (d : Dev) (a : Nat), { d.putBytes a l with mem := d.mem } = d := by
  induction l with
  | nil => intros; rfl
  | cons b t ih =>
    intro d a
    have := ih (d.putByte a b) (a + 1)
    have h2 : { (d.putByte a b).putBytes (a + 1) t with mem := d.mem }
        = { { (d.putByte a b).putBytes (a + 1) t with mem := (d.putByte a b).mem } with mem := d.mem } := rfl
    rw [Dev.putBytes, h2, this]; rfl

theorem Dev.putBytes_sameButMem (d : Dev) (a : Nat) (l : List Byte) : d.SameButMem (d.putBytes a l) where
  rest := Dev.putBytes_rest l d a
  flds := by have k := congrArg (fun x : Dev => x.flds) (Dev.putBytes_rest l d a); exact k

@[simp] theorem Dev.store_flds (d : Dev) (a n v : Nat) : (d.store a n v).flds = d.flds := (d.putBytes_sameButMem a _).flds
@[simp] theorem Dev.store_get (d : Dev) (a n v : Nat) (f : Fld) : (d.store a n v).get f = d.get f := by simp [Dev.get]

/-! ### Records, flags and traces -/

/-- Whether two devices agree on every part that posting a record, raising a flag or tracing leaves alone. -/
structure Dev.SameCore (d e : Dev) : Prop where
  freeCtr : e.freeCtr = d.freeCtr
  posted : e.posted = d.posted
  time : e.time = d.time
  seqs : e.seqs = d.seqs
  links : e.links = d.links
  sw : e.sw = d.sw
  sch : e.sch = d.sch
  ctxs : e.ctxs = d.ctxs
  waits : e.waits = d.waits
  rel : e.rel = d.rel
  acc : e.acc = d.acc
  port : e.port = d.port
  enq : e.enq = d.enq
  syn : e.syn = d.syn
  eth : e.eth = d.eth
  sto : e.sto = d.sto
  scan : e.scan = d.scan
  pdc : e.pdc = d.pdc
  power : e.power = d.power
  usb : e.usb = d.usb
  hsw : e.hsw = d.hsw
  boot : e.boot = d.boot
  key : e.key = d.key

theorem Dev.SameCore.refl (d : Dev) : d.SameCore d := by constructor <;> rfl

theorem Dev.SameCore.trans {d e f : Dev} (h : d.SameCore e) (k : e.SameCore f) : d.SameCore f := by
  exact ⟨k.1.trans h.1, k.2.trans h.2, k.3.trans h.3, k.4.trans h.4, k.5.trans h.5, k.6.trans h.6, k.7.trans h.7, k.8.trans h.8,
    k.9.trans h.9, k.10.trans h.10, k.11.trans h.11, k.12.trans h.12, k.13.trans h.13, k.14.trans h.14, k.15.trans h.15,
    k.16.trans h.16, k.17.trans h.17, k.18.trans h.18, k.19.trans h.19, k.20.trans h.20, k.21.trans h.21, k.22.trans h.22, k.23.trans h.23⟩

theorem Dev.sameCore_set (d : Dev) (f : Fld) (v : Nat) : d.SameCore (d.set f v) := by constructor <;> rfl

theorem Dev.SameButMem.core {d e : Dev} (h : d.SameButMem e) : d.SameCore e := by
  have k := h.rest
  constructor
  · have := congrArg (fun x : Dev => x.freeCtr) k; exact this
  · have := congrArg (fun x : Dev => x.posted) k; exact this
  · have := congrArg (fun x : Dev => x.time) k; exact this
  · have := congrArg (fun x : Dev => x.seqs) k; exact this
  · have := congrArg (fun x : Dev => x.links) k; exact this
  · have := congrArg (fun x : Dev => x.sw) k; exact this
  · have := congrArg (fun x : Dev => x.sch) k; exact this
  · have := congrArg (fun x : Dev => x.ctxs) k; exact this
  · have := congrArg (fun x : Dev => x.waits) k; exact this
  · have := congrArg (fun x : Dev => x.rel) k; exact this
  · have := congrArg (fun x : Dev => x.acc) k; exact this
  · have := congrArg (fun x : Dev => x.port) k; exact this
  · have := congrArg (fun x : Dev => x.enq) k; exact this
  · have := congrArg (fun x : Dev => x.syn) k; exact this
  · have := congrArg (fun x : Dev => x.eth) k; exact this
  · have := congrArg (fun x : Dev => x.sto) k; exact this
  · have := congrArg (fun x : Dev => x.scan) k; exact this
  · have := congrArg (fun x : Dev => x.pdc) k; exact this
  · have := congrArg (fun x : Dev => x.power) k; exact this
  · have := congrArg (fun x : Dev => x.usb) k; exact this
  · have := congrArg (fun x : Dev => x.hsw) k; exact this
  · have := congrArg (fun x : Dev => x.boot) k; exact this
  · have := congrArg (fun x : Dev => x.key) k; exact this

/-- A field that is none of an event queue's own. -/
def notEvq (f : Fld) : Prop := f.key < 8 * 0x10900400 ∨ 8 * 0x10900800 ≤ f.key

/-- Nor one of the trace writer's. -/
def notLog (f : Fld) : Prop := notEvq f ∧ (f.key < 8 * 0x11300000 ∨ 8 * 0x11400000 ≤ f.key)

theorem Dev.evqWrite_get (d : Dev) (q : Nat) (r : EvRec) (hq : q < 32) {f : Fld} (h : notEvq f) :
    (d.evqWrite q r).get f = d.get f := by
  have k : f.key ≠ (SYN_EVQq_WR_IDX q).key := by
    simp only [notEvq, SYN_EVQq_WR_IDX, SYN_EVQq_WR_A] at *; omega
  unfold Dev.evqWrite
  simp only
  rw [Dev.get_set_ne _ _ k]
  split <;> simp

theorem Dev.evqWrite_core (d : Dev) (q : Nat) (r : EvRec) : d.SameCore (d.evqWrite q r) := by
  unfold Dev.evqWrite
  simp only
  refine Dev.SameCore.trans ?_ (Dev.sameCore_set _ _ _)
  split
  · exact (d.putBytes_sameButMem _ _).core
  · exact .refl d

theorem Dev.postQ_get (d : Dev) (q : Nat) (r : EvRec) (hq : q < 32) {f : Fld} (h : notEvq f) : (d.postQ q r).get f = d.get f := by
  unfold Dev.postQ
  split
  · split
    · exact d.get_inc_ne (by simp only [notEvq, SYN_EVQq_DROP_COUNT, SYN_EVQq_DROP_A] at *; omega)
    · exact d.evqWrite_get q r hq h
  · exact d.get_inc_ne (by simp only [notEvq, SYN_EV_UNROUTED_COUNT, SYN_EV_UNROUTED_A] at *; omega)

theorem Dev.postQ_core (d : Dev) (q : Nat) (r : EvRec) : d.SameCore (d.postQ q r) := by
  unfold Dev.postQ
  split
  · split
    · constructor <;> rfl
    · exact d.evqWrite_core q r
  · exact d.sameCore_set _ _

theorem Dev.post_get (d : Dev) (r : EvRec) {f : Fld} (h : notEvq f) : (d.post r).get f = d.get f := by
  have hu : (d.inc SYN_EV_UNROUTED_COUNT).get f = d.get f :=
    d.get_inc_ne (by simp only [notEvq, SYN_EV_UNROUTED_COUNT, SYN_EV_UNROUTED_A] at *; omega)
  unfold Dev.post
  split
  · split
    · next q hq =>
      refine d.postQ_get q r ?_ h
      split at hq
      · injection hq with hq; exact hq ▸ d.get_lt USB_CTL_EVQ
      · split at hq
        · injection hq with hq; exact hq ▸ d.get_lt KEY_CTL_EVQ
        · simp only [Dev.route] at hq
          split at hq
          · injection hq with hq; exact hq ▸ d.get_lt _
          · cases hq
    · exact hu
  · rfl

theorem Dev.post_core (d : Dev) (r : EvRec) : d.SameCore (d.post r) := by
  unfold Dev.post
  split
  · split
    · exact d.postQ_core _ r
    · exact d.sameCore_set _ _
  · exact .refl d

theorem Dev.event_get (d : Dev) (s c a : Nat) {f : Fld} (h : notEvq f) : (d.event s c a).get f = d.get f := d.post_get _ h
theorem Dev.event_core (d : Dev) (s c a : Nat) : d.SameCore (d.event s c a) := d.post_core _

/-- A flag of an event register set by the device leaves every field but the flag and the event queues'. -/
theorem Dev.raise_get (d : Dev) (g : Fld) {f : Fld} (h : notEvq f) (n : f.key ≠ g.key) : (d.raise g).get f = d.get f := by
  unfold Dev.raise Dev.setFlag
  simp only
  split
  · rw [Dev.noteSet_get, Dev.get_set_ne _ _ n]
  · split
    · rw [Dev.noteSet_get, Dev.post_get _ _ h, Dev.get_set_ne _ _ n]
    · rw [Dev.noteSet_get, Dev.get_set_ne _ _ n]

/-- A flag set reads 1. -/
theorem Dev.raise_self (d : Dev) (g : Fld) (h : notEvq g) (w : 0 < g.w) : (d.raise g).get g = 1 := by
  have k : 1 % 2 ^ g.w = 1 := Nat.mod_eq_of_lt (Nat.one_lt_two_pow (Nat.pos_iff_ne_zero.mp w))
  unfold Dev.raise Dev.setFlag
  simp only
  split
  · rw [Dev.noteSet_get, Dev.get_set_same, k]
  · split
    · rw [Dev.noteSet_get, Dev.post_get _ _ h, Dev.get_set_same, k]
    · rw [Dev.noteSet_get, Dev.get_set_same, k]

theorem Dev.sameCore_noteSet (d : Dev) (k : Nat) (r : Option EvRec) : d.SameCore (d.noteSet k r) := by constructor <;> rfl

theorem Dev.raise_core (d : Dev) (g : Fld) : d.SameCore (d.raise g) := by
  unfold Dev.raise Dev.setFlag
  simp only
  split
  · exact (d.sameCore_set _ _).trans (Dev.sameCore_noteSet _ _ _)
  · split
    · exact ((d.sameCore_set _ _).trans (Dev.post_core _ _)).trans (Dev.sameCore_noteSet _ _ _)
    · exact (d.sameCore_set _ _).trans (Dev.sameCore_noteSet _ _ _)

/-- Set wins over a clear of the same cycle (R12): a flag that the device set in this cycle reads what it read. -/
theorem Dev.clearFlag_wins (d : Dev) (f : Fld) (h : notEvq f) (n : (d.setNow f.key).isSome = true) :
    (d.clearFlag f).get f = d.get f := by
  unfold Dev.clearFlag
  split
  · simp_all
  · rfl
  · rw [Dev.noteSet_get]
    split
    · unfold Dev.postAon
      split
      · exact d.post_get _ h
      · split <;> rfl
    · exact d.post_get _ h

theorem Dev.silDrop_get (d : Dev) {f : Fld} (h : notLog f) : d.silDrop.get f = d.get f := by
  obtain ⟨h1, h2⟩ := h
  unfold Dev.silDrop
  rw [Dev.raise_get _ _ h1 (by simp only [SIL_EVT_DROP, SIL_EVT_A] at *; omega)]
  exact d.get_inc_ne (by simp only [SIL_DROP_COUNT, SIL_DROP_A] at *; omega)

theorem Dev.silPost_get (d : Dev) (s c a : Nat) {f : Fld} (h : notLog f) : (d.silPost s c a).get f = d.get f := by
  unfold Dev.silPost
  simp only
  split <;> split
  all_goals first
    | rfl
    | exact d.silDrop_get h
    | (split; · rfl
       · exact d.silDrop_get h)

theorem Dev.silPost_core (d : Dev) (s c a : Nat) : d.SameCore (d.silPost s c a) := by
  have hd : d.SameCore d.silDrop := by
    unfold Dev.silDrop
    exact Dev.SameCore.trans (by constructor <;> rfl) (Dev.raise_core _ _)
  unfold Dev.silPost
  simp only
  split <;> split
  all_goals first
    | exact .refl d
    | exact hd
    | (split; · (constructor <;> rfl)
       · exact hd)

end Sys2Proof.Machine
end

