-- ==== Sys2Proof/Tests/Slice0.lean ====
section
/-! SUPPORT. The smoke test of WellFormed, the witnesses that meet the hypotheses of the statements, and small tests of single commands
whose expected results are worked out by hand from the rules named. -/

namespace Sys2Proof.Tests

open Sys2Proof Sys2Proof.Machine

/-! ### WellFormed: a good term of each kind is accepted, and a bad one is refused for each check -/

/-- A text of 272 bytes, as the lanes bring it, and one that is short; no FEC work. -/
def blkOk : RxBlk := ⟨List.replicate 272 0, [(1, 0), (0, 1), (2, 3), (0, 0)]⟩
def blkShort : RxBlk := ⟨List.replicate 271 0, []⟩
def blkFec : RxBlk := ⟨List.replicate 272 0, [(0, 0), (0, 0), (0, 0), (0, 0), (0, 0)]⟩
def envOk : ActEnv := ⟨.ok, false, 0, [1, 2], [3]⟩
def envBad : ActEnv := ⟨.ok, false, 0, [1, 3], [3]⟩

theorem test_wf_block : RxBlk.wf blkOk = true ∧ RxBlk.wf blkShort = false ∧ RxBlk.wf blkFec = false := by
  simp only [RxBlk.wf, blkOk, blkShort, blkFec, List.length_replicate]; decide

theorem test_wf_activation : ActEnv.wf envOk = true ∧ ActEnv.wf envBad = false := by decide

/-- The commands that bring one block. -/
def blockCommands (p : Fin 10) (b : RxBlk) : List Instr :=
  [.capRx p b, .blotResultRx p b, .dataBlockRx p b, .blockRxBad p b, .idleBlockRx p b, .creditRx p b, .wrapNoticeRx p b, .unwrapNoticeRx p b,
    .tickRx p b, .delayReqRx p b, .delayReplyRx p b, .modeReqRx p b, .modeAckRx p b, .collideRx p b, .accordPrepareRx p b,
    .accordVoteRx p b, .accordGoRx p b, .accordAbandonRx p b]

theorem test_wf_blocks (p : Fin 10) : (blockCommands p blkOk).all Instr.wf = true ∧ (blockCommands p blkShort).any Instr.wf = false := by
  obtain ⟨h1, h2, -⟩ := test_wf_block
  simp only [blockCommands, List.all_cons, List.all_nil, List.any_cons, List.any_nil, Instr.wf, h1, h2]; decide

theorem test_wf_messages (p : Fin 10) :
    ([.authCertRx p [blkOk, blkOk], .authFinishRx p [blkOk, blkOk], .authRefuseRx p [blkOk, blkOk], .rekeyReqRx p [blkOk, blkOk], .rekeyAckRx p [blkOk, blkOk], .rekeySwitchRx p [blkOk, blkOk]] : List Instr).all Instr.wf = true ∧
    ([.authCertRx p [blkOk, blkFec], .authFinishRx p [blkOk, blkFec], .authRefuseRx p [blkOk, blkFec], .rekeyReqRx p [blkOk, blkFec], .rekeyAckRx p [blkOk, blkFec], .rekeySwitchRx p [blkOk, blkFec]] : List Instr).any Instr.wf = false := by
  obtain ⟨h1, -, h3⟩ := test_wf_block
  simp only [List.all_cons, List.all_nil, List.any_cons, List.any_nil, Instr.wf, h1, h3]; decide

theorem test_wf_message_length (p : Fin 10) (l : List RxBlk) (h : l.length = 17) :
    ([.authCertRx p l, .authFinishRx p l, .authRefuseRx p l, .rekeyReqRx p l, .rekeyAckRx p l, .rekeySwitchRx p l] : List Instr).any Instr.wf = false := by
  simp only [List.any_cons, List.any_nil, Instr.wf, h]; simp

theorem test_wf_blotter (p : Fin 10) (b : List Bool) : Instr.wf (.blotWindowEnd p [b, b, b, b]) = true
    ∧ Instr.wf (.blotWindowEnd p [b, b, b, b, b]) = false := ⟨rfl, rfl⟩

theorem test_wf_activations : ([.regWriteActs 0 envOk, .domainClockSwitch .aon 0 envOk, .bridgeTransferTimeout 0 envOk, .regReadComplete 0 envOk,
      .wcmd 0 0 0 0 0 envOk, .scrubAbort 0 [1] [2], .scrubPassDone [1] [2]] : List Instr).all Instr.wf = true ∧
    ([.regWriteActs 0 envBad, .domainClockSwitch .aon 0 envBad, .bridgeTransferTimeout 0 envBad, .regReadComplete 0 envBad, .wcmd 0 0 0 0 0 envBad,
      .scrubAbort 0 [1] [1], .scrubPassDone [2] [2]] : List Instr).any Instr.wf = false := by decide

theorem test_wf_payloads : ([.ethFrameRx 0 [0], .gwOutPacket 0 true [], .audIsoOut [], .sourceCapsRx 0 0 true [(0, 0)], .halt 0 0] : List Instr).all
      Instr.wf = true ∧
    ([.ethFrameRx 0 [], .sourceCapsRx 0 0 true [],
      .sourceCapsRx 0 0 true (List.replicate 12 (0, 0))] : List Instr).any Instr.wf = false := by decide

theorem test_wf_packets (c : Fin 1024) (g : Fin 13) (x : Word) : Instr.wf (.gwOutPacket 0 true (List.replicate 1025 0)) = false ∧ Instr.wf (.audIsoOut (List.replicate 1025 0)) = false
    ∧ Instr.wf (.refreshPacketRx c (List.replicate 16105 0)) = false
    ∧ Instr.wf (.localPacketEntry c g (List.replicate 16105 0) none x) = false := by
  simp only [Instr.wf, List.length_replicate]; decide

/-! ### Witnesses: states and operands that meet the hypotheses of the statements -/

/-- Thread 0 runs at address 0 with 3 in w1, 0x104 in w2 and 0x10000000 in w3; thread 31 runs too. -/
def running : Dev :=
  (((((Dev.reset.set (SYN_THn_STAT_STATE 0) 1).set (SYN_THn_STAT_STATE 31) 1).wr 0 1 3).wr 0 2 0x104).wr 0 3 0x10000000)

/-- It with the instruction word `w` at its pc. -/
def issuing (w : Nat) : Dev := running.store 0 4 w

/-- Words of the R, I and S formats under p0 (R353). -/
def wordR (op rd rs1 rs2 fn : Nat) : Nat := op * 2 ^ 23 + rd * 2 ^ 18 + rs1 * 2 ^ 13 + rs2 * 2 ^ 8 + fn
def wordI (op rd rs1 imm : Nat) : Nat := op * 2 ^ 23 + rd * 2 ^ 18 + rs1 * 2 ^ 13 + imm

/-- CMP w1 < w2 into p1, p2, and CMPI w1 < 5 into p1, p2 (R353, R359). -/
def wordCmp : Nat := 0x0C * 2 ^ 23 + 1 * 2 ^ 20 + 2 * 2 ^ 17 + 1 * 2 ^ 12 + 2 * 2 ^ 7 + 2 * 2 ^ 3
def wordCmpi : Nat := 0x0D * 2 ^ 23 + 1 * 2 ^ 20 + 2 * 2 ^ 17 + 1 * 2 ^ 12 + 2 * 2 ^ 8 + 5

theorem witness_compare : (issuing wordCmp).mayIssue 0 (.cmp 0 0 1 2 1 2 .lt) 0 ∧ (issuing wordCmpi).mayIssue 31 (.cmpi 31 0 1 2 1 .lt (.short 5)) 0 := by
  unfold Dev.mayIssue; decide

theorem witness_align_ld8u : (issuing (wordI 0x10 5 3 0)).mayIssue 0 (.ld8u 0 0 5 3 (.short 0) false .ok) 0
    ∧ (issuing (wordI 0x10 5 3 0)).region (((issuing (wordI 0x10 5 3 0)).rg 0 3 + immS (.short 0 : Imm 13)).toNat % 2 ^ 40) = .regs := by unfold Dev.mayIssue; decide

theorem witness_align_ld16u : (issuing (wordI 0x11 5 1 0)).mayIssue 0 (.ld16u 0 0 5 1 (.short 0) false .ok) 0
    ∧ ((issuing (wordI 0x11 5 1 0)).rg 0 1 + immS (.short 0 : Imm 13)).toNat % 2 ^ 40 % 2 ≠ 0 := by unfold Dev.mayIssue; decide

theorem witness_align_ld32u : (issuing (wordI 0x12 5 1 0)).mayIssue 0 (.ld32u 0 0 5 1 (.short 0) false .ok) 0
    ∧ ((issuing (wordI 0x12 5 1 0)).rg 0 1 + immS (.short 0 : Imm 13)).toNat % 2 ^ 40 % 4 ≠ 0 := by unfold Dev.mayIssue; decide

theorem witness_align_ld64 : (issuing (wordI 0x13 5 2 0)).mayIssue 0 (.ld64 0 0 5 2 (.short 0) false .ok) 0
    ∧ ((issuing (wordI 0x13 5 2 0)).rg 0 2 + immS (.short 0 : Imm 13)).toNat % 2 ^ 40 % 8 ≠ 0 := by unfold Dev.mayIssue; decide

theorem witness_align_ld8s : (issuing (wordI 0x14 5 3 0)).mayIssue 0 (.ld8s 0 0 5 3 (.short 0) false .ok) 0
    ∧ (issuing (wordI 0x14 5 3 0)).region (((issuing (wordI 0x14 5 3 0)).rg 0 3 + immS (.short 0 : Imm 13)).toNat % 2 ^ 40) = .regs := by unfold Dev.mayIssue; decide

theorem witness_align_ld16s : (issuing (wordI 0x15 5 1 0)).mayIssue 0 (.ld16s 0 0 5 1 (.short 0) false .ok) 0
    ∧ ((issuing (wordI 0x15 5 1 0)).rg 0 1 + immS (.short 0 : Imm 13)).toNat % 2 ^ 40 % 2 ≠ 0 := by unfold Dev.mayIssue; decide

theorem witness_align_ld32s : (issuing (wordI 0x16 5 1 0)).mayIssue 0 (.ld32s 0 0 5 1 (.short 0) false .ok) 0
    ∧ ((issuing (wordI 0x16 5 1 0)).rg 0 1 + immS (.short 0 : Imm 13)).toNat % 2 ^ 40 % 4 ≠ 0 := by unfold Dev.mayIssue; decide

theorem witness_align_st8 : (issuing (wordI 0x18 2 3 0)).mayIssue 0 (.st8 0 0 2 3 (.short 0)) 0
    ∧ (issuing (wordI 0x18 2 3 0)).region (((issuing (wordI 0x18 2 3 0)).rg 0 3 + immS (.short 0 : Imm 13)).toNat % 2 ^ 40) = .regs := by unfold Dev.mayIssue; decide

theorem witness_store_st8 : (issuing (wordI 0x18 2 1 0)).mayIssue 0 (.st8 0 0 2 1 (.short 0)) 0 ∧ (issuing (wordI 0x18 2 1 0)).storesAtOnce 0 (((issuing (wordI 0x18 2 1 0)).rg 0 1 + immS (.short 0 : Imm 13)).toNat % 2 ^ 40) 1
    ∧ Memory.wf (issuing (wordI 0x18 2 1 0)).mem = true := by unfold Dev.mayIssue Dev.storesAtOnce; decide

theorem witness_align_st16 : (issuing (wordI 0x19 2 1 0)).mayIssue 0 (.st16 0 0 2 1 (.short 0)) 0
    ∧ ((issuing (wordI 0x19 2 1 0)).rg 0 1 + immS (.short 0 : Imm 13)).toNat % 2 ^ 40 % 2 ≠ 0 := by unfold Dev.mayIssue; decide

theorem witness_store_st16 : (issuing (wordI 0x19 2 2 0)).mayIssue 0 (.st16 0 0 2 2 (.short 0)) 0 ∧ (issuing (wordI 0x19 2 2 0)).storesAtOnce 0 (((issuing (wordI 0x19 2 2 0)).rg 0 2 + immS (.short 0 : Imm 13)).toNat % 2 ^ 40) 2
    ∧ Memory.wf (issuing (wordI 0x19 2 2 0)).mem = true := by unfold Dev.mayIssue Dev.storesAtOnce; decide

theorem witness_align_st32 : (issuing (wordI 0x1a 2 1 0)).mayIssue 0 (.st32 0 0 2 1 (.short 0)) 0
    ∧ ((issuing (wordI 0x1a 2 1 0)).rg 0 1 + immS (.short 0 : Imm 13)).toNat % 2 ^ 40 % 4 ≠ 0 := by unfold Dev.mayIssue; decide

theorem witness_store_st32 : (issuing (wordI 0x1a 2 2 0)).mayIssue 0 (.st32 0 0 2 2 (.short 0)) 0 ∧ (issuing (wordI 0x1a 2 2 0)).storesAtOnce 0 (((issuing (wordI 0x1a 2 2 0)).rg 0 2 + immS (.short 0 : Imm 13)).toNat % 2 ^ 40) 4
    ∧ Memory.wf (issuing (wordI 0x1a 2 2 0)).mem = true := by unfold Dev.mayIssue Dev.storesAtOnce; decide

theorem witness_align_st64 : (issuing (wordI 0x1b 2 1 0)).mayIssue 0 (.st64 0 0 2 1 (.short 0)) 0
    ∧ ((issuing (wordI 0x1b 2 1 0)).rg 0 1 + immS (.short 0 : Imm 13)).toNat % 2 ^ 40 % 8 ≠ 0 := by unfold Dev.mayIssue; decide

theorem witness_store_st64 : (issuing (wordI 0x1b 2 2 4)).mayIssue 0 (.st64 0 0 2 2 (.short 4)) 0 ∧ (issuing (wordI 0x1b 2 2 4)).storesAtOnce 0 (((issuing (wordI 0x1b 2 2 4)).rg 0 2 + immS (.short 4 : Imm 13)).toNat % 2 ^ 40) 8
    ∧ Memory.wf (issuing (wordI 0x1b 2 2 4)).mem = true := by unfold Dev.mayIssue Dev.storesAtOnce; decide

theorem witness_register_space : running.region ((running.rg 0 3 + immS (.short 0 : Imm 13)).toNat % 2 ^ 40) = .regs
    ∧ running.region ((running.rg 0 3 + immS (.short 2 : Imm 13)).toNat % 2 ^ 40) = .regs := by decide

theorem witness_last_sram_word : running.storesAtOnce 0 0x1FFFF8 8 ∧ running.region 0x200000 = .hole := by unfold Dev.storesAtOnce; decide

theorem witness_outside_handler : (running.thr 0).active = false := by decide

theorem witness_empty_queue : State.reset.pending = [] := rfl

theorem witness_queue : (2 : Nat) ≤ (State.mk Dev.reset [.halt 0 0, .fence 0 0]).pending.length := by decide

theorem witness_queueWf : (State.mk Dev.reset [.halt 0 0, .idleBlockRx 9 blkOk]).queueWf := by
  intro c h; simp at h
  rcases h with rfl | rfl
  · decide
  · exact test_wf_block.1

/-- Event queue 31 with a ring of 16 records. -/
def ringed : Dev := (Dev.reset.set (SYN_EVQq_CFG_EN 31) 1).set (SYN_EVQq_CFG_LOG2 31) 4

theorem witness_ring_off : Dev.reset.evqOn 0 = false ∧ Dev.reset.evqOn 31 = false := by decide

theorem witness_ring_room : ringed.evqOn 31 = true ∧ (ringed.get (SYN_EVQq_WR_IDX 31) + 1) % ringed.evqSize 31 ≠ ringed.get (SYN_EVQq_RD_IDX 31) % ringed.evqSize 31
    ∧ 16 * ringed.get (SYN_EVQq_CFG_BASE 31) + 16 * ringed.get (SYN_EVQq_WR_IDX 31) + 16 ≤ 0x200000 := by decide

theorem witness_ring_full : ((ringed.set (SYN_EVQq_WR_IDX 31) 15).get (SYN_EVQq_WR_IDX 31) + 1) % (ringed.set (SYN_EVQq_WR_IDX 31) 15).evqSize 31
    = (ringed.set (SYN_EVQq_WR_IDX 31) 15).get (SYN_EVQq_RD_IDX 31) % (ringed.set (SYN_EVQq_WR_IDX 31) 15).evqSize 31 := by decide

theorem witness_vconn : (Dev.reset.set (PDC_Pn_STAT_VCONN 7) 1).get (PDC_Pn_STAT_VCONN 7) = 1 ∧ Dev.reset.get (PDC_Pn_STAT_VCONN 7) = 0 := by decide

theorem witness_hot_swap : (Dev.reset.set HSW_STAT_STATE 4).quietTick ∧ (Dev.reset.set HSW_STAT_STATE 4).hswState = 4
    ∧ (Dev.reset.set HSW_STAT_STATE 5).quietTick ∧ (Dev.reset.set HSW_STAT_STATE 5).hswState = 5
    ∧ max (4 * Dev.reset.get HSW_ILIM_FAST) (5 * Dev.reset.get HSW_ILIM_SLOW) < 2 ^ 13 - 1 := by decide

theorem witness_transitions : (Dev.reset.set (PWR_Dd_STAT_PHASE 12) 1).phaseOf 12 ≠ 0 ∧ (Dev.reset.set (PWR_Dd_STAT_PHASE 12) 6).phaseOf 12 = 6
    ∧ (Dev.reset.set (PWR_Dd_STAT_PHASE 1) 7).phaseOf 1 = 7 := by decide

theorem witness_idle : Dev.reset.powerIdle ∧ Dev.reset.enginesIdle ∧ Dev.reset.sourcesIdle ∧ Dev.reset.quietTick := by decide

/-- A packet buffer with room in bank 0. -/
def roomy : Dev :=
  ((((Dev.reset.set SWC_CTL_EN 1).set SWC_STAT_BANK_OK 255).set SWC_CELLS_CELLS 131072).set SWC_STAGE_POOL 100).set (SWC_BANKn_FREE_CELLS 0) 16384

theorem witness_takesPacket : roomy.takesPacket 0 9 1 := by decide

/-- A port whose one key has room for one more block, and one whose key has none left. -/
theorem witness_keysYoung : Dev.reset.keysYoung 0 ∧ (Dev.reset.modLnk 9 (fun l => { l with txKey := some ⟨0, 0, 2 ^ 32 - 2⟩ })).keysYoung 9
    ∧ ¬ (Dev.reset.modLnk 9 (fun l => { l with txKey := some ⟨0, 0, 2 ^ 32 - 1⟩ })).keysYoung 9 := by unfold Dev.keysYoung; decide

/-- Headers at the top of every range, one sequenced and one not, and their payloads. -/
def hdrTop : BlkHdr := ⟨15, true, true, true, 4095, 4095, 15, 255, 65535, 511, 7, 2 ^ 20 - 1, 0⟩
def hdrFree : BlkHdr := { hdrTop with ty := 12, nonce := 2 ^ 64 - 1 }
def textFree : List Byte := List.replicate 256 0xFF

theorem witness_sealed : textFree.length = 256 ∧ (∀ h ∈ [hdrTop, hdrFree], h.ty < 16 ∧ h.seq < 4096 ∧ h.ack < 4096 ∧ h.akind < 16 ∧ h.sq < 256
      ∧ h.pid < 65536 ∧ h.len < 512 ∧ h.ccls < 8 ∧ h.ccnt < 2 ^ 20)
    ∧ hdrTop.nonce = (if seqType hdrTop.ty then 0 else beNat (textFree.take 8))
    ∧ hdrFree.nonce = (if seqType hdrFree.ty then 0 else beNat (textFree.take 8)) := ⟨List.length_replicate .., by decide, rfl, rfl⟩

def tsTop : Ts := ⟨2 ^ 48 - 1, 2 ^ 30 - 1, 2 ^ 32 - 1⟩

theorem witness_payloads : ((2 : Nat) ^ 64 - 1 < 2 ^ 64 ∧ ([(true, 2 ^ 31 - 1), (false, 0), (true, 1), (false, 2)] : List (Bool × Nat)).length = 4
      ∧ ∀ x ∈ ([(true, 2 ^ 31 - 1), (false, 0), (true, 1), (false, 2)] : List (Bool × Nat)), x.2 < 2 ^ 31)
    ∧ (tsTop.sec < 2 ^ 48 ∧ tsTop.ns < 2 ^ 30 ∧ tsTop.frac < 2 ^ 32) ∧ (-2 ^ 63 ≤ (-2 ^ 63 : Int) ∧ (-2 ^ 63 : Int) < 2 ^ 63)
    ∧ ((List.replicate 8 (2 ^ 32 - 1) : List Nat).length = 8 ∧ ∀ x ∈ (List.replicate 8 (2 ^ 32 - 1) : List Nat), x < 2 ^ 32)
    ∧ (List.replicate 248 (0xFF : Byte)).length ≤ 248 := ⟨by decide, by decide, by decide, by decide, Nat.le_of_eq (List.length_replicate ..)⟩

/-! ### Single commands -/

/-- The device after a command, and what a test reads of it. -/
def after (c : Instr) (d : Dev) (f : Dev → Nat) : Option Nat :=
  match exec c ⟨d, []⟩ with
  | .next t => some (f t.dev)
  | _ => none

/-- R356: 3 - 0x104 wraps modulo 2^64. -/
theorem test_sub_wraps : after (.sub 0 0 5 1 2) (issuing (wordR 0 5 1 2 1)) (fun d => (d.rg 0 5).toNat) = some (2 ^ 64 - 257) := by decide

/-- R320: a write of w0 is discarded, and the instruction retires all the same. -/
theorem test_add_to_w0 : after (.add 0 0 0 1 2) (issuing (wordR 0 0 1 2 0)) (fun d => (d.rg 0 0).toNat + (d.thr 0).pc) = some 4 := by decide

/-- R360, R3: a 4-byte store puts the least significant byte lowest. -/
theorem test_st32_little_endian : after (.st32 0 0 2 2 (.short 0)) (issuing (wordI 0x1A 2 2 0)) (fun d => (d.byte 0x104).toNat + 256 * (d.byte 0x105).toNat) = some 0x104 := by decide

/-- R327, R338: a misaligned load enters the handler with code 2 and the address. -/
theorem test_ld64_misaligned : after (.ld64 0 0 5 1 (.short 0) false .ok) (issuing (wordI 0x13 5 1 0)) (fun d => (d.thr 0).code * 2 ^ 40 + (d.thr 0).eaddr) = some (2 * 2 ^ 40 + 3) := by
  decide

/-- R360: a byte sign-extended at its boundary. -/
theorem test_ld8s_sign : after (.ld8s 0 0 5 2 (.short 0) false .ok) ((issuing (wordI 0x14 5 2 0)).putByte 0x104 0x80) (fun d => (d.rg 0 5).toNat) = some (2 ^ 64 - 128) := by decide

/-- R359: 3 < 0x104 signed is true in PD and false in PDN. -/
theorem test_cmp_both : after (.cmp 0 0 1 2 1 2 .lt) (issuing wordCmp) (fun d => (d.pred 0 1).toNat * 2 + (d.pred 0 2).toNat) = some 2 := by decide

/-- R362: a branch backwards by one instruction from address 0 wraps modulo 2^40. -/
theorem test_b_wraps : after (.b 0 0 (-1)) (issuing (0x20 * 2 ^ 23 + (2 ^ 23 - 1))) (fun d => (d.thr 0).pc) = some (2 ^ 40 - 4) := by decide

/-- R361: an atomic add gives the old word and stores the sum. -/
theorem test_amoAdd : after (.amoAdd 0 0 5 2 1 false .ok) (((issuing (wordR 0x1C 5 2 1 1)).wr 0 2 0x108).store 0x108 8 7) (fun d => (d.rg 0 5).toNat * 256 + (d.byte 0x108).toNat)
    = some (7 * 256 + 10) := by decide

/-- R421: the VCONN switch opens and the port goes to ErrorRecovery. -/
theorem test_vconnOvercurrent : after (.vconnOvercurrent 7) (Dev.reset.set (PDC_Pn_STAT_VCONN 7) 1) (fun d => d.get (PDC_Pn_STAT_CONN 7)) = some 5 := by decide

/-- R495, R501: a sense voltage above FAST in ON is a trip: PGOOD low, FAST_TRIP raised, RETRY_WAIT. -/
theorem test_fastTrip : after (.fastTrip 8191 0) ((Dev.reset.set HSW_STAT_STATE 5).set HSW_STAT_PGOOD 1)
    (fun d => d.get HSW_STAT_PGOOD + 2 * d.get HSW_EVT_FAST_TRIP + 10 * d.hswState) = some 72 := by decide

/-- R319, R356: an instruction that the words at the pc do not spell is no event. -/
theorem test_other_word : after (.sub 0 0 5 1 2) (issuing (wordR 0 5 1 2 0)) (fun d => (d.rg 0 5).toNat) = some 0 := by decide

/-- R12: a flag that the device sets in the cycle in which software clears it stays 1. -/
theorem test_set_wins : (((Dev.reset.raise HSW_EVT_FAST_TRIP).clearFlag HSW_EVT_FAST_TRIP).get HSW_EVT_FAST_TRIP) = 1 := by decide

/-- R518: a request during drydown becomes NEXT. -/
theorem test_request_waits : after (.domainRequestWrite 12 2) (Dev.reset.set (PWR_Dd_STAT_PHASE 12) 1) (fun d => d.get (PWR_Dd_STAT_NEXT 12)) = some 2 := by decide

def hdrData : BlkHdr := ⟨0, true, true, false, 0, 0, 0, 0, 9, 3, 0, 0, 0⟩

/-- R77: a header of TYPE 0 with FIRST and LAST, PID 9 and LEN 3; and what it reads back as. -/
theorem test_header_bytes : hdrData.bytes = [0x0C, 0, 0, 0, 0, 0, 0, 0x90, 0x18, 0, 0, 0].map (BitVec.ofNat 8)
    ∧ BlkHdr.parse hdrData.bytes = hdrData := by decide

/-- R352 to R354: the words that spec 11 writes out; ADDI with a LIMM, and a store under p3. -/
theorem test_decode_addi : synDecode 0 0x1F8000A8 0x00940010 = some (.addi 0 0 5 0 (.pair 0x2A10)) := by decide
theorem test_decode_st32 : synDecode 0 0x6D1C8108 0 = some (.st32 0 3 7 4 (.short 0x108)) := by decide

/-- R353: the ORI of the pair 0x1FC1C44A, 0x01900000; R370, R371: ACB and ACC. -/
theorem test_decode_ori : synDecode 0 0x1FC1C44A 0x01900000 = some (.ori 0 0 4 0 (.pair 0x10711280)) := by decide
theorem test_decode_accord : synDecode 0 0x1804C001 0 = some (.acbAt 0 0 1 6 0) ∧ synDecode 0 0x1904004C 0 = some (.acc 0 0 1 0 2 3) := by decide

/-- R353, R356, worked out by hand: B back by one, CMP w1 < w2 into p1, p2, AMO add, EXTU, PNOT, MFS, HALT. -/
theorem test_decode_families : synDecode 0 (0x20 * 2 ^ 23 + (2 ^ 23 - 1)) 0 = some (.b 0 0 (-1))
    ∧ synDecode 0 (0x0C * 2 ^ 23 + 1 * 2 ^ 20 + 2 * 2 ^ 17 + 1 * 2 ^ 12 + 2 * 2 ^ 7 + 2 * 2 ^ 3) 0 = some (.cmp 0 0 1 2 1 2 .lt)
    ∧ synDecode 0 (0x1C * 2 ^ 23 + 5 * 2 ^ 18 + 2 * 2 ^ 13 + 1 * 2 ^ 8 + 1) 0 = some (.amoAdd 0 0 5 2 1 false .ok)
    ∧ synDecode 0 (0x08 * 2 ^ 23 + 5 * 2 ^ 18 + 2 * 2 ^ 13 + 7 * 2 ^ 6 + 9) 0 = some (.extu 0 0 5 2 9 7)
    ∧ synDecode 0 (0x24 * 2 ^ 23 + 5 * 2 ^ 18 + 3) 0 = some (.mfs 0 0 5 3) ∧ synDecode 0 (0x23 * 2 ^ 23 + 1) 0 = some (.halt 0 0) := by decide

/-- R352, R354: a LIMM before a LIMM and a reserved opcode are no instruction; R320: the all-zero word is ADD w0, w0, w0. -/
theorem test_decode_reserved : synDecode 0 0x1F8000A8 0x1F8000A8 = none ∧ synDecode 0 0x1F000000 0 = none ∧ synDecode 0 0 0 = some (.add 0 0 0 0 0) := by decide

/-- The CRC-32 of the letter a is 0xE8B7BE43, which goes out least significant byte first. -/
theorem test_frame_fcs : frameFcs [0x61] = [0x43, 0xBE, 0xB7, 0xE8] := by decide

/-- The table gives no row any bits, so no word spells a command. -/
theorem test_no_word : decodeTableWord 32 0 = none ∧ State.withFetchWord State.reset 32 0 = State.reset := by decide

end Sys2Proof.Tests
end

section
/-! PROOFS. The trunk sequencers: why O12 fails as it stands. Its clause on a missing marker asks that memory stays as it was when a port in
CAP or BLOTTER loses alignment. But that loss raises LOCK_LOST (R73), an enabled flag posts an event record (R616), and a record is
written into the ring of its queue, which lies in memory (R333). -/

namespace Sys2Proof.Machine

/-- Trunk port TE in CAP at L10×1, its lane 0 aligned with one alignment set missing already. -/
def oneMarkerShort : Dev :=
  ((Dev.reset.set (TRK_STAT_STATE 0) 4).set (TRK_LnSTAT_ALIGNED 0 0) 1).modSeq 0
    (fun x => { x with lanes := [(0, { LaneSt.reset with missed := 1 })] })

/-- The same port with LOCK_LOST enabled, and TE's records (source 1) routed to event queue 0, whose ring of 16 records begins at
address 0 (R73, R348, R349). -/
def lockLostRouted : Dev :=
  ((((oneMarkerShort.set (TRK_EVT_EN_LOCK_LOST 0) 1).set (SYN_EVROUTEk_QUEUE1 0) 0).set (SYN_EVROUTEk_EN1 0) 1).set
    (SYN_EVQq_CFG_EN 0) 1).set (SYN_EVQq_CFG_LOG2 0) 4

/-- The state meets what the clause asks for before it speaks of memory: the port's domain is ON, lane 0 runs at L10, is aligned and
has missed all but the last of the two markers, and the sequencer is in CAP. -/
theorem lockLostRouted_losesAlignment : lockLostRouted.domOn (portDomain 0) = true ∧ lockLostRouted.laneRuns 0 0 true = true
    ∧ lockLostRouted.get (TRK_LnSTAT_ALIGNED 0 0) = 1 ∧ ((lockLostRouted.seq 0).lanes.get 0 LaneSt.reset).missed = 1
    ∧ lockLostRouted.seqState 0 = 4 := by decide

/-- The marker that goes missing then puts the record of LOCK_LOST, code 0x0100, at the ring's first slot, which held 0. -/
theorem alignMarkerMissing_writes_lockLost_record :
    (alignMarkerMissing 0 0 lockLostRouted).byte 1 = 1 ∧ lockLostRouted.byte 1 = 0 := by decide

/-- ALIGN_MARKER_MISSING at a port whose domain is ON. -/
theorem exec_alignMarkerMissing_of_domOn (p : Fin 10) (n : Fin 4) (s : State) (h : s.dev.domOn (portDomain p) = true) :
    exec (.alignMarkerMissing p n) s = .next { s with dev := alignMarkerMissing p n s.dev } := by
  show State.run _ _ = _
  simp [State.run_eq, h]

end Sys2Proof.Machine

namespace Sys2Proof.Proofs
open Sys2Proof Sys2Proof.Machine

/-- Refutes O12: at `lockLostRouted` the clause on ALIGN_MARKER_MISSING asks that memory stays as it was, but the lane's loss of
alignment in CAP writes the record of LOCK_LOST into its event queue's ring. -/
theorem not_trunkSequencersComplete : ¬ Obligations.TrunkSequencersComplete := by
  unfold Obligations.TrunkSequencersComplete
  intro h
  obtain ⟨-, -, -, -, -, hmissing, -⟩ := h ⟨lockLostRouted, []⟩
  obtain ⟨t, hexec, -, hclause⟩ := hmissing 0 0
  obtain ⟨hon, hruns, haligned, hmissed, hcap⟩ := lockLostRouted_losesAlignment
  rw [exec_alignMarkerMissing_of_domOn 0 0 ⟨lockLostRouted, []⟩ hon] at hexec
  injection hexec with hexec
  subst hexec
  have hloss : (alignMarkerMissing 0 0 lockLostRouted).get (TRK_LnSTAT_ALIGNED 0 0) = 0
      ∧ (alignMarkerMissing 0 0 lockLostRouted).seqState 0 = 1
      ∧ (alignMarkerMissing 0 0 lockLostRouted).mem = lockLostRouted.mem := by
    simpa [hon, hruns, haligned, hmissed, hcap] using hclause
  obtain ⟨-, -, hmem⟩ := hloss
  obtain ⟨hafter, hbefore⟩ := alignMarkerMissing_writes_lockLost_record
  rw [Dev.byte, hmem, ← Dev.byte, hbefore] at hafter
  exact absurd hafter (by decide)

end Sys2Proof.Proofs
end

section
/-! PROOFS. Blocks of an encrypted segment open again (R79, R97): the key stream of AES-256-GCM, applied twice, gives back the text, so a
block that `sealBlock` builds under a key passes the check of `openBlock`. -/

namespace Sys2Proof.Machine

/-! ### The lengths of byte strings -/

@[simp] theorem length_natLE (n v : Nat) : (natLE n v).length = n := by
  induction n generalizing v with
  | zero => rfl
  | succ n ih => simp [natLE, ih]

@[simp] theorem length_natBE (n v : Nat) : (natBE n v).length = n := by
  rw [natBE, List.length_reverse, length_natLE]

@[simp] theorem BlkHdr.length_bytes (h : BlkHdr) : h.bytes.length = 12 := length_natBE 12 _

@[simp] theorem length_xorBytes (a b : List Byte) : (xorBytes a b).length = min a.length b.length := by
  simp [xorBytes]

theorem xorBytes_xorBytes_cancel (a s : List Byte) (h : a.length ≤ s.length) : xorBytes (xorBytes a s) s = a := by
  induction a generalizing s with
  | nil => rfl
  | cons x a ih =>
    cases s with
    | nil => simp at h
    | cons y s =>
      have hx : x ^^^ y ^^^ y = x := by rw [BitVec.xor_assoc, BitVec.xor_self, BitVec.xor_zero]
      exact List.cons_eq_cons.mpr ⟨hx, ih s (by simpa using h)⟩

/-! ### The key stream -/

/-- The last round key has all its 16 bytes, so that every block of the key stream has. -/
def FullKeys (ks : List (List Byte)) : Prop := (ks.getD 14 []).length = 16

theorem FullKeys.length_aesBlock {ks : List (List Byte)} (h : FullKeys ks) (x : List Byte) : (aesBlock ks x).length = 16 := by
  have hlast : (ks.getD 14 []).length = 16 := h
  simp only [aesBlock, length_xorBytes, hlast, shiftRows, List.length_map, List.length_range, Nat.min_self]

section
variable {ks : List (List Byte)} (hks : FullKeys ks) (iv : List Byte)
include hks

theorem length_gcmCtr (n c : Nat) (l : List Byte) (h : l.length ≤ 16 * n) : (gcmCtr ks iv n c l).length = l.length := by
  induction n generalizing c l with
  | zero => simp_all [gcmCtr]
  | succ n ih =>
    have hrest : (l.drop 16).length ≤ 16 * n := by rw [List.length_drop]; omega
    simp only [gcmCtr, List.length_append, length_xorBytes, hks.length_aesBlock, ih _ _ hrest, List.length_take, List.length_drop]
    omega

/-- Counter mode is its own inverse: each block of 16 bytes meets the same block of the key stream twice. -/
theorem gcmCtr_gcmCtr (n c : Nat) (l : List Byte) (h : l.length ≤ 16 * n) : gcmCtr ks iv n c (gcmCtr ks iv n c l) = l := by
  induction n generalizing c l with
  | zero => simp_all [gcmCtr]
  | succ n ih =>
    have hrest : (l.drop 16).length ≤ 16 * n := by rw [List.length_drop]; omega
    have hstep (m : List Byte) : gcmCtr ks iv (n + 1) c m
        = xorBytes (m.take 16) (aesBlock ks (iv ++ natBE 4 c)) ++ gcmCtr ks iv n (c + 1) (m.drop 16) := rfl
    have hs := hks.length_aesBlock (iv ++ natBE 4 c)
    generalize aesBlock ks (iv ++ natBE 4 c) = s at hstep hs
    have hfirst : (xorBytes (l.take 16) s).length = min 16 l.length := by
      rw [length_xorBytes, hs, List.length_take]; omega
    have hcancel : xorBytes (xorBytes (l.take 16) s) s = l.take 16 :=
      xorBytes_xorBytes_cancel _ _ (by rw [List.length_take, hs]; exact Nat.min_le_left ..)
    have hlen := length_gcmCtr hks iv n (c + 1) (l.drop 16) hrest
    have hparts : (gcmCtr ks iv (n + 1) c l).take 16 = xorBytes (l.take 16) s
        ∧ (gcmCtr ks iv (n + 1) c l).drop 16 = gcmCtr ks iv n (c + 1) (l.drop 16) := by
      rw [hstep]
      by_cases hl : 16 ≤ l.length
      · exact ⟨List.take_left' (by omega), List.drop_left' (by omega)⟩
      · have hnil : gcmCtr ks iv n (c + 1) (l.drop 16) = [] := List.length_eq_zero_iff.mp (by rw [hlen, List.length_drop]; omega)
        rw [hnil, List.append_nil]
        exact ⟨List.take_of_length_le (by omega), List.drop_of_length_le (by omega)⟩
    rw [hstep, hparts.1, hparts.2, hcancel, ih _ _ hrest, List.take_append_drop]

theorem length_gcmText (l : List Byte) : (gcmText ks iv l).length = l.length := length_gcmCtr hks iv _ _ l (by omega)

theorem gcmText_gcmText (l : List Byte) : gcmText ks iv (gcmText ks iv l) = l := by
  rw [gcmText, length_gcmText hks, gcmText, gcmCtr_gcmCtr hks iv _ _ l (by omega)]

theorem length_gcmTag (aad ct : List Byte) : (gcmTag ks iv aad ct).length = 16 := by
  simp [gcmTag, hks.length_aesBlock]

end

/-! ### Blocks -/

theorem plainLen_le (ty : Nat) : plainLen ty ≤ 20 := by
  unfold plainLen
  split <;> decide

/-- What is authenticated only stands in the clear at the front of an encrypted block (R97). -/
theorem sealBlock_clear (k : SegKey) (ext : Nat) (h : BlkHdr) (payload : List Byte) :
    ∃ rest, sealBlock (some k) ext h payload = (h.bytes ++ payload).take (plainLen h.ty) ++ rest := ⟨_, List.append_assoc ..⟩

/-- A block of authenticated bytes, a text and its tag opens to the text decrypted (R79, R97). -/
theorem openBlock_of_tag (k : SegKey) (ext : Nat) (h : BlkHdr) (aad ct tag : List Byte) (haad : aad.length = plainLen h.ty)
    (hbody : (aad ++ ct).length = 268) (hks : FullKeys (aesKeys (natBE 32 k.key)))
    (htag : tag = (gcmTag (aesKeys (natBE 32 k.key)) (blockIv k ext h) aad ct).take 4)
    (hparse : BlkHdr.parse (aad ++ ct ++ tag) = h) (hctrl : ctrlOk (aad ++ ct ++ tag) = true) :
    openBlock (some k) ext (aad ++ ct ++ tag)
      = some (h, (aad ++ gcmText (aesKeys (natBE 32 k.key)) (blockIv k ext h) ct).drop 12) := by
  have htaglen : tag.length = 4 := by rw [htag, List.length_take, length_gcmTag hks]; rfl
  have htotal : (aad ++ ct ++ tag).length = 272 := by rw [List.length_append, hbody, htaglen]
  simp only [openBlock, hparse, hctrl, htotal, List.take_left' hbody, List.drop_left' hbody, List.take_left' haad,
    List.drop_left' haad, ← htag, ne_eq, not_true_eq_false, Bool.not_true, Bool.false_eq_true, or_self, if_false, if_true]

/-- A block under a key opens to its header and payload, where the bytes in the clear read back as that header. -/
theorem openBlock_sealBlock (k : SegKey) (ext : Nat) (h : BlkHdr) (payload : List Byte) (hlen : payload.length = 256)
    (hks : FullKeys (aesKeys (natBE 32 k.key))) (hparse : BlkHdr.parse (sealBlock (some k) ext h payload) = h)
    (hctrl : ctrlOk (sealBlock (some k) ext h payload) = true) :
    openBlock (some k) ext (sealBlock (some k) ext h payload) = some (h, payload) := by
  have hplain := plainLen_le h.ty
  have htext : (h.bytes ++ payload).length = 268 := by rw [List.length_append, h.length_bytes, hlen]
  have haad : ((h.bytes ++ payload).take (plainLen h.ty)).length = plainLen h.ty := by rw [List.length_take, htext]; omega
  have hbody : ((h.bytes ++ payload).take (plainLen h.ty) ++ gcmText (aesKeys (natBE 32 k.key)) (blockIv k ext h)
      ((h.bytes ++ payload).drop (plainLen h.ty))).length = 268 := by
    rw [List.length_append, length_gcmText hks, haad, List.length_drop, htext]; omega
  have hopen := openBlock_of_tag k ext h _ _ _ haad hbody hks rfl hparse hctrl
  rw [gcmText_gcmText hks, List.take_append_drop, List.drop_left' h.length_bytes] at hopen
  exact hopen

end Sys2Proof.Machine
end

section
/-! PROOFS. Received CAP blocks: why O13 and O17 fail as they stand. AUTH completes once the partner's FINISH has verified and a block at
its change point is accepted (R99, R101, R552), and the port enters ADMIT. An unsequenced block can be that one, since the change
point names a NONCE (R99): a partner that is in ADMIT already sends a CAP block (R117). What the two statements say of an unsequenced
block, `Dev.Unsequenced`, leaves this out: for it the port stays in AUTH. -/

namespace Sys2Proof.Machine

/-! ### A port whose AUTH waits for the partner's change point -/

/-- The receive key that AUTH has agreed. -/
def agreedKey : SegKey := ⟨0, 0, 0⟩

/-- The header of a CAP block with NONCE 1 that acknowledges nothing and grants no credit. -/
def capHdr : BlkHdr := ⟨9, false, false, false, 0, 0, 0, 0, 0, 0, 0, 0, 1⟩

/-- The payload of a CAP block: NONCE 1, a SUBTYPE, and zeros. -/
def capPayload (sub : Nat) : List Byte := natBE 8 1 ++ BitVec.ofNat 8 sub :: List.replicate 247 0

/-- That CAP block under the agreed key, as the lanes bring it. -/
def keyedCap (sub : Nat) : RxBlk := ⟨sealBlock (some agreedKey) 0 capHdr (capPayload sub), []⟩

/-- Trunk port TE in AUTH: the partner's FINISH has verified, and its change point, extended number 1 and NONCE 1, is still to come. -/
def verifiedAuth : Dev :=
  ((Dev.reset.set (LNK_STAT_STATE 0) 2).modSeg 0 (fun x => { x with verified := true })).modLnk 0
    (fun l => { l with rxNext := some (agreedKey, 1, 1) })

theorem verifiedAuth_reached : verifiedAuth.reached (portDomain 0) = true := by decide

theorem verifiedAuth_keysYoung : verifiedAuth.keysYoung 0 := by unfold Dev.keysYoung; decide

/-- A CAP block of NONCE 1 comes under the agreed key (R99). -/
theorem verifiedAuth_keyOf : verifiedAuth.keyOf 0 capHdr = some agreedKey ∧ (verifiedAuth.lnk 0).extOf capHdr.seq = 0 := by decide

/-! ### The block opens -/

theorem fullKeys_agreedKey : FullKeys (aesKeys (natBE 32 agreedKey.key)) := by unfold FullKeys; decide

theorem length_capPayload (sub : Nat) : (capPayload sub).length = 256 := by
  simp only [capPayload, List.length_append, length_natBE, List.length_cons, List.length_replicate]

/-- The header and the NONCE of the block stand in the clear. -/
theorem keyedCap_clear (sub : Nat) : ∃ rest, (keyedCap sub).bytes = capHdr.bytes ++ (natBE 8 1 ++ rest) := by
  have hclear : (capHdr.bytes ++ capPayload sub).take (plainLen capHdr.ty) = capHdr.bytes ++ natBE 8 1 := by
    rw [capPayload, ← List.append_assoc]
    exact List.take_left' (by rw [List.length_append, BlkHdr.length_bytes, length_natBE]; decide)
  obtain ⟨rest, hseal⟩ := sealBlock_clear agreedKey 0 capHdr (capPayload sub)
  exact ⟨rest, by rw [keyedCap, hseal, hclear, List.append_assoc]⟩

theorem parse_keyedCap (sub : Nat) : BlkHdr.parse (keyedCap sub).bytes = capHdr := by
  obtain ⟨rest, hbytes⟩ := keyedCap_clear sub
  rw [BlkHdr.parse, hbytes, List.take_left' capHdr.length_bytes, List.drop_left' capHdr.length_bytes,
    List.take_left' (length_natBE 8 1)]
  decide

theorem ctrlOk_keyedCap (sub : Nat) : ctrlOk (keyedCap sub).bytes = true := by
  obtain ⟨rest, hbytes⟩ := keyedCap_clear sub
  rw [ctrlOk, hbytes, List.take_left' capHdr.length_bytes]
  decide

theorem verifiedAuth_opened (sub : Nat) : verifiedAuth.opened 0 (keyedCap sub) = some (capHdr, capPayload sub) := by
  obtain ⟨hkey, hext⟩ := verifiedAuth_keyOf
  rw [Dev.opened, parse_keyedCap, hkey, hext]
  exact openBlock_sealBlock agreedKey 0 capHdr (capPayload sub) (length_capPayload sub) fullKeys_agreedKey (parse_keyedCap sub)
    (ctrlOk_keyedCap sub)

/-! ### What the model does: AUTH completes -/

/-- The device with the block counted on its key (R99). -/
def capCounted : Dev := (verifiedAuth.fecCounts 0 []).countRx 0 capHdr

theorem rx_verifiedAuth {kind : BlkHdr → List Byte → Bool} {sub : Nat} (f : BlkHdr → List Byte → Dev → Dev)
    (hkind : kind capHdr (capPayload sub) = true) :
    verifiedAuth.rx 0 (keyedCap sub) kind f = (f capHdr (capPayload sub) capCounted).keySpent 0 := by
  rw [Dev.rx, verifiedAuth_opened]
  simp only [hkind]
  rfl

/-- With a CAP block of SUBTYPE CAP at the change point the port enters ADMIT (R101, R552). -/
theorem capRx_enters_admit : (verifiedAuth.rx 0 (keyedCap 0) (freeKind 9 (some 0)) (Dev.capRx 0)).linkState 0 = 3 := by
  rw [rx_verifiedAuth _ (by decide)]
  decide

/-- With a COLLIDE that answers no request at the change point the port enters ADMIT. -/
theorem collideRx_enters_admit :
    (verifiedAuth.freeRx 0 (keyedCap 4) 9 (some 4) (fun l d => d.collideRx 0 (capOf l))).linkState 0 = 3 := by
  rw [Dev.freeRx, rx_verifiedAuth _ (by decide)]
  decide

theorem exec_capRx_of_reached (p : Fin 10) (b : RxBlk) (s : State) (h : s.dev.reached (portDomain p) = true) :
    exec (.capRx p b) s = .next { s with dev := s.dev.rx p b (freeKind 9 (some 0)) (Dev.capRx p) } := by
  show State.runPins _ _ _ = _
  simp [State.runPins, State.run_eq, h]

theorem exec_collideRx_of_reached (p : Fin 10) (b : RxBlk) (s : State) (h : s.dev.reached (portDomain p) = true) :
    exec (.collideRx p b) s = .next { s with dev := s.dev.freeRx p b 9 (some 4) (fun l d => d.collideRx p (capOf l)) } := by
  show State.runPins _ _ _ = _
  simp [State.runPins, State.run_eq, h]

/-! ### What the statements say: AUTH goes on -/

/-- The device with the fields of the header read (R81, R91). -/
def capHeaderRead : Dev := (capCounted.modLnk 0 (fun l => { l with nonceRx := capHdr.nonce })).fields 0 capHdr

theorem capCounted_accepts : capCounted.linkUp 0 = true
    ∧ ¬ ((capCounted.keyOf 0 capHdr).isSome ∧ capHdr.nonce ≤ (capCounted.lnk 0).nonceRx)
    ∧ capHeaderRead.linkUp 0 = true ∧ capHeaderRead.ahead 0 capHdr.seq = 0 := by decide

theorem capCounted_not_down : ¬ capCounted.linkState 0 = 0 := by decide

theorem capHeaderRead_in_auth : capHeaderRead.linkState 0 = 2 ∧ (capHeaderRead.lnk 0).mreq.pending = none := by decide

/-- As the statements have it the port is still in AUTH behind the block, where what the block carries leaves its link state. -/
theorem unsequenced_stays_in_auth {P : Dev → Dev → Prop} {e : Dev}
    (hP : ∀ z : Dev, (z.lnk 0).mreq.pending = none → P z e → e.linkState 0 = z.linkState 0)
    (h : Dev.Unsequenced 0 capHdr P capCounted e) : e.linkState 0 = 2 := by
  obtain ⟨hup, hfresh, hstill, hahead⟩ := capCounted_accepts
  obtain ⟨hstate, hpending⟩ := capHeaderRead_in_auth
  have hz : (capCounted.modLnk 0 (fun l => { l with nonceRx := if capHdr.nonce = 0 then l.nonceRx else capHdr.nonce })).fields 0 capHdr
      = capHeaderRead := rfl
  have hread : P capHeaderRead e := by
    simpa only [Dev.Unsequenced, hz, hup, hfresh, hstill, hahead, Bool.true_eq_false, or_self, reduceIte, show ¬ (1 ≤ 0) by decide,
      false_and] using h
  rw [hP capHeaderRead hpending hread, hstate]

/-- What a statement about a received block says of one that reaches a port with young keys and opens. -/
theorem Does.receives {c : Instr} {s t : State} {p : Nat} {b : RxBlk} {kind : BlkHdr → List Byte → Bool}
    {P : BlkHdr → List Byte → Dev → Dev → Prop} {h : BlkHdr} {l : List Byte}
    (hdoes : Does c s (fun d d' => if d.reached (portDomain p) = false then d' = d else d.Receives p b kind P d'))
    (hexec : exec c s = .next t) (hreached : s.dev.reached (portDomain p) = true) (hyoung : s.dev.keysYoung p)
    (hopened : s.dev.opened p b = some (h, l)) (hkind : kind h l = true) :
    P h l ((s.dev.fecCounts p b.fec).countRx p h) t.dev := by
  obtain ⟨u, hu, -, hclause⟩ := hdoes
  rw [hexec] at hu
  injection hu with hu
  subst hu
  simpa [hreached, Dev.Receives, hopened, hkind, hyoung] using hclause

theorem verifiedAuth_receives {c : Instr} {e : Dev} {sub : Nat} {kind : BlkHdr → List Byte → Bool}
    {P : BlkHdr → List Byte → Dev → Dev → Prop}
    (h : Does c ⟨verifiedAuth, []⟩ (fun d d' => if d.reached (portDomain 0) = false then d' = d
      else d.Receives 0 (keyedCap sub) kind P d')) (hexec : exec c ⟨verifiedAuth, []⟩ = .next ⟨e, []⟩)
    (hkind : kind capHdr (capPayload sub) = true) : P capHdr (capPayload sub) capCounted e :=
  h.receives hexec verifiedAuth_reached verifiedAuth_keysYoung (verifiedAuth_opened sub) hkind

/-- What O13 says of a CAP block in service, at the device that the model reaches with it. -/
theorem verifiedAuth_capRx {Q : BlkHdr → List Byte → Dev → Dev → Prop} {P : List Byte → Dev → Dev → Prop}
    (h : Does (.capRx 0 (keyedCap 0)) ⟨verifiedAuth, []⟩ (fun d d' => if d.reached (portDomain 0) = false then d' = d
      else d.Receives 0 (keyedCap 0) (freeKind 9 (some 0))
        (fun h l y e => if y.linkState 0 = 0 then Q h l y e else Dev.Unsequenced 0 h (P l) y e) d')) :
    ∃ e : Dev, Dev.Unsequenced 0 capHdr (P (capPayload 0)) capCounted e ∧ e.linkState 0 = 3 := by
  refine ⟨verifiedAuth.rx 0 (keyedCap 0) (freeKind 9 (some 0)) (Dev.capRx 0), ?_, capRx_enters_admit⟩
  have hclause := verifiedAuth_receives (P := fun h l y e => if y.linkState 0 = 0 then Q h l y e else Dev.Unsequenced 0 h (P l) y e)
    h (exec_capRx_of_reached 0 (keyedCap 0) ⟨verifiedAuth, []⟩ verifiedAuth_reached) (by decide)
  rwa [if_neg capCounted_not_down] at hclause

/-- What O17 says of a COLLIDE, at the device that the model reaches with it. -/
theorem verifiedAuth_collideRx {P : List Byte → Dev → Dev → Prop}
    (h : Does (.collideRx 0 (keyedCap 4)) ⟨verifiedAuth, []⟩ (fun d d' => if d.reached (portDomain 0) = false then d' = d
      else d.ReceivesFree 0 (keyedCap 4) 9 (some 4) P d')) :
    ∃ e : Dev, Dev.Unsequenced 0 capHdr (P (capPayload 4)) capCounted e ∧ e.linkState 0 = 3 :=
  ⟨verifiedAuth.freeRx 0 (keyedCap 4) 9 (some 4) (fun l d => d.collideRx 0 (capOf l)),
    verifiedAuth_receives (P := fun h l => Dev.Unsequenced 0 h (P l)) h
      (exec_collideRx_of_reached 0 (keyedCap 4) ⟨verifiedAuth, []⟩ verifiedAuth_reached) (by decide),
    collideRx_enters_admit⟩

end Sys2Proof.Machine

namespace Sys2Proof.Proofs
open Sys2Proof Sys2Proof.Machine

/-- Refutes O13: at `verifiedAuth` the CAP block `keyedCap 0` is the first at the partner's change point, so AUTH completes and the port
is in ADMIT, link state 3; the clause on CAP_RX asks that the link state stays as it was, 2. -/
theorem not_capAndBlotterComplete : ¬ Obligations.CapAndBlotterComplete := by
  unfold Obligations.CapAndBlotterComplete
  intro h
  obtain ⟨-, hcap, -⟩ := h ⟨verifiedAuth, []⟩
  obtain ⟨e, hclause, hadmit⟩ := verifiedAuth_capRx (hcap 0 (keyedCap 0))
  have hauth : e.linkState 0 = 2 := unsequenced_stays_in_auth (fun z _ hz => by
    split at hz
    · rw [hz]
    · obtain ⟨-, -, -, hstate⟩ := hz
      exact hstate) hclause
  omega

/-- Refutes O17: at `verifiedAuth` no request is pending, so the clause on COLLIDE_RX asks that the COLLIDE `keyedCap 4` does nothing
beyond its header, and the port stays in AUTH, link state 2; but it is the first block at the partner's change point, so AUTH
completes and the port is in ADMIT, link state 3. -/
theorem not_modeRequestsComplete : ¬ Obligations.ModeRequestsComplete := by
  unfold Obligations.ModeRequestsComplete
  intro h
  obtain ⟨-, -, -, -, -, hcollide, -⟩ := h ⟨verifiedAuth, []⟩
  obtain ⟨e, hclause, hadmit⟩ := verifiedAuth_collideRx (hcollide 0 (keyedCap 4))
  have hauth : e.linkState 0 = 2 := unsequenced_stays_in_auth (fun z hpending hz => by
    have hsame : e = z := by simpa [hpending] using hz
    rw [hsame]) hclause
  omega

end Sys2Proof.Proofs
end

section
/-! PROOFS. The station registers and the Enique agent: why O16 fails as it stands. Its clause on ASSIGN asks that NUM takes the assigned
number whenever the hub has not heard the transaction. But STN_ID is a register that software writes too, and a software write wins
over a hardware update of the same cycle (R14): ASSIGN in the cycle of such a write leaves the number that software wrote. -/

namespace Sys2Proof.Machine

/-- The device after reset, with STN_ID written in the present cycle: NUM 3, ROLE 0, DEPTH 0, VALID 1. -/
def numWritten : Dev := stnIdWrite 0x1003 (Dev.reset.noteWrite STN_ID_A)

/-- The command STN_ID_WRITE leads there from reset. -/
theorem exec_stnIdWrite_reset : exec (.stnIdWrite 0x1003) State.reset = .next ⟨numWritten, []⟩ := rfl

/-- The state meets what the clause asks for before it speaks of NUM: the agent's domain is ON and the transaction has not been heard. -/
theorem numWritten_hears : numWritten.domOn 3 = true ∧ numWritten.Unheard 1 2 := by
  unfold Dev.Unheard
  decide

/-- Behind ASSIGN of the number 5 the number is still the one that software wrote in the same cycle (R14). -/
theorem assignRx_keeps_writtenNum : (assignRx none 1 2 5 0 0 false numWritten).get STN_ID_NUM = 3 := by decide

/-- ASSIGN for this hub where the agent's domain is ON. -/
theorem exec_assignRx_of_domOn (origin : BitVec 12) (xid : Word) (num : BitVec 12) (role : Fin 4) (depth : Byte) (ring : Bool)
    (s : State) (h : s.dev.domOn 3 = true) : exec (.assignRx none origin xid num role depth ring) s
      = .next { s with dev := assignRx none origin.toNat xid.toNat num.toNat role depth.toNat ring s.dev } := by
  show State.runOn _ _ _ = _
  simp [State.runOn, State.run_eq, h]

end Sys2Proof.Machine

namespace Sys2Proof.Proofs
open Sys2Proof Sys2Proof.Machine

/-- Refutes O16: at `numWritten` the clause on ASSIGN asks that NUM takes the assigned number 5, but STN_ID was written in the same
cycle, and the written number 3 stands. -/
theorem not_stationMessagesComplete : ¬ Obligations.StationMessagesComplete := by
  unfold Obligations.StationMessagesComplete
  intro h
  obtain ⟨-, -, -, hassign, -⟩ := h ⟨numWritten, []⟩
  obtain ⟨t, hexec, -, hclause⟩ := hassign none 1 2 5 0 0 false
  obtain ⟨hon, hunheard⟩ := numWritten_hears
  rw [exec_assignRx_of_domOn 1 2 5 0 0 false ⟨numWritten, []⟩ hon] at hexec
  injection hexec with hexec
  subst hexec
  rw [if_neg (by simp [hon])] at hclause
  obtain ⟨-, hassigned⟩ := hclause
  have hnum := hassigned hunheard
  rw [if_neg (fun hrole => absurd hrole.1 (by decide)), if_neg (fun hrole => absurd hrole.1 (by decide))] at hnum
  obtain ⟨hnum, -⟩ := hnum
  exact absurd (assignRx_keeps_writtenNum.symm.trans hnum) (by decide)

end Sys2Proof.Proofs
end

section
/-! PROOFS. The servo and the timed pins: why O21 and O22 fail as they stand. O21 asks that SERVO_DISABLE leaves memory as it was. But the
servo's change of state goes to Sillage (R222, R240); where the trace FIFO is full the entry is dropped, which raises SIL_EVT.DROP
(R238), and an enabled flag posts an event record into a ring that lies in memory (R333, R616). O22 asks that TIO_TRAIN_PERIOD changes
no register but the pin's LEVEL, and asks it of every state. But the pulse puts the pin back with the depths that its status register
shows, and in a state whose TIO_STAT does not show the depth of the pin's queue, which the statement does not shut out, QDEPTH changes
too. -/

namespace Sys2Proof.Machine

/-! ### A servo that is traced into a full FIFO -/

/-- The servo in FREERUN, with Sillage running for every source and its FIFO of 256 entries full (R222, R238). -/
def traceFull : Dev :=
  let d := (Dev.reset.set TMB_SRV_STAT_STATE 1).set SIL_CTL_EN 1
  { d with sil := { d.sil with fifo := List.replicate 256 ⟨0, 0x14, 0x0003, 0⟩ } }

/-- The same hub with SIL_EVT.DROP enabled, and the common records (source 0) routed to event queue 0, whose ring of 16 records begins
at address 0 (R241, R348, R349). -/
def traceDropRouted : Dev :=
  ((((traceFull.set SIL_EVT_EN_DROP 1).set (SYN_EVROUTEk_QUEUE0 0) 0).set (SYN_EVROUTEk_EN0 0) 1).set (SYN_EVQq_CFG_EN 0) 1).set
    (SYN_EVQq_CFG_LOG2 0) 4

/-- An entry of an enabled source that finds the FIFO full is dropped (R238). -/
theorem Dev.silPost_of_full (d : Dev) {src : Nat} (code args : Nat) (hrun : d.flag SIL_CTL_EN = true) (hsrc : src < 32)
    (hmask : (d.get SIL_SRC_EN_LO_MASK).testBit src = true) (hfull : 256 ≤ d.sil.fifo.length) :
    d.silPost src code args = d.silDrop := by
  simp [Dev.silPost, hrun, hsrc, hmask, Nat.not_lt.mpr hfull]

/-- What SERVO_DISABLE leaves of a servo before its change of state is traced (R222). -/
def servoOff (d : Dev) : Dev :=
  (((((d.set TMB_SRV_CTL_EN 0).set (TMB_TBn_STAT_OWNED 0) 0).setF 0 d.time.servo.period).set TMB_SRV_STAT_STATE 0).modServo
    (fun s => { s with good := 0, bad := 0, hold := 0 })).set TMB_SRV_STAT_SOURCE 0xFFF

theorem servoDisable_of_state_ne (d : Dev) (h : d.get TMB_SRV_STAT_STATE ≠ 0) :
    servoDisable d = (servoOff d).silPost 0x14 0x0003 (silArg 16 (d.get TMB_SRV_STAT_STATE) + silArg 17 0) := by
  have hstate : (((d.set TMB_SRV_CTL_EN 0).set (TMB_TBn_STAT_OWNED 0) 0).setF 0 d.time.servo.period).get TMB_SRV_STAT_STATE
      = d.get TMB_SRV_STAT_STATE := by
    rw [Dev.setF, Dev.get_set_ne _ _ (by decide), Dev.modServo, Dev.modTime_get, Dev.get_set_ne _ _ (by decide),
      Dev.get_set_ne _ _ (by decide)]
  simp [servoDisable, Dev.srvGo, servoOff, hstate, h]

/-- The state's FIFO is full, so the entry of the servo's way to OFF is dropped (R238). -/
theorem servoDisable_drops_trace : servoDisable traceDropRouted = (servoOff traceDropRouted).silDrop := by
  have hfull : (servoOff traceDropRouted).sil.fifo.length = 256 := List.length_replicate
  rw [servoDisable_of_state_ne _ (by decide)]
  exact Dev.silPost_of_full _ _ _ (by decide) (by decide) (by decide) (Nat.le_of_eq hfull.symm)

/-- SERVO_DISABLE then puts the record of DROP, code 0x0102, at the ring's first slot, which held 0. -/
theorem servoDisable_writes_drop_record :
    (servoDisable traceDropRouted).byte 1 = 1 ∧ traceDropRouted.byte 1 = 0 := by
  rw [servoDisable_drops_trace]
  decide

/-- SERVO_DISABLE where CORE is ON. -/
theorem exec_servoDisable_of_domOn (s : State) (h : s.dev.domOn 3 = true) :
    exec .servoDisable s = .next { s with dev := servoDisable s.dev } := by
  show State.runOn _ _ _ = _
  simp [State.runOn, State.run_eq, h]

/-! ### A pulse train at a pin whose status register does not show its queue -/

/-- Pin 0 in PERIODIC mode with a running train and one event queued, while TIO_STAT.QDEPTH of the pin reads 0. -/
def depthUnshown : Dev :=
  (Dev.reset.set (TIO_CFGk_MODE 0) 5).modTime
    (fun x => { x with pins := [(0, { TioPin.reset with evq := [⟨0, 0, 4, 0⟩], train := some 1 })] })

/-- The state meets what the clause asks for before it speaks of the registers: the pin is in PERIODIC mode
and its train runs. -/
theorem depthUnshown_trainRuns : depthUnshown.domOn 3 = true ∧ depthUnshown.get (TIO_CFGk_MODE 0) = 5
    ∧ (depthUnshown.pin 0).train.isSome = true := by decide

/-- The next pulse of the train makes QDEPTH show the event that waits. -/
theorem tioTrainPeriod_shows_depth : (tioTrainPeriod 0 depthUnshown).get (TIO_STATk_QDEPTH 0) = 1
    ∧ depthUnshown.get (TIO_STATk_QDEPTH 0) = 0 := by decide

/-- TIO_TRAIN_PERIOD where CORE is ON. -/
theorem exec_tioTrainPeriod_of_domOn (k : Fin 16) (s : State) (h : s.dev.domOn 3 = true) :
    exec (.tioTrainPeriod k) s = .next { s with dev := tioTrainPeriod k s.dev } := by
  show State.runOn _ _ _ = _
  simp [State.runOn, State.run_eq, h]

end Sys2Proof.Machine

namespace Sys2Proof.Proofs
open Sys2Proof Sys2Proof.Machine

/-- Refutes O21: at `traceDropRouted` the clause on SERVO_DISABLE asks that memory stays as it was, but the trace entry of the servo's
way to OFF is dropped, and the record of DROP is written into its event queue's ring. -/
theorem not_timeBaseAndServoComplete : ¬ Obligations.TimeBaseAndServoComplete := by
  unfold Obligations.TimeBaseAndServoComplete
  intro h
  obtain ⟨-, -, -, -, -, -, -, -, hdisable, -⟩ := h ⟨traceDropRouted, []⟩
  obtain ⟨t, hexec, -, hclause⟩ := hdisable
  have hon : traceDropRouted.domOn 3 = true := by decide
  rw [exec_servoDisable_of_domOn ⟨traceDropRouted, []⟩ hon] at hexec
  injection hexec with hexec
  subst hexec
  rw [if_neg (by simp [hon])] at hclause
  obtain ⟨-, -, -, -, -, hmem⟩ := hclause
  obtain ⟨hafter, hbefore⟩ := servoDisable_writes_drop_record
  rw [Dev.byte, hmem, ← Dev.byte, hbefore] at hafter
  exact absurd hafter (by decide)

/-- Refutes O22: at `depthUnshown` the clause on TIO_TRAIN_PERIOD asks that no register changes but LEVEL, but QDEPTH of the pin goes
from 0 to 1. -/
theorem not_ppsAndTimedPinsComplete : ¬ Obligations.PpsAndTimedPinsComplete := by
  unfold Obligations.PpsAndTimedPinsComplete
  intro h
  obtain ⟨-, -, -, -, -, -, -, -, -, -, -, htrain, -⟩ := h ⟨depthUnshown, []⟩
  obtain ⟨t, hexec, -, hclause⟩ := htrain 0
  obtain ⟨hon, hmode, hruns⟩ := depthUnshown_trainRuns
  rw [exec_tioTrainPeriod_of_domOn 0 ⟨depthUnshown, []⟩ hon] at hexec
  injection hexec with hexec
  subst hexec
  rw [if_neg (by simp [hon]), if_pos ⟨hmode, hruns⟩] at hclause
  obtain ⟨-, -, -, hothers⟩ := hclause
  have hkept : (tioTrainPeriod 0 depthUnshown).get (TIO_STATk_QDEPTH 0) = depthUnshown.get (TIO_STATk_QDEPTH 0) :=
    hothers (TIO_STATk_QDEPTH 0) (by decide)
  obtain ⟨hafter, hbefore⟩ := tioTrainPeriod_shows_depth
  omega

end Sys2Proof.Proofs
end

section
/-! PROOFS. Stores, accord instructions and control transfers: why O30, O32 and O40 fail as they stand. O30 asks that a store in register
space leaves memory as it was. But one to an unmapped offset posts BUS_UNMAPPED (R7), and a routed record is written into the ring of
its event queue, which lies in memory (R333). O32 asks that ACB NOW advances the pc by one instruction, and asks it of every state. But
an accord that ends lets the thread it belongs to go on behind FENCE.T (R291), and the statement does not shut out a thread that runs
while it is still marked as waiting there. O40 asks that SET_INTERFACE takes effect at its status stage, and asks it of every state. But
the accords held for the tag commit first, and what falls due then (R290, R291) may name, in a state that the statement does not shut
out, a thread number whose registers would stand in the USB block. -/

namespace Sys2Proof.Machine

/-! ### A command that is one instruction which its thread issues -/

/-- What a statement about a command says of the state that the command leads to. -/
theorem Does.of_exec {c : Instr} {s t : State} {P : Dev → Dev → Prop} (h : Does c s P) (hexec : exec c s = .next t) :
    P s.dev t.dev := by
  obtain ⟨u, hu, -, hP⟩ := h
  rw [hexec] at hu
  injection hu with hu
  exact hu ▸ hP

section
variable {d : Dev} {t : Fin 32} {i : Instr} {p : Nat}

theorem Dev.mayIssue.fetchesOther_eq_false (h : d.mayIssue t i p) : d.fetchesOther t i = false := by
  obtain ⟨-, hload, -, hinsn, -⟩ := h
  simp [Dev.fetchesOther, Dev.issueView, hload, hinsn]

/-- An instruction that a thread issues does what its meaning says. -/
theorem Dev.mayIssue.instr_eq (h : d.mayIssue t i p) (len : Nat) (u : Uses) (f : Dev → Dev) : d.instr t p len u f = f d := by
  obtain ⟨hrun, hload, hfetch, -, hpred⟩ := h
  simp [Dev.instr, hrun, hload, hfetch, hpred]

theorem Dev.mayIssue.issued_iff (h : d.mayIssue t i p) (len : Nat) (P : Prop) (e : Dev) : d.Issued t i p len P e ↔ P := by
  have hother := h.fetchesOther_eq_false
  obtain ⟨hrun, hload, hfetch, -, hpred⟩ := h
  simp [Dev.Issued, hother, hrun, hload, hfetch, hpred]

end

/-- What a statement about an instruction says of the device that the instruction leaves, where its thread issues it. -/
theorem Does.of_issued {c i : Instr} {s : State} {t : Fin 32} {p len : Nat} {P : Dev → Dev → Prop} {g : Dev → Dev} {e : Dev}
    (h : Does c s (fun d d' => d.Issued t i p len (P d d') d')) (hmay : s.dev.mayIssue t i p) (hexec : exec c s = s.issue t i g)
    (he : g s.dev = e) : P s.dev e := by
  have hissue : Dev.issue t i g s.dev = e := by
    rw [Dev.issue, hmay.fetchesOther_eq_false, ← he]
    rfl
  have hclause := h.of_exec (hexec.trans (s.run_eq _))
  rw [hissue] at hclause
  exact (hmay.issued_iff _ _ _).mp hclause

/-- Thread 0 in RUN, with the word `w` at its pc, address 0. -/
def fetchingWord (w : Nat) : Dev := (Dev.reset.set (SYN_THn_STAT_STATE 0) 1).store 0 4 w

/-! ### What retiring an instruction leaves -/

@[simp] theorem Dev.thr_modThr_same (d : Dev) (t : Nat) (f : Thr → Thr) : (d.modThr t f).thr t = f (d.thr t) := Tab.get_set_same ..

@[simp] theorem Dev.thr_set (d : Dev) (g : Fld) (v t : Nat) : (d.set g v).thr t = d.thr t := rfl

@[simp] theorem Dev.thr_perfAdd (d : Dev) (u ev t : Nat) : (d.perfAdd u ev).thr t = d.thr t := rfl

@[simp] theorem Dev.update_mem (d : Dev) (f : Fld) (v : Nat) : (d.update f v).mem = d.mem := by
  unfold Dev.update
  split <;> rfl

@[simp] theorem Dev.thr_update (d : Dev) (f : Fld) (v t : Nat) : (d.update f v).thr t = d.thr t := by
  unfold Dev.update
  split <;> rfl

@[simp] theorem Dev.putStartPc_mem (d : Dev) (t pc : Nat) : (d.putStartPc t pc).mem = d.mem := by
  rw [Dev.putStartPc, Dev.update_mem, Dev.update_mem]

@[simp] theorem Dev.thr_putStartPc (d : Dev) (u pc t : Nat) : (d.putStartPc u pc).thr t = d.thr t := by
  rw [Dev.putStartPc, Dev.thr_update, Dev.thr_update]

@[simp] theorem Dev.stopIfAsked_mem (d : Dev) (t : Nat) : (d.stopIfAsked t).mem = d.mem := by
  unfold Dev.stopIfAsked
  split
  · rw [Dev.set_mem, Dev.modThr_mem, Dev.putStartPc_mem]
  · rfl

@[simp] theorem Dev.stopIfAsked_pc (d : Dev) (t : Nat) : ((d.stopIfAsked t).thr t).pc = (d.thr t).pc := by
  unfold Dev.stopIfAsked
  split
  · rw [Dev.thr_set, Dev.thr_modThr_same, Dev.thr_putStartPc]
  · rfl

@[simp] theorem Dev.retire_mem (d : Dev) (t len : Nat) : (d.retire t len).mem = d.mem := by
  rw [Dev.retire, Dev.stopIfAsked_mem]
  rfl

@[simp] theorem Dev.retire_pc (d : Dev) (t len : Nat) : ((d.retire t len).thr t).pc = ((d.thr t).pc + len) % 2 ^ 40 := by
  rw [Dev.retire, Dev.stopIfAsked_pc, Dev.thr_set, Dev.thr_set, Dev.thr_perfAdd, Dev.thr_modThr_same]

@[simp] theorem Dev.wr_pc (d : Dev) (t r : Nat) (v : DWord) : ((d.wr t r v).thr t).pc = (d.thr t).pc := by
  unfold Dev.wr
  split
  · rfl
  · rw [Dev.thr_modThr_same]

/-! ### A store to an unmapped offset of register space -/

section
variable {d : Dev} {t a v len : Nat} (hregs : d.region a = .regs) (halign : a % 4 = 0) (hspent : d.spent t = false)
  (hopen : d.openOf t = none)
include hregs halign hspent hopen

/-- The store is discarded, and BUS_UNMAPPED is posted (R7). -/
theorem Dev.storeInstr_unmapped (hoffset : findReg a = none) :
    d.storeInstr t a 4 v len = (d.busEvent 0x0001 a t).retire t len := by
  simp [Dev.storeInstr, Dev.storeFault, Dev.plainStore, Dev.postWrite, hregs, halign, hspent, hopen, hoffset]

/-- What O30 says of memory behind a store of 4 bytes in register space, outside an accord. -/
theorem Dev.Stores.mem_of_regs {e : Dev} (h : d.Stores t a 4 v len e) : e.mem = d.mem := by
  simp only [Dev.Stores, hregs, halign, hspent, hopen, ne_eq, not_true_eq_false, and_false, or_self, reduceCtorEq, reduceIte,
    Bool.false_eq_true, Option.isSome_none] at h
  exact h.2

end

/-- A store instruction of 4 bytes, issued at such an offset. -/
theorem Dev.mayIssue.st_unmapped {d : Dev} {t : Fin 32} {i : Instr} {p rs1 a : Nat} {imm : Imm 13} (h : d.mayIssue t i p)
    (haddr : d.ea t rs1 imm = a) (hregs : d.region a = .regs) (halign : a % 4 = 0) (hspent : d.spent t = false)
    (hopen : d.openOf t = none) (hoffset : findReg a = none) (rs2 : Nat) :
    d.st t p rs2 rs1 imm 4 = (d.busEvent 0x0001 a t).retire t (immLen imm) := by
  rw [Dev.st, h.instr_eq, haddr, Dev.storeInstr_unmapped hregs halign hspent hopen hoffset]

/-- Thread 0 at ST32 of w2 through w1 (R360), which holds an offset of register space where no register lies. The records of the register
bus (source 0x0F) are routed to event queue 0, whose ring of 16 records begins at 0x100 (R337, R348, R349). -/
def unmappedStore : Dev :=
  ((((((fetchingWord 0x0D082000).wr 0 1 0x1F000000).set (SYN_EVROUTEk_QUEUE3 3) 0).set (SYN_EVROUTEk_EN3 3) 1).set
    (SYN_EVQq_CFG_EN 0) 1).set (SYN_EVQq_CFG_LOG2 0) 4).set (SYN_EVQq_CFG_BASE 0) 16

theorem unmappedStore_issues : unmappedStore.mayIssue 0 (.st32 0 0 2 1 (.short 0)) 0 := by unfold Dev.mayIssue; decide

/-- The state meets what the clause asks for before it speaks of memory: an aligned address in register space, and no accord. -/
theorem unmappedStore_plain : unmappedStore.ea 0 1 (.short 0) = 0x1F000000 ∧ unmappedStore.region 0x1F000000 = .regs
    ∧ unmappedStore.spent 0 = false ∧ unmappedStore.openOf 0 = none ∧ findReg 0x1F000000 = none := by decide

/-- BUS_UNMAPPED, code 0x0001, stands at the ring's first slot then, which held 0. -/
theorem unmappedStore_record : (unmappedStore.busEvent 0x0001 0x1F000000 (0 : Fin 32)).byte 0x100 = 1
    ∧ unmappedStore.byte 0x100 = 0 := by decide

/-! ### A thread that runs while it is marked as waiting in FENCE.T -/

/-- Thread 0 at ACB NOW into w1, with an OPEN accord in slot 0; the thread is in RUN, but still marked as waiting for its closed
accords. -/
def runningWaiter : Dev :=
  ((fetchingWord 0x18040000).set (ACD_SLOTn_STAT_STATE 0) 1).modThr 0 (fun x => { x with wait := .accords })

theorem runningWaiter_issues : runningWaiter.mayIssue 0 (.acbNow 0 0 1) 0 := by unfold Dev.mayIssue; decide

/-- ACB NOW or AT inside an OPEN accord aborts it and retires (R371). -/
theorem Dev.acbLocal_pc_of_openOf {d : Dev} {t m : Nat} (hopen : d.openOf t = some m) (rd kind tb : Nat) (at_ : Ts) :
    ((d.acbLocal t rd kind tb at_).thr t).pc = (((d.abortSlot m 8).thr t).pc + 4) % 2 ^ 40 := by
  simp only [Dev.acbLocal, Dev.accordStatus, hopen, Dev.retire_pc, Dev.wr_pc]

/-- With the abort the wait of FENCE.T ends, and the thread goes on behind it (R291): ACB NOW then retires from pc 4, not from pc 0. -/
theorem runningWaiter_abort : runningWaiter.openOf 0 = some 0 ∧ (runningWaiter.thr 0).pc = 0
    ∧ ((runningWaiter.abortSlot 0 8).thr 0).pc = 4 := by decide

/-! ### A committed accord whose swaps a thread number out of range waits for -/

/-- A thread number that no hub has: the start pc of a thread of that number would stand where USB_SETUP1 stands. -/
def strayThread : Nat := (USB_SETUP1_A - SYN_THn_PC_LO_A 0) / 16

/-- A SET_INTERFACE of interface 1 to setting 1, which hardware serves, before its status stage (R471), with an accord held for its tag
in slot 0, and a swap without words that is due, which the thread out of range waits for with STOP written (R291, R319). -/
def strayWaiter : Dev :=
  (((((((Dev.reset.set USB_CTRL_STAT_PHASE 2).set USB_SETUP0_bRequest 11).set USB_SETUP0_wValue 1).set USB_SETUP1_wIndex 1).set
    (ACD_SLOTn_STAT_STATE 0) 3).modAcc (fun a =>
      { a with slots := [(0, { AccSlot.reset with tag := some 0 })], swaps := [⟨0, 0, [], some strayThread⟩] })).modThr strayThread
        (fun x => { x with wait := .swaps, stop := true })).modUsb (fun u => { u with armed := true, fn := { u.fn with hw := true } })

/-- The state meets what the clause asks for before it speaks of the alternate setting. -/
theorem strayWaiter_setInterface : strayWaiter.reached 12 = true ∧ strayWaiter.phase = 2 ∧ strayWaiter.usb.armed = true
    ∧ strayWaiter.usb.fn.hw = true ∧ strayWaiter.get USB_SETUP0_bRequest = 11 ∧ strayWaiter.get USB_SETUP1_wIndex = 1
    ∧ strayWaiter.get USB_SETUP0_wValue = 1 := by decide

/-- With the commit of the held accord the waiting thread goes on and stops at pc 4 (R291, R319). Its start pc shows that, so wIndex reads 4,
and SET_INTERFACE leaves interface 1 as it was. -/
theorem statusStageComplete_strayWaiter : (statusStageComplete strayWaiter).usb.alt = false := by decide

/-- STATUS_STAGE_COMPLETE where the inputs of USB reach it. -/
theorem exec_statusStageComplete_of_reached (s : State) (h : s.dev.reached 12 = true) :
    exec .statusStageComplete s = .next { s with dev := statusStageComplete s.dev } := by
  show State.runPins _ _ _ = _
  simp [State.runPins, State.run_eq, h]

end Sys2Proof.Machine

namespace Sys2Proof.Proofs
open Sys2Proof Sys2Proof.Machine

/-- Refutes O30: at `unmappedStore` the clause on ST32 asks that memory stays as it was, but the store posts BUS_UNMAPPED, which is
written into the ring of event queue 0. -/
theorem not_synoshStoresAndAtomicsComplete : ¬ Obligations.SynoshStoresAndAtomicsComplete := by
  unfold Obligations.SynoshStoresAndAtomicsComplete
  intro h
  obtain ⟨-, -, hst32, -⟩ := h ⟨unmappedStore, []⟩
  obtain ⟨haddr, hregs, hspent, hopen, hoffset⟩ := unmappedStore_plain
  have hstores := (hst32 0 0 2 1 (.short 0)).of_issued unmappedStore_issues rfl
    (unmappedStore_issues.st_unmapped haddr hregs rfl hspent hopen hoffset 2)
  have hmem := hstores.mem_of_regs (a := 0x1F000000) hregs rfl hspent hopen
  rw [Dev.retire_mem] at hmem
  obtain ⟨hafter, hbefore⟩ := unmappedStore_record
  rw [Dev.byte, hmem, ← Dev.byte, hbefore] at hafter
  exact absurd hafter (by decide)

/-- Refutes O32: at `runningWaiter` the clause on ACB NOW asks that the pc goes from 0 to 4, but it goes to 8. -/
theorem not_synoshEventsAccordsAndChecksComplete : ¬ Obligations.SynoshEventsAccordsAndChecksComplete := by
  unfold Obligations.SynoshEventsAccordsAndChecksComplete
  intro h
  obtain ⟨-, -, -, -, -, -, -, -, hacb, -⟩ := h ⟨runningWaiter, []⟩
  obtain ⟨-, hpc, -⟩ := (hacb 0 0 1).of_issued runningWaiter_issues rfl (runningWaiter_issues.instr_eq _ _ _)
  obtain ⟨hopen, hbefore, habort⟩ := runningWaiter_abort
  have hafter := Dev.acbLocal_pc_of_openOf hopen 1 0 0 ⟨0, 0, 0⟩
  rw [habort] at hafter
  have hclaim : (4 + 4) % 2 ^ 40 = ((runningWaiter.thr 0).pc + 4) % 2 ^ 40 := hafter.symm.trans hpc
  rw [hbefore] at hclaim
  exact absurd hclaim (by decide)

/-- Refutes O40: at `strayWaiter` the clause on STATUS_STAGE_COMPLETE asks that SET_INTERFACE brings interface 1 to setting 1, but it
stays at 0. -/
theorem not_usbControlTransfersComplete : ¬ Obligations.UsbControlTransfersComplete := by
  unfold Obligations.UsbControlTransfersComplete
  intro h
  obtain ⟨-, -, -, -, -, -, -, -, hstatus, -⟩ := h ⟨strayWaiter, []⟩
  obtain ⟨hreached, hphase, harmed, hhw, hreq, hidx, hval⟩ := strayWaiter_setInterface
  have hclause := hstatus.of_exec (exec_statusStageComplete_of_reached ⟨strayWaiter, []⟩ hreached)
  rw [if_neg (by simp [hreached])] at hclause
  obtain ⟨-, hcompletes⟩ := hclause
  rw [if_pos ⟨hphase, harmed⟩] at hcompletes
  obtain ⟨-, -, -, -, -, -, -, halt⟩ := hcompletes
  have hset := halt hhw hreq hidx
  rw [statusStageComplete_strayWaiter, hval] at hset
  exact absurd hset (by decide)

end Sys2Proof.Proofs
end

section
/-! PROOFS. Synosh threads: what every instruction of a thread does (R318 to R326, R354), and O26, O27, O28 and O51. An instruction writes
its operands, general registers or predicates of its thread, and retires; behind a load that missed it leaves nothing but what the thread
keeps for its run-ahead. A misaligned access raises ALIGN instead (R327, R338). -/

namespace Sys2Proof.Machine

/-! ### Threads and their fields after an update -/

theorem Dev.thr_modThr_ne (d : Dev) {t u : Nat} (h : u ≠ t) (f : Thr → Thr) : (d.modThr t f).thr u = d.thr u := Tab.get_set_ne h ..

/-- Setting a field of a list leaves every field that is not in it. -/
theorem Dev.get_set_of_notMem (d : Dev) {l : List Nat} {f g : Fld} (hf : f.key ∈ l) (hg : g.key ∉ l) (v : Nat) :
    (d.set f v).get g = d.get g :=
  d.get_set_ne v (fun h => hg (h ▸ hf))

theorem Dev.update_eq_or (d : Dev) (f : Fld) (v : Nat) : d.update f v = d ∨ d.update f v = d.set f v := by
  unfold Dev.update
  split
  · exact .inl rfl
  · exact .inr rfl

/-- Nothing changes but the threads' own part and the register fields at the bit addresses listed. -/
def Dev.onlySyn (d : Dev) (l : List Nat) (e : Dev) : Prop := Dev.only { d with syn := e.syn } l e

section
variable {d e : Dev} {l : List Nat}

theorem Dev.onlySyn.of_syn (h : e = { d with syn := e.syn }) : d.onlySyn l e :=
  ⟨by rw [h], fun f _ => by rw [h]⟩

theorem Dev.onlySyn.set (h : d.onlySyn l e) {f : Fld} (hf : f.key ∈ l) (v : Nat) : d.onlySyn l (e.set f v) := by
  obtain ⟨heq, hget⟩ := h
  exact ⟨congrArg (fun x : Dev => x.set f v) heq, fun g hg => (e.get_set_of_notMem hf hg v).trans (hget g hg)⟩

theorem Dev.onlySyn.modThr (h : d.onlySyn l e) (t : Nat) (f : Thr → Thr) : d.onlySyn l (e.modThr t f) := by
  obtain ⟨heq, hget⟩ := h
  exact ⟨congrArg (fun x : Dev => x.modThr t f) heq, hget⟩

theorem Dev.onlySyn.perfAdd (h : d.onlySyn l e) (t ev : Nat) : d.onlySyn l (e.perfAdd t ev) := by
  obtain ⟨heq, hget⟩ := h
  exact ⟨congrArg (fun x : Dev => x.perfAdd t ev) heq, hget⟩

theorem Dev.onlySyn.update (h : d.onlySyn l e) {f : Fld} (hf : f.key ∈ l) (v : Nat) : d.onlySyn l (e.update f v) := by
  rcases e.update_eq_or f v with heq | heq <;> rw [heq]
  · exact h
  · exact h.set hf v

end

/-! ### Retiring -/

/-- The register fields of a thread that change as an instruction retires: its state, and where it stops its start pc (R319, R347). -/
def retireKeys (t : Nat) : List Nat :=
  [(SYN_THn_STAT_STATE t).key, (SYN_THn_STAT_RUNAHEAD t).key, (SYN_THn_PC_LO_PC t).key, (SYN_THn_PC_HI_PC t).key]

section
variable (d : Dev) (t : Nat)

theorem Dev.update_get_ne {f g : Fld} (v : Nat) (h : g.key ≠ f.key) : (d.update f v).get g = d.get g := by
  rcases d.update_eq_or f v with heq | heq <;> rw [heq]
  exact d.get_set_ne v h

theorem Dev.putStartPc_get (pc : Nat) {f : Fld} (hlo : f.key ≠ (SYN_THn_PC_LO_PC t).key) (hhi : f.key ≠ (SYN_THn_PC_HI_PC t).key) :
    (d.putStartPc t pc).get f = d.get f := by
  rw [Dev.putStartPc, Dev.update_get_ne _ _ hhi, Dev.update_get_ne _ _ hlo]

theorem Dev.thr_stopIfAsked : (d.stopIfAsked t).thr t = { d.thr t with stop := false } := by
  unfold Dev.stopIfAsked
  split
  · simp
  · next h => rw [← Bool.eq_false_iff.mpr h]

theorem Dev.thr_stopIfAsked_ne {u : Nat} (h : u ≠ t) : (d.stopIfAsked t).thr u = d.thr u := by
  unfold Dev.stopIfAsked
  split
  · simp [Dev.thr_modThr_ne _ h]
  · rfl

theorem Dev.stopIfAsked_get {f : Fld} (hst : f.key ≠ (SYN_THn_STAT_STATE t).key) (hlo : f.key ≠ (SYN_THn_PC_LO_PC t).key)
    (hhi : f.key ≠ (SYN_THn_PC_HI_PC t).key) : (d.stopIfAsked t).get f = d.get f := by
  unfold Dev.stopIfAsked
  split
  · rw [Dev.get_set_ne _ _ hst, Dev.modThr_get, Dev.putStartPc_get _ _ _ hlo hhi]
  · rfl

theorem Dev.tstate_stopIfAsked : (d.stopIfAsked t).tstate t = if (d.thr t).stop then 0 else d.tstate t := by
  unfold Dev.stopIfAsked
  split
  · exact Dev.get_set_same ..
  · rfl

variable (len : Nat)

/-- The thread behind an instruction that retires (R319, R352). -/
theorem Dev.thr_retire : (d.retire t len).thr t
    = { d.thr t with pc := ((d.thr t).pc + len) % 2 ^ 40, wait := .none, stop := false, ahead := 0, shadow := Ahead.reset } := by
  rw [Dev.retire, Dev.thr_stopIfAsked]
  simp

theorem Dev.thr_retire_ne {u : Nat} (h : u ≠ t) : (d.retire t len).thr u = d.thr u := by
  rw [Dev.retire, Dev.thr_stopIfAsked_ne _ _ h]
  simp [Dev.thr_modThr_ne _ h]

theorem Dev.tstate_retire : (d.retire t len).tstate t = if (d.thr t).stop then 0 else 1 := by
  rw [Dev.retire, Dev.tstate_stopIfAsked]
  simp [Dev.tstate, SYN_THn_STAT_STATE]

theorem Dev.retire_runahead : (d.retire t len).get (SYN_THn_STAT_RUNAHEAD t) = 0 := by
  have hst : (SYN_THn_STAT_RUNAHEAD t).key ≠ (SYN_THn_STAT_STATE t).key := by simp [SYN_THn_STAT_RUNAHEAD, SYN_THn_STAT_STATE]
  rw [Dev.retire, Dev.stopIfAsked_get _ _ hst, Dev.get_set_ne _ _ hst, Dev.get_set_same, Nat.zero_mod]
  · simp only [SYN_THn_STAT_RUNAHEAD, SYN_THn_PC_LO_PC, SYN_THn_STAT_A, SYN_THn_PC_LO_A]; omega
  · simp only [SYN_THn_STAT_RUNAHEAD, SYN_THn_PC_HI_PC, SYN_THn_STAT_A, SYN_THn_PC_HI_A]; omega

end

theorem Dev.onlySyn.stopIfAsked {d e : Dev} {t : Nat} (h : d.onlySyn (retireKeys t) e) : d.onlySyn (retireKeys t) (e.stopIfAsked t) := by
  unfold Dev.stopIfAsked
  split
  · exact (((h.update (by simp [retireKeys]) _).update (by simp [retireKeys]) _).modThr t _).set (by simp [retireKeys]) 0
  · exact h

theorem Dev.onlySyn.retire {d e : Dev} {t : Nat} (h : d.onlySyn (retireKeys t) e) (len : Nat) :
    d.onlySyn (retireKeys t) (e.retire t len) :=
  ((((h.modThr t _).perfAdd t 1).set (by simp [retireKeys]) 0).set (by simp [retireKeys]) 1).stopIfAsked

/-! ### Operands -/

/-- Of the device only general registers and predicates of thread `t` change. -/
structure Dev.WritesOperands (d : Dev) (t : Nat) (e : Dev) : Prop where
  thr : e.thr t = { d.thr t with w := (e.thr t).w, p := (e.thr t).p }
  others : ∀ u, u ≠ t → e.thr u = d.thr u
  rest : e = { d with syn := e.syn }

section
variable (d : Dev) (t : Nat)

theorem Dev.WritesOperands.refl : d.WritesOperands t d := ⟨rfl, fun _ _ => rfl, rfl⟩

theorem Dev.WritesOperands.trans {d e f : Dev} {t : Nat} (h : d.WritesOperands t e) (k : e.WritesOperands t f) :
    d.WritesOperands t f :=
  ⟨by rw [k.thr, h.thr], fun u hu => (k.others u hu).trans (h.others u hu), by rw [k.rest, h.rest]⟩

theorem Dev.writesOperands_wr (r : Nat) (v : DWord) : d.WritesOperands t (d.wr t r v) := by
  unfold Dev.wr
  split
  · exact .refl d t
  · exact ⟨by simp, fun u hu => d.thr_modThr_ne hu _, rfl⟩

theorem Dev.writesOperands_putPreds (v : Nat) : d.WritesOperands t (d.putPreds t v) :=
  ⟨by simp [Dev.putPreds], fun _ hu => d.thr_modThr_ne hu _, rfl⟩

theorem Dev.writesOperands_wp (p : Nat) (b : Bool) : d.WritesOperands t (d.wp t p b) := d.writesOperands_putPreds t _

end

/-- An instruction that writes operands and retires (R319, R320, R352). -/
theorem Dev.WritesOperands.retired {d e : Dev} {t : Nat} (h : d.WritesOperands t e) (len : Nat) :
    d.Retired t ((d.thr t).pc + len) (e.retire t len) := by
  refine ⟨?_, fun u _ hu => (e.thr_retire_ne t len hu).trans (h.others u hu), ?_, e.retire_runahead t len,
    (Dev.onlySyn.of_syn h.rest).retire len⟩
  · rw [Dev.thr_retire, h.thr]
  · have hstate := e.tstate_retire t len
    rw [h.thr] at hstate
    exact hstate

/-! ### General registers and predicates -/

/-- No carry goes past a bit that is clear. -/
theorem testBit_two_pow_add_of_clear (p q x : Nat) (h : x.testBit p = false) :
    (2 ^ p + x).testBit q = (decide (q = p) || x.testBit q) := by
  induction p generalizing q x with
  | zero =>
    have heven : x % 2 = 0 := by simpa [Nat.testBit_zero] using h
    cases q with
    | zero => simp [Nat.testBit_zero]; omega
    | succ q =>
      have hhalf : (2 ^ 0 + x) / 2 = x / 2 := by omega
      rw [Nat.testBit_add_one, Nat.testBit_add_one, hhalf]
      simp
  | succ p ih =>
    have hpow : 2 ^ (p + 1) = 2 * 2 ^ p := Nat.pow_succ'
    cases q with
    | zero =>
      rw [hpow, Nat.testBit_zero, Nat.testBit_zero, Nat.mul_add_mod]
      simp
    | succ q =>
      have hhalf : (2 ^ (p + 1) + x) / 2 = 2 ^ p + x / 2 := by omega
      rw [Nat.testBit_add_one] at h
      rw [Nat.testBit_add_one, hhalf, ih _ _ h, Nat.testBit_add_one]
      simp

/-- A bit that is set, taken away from a number, is clear then, and no other bit changes. -/
theorem testBit_sub_two_pow (p q m : Nat) (h : m.testBit p = true) : (m - 2 ^ p).testBit q = (!decide (q = p) && m.testBit q) := by
  have hadd : 2 ^ p + (m - 2 ^ p) = m := Nat.add_sub_cancel' (Nat.ge_two_pow_of_testBit h)
  have hclear : (m - 2 ^ p).testBit p = false := by
    have hset := Nat.testBit_two_pow_add_eq (m - 2 ^ p) p
    rw [hadd, h] at hset
    simpa using hset
  have hbits := testBit_two_pow_add_of_clear p q _ hclear
  rw [hadd] at hbits
  by_cases hq : q = p
  · simp [hq, hclear]
  · simp [hq, hbits]

section
variable (d : Dev) (t : Nat)

theorem Dev.rg_wr (r r' : Nat) (v : DWord) : (d.wr t r v).rg t r' = if r' = 0 then 0 else if r' = r then v else d.rg t r' := by
  unfold Dev.wr Dev.rg
  by_cases h0 : r' = 0
  · simp [h0]
  by_cases hr : r = 0
  · simp [h0, hr]
  by_cases heq : r' = r
  · simp [hr, heq]
  · simp [h0, hr, heq]

theorem Dev.rg_retire (len r : Nat) : (d.retire t len).rg t r = d.rg t r := by
  simp [Dev.rg, Dev.thr_retire]

theorem Dev.pred_retire (len q : Nat) : (d.retire t len).pred t q = d.pred t q := by
  simp [Dev.pred, Dev.thr_retire]

@[simp] theorem Dev.pred_zero : d.pred t 0 = true := rfl

theorem Dev.thr_wr_p (r : Nat) (v : DWord) : ((d.wr t r v).thr t).p = (d.thr t).p := by
  unfold Dev.wr
  split
  · rfl
  · simp

@[simp] theorem Dev.thr_putPreds_w (v : Nat) : ((d.putPreds t v).thr t).w = (d.thr t).w := by simp [Dev.putPreds]

@[simp] theorem Dev.thr_wp_w (p : Nat) (b : Bool) : ((d.wp t p b).thr t).w = (d.thr t).w := d.thr_putPreds_w t _

/-- Bits 7 to 1 of a number written to the predicates are read back from p7 to p1 (R359). -/
theorem Dev.pred_putPreds (v : Nat) {q : Nat} (h1 : 1 ≤ q) (h8 : q < 8) : (d.putPreds t v).pred t q = v.testBit q := by
  have hlow : (v % 2 ^ 8 / 2 * 2 ^ 1).testBit q = v.testBit q := by
    rw [Nat.testBit_mul_two_pow, Nat.testBit_div_two, Nat.sub_add_cancel h1, Nat.testBit_mod_two_pow]
    simp [h1, h8]
  have hq : (q == 0) = false := by simp; omega
  rw [Dev.pred, hq, Bool.false_or, Dev.putPreds, Dev.thr_modThr_same]
  exact hlow

/-- A predicate reads what was written to it; the others from p1 to p7 are as they were (R320). -/
theorem Dev.pred_wp (p : Nat) (b : Bool) {q : Nat} (h1 : 1 ≤ q) (h8 : q < 8) :
    (d.wp t p b).pred t q = if q = p then b else d.pred t q := by
  have hq : (q == 0) = false := by simp; omega
  rw [Dev.wp, Dev.pred_putPreds _ _ _ h1 h8, Dev.pred, hq, Bool.false_or]
  cases b with
  | true =>
    rw [if_pos rfl, Nat.testBit_or, Nat.testBit_two_pow]
    by_cases heq : q = p
    · simp [heq]
    · simp [heq, Ne.symm heq]
  | false =>
    rw [if_neg Bool.false_ne_true]
    by_cases hset : (d.thr t).p.testBit p
    · rw [if_pos hset, testBit_sub_two_pow _ _ _ hset]
      by_cases heq : q = p <;> simp [heq]
    · rw [if_neg hset, Nat.sub_zero]
      by_cases heq : q = p
      · simp [heq, hset]
      · simp [heq]

end

/-! ### Run-ahead -/

section
variable {d e f : Dev} {t : Nat}

theorem Dev.AheadOnly.refl (d : Dev) (t : Nat) : d.AheadOnly t d := ⟨rfl, fun _ _ _ => rfl, rfl, fun _ _ => rfl⟩

theorem Dev.AheadOnly.trans (h : d.AheadOnly t e) (k : e.AheadOnly t f) : d.AheadOnly t f := by
  obtain ⟨hthr, hothers, hrest, hget⟩ := h
  obtain ⟨kthr, kothers, krest, kget⟩ := k
  refine ⟨by rw [kthr, hthr], fun u hu ht => (kothers u hu ht).trans (hothers u hu ht), by rw [krest, hrest], fun g hg => ?_⟩
  exact (kget g hg).trans (hget g hg)

theorem Dev.AheadOnly.ite {c : Prop} [Decidable c] (h : d.AheadOnly t e) (k : d.AheadOnly t f) : d.AheadOnly t (if c then e else f) := by
  split
  · exact h
  · exact k

theorem Dev.aheadOnly_perfAdd (d : Dev) (t u ev : Nat) : d.AheadOnly t (d.perfAdd u ev) :=
  ⟨rfl, fun _ _ _ => rfl, rfl, fun _ _ => rfl⟩

theorem Dev.aheadOnly_fresh (d : Dev) (t : Nat) : d.AheadOnly t d.fresh.2 := ⟨rfl, fun _ _ _ => rfl, rfl, fun _ _ => rfl⟩

/-- What a thread keeps for its run-ahead (R324). -/
theorem Dev.aheadOnly_modThr (d : Dev) (t : Nat) (g : Thr → Thr)
    (hg : ∀ x, g x = { x with ahead := (g x).ahead, shadow := (g x).shadow }) : d.AheadOnly t (d.modThr t g) :=
  ⟨by rw [Dev.thr_modThr_same]; exact hg _, fun _ _ hu => d.thr_modThr_ne hu g, rfl, fun _ _ => rfl⟩

theorem Dev.aheadOnly_set_runahead (d : Dev) (t v : Nat) : d.AheadOnly t (d.set (SYN_THn_STAT_RUNAHEAD t) v) :=
  ⟨rfl, fun _ _ _ => rfl, rfl, fun _ hg => d.get_set_of_notMem (List.mem_singleton_self _) hg v⟩

theorem Dev.aheadOnly_aheadEnd (d : Dev) (t : Nat) : d.AheadOnly t (d.aheadEnd t) :=
  (d.aheadOnly_modThr t _ (fun _ => rfl)).trans (Dev.aheadOnly_set_runahead _ t 0)

theorem Dev.aheadOnly_aheadStep (d : Dev) (t : Nat) (y : Ahead) : d.AheadOnly t (d.aheadStep t y) := by
  have hstep := (d.aheadOnly_modThr t (fun x => { x with ahead := x.ahead + 1, shadow := y }) (fun _ => rfl)).trans
    (Dev.aheadOnly_perfAdd _ t t 6)
  unfold Dev.aheadStep
  dsimp only
  split
  · exact hstep.trans (Dev.aheadOnly_aheadEnd _ t)
  · exact hstep

theorem Dev.aheadOnly_aheadInvalid (d : Dev) (t len : Nat) (u : Uses) : d.AheadOnly t (d.aheadInvalid t len u) := by
  unfold Dev.aheadInvalid
  dsimp only
  split
  · exact (d.aheadOnly_fresh t).trans (Dev.aheadOnly_aheadStep _ t _)
  · exact d.aheadOnly_aheadStep t _

theorem Dev.aheadOnly_aheadRun (d : Dev) (t : Nat) (u : Uses) (g : Dev → Dev) : d.AheadOnly t (d.aheadRun t u g) := by
  unfold Dev.aheadRun
  dsimp only
  refine .ite (d.aheadOnly_aheadEnd t) (.ite (d.aheadOnly_aheadStep t _) ?_)
  split
  · exact ((d.aheadOnly_perfAdd t t 7).trans (Dev.aheadOnly_perfAdd _ t t 8)).trans (Dev.aheadOnly_aheadStep _ t _)
  · exact d.aheadOnly_aheadStep t _

/-- An instruction behind a load that missed leaves no architectural trace (R324, R325). -/
theorem Dev.aheadOnly_runAhead (d : Dev) (t p len : Nat) (u : Uses) (g : Dev → Dev) : d.AheadOnly t (d.runAhead t p len u g) := by
  unfold Dev.runAhead
  dsimp only
  split
  · exact .refl d t
  split
  · exact d.aheadOnly_aheadEnd t
  · exact d.aheadOnly_aheadStep t _
  split
  · exact d.aheadOnly_aheadStep t _
  split
  · exact d.aheadOnly_aheadEnd t
  split
  · exact d.aheadOnly_aheadInvalid t len u
  · exact d.aheadOnly_aheadRun t u g

end

/-! ### Issue -/

/-- An instruction that its thread issues does `g`; in every other case it does what R319 to R326 give. -/
theorem Dev.issued_issue {d : Dev} {t : Fin 32} {i : Instr} {p len : Nat} {u : Uses} {g : Dev → Dev} {P : Dev → Prop} (h : P (g d)) :
    d.Issued t i p len (P (Dev.issue t i (Dev.instr t p len u g) d)) (Dev.issue t i (Dev.instr t p len u g) d) := by
  by_cases hother : d.fetchesOther t i = true
  · simp [Dev.Issued, Dev.issue, hother]
  by_cases hrun : d.tstate t = 1
  · have hissue : Dev.issue t i (Dev.instr t p len u g) d = d.instr t p len u g := by simp [Dev.issue, hother]
    rw [hissue]
    by_cases hload : (d.thr t).wait.isLoad
    · have hahead := d.aheadOnly_runAhead t p len u g
      simpa [Dev.Issued, Dev.instr, hother, hrun, hload] using hahead
    · cases hfetch : d.fetch t with
      | raises code addr => simp [Dev.Issued, Dev.instr, hother, hrun, hload, hfetch]
      | nothing => simp [Dev.Issued, Dev.instr, hother, hrun, hload, hfetch]
      | insn =>
        by_cases hpred : d.pred t p
        · simpa [Dev.Issued, Dev.instr, hother, hrun, hload, hfetch, hpred] using h
        · simp [Dev.Issued, Dev.instr, hother, hrun, hload, hfetch, hpred]
  · simp [Dev.Issued, Dev.issue, Dev.instr, hrun]

/-- An instruction completes, and has the effect of its meaning where its thread issues it. -/
theorem Does.issued {c : Instr} {s : State} {t : Fin 32} {p len : Nat} {u : Uses} {g : Dev → Dev} {P : Dev → Dev → Prop}
    (hexec : exec c s = s.issue t c (Dev.instr t p len u g)) (h : P s.dev (g s.dev)) :
    Does c s (fun d d' => d.Issued t c p len (P d d') d') :=
  ⟨_, hexec.trans (s.run_eq _), rfl, Dev.issued_issue h⟩

/-! ### Instructions whose result is a general register (R357, R358) -/

/-- A general register written by an instruction that retires. -/
theorem Dev.result_wr (d : Dev) (t rd : Nat) (v : DWord) (len : Nat) : d.Result t rd v len ((d.wr t rd v).retire t len) := by
  refine ⟨(d.writesOperands_wr t rd v).retired len, fun r _ => ?_, ?_⟩
  · rw [Dev.rg_retire, Dev.rg_wr]
  · rw [Dev.thr_retire, Dev.thr_wr_p]

section
variable (c : Instr) (s : State) {t : Fin 32} {p rd rs1 rs2 : Nat} {f : DWord → DWord → DWord}

theorem Does.alu (hexec : exec c s = s.issue t c (Dev.alu t p rd rs1 rs2 f)) :
    Does c s (fun d d' => d.Issued t c p 4 (d.Result t rd (f (d.rg t rs1) (d.rg t rs2)) 4 d') d') :=
  Does.issued (P := fun d d' => d.Result t rd (f (d.rg t rs1) (d.rg t rs2)) 4 d') hexec (s.dev.result_wr t rd _ 4)

theorem Does.aluImm {v : DWord} {len : Nat} (hexec : exec c s = s.issue t c (Dev.aluImm t p rd rs1 v len f)) :
    Does c s (fun d d' => d.Issued t c p len (d.Result t rd (f (d.rg t rs1) v) len d') d') :=
  Does.issued (P := fun d d' => d.Result t rd (f (d.rg t rs1) v) len d') hexec (s.dev.result_wr t rd _ len)

end

/-! ### The functions of R357 and R358 as the statements write them -/

theorem ite_ult (a b x y : DWord) : (if a.ult b then x else y) = if a.toNat < b.toNat then x else y := by
  simp [BitVec.ult]

theorem ite_slt (a b x y : DWord) : (if a.slt b then x else y) = if a.toInt < b.toInt then x else y := by
  simp [BitVec.slt]

theorem getLsbD_lowMask (k i : Nat) : (lowMask k).getLsbD i = (decide (i < 64) && decide (i < k)) := by
  rw [lowMask, BitVec.getLsbD_ofNat, Nat.testBit_two_pow_sub_one]

/-- A field sign-extended: its top bit is copied into every bit above it (R358). -/
theorem signExtended_fieldOf (a : DWord) (pos k : Nat) (hk : k < 64) :
    (if (fieldOf a pos (k + 1)).getLsbD k then fieldOf a pos (k + 1) ||| ~~~lowMask (k + 1) else fieldOf a pos (k + 1))
      = if (a.rotateRight pos).getLsbD k then a.rotateRight pos ||| ~~~lowMask (k + 1) else a.rotateRight pos &&& lowMask (k + 1) := by
  have htop : (fieldOf a pos (k + 1)).getLsbD k = (a.rotateRight pos).getLsbD k := by
    rw [fieldOf, BitVec.getLsbD_and, getLsbD_lowMask]
    simp [hk]
  have hor : fieldOf a pos (k + 1) ||| ~~~lowMask (k + 1) = a.rotateRight pos ||| ~~~lowMask (k + 1) := by
    ext i hi
    simp only [fieldOf, BitVec.getElem_or, BitVec.getElem_and, BitVec.getElem_not]
    cases (lowMask (k + 1))[i] <;> simp
  rw [htop, hor, fieldOf]

/-! ### Instructions whose results are predicates (R359) -/

section
variable (d : Dev) (t : Nat)

theorem Dev.WritesOperands.predResult {d e : Dev} {t : Nat} (h : d.WritesOperands t e) {f : Nat → Bool}
    (hpred : ∀ q, 1 ≤ q → q < 8 → e.pred t q = f q) (hw : (e.thr t).w = (d.thr t).w) (len : Nat) :
    d.PredResult t len f (e.retire t len) := by
  refine ⟨h.retired len, fun q h1 h8 => ?_, Dev.pred_zero _ t, ?_⟩
  · rw [Dev.pred_retire, hpred q h1 h8]
  · rw [Dev.thr_retire, hw]

theorem Dev.predResult_wp (p : Nat) (b : Bool) (len : Nat) :
    d.PredResult t len (fun q => if q = p then b else d.pred t q) ((d.wp t p b).retire t len) :=
  (d.writesOperands_wp t p b).predResult (fun _ h1 h8 => d.pred_wp t p b h1 h8) (d.thr_wp_w t p b) len

/-- The complement is written last, and stays where both name one predicate (log 82). -/
theorem Dev.predResult_putPair (pd pdn : Nat) (b : Bool) (len : Nat) :
    d.PredResult t len (fun q => if q = pdn then !b else if q = pd then b else d.pred t q) ((d.putPair t pd pdn b).retire t len) := by
  have hwrites := (d.writesOperands_wp t pd b).trans (Dev.writesOperands_wp _ t pdn (!b))
  refine hwrites.predResult (fun q h1 h8 => ?_) ?_ len
  · rw [Dev.pred_wp _ _ _ _ h1 h8, Dev.pred_wp _ _ _ _ h1 h8]
  · rw [Dev.thr_wp_w, Dev.thr_wp_w]

theorem Dev.predResult_putPreds (v : DWord) (len : Nat) :
    d.PredResult t len (fun q => v.getLsbD q) ((d.putPreds t v.toNat).retire t len) :=
  (d.writesOperands_putPreds t v.toNat).predResult (fun _ h1 h8 => d.pred_putPreds t _ h1 h8) (d.thr_putPreds_w t _) len

end

section
variable (c : Instr) (s : State) {t : Fin 32} {p : Nat} {u : Uses}

theorem Does.putPair {pd pdn len : Nat} {b : Dev → Bool}
    (hexec : exec c s = s.issue t c (Dev.instr t p len u (fun d => (d.putPair t pd pdn (b d)).retire t len))) :
    Does c s (fun d d' => d.Issued t c p len
      (d.PredResult t len (fun q => if q = pdn then !b d else if q = pd then b d else d.pred t q) d') d') :=
  Does.issued (P := fun d d' => d.PredResult t len (fun q => if q = pdn then !b d else if q = pd then b d else d.pred t q) d') hexec
    (s.dev.predResult_putPair t pd pdn _ len)

theorem Does.predOp {pd pa pb : Nat} {f : Bool → Bool → Bool} (hexec : exec c s = s.issue t c (Dev.predOp t p pd pa pb f)) :
    Does c s (fun d d' => d.Issued t c p 4
      (d.PredResult t 4 (fun q => if q = pd then f (d.pred t pa) (d.pred t pb) else d.pred t q) d') d') :=
  Does.issued (P := fun d d' => d.PredResult t 4 (fun q => if q = pd then f (d.pred t pa) (d.pred t pb) else d.pred t q) d') hexec
    (s.dev.predResult_wp t pd _ 4)

theorem Does.putReg {rd len : Nat} {v : Dev → DWord}
    (hexec : exec c s = s.issue t c (Dev.instr t p len u (fun d => (d.wr t rd (v d)).retire t len))) :
    Does c s (fun d d' => d.Issued t c p len (d.Result t rd (v d) len d') d') :=
  Does.issued (P := fun d d' => d.Result t rd (v d) len d') hexec (s.dev.result_wr t rd _ len)

theorem Does.putPreds {len : Nat} {v : Dev → DWord}
    (hexec : exec c s = s.issue t c (Dev.instr t p len u (fun d => (d.putPreds t (v d).toNat).retire t len))) :
    Does c s (fun d d' => d.Issued t c p len (d.PredResult t len (fun q => (v d).getLsbD q) d') d') :=
  Does.issued (P := fun d d' => d.PredResult t len (fun q => (v d).getLsbD q) d') hexec (s.dev.predResult_putPreds t _ len)

end

/-! ### Exceptions (R338, R339) -/

/-- STAT.CODE of a thread is none of the fields of its state and its start pc, and lies outside the event queues. -/
theorem code_key (t : Fin 32) : (SYN_THn_STAT_CODE t).key ≠ (SYN_THn_STAT_STATE t).key
    ∧ (SYN_THn_STAT_CODE t).key ≠ (SYN_THn_PC_LO_PC t).key ∧ (SYN_THn_STAT_CODE t).key ≠ (SYN_THn_PC_HI_PC t).key
    ∧ notEvq (SYN_THn_STAT_CODE t) := by
  have ht := t.isLt
  simp only [notEvq, SYN_THn_STAT_CODE, SYN_THn_STAT_STATE, SYN_THn_PC_LO_PC, SYN_THn_PC_HI_PC, SYN_THn_STAT_A, SYN_THn_PC_LO_A,
    SYN_THn_PC_HI_A]
  omega

/-- A thread that halts keeps its registers, and shows the code it showed (R319). -/
theorem Dev.halt_keeps (d : Dev) (t : Fin 32) (code : Nat) : ((d.halt t code).thr t).w = (d.thr t).w
    ∧ (d.halt t code).get (SYN_THn_STAT_CODE t) = d.get (SYN_THn_STAT_CODE t) := by
  obtain ⟨hstate, hlo, hhi, hevq⟩ := code_key t
  constructor
  · rw [Dev.halt, Dev.thr_stopIfAsked, Dev.thr, (Dev.event_core _ _ _ _).syn]
    rfl
  · rw [Dev.halt, Dev.stopIfAsked_get _ _ hstate hlo hhi, Dev.event_get _ _ _ _ hevq, Dev.get_set_ne _ _ hstate]

/-- ALIGN: exception 2, raised at an address (R327, R338). -/
theorem Dev.exc_raisesAlign (d : Dev) (t : Fin 32) (a : Nat) : d.RaisesAlign t a (d.exc t 2 (some a)) := by
  obtain ⟨hstate, hlo, hhi, -⟩ := code_key t
  have hcode : (d.set (SYN_THn_STAT_CODE t) 2).get (SYN_THn_STAT_CODE t) = 2 := Dev.get_set_same ..
  refine ⟨rfl, ?_⟩
  unfold Dev.exc
  dsimp only
  rw [Dev.thr_set]
  cases hactive : (d.thr t).active with
  | true =>
    obtain ⟨hw, hkept⟩ := (d.set (SYN_THn_STAT_CODE t) 2).halt_keeps t 2
    rw [if_pos rfl, hkept, hcode, hw]
    simp
  | false =>
    rw [if_neg Bool.false_ne_true]
    refine ⟨?_, ?_, fun _ => ⟨?_, ?_⟩⟩
    · rw [Dev.stopIfAsked_get _ _ hstate hlo hhi, Dev.modThr_get, hcode]
    · simp [Dev.thr_stopIfAsked]
    · simp
    · simp [Dev.thr_stopIfAsked]

/-! ### Accesses that raise ALIGN (R327) -/

/-- A misaligned access, or one in register space of another size than 4 bytes. -/
def Dev.misaligned (d : Dev) (a n : Nat) : Prop := a % n ≠ 0 ∨ (d.region a = .regs ∧ n ≠ 4)

section
variable {d : Dev} {t a n : Nat} (h : d.misaligned a n)
include h

theorem Dev.misaligned.loadInstr (rd : Nat) (signed : Bool) (len : Nat) (miss : Bool) (e : Ecc) :
    d.loadInstr t rd a n signed len miss e = d.exc t 2 (some a) := if_pos h

theorem Dev.misaligned.storeInstr (v len : Nat) : d.storeInstr t a n v len = d.exc t 2 (some a) := by
  have hfault : d.storeFault a n = some 2 := if_pos h
  rw [Dev.storeInstr, hfault]

end

section
variable {d : Dev} {t : Fin 32} {i : Instr} {p : Nat} (h : d.mayIssue t i p)
include h

theorem Dev.mayIssue.ld_eq (rd rs1 : Nat) (imm : Imm 13) (miss : Bool) (e : Ecc) (n : Nat) (signed : Bool) :
    d.ld t p rd rs1 imm miss e n signed = d.loadInstr t rd (d.ea t rs1 imm) n signed (immLen imm) miss e := h.instr_eq ..

theorem Dev.mayIssue.st_eq (rs2 rs1 : Nat) (imm : Imm 13) (n : Nat) :
    d.st t p rs2 rs1 imm n = d.storeInstr t (d.ea t rs1 imm) n ((d.rg t rs2).toNat % 2 ^ (8 * n)) (immLen imm) := h.instr_eq ..

theorem Dev.mayIssue.issue_eq (g : Dev → Dev) : Dev.issue t i g d = g d := by
  rw [Dev.issue, h.fetchesOther_eq_false]
  rfl

end

section
variable {c : Instr} {s : State} {t : Fin 32} {p rs1 n : Nat} {imm : Imm 13} (hmay : s.dev.mayIssue t c p)
  (h : s.dev.misaligned (s.dev.ea t rs1 imm) n)
include hmay h

theorem Does.ld_raisesAlign {rd : Nat} {miss signed : Bool} {e : Ecc}
    (hexec : exec c s = s.issue t c (Dev.ld t p rd rs1 imm miss e n signed)) :
    Does c s (fun d d' => d.RaisesAlign t (s.dev.ea t rs1 imm) d') := by
  refine ⟨_, hexec.trans (s.run_eq _), rfl, ?_⟩
  dsimp only
  rw [hmay.issue_eq, hmay.ld_eq, h.loadInstr]
  exact s.dev.exc_raisesAlign t _

theorem Does.st_raisesAlign {rs2 : Nat} (hexec : exec c s = s.issue t c (Dev.st t p rs2 rs1 imm n)) :
    Does c s (fun d d' => d.RaisesAlign t (s.dev.ea t rs1 imm) d') := by
  refine ⟨_, hexec.trans (s.run_eq _), rfl, ?_⟩
  dsimp only
  rw [hmay.issue_eq, hmay.st_eq, h.storeInstr]
  exact s.dev.exc_raisesAlign t _

end

end Sys2Proof.Machine

namespace Sys2Proof.Proofs
open Sys2Proof Sys2Proof.Machine

/-- Settles O26: each instruction issues `Dev.alu` with its function, which writes RD and retires. -/
theorem synoshArithmeticComplete : Obligations.SynoshArithmeticComplete := by
  unfold Obligations.SynoshArithmeticComplete
  intro s
  exact ⟨fun t p rd rs1 rs2 => (Does.alu (.add t p rd rs1 rs2) s rfl :),
    fun t p rd rs1 rs2 => (Does.alu (.sub t p rd rs1 rs2) s rfl :),
    fun t p rd rs1 rs2 => (Does.alu (.and t p rd rs1 rs2) s rfl :),
    fun t p rd rs1 rs2 => (Does.alu (.or t p rd rs1 rs2) s rfl :),
    fun t p rd rs1 rs2 => (Does.alu (.xor t p rd rs1 rs2) s rfl :),
    fun t p rd rs1 rs2 => (Does.alu (.andn t p rd rs1 rs2) s rfl :),
    fun t p rd rs1 rs2 => (Does.alu (.shl t p rd rs1 rs2) s rfl :),
    fun t p rd rs1 rs2 => (Does.alu (.shr t p rd rs1 rs2) s rfl :),
    fun t p rd rs1 rs2 => (Does.alu (.sar t p rd rs1 rs2) s rfl :),
    fun t p rd rs1 rs2 => (Does.alu (.mul t p rd rs1 rs2) s rfl :),
    fun t p rd rs1 rs2 => (Does.alu (.mulhu t p rd rs1 rs2) s rfl :),
    fun t p rd rs1 rs2 => (Does.alu (.mulhs t p rd rs1 rs2) s rfl :),
    fun t p rd rs1 rs2 => (Does.alu (.divu t p rd rs1 rs2) s rfl :),
    fun t p rd rs1 rs2 => (Does.alu (.div t p rd rs1 rs2) s rfl :),
    fun t p rd rs1 rs2 => (Does.alu (.remu t p rd rs1 rs2) s rfl :),
    fun t p rd rs1 rs2 => (Does.alu (.rem t p rd rs1 rs2) s rfl :)⟩

/-- Settles O27: each instruction issues `Dev.alu` or `Dev.aluImm` with its function, which writes RD and retires. -/
theorem synoshImmediatesAndFieldsComplete : Obligations.SynoshImmediatesAndFieldsComplete := by
  unfold Obligations.SynoshImmediatesAndFieldsComplete
  intro s
  refine ⟨fun t p rd rs1 rs2 => ?minu, fun t p rd rs1 rs2 => ?maxu, fun t p rd rs1 rs2 => ?min, fun t p rd rs1 rs2 => ?max,
    fun t p rd rs1 => (Does.alu (.clz t p rd rs1) s rfl :),
    fun t p rd rs1 => (Does.alu (.popc t p rd rs1) s rfl :),
    fun t p rd rs1 => (Does.alu (.bswap16 t p rd rs1) s rfl :),
    fun t p rd rs1 => (Does.alu (.bswap32 t p rd rs1) s rfl :),
    fun t p rd rs1 => (Does.alu (.bswap64 t p rd rs1) s rfl :),
    fun t p rd rs1 imm => (Does.aluImm (.addi t p rd rs1 imm) s rfl :),
    fun t p rd rs1 imm => (Does.aluImm (.andi t p rd rs1 imm) s rfl :),
    fun t p rd rs1 imm => (Does.aluImm (.ori t p rd rs1 imm) s rfl :),
    fun t p rd rs1 imm => (Does.aluImm (.xori t p rd rs1 imm) s rfl :),
    fun t p rd rs1 imm => (Does.aluImm (.muli t p rd rs1 imm) s rfl :),
    fun t p rd rs1 sh => (Does.aluImm (.shli t p rd rs1 sh) s rfl :),
    fun t p rd rs1 sh => (Does.aluImm (.shri t p rd rs1 sh) s rfl :),
    fun t p rd rs1 sh => (Does.aluImm (.sari t p rd rs1 sh) s rfl :),
    fun t p rd rs1 pos lenM1 => (Does.aluImm (.extu t p rd rs1 pos lenM1) s rfl :),
    fun t p rd rs1 pos lenM1 => ?exts,
    fun t p rd rs1 pos lenM1 => (Does.alu (.ins t p rd rs1 pos lenM1) s rfl :)⟩
  case minu => simpa only [ite_ult] using Does.alu (.minu t p rd rs1 rs2) s rfl
  case maxu => simpa only [ite_ult] using Does.alu (.maxu t p rd rs1 rs2) s rfl
  case min => simpa only [ite_slt] using Does.alu (.min t p rd rs1 rs2) s rfl
  case max => simpa only [ite_slt] using Does.alu (.max t p rd rs1 rs2) s rfl
  case exts =>
    have hk : lenM1.toNat < 64 := lenM1.isLt
    simpa only [signExtended_fieldOf _ _ _ hk] using Does.aluImm (.exts t p rd rs1 pos lenM1) s rfl

/-- Settles O28: each instruction writes its predicates, or RD, and retires. -/
theorem synoshPredicatesComplete : Obligations.SynoshPredicatesComplete := by
  unfold Obligations.SynoshPredicatesComplete
  intro s
  exact ⟨fun t p pd pdn rs1 rs2 cond => (Does.putPair (.cmp t p pd pdn rs1 rs2 cond) s rfl :),
    fun t p pd pdn rs1 cond imm => (Does.putPair (.cmpi t p pd pdn rs1 cond imm) s rfl :),
    fun t p pd pa pb => (Does.predOp (.pand t p pd pa pb) s rfl :),
    fun t p pd pa pb => (Does.predOp (.por t p pd pa pb) s rfl :),
    fun t p pd pa pb => (Does.predOp (.pxor t p pd pa pb) s rfl :),
    fun t p pd pa pb => (Does.predOp (.pandn t p pd pa pb) s rfl :),
    fun t p pd pa => (Does.predOp (.pnot t p pd pa) s rfl :),
    fun t p rx => (Does.putReg (.pget t p rx) s rfl :),
    fun t p rx => (Does.putPreds (.pput t p rx) s rfl :)⟩

/-- Settles O51: each load and store that its thread issues at such an address raises ALIGN. -/
theorem misalignedAccessesRaiseAlign : Obligations.MisalignedAccessesRaiseAlign := by
  unfold Obligations.MisalignedAccessesRaiseAlign
  intro s t p rs1 imm
  have hodd {n : Nat} (h : s.dev.ea t rs1 imm % n ≠ 0) : s.dev.misaligned (s.dev.ea t rs1 imm) n := .inl h
  have hspace {n : Nat} (hn : n ≠ 4) (h : s.dev.region (s.dev.ea t rs1 imm) = .regs) : s.dev.misaligned (s.dev.ea t rs1 imm) n :=
    .inr ⟨h, hn⟩
  have heither {n : Nat} (hn : n ≠ 4) (h : s.dev.ea t rs1 imm % n ≠ 0 ∨ s.dev.region (s.dev.ea t rs1 imm) = .regs) :
      s.dev.misaligned (s.dev.ea t rs1 imm) n := h.elim hodd (hspace hn)
  exact ⟨fun rd miss ecc hmay h => Does.ld_raisesAlign hmay (hspace (n := 1) (by decide) h) rfl,
    fun rd miss ecc hmay h => Does.ld_raisesAlign hmay (heither (n := 2) (by decide) h) rfl,
    fun rd miss ecc hmay h => Does.ld_raisesAlign hmay (hodd (n := 4) h) rfl,
    fun rd miss ecc hmay h => Does.ld_raisesAlign hmay (heither (n := 8) (by decide) h) rfl,
    fun rd miss ecc hmay h => Does.ld_raisesAlign hmay (hspace (n := 1) (by decide) h) rfl,
    fun rd miss ecc hmay h => Does.ld_raisesAlign hmay (heither (n := 2) (by decide) h) rfl,
    fun rd miss ecc hmay h => Does.ld_raisesAlign hmay (hodd (n := 4) h) rfl,
    fun rs2 hmay h => Does.st_raisesAlign hmay (hspace (n := 1) (by decide) h) rfl,
    fun rs2 hmay h => Does.st_raisesAlign hmay (heither (n := 2) (by decide) h) rfl,
    fun rs2 hmay h => Does.st_raisesAlign hmay (hodd (n := 4) h) rfl,
    fun rs2 hmay h => Does.st_raisesAlign hmay (heither (n := 8) (by decide) h) rfl⟩

end Sys2Proof.Proofs
end

section
/-! PROOFS. Event records (R333 to R336), and O10: a record for a queue in use goes to the slot at WR, where CTL SRAM holds that, and WR
moves on; on a full ring it is dropped and counted. -/

namespace Sys2Proof.Machine

/-! ### Bytes stored -/

/-- A store puts the number's bytes from its address upwards, least significant first (R3). -/
theorem Dev.byte_store_in (n : Nat) (d : Dev) (a v : Nat) {k : Nat} (h : k < n) :
    (d.store a n v).byte (a + k) = BitVec.ofNat 8 (v / 256 ^ k) := by
  induction n generalizing d a v k with
  | zero => omega
  | succ n ih =>
    have hstore : d.store a (n + 1) v = (d.putByte a (BitVec.ofNat 8 v)).store (a + 1) n (v / 256) := rfl
    cases k with
    | zero => rw [hstore, Dev.byte_store_out _ _ _ _ _ (by omega), Nat.add_zero, Dev.byte_putByte_same, Nat.pow_zero, Nat.div_one]
    | succ k =>
      have haddr : a + (k + 1) = a + 1 + k := by omega
      rw [hstore, haddr, ih _ _ _ (by omega), Nat.div_div_eq_div_mul, Nat.pow_succ']

theorem Dev.wrote_store (d : Dev) (a n v : Nat) : d.Wrote a n v (d.store a n v) :=
  ⟨fun _ h => Dev.byte_store_in n d a v h, fun c h => d.byte_store_out a n v c h⟩

/-! ### Rings -/

/-- The address of the slot at WR of an event queue (R333). -/
def Dev.evqSlot (d : Dev) (q : Nat) : Nat := 16 * d.get (SYN_EVQq_CFG_BASE q) + 16 * d.get (SYN_EVQq_WR_IDX q)

section
variable {d : Dev} {q : Nat}

/-- A queue in use has at most as many slots as WR can count (R348). -/
theorem Dev.evqSize_le (hon : d.evqOn q = true) : d.evqSize q ≤ 2 ^ 12 := by
  simp only [Dev.evqOn, Bool.and_eq_true, decide_eq_true_eq] at hon
  obtain ⟨-, hlog⟩ := hon
  exact Nat.pow_le_pow_right (by decide) hlog

variable (d q)

theorem Dev.evqWrite_eq (r : EvRec) : d.evqWrite q r
    = (if d.evqSlot q + 16 ≤ 0x200000 then d.store (d.evqSlot q) 16 r.word else d).set (SYN_EVQq_WR_IDX q)
        ((d.get (SYN_EVQq_WR_IDX q) + 1) % d.evqSize q) := by
  unfold Dev.evqWrite Dev.evqSlot
  dsimp only
  split <;> simp [Dev.evqSize]

theorem Dev.evqWrite_wr (hon : d.evqOn q = true) (r : EvRec) :
    (d.evqWrite q r).get (SYN_EVQq_WR_IDX q) = (d.get (SYN_EVQq_WR_IDX q) + 1) % d.evqSize q := by
  have hsize := Dev.evqSize_le hon
  have hlt : (d.get (SYN_EVQq_WR_IDX q) + 1) % d.evqSize q < d.evqSize q := Nat.mod_lt _ (Nat.two_pow_pos _)
  rw [Dev.evqWrite_eq, Dev.get_set_same]
  exact Nat.mod_eq_of_lt (Nat.lt_of_lt_of_le hlt hsize)

theorem Dev.evqWrite_rd (r : EvRec) : (d.evqWrite q r).get (SYN_EVQq_RD_IDX q) = d.get (SYN_EVQq_RD_IDX q) := by
  have hkey : (SYN_EVQq_RD_IDX q).key ≠ (SYN_EVQq_WR_IDX q).key := by
    simp only [SYN_EVQq_RD_IDX, SYN_EVQq_WR_IDX, SYN_EVQq_RD_A, SYN_EVQq_WR_A]; omega
  rw [Dev.evqWrite_eq, Dev.get_set_ne _ _ hkey]
  split
  · exact Dev.store_get ..
  · rfl

theorem Dev.evqWrite_mem (r : EvRec) :
    if d.evqSlot q + 16 ≤ 0x200000 then d.Wrote (d.evqSlot q) 16 r.word (d.evqWrite q r) else (d.evqWrite q r).mem = d.mem := by
  rw [Dev.evqWrite_eq]
  split
  · exact d.wrote_store _ 16 _
  · rfl

/-! ### A record for a queue (R335, R336) -/

variable {d q} (r : EvRec)

theorem Dev.postQ_of_off (hoff : d.evqOn q = false) : d.postQ q r = d.inc SYN_EV_UNROUTED_COUNT := by
  simp [Dev.postQ, hoff]

theorem Dev.postQ_of_full (hon : d.evqOn q = true) (hfull : d.evqFull q = true) :
    d.postQ q r = { d.inc (SYN_EVQq_DROP_COUNT q) with evqLost := d.evqLost.set q (d.evqLost.get q 0 + 1) 0 } := by
  simp [Dev.postQ, hon, hfull]

theorem Dev.postQ_of_room (hon : d.evqOn q = true) (hroom : d.evqFull q = false) : d.postQ q r = d.evqWrite q r := by
  simp [Dev.postQ, hon, hroom]

/-- A record dropped is counted, and memory and WR stay (R336). -/
theorem Dev.postQ_drops (hon : d.evqOn q = true) (hfull : d.evqFull q = true) :
    (d.postQ q r).mem = d.mem ∧ (d.postQ q r).get (SYN_EVQq_WR_IDX q) = d.get (SYN_EVQq_WR_IDX q)
      ∧ (d.postQ q r).get (SYN_EVQq_DROP_COUNT q) = (d.get (SYN_EVQq_DROP_COUNT q) + 1) % 2 ^ 32 := by
  have hkey : (SYN_EVQq_WR_IDX q).key ≠ (SYN_EVQq_DROP_COUNT q).key := by
    simp only [SYN_EVQq_WR_IDX, SYN_EVQq_DROP_COUNT, SYN_EVQq_WR_A, SYN_EVQq_DROP_A]; omega
  rw [Dev.postQ_of_full r hon hfull]
  exact ⟨rfl, d.get_inc_ne hkey, d.get_inc_same _⟩

end

end Sys2Proof.Machine

namespace Sys2Proof.Proofs
open Sys2Proof Sys2Proof.Machine

/-- Settles O10, by the three cases of `Dev.postQ`. -/
theorem eventRecordsEnterTheirRing : Obligations.EventRecordsEnterTheirRing := by
  unfold Obligations.EventRecordsEnterTheirRing
  intro d q r _
  rw [← Dev.evqSlot]
  split
  case isTrue hoff => exact Dev.postQ_of_off r hoff
  case isFalse hused =>
    have hon : d.evqOn q = true := by simpa using hused
    split
    case isTrue hfull => exact Dev.postQ_drops r hon (beq_iff_eq.mpr hfull)
    case isFalse hroom =>
      rw [Dev.postQ_of_room r hon (beq_eq_false_iff_ne.mpr hroom)]
      exact ⟨d.evqWrite_wr q hon r, d.evqWrite_rd q r, d.evqWrite_mem q r⟩

end Sys2Proof.Proofs
end

section
/-! PROOFS. Registers, loads and resets: why O9, O29 and O50 fail as they stand. O9 asks that a write of p0 leaves every predicate as it
was, for every number. But a thread has eight predicates (R320), each write of one keeps only those, and the statement does not shut out
a state with a bit above them. O29 asks that a load inside an accord gives RD the bytes the thread has staged. But a load whose line is
one too many for the read set aborts the accord with CAPACITY (R285), and from that instant a load returns committed values (R372). O50
asks that a drive whose shutdown completes is OFF. But a drive that has been enabled again meanwhile starts over (R396). -/

namespace Sys2Proof.Machine

/-! ### A predicate mask with a bit above p7 -/

/-- Thread 0 with bit 8 set in the mask of its predicates, which end with bit 7. -/
def ninthPredicate : Dev := Dev.reset.modThr 0 (fun x => { x with p := 256 })

theorem wp_zero_drops_ninth : ninthPredicate.pred 0 8 = true ∧ (ninthPredicate.wp 0 0 true).pred 0 8 = false := by decide

/-! ### A load that finds the read set full -/

/-- The line of the load goes into a read set that has room for it no more: the accord aborts with CAPACITY (R285). -/
theorem Dev.readLine_of_full {d : Dev} {n a : Nat} (hnew : a / 64 ∉ (d.accSlot n).rset) (hfull : 512 ≤ (d.accSlot n).rset.length) :
    d.readLine n a = d.abortSlot n 2 := by
  simp [Dev.readLine, hnew, hfull]

/-- A load of one byte of CTL SRAM is performed at once (R324, R327). -/
theorem Dev.loadInstr_byte_of_sram {d : Dev} {a : Nat} (hsram : d.region a = .sram) (t rd : Nat) (signed : Bool) (len : Nat) (e : Ecc) :
    d.loadInstr t rd a 1 signed len false e = d.performLoad t rd a 1 signed len e := by
  simp [Dev.loadInstr, hsram, Nat.mod_one]

/-- Such a load of a word without errors, in a region that a checker guards, reads what it reads behind the abort. -/
theorem Dev.performLoad_of_full {d : Dev} {t n a : Nat} (hopen : d.openOf t = some n) (hsram : d.region a = .sram)
    (hsound : d.flawed a = false) (hnew : a / 64 ∉ (d.accSlot n).rset) (hfull : 512 ≤ (d.accSlot n).rset.length)
    (rd m : Nat) (signed : Bool) (len : Nat) :
    d.performLoad t rd a m signed len .ok
      = ((d.abortSlot n 2).wr t rd (extend m (leNat ((d.abortSlot n 2).seenBytes t a m)) signed)).retire t len := by
  simp [Dev.performLoad, hsound, Dev.dataEcc, Dev.memRead, Dev.flashEnd, hsram, hopen, Region.checked, Dev.readLine_of_full hnew hfull]

/-- What O29 says of RD behind a load of one byte of CTL SRAM, of a word without errors. -/
theorem Dev.Loads.rg_of_sram {d e : Dev} {t rd a len : Nat} {miss : Bool} (h : d.Loads t rd a 1 false len miss .ok e)
    (hsram : d.region a = .sram) (hsound : d.flawed a = false) :
    d.WritesReg t rd (extend 1 (leNat (d.seenBytes t a 1)) false) e := by
  simp only [Dev.Loads, Dev.found, Dev.dataEcc, Dev.memRead, Dev.flashEnd, hsram, hsound, Nat.mod_one, ne_eq, not_true_eq_false,
    reduceCtorEq, false_and, and_false, or_self, Bool.false_eq_true, reduceIte] at h
  exact h.1

/-- Thread 0 at LD8U of the byte at 64 into w1 (R360), with an OPEN accord in slot 0 that has staged 1 for that byte (R284). Its read set
holds the 512 lines behind the one of the byte. -/
def fullReadSet : Dev :=
  ((fetchingWord 0x08040040).set (ACD_SLOTn_STAT_STATE 0) 1).setAccSlot 0
    { AccSlot.reset with mems := [(8, (1, 1))], rset := List.range' 2 512 }

theorem fullReadSet_issues : fullReadSet.mayIssue 0 (.ld8u 0 0 1 0 (.short 64) false .ok) 0 := by unfold Dev.mayIssue; decide

theorem fullReadSet_plain : fullReadSet.ea 0 0 (.short 64) = 64 ∧ fullReadSet.region 64 = .sram ∧ fullReadSet.flawed 64 = false
    ∧ fullReadSet.openOf 0 = some 0 := by decide

theorem rset_fullReadSet : (fullReadSet.accSlot 0).rset = List.range' 2 512 := rfl

/-- The thread has staged 1; with the abort the staged byte is gone, and the thread sees the byte of memory, which is 0. -/
theorem fullReadSet_sees : fullReadSet.seenBytes 0 64 1 = [1] ∧ (fullReadSet.abortSlot 0 2).seenBytes 0 64 1 = [0] := by decide

/-- The load as the model performs it. -/
theorem fullReadSet_ld : fullReadSet.ld 0 0 1 0 (.short 64) false .ok 1 false = ((fullReadSet.abortSlot 0 2).wr 0 1 0).retire 0 4 := by
  obtain ⟨haddr, hsram, hsound, hopen⟩ := fullReadSet_plain
  have hnew : 64 / 64 ∉ (fullReadSet.accSlot 0).rset := by rw [rset_fullReadSet]; simp
  have hfull : 512 ≤ (fullReadSet.accSlot 0).rset.length := by rw [rset_fullReadSet]; simp
  refine (fullReadSet_issues.ld_eq 1 0 (.short 64) false .ok 1 false).trans ?_
  show Dev.loadInstr 0 1 (fullReadSet.ea 0 0 (.short 64)) 1 false 4 false .ok fullReadSet = _
  rw [haddr, Dev.loadInstr_byte_of_sram hsram, Dev.performLoad_of_full hopen hsram hsound hnew hfull, fullReadSet_sees.2]
  rfl

theorem fullReadSet_rg : (((fullReadSet.abortSlot 0 2).wr 0 1 0).retire 0 4).rg 0 1 = 0 := by decide

/-! ### A drive that is enabled again while it shuts down -/

/-- Drive 0 shuts down, and EN has been written 1 again meanwhile, with the storage engine on (R396). -/
def enabledAgain : Dev :=
  ((Dev.reset.set STO_CTL_EN 1).set (STO_Sn_CTL_EN 0) 1).modDrive 0 (fun x => { x with shut := true })

theorem enabledAgain_shuts : enabledAgain.domOn 11 = true ∧ (enabledAgain.drive 0).shut = true := by decide

/-- As the shutdown completes the drive starts: its STATE is 1, not 0. -/
theorem driveShutdownDone_enabledAgain : (driveShutdownDone 0 enabledAgain).get (STO_Sn_STAT_STATE 0) = 1 := by decide

/-- DRIVE_SHUTDOWN_DONE while PCIE is ON. -/
theorem exec_driveShutdownDone_of_domOn (n : Fin 2) (s : State) (h : s.dev.domOn 11 = true) :
    exec (.driveShutdownDone n) s = .next { s with dev := driveShutdownDone n s.dev } := by
  show State.runOn _ _ _ = _
  simp [State.runOn, State.run_eq, h]

end Sys2Proof.Machine

namespace Sys2Proof.Proofs
open Sys2Proof Sys2Proof.Machine

/-- Refutes O9: at `ninthPredicate` a write of p0 is asked to leave what predicate 8 reads, but it reads false then. -/
theorem not_w0AndP0AreHardWired : ¬ Obligations.W0AndP0AreHardWired := by
  unfold Obligations.W0AndP0AreHardWired
  intro h
  obtain ⟨-, -, -, hpreds⟩ := h ninthPredicate 0 0 true
  obtain ⟨hbefore, hafter⟩ := wp_zero_drops_ninth
  have hkept := hpreds 8
  rw [hbefore, hafter] at hkept
  exact absurd hkept (by decide)

/-- Refutes O29: at `fullReadSet` the clause on LD8U asks that w1 takes the staged byte, which is 1, but the load aborts the accord and
w1 takes the byte of memory, which is 0. -/
theorem not_synoshLoadsComplete : ¬ Obligations.SynoshLoadsComplete := by
  unfold Obligations.SynoshLoadsComplete
  intro h
  obtain ⟨hld8u, -⟩ := h ⟨fullReadSet, []⟩
  obtain ⟨haddr, hsram, hsound, -⟩ := fullReadSet_plain
  have hloads := (hld8u 0 0 1 0 (.short 64) false .ok).of_issued fullReadSet_issues rfl fullReadSet_ld
  have hw1 : (((fullReadSet.abortSlot 0 2).wr 0 1 0).retire 0 4).rg 0 1 = extend 1 (leNat (fullReadSet.seenBytes 0 64 1)) false :=
    Dev.Loads.rg_of_sram (a := 64) hloads hsram hsound 1 (by decide)
  rw [fullReadSet_sees.1] at hw1
  exact absurd (fullReadSet_rg.symm.trans hw1) (by decide)

/-- Refutes O50: at `enabledAgain` the clause on DRIVE_SHUTDOWN_DONE asks that STATE of drive 0 is 0, but the drive starts over. -/
theorem not_resetBootAndWatchdogComplete : ¬ Obligations.ResetBootAndWatchdogComplete := by
  unfold Obligations.ResetBootAndWatchdogComplete
  intro h
  obtain ⟨-, -, -, -, -, -, -, -, -, -, -, -, -, -, hshutdown, -⟩ := h ⟨enabledAgain, []⟩
  obtain ⟨hon, hshut⟩ := enabledAgain_shuts
  have hclause := (hshutdown 0).of_exec (exec_driveShutdownDone_of_domOn 0 ⟨enabledAgain, []⟩ hon)
  rw [if_neg (by simp [hon]), if_pos (by simp [hshut])] at hclause
  obtain ⟨hstate, -⟩ := hclause
  exact absurd (driveShutdownDone_enabledAgain.symm.trans hstate) (by decide)

end Sys2Proof.Proofs
end

section
/-! PROOFS. The rest of spec 11 and the Ethernet ports: O53 and O57, and why O33 fails as it stands. A compare that its thread issues
writes its result to PD and the complement to PDN (R359). O33 asks that a host frame that leaves a port adds one HTX_DONE record to those
due. But the egress first drops the frames at the head of its queues whose descriptors have been lost (R564), and a host frame that the
switch core drops is due a record as well (R385, R386). -/

namespace Sys2Proof.Machine

/-! ### Compares (R359) -/

/-- A compare's result `b` stands in PD and its complement in PDN; p0 reads true, and nothing else of the operands changes. -/
def Dev.Compared (d : Dev) (t : Nat) (pd pdn : Fin 8) (b : Bool) (e : Dev) : Prop :=
  (pd ≠ 0 → pd ≠ pdn → e.pred t pd = b) ∧ (pdn ≠ 0 → e.pred t pdn = !b) ∧ e.pred t 0 = true
    ∧ (∀ q, q < 8 → q ≠ pd.val → q ≠ pdn.val → e.pred t q = d.pred t q) ∧ (e.thr t).w = (d.thr t).w

theorem Dev.PredResult.compared {d e : Dev} {t len : Nat} {pd pdn : Fin 8} {b : Bool}
    (h : d.PredResult t len (fun q => if q = pdn.val then !b else if q = pd.val then b else d.pred t q) e) : d.Compared t pd pdn b e := by
  obtain ⟨-, hpreds, hp0, hw⟩ := h
  have hpred (q : Nat) (h1 : 1 ≤ q) (h8 : q < 8) : e.pred t q = if q = pdn.val then !b else if q = pd.val then b else d.pred t q :=
    hpreds q h1 h8
  have hpos {q : Fin 8} (hq : q ≠ 0) : 1 ≤ q.val := Nat.pos_of_ne_zero (Fin.val_ne_zero_iff.mpr hq)
  refine ⟨fun hpd hne => ?_, fun hpdn => ?_, hp0, fun q hq hpd hpdn => ?_, hw⟩
  · rw [hpred _ (hpos hpd) pd.isLt, if_neg (Fin.val_ne_of_ne hne), if_pos rfl]
  · rw [hpred _ (hpos hpdn) pdn.isLt, if_pos rfl]
  · rcases Nat.eq_zero_or_pos q with rfl | hq0
    · rw [hp0, Dev.pred_zero]
    · rw [hpred q hq0 hq, if_neg hpdn, if_neg hpd]

/-- An instruction that writes a pair of predicates, where its thread issues it. -/
theorem Does.compares {c : Instr} {s : State} {t : Fin 32} {p len : Nat} {u : Uses} {pd pdn : Fin 8} {b : Dev → Bool}
    (hexec : exec c s = s.issue t c (Dev.instr t p len u (fun d => (d.putPair t pd pdn (b d)).retire t len)))
    (hmay : s.dev.mayIssue t c p) : Does c s (fun d d' => d.Compared t pd pdn (b d) d') := by
  obtain ⟨e, he, hqueue, hissued⟩ := Does.putPair c s hexec
  have hresult := (hmay.issued_iff _ _ _).mp hissued
  exact ⟨e, he, hqueue, hresult.compared⟩

/-! ### A host frame dropped in front of another -/

/-- Two host frames of 60 bytes, with the tags 1 and 2, queued on the first egress queue of E0 (R385) while the switch core and the
scheduler run. -/
def twoHostFrames : Dev :=
  (((Dev.reset.set SWC_CTL_EN 1).set SCH_CTL_EN 1).hostQueue 0 0 ⟨0, 1, false, false⟩ (List.replicate 60 0)).hostQueue 0 0
    ⟨0, 2, false, false⟩ (List.replicate 60 0)

/-- A read has found the descriptor of cell 0 uncorrectable, which holds the first of them (R564). -/
def firstFrameLost : Dev := twoHostFrames.addFlaw (flawKey 2 0 0)

/-- ETHERNET is ON and E0 does not pause; no record is due; past the lost frame, the other one stands at the head of the queue that the
egress picks. -/
theorem firstFrameLost_sends : firstFrameLost.domOn 9 = true ∧ firstFrameLost.flag (ETH_STAT_PAUSED 0) = false
    ∧ firstFrameLost.eth.due = [] ∧ (firstFrameLost.prepare 10).pickLocal 10 = some 768
    ∧ ((firstFrameLost.prepare 10).headOf 768).map Prod.fst = some 1 := by decide

theorem firstFrameLost_host : (firstFrameLost.prepare 10).eth.host.get 1 none = some ⟨0, 2, false, false⟩ := by decide

/-- Both frames are due their record then: the one that was lost, and the one that met the link down. -/
theorem ethFrameTx_firstFrameLost_due : (ethFrameTx 0 .ok firstFrameLost).eth.due.length = 2 := by decide

/-- ETH_FRAME_TX while ETHERNET is ON. -/
theorem exec_ethFrameTx_of_domOn (n : Fin 10) (ecc : Ecc) (s : State) (h : s.dev.domOn 9 = true) :
    exec (.ethFrameTx n ecc) s = .next { s with dev := ethFrameTx n ecc s.dev } := by
  show State.runOn _ _ _ = _
  simp [State.runOn, State.run_eq, h]

end Sys2Proof.Machine

namespace Sys2Proof.Proofs
open Sys2Proof Sys2Proof.Machine

/-- Settles O57: each word is decoded by computation, whatever the thread and the word behind it. -/
theorem synoshWordsDecode : Obligations.SynoshWordsDecode := by
  unfold Obligations.SynoshWordsDecode
  intro t next
  exact ⟨rfl, rfl, rfl, rfl, rfl, rfl, rfl, rfl, rfl⟩

/-- Settles O53: both instructions write the pair of predicates, and issue where their thread may issue them. -/
theorem comparesWriteBothPredicates : Obligations.ComparesWriteBothPredicates := by
  unfold Obligations.ComparesWriteBothPredicates
  intro s t p pd pdn rs1 rs2 cond imm
  exact ⟨Does.compares rfl, Does.compares rfl⟩

/-- Refutes O33: at `firstFrameLost` the clause on ETH_FRAME_TX asks that one record more is due, but two frames leave the queue and each
is due its record. -/
theorem not_ethernetPortCommandsComplete : ¬ Obligations.EthernetPortCommandsComplete := by
  unfold Obligations.EthernetPortCommandsComplete
  intro h
  obtain ⟨-, -, htx, -⟩ := h ⟨firstFrameLost, []⟩
  obtain ⟨hon, hpaused, hdue, hpick, hhead⟩ := firstFrameLost_sends
  have hclause := (htx 0 .ok).of_exec (exec_ethFrameTx_of_domOn 0 .ok ⟨firstFrameLost, []⟩ hon)
  obtain ⟨⟨_, k⟩, hfirst, rfl⟩ := Option.map_eq_some_iff.mp hhead
  simp only [Fin.val_zero, Nat.add_zero, hon, hpaused, hpick, hfirst, firstFrameLost_host, Bool.true_eq_false, Bool.false_eq_true,
    false_and, reduceIte] at hclause
  obtain ⟨-, -, -, hone, -⟩ := hclause
  have hboth := ethFrameTx_firstFrameLost_due
  rw [hone, hdue] at hboth
  exact absurd hboth (by decide)

end Sys2Proof.Proofs
end

section
/-! PROOFS. The storage engine: what leaves it as it is. A completion is written to DRAM and sent in a context (R400, R403). Neither changes
the engine's own part, what waits at the local ports, or a register of the engine's block (R405). -/

namespace Sys2Proof.Machine

/-! ### Devices with the same storage engine -/

/-- A field of the storage engine's block of registers (R393, R405). -/
abbrev inSto (f : Fld) : Prop := 8 * 0x10B00000 ≤ f.key ∧ f.key < 8 * 0x10C00000

/-- A field of a table of the windows' words, which stand above every register. -/
theorem not_inSto_of_table {base k i lsb w rst : Nat} (h : 0x10C00000 ≤ base) :
    ¬ inSto ⟨8 * (base + k * i) + lsb, w, rst⟩ := by
  rintro ⟨-, hlt⟩
  have hle : base ≤ base + k * i := Nat.le_add_right ..
  simp only at hlt
  omega

theorem notLog_of_inSto {f : Fld} (h : inSto f) : notLog f := by
  unfold notLog notEvq
  omega

/-- Two devices that agree on the storage engine, on its registers, and on what waits at the local ports. -/
structure Dev.KeepsSto (d e : Dev) : Prop where
  sto : e.sto = d.sto
  port : e.port = d.port
  get : ∀ f : Fld, inSto f → e.get f = d.get f

theorem Dev.KeepsSto.refl (d : Dev) : d.KeepsSto d := ⟨rfl, rfl, fun _ _ => rfl⟩

theorem Dev.KeepsSto.of_eq {d e : Dev} (h : d = e) : d.KeepsSto e := h ▸ .refl d

section
variable {d e e' : Dev}

theorem Dev.KeepsSto.trans (h : d.KeepsSto e) (k : e.KeepsSto e') : d.KeepsSto e' :=
  ⟨k.sto.trans h.sto, k.port.trans h.port, fun f hf => (k.get f hf).trans (h.get f hf)⟩

/-- Parts that the engine does not own. -/
theorem Dev.KeepsSto.of_same (h : d.KeepsSto e) (hflds : e'.flds = e.flds) (hsto : e'.sto = e.sto) (hport : e'.port = e.port) :
    d.KeepsSto e' :=
  h.trans ⟨hsto, hport, fun f _ => by simp only [Dev.get, hflds]⟩

theorem Dev.KeepsSto.set (h : d.KeepsSto e) {f : Fld} (v : Nat) (hf : ¬ inSto f := by decide) : d.KeepsSto (e.set f v) :=
  h.trans ⟨rfl, rfl, fun _ hg => e.get_set_ne v (fun heq => hf (by simpa only [inSto, heq] using hg))⟩

theorem Dev.KeepsSto.inc (h : d.KeepsSto e) {f : Fld} (hf : ¬ inSto f := by decide) : d.KeepsSto (e.inc f) := h.set _ hf

theorem Dev.KeepsSto.incBy (h : d.KeepsSto e) {f : Fld} (n : Nat) (hf : ¬ inSto f := by decide) : d.KeepsSto (e.incBy f n) := h.set _ hf

theorem Dev.KeepsSto.decBy (h : d.KeepsSto e) {f : Fld} (n : Nat) (hf : ¬ inSto f := by decide) : d.KeepsSto (e.decBy f n) := h.set _ hf

theorem Dev.KeepsSto.setB (h : d.KeepsSto e) {f : Fld} (b : Bool) (hf : ¬ inSto f := by decide) : d.KeepsSto (e.setB f b) := h.set _ hf

theorem Dev.KeepsSto.of_core (h : d.KeepsSto e) (hcore : e.SameCore e') (hget : ∀ f : Fld, inSto f → e'.get f = e.get f) :
    d.KeepsSto e' := h.trans ⟨hcore.sto, hcore.port, hget⟩

theorem Dev.KeepsSto.postQ (h : d.KeepsSto e) {q : Nat} (hq : q < 32) (r : EvRec) : d.KeepsSto (e.postQ q r) :=
  h.of_core (e.postQ_core q r) (fun _ hf => e.postQ_get q r hq (notLog_of_inSto hf).1)

theorem Dev.KeepsSto.event (h : d.KeepsSto e) (src code arg : Nat) : d.KeepsSto (e.event src code arg) :=
  h.of_core (e.event_core src code arg) (fun _ hf => e.event_get src code arg (notLog_of_inSto hf).1)

theorem Dev.KeepsSto.raise (h : d.KeepsSto e) {f : Fld} (hf : ¬ inSto f := by decide) : d.KeepsSto (e.raise f) :=
  h.of_core (e.raise_core f) (fun _ hg => e.raise_get f (notLog_of_inSto hg).1 (fun heq => hf (by simpa only [inSto, heq] using hg)))

theorem Dev.KeepsSto.silPost (h : d.KeepsSto e) (src code args : Nat) : d.KeepsSto (e.silPost src code args) :=
  h.of_core (e.silPost_core src code args) (fun _ hf => e.silPost_get src code args (notLog_of_inSto hf))

theorem Dev.KeepsSto.ite {c : Prop} [Decidable c] (h : d.KeepsSto e) (k : d.KeepsSto e') : d.KeepsSto (if c then e else e') := by
  split
  · exact h
  · exact k

theorem Dev.KeepsSto.raiseIf {c : Prop} [Decidable c] (h : d.KeepsSto e) {f : Fld} (hf : ¬ inSto f := by decide) :
    d.KeepsSto (if c then e.raise f else e) := .ite (h.raise hf) h

theorem Dev.KeepsSto.forAll {α : Type} {l : List α} {f : α → Dev → Dev}
    (hf : ∀ x ∈ l, ∀ y, d.KeepsSto y → d.KeepsSto (f x y)) (h : d.KeepsSto e) : d.KeepsSto (forAll l f e) := by
  induction l generalizing e with
  | nil => exact h
  | cons x t ih => exact ih (fun y hy => hf y (List.mem_cons_of_mem x hy)) (hf x List.mem_cons_self e h)

end

/-! ### Writes to memory (R286, R328, R590) -/

section
variable {d e : Dev}

theorem Dev.KeepsSto.retire (h : d.KeepsSto e) {t : Nat} (ht : t < 32) (len : Nat) : d.KeepsSto (e.retire t len) := by
  obtain ⟨heq, hget⟩ := Dev.onlySyn.retire (.of_syn rfl : e.onlySyn (retireKeys t) e) len
  refine h.trans ⟨by rw [heq], by rw [heq], fun f hf => hget f ?_⟩
  simp only [retireKeys, SYN_THn_STAT_STATE, SYN_THn_STAT_RUNAHEAD, SYN_THn_PC_LO_PC, SYN_THn_PC_HI_PC, SYN_THn_STAT_A,
    SYN_THn_PC_LO_A, SYN_THn_PC_HI_A, List.mem_cons, List.not_mem_nil, or_false, inSto] at hf ⊢
  omega

theorem Dev.KeepsSto.fenceDone (h : d.KeepsSto e) {t : Nat} (ht : t < 32) : d.KeepsSto (e.fenceDone t) := .ite (h.retire ht 4) h

theorem Dev.KeepsSto.modSyn (h : d.KeepsSto e) (f : SynPart → SynPart) : d.KeepsSto (e.modSyn f) := h.of_same rfl rfl rfl

theorem Dev.KeepsSto.slotState (h : d.KeepsSto e) {n : Nat} (hn : n < 16) (st code : Nat) : d.KeepsSto (e.slotState n st code) := by
  have hstate : ¬ inSto (ACD_SLOTn_STAT_STATE n) := by simp only [inSto, ACD_SLOTn_STAT_STATE, ACD_SLOTn_STAT_A]; omega
  have hcode : ¬ inSto (ACD_SLOTn_STAT_CODE n) := by simp only [inSto, ACD_SLOTn_STAT_CODE, ACD_SLOTn_STAT_A]; omega
  have hset := ((h.set st hstate).set code hcode).set (f := ACD_STAT_OPEN)
    ((e.set (ACD_SLOTn_STAT_STATE n) st).set (ACD_SLOTn_STAT_CODE n) code).pendingSlots.length
  unfold Dev.slotState
  simp only
  generalize Dev.set _ ACD_STAT_OPEN _ = y at hset ⊢
  have hlatest (c : Prop) [Decidable c] (g : SynPart → SynPart) : d.KeepsSto (if c then y.modSyn g else y) :=
    .ite (hset.modSyn g) hset
  split
  · exact hset
  · split
    · exact (hlatest _ _).fenceDone (y.get_lt (ACD_SLOTn_STAT_THREAD n))
    · exact hlatest _ _

theorem Dev.KeepsSto.noteAbort (h : d.KeepsSto e) (id code : Nat) : d.KeepsSto (e.noteAbort id code) := .ite h (h.of_same rfl rfl rfl)

theorem Dev.KeepsSto.abortReport (h : d.KeepsSto e) (id kind slot : Nat) {code : Nat} (hcode : code < 16) :
    d.KeepsSto (e.abortReport id kind code slot) := by
  have hcounted : d.KeepsSto (e.inc (ACD_ABORTc_COUNT (code - 1))) :=
    h.inc (by simp only [inSto, ACD_ABORTc_COUNT, ACD_ABORTc_A]; omega)
  have hnoted := Dev.KeepsSto.ite (c := kind = 2) (hcounted.noteAbort id code) hcounted
  exact (((hnoted.raiseIf (f := ACD_EVT_LINE_ABORT)).raiseIf (f := ACD_EVT_LATE)).raiseIf (f := ACD_EVT_ILLEGAL)).silPost ..

theorem Dev.KeepsSto.setAccSlot (h : d.KeepsSto e) (n : Nat) (x : AccSlot) : d.KeepsSto (e.setAccSlot n x) := h.of_same rfl rfl rfl

theorem Dev.KeepsSto.accordDone (h : d.KeepsSto e) (n code : Nat) : d.KeepsSto (e.accordDone n code) := h.postQ (e.get_lt ACD_CTL_EVQ) _

theorem Dev.KeepsSto.abortSlot (h : d.KeepsSto e) {n code : Nat} (hn : n < 16) (hcode : code < 16) : d.KeepsSto (e.abortSlot n code) := by
  have hreport := ((h.slotState hn 5 code).setAccSlot n AccSlot.reset).abortReport
    (((e.slotState n 5 code).setAccSlot n AccSlot.reset).get (ACD_SLOTn_ID_ID n)) (e.get (ACD_SLOTn_STAT_KIND n)) n hcode
  have hdone := Dev.KeepsSto.ite (c := e.get (ACD_SLOTn_STAT_KIND n) = 0) hreport (hreport.accordDone n code)
  exact .ite (.ite (hdone.modSyn _) hdone) h

theorem Dev.KeepsSto.memTouched (h : d.KeepsSto e) (a n own : Nat) : d.KeepsSto (e.memTouched a n own) := by
  refine .forAll (fun k hk y hy => hy.abortSlot ?_ (by decide)) h
  exact List.mem_range.mp (List.mem_filter.mp (List.mem_filter.mp hk).1).1

theorem Dev.KeepsSto.mend (h : d.KeepsSto e) (a n : Nat) : d.KeepsSto (e.mend a n) := .ite h (h.of_same rfl rfl rfl)

theorem Dev.KeepsSto.dropLines (h : d.KeepsSto e) (a n : Nat) : d.KeepsSto (e.dropLines a n) := .ite h (h.of_same rfl rfl rfl)

theorem Dev.KeepsSto.putBytes (h : d.KeepsSto e) (a : Nat) (l : List Byte) : d.KeepsSto (e.putBytes a l) :=
  have hmem := e.putBytes_sameButMem a l
  h.of_same hmem.flds hmem.core.sto hmem.core.port

theorem Dev.KeepsSto.engWrite (h : d.KeepsSto e) (a : Nat) (l : List Byte) : d.KeepsSto (e.engWrite a l) := by
  cases l with
  | nil => exact h
  | cons b t =>
    have hput := (h.putBytes a (b :: t)).mend a (b :: t).length
    exact .ite (.ite ((hput.memTouched ..).dropLines ..) hput) (h.event ..)

end

/-! ### The switch core takes a packet (R184, R190, R193 to R201) -/

section
variable {d e : Dev}

theorem Dev.KeepsSto.modSw (h : d.KeepsSto e) (f : SwitchPart → SwitchPart) : d.KeepsSto (e.modSw f) := h.of_same rfl rfl rfl

theorem Dev.KeepsSto.putPkt (h : d.KeepsSto e) (i : Nat) (k : Pkt) : d.KeepsSto (e.putPkt i k) := h.modSw _

theorem Dev.KeepsSto.setQueue (h : d.KeepsSto e) (q : Nat) (l : List Nat) : d.KeepsSto (e.setQueue q l) := h.modSw _

theorem Dev.KeepsSto.spillMove (h : d.KeepsSto e) : d.KeepsSto e.spillMove := h.of_same rfl rfl rfl

theorem Dev.KeepsSto.syncPools (h : d.KeepsSto e) : d.KeepsSto e.syncPools := by
  have hset (free rsv run : Nat) (claims spills : Bool) : d.KeepsSto (((((e.set SWC_FREE_CELLS free).set SWC_RSV_USED_CELLS rsv).setB
      SWC_STAT_CLAIM_PENDING claims).setB SWC_STAT_SPILLING spills).set SWC_STAT_RUNNING run) :=
    ((((h.set free).set rsv).setB claims).setB spills).set run
  exact (hset ..).raiseIf

theorem Dev.KeepsSto.occAdd (h : d.KeepsSto e) (q n : Nat) : d.KeepsSto (e.occAdd q n) :=
  (h.incBy n (not_inSto_of_table (by decide))).set _ (not_inSto_of_table (by decide))

theorem Dev.KeepsSto.charge (h : d.KeepsSto e) (p : Pool) : d.KeepsSto (e.charge p) := by
  cases p with
  | src => exact h
  | rsv p up => cases up <;> exact h.of_same rfl rfl rfl
  | hold => exact h.incBy 1
  | stage => exact h.of_same rfl rfl rfl
  | shared => exact h.of_same rfl rfl rfl
  | spill => exact h.incBy 1

theorem Dev.KeepsSto.discharge (h : d.KeepsSto e) (lead : Bool) (cls : Nat) (p : Pool) : d.KeepsSto (e.discharge lead cls p) := by
  cases p with
  | src => exact h
  | rsv p up =>
    cases up with
    | false => exact h.of_same rfl rfl rfl
    | true => exact .ite (h.of_same rfl rfl rfl) (h.of_same rfl rfl rfl)
  | hold => exact h.decBy 1
  | stage => exact h.of_same rfl rfl rfl
  | shared => exact h.of_same rfl rfl rfl
  | spill => exact h.decBy 1

/-- A fold that keeps what it has or takes the next member ends with a member, or with what it began with. -/
theorem foldl_mem_or_start {g : Option Nat → Nat → Option Nat} (hg : ∀ best x, g best x = best ∨ g best x = some x) {b : Nat}
    (l : List Nat) (best : Option Nat) (h : l.foldl g best = some b) : b ∈ l ∨ best = some b := by
  induction l generalizing best with
  | nil => exact .inr h
  | cons x t ih =>
    rcases ih _ h with hmem | hbest
    · exact .inl (List.mem_cons_of_mem x hmem)
    · rcases hg best x with hkept | htaken
      · exact .inr (hkept ▸ hbest)
      · exact .inl (Option.some.inj (htaken.symm.trans hbest) ▸ List.mem_cons_self)

theorem Dev.nextBank_lt {ing b : Nat} (h : e.nextBank ing = some b) : b < 8 := by
  have hstep : b ∈ _ ∨ none = some b := foldl_mem_or_start (fun best x => ?_) _ none h
  · rcases hstep with hmem | hnone
    · obtain ⟨k, -, rfl⟩ := List.mem_map.mp (List.mem_filter.mp hmem).1
      exact Nat.mod_lt _ (by decide)
    · cases hnone
  · cases best with
    | none => exact .inr rfl
    | some a =>
      simp only
      split
      · exact .inr rfl
      · exact .inl rfl

theorem Dev.KeepsSto.mendIn (h : d.KeepsSto e) (mem b lo n : Nat) : d.KeepsSto (e.mendIn mem b lo n) := .ite h (h.of_same rfl rfl rfl)

theorem Dev.KeepsSto.alloc (h : d.KeepsSto e) {ing : Nat} {data : List Byte} {p : Pool} {x : Cell × Dev}
    (hx : e.alloc ing data p = some x) : d.KeepsSto x.2 := by
  unfold Dev.alloc at hx
  split at hx
  · cases hx
  case h_2 b hb =>
    have hbank : ¬ inSto (SWC_BANKn_FREE_CELLS b) := by
      have := Dev.nextBank_lt hb
      simp only [inSto, SWC_BANKn_FREE_CELLS, SWC_BANKn_FREE_A]; omega
    injection hx with hx
    subst hx
    exact ((((h.decBy 1 hbank).modSw _).mendIn ..).mendIn ..).charge p

theorem Dev.KeepsSto.toShared (h : d.KeepsSto e) (ing : Nat) (lead : Bool) (cls : Nat) (c : Cell) :
    d.KeepsSto (e.toShared ing lead cls c).2 := by
  unfold Dev.toShared
  split
  · split
    next hx => exact h.alloc hx
    · exact h
  · exact (h.discharge lead cls c.pool).charge .shared
  · exact h

theorem Dev.KeepsSto.mapCells {f : Cell → Dev → Cell × Dev} (hf : ∀ c y, d.KeepsSto y → d.KeepsSto (f c y).2) (l : List Cell)
    (h : d.KeepsSto e) : d.KeepsSto (mapCells f l e).2 := by
  induction l generalizing e with
  | nil => exact h
  | cons c t ih => exact ih (hf c e h)

theorem Dev.KeepsSto.takeShared (h : d.KeepsSto e) (k : Pkt) : d.KeepsSto (e.takeShared k).2 := by
  refine .mapCells (fun c y hy => ?_) k.cells h
  split
  · exact hy.toShared ..
  · exact hy

theorem Dev.KeepsSto.spillFullCheck (h : d.KeepsSto e) : d.KeepsSto e.spillFullCheck := .ite h.raise h

theorem Dev.KeepsSto.spillCell (h : d.KeepsSto e) (q : Nat) (data : List Byte) : d.KeepsSto (e.spillCell q data).2 := by
  unfold Dev.spillCell
  dsimp only
  refine .spillFullCheck (.incBy (.inc (.spillMove (.charge (.modSw (h.engWrite _ data) _) _))) 1 ?_)
  exact not_inSto_of_table (by decide)

/-- A cell that waits at its source holds no place in the buffer. -/
theorem Dev.freeCell_of_src {c : Cell} (hc : c.pool = .src) (lead : Bool) (cls : Nat) : e.freeCell lead cls c = e := by
  simp [Dev.freeCell, hc, Dev.discharge]

theorem Dev.KeepsSto.spillCells (q : Nat) (lead : Bool) (cls : Nat) {l : List Cell} (hl : ∀ c ∈ l, c.pool = .src) (h : d.KeepsSto e) :
    d.KeepsSto (e.spillCells q lead cls l).2 := by
  induction l generalizing e with
  | nil => exact h
  | cons c t ih =>
    have ih (y : Dev) (hy : d.KeepsSto y) := ih (e := y) (fun c hc => hl c (List.mem_cons_of_mem _ hc)) hy
    unfold Dev.spillCells
    split
    · exact ih e h
    · split
      · refine ih _ ?_
        rw [Dev.toSpill, Dev.freeCell_of_src (hl c List.mem_cons_self)]
        exact h.spillCell q c.data
      · exact h.spillFullCheck

theorem Dev.KeepsSto.takeOff (h : d.KeepsSto e) (i : Nat) (k : Pkt) : d.KeepsSto (e.takeOff i k) := by
  have hoff := (h.decBy (f := SWQ_W2_OCC k.queue) k.occ (not_inSto_of_table (by decide))).decBy (f := SWQ_W3_SPILLED k.queue) k.spilled
    (not_inSto_of_table (by decide))
  exact (((hoff.setQueue ..).modSw _).modSw _).syncPools

/-- A packet none of whose cells has left its source is dropped. -/
theorem Dev.KeepsSto.dropPkt (h : d.KeepsSto e) {i : Nat} {k : Pkt} (hk : e.pkt i = some k) (hsrc : ∀ c ∈ k.cells, c.pool = .src) :
    d.KeepsSto (e.dropPkt i) := by
  have hhost : d.KeepsSto (e.hostDropped i) ∧ (e.hostDropped i).pkt i = some k := by
    unfold Dev.hostDropped
    split
    · exact ⟨h.of_same rfl rfl rfl, hk⟩
    · exact ⟨h, hk⟩
  obtain ⟨hkeeps, hpkt⟩ := hhost
  unfold Dev.dropPkt Dev.releasePkt
  rw [hpkt]
  refine .takeOff (.forAll (fun c hc y hy => ?_) hkeeps) i k
  rw [Dev.freeCell_of_src (hsrc c hc)]
  exact hy

theorem Dev.KeepsSto.holdPkt (h : d.KeepsSto e) (i : Nat) {k : Pkt} (hing : 20 ≤ k.ing) : d.KeepsSto (e.holdPkt i k) := by
  unfold Dev.holdPkt
  rw [if_neg (by simp only [Bool.and_eq_true, decide_eq_true_eq]; omega)]
  exact .ite h (h.of_same rfl rfl rfl)

theorem Dev.KeepsSto.enqueue (h : d.KeepsSto e) (i : Nat) (k : Pkt) : d.KeepsSto (e.enqueue i k) := by
  exact ((((h.modSw _).setQueue ..).inc).inc (not_inSto_of_table (by decide))).putPkt ..

/-- A packet that a local source hands over: it is none of an Ethernet port's, and its cells wait at their source. -/
structure Pkt.AtSource (k : Pkt) : Prop where
  ing : 20 ≤ k.ing
  cells : ∀ c ∈ k.cells, c.pool = .src

theorem Dev.pkt_inc (d : Dev) (f : Fld) (i : Nat) : (d.inc f).pkt i = d.pkt i := rfl

theorem Dev.KeepsSto.admitChip (h : d.KeepsSto e) {i : Nat} {k : Pkt} (hk : e.pkt i = some k) (hsrc : k.AtSource) :
    d.KeepsSto (e.admitChip i k) := by
  have hcounted : d.KeepsSto (((e.inc SWC_TRUNC_COUNT).inc SWC_ADMIT_PKTS_COUNT).inc (SWQ_W4_ADMIT_PKTS k.queue)) :=
    h.inc.inc.inc (not_inSto_of_table (by decide))
  unfold Dev.admitChip
  dsimp only
  refine .ite (hcounted.dropPkt (by rw [Dev.pkt_inc, Dev.pkt_inc, Dev.pkt_inc, hk]) hsrc.cells) ?_
  exact (((h.takeShared k).occAdd ..).enqueue ..).syncPools

theorem Dev.KeepsSto.admitSpill (h : d.KeepsSto e) (i : Nat) {k : Pkt} (hsrc : k.AtSource) : d.KeepsSto (e.admitSpill i k) := by
  unfold Dev.admitSpill
  exact (((h.spillCells k.queue k.lead k.credit hsrc.cells).inc (not_inSto_of_table (by decide))).enqueue ..).syncPools

theorem Dev.KeepsSto.admitToStore (h : d.KeepsSto e) (i : Nat) {k : Pkt} (hsrc : k.AtSource) : d.KeepsSto (e.admitToStore i k) := by
  unfold Dev.admitToStore
  split
  · exact h.admitSpill i hsrc
  · exact h.spillFullCheck.holdPkt i hsrc.ing

theorem Dev.KeepsSto.admission (h : d.KeepsSto e) {i : Nat} {k : Pkt} (hk : e.pkt i = some k) (hsrc : k.AtSource) :
    d.KeepsSto (e.admission i) := by
  have hheld := h.holdPkt i hsrc.ing
  have hstore := h.admitToStore i hsrc
  unfold Dev.admission
  rw [hk]
  dsimp only
  exact .ite h (.ite hheld (.ite hstore (.ite (h.admitChip hk hsrc) (.ite hstore hheld))))

theorem Dev.KeepsSto.admitNew (h : d.KeepsSto e) {i : Nat} {k : Pkt} (hk : e.pkt i = some k) (hsrc : k.AtSource) :
    d.KeepsSto (e.admitNew i) := by
  unfold Dev.admitNew
  rw [hk]
  exact .ite (h.holdPkt i hsrc.ing) (h.admission hk hsrc)

theorem Dev.pkt_putPkt_same (d : Dev) (i : Nat) (k : Pkt) : (d.putPkt i k).pkt i = some k :=
  Tab.find_insert_same i k _ (Tab.find_erase_same i _)

theorem Dev.KeepsSto.inject (h : d.KeepsSto e) {ing : Nat} (hing : 20 ≤ ing) (q sq : Nat) (hdr : THdr) (bytes : List Byte)
    (frame dataW : Bool) (term : Option Nat) : d.KeepsSto (e.inject ing q sq hdr bytes frame dataW term) := by
  refine .admitNew ((h.modSw _).putPkt ..) (Dev.pkt_putPkt_same ..) ⟨hing, fun c hc => ?_⟩
  obtain ⟨b, -, rfl⟩ := List.mem_map.mp hc
  rfl

end

/-! ### A packet enters its tunnel (R105, R106, R151, R152, R164, R171 to R174) -/

section
variable {d e : Dev}

/-- The port at which a path ends; none where the packet goes out. -/
def Path.endPort : Path → Option Nat
  | .out _ _ => none
  | .loop p => some p
  | .broken p => some p

theorem Dev.endPort_pathFor {p q cls : Nat} {dataW : Bool} (h : (e.pathFor p cls dataW).endPort = some q) : q = p ∨ q = otherTrunk p := by
  unfold Dev.pathFor at h
  split at h
  · cases h
  split at h
  · split at h
    · exact .inl (Option.some.inj h).symm
    split at h
    · cases h
    split at h
    · exact .inr (Option.some.inj h).symm
    · exact .inr (Option.some.inj h).symm
  · exact .inl (Option.some.inj h).symm

theorem Dev.endPort_pathFor_lt {p q cls : Nat} {dataW : Bool} (hp : p < 16) (h : (e.pathFor p cls dataW).endPort = some q) : q < 16 := by
  rcases Dev.endPort_pathFor h with rfl | rfl
  · exact hp
  · unfold otherTrunk
    omega

theorem Dev.KeepsSto.countDrop (h : d.KeepsSto e) (path : Path) (hp : ∀ q, path.endPort = some q → q < 16) :
    d.KeepsSto (e.countDrop path) := by
  cases path with
  | out p w => exact h
  | loop p =>
    have hlt := hp p rfl
    refine (h.inc (f := LNK_WRAPDROP_COUNT p) ?_).raise ?_
    · simp only [inSto, LNK_WRAPDROP_COUNT, LNK_WRAPDROP_A, portOfs]; split <;> omega
    · simp only [inSto, LNK_EVT_WRAP_LOOP, LNK_EVT_A, portOfs]; split <;> omega
  | broken p =>
    have hlt := hp p rfl
    refine h.inc (f := LNK_LINEDROP_COUNT p) ?_
    simp only [inSto, LNK_LINEDROP_COUNT, LNK_LINEDROP_A, portOfs]; split <;> omega

theorem Dev.KeepsSto.emit (h : d.KeepsSto e) {ing p : Nat} (hing : 20 ≤ ing) (hp : p < 16) (sq : Nat) (hdr : THdr) (payload : List Byte) :
    d.KeepsSto (e.emit ing p sq hdr payload) := by
  unfold Dev.emit
  split
  · exact .ite (h.inject hing ..) h.inc
  · split
    · exact h.inject hing ..
    · exact h.countDrop _ (fun q hq => Dev.endPort_pathFor_lt hp hq)

theorem Dev.lt_of_mem_egressPorts {c p : Nat} {hdr : THdr} (h : p ∈ e.egressPorts c hdr) : p < 16 := by
  have hone (q : Nat) (hq : q ∈ if e.get (CTX_W1_EGRESS c) = 15 then [0, 1].filter (fun p => e.openFor p hdr.cls)
      else [e.get (CTX_W1_EGRESS c)]) : q < 16 := by
    split at hq
    · have := (List.mem_filter.mp hq).1
      simp only [List.mem_cons, List.not_mem_nil, or_false] at this
      omega
    · exact List.mem_singleton.mp hq ▸ e.get_lt (CTX_W1_EGRESS c)
  have hspur (mask q : Nat) (hq : q ∈ spurPorts mask) : q < 16 := by
    obtain ⟨k, hk, rfl⟩ := List.mem_map.mp hq
    have := List.mem_range.mp (List.mem_filter.mp hk).1
    omega
  unfold Dev.egressPorts at h
  simp only at h
  split at h
  · rcases List.mem_append.mp h with hmem | hmem
    · exact hone p hmem
    · have := (List.mem_filter.mp hmem).1
      split at this
      · exact hspur _ p this
      · cases this
  · exact hone p h

theorem Dev.KeepsSto.txDone (h : d.KeepsSto e) (tag : Option (Nat × Nat)) (refused : Bool) : d.KeepsSto (e.txDone tag refused) := by
  cases tag with
  | none => exact h
  | some x => exact h.of_same rfl rfl rfl

theorem Dev.KeepsSto.rsFull (h : d.KeepsSto e) : d.KeepsSto e.rsFull := .ite h (h.set 1).raise

theorem Dev.KeepsSto.modCtx (h : d.KeepsSto e) (c : Nat) (f : CtxSt → CtxSt) : d.KeepsSto (e.modCtx c f) := h.of_same rfl rfl rfl

theorem Dev.KeepsSto.keepCopy (h : d.KeepsSto e) (c : Nat) (hdr : THdr) (payload : List Byte) : d.KeepsSto (e.keepCopy c hdr payload) := by
  have hwrite (cells : List Nat) (l : List Byte) : d.KeepsSto (e.rsWrite cells l) := .forAll (fun x _ y hy => hy.engWrite ..) h
  have hused := (hwrite (lowestFree e.rsTaken (e.rsTaken.length + (hdr.frameBytes + 255) / 256) 0 ((hdr.frameBytes + 255) / 256))
    (hdr.bytes ++ payload)).incBy (f := TNL_RS_USED_CELLS) ((hdr.frameBytes + 255) / 256)
  unfold Dev.keepCopy
  exact (Dev.KeepsSto.ite hused.rsFull hused).modCtx ..

theorem Dev.KeepsSto.launch (h : d.KeepsSto e) (c : Nat) {x : LocalPkt} (hing : 20 ≤ x.ing) (sq colour : Nat) :
    d.KeepsSto (e.launch c x sq colour) := by
  have hsent : d.KeepsSto ((e.incSeq (CTX_W3_TX_NEXT c) 1).inc (CTX_W8_TX_PKTS c)) :=
    (h.set _ (not_inSto_of_table (by decide))).inc (not_inSto_of_table (by decide))
  have hacked (b : Bool) (f : CtxSt → CtxSt) := Dev.KeepsSto.ite (c := b = true) (hsent.modCtx c f) hsent
  unfold Dev.launch
  exact .forAll (fun p hp y hy => hy.emit hing (Dev.lt_of_mem_egressPorts hp) ..)
    (.txDone (.ite (.keepCopy (hacked ..) ..) (hacked ..)) ..)

theorem Dev.KeepsSto.setPol (h : d.KeepsSto e) (c : Nat) (x : Policer) : d.KeepsSto (e.setPol c x) := h.of_same rfl rfl rfl

theorem Dev.KeepsSto.colourAt (h : d.KeepsSto e) (c : Nat) (x : LocalPkt) (b : Nat) : d.KeepsSto (e.colourAt c x b).2 := by
  unfold Dev.colourAt
  simp only
  split
  · split
    · split
      · refine .ite (.ite h ?_) ?_
        · exact (h.inc (not_inSto_of_table (by decide))).inc
        · exact (h.inc (not_inSto_of_table (by decide))).inc
      · refine (h.setPol ..).inc ?_
        split
        · exact not_inSto_of_table (by decide)
        · exact not_inSto_of_table (by decide)
    · exact h
  · exact h

theorem Dev.KeepsSto.addFlaw (h : d.KeepsSto e) (w : Nat) : d.KeepsSto (e.addFlaw w) := .ite h (h.of_same rfl rfl rfl)

theorem Dev.KeepsSto.setBank (h : d.KeepsSto e) (mem b : Nat) (x : BankSt) : d.KeepsSto (e.setBank mem b x) := h.of_same rfl rfl rfl

theorem Dev.KeepsSto.memUe (h : d.KeepsSto e) (mem b w : Nat) : d.KeepsSto (e.memUe mem b w) :=
  ((Dev.KeepsSto.ite (h.addFlaw _) h).setBank ..).raise.silPost ..

theorem Dev.KeepsSto.ctxBreak (h : d.KeepsSto e) (c : Nat) : d.KeepsSto (e.ctxBreak c) :=
  (((h.set 2 (not_inSto_of_table (by decide))).set c).set 1).raise

theorem Dev.KeepsSto.ctxSeen (h : d.KeepsSto e) (c : Nat) : d.KeepsSto (e.ctxSeen c) := by
  unfold Dev.ctxSeen Dev.hitFlaw
  refine .ite h ?_
  cases e.flawOf 4 0 (8 * c) 8 with
  | none => exact h
  | some w => exact ((h.memUe 4 0 w).mendIn 4 0 (8 * c) 8).ctxBreak c

theorem Dev.KeepsSto.enter (h : d.KeepsSto e) {x : LocalPkt} (hing : 20 ≤ x.ing) : d.KeepsSto (e.enter x).2 := by
  have hseen := h.ctxSeen x.ctx
  unfold Dev.enter
  simp only
  generalize e.ctxSeen x.ctx = y at hseen ⊢
  split
  · exact hseen
  split
  · exact (hseen.inc.raise).txDone ..
  split
  · exact hseen.txDone ..
  split
  · exact hseen
  split
  · split
    · exact hseen.inc
    · exact hseen
  split
  · exact hseen
  split
  · exact hseen.rsFull
  split
  · exact (hseen.inc.raise).txDone ..
  · have hcolour := hseen.colourAt x.ctx x (16 + x.payload.length + 8)
    split
    next heq =>
      rw [heq] at hcolour
      exact hcolour.launch x.ctx hing ..
    next heq =>
      rw [heq] at hcolour
      split
      · exact hcolour
      · exact hcolour.txDone ..

theorem Dev.KeepsSto.offer (h : d.KeepsSto e) {x : LocalPkt} (hing : 20 ≤ x.ing) : d.KeepsSto (e.offer x) := by
  have henter := h.enter hing
  unfold Dev.offer
  split
  · exact h.of_same rfl rfl rfl
  · split
    next heq => rw [heq] at henter; exact henter.of_same rfl rfl rfl
    next heq => rw [heq] at henter; exact henter.of_same rfl rfl rfl
    next heq => rw [heq] at henter; exact henter

theorem Dev.KeepsSto.reply (h : d.KeepsSto e) (c : Nat) (l : List Byte) : d.KeepsSto (e.reply c l) := h.offer (by decide : 20 ≤ 21)

end

end Sys2Proof.Machine
end

section
/-! PROOFS. The storage engine: requests end (R400 to R404), and O34. A completion takes its request off the binding. Whatever else it does
leaves the engine's registers, but for the count of errors, and the drives. -/

namespace Sys2Proof.Machine

/-! ### Fields of a drive -/

/-- A field of one of the two drives' registers. -/
theorem inSto_of_drive {base n lsb w rst : Nat} (hn : n < 2) (h : 0x10B00000 ≤ base ∧ base < 0x10B02000 ∧ lsb < 32 := by decide) :
    inSto ⟨8 * (base + 4096 * n) + lsb, w, rst⟩ := by
  unfold inSto
  dsimp only
  omega

/-- Two fields of the same drive that stand apart. -/
theorem driveKey_ne {n base base' lsb lsb' w w' rst rst' : Nat} (h : 8 * base + lsb ≠ 8 * base' + lsb' := by decide) :
    (Fld.mk (8 * (base + 4096 * n) + lsb) w rst).key ≠ (Fld.mk (8 * (base' + 4096 * n) + lsb') w' rst').key := by
  dsimp only
  omega

/-- Two fields of the same binding register that stand apart. -/
theorem bindingKey_ne {n k lsb lsb' w w' rst rst' : Nat} (h : lsb ≠ lsb' := by decide) :
    (Fld.mk (8 * STO_Sn_QPk_A n k + lsb) w rst).key ≠ (Fld.mk (8 * STO_Sn_QPk_A n k + lsb') w' rst').key := by
  dsimp only
  omega

/-! ### Drives and bindings -/

/-- The IDs of the requests that a binding executes. -/
def StoWin.ids (w : StoWin) : List Nat := w.reqs.map (·.id)

theorem StoWin.ids_eq_nil {w : StoWin} : w.ids = [] ↔ w.reqs = [] := List.map_eq_nil_iff

theorem StoWin.all_id_ne {w : StoWin} {i : Nat} : w.reqs.all (fun q => q.id != i) = true ↔ i ∉ w.ids := by
  simp [StoWin.ids, List.all_eq_true]

section
variable (d : Dev)

@[simp] theorem Dev.win_setWin_same (b : Nat) (w : StoWin) : (d.setWin b w).win b = w := Tab.get_set_same ..

theorem Dev.win_setWin_ne {b c : Nat} (h : c ≠ b) (w : StoWin) : (d.setWin b w).win c = d.win c := Tab.get_set_ne h ..

@[simp] theorem Dev.win_inc (f : Fld) (b : Nat) : (d.inc f).win b = d.win b := rfl

@[simp] theorem Dev.win_raise (f : Fld) (b : Nat) : (d.raise f).win b = d.win b := by rw [Dev.win, Dev.win, (d.raise_core f).sto]

@[simp] theorem Dev.drive_modDrive_same (n : Nat) (f : Drive → Drive) : (d.modDrive n f).drive n = f (d.drive n) := Tab.get_set_same ..

@[simp] theorem Dev.drive_set (f : Fld) (v n : Nat) : (d.set f v).drive n = d.drive n := rfl

@[simp] theorem Dev.drive_inc (f : Fld) (n : Nat) : (d.inc f).drive n = d.drive n := rfl

@[simp] theorem Dev.drive_raise (f : Fld) (n : Nat) : (d.raise f).drive n = d.drive n := by rw [Dev.drive, Dev.drive, (d.raise_core f).sto]

@[simp] theorem Dev.get_modDrive (n : Nat) (f : Drive → Drive) (g : Fld) : (d.modDrive n f).get g = d.get g := rfl

@[simp] theorem Dev.get_setWin (b : Nat) (w : StoWin) (g : Fld) : (d.setWin b w).get g = d.get g := rfl

end

/-! ### Requests end -/

/-- No register and no drive of the storage engine changes, and no binding but that requests of it may have ended, their completions
cached, or gone to the drive. -/
structure Dev.EndsRequests (d e : Dev) : Prop where
  drives : e.sto.drives = d.sto.drives
  port : e.port = d.port
  get : ∀ f : Fld, inSto f → e.get f = d.get f
  high : ∀ b, (e.win b).high = (d.win b).high
  ids : ∀ b, (e.win b).ids ⊆ (d.win b).ids

theorem Dev.KeepsSto.win {d e : Dev} (h : d.KeepsSto e) (b : Nat) : e.win b = d.win b := by rw [Dev.win, Dev.win, h.sto]

section
variable {d e e' : Dev}

theorem Dev.EndsRequests.refl (d : Dev) : d.EndsRequests d := ⟨rfl, rfl, fun _ _ => rfl, fun _ => rfl, fun _ => List.Subset.refl _⟩

theorem Dev.EndsRequests.trans (h : d.EndsRequests e) (k : e.EndsRequests e') : d.EndsRequests e' :=
  ⟨k.drives.trans h.drives, k.port.trans h.port, fun f hf => (k.get f hf).trans (h.get f hf), fun b => (k.high b).trans (h.high b),
    fun b => List.Subset.trans (k.ids b) (h.ids b)⟩

theorem Dev.KeepsSto.endsRequests (h : d.KeepsSto e) : d.EndsRequests e :=
  ⟨by rw [h.sto], h.port, h.get, fun b => by rw [h.win b], fun b => by rw [h.win b]; exact List.Subset.refl _⟩

theorem Dev.EndsRequests.setWin {b : Nat} {w : StoWin} (hhigh : w.high = (d.win b).high) (hids : w.ids ⊆ (d.win b).ids) :
    d.EndsRequests (d.setWin b w) := by
  refine ⟨rfl, rfl, fun _ _ => rfl, fun c => ?_, fun c => ?_⟩ <;> by_cases hc : c = b
  · rw [hc, Dev.win_setWin_same, hhigh]
  · rw [Dev.win_setWin_ne _ hc]
  · rw [hc, Dev.win_setWin_same]
    exact hids
  · rw [Dev.win_setWin_ne _ hc]
    exact List.Subset.refl _

theorem Dev.EndsRequests.drive (h : d.EndsRequests e) (n : Nat) : e.drive n = d.drive n := by rw [Dev.drive, Dev.drive, h.drives]

theorem Dev.EndsRequests.forAll {α : Type} {l : List α} {f : α → Dev → Dev} (hf : ∀ x ∈ l, ∀ y : Dev, y.EndsRequests (f x y))
    (d : Dev) : d.EndsRequests (forAll l f d) := by
  induction l generalizing d with
  | nil => exact .refl d
  | cons x t ih => exact (hf x List.mem_cons_self d).trans (ih (fun y hy => hf y (List.mem_cons_of_mem x hy)) (f x d))

end

/-! ### Completions (R400, R403) -/

/-- A binding once request `r` has ended with completion `l`: it executes it no more, and caches `l` where the ID lies in its window. -/
def StoWin.ended (w : StoWin) (r : StoReq) (l : List Byte) : StoWin :=
  let rest := w.reqs.filter (fun x => x.id != r.id)
  if w.within r.id then { w with reqs := rest, cache := w.cache.filter (fun x => x.1 % 256 != r.id % 256) ++ [(r.id, l)] }
  else { w with reqs := rest }

section
variable (w : StoWin) (r : StoReq) (l : List Byte)

theorem StoWin.ended_reqs : (w.ended r l).reqs = w.reqs.filter (fun x => x.id != r.id) := by
  unfold StoWin.ended
  split <;> rfl

theorem StoWin.ended_high : (w.ended r l).high = w.high := by
  unfold StoWin.ended
  split <;> rfl

theorem StoWin.ended_cache (h : w.within r.id = true) :
    (w.ended r l).cache = w.cache.filter (fun x => x.1 % 256 != r.id % 256) ++ [(r.id, l)] := by
  simp [StoWin.ended, h]

theorem StoWin.ended_ids_subset : (w.ended r l).ids ⊆ w.ids := by
  rw [StoWin.ids, StoWin.ended_reqs]
  exact List.map_subset _ List.filter_sublist.subset

theorem StoWin.not_mem_ended_ids : r.id ∉ (w.ended r l).ids :=
  StoWin.all_id_ne.mp (by rw [StoWin.ended_reqs]; simp [List.all_eq_true])

end

section
variable (b : Nat) (r : StoReq) (status nvstat : Nat) (data : List Byte) (d : Dev)

/-- What a completion does: the request ends, errors of the drive are counted, and what is left to do is outside the engine. -/
theorem Dev.complete_cases : ∃ e, (d.setWin b ((d.win b).ended r (completion r.op status nvstat r.id r.count data))).KeepsSto e
    ∧ (if status = 5 then e.inc (STO_Sn_ERRORS_COUNT (b / 64)) else e).KeepsSto (d.complete b r status nvstat data) := by
  refine ⟨_, ?_, .reply (.refl _) ..⟩
  unfold StoWin.ended
  by_cases hin : (d.win b).within r.id = true
  · rw [if_pos hin]
    refine .trans ?_ (.of_eq (if_pos hin).symm)
    exact (Dev.KeepsSto.refl _).engWrite ..
  · rw [if_neg hin]
    exact .of_eq (if_neg hin).symm

theorem Dev.win_complete_same : (d.complete b r status nvstat data).win b
    = (d.win b).ended r (completion r.op status nvstat r.id r.count data) := by
  obtain ⟨e, hkeeps, hrest⟩ := d.complete_cases b r status nvstat data
  rw [hrest.win]
  have hwin := hkeeps.win b
  rw [Dev.win_setWin_same] at hwin
  split <;> exact hwin

theorem Dev.complete_errors (hb : b / 64 < 2) : (d.complete b r 5 nvstat data).get (STO_Sn_ERRORS_COUNT (b / 64))
    = (d.get (STO_Sn_ERRORS_COUNT (b / 64)) + 1) % 2 ^ 32 := by
  obtain ⟨e, hkeeps, hrest⟩ := d.complete_cases b r 5 nvstat data
  have hin : inSto (STO_Sn_ERRORS_COUNT (b / 64)) := inSto_of_drive hb
  rw [hrest.get _ hin, if_pos rfl, Dev.get_inc_same, hkeeps.get _ hin, Dev.get_setWin]
  rfl

theorem Dev.complete_endsRequests {status : Nat} (h : status ≠ 5) : d.EndsRequests (d.complete b r status nvstat data) := by
  obtain ⟨e, hkeeps, hrest⟩ := d.complete_cases b r status nvstat data
  rw [if_neg h] at hrest
  exact (Dev.EndsRequests.setWin (StoWin.ended_high ..) (StoWin.ended_ids_subset ..)).trans (hkeeps.trans hrest).endsRequests

theorem Dev.not_mem_ids_complete : r.id ∉ ((d.complete b r status nvstat data).win b).ids := by
  rw [Dev.win_complete_same]
  exact StoWin.not_mem_ended_ids _ r _

end

/-! ### What may go to the drive goes (R400, R401) -/

/-- Requests that go to the drive are marked as sent, and nothing else of them changes. -/
theorem map_submitAll {α : Type} {g : StoReq → α} (hg : ∀ r, g { r with sent := true } = g r) (l : List StoReq) (before : Bool) :
    (submitAll before l).map g = l.map g := by
  induction l generalizing before with
  | nil => rfl
  | cons r t ih =>
    unfold submitAll
    split
    · rw [List.map_cons, List.map_cons, ih]
    split
    · rw [List.map_cons, List.map_cons, ih, hg]
    split
    · split
      · rfl
      · rw [List.map_cons, List.map_cons, hg]
    · rw [List.map_cons, List.map_cons, ih, hg]

section
variable (b : Nat) (d : Dev)

theorem Dev.submit_endsRequests : d.EndsRequests (d.submit b) := by
  unfold Dev.submit
  dsimp only
  split
  · exact .refl d
  · refine (Dev.EndsRequests.setWin ?_ ?_).trans (.forAll (fun r _ y => y.complete_endsRequests b r 0 _ (by decide)) _)
    · rfl
    · rw [StoWin.ids, map_submitAll (fun _ => rfl)]
      exact List.Subset.refl _

/-- Where no IDENTIFY waits, the binding goes on with the requests that it had. -/
theorem Dev.win_submit_of_noIdentify {d : Dev} {b : Nat} (h : (d.win b).reqs.all (fun q => q.op != 5) = true) :
    ((d.submit b).win b).ids = (d.win b).ids ∧ ((d.submit b).win b).cache = (d.win b).cache := by
  unfold Dev.submit
  dsimp only
  split
  · exact ⟨rfl, rfl⟩
  · have hops : ∀ r ∈ submitAll false (d.win b).reqs, r.op ≠ 5 := by
      intro r hr
      have hop : r.op ∈ (d.win b).reqs.map (·.op) :=
        map_submitAll (g := fun r => r.op) (fun _ => rfl) (d.win b).reqs false ▸ List.mem_map_of_mem hr
      obtain ⟨q, hq, hqr⟩ := List.mem_map.mp hop
      exact hqr ▸ bne_iff_ne.mp (List.all_eq_true.mp h q hq)
    have hnone : (submitAll false (d.win b).reqs).filter (fun r => r.sent && r.op == 5) = [] :=
      List.filter_eq_nil_iff.mpr (fun r hr => by simp [hops r hr])
    simp only [hnone, forAll, List.foldl_nil, Dev.win_setWin_same]
    exact ⟨map_submitAll (fun _ => rfl) _ _, trivial⟩

end

/-! ### A drive is lost (R396, R404) -/

/-- The requests of a list complete DRIVE_LOST, and the binding executes none of them. -/
theorem Dev.not_mem_ids_forAll_complete (b : Nat) (l : List StoReq) (d : Dev) :
    ∀ r ∈ l, r.id ∉ ((forAll l (fun r d => d.complete b r 7 0 []) d).win b).ids := by
  have hends (l : List StoReq) (y : Dev) : y.EndsRequests (forAll l (fun r d => d.complete b r 7 0 []) y) :=
    .forAll (fun r _ y => y.complete_endsRequests b r 0 [] (by decide)) y
  induction l generalizing d with
  | nil => exact fun _ h => absurd h List.not_mem_nil
  | cons x t ih =>
    intro r hr
    rcases List.mem_cons.mp hr with rfl | ht
    · exact fun hmem => d.not_mem_ids_complete b r 7 0 [] ((hends t _).ids b hmem)
    · exact ih (d.complete b x 7 0 []) r ht

/-- Every request of binding `b` completes DRIVE_LOST. -/
def Dev.loseBinding (b : Nat) (d : Dev) : Dev := forAll (d.win b).reqs (fun r d => d.complete b r 7 0 []) d

section
variable (d : Dev)

theorem Dev.driveLost_eq (n : Nat) : Dev.driveLost n d =
    forAll (List.range 64) (fun k d => d.loseBinding (64 * n + k)) (d.modDrive n (fun x => { x with aborts := 0 })) := rfl

theorem Dev.loseBinding_endsRequests (b : Nat) : d.EndsRequests (d.loseBinding b) :=
  .forAll (fun r _ y => y.complete_endsRequests b r 0 [] (by decide)) d

theorem Dev.loseBinding_ids (b : Nat) : ((d.loseBinding b).win b).ids = [] := by
  refine List.eq_nil_iff_forall_not_mem.mpr (fun i hi => ?_)
  obtain ⟨r, hr, rfl⟩ := List.mem_map.mp ((d.loseBinding_endsRequests b).ids b hi)
  exact d.not_mem_ids_forAll_complete b _ r hr hi |>.elim

theorem Dev.ids_forAll_loseBinding (n : Nat) (l : List Nat) :
    ∀ k ∈ l, ((forAll l (fun k d => d.loseBinding (64 * n + k)) d).win (64 * n + k)).ids = [] := by
  induction l generalizing d with
  | nil => exact fun _ h => absurd h List.not_mem_nil
  | cons x t ih =>
    intro k hk
    rcases List.mem_cons.mp hk with rfl | ht
    · have hrest := Dev.EndsRequests.forAll (l := t) (fun j _ y => y.loseBinding_endsRequests (64 * n + j)) (d.loseBinding (64 * n + k))
      have hsub := hrest.ids (64 * n + k)
      rw [Dev.loseBinding_ids] at hsub
      exact List.subset_nil.mp hsub
    · exact ih _ k ht

theorem Dev.driveLost_endsRequests (n : Nat) : (d.modDrive n (fun x => { x with aborts := 0 })).EndsRequests (Dev.driveLost n d) :=
  .forAll (fun _ _ y => y.loseBinding_endsRequests _) _

theorem Dev.driveLost_reqs (n : Nat) {k : Nat} (hk : k < 64) : ((Dev.driveLost n d).win (64 * n + k)).reqs = [] :=
  StoWin.ids_eq_nil.mp (by rw [Dev.driveLost_eq]; exact Dev.ids_forAll_loseBinding _ n _ k (List.mem_range.mpr hk))

end

/-! ### A request is accepted (R399, R403) -/

/-- A request as its binding keeps it: an IDENTIFY with its record. -/
def StoReq.noting (r : StoReq) (rec_ : List Byte) : StoReq := if r.op = 5 then { r with data := rec_ } else r

@[simp] theorem StoReq.noting_id (r : StoReq) (rec_ : List Byte) : (r.noting rec_).id = r.id := by
  unfold StoReq.noting
  split <;> rfl

@[simp] theorem StoReq.noting_op (r : StoReq) (rec_ : List Byte) : (r.noting rec_).op = r.op := by
  unfold StoReq.noting
  split <;> rfl

@[simp] theorem StoReq.noting_sound (r : StoReq) (rec_ : List Byte) (len : Nat) : (r.noting rec_).sound len = r.sound len := by
  unfold StoReq.noting
  split <;> rfl

/-- A request joins those of its binding and is counted; `high` is H afterwards. -/
def Dev.accept (b high : Nat) (r : StoReq) (rec_ : List Byte) (d : Dev) : Dev :=
  (d.setWin b { d.win b with high := some high, reqs := (d.win b).reqs ++ [r.noting rec_], cache := (d.win b).cache.filter (fun x =>
    (high + 2 ^ 32 - x.1) % 2 ^ 32 < 256 && x.1 % 256 != (r.noting rec_).id % 256) }).inc (STO_Sn_REQS_COUNT (b / 64))

section
variable (b high : Nat) (r : StoReq) (len : Nat) (rec_ : List Byte) (d : Dev)

theorem Dev.execute_eq : d.execute b high r len rec_ =
    if (!(r.noting rec_).sound len) = true then (d.accept b high r rec_).complete b (r.noting rec_) 1 0 []
    else if (r.noting rec_).op = 5 then (d.accept b high r rec_).submit b
    else if (d.accept b high r rec_).stoState (b / 64) ≠ 2 ∨ ((d.accept b high r rec_).drive (b / 64)).shut then
      (d.accept b high r rec_).complete b (r.noting rec_) 7 0 []
    else (d.accept b high r rec_).submit b := rfl

theorem Dev.accept_reqs : ((d.accept b high r rec_).win b).reqs = (d.win b).reqs ++ [r.noting rec_] := by
  simp [Dev.accept]

theorem Dev.accept_high : ((d.accept b high r rec_).win b).high = some high := by
  simp [Dev.accept]

theorem Dev.accept_stoState : (d.accept b high r rec_).stoState (b / 64) = d.stoState (b / 64) :=
  Dev.get_inc_ne _ driveKey_ne

theorem Dev.accept_drive (n : Nat) : (d.accept b high r rec_).drive n = d.drive n := rfl

theorem Dev.accept_count : (d.accept b high r rec_).get (STO_Sn_REQS_COUNT (b / 64)) = (d.get (STO_Sn_REQS_COUNT (b / 64)) + 1) % 2 ^ 32 :=
  Dev.get_inc_same ..

theorem Dev.execute_endsRequests : (d.accept b high r rec_).EndsRequests (d.execute b high r len rec_) := by
  rw [Dev.execute_eq]
  split
  · exact Dev.complete_endsRequests _ _ _ _ _ (by decide)
  split
  · exact Dev.submit_endsRequests ..
  split
  · exact Dev.complete_endsRequests _ _ _ _ _ (by decide)
  · exact Dev.submit_endsRequests ..

theorem Dev.execute_count (hb : b / 64 < 2) : (d.execute b high r len rec_).get (STO_Sn_REQS_COUNT (b / 64))
    = (d.get (STO_Sn_REQS_COUNT (b / 64)) + 1) % 2 ^ 32 := by
  have hin : inSto (STO_Sn_REQS_COUNT (b / 64)) := inSto_of_drive hb
  rw [(d.execute_endsRequests b high r len rec_).get _ hin, Dev.accept_count]

theorem Dev.execute_high : ((d.execute b high r len rec_).win b).high = some high := by
  rw [(d.execute_endsRequests b high r len rec_).high, Dev.accept_high]

theorem Dev.execute_port : (d.execute b high r len rec_).port = d.port := (d.execute_endsRequests b high r len rec_).port

/-- A request that is unsound, or whose drive is not READY, is completed at once. -/
theorem Dev.execute_of_refused {r : StoReq} {len b : Nat} {d : Dev}
    (h : r.sound len = false ∨ (r.op ≠ 5 ∧ (d.stoState (b / 64) ≠ 2 ∨ (d.drive (b / 64)).shut = true)))
    (high : Nat) (rec_ : List Byte) : r.id ∉ ((d.execute b high r len rec_).win b).ids := by
  rw [Dev.execute_eq, Dev.accept_stoState, Dev.accept_drive, StoReq.noting_sound, StoReq.noting_op, ← r.noting_id rec_]
  by_cases hsound : r.sound len = false
  · rw [if_pos (by rw [hsound]; rfl)]
    exact Dev.not_mem_ids_complete _ (r.noting rec_) _ _ _ _
  · obtain ⟨hop, hdrive⟩ := h.resolve_left hsound
    rw [if_neg (by simpa using hsound), if_neg hop, if_pos hdrive]
    exact Dev.not_mem_ids_complete _ (r.noting rec_) _ _ _ _

/-- Every other request but IDENTIFY joins those of its binding, where no IDENTIFY waits. -/
theorem Dev.execute_of_waits {r : StoReq} {len b : Nat} {d : Dev}
    (h : ¬ (r.sound len = false ∨ (r.op ≠ 5 ∧ (d.stoState (b / 64) ≠ 2 ∨ (d.drive (b / 64)).shut = true)))) (hop : r.op ≠ 5)
    (hnone : (d.win b).reqs.all (fun q => q.op != 5) = true) (high : Nat) (rec_ : List Byte) :
    ((d.execute b high r len rec_).win b).ids = (d.win b).ids ++ [r.id] := by
  obtain ⟨hsound, hdrive⟩ := not_or.mp h
  rw [Dev.execute_eq, Dev.accept_stoState, Dev.accept_drive, StoReq.noting_sound, StoReq.noting_op,
    if_neg (by simpa using hsound), if_neg hop, if_neg (fun hlost => hdrive ⟨hop, hlost⟩)]
  have hops : ((d.accept b high r rec_).win b).reqs.all (fun q => q.op != 5) = true := by
    rw [Dev.accept_reqs, List.all_append, hnone]
    simp [hop]
  rw [(Dev.win_submit_of_noIdentify hops).1, StoWin.ids, Dev.accept_reqs, StoWin.ids, List.map_append]
  simp

end

/-! ### A request meets its binding (R398, R403) -/

theorem Dev.bindingOf_lt {d : Dev} {c b : Nat} (h : d.bindingOf c = some b) : b / 64 < 2 := by
  have := List.mem_range.mp (List.mem_of_find?_eq_some h)
  omega

/-- A request ID that lies behind H, or the first of its binding. -/
def StoWin.isNew (w : StoWin) (id : Nat) : Bool :=
  w.high.all (fun h => 1 ≤ (id + 2 ^ 32 - h) % 2 ^ 32 && (id + 2 ^ 32 - h) % 2 ^ 32 < 2 ^ 31)

theorem StoWin.isNew_of_fresh {w : StoWin} (h : w.high = none) (id : Nat) : w.isNew id = true := by
  rw [StoWin.isNew, h, Option.all_none]

theorem StoWin.isNew_of_high {w : StoWin} {h : Nat} (hhigh : w.high = some h) (id : Nat) :
    w.isNew id = true ↔ 1 ≤ (id + 2 ^ 32 - h) % 2 ^ 32 ∧ (id + 2 ^ 32 - h) % 2 ^ 32 < 2 ^ 31 := by
  rw [StoWin.isNew, hhigh, Option.all_some, Bool.and_eq_true, decide_eq_true_eq, decide_eq_true_eq]

section
variable {d : Dev} {c b : Nat} {l : List Byte} (rec_ : List Byte)

theorem Dev.request_of_unbound (hb : d.bindingOf c = none) :
    d.request c l rec_ = d.reply c (completion (parseReq c l).op 2 0 (parseReq c l).id (parseReq c l).count []) := by
  simp [Dev.request, hb]

theorem Dev.request_of_new (hb : d.bindingOf c = some b) (hnew : (d.win b).isNew (parseReq c l).id = true) :
    d.request c l rec_ = d.execute b (parseReq c l).id (parseReq c l) l.length rec_ := by
  unfold Dev.request
  rw [hb]
  dsimp only
  cases hhigh : (d.win b).high with
  | none => rfl
  | some h => exact if_pos ((StoWin.isNew_of_high hhigh _).mp hnew)

theorem Dev.request_of_known (hb : d.bindingOf c = some b) (hnew : ¬ (d.win b).isNew (parseReq c l).id = true) :
    ∃ h, d.request c l rec_ = if (d.win b).within (parseReq c l).id then
        match (d.win b).cache.find (parseReq c l).id with
        | some l => (d.inc (STO_Sn_DUP_CACHED_COUNT (b / 64))).reply c l
        | none => if (d.win b).reqs.any (fun q => q.id == (parseReq c l).id) then d.inc (STO_Sn_DUP_INFLIGHT_COUNT (b / 64))
          else d.execute b h (parseReq c l) l.length rec_
      else (d.inc (STO_Sn_STALE_COUNT (b / 64))).reply c (completion (parseReq c l).op 8 0 (parseReq c l).id (parseReq c l).count []) := by
  unfold Dev.request
  rw [hb]
  dsimp only
  cases hhigh : (d.win b).high with
  | none => exact absurd (StoWin.isNew_of_fresh hhigh _) hnew
  | some h => exact ⟨h, if_neg (fun hahead => hnew ((StoWin.isNew_of_high hhigh _).mpr hahead))⟩

end

/-! ### Commands of a power domain -/

section
variable {c : Instr} {s : State} {n : Nat} {f : Dev → Dev} {P : Dev → Dev → Prop}

/-- A command of a power domain's logic does nothing while the domain is off, else what its meaning says (R512, R515). -/
theorem Does.runOn (hexec : exec c s = s.runOn n f) (h : P s.dev (f s.dev)) :
    Does c s (fun d d' => if d.domOn n = false then d' = d else P d d') := by
  refine ⟨_, hexec, rfl, ?_⟩
  by_cases hon : s.dev.domOn n = true
  · simpa [hon] using h
  · simp [hon]

/-- A command that a domain's pads bring does nothing while they do not reach its logic, else what its meaning says (R517). -/
theorem Does.runPins (hexec : exec c s = s.runPins n f) (h : P s.dev (f s.dev)) :
    Does c s (fun d d' => if d.reached n = false then d' = d else P d d') := by
  refine ⟨_, hexec, rfl, ?_⟩
  by_cases hreach : s.dev.reached n = true
  · simpa [hreach] using h
  · simp [hreach]

end

/-! ### Drives (R396, R402) -/

section
variable {n : Nat} (d : Dev)

theorem Dev.get_raise_of_inSto {f g : Fld} (hf : inSto f) (hne : f.key ≠ g.key) : (d.raise g).get f = d.get f :=
  d.raise_get g (notLog_of_inSto hf).1 hne

theorem inSto_stoState (hn : n < 2) : inSto (STO_Sn_STAT_STATE n) := inSto_of_drive hn

theorem Dev.raise_self_of_inSto {g : Fld} (hg : inSto g) (hw : 0 < g.w) : (d.raise g).get g = 1 := d.raise_self g (notLog_of_inSto hg).1 hw

/-- EN written 1 starts an idle drive that is not shut, where the engine runs. -/
theorem driveEnable_eq : driveEnable n d =
    if d.flag STO_CTL_EN = true ∧ d.stoState n = 0 ∧ (d.drive n).shut = false then
      ((d.set (STO_Sn_CTL_EN n) 1).set (STO_Sn_STAT_STATE n) 1).modDrive n (fun x => { x with retry := false })
    else d.set (STO_Sn_CTL_EN n) 1 := by
  have hen : (d.set (STO_Sn_CTL_EN n) 1).flag STO_CTL_EN = d.flag STO_CTL_EN := by
    rw [Dev.flag, Dev.get_set_ne, Dev.flag]
    simp only [STO_CTL_EN, STO_CTL_A, STO_Sn_CTL_EN, STO_Sn_CTL_A]
    omega
  have hstate : (d.set (STO_Sn_CTL_EN n) 1).stoState n = d.stoState n := Dev.get_set_ne _ _ driveKey_ne
  simp only [driveEnable, hen, hstate, Dev.drive_set, Bool.and_eq_true, beq_iff_eq, Bool.not_eq_true', and_assoc]

theorem driveEnable_starts (h : d.flag STO_CTL_EN = true ∧ d.stoState n = 0 ∧ (d.drive n).shut = false) :
    (driveEnable n d).stoState n = 1 ∧ ((driveEnable n d).drive n).retry = false ∧ (driveEnable n d).mem = d.mem := by
  rw [driveEnable_eq, if_pos h]
  refine ⟨?_, ?_, rfl⟩
  · rw [Dev.stoState, Dev.get_modDrive, Dev.get_set_same]
    rfl
  · rw [Dev.drive_modDrive_same]

theorem driveEnable_en : (driveEnable n d).get (STO_Sn_CTL_EN n) = 1 := by
  rw [driveEnable_eq]
  split
  · rw [Dev.get_modDrive, Dev.get_set_ne (f := STO_Sn_STAT_STATE n) (g := STO_Sn_CTL_EN n) _ _ driveKey_ne, Dev.get_set_same]
    rfl
  · exact Dev.get_set_same ..

theorem driveReady_eq {gen : Nat} {x2 : Bool} (h : d.stoState n = 1 ∧ (d.drive n).perst = true) : driveReady n gen x2 d =
    (((d.set (STO_Sn_STAT_GEN n) (min gen (d.get (STO_Sn_CTL_MAXGEN n)))).set (STO_Sn_STAT_WIDTH n) (if x2 then 2 else 1)).set
      (STO_Sn_STAT_STATE n) 2).raise (STO_Sn_EVT_READY n) := if_pos h

theorem driveReady_trained (hn : n < 2) {gen : Nat} {x2 : Bool} (h : d.stoState n = 1 ∧ (d.drive n).perst = true) :
    (driveReady n gen x2 d).stoState n = 2 ∧ (driveReady n gen x2 d).get (STO_Sn_EVT_READY n) = 1
      ∧ (driveReady n gen x2 d).get (STO_Sn_STAT_GEN n) = min gen (d.get (STO_Sn_CTL_MAXGEN n)) % 2 ^ (STO_Sn_STAT_GEN n).w
      ∧ (driveReady n gen x2 d).get (STO_Sn_STAT_WIDTH n) = if x2 then 2 else 1 := by
  rw [driveReady_eq d h, Dev.stoState]
  refine ⟨?_, Dev.raise_self_of_inSto _ (inSto_of_drive hn) (by decide : 0 < 1), ?_, ?_⟩
  · rw [Dev.get_raise_of_inSto (g := STO_Sn_EVT_READY n) _ (inSto_stoState hn) driveKey_ne, Dev.get_set_same]
    rfl
  · rw [Dev.get_raise_of_inSto (f := STO_Sn_STAT_GEN n) (g := STO_Sn_EVT_READY n) _ (inSto_of_drive hn) driveKey_ne,
      Dev.get_set_ne (f := STO_Sn_STAT_STATE n) (g := STO_Sn_STAT_GEN n) _ _ driveKey_ne,
      Dev.get_set_ne (f := STO_Sn_STAT_WIDTH n) (g := STO_Sn_STAT_GEN n) _ _ driveKey_ne, Dev.get_set_same]
  · rw [Dev.get_raise_of_inSto (f := STO_Sn_STAT_WIDTH n) (g := STO_Sn_EVT_READY n) _ (inSto_of_drive hn) driveKey_ne,
      Dev.get_set_ne (f := STO_Sn_STAT_STATE n) (g := STO_Sn_STAT_WIDTH n) _ _ driveKey_ne, Dev.get_set_same]
    cases x2 <;> rfl

theorem driveLinkTimeout_eq (h : d.stoState n = 1) : driveLinkTimeout n d =
    ((d.modDrive n (fun x => { x with perst := false })).set (STO_Sn_STAT_STATE n) 3).raise (STO_Sn_EVT_FAILED n) := if_pos h

theorem driveLinkTimeout_fails (hn : n < 2) (h : d.stoState n = 1) :
    (driveLinkTimeout n d).stoState n = 3 ∧ (driveLinkTimeout n d).get (STO_Sn_EVT_FAILED n) = 1
      ∧ ((driveLinkTimeout n d).drive n).perst = false := by
  rw [driveLinkTimeout_eq d h, Dev.stoState]
  refine ⟨?_, Dev.raise_self_of_inSto _ (inSto_of_drive hn) (by decide : 0 < 1), ?_⟩
  · rw [Dev.get_raise_of_inSto (g := STO_Sn_EVT_FAILED n) _ (inSto_stoState hn) driveKey_ne, Dev.get_set_same]
    rfl
  · rw [Dev.drive_raise, Dev.drive_set, Dev.drive_modDrive_same]

/-- A drive that leaves READY without being asked to, before its requests complete. -/
def Dev.dropDrive (n : Nat) (d : Dev) : Dev :=
  (((d.set (STO_Sn_STAT_STATE n) 0).set (STO_Sn_STAT_GEN n) 0).set (STO_Sn_STAT_WIDTH n) 0).modDrive n
    (fun x => { x with perst := false, retry := true })

theorem driveLost_eq (h : d.stoState n = 2) : driveLost n d = ((d.dropDrive n).driveLost n).raise (STO_Sn_EVT_LOST n) := if_pos h

theorem driveLost_get (h : d.stoState n = 2) {f : Fld} (hf : inSto f) (hne : f.key ≠ (STO_Sn_EVT_LOST n).key) :
    (driveLost n d).get f = (d.dropDrive n).get f := by
  rw [driveLost_eq d h, Dev.get_raise_of_inSto _ hf hne, ((d.dropDrive n).driveLost_endsRequests n).get f hf, Dev.get_modDrive]

theorem driveLost_drive (h : d.stoState n = 2) :
    (driveLost n d).drive n = { d.drive n with perst := false, retry := true, aborts := 0 } := by
  rw [driveLost_eq d h, Dev.drive_raise, ((d.dropDrive n).driveLost_endsRequests n).drive, Dev.drive_modDrive_same, Dev.dropDrive,
    Dev.drive_modDrive_same]
  rfl

theorem driveLost_shows (hn : n < 2) (h : d.stoState n = 2) : (driveLost n d).stoState n = 0 ∧ (driveLost n d).get (STO_Sn_STAT_GEN n) = 0
    ∧ (driveLost n d).get (STO_Sn_STAT_WIDTH n) = 0 := by
  rw [Dev.stoState, driveLost_get d h (inSto_stoState hn) driveKey_ne,
    driveLost_get (f := STO_Sn_STAT_GEN n) d h (inSto_of_drive hn) driveKey_ne,
    driveLost_get (f := STO_Sn_STAT_WIDTH n) d h (inSto_of_drive hn) driveKey_ne]
  simp only [Dev.dropDrive, Dev.get_modDrive]
  refine ⟨?_, ?_, Dev.get_set_same ..⟩
  · rw [Dev.get_set_ne (f := STO_Sn_STAT_WIDTH n) (g := STO_Sn_STAT_STATE n) _ _ driveKey_ne,
      Dev.get_set_ne (f := STO_Sn_STAT_GEN n) (g := STO_Sn_STAT_STATE n) _ _ driveKey_ne, Dev.get_set_same, Nat.zero_mod]
  · rw [Dev.get_set_ne (f := STO_Sn_STAT_WIDTH n) (g := STO_Sn_STAT_GEN n) _ _ driveKey_ne, Dev.get_set_same, Nat.zero_mod]

theorem driveLost_event (hn : n < 2) (h : d.stoState n = 2) : (driveLost n d).get (STO_Sn_EVT_LOST n) = 1 := by
  rw [driveLost_eq d h]
  exact Dev.raise_self_of_inSto _ (inSto_of_drive hn) (by decide : 0 < 1)

theorem driveLost_reqs (h : d.stoState n = 2) {k : Nat} (hk : k < 64) : ((driveLost n d).win (64 * n + k)).reqs = [] := by
  rw [driveLost_eq d h, Dev.win_raise]
  exact Dev.driveLost_reqs _ n hk

theorem driveDisable_eq : driveDisable n d =
    if d.stoState n = 1 ∨ d.stoState n = 2 then
      (Dev.driveLost n ((d.set (STO_Sn_CTL_EN n) 0).modDrive n (fun x => { x with retry := false }))).modDrive n
        (fun x => { x with shut := true })
    else ((d.set (STO_Sn_CTL_EN n) 0).modDrive n (fun x => { x with retry := false })).set (STO_Sn_STAT_STATE n) 0 := by
  have hstate : ((d.set (STO_Sn_CTL_EN n) 0).modDrive n (fun x => { x with retry := false })).stoState n = d.stoState n :=
    Dev.get_set_ne (f := STO_Sn_CTL_EN n) (g := STO_Sn_STAT_STATE n) d 0 driveKey_ne
  rw [driveDisable, hstate]

theorem driveDisable_shuts (h : d.stoState n = 1 ∨ d.stoState n = 2) : ((driveDisable n d).drive n).shut = true := by
  rw [driveDisable_eq, if_pos h, Dev.drive_modDrive_same]

theorem driveDisable_idle (h : ¬ (d.stoState n = 1 ∨ d.stoState n = 2)) :
    (driveDisable n d).get (STO_Sn_CTL_EN n) = 0 ∧ (driveDisable n d).stoState n = 0 ∧ ((driveDisable n d).drive n).retry = false := by
  rw [driveDisable_eq, if_neg h]
  refine ⟨?_, Dev.get_set_same .., ?_⟩
  · rw [Dev.get_set_ne (f := STO_Sn_STAT_STATE n) (g := STO_Sn_CTL_EN n) _ _ driveKey_ne, Dev.get_modDrive, Dev.get_set_same, Nat.zero_mod]
  · rw [Dev.drive_set, Dev.drive_modDrive_same]

end

/-! ### Requests at the front of a queue (R398, R399, R403) -/

section
variable (d : Dev)

theorem Dev.request_port (c : Nat) (l rec_ : List Byte) : (d.request c l rec_).port = d.port := by
  have hreply (y : Dev) (l : List Byte) : (y.reply c l).port = y.port := ((Dev.KeepsSto.refl y).reply c l).port
  cases hb : d.bindingOf c with
  | none => rw [Dev.request_of_unbound rec_ hb, hreply]
  | some b =>
    by_cases hnew : (d.win b).isNew (parseReq c l).id = true
    · rw [Dev.request_of_new rec_ hb hnew, Dev.execute_port]
    · obtain ⟨h, hreq⟩ := Dev.request_of_known rec_ hb hnew
      rw [hreq]
      split
      · split
        · exact hreply ..
        split
        · rfl
        · exact Dev.execute_port ..
      · exact hreply ..

/-- A request answered with a count `f` of the drive that is advanced. -/
theorem Dev.inc_reply {f : Fld} (hf : inSto f) (c : Nat) (l : List Byte) :
    ((d.inc f).reply c l).get f = (d.get f + 1) % 2 ^ f.w ∧ ((d.inc f).reply c l).sto = d.sto := by
  have hkeeps := (Dev.KeepsSto.refl (d.inc f)).reply c l
  exact ⟨(hkeeps.get f hf).trans (d.get_inc_same f), hkeeps.sto⟩

theorem storRequest_answers (op lq : Nat) (rec_ : List Byte) : d.StoRequests op lq rec_ (storRequest op lq rec_ d) := by
  unfold Dev.StoRequests storRequest
  dsimp only
  cases hq : d.port.inq.get (1120 + lq) [] with
  | nil => rfl
  | cons x t =>
    dsimp only
    split
    case isTrue hother =>
      refine if_neg (fun hown => ?_)
      omega
    case isFalse hother =>
      rw [if_pos (by omega)]
      generalize hy : d.modPort (fun p => { p with inq := p.inq.set (1120 + lq) t [] }) = y
      have hbind : y.bindingOf x.ctx = d.bindingOf x.ctx := by subst hy; rfl
      have hwin (b : Nat) : y.win b = d.win b := by subst hy; rfl
      have hget (f : Fld) : y.get f = d.get f := by subst hy; rfl
      have hdrive (n : Nat) : y.drive n = d.drive n := by subst hy; rfl
      have hsto : y.sto = d.sto := by subst hy; rfl
      refine ⟨rfl, fun _ => ?_, ?_⟩
      · rw [Dev.request_port, ← hy]
        exact Tab.get_set_same ..
      · cases hb : d.bindingOf x.ctx with
        | none =>
          dsimp only
          rw [Dev.request_of_unbound rec_ (hbind.trans hb), ((Dev.KeepsSto.refl y).reply ..).sto, hsto]
        | some b =>
          have hlt := Dev.bindingOf_lt hb
          dsimp only
          split
          case isTrue hnew =>
            rw [Dev.request_of_new rec_ (hbind.trans hb) (by rw [hwin]; exact hnew)]
            refine ⟨by rw [Dev.execute_count _ _ _ _ _ _ hlt, hget], Dev.execute_high .., ?_⟩
            split
            case isTrue hrefused =>
              refine StoWin.all_id_ne.mpr (Dev.execute_of_refused ?_ _ rec_)
              rwa [Dev.stoState, hget, hdrive]
            case isFalse hwaits =>
              intro hop hnone
              have hids := Dev.execute_of_waits (d := y) (b := b) (by rwa [Dev.stoState, hget, hdrive]) hop (by rwa [hwin])
                (parseReq x.ctx x.payload).id rec_
              rwa [hwin] at hids
          case isFalse hknown =>
            obtain ⟨h, hreq⟩ := Dev.request_of_known rec_ (hbind.trans hb) (by rw [hwin]; exact hknown)
            rw [hreq, hwin]
            split
            case isTrue hstale =>
              have hstale' : ¬ (d.win b).within (parseReq x.ctx x.payload).id = true := by simp [hstale]
              rw [if_neg hstale', ← hget, ← hsto]
              exact y.inc_reply (inSto_of_drive hlt) ..
            case isFalse hwithin =>
              rw [if_pos (by simpa using hwithin)]
              cases (d.win b).cache.find (parseReq x.ctx x.payload).id with
              | some l =>
                dsimp only
                rw [← hget, ← hsto]
                exact y.inc_reply (inSto_of_drive hlt) ..
              | none =>
                dsimp only
                split
                · rw [← hget, ← hsto]
                  exact ⟨y.get_inc_same _, rfl⟩
                · rw [← hget]
                  exact y.execute_count _ _ _ _ _ hlt

end

/-! ### The drive answers (R400 to R402) -/

section
variable {b : Nat} {r : StoReq} {st nvstat : Nat} {data : List Byte} (d : Dev)

/-- A request that the drive has answered is of its binding no more. -/
theorem Dev.complete_submit_ids : ((d.complete b r st nvstat data).submit b |>.win b).reqs.all (fun q => q.id != r.id) = true :=
  StoWin.all_id_ne.mpr (fun hmem => d.not_mem_ids_complete b r st nvstat data ((Dev.submit_endsRequests b _).ids b hmem))

theorem Dev.complete_submit_high : ((d.complete b r st nvstat data).submit b |>.win b).high = (d.win b).high := by
  rw [(Dev.submit_endsRequests b _).high, Dev.win_complete_same, StoWin.ended_high]

theorem Dev.complete_submit_cache (hops : (d.win b).reqs.all (fun q => q.op != 5) = true) (hin : (d.win b).within r.id = true) :
    ((d.complete b r st nvstat data).submit b |>.win b).cache
      = (d.win b).cache.filter (fun x => x.1 % 256 != r.id % 256) ++ [(r.id, completion r.op st nvstat r.id r.count data)] := by
  have hops' : ((d.complete b r st nvstat data).win b).reqs.all (fun q => q.op != 5) = true := by
    rw [Dev.win_complete_same, StoWin.ended_reqs]
    exact List.all_eq_true.mpr (fun q hq => List.all_eq_true.mp hops q (List.mem_filter.mp hq).1)
  rw [(Dev.win_submit_of_noIdentify hops').2, Dev.win_complete_same, StoWin.ended_cache _ _ _ hin]

theorem Dev.complete_submit_errors (hb : b / 64 < 2) : ((d.complete b r st nvstat data).submit b).get (STO_Sn_ERRORS_COUNT (b / 64))
    = if st = 5 then (d.get (STO_Sn_ERRORS_COUNT (b / 64)) + 1) % 2 ^ 32 else d.get (STO_Sn_ERRORS_COUNT (b / 64)) := by
  have hin : inSto (STO_Sn_ERRORS_COUNT (b / 64)) := inSto_of_drive hb
  rw [(Dev.submit_endsRequests b _).get _ hin]
  split
  case isTrue h => rw [h, Dev.complete_errors _ _ _ _ _ hb]
  case isFalse h => rw [(d.complete_endsRequests b r nvstat data h).get _ hin]

end

/-- The STATUS of a completion for what the drive reports: OK, RANGE, FORMAT or MEDIA (R400). -/
def nvmeStatus (status : Nat) : Nat := if status = 0 then 0 else if status = 1 then 3 else if status = 2 then 4 else 5

/-- The bytes that a completion carries: those of a READ that went well. -/
def nvmeData (status : Nat) (r : StoReq) (data : List Byte) : List Byte :=
  (data ++ List.replicate (if status = 0 ∧ r.op = 1 then 4096 * r.count else 0) 0).take
    (if status = 0 ∧ r.op = 1 then 4096 * r.count else 0)

theorem nvmeStatus_eq_five (status : Fin 4) : nvmeStatus status = 5 ↔ status.val = 3 := by
  revert status
  decide

theorem nvmeStatus_eq_zero (status : Fin 4) : nvmeStatus status = 0 ↔ status.val = 0 := by
  revert status
  decide

theorem nvmeStatus_of_ne_zero (status : Fin 4) : status.val ≠ 0 → nvmeStatus status = status.val + 2 := by
  revert status
  decide

theorem nvmeData_of_ne_zero {status : Nat} (h : status ≠ 0) (r : StoReq) (data : List Byte) : nvmeData status r data = [] := by
  simp [nvmeData, h]

/-- The request whose ID the drive completes ends as the drive reports. -/
theorem nvmeCompletion_of_find {b id nvstat : Nat} {r : StoReq} {d : Dev} (h : (d.win b).find id = some r) (status : Fin 4)
    (data : List Byte) : nvmeCompletion b id status nvstat data d
      = (d.complete b r (nvmeStatus status) (if status.val = 3 then nvstat else 0) (nvmeData status r data)).submit b := by
  rw [nvmeCompletion, h]
  dsimp only
  rw [← nvmeStatus, nvmeData]
  simp only [nvmeStatus_eq_five, nvmeStatus_eq_zero]

theorem nvmeCompletion_of_none {b id status nvstat : Nat} {data : List Byte} {d : Dev} (h : (d.win b).find id = none) :
    nvmeCompletion b id status nvstat data d = d := by
  rw [nvmeCompletion, h]

/-! ### Timeouts (R402) -/

section
variable {n : Nat} (d : Dev)

/-- A command that STO_CMD_TO aborts, before its request completes. -/
def Dev.abortCommand (n : Nat) (d : Dev) : Dev :=
  ((d.inc (STO_Sn_TIMEOUTS_COUNT n)).raise (STO_Sn_EVT_TIMEOUT n)).modDrive n (fun x => { x with aborts := x.aborts + 1 })

theorem Dev.abortCommand_count (hn : n < 2) :
    (d.abortCommand n).get (STO_Sn_TIMEOUTS_COUNT n) = (d.get (STO_Sn_TIMEOUTS_COUNT n) + 1) % 2 ^ 32 := by
  rw [Dev.abortCommand, Dev.get_modDrive,
    Dev.get_raise_of_inSto (f := STO_Sn_TIMEOUTS_COUNT n) (g := STO_Sn_EVT_TIMEOUT n) _ (inSto_of_drive hn) driveKey_ne, Dev.get_inc_same]
  rfl

theorem Dev.abortCommand_event (hn : n < 2) : (d.abortCommand n).get (STO_Sn_EVT_TIMEOUT n) = 1 := by
  rw [Dev.abortCommand, Dev.get_modDrive]
  exact Dev.raise_self_of_inSto _ (inSto_of_drive hn) (by decide : 0 < 1)

theorem Dev.abortCommand_drive : (d.abortCommand n).drive n = { d.drive n with aborts := (d.drive n).aborts + 1 } := by
  rw [Dev.abortCommand, Dev.drive_modDrive_same, Dev.drive_raise, Dev.drive_inc]

/-- The request of an aborted command completes TIMEOUT, and what may go to the drive goes. -/
theorem Dev.timeout_endsRequests (b : Nat) (r : StoReq) :
    (d.abortCommand n).EndsRequests (((d.abortCommand n).complete b r 6 0 []).submit b) :=
  (Dev.complete_endsRequests b r 0 [] _ (by decide)).trans (Dev.submit_endsRequests b _)

end

theorem stoCmdTimeout_of_find {n b id : Nat} {r : StoReq} {d : Dev} (h : (d.win b).find id = some r) :
    stoCmdTimeout n b id d = ((d.abortCommand n).complete b r 6 0 []).submit b := by
  rw [stoCmdTimeout, h, Dev.abortCommand]

theorem stoCmdTimeout_of_none {n b id : Nat} {d : Dev} (h : (d.win b).find id = none) : stoCmdTimeout n b id d = d := by
  rw [stoCmdTimeout, h]

/-! ### Bindings (R398) -/

section
variable {n k : Nat} (d : Dev)

/-- VALID as a write of a binding register leaves it: the bit written, where the duplicate window of the binding fits. -/
def Dev.bindingOn (d : Dev) (n k v : Nat) : Bool := v.testBit 31 && decide (4 * (64 * n + k + 1) ≤ d.get STO_DW_SIZE_MIB)

/-- A binding register written, before the binding starts or ends. -/
def Dev.writeBinding (n k v : Nat) (d : Dev) : Dev := (d.set (STO_Sn_QPk_CTX n k) v).setB (STO_Sn_QPk_VALID n k) (d.bindingOn n k v)

theorem stoBindingWrite_eq {v : Nat} (h : d.flag (STO_Sn_QPk_PENDING n k) ≠ true) : stoBindingWrite n k v d =
    if d.bindingOn n k v = true then
      (if d.flag (STO_Sn_QPk_VALID n k) then d.writeBinding n k v else (d.writeBinding n k v).setWin (64 * n + k) StoWin.reset)
    else if (d.win (64 * n + k)).reqs = [] then (d.writeBinding n k v).setWin (64 * n + k) StoWin.reset
    else (d.writeBinding n k v).set (STO_Sn_QPk_PENDING n k) 1 := if_neg h

theorem Dev.writeBinding_ctx (v : Nat) : (d.writeBinding n k v).get (STO_Sn_QPk_CTX n k) = v % 2 ^ (STO_Sn_QPk_CTX n k).w := by
  rw [Dev.writeBinding, Dev.get_setB_ne (f := STO_Sn_QPk_VALID n k) (g := STO_Sn_QPk_CTX n k) _ _ bindingKey_ne, Dev.get_set_same]

theorem Dev.writeBinding_valid (v : Nat) : (d.writeBinding n k v).get (STO_Sn_QPk_VALID n k) = b2n (d.bindingOn n k v) := by
  rw [Dev.writeBinding, Dev.get_setB_same]
  exact Nat.mod_eq_of_lt (b2n_lt _)

/-- A write of a binding that is not pending leaves CTX and VALID, and makes it pending where it is no longer valid but still executes
requests. -/
theorem stoBindingWrite_writes {v : Nat} (h : d.flag (STO_Sn_QPk_PENDING n k) ≠ true) :
    (stoBindingWrite n k v d).get (STO_Sn_QPk_CTX n k) = v % 2 ^ (STO_Sn_QPk_CTX n k).w
      ∧ (stoBindingWrite n k v d).get (STO_Sn_QPk_VALID n k) = b2n (d.bindingOn n k v)
      ∧ (d.bindingOn n k v = false → (d.win (64 * n + k)).reqs ≠ [] → (stoBindingWrite n k v d).get (STO_Sn_QPk_PENDING n k) = 1)
      ∧ (stoBindingWrite n k v d).mem = d.mem := by
  have hctx := d.writeBinding_ctx (n := n) (k := k) v
  have hvalid := d.writeBinding_valid (n := n) (k := k) v
  rw [stoBindingWrite_eq d h]
  split
  case isTrue hon =>
    refine ⟨?_, ?_, fun hoff => absurd hon (by simp [hoff]), ?_⟩
    · split <;> exact hctx
    · split <;> exact hvalid
    · split <;> rfl
  case isFalse =>
    split
    case isTrue hnone => exact ⟨hctx, hvalid, fun _ hreqs => absurd hnone hreqs, rfl⟩
    case isFalse =>
      refine ⟨?_, ?_, fun _ _ => Dev.get_set_same .., rfl⟩
      · rw [Dev.get_set_ne (f := STO_Sn_QPk_PENDING n k) (g := STO_Sn_QPk_CTX n k) _ _ bindingKey_ne, hctx]
      · rw [Dev.get_set_ne (f := STO_Sn_QPk_PENDING n k) (g := STO_Sn_QPk_VALID n k) _ _ bindingKey_ne, hvalid]

theorem bindingRelease_eq (h : d.flag (STO_Sn_QPk_PENDING n k) = true ∧ (d.win (64 * n + k)).reqs = []) : bindingRelease n k d =
    ((d.set (STO_Sn_QPk_PENDING n k) 0).set (STO_Sn_QPk_CTX n k) 0).setWin (64 * n + k) StoWin.reset := if_pos h

/-- A binding released is free again, and nothing else of the device changes. -/
theorem bindingRelease_frees (h : d.flag (STO_Sn_QPk_PENDING n k) = true ∧ (d.win (64 * n + k)).reqs = []) :
    (bindingRelease n k d).get (STO_Sn_QPk_PENDING n k) = 0 ∧ (bindingRelease n k d).get (STO_Sn_QPk_CTX n k) = 0
      ∧ (bindingRelease n k d).win (64 * n + k) = StoWin.reset
      ∧ Dev.only { d with sto := (bindingRelease n k d).sto } [(STO_Sn_QPk_PENDING n k).key, (STO_Sn_QPk_CTX n k).key]
        (bindingRelease n k d) := by
  rw [bindingRelease_eq d h]
  refine ⟨?_, ?_, Dev.win_setWin_same .., rfl, fun f hf => ?_⟩
  · rw [Dev.get_setWin, Dev.get_set_ne (f := STO_Sn_QPk_CTX n k) (g := STO_Sn_QPk_PENDING n k) _ _ bindingKey_ne,
      Dev.get_set_same, Nat.zero_mod]
  · rw [Dev.get_setWin, Dev.get_set_same, Nat.zero_mod]
  · rw [Dev.get_setWin, Dev.get_set_of_notMem _ (List.mem_cons_of_mem _ List.mem_cons_self) hf,
      Dev.get_set_of_notMem _ List.mem_cons_self hf]
    rfl

end

end Sys2Proof.Machine

namespace Sys2Proof.Proofs
open Sys2Proof Sys2Proof.Machine

/-- Settles O34: each command is what its own lemmas above say, while PCIE is ON. -/
theorem storageCommandsComplete : Obligations.StorageCommandsComplete := by
  unfold Obligations.StorageCommandsComplete
  intro s
  have hstor (op lq : Nat) (rec_ : List Byte) := storRequest_answers s.dev op lq rec_
  refine ⟨fun n => .runOn rfl ⟨driveEnable_en _, ?enable⟩, fun n gen x2 => .runPins rfl ?ready, fun n => .runOn rfl ?linkTimeout,
    fun n => .runOn rfl ?lost, fun n => .runOn rfl ?retry, fun n => .runOn rfl ?disable, fun lq => .runOn rfl (hstor 1 lq []),
    fun lq => .runOn rfl (hstor 2 lq []), fun lq => .runOn rfl (hstor 3 lq []), fun lq => .runOn rfl (hstor 4 lq []),
    fun lq blocks serial => .runOn rfl (hstor 5 lq _), fun n k id status nvstat data => .runOn rfl ?completion,
    fun n k id => .runOn rfl ?commandTimeout, fun n => .runOn rfl ?abortTimeout, fun n k v => .runOn rfl ?write,
    fun n k => .runOn rfl ?release⟩
  case enable =>
    split
    case isTrue h => exact driveEnable_starts _ h
    case isFalse h => rw [driveEnable_eq, if_neg h]
  case ready =>
    split
    case isTrue h => exact driveReady_trained _ n.isLt h
    case isFalse h => exact if_neg h
  case linkTimeout =>
    split
    case isTrue h => exact driveLinkTimeout_fails _ n.isLt h
    case isFalse h => exact if_neg h
  case lost =>
    split
    case isTrue h =>
      obtain ⟨hstate, hgen, hwidth⟩ := driveLost_shows _ n.isLt h
      exact ⟨driveLost_event _ n.isLt h, driveLost_eq _ h, hstate, hgen, hwidth, driveLost_drive _ h, fun k hk => driveLost_reqs _ h hk⟩
    case isFalse h => exact if_neg h
  case retry =>
    by_cases h : (s.dev.drive n).retry = true ∧ s.dev.flag (STO_Sn_CTL_EN n) = true
    · rw [if_pos h, if_pos (Bool.and_eq_true_iff.mpr h)]
    · rw [if_neg h, if_neg (fun hand => h (Bool.and_eq_true_iff.mp hand))]
  case disable =>
    split
    case isTrue h => exact driveDisable_shuts _ h
    case isFalse h => exact driveDisable_idle _ h
  case completion =>
    cases hfind : (s.dev.win (64 * n + k)).find id.toNat with
    | none => exact nvmeCompletion_of_none hfind
    | some r =>
      have hdrive : (64 * n.val + k.val) / 64 = n := by omega
      have herrors := s.dev.complete_submit_errors (b := 64 * n + k) (r := r) (st := nvmeStatus status)
        (nvstat := if status.val = 3 then nvstat.toNat else 0) (data := nvmeData status r data) (by omega)
      rw [hdrive] at herrors
      simp only [nvmeStatus_eq_five] at herrors
      rw [nvmeCompletion_of_find hfind]
      refine ⟨rfl, Dev.complete_submit_ids _, Dev.complete_submit_high _, herrors, fun hops hin hfail => ?_⟩
      rw [Dev.complete_submit_cache _ hops hin, nvmeStatus_of_ne_zero status hfail, nvmeData_of_ne_zero hfail]
  case commandTimeout =>
    cases hfind : (s.dev.win (64 * n + k)).find id.toNat with
    | none => exact stoCmdTimeout_of_none hfind
    | some r =>
      have hends := s.dev.timeout_endsRequests (n := n) (64 * n + k) r
      rw [stoCmdTimeout_of_find hfind]
      refine ⟨rfl, ?_, ?_, ?_, Dev.complete_submit_ids _⟩
      · exact (hends.get (STO_Sn_TIMEOUTS_COUNT n) (inSto_of_drive n.isLt)).trans (s.dev.abortCommand_count n.isLt)
      · exact (hends.get (STO_Sn_EVT_TIMEOUT n) (inSto_of_drive n.isLt)).trans (s.dev.abortCommand_event n.isLt)
      · exact (hends.drive n).trans s.dev.abortCommand_drive
  case abortTimeout =>
    split <;> rfl
  case write =>
    split
    case isTrue h => exact if_pos h
    case isFalse h =>
      obtain ⟨hctx, hvalid, hpending, hmem⟩ := stoBindingWrite_writes s.dev (v := v.toNat) h
      refine ⟨hctx, hvalid, fun hoff hreqs => hpending ?_ hreqs, hmem⟩
      rw [hvalid] at hoff
      cases hon : s.dev.bindingOn n k v.toNat with
      | false => rfl
      | true => rw [hon] at hoff; cases hoff
  case release =>
    split
    case isTrue h => exact bindingRelease_frees _ h
    case isFalse h => exact if_neg h

end Sys2Proof.Proofs
end

section
/-! PROOFS. The Type-C ports: why O35, O36 and O54 fail as they stand. O36 asks that the ACK of an Exit Mode is the message that the port
has sent last. But the lane group stops as the mode ends, and a UFP whose lane group leaves SERVICE sends Attention (R427): it follows
the ACK. O35 asks that a Sink that detaches is Unattached, and O54 that a port whose VCONN was over its current is in ErrorRecovery,
and both ask it of every state. But both commands end with an evaluation of the budget, which sheds ports where a write of NODE_W waits
for that (R416, R417), and the statements do not shut out states in which this reaches the port again. A Sink that holds an allocation
is shed in its turn. And with a shed port its link fails and its packets are cut (R105): where a cell of theirs has a number past the
banks of the packet buffer, the count of free cells of its bank would stand where the state of the port stands. -/

namespace Sys2Proof.Machine

/-! ### A message from the partner -/

/-- What a statement about a message says of the device that the message leads to, where the port takes it (R409). -/
theorem Dev.Heard.of_new {d e : Dev} {n id : Nat} {P : Dev → Dev → Prop} (h : d.Heard n false id P e) (hattached : d.attached n = true)
    (hnew : (d.pc n).heard ≠ some id) : P (d.modPc n (fun x => { x with heard := some id })) e := by
  simpa [Dev.Heard, hattached, hnew] using h

/-- A message that the port takes (R409). -/
theorem Dev.hear_of_new {d : Dev} {n id : Nat} (f : Dev → Dev) (hattached : d.attached n = true) (hnew : (d.pc n).heard ≠ some id) :
    d.hear n false id f = f (d.modPc n (fun x => { x with heard := some id })) := by
  simp [Dev.hear, hattached, hnew]

/-! ### A lane group that leaves SERVICE as its mode ends -/

section
variable (d : Dev)

@[simp] theorem Dev.raise_pdc (f : Fld) : (d.raise f).pdc = d.pdc := (d.raise_core f).pdc

@[simp] theorem Dev.postAon_pdc (r : EvRec) : (d.postAon r).pdc = d.pdc := by
  unfold Dev.postAon
  split
  · exact (d.post_core r).pdc
  · split <;> rfl

@[simp] theorem Dev.pdcRaise_pdc (n b extra : Nat) : (d.pdcRaise n b extra).pdc = d.pdc := by
  simp [Dev.pdcRaise, Dev.setFlag, apply_ite Dev.pdc]

@[simp] theorem Dev.setDso_pdc (n st : Nat) : (d.setDso n st).pdc = d.pdc := rfl

@[simp] theorem Dev.stopVideo_pdc (n st : Nat) : (d.stopVideo n st).pdc = d.pdc := by
  simp [Dev.stopVideo, apply_ite Dev.pdc]

@[simp] theorem Dev.hpdSync_pdc (n : Nat) : (d.hpdSync n).pdc = d.pdc := by
  simp [Dev.hpdSync, apply_ite Dev.pdc]

theorem forAll_pdc {α : Type} {f : α → Dev → Dev} (hf : ∀ x y, (f x y).pdc = y.pdc) (l : List α) : (forAll l f d).pdc = d.pdc := by
  induction l generalizing d with
  | nil => rfl
  | cons x t ih => exact (ih (f x d)).trans (hf x d)

@[simp] theorem Dev.passHpd_pdc (n : Nat) : (d.passHpd n).pdc = d.pdc := forAll_pdc d (fun e y => y.hpdSync_pdc e) _

end

/-- A port that negotiates no mode any more, and does not wait for its lanes. -/
def Dev.modeOver (n : Nat) (d : Dev) : Dev := d.modPc n (fun x => { x with vdm := 0, tries := 0, toAlt := 0, lanes := false })

/-- As Tirrun mode ends, what a port has sent last is what the stop of its lane group leaves (R427). -/
theorem Dev.exitAlt_pc_of_tirrun {d : Dev} {n : Nat} (htirrun : d.get (PDC_Pn_STAT_ALT n) = 2) (hon : d.domOn (laneDomain n) = true) (m : Nat) :
    (d.exitAlt n).pc m = ((d.modeOver n).seqOff (2 + n)).pc m := by
  have hdom : (d.modeOver n).domOn (laneDomain n) = true := hon
  unfold Dev.exitAlt Dev.pc
  dsimp only
  rw [htirrun, if_neg (by decide), Dev.pdcRaise_pdc, Dev.passHpd_pdc, Dev.set_pdc, Dev.set_pdc, Dev.set_pdc]
  exact congrArg (fun e : Dev => e.pdc.ports.get m PdcPort.reset) (if_pos ⟨rfl, hdom⟩)

/-- Port `n` in a state of attachment and in Tirrun mode, with its lane group in SERVICE and its link in RUN (R427, R429). -/
def Dev.inTirrunService (n conn : Nat) (d : Dev) : Dev :=
  (((d.set (PDC_Pn_STAT_CONN n) conn).set (PDC_Pn_STAT_ALT n) 2).set (TCL_STAT_STATE n) 7).set (LNK_STAT_STATE (2 + n)) 4

/-- C0 attached as Sink, a UFP in Tirrun mode. -/
def tirrunUfp : Dev := Dev.reset.inTirrunService 0 3

/-- The same port once it has taken the message with MessageID 0. -/
def tirrunUfpHears : Dev := tirrunUfp.modPc 0 (fun x => { x with heard := some 0 })

theorem tirrunUfp_takes : tirrunUfp.attached 0 = true ∧ (tirrunUfp.pc 0).heard = none := by decide

theorem tirrunUfpHears_inMode : tirrunUfpHears.get (PDC_Pn_STAT_ALT 0) = 2 ∧ tirrunUfpHears.domOn (laneDomain 0) = true := by decide

/-- The lane group that stops behind the ACK sends Attention: of a hub without a station number, the link failed, the sequencer OFF
(R427). -/
theorem seqOff_tirrunUfp_sends_attention :
    ((((tirrunUfpHears.pdSend 0 (.vdmAck 0xC7A1 5 [])).modeOver 0).seqOff 2).pc 0).sent = some (.vdm false 0xC7A1 6 [0xFFF50000]) := by
  decide

theorem exitModeRx_tirrunUfp_sends_attention :
    ((exitModeRx 0 tirrunUfpHears).pc 0).sent = some (.vdm false 0xC7A1 6 [0xFFF50000]) := by
  obtain ⟨htirrun, hon⟩ := tirrunUfpHears_inMode
  have hsent : (tirrunUfpHears.pdSend 0 (.vdmAck 0xC7A1 5 [])).get (PDC_Pn_STAT_ALT 0) = 2 := by decide
  rw [exitModeRx, if_pos htirrun, Dev.exitAlt_pc_of_tirrun hsent hon]
  exact seqOff_tirrunUfp_sends_attention

/-! ### A Sink that holds an allocation -/

/-- C0 attached as Sink with 2.5 W allocated to it, while a write of NODE_W waits for the allocations to fit 0 W (R416, R417). -/
def allocatedSink : Dev :=
  let d := (Dev.reset.set (PDC_Pn_STAT_CONN 0) 3).set (PDC_Pn_ALLOC_W 0) 25
  { d with pdc := { d.pdc with asks := [(8, 0)] } }

theorem allocatedSink_attached : allocatedSink.conn 0 = 3 ∧ allocatedSink.attached 0 = true ∧ allocatedSink.isSource 0 = false := by decide

/-- The port that detaches is shed: it is in ErrorRecovery. -/
theorem detachConfirmed_allocatedSink : (detachConfirmed 0 allocatedSink).conn 0 = 5 := by decide

/-! ### A cell number that no bank has -/

/-- A bank number that the packet buffer does not have: its count of free cells would stand where C0's state stands. -/
def strayBank : Nat := (PDC_Pn_STAT_A 0 - SWC_BANKn_FREE_A 0) / 4

/-- A packet of one cell, of that bank, whose FIRST has gone out. -/
def strayPkt : Pkt :=
  { ing := 0, pid := 0, queue := 0, sq := 0, hdr := THdr.parse [], frame := false, cells := [⟨16384 * strayBank, .shared, [], false⟩]
    whole := true, poison := false, closing := false, cut := false, started := true, dataW := false, admitAt := 0, bytes := 0
    crc := 0, tail := [], term := none, place := .chip, lead := false, credit := 0, trunc := none, fast := false }

/-- C0 attached as Source with VCONN on. C1 is a Source of 2.5 W in Tirrun mode with that packet open on its link, while a write of NODE_W
waits for the allocations to fit 0 W. -/
def strayCell : Dev :=
  let d := ((Dev.reset.set (PDC_Pn_STAT_CONN 0) 2).set (PDC_Pn_STAT_VCONN 0) 1).set (PDC_Pn_ALLOC_W 1) 25
  let d := d.inTirrunService 1 2
  { d with
    pdc := { d.pdc with asks := [(8, 0)] }
    sw := { d.sw with pkts := [(0, strayPkt)], opens := [(3, [⟨0, 0, 0, 0, none⟩])] } }

theorem strayCell_vconn : strayCell.get (PDC_Pn_STAT_VCONN 0) = 1 := by decide

/-- C0 enters ErrorRecovery, and then C1 is shed: its link fails, the packet is cut, and the cell freed counts C0's state on to 6. -/
theorem vconnOvercurrent_strayCell : (vconnOvercurrent 0 strayCell).get (PDC_Pn_STAT_CONN 0) = 6 := by decide +kernel

end Sys2Proof.Machine

namespace Sys2Proof.Proofs
open Sys2Proof Sys2Proof.Machine

/-- Refutes O36: at `tirrunUfp` the clause on EXIT_MODE asks that the message last sent is the ACK, but it is the Attention that follows. -/
theorem not_typecMessagesComplete : ¬ Obligations.TypecMessagesComplete := by
  unfold Obligations.TypecMessagesComplete
  intro h
  obtain ⟨-, -, -, -, -, -, -, -, hexit, -⟩ := h ⟨tirrunUfp, []⟩
  obtain ⟨hattached, hheard⟩ := tirrunUfp_takes
  have hnew : (tirrunUfp.pc 0).heard ≠ some 0 := by simp [hheard]
  have hclause := ((hexit 0 0).of_exec (State.run_eq _ _)).of_new hattached hnew
  obtain ⟨-, hack⟩ := (if_pos tirrunUfpHears_inMode.1).mp hclause
  have hexits : tirrunUfp.hear 0 false 0 (exitModeRx 0) = exitModeRx 0 tirrunUfpHears := Dev.hear_of_new _ hattached hnew
  simp only [Fin.val_zero, hexits, exitModeRx_tirrunUfp_sends_attention] at hack
  exact absurd hack (by decide)

/-- Refutes O35: at `allocatedSink` the clause on DETACH_CONFIRMED asks that the Sink is Unattached, CONN 0, but it is shed and in
ErrorRecovery, CONN 5. -/
theorem not_typecAttachAndContractsComplete : ¬ Obligations.TypecAttachAndContractsComplete := by
  unfold Obligations.TypecAttachAndContractsComplete
  intro h
  obtain ⟨-, -, -, hdetach, -⟩ := h ⟨allocatedSink, []⟩
  obtain ⟨hconn, hattached, hsink⟩ := allocatedSink_attached
  have hclause := (hdetach 0).of_exec (State.run_eq _ _)
  rw [if_neg (by simp [hconn]), if_neg (by simp [hattached])] at hclause
  obtain ⟨-, -, -, -, -, -, -, -, -, hunattached, -⟩ := hclause
  obtain ⟨hzero, -⟩ := hunattached hsink
  exact absurd (detachConfirmed_allocatedSink.symm.trans hzero) (by decide)

/-- Refutes O54: at `strayCell` CONN of C0 is asked to be 5, ErrorRecovery, but the cell that the shed of C1 frees takes it to 6. -/
theorem not_vconnOvercurrentOpensTheSwitch : ¬ Obligations.VconnOvercurrentOpensTheSwitch := by
  unfold Obligations.VconnOvercurrentOpensTheSwitch
  intro h
  have hclause := (h ⟨strayCell, []⟩ 0).of_exec (State.run_eq _ _)
  obtain ⟨-, -, hrecovery⟩ := (if_pos strayCell_vconn).mp hclause
  simp only [Fin.val_zero, vconnOvercurrent_strayCell] at hrecovery
  exact absurd hrecovery (by decide)

end Sys2Proof.Proofs
end

section
/-! PROOFS. The queue of waiting commands: every command completes and leaves the queue to the step, a step takes at most the command at
its front, and so no run stops, the queue drains in order, and what waits is always part of what waited. -/

namespace Sys2Proof.Machine

theorem exec_completes (c : Instr) (s : State) : ∃ d : Dev, exec c s = .next { s with dev := d } := by
  cases c <;> exact ⟨_, rfl⟩

/-- A step goes on, and takes the command at the front of the queue where there is one. -/
theorem step_completes (s : State) : ∃ d : Dev, step s = .next ⟨d, s.pending.tail⟩ := by
  obtain ⟨d, queue⟩ := s
  cases queue with
  | nil => exact ⟨_, rfl⟩
  | cons c rest => exact exec_completes c ⟨d, rest⟩

theorem step_pending {s t : State} (h : step s = .next t) : t.pending = s.pending.tail := by
  obtain ⟨d, hd⟩ := step_completes s
  rw [hd] at h
  injection h with h
  rw [← h]

theorem State.after_completes (k : Nat) (s : State) : ∃ t, State.after k s = some t := by
  induction k generalizing s with
  | zero => exact ⟨s, rfl⟩
  | succ k ih =>
    obtain ⟨d, hd⟩ := step_completes s
    simpa only [State.after, hd] using ih _

theorem State.after_pending {s t : State} {k : Nat} (h : State.after k s = some t) : t.pending = s.pending.drop k := by
  induction k generalizing s with
  | zero => injection h with h; rw [h, List.drop_zero]
  | succ k ih =>
    obtain ⟨d, hd⟩ := step_completes s
    simp only [State.after, hd] at h
    rw [ih h, List.drop_tail]

theorem State.queueWf_of_drop {s t : State} {k : Nat} (hs : s.queueWf) (ht : t.pending = s.pending.drop k) : t.queueWf :=
  fun c hc => hs c (List.mem_of_mem_drop (ht ▸ hc))

end Sys2Proof.Machine

namespace Sys2Proof.Proofs
open Sys2Proof Sys2Proof.Machine

/-- Settles O1: `step` matches on the queue. -/
theorem stepRunsTheFrontCommand : Obligations.StepRunsTheFrontCommand := fun _ _ _ => rfl

/-- Settles O3: each command answers a next state with the queue that it was given. -/
theorem everyCommandCompletes : Obligations.EveryCommandCompletes := exec_completes

/-- Settles O4: every step goes on. -/
theorem noRunStops : Obligations.NoRunStops := by
  intro s k
  obtain ⟨t, ht⟩ := State.after_completes k s
  exact Option.isSome_iff_exists.mpr ⟨t, ht⟩

/-- Settles O5: each step leaves the tail of the queue. -/
theorem queueDrainsInOrder : Obligations.QueueDrainsInOrder := by
  intro s k _
  obtain ⟨t, ht⟩ := State.after_completes k s
  exact ⟨t, ht, State.after_pending ht⟩

/-- Settles O6: what waits after some steps waited before them. -/
theorem stepsKeepQueueWellFormed : Obligations.StepsKeepQueueWellFormed :=
  ⟨fun _ _ hs h => State.queueWf_of_drop hs ((step_pending h).trans List.drop_one.symm),
    fun _ _ _ hs h => State.queueWf_of_drop hs (State.after_pending h)⟩

/-- Settles O7: nothing waits and nothing has been written. -/
theorem resetIsWellFormed : Obligations.ResetIsWellFormed :=
  ⟨rfl, fun _ hc => absurd hc List.not_mem_nil, memWf_reset, rfl, rfl, rfl⟩

end Sys2Proof.Proofs
end

section
/-! PROOFS. A command that runs a function of the device does what the function does; which fields a chain of writes changes. -/

namespace Sys2Proof.Machine

theorem Does.run {c : Instr} {s : State} {f : Dev → Dev} {P : Dev → Dev → Prop} (hexec : exec c s = s.run f)
    (h : P s.dev (f s.dev)) : Does c s P :=
  ⟨_, hexec, rfl, h⟩

theorem Dev.only.refl (d : Dev) (l : List Nat) : d.only l d := ⟨rfl, fun _ _ => rfl⟩

theorem Dev.only.set {d e : Dev} {l : List Nat} (h : d.only l e) {f : Fld} (hf : f.key ∈ l) (v : Nat) : d.only l (e.set f v) := by
  obtain ⟨heq, hget⟩ := h
  exact ⟨congrArg (fun x : Dev => x.set f v) heq, fun g hg => (e.get_set_of_notMem hf hg v).trans (hget g hg)⟩

theorem Dev.only.ite {d e e' : Dev} {l : List Nat} {p : Prop} [Decidable p] (h : d.only l e) (h' : d.only l e') :
    d.only l (if p then e else e') := by
  split
  · exact h
  · exact h'

end Sys2Proof.Machine
end

section
/-! PROOFS. A power request that meets a transition waits in NEXT, and acts when the transition ends. -/

namespace Sys2Proof.Machine

theorem PWR_Dd_keys (n : Nat) : (PWR_Dd_STAT_STATE n).key = (PWR_Dd_REQ_TARGET n).key + 32
    ∧ (PWR_Dd_STAT_PHASE n).key = (PWR_Dd_REQ_TARGET n).key + 34 ∧ (PWR_Dd_STAT_NEXT n).key = (PWR_Dd_REQ_TARGET n).key + 40 := by
  refine ⟨?_, ?_, ?_⟩ <;>
    simp only [PWR_Dd_STAT_STATE, PWR_Dd_STAT_PHASE, PWR_Dd_STAT_NEXT, PWR_Dd_REQ_TARGET, PWR_Dd_STAT_A, PWR_Dd_REQ_A] <;> omega

theorem domainRequestWrite_of_transition {n target : Nat} {d : Dev} (hn : n ≠ 0) (ht : target ≠ 3) (hp : d.phaseOf n ≠ 0) :
    domainRequestWrite n target d = (d.set (PWR_Dd_REQ_TARGET n) target).set (PWR_Dd_STAT_NEXT n) target := by
  have keeps : (d.set (PWR_Dd_REQ_TARGET n) target).phaseOf n = d.phaseOf n :=
    Dev.get_set_ne _ _ (by have := PWR_Dd_keys n; omega)
  simp only [domainRequestWrite, if_neg ht, if_neg hn, keeps, if_pos hp]

theorem Dev.settled_eq (n : Nat) (d : Dev) : d.settled n = if d.get (PWR_Dd_STAT_NEXT n) = 3 then d.wakeGo
    else ((d.set (PWR_Dd_STAT_NEXT n) 3).pwrRequest n (d.get (PWR_Dd_STAT_NEXT n))).wakeGo := by
  simp only [Dev.settled, apply_ite Dev.wakeGo]

end Sys2Proof.Machine

namespace Sys2Proof.Proofs
open Sys2Proof Sys2Proof.Machine

/-- Settles O56: a request in a transition only writes TARGET and NEXT; each ending answers the state that `settled` makes. -/
theorem requestsWaitForTransitions : Obligations.RequestsWaitForTransitions := by
  refine ⟨fun s n target hn ht hp => .run rfl ?_, fun s n hp => .run rfl (if_pos hp), fun s n hp => .run rfl (if_pos hp),
    fun d n => Dev.settled_eq n d⟩
  have hn' : n.val ≠ 0 := fun h => hn (Fin.ext h)
  have ht' : target.val ≠ 3 := fun h => ht (Fin.ext h)
  obtain ⟨hstate, hphase, hnext⟩ := PWR_Dd_keys n
  rw [domainRequestWrite_of_transition hn' ht' hp]
  refine ⟨?_, ?_, ?_⟩
  · exact (Dev.get_set_ne _ _ (by omega)).trans (Dev.get_set_ne _ _ (by omega))
  · simp only [Dev.domState, if_neg hn']
    rw [Dev.get_set_ne _ _ (by omega), Dev.get_set_ne _ _ (by omega)]
  · rw [Dev.get_set_same]
    exact Nat.mod_eq_of_lt target.isLt

end Sys2Proof.Proofs
end

section
/-! PROOFS. The operations of the feed controller: what each reads as afterwards, and what it leaves as it was. -/

namespace Sys2Proof.Machine
variable (d : Dev)

/-! ### Fields of another key -/

theorem Dev.inc_hsw (f : Fld) : (d.inc f).hsw = d.hsw := rfl
theorem Dev.meet_hsw (g : HswMeet → HswMeet) : (d.meet g).hsw = { d.hsw with meets := g d.hsw.meets } := rfl

theorem Dev.get_incSatBy_same (f : Fld) (n : Nat) : (d.incSatBy f n).get f = min (d.get f + n) (2 ^ f.w - 1) := by
  simp only [Dev.incSatBy, Dev.get_set_same]
  exact Nat.mod_eq_of_lt (lt_of_le_of_lt (min_le_right _ _) (Nat.sub_lt (Nat.two_pow_pos _) Nat.one_pos))

theorem Dev.get_incSatBy_ne {f g : Fld} (n : Nat) (h : g.key ≠ f.key) : (d.incSatBy f n).get g = d.get g := d.get_set_ne _ h
theorem Dev.incSatBy_hsw (f : Fld) (n : Nat) : (d.incSatBy f n).hsw = d.hsw := rfl

/-! ### Events -/

theorem Dev.postAon_get (r : EvRec) {f : Fld} (h : notEvq f) : (d.postAon r).get f = d.get f := by
  unfold Dev.postAon
  split
  · exact d.post_get r h
  · split <;> rfl

theorem Dev.postAon_hsw (r : EvRec) : (d.postAon r).hsw = d.hsw := by
  unfold Dev.postAon
  split
  · exact (d.post_core r).hsw
  · split <;> rfl

/-- A flag of the feed controller raised leaves every field but the flag and the event queues'. -/
theorem Dev.hswRaise_get (b : Nat) {f : Fld} (h : f.key ≠ HSW_EVT_FAST_TRIP.key + b) (hlow : f.key < 8 * 0x10900400) :
    (d.hswRaise b).get f = d.get f := by
  have hset : (d.set ⟨HSW_EVT_FAST_TRIP.key + b, 1, 0⟩ 1).get f = d.get f := Dev.get_set_ne d 1 h
  unfold Dev.hswRaise Dev.setFlag
  dsimp only
  split
  · exact hset
  · split
    · exact (Dev.postAon_get _ _ (.inl hlow)).trans hset
    · exact hset

theorem Dev.hswRaise_self (b : Nat) (hb : b < 16) : (d.hswRaise b).get ⟨HSW_EVT_FAST_TRIP.key + b, 1, 0⟩ = 1 := by
  have hset : (d.set ⟨HSW_EVT_FAST_TRIP.key + b, 1, 0⟩ 1).get ⟨HSW_EVT_FAST_TRIP.key + b, 1, 0⟩ = 1 := d.get_set_same _ _
  have hlow : notEvq ⟨HSW_EVT_FAST_TRIP.key + b, 1, 0⟩ := .inl (by simp only [HSW_EVT_FAST_TRIP, HSW_EVT_A]; omega)
  unfold Dev.hswRaise Dev.setFlag
  dsimp only
  split
  · exact hset
  · split
    · exact (Dev.postAon_get _ _ hlow).trans hset
    · exact hset

theorem Dev.hswRaise_hsw (b : Nat) : (d.hswRaise b).hsw = d.hsw := by
  unfold Dev.hswRaise Dev.setFlag
  dsimp only
  split
  · rfl
  · split
    · exact Dev.postAon_hsw _ _
    · rfl

/-! ### PGOOD -/

theorem Dev.pgoodFall_get {f : Fld} (h : f.key ∉ [HSW_STAT_PGOOD.key, TRK_BYP_CTL_STATE.key, HSW_EVT_PGOOD_FALL.key])
    (hlow : f.key < 8 * 0x10900400) : d.pgoodFall.get f = d.get f := by
  simp only [List.mem_cons, List.not_mem_nil, or_false, not_or] at h
  obtain ⟨hpg, hbyp, hev⟩ := h
  unfold Dev.pgoodFall
  split
  · exact ((Dev.hswRaise_get _ 7 hev hlow).trans (Dev.get_set_ne _ _ hbyp)).trans (Dev.get_set_ne _ _ hpg)
  · rfl

theorem Dev.pgoodFall_pgood : d.pgoodFall.get HSW_STAT_PGOOD = 0 := by
  unfold Dev.pgoodFall
  split
  · exact ((Dev.hswRaise_get _ 7 (by decide) (by decide)).trans (Dev.get_set_ne _ _ (by decide))).trans (Dev.get_set_same _ _ _)
  · next h => simpa [Dev.flag] using h

theorem Dev.pgoodFall_hsw : d.pgoodFall.hsw = d.hsw := by
  unfold Dev.pgoodFall
  split
  · exact Dev.hswRaise_hsw _ 7
  · rfl

theorem Dev.avsAsk_get (mv : Nat) (low : Bool) {f : Fld} (h : f.key ≠ PWR_AVS_STAT_BUSY.key) : (d.avsAsk mv low).get f = d.get f := by
  unfold Dev.avsAsk
  dsimp only
  split <;> exact d.get_set_ne 1 h

theorem Dev.pgoodRise_get {f : Fld} (h : f.key ∉ [HSW_STAT_PGOOD.key, TRK_BYP_CTL_STATE.key, HSW_EVT_PGOOD_RISE.key, PWR_AVS_STAT_BUSY.key])
    (hlow : f.key < 8 * 0x10900400) : d.pgoodRise.get f = d.get f := by
  simp only [List.mem_cons, List.not_mem_nil, or_false, not_or] at h
  obtain ⟨hpg, hbyp, hev, hbusy⟩ := h
  have raised : ((d.set HSW_STAT_PGOOD 1).hswRaise 6).bypSync.get f = d.get f := by
    rw [Dev.bypSync, Dev.get_setB_ne _ _ hbyp, Dev.hswRaise_get _ 6 hev hlow, Dev.get_set_ne _ _ hpg]
  unfold Dev.pgoodRise
  dsimp only
  split
  · split
    · rw [Dev.avsAsk_get _ _ _ hbusy]
      exact raised
    · exact raised
  · rfl

/-- PGOOD rises in ON only. -/
theorem Dev.pgoodRise_of_ne (h : d.hswState ≠ 5) : d.pgoodRise = d := if_neg fun hc => h hc.1

/-! ### Gates off -/

theorem Dev.gatesOff_state (st : Nat) (h : st < 16) : (d.gatesOff st).get HSW_STAT_STATE = st :=
  (Dev.get_set_same _ _ _).trans (Nat.mod_eq_of_lt h)

theorem Dev.gatesOff_timer (st : Nat) : (d.gatesOff st).get HSW_STAT_FT_RUN = 0 :=
  (Dev.get_set_ne _ _ (by decide)).trans (Dev.get_set_same _ _ _)

theorem Dev.gatesOff_get (st : Nat) {f : Fld} (h : f.key ∉ [HSW_STAT_STATE.key, HSW_STAT_FT_RUN.key]) :
    (d.gatesOff st).get f = d.get f := by
  simp only [List.mem_cons, List.not_mem_nil, or_false, not_or] at h
  exact (Dev.get_set_ne _ _ h.1).trans (Dev.get_set_ne _ _ h.2)

theorem Dev.gatesOff_hsw (st : Nat) : (d.gatesOff st).hsw = { d.hsw with keepUv := none } := rfl

/-- Nothing changes but the fields of the list and the controller's own part. -/
def Dev.onlyHsw (d : Dev) (l : List Nat) (e : Dev) : Prop := Dev.only { d with hsw := e.hsw } l e

section
variable {d} {e : Dev} {l : List Nat}

theorem Dev.onlyHsw.refl : d.onlyHsw l d := Dev.only.refl d l

theorem Dev.onlyHsw.set (h : d.onlyHsw l e) {f : Fld} (hf : f.key ∈ l) (v : Nat) : d.onlyHsw l (e.set f v) := Dev.only.set h hf v

theorem Dev.onlyHsw.modHsw (h : d.onlyHsw l e) (g : HswPart → HswPart) : d.onlyHsw l (e.modHsw g) := by
  obtain ⟨heq, hget⟩ := h
  exact ⟨congrArg (fun x : Dev => x.modHsw g) heq, hget⟩

theorem Dev.onlyHsw.gatesOff (h : d.onlyHsw l e) (hst : HSW_STAT_STATE.key ∈ l) (hft : HSW_STAT_FT_RUN.key ∈ l) (st : Nat) :
    d.onlyHsw l (e.gatesOff st) :=
  ((h.modHsw _).set hft _).set hst _

end

/-! ### One-bit fields as flags -/

theorem Dev.flag_eq_false {f : Fld} : d.flag f = false ↔ d.get f = 0 := by simp [Dev.flag]

theorem Dev.flag_eq_true {f : Fld} (hw : f.w = 1) : d.flag f = true ↔ d.get f = 1 := by
  have := d.get_lt f
  rw [hw] at this
  simp only [Dev.flag, bne_iff_ne]
  omega

/-! ### Starting over -/

theorem Dev.selectState_lt : d.selectState < 16 := by
  unfold Dev.selectState
  split
  · decide
  · split <;> decide

theorem Dev.enterSelect_eq : d.enterSelect = d.gatesOff d.selectState := by
  unfold Dev.enterSelect Dev.selectState
  by_cases h0 : d.get HSW_STAT_SEAT0 = 0
  · simp [Dev.flag, h0]
  by_cases h1 : d.get HSW_STAT_SEAT1 = 0
  · simp [Dev.flag, h1]
  by_cases hA : d.flag HSW_STAT_LOCK_A = true <;> by_cases hB : d.flag HSW_STAT_LOCK_B = true
  all_goals
    have hA' := d.flag_eq_true (f := HSW_STAT_LOCK_A) rfl
    have hB' := d.flag_eq_true (f := HSW_STAT_LOCK_B) rfl
    simp_all [Dev.flag]

theorem Dev.selectState_congr {d e : Dev} (h : ∀ f ∈ [HSW_STAT_SEAT0, HSW_STAT_SEAT1, HSW_STAT_LOCK_A, HSW_STAT_LOCK_B], e.get f = d.get f) :
    e.selectState = d.selectState := by
  simp only [List.forall_mem_cons] at h
  obtain ⟨h0, h1, hA, hB, -⟩ := h
  simp only [Dev.selectState, h0, h1, hA, hB]

end Sys2Proof.Machine
end

section
/-! PROOFS. Changes of feed, retries, trips and the end of a tick of the feed controller. -/

namespace Sys2Proof.Machine
variable (d : Dev)

/-! ### Trips -/

theorem Dev.countFast_get {f : Fld} (h : f.key ∉ [HSW_FAST_TRIPS_COUNT.key, HSW_EVT_FAST_TRIP.key]) (hlow : f.key < 8 * 0x10900400) :
    d.countFast.get f = d.get f := by
  simp only [List.mem_cons, List.not_mem_nil, or_false, not_or] at h
  rw [Dev.countFast, Dev.hswRaise_get _ 0 h.2 hlow, Dev.get_inc_ne _ h.1, Dev.meet_get]

theorem Dev.countFast_hsw : d.countFast.hsw = { d.hsw with meets := { d.hsw.meets with slow := false } } := by
  rw [Dev.countFast, Dev.hswRaise_hsw, Dev.inc_hsw, Dev.meet_hsw]

theorem Dev.countFast_count : d.countFast.get HSW_FAST_TRIPS_COUNT = (d.get HSW_FAST_TRIPS_COUNT + 1) % 2 ^ 32 := by
  rw [Dev.countFast, Dev.hswRaise_get _ 0 (by decide) (by decide), Dev.get_inc_same, Dev.meet_get]
  rfl

theorem Dev.countFast_event : d.countFast.get HSW_EVT_FAST_TRIP = 1 := Dev.hswRaise_self _ 0 (by decide)

theorem Dev.countSlow_count : d.countSlow.get HSW_SLOW_TRIPS_COUNT = (d.get HSW_SLOW_TRIPS_COUNT + 1) % 2 ^ 32 := by
  rw [Dev.countSlow, Dev.hswRaise_get _ 1 (by decide) (by decide), Dev.get_inc_same, Dev.meet_get]
  rfl

theorem Dev.countSlow_event : d.countSlow.get HSW_EVT_SLOW_TRIP = 1 := Dev.hswRaise_self _ 1 (by decide)

theorem Dev.countSlow_state : d.countSlow.hswState = d.hswState := by
  rw [Dev.hswState, Dev.countSlow, Dev.hswRaise_get _ 1 (by decide) (by decide), Dev.get_inc_ne _ (by decide), Dev.meet_get]
  rfl

/-- A trip in a quiet tick up to the choice of the state it leads to: PGOOD falls, the trip is counted and the off time starts. -/
def Dev.tripOff (fast : Bool) (us : Nat) (d : Dev) : Dev :=
  let d := d.pgoodFall.incSatBy HSW_HIST_TRIPS 1
  let d := if fast then d.countFast else d.meet (fun m => { m with slow := true })
  (d.modHsw (fun h => { h with offLeft := max (10 * us) (1000 * d.get HSW_TIMER_RETRY_MIN), owed := h.meets.lost.isSome })).showWait

section
variable (fast : Bool) (us : Nat)

theorem Dev.tripOff_get {f : Fld} (h : f.key ∉ [HSW_STAT_PGOOD.key, TRK_BYP_CTL_STATE.key, HSW_EVT_PGOOD_FALL.key, HSW_HIST_TRIPS.key,
    HSW_FAST_TRIPS_COUNT.key, HSW_EVT_FAST_TRIP.key, HSW_HIST_WAIT.key]) (hlow : f.key < 8 * 0x10900400) :
    (d.tripOff fast us).get f = d.get f := by
  simp only [List.mem_cons, List.not_mem_nil, or_false, not_or] at h
  obtain ⟨hpg, hbyp, hfall, htrips, hcount, hfast, hwait⟩ := h
  have fall : (d.pgoodFall.incSatBy HSW_HIST_TRIPS 1).get f = d.get f := by
    rw [Dev.get_incSatBy_ne _ _ htrips, Dev.pgoodFall_get _ (by simp [hpg, hbyp, hfall]) hlow]
  simp only [Dev.tripOff, Dev.showWait, Dev.get_set_ne _ _ hwait, Dev.modHsw_get]
  split
  · rw [Dev.countFast_get _ (by simp [hcount, hfast]) hlow, fall]
  · rw [Dev.meet_get, fall]

theorem Dev.tripOff_pgood : (d.tripOff fast us).get HSW_STAT_PGOOD = 0 := by
  have fall : (d.pgoodFall.incSatBy HSW_HIST_TRIPS 1).get HSW_STAT_PGOOD = 0 := by
    rw [Dev.get_incSatBy_ne _ _ (by decide), Dev.pgoodFall_pgood]
  simp (disch := decide) only [Dev.tripOff, Dev.showWait, Dev.get_set_ne, Dev.modHsw_get]
  split
  · rw [Dev.countFast_get _ (by decide) (by decide), fall]
  · rw [Dev.meet_get, fall]

theorem Dev.tripOff_trips : (d.tripOff fast us).get HSW_HIST_TRIPS = min (2 ^ HSW_HIST_TRIPS.w - 1) (d.get HSW_HIST_TRIPS + 1) := by
  have fall : (d.pgoodFall.incSatBy HSW_HIST_TRIPS 1).get HSW_HIST_TRIPS = min (2 ^ HSW_HIST_TRIPS.w - 1) (d.get HSW_HIST_TRIPS + 1) := by
    rw [Dev.get_incSatBy_same, Dev.pgoodFall_get _ (by decide) (by decide), min_comm]
  simp (disch := decide) only [Dev.tripOff, Dev.showWait, Dev.get_set_ne, Dev.modHsw_get]
  split
  · rw [Dev.countFast_get _ (by decide) (by decide), fall]
  · rw [Dev.meet_get, fall]

theorem Dev.tripOff_fast : (d.tripOff true us).get HSW_EVT_FAST_TRIP = 1
    ∧ (d.tripOff true us).get HSW_FAST_TRIPS_COUNT = (d.get HSW_FAST_TRIPS_COUNT + 1) % 2 ^ 32 := by
  simp (disch := decide) only [Dev.tripOff, Dev.showWait, Dev.get_set_ne, Dev.modHsw_get, if_true, Dev.countFast_event, Dev.countFast_count,
    Dev.get_incSatBy_ne, Dev.pgoodFall_get, and_self]

theorem Dev.tripOff_hsw : (d.tripOff fast us).hsw = { d.hsw with
    offLeft := max (10 * us) (1000 * d.get HSW_TIMER_RETRY_MIN), owed := d.hsw.meets.lost.isSome
    meets := { d.hsw.meets with slow := !fast } } := by
  cases fast <;>
    simp (disch := decide) [Dev.tripOff, Dev.showWait, Dev.countFast_get, Dev.countFast_hsw, Dev.get_incSatBy_ne, Dev.incSatBy_hsw,
      Dev.pgoodFall_get, Dev.pgoodFall_hsw, Dev.meet_hsw]

theorem Dev.tripOff_wait : (d.tripOff fast us).get HSW_HIST_WAIT = min 0xFFFF (((d.tripOff fast us).hsw.offLeft + 99) / 100) := by
  rw [Dev.tripOff, Dev.showWait, Dev.get_set_same]
  exact Nat.mod_eq_of_lt (Nat.lt_succ_of_le (min_le_left _ _))

end

theorem Dev.tripEnd_of_retry (hlost : d.hsw.meets.lost = none)
    (h : d.get HSW_RETRY_COUNT = 255 ∨ d.get HSW_HIST_RETRIES < d.get HSW_RETRY_COUNT) : d.tripEnd = d.gatesOff 7 := by
  simp only [Dev.tripEnd, hlost, if_pos h]
  rfl

theorem Dev.tripEnd_of_latch (hlost : d.hsw.meets.lost = none)
    (h : ¬(d.get HSW_RETRY_COUNT = 255 ∨ d.get HSW_HIST_RETRIES < d.get HSW_RETRY_COUNT)) : d.tripEnd = (d.gatesOff 8).hswRaise 3 := by
  simp only [Dev.tripEnd, hlost, if_neg h, Option.isSome_none, Bool.or_false]
  rfl

/-- What every trip of a quiet tick leaves of the fields: only the two ends of a trip write beside `tripOff`. -/
theorem Dev.tripEnd_get {f : Fld} (h : f.key ∉ [HSW_STAT_STATE.key, HSW_STAT_FT_RUN.key, HSW_EVT_LATCHED.key]) (hlow : f.key < 8 * 0x10900400) :
    d.tripEnd.get f = d.get f := by
  simp only [List.mem_cons, List.not_mem_nil, or_false, not_or] at h
  obtain ⟨hst, hft, hev⟩ := h
  unfold Dev.tripEnd
  dsimp only
  split
  · exact d.gatesOff_get _ (by simp [hst, hft])
  · rw [Dev.hswRaise_get _ 3 hev hlow, Dev.modHsw_get, Dev.gatesOff_get _ _ (by simp [hst, hft])]

theorem Dev.tripEnd_timer : d.tripEnd.get HSW_STAT_FT_RUN = 0 := by
  unfold Dev.tripEnd
  dsimp only
  split
  · exact d.gatesOff_timer _
  · rw [Dev.hswRaise_get _ 3 (by decide) (by decide), Dev.modHsw_get, Dev.gatesOff_timer]

theorem Dev.tripEnd_hsw (hlost : d.hsw.meets.lost = none) : d.tripEnd.hsw = { d.hsw with keepUv := none } := by
  by_cases h : d.get HSW_RETRY_COUNT = 255 ∨ d.get HSW_HIST_RETRIES < d.get HSW_RETRY_COUNT
  · rw [d.tripEnd_of_retry hlost h, Dev.gatesOff_hsw]
  · rw [d.tripEnd_of_latch hlost h, Dev.hswRaise_hsw, Dev.gatesOff_hsw]

variable {d}

theorem Dev.trip_of_quiet (hq : d.quietTick) (fast : Bool) (us : Nat) :
    d.trip fast us = (d.tripOff fast us).tripEnd.meet (fun m => { m with lost := m.lost.map (fun _ => (1, false)) }) := by
  have hmeets : (d.tripOff fast us).hsw.meets = { d.hsw.meets with slow := !fast } := by rw [Dev.tripOff_hsw]
  have hlost : (d.tripOff fast us).hsw.meets.lost = none := by rw [hmeets, hq]; rfl
  have hend : (d.tripOff fast us).tripEnd.hsw.meets = { d.hsw.meets with slow := !fast } := by rw [Dev.tripEnd_hsw _ hlost, hmeets]
  have hcleared : ((d.tripOff fast us).tripEnd.meet (fun m => { m with lost := m.lost.map (fun _ => (1, false)) })).hsw.meets.cleared = false := by
    rw [Dev.meet_hsw, hend, hq]; rfl
  have hunlatched : ((d.tripOff fast us).tripEnd.meet (fun m => { m with lost := m.lost.map (fun _ => (1, false)) })).hsw.meets.unlatched = false := by
    rw [Dev.meet_hsw, hend, hq]; rfl
  unfold Dev.tripOff at hcleared hunlatched ⊢
  simp only [Dev.trip, hcleared, hunlatched, Bool.false_eq_true, if_false]

/-! ### Changes of feed and retries -/

section
variable (d)

theorem Dev.switchover_get {f : Fld} (h : f.key ∉ [HSW_STAT_STATE.key, HSW_STAT_FT_RUN.key, HSW_STAT_FEED.key, HSW_SWITCHOVERS_COUNT.key,
    HSW_EVT_SWITCHOVER.key]) (hlow : f.key < 8 * 0x10900400) : d.switchover.get f = d.get f := by
  simp only [List.mem_cons, List.not_mem_nil, or_false, not_or] at h
  obtain ⟨hst, hft, hfeed, hcount, hev⟩ := h
  rw [Dev.switchover, Dev.hswRaise_get _ 5 hev hlow, Dev.get_inc_ne _ hcount, Dev.modHsw_get, Dev.get_set_ne _ _ hfeed,
    Dev.gatesOff_get _ _ (by simp [hst, hft])]

theorem Dev.switchover_state : d.switchover.hswState = 6 := by
  rw [Dev.hswState, Dev.switchover, Dev.hswRaise_get _ 5 (by decide) (by decide), Dev.get_inc_ne _ (by decide), Dev.modHsw_get,
    Dev.get_set_ne _ _ (by decide), Dev.gatesOff_state _ 6 (by decide)]

theorem Dev.switchover_feed : d.switchover.feed = 1 - d.feed := by
  rw [Dev.feed, Dev.switchover, Dev.hswRaise_get _ 5 (by decide) (by decide), Dev.get_inc_ne _ (by decide), Dev.modHsw_get, Dev.get_set_same]
  exact Nat.mod_eq_of_lt (Nat.lt_succ_of_le (Nat.sub_le _ _))

theorem Dev.switchover_timer : d.switchover.get HSW_STAT_FT_RUN = 0 := by
  rw [Dev.switchover, Dev.hswRaise_get _ 5 (by decide) (by decide), Dev.get_inc_ne _ (by decide), Dev.modHsw_get,
    Dev.get_set_ne _ _ (by decide), Dev.gatesOff_timer]

theorem Dev.switchover_count : d.switchover.get HSW_SWITCHOVERS_COUNT = (d.get HSW_SWITCHOVERS_COUNT + 1) % 2 ^ 32 := by
  rw [Dev.switchover, Dev.hswRaise_get _ 5 (by decide) (by decide), Dev.get_inc_same, Dev.modHsw_get, Dev.get_set_ne _ _ (by decide),
    Dev.gatesOff_get _ _ (by decide)]
  rfl

theorem Dev.switchover_event : d.switchover.get HSW_EVT_SWITCHOVER = 1 := Dev.hswRaise_self _ 5 (by decide)

theorem Dev.countRetry_get {f : Fld} (h : f.key ∉ [HSW_HIST_RETRIES.key, HSW_RETRIES_COUNT.key, HSW_EVT_RETRY.key])
    (hlow : f.key < 8 * 0x10900400) : d.countRetry.get f = d.get f := by
  simp only [List.mem_cons, List.not_mem_nil, or_false, not_or] at h
  obtain ⟨hhist, hcount, hev⟩ := h
  rw [Dev.countRetry, Dev.hswRaise_get _ 2 hev hlow, Dev.get_inc_ne _ hcount, Dev.get_incSatBy_ne _ _ hhist]

theorem Dev.countRetry_counts : d.countRetry.get HSW_EVT_RETRY = 1 ∧ d.countRetry.get HSW_RETRIES_COUNT = (d.get HSW_RETRIES_COUNT + 1) % 2 ^ 32
    ∧ d.countRetry.get HSW_HIST_RETRIES = min 255 (d.get HSW_HIST_RETRIES + 1) := by
  refine ⟨Dev.hswRaise_self _ 2 (by decide), ?_, ?_⟩
  · rw [Dev.countRetry, Dev.hswRaise_get _ 2 (by decide) (by decide), Dev.get_inc_same, Dev.get_incSatBy_ne _ _ (by decide)]
    rfl
  · rw [Dev.countRetry, Dev.hswRaise_get _ 2 (by decide) (by decide), Dev.get_inc_ne _ (by decide), Dev.get_incSatBy_same, min_comm]
    rfl

theorem Dev.countRetry_hsw : d.countRetry.hsw = d.hsw := by
  rw [Dev.countRetry, Dev.hswRaise_hsw, Dev.inc_hsw, Dev.incSatBy_hsw]

/-- Starting over reads the seats and the lockouts only. -/
theorem Dev.enterSelect_state : d.enterSelect.hswState = d.selectState := by
  rw [Dev.enterSelect_eq, Dev.hswState, Dev.gatesOff_state _ _ d.selectState_lt]

theorem Dev.enterSelect_get {f : Fld} (h : f.key ∉ [HSW_STAT_STATE.key, HSW_STAT_FT_RUN.key]) : d.enterSelect.get f = d.get f := by
  rw [Dev.enterSelect_eq, Dev.gatesOff_get _ _ h]

theorem Dev.pgoodFall_selectState : d.pgoodFall.selectState = d.selectState :=
  Dev.selectState_congr (by simp (disch := decide) [Dev.pgoodFall_get])

/-- Neither driving nor waiting for a retry: the states a start over leads to. -/
theorem Dev.selectState_cases : d.selectState = 1 ∨ d.selectState = 9 ∨ d.selectState = 3 := by
  unfold Dev.selectState
  split
  · exact .inl rfl
  · split
    · exact .inr (.inl rfl)
    · exact .inr (.inr rfl)

theorem Dev.feedGone_losesFeed : d.LosesFeed d.feedGone := by
  unfold Dev.LosesFeed Dev.feedGone
  by_cases h : d.feedValid (1 - d.feed) = true
  · simp only [if_pos h]
    exact ⟨d.switchover_state, d.switchover_feed, d.switchover_event, d.switchover_count⟩
  · simp only [if_neg h]
    refine ⟨?_, ?_⟩
    · rw [Dev.enterSelect_state, Dev.pgoodFall_selectState]
    · rw [Dev.enterSelect_get _ (by decide), Dev.pgoodFall_pgood]

theorem Dev.feedGone_state : d.feedGone.hswState ≠ 4 ∧ d.feedGone.hswState ≠ 5 := by
  unfold Dev.feedGone
  split
  · rw [Dev.switchover_state]; decide
  · rw [Dev.enterSelect_state]
    rcases d.pgoodFall.selectState_cases with h | h | h <;> rw [h] <;> decide

end

/-! ### The end of a tick -/

/-- What ends a tick: the next one begins with nothing, and PGOOD rises where its conditions hold. -/
def Dev.tickEnd (d : Dev) : Dev := (d.meet (fun _ => { HswMeet.none with tick := d.tickNow })).pgoodRise

theorem Dev.tickEnd_get {f : Fld} (h : f.key ∉ [HSW_STAT_PGOOD.key, TRK_BYP_CTL_STATE.key, HSW_EVT_PGOOD_RISE.key, PWR_AVS_STAT_BUSY.key])
    (hlow : f.key < 8 * 0x10900400) : d.tickEnd.get f = d.get f := by
  rw [Dev.tickEnd, Dev.pgoodRise_get _ h hlow, Dev.meet_get]

theorem Dev.tickEnd_pgood (h : d.hswState ≠ 5) : d.tickEnd.get HSW_STAT_PGOOD = d.get HSW_STAT_PGOOD := by
  rw [Dev.tickEnd, Dev.pgoodRise_of_ne (d.meet _) h, Dev.meet_get]

/-- A feed that the controller drives from is no longer valid. -/
def Dev.tickFeed (d : Dev) : Dev := if d.driving && !d.feedValid d.feed then d.feedGone else d

theorem Dev.tickFeed_of_parked (h4 : d.hswState ≠ 4) (h5 : d.hswState ≠ 5) : d.tickFeed = d := by
  simp [Dev.tickFeed, Dev.driving, h4, h5]

/-- A tick that brought no more than its `calm`, `high`, `rise`, `ended` and `slow` say. -/
theorem Dev.hswTick_eq : d.hswTick =
    let m := d.hsw.meets
    let a := if m.calm then d.set HSW_STAT_FT_RUN 0 else d
    let b := if m.high && a.driving then (a.pgoodFall.enterSelect).hswRaise 9 else a
    let c := (if m.rise then b.lockOut else b).tickFeed
    let e := if m.ended && c.hswState == 7 then c.countRetry.enterSelect else c
    (if m.slow then e.countSlow else e).tickEnd := rfl

/-! ### A trip in a quiet tick -/

section
variable (hq : d.quietTick) (fast : Bool) (us : Nat)
include hq

theorem Dev.tripOff_lost : (d.tripOff fast us).hsw.meets.lost = none := by rw [Dev.tripOff_hsw, hq]; rfl

theorem Dev.trip_hsw : (d.trip fast us).hsw = { d.hsw with
    keepUv := none, offLeft := max (10 * us) (1000 * d.get HSW_TIMER_RETRY_MIN), owed := false, meets := { d.hsw.meets with slow := !fast } } := by
  rw [Dev.trip_of_quiet hq, Dev.meet_hsw, Dev.tripEnd_hsw _ (Dev.tripOff_lost hq fast us), Dev.tripOff_hsw, hq]
  rfl

theorem Dev.trip_get {f : Fld} (h : f.key ∉ [HSW_STAT_STATE.key, HSW_STAT_FT_RUN.key, HSW_EVT_LATCHED.key]) (hlow : f.key < 8 * 0x10900400) :
    (d.trip fast us).get f = (d.tripOff fast us).get f := by
  rw [Dev.trip_of_quiet hq, Dev.meet_get, Dev.tripEnd_get _ h hlow]

theorem Dev.trip_timer : (d.trip fast us).get HSW_STAT_FT_RUN = 0 := by
  rw [Dev.trip_of_quiet hq, Dev.meet_get, Dev.tripEnd_timer]

theorem Dev.trip_state : if d.get HSW_RETRY_COUNT = 255 ∨ d.get HSW_HIST_RETRIES < d.get HSW_RETRY_COUNT then (d.trip fast us).hswState = 7
    else (d.trip fast us).hswState = 8 ∧ (d.trip fast us).get HSW_EVT_LATCHED = 1 := by
  have hcount : (d.tripOff fast us).get HSW_RETRY_COUNT = d.get HSW_RETRY_COUNT := d.tripOff_get fast us (by decide) (by decide)
  have hretries : (d.tripOff fast us).get HSW_HIST_RETRIES = d.get HSW_HIST_RETRIES := d.tripOff_get fast us (by decide) (by decide)
  rw [Dev.trip_of_quiet hq, Dev.hswState, Dev.meet_get, Dev.meet_get, ← hcount, ← hretries]
  split
  · next h => rw [Dev.tripEnd_of_retry _ (Dev.tripOff_lost hq fast us) h, Dev.gatesOff_state _ 7 (by decide)]
  · next h =>
    rw [Dev.tripEnd_of_latch _ (Dev.tripOff_lost hq fast us) h]
    exact ⟨(Dev.hswRaise_get _ 3 (by decide) (by decide)).trans (Dev.gatesOff_state _ 8 (by decide)), Dev.hswRaise_self _ 3 (by decide)⟩

theorem Dev.trip_state_cases : (d.trip fast us).hswState = 7 ∨ (d.trip fast us).hswState = 8 := by
  have h := Dev.trip_state hq fast us
  split at h
  · exact .inl h
  · exact .inr h.1

/-- The end of a tick in which a slow trip came: it is counted, and nothing else takes effect. -/
theorem Dev.hswTick_of_slowTrip : (d.trip false us).hswTick = (d.trip false us).countSlow.tickEnd := by
  have hmeets : (d.trip false us).hsw.meets = { HswMeet.none with tick := d.hsw.meets.tick, slow := true } := by
    rw [Dev.trip_hsw hq, hq]; rfl
  have h4 : (d.trip false us).hswState ≠ 4 := by rcases Dev.trip_state_cases hq false us with h | h <;> rw [h] <;> decide
  have h5 : (d.trip false us).hswState ≠ 5 := by rcases Dev.trip_state_cases hq false us with h | h <;> rw [h] <;> decide
  rw [Dev.hswTick_eq, hmeets]
  simp [HswMeet.none, Dev.tickFeed_of_parked h4 h5]

theorem Dev.trip_tripsHsw : d.TripsHsw fast us (d.trip fast us) := by
  refine ⟨rfl, ?_, Dev.trip_timer hq fast us, ?_, fun _ => ⟨?_, ?_, ?_, Dev.trip_state hq fast us, ?_⟩⟩
  · rw [Dev.trip_get hq fast us (by decide) (by decide), Dev.tripOff_pgood]
  · rintro rfl
    rw [Dev.trip_get hq true us (by decide) (by decide), Dev.trip_get hq true us (by decide) (by decide)]
    exact d.tripOff_fast us
  · rw [Dev.trip_hsw hq]
  · rw [Dev.trip_get hq fast us (by decide) (by decide), Dev.tripOff_trips]
  · rw [Dev.trip_get hq fast us (by decide) (by decide), Dev.tripOff_wait, Dev.trip_hsw hq, Dev.tripOff_hsw]
  · rintro rfl
    rw [Dev.hswTick_of_slowTrip hq, Dev.tickEnd_get (by decide) (by decide), Dev.tickEnd_get (by decide) (by decide),
      Dev.countSlow_event, Dev.countSlow_count, Dev.trip_get hq false us (by decide) (by decide), Dev.tripOff_get _ _ _ (by decide) (by decide)]
    exact ⟨rfl, rfl⟩

end

theorem Dev.tripState_of_quiet (hq : d.quietTick) : d.tripState = d.hswState ∧ d.tripTimer = d.flag HSW_STAT_FT_RUN := by
  rw [Dev.tripState, Dev.tripTimer, hq]
  exact ⟨rfl, rfl⟩

theorem Dev.canTrip_of_quiet (hq : d.quietTick) : d.canTrip = true ↔ d.hswState = 4 ∨ d.hswState = 5 := by
  simp [Dev.canTrip, (Dev.tripState_of_quiet hq).1]

theorem Dev.driving_iff : d.driving = true ↔ d.hswState = 4 ∨ d.hswState = 5 := by simp [Dev.driving]

theorem fastTrip_of_quiet (hq : d.quietTick) (hd : d.hswState = 4 ∨ d.hswState = 5) {sense : Nat} (hs : d.aboveFast sense = true) (us : Nat) :
    fastTrip sense us d = d.trip true (if d.hswState = 5 ∧ d.get HSW_STAT_FT_RUN = 1 then d.timerTime us else d.driveTime us) := by
  obtain ⟨hst, htimer⟩ := Dev.tripState_of_quiet hq
  simp only [fastTrip, hs, (Dev.canTrip_of_quiet hq).mpr hd, hst, htimer, d.flag_eq_true (f := HSW_STAT_FT_RUN) rfl,
    Bool.not_true, Bool.false_eq_true, if_false, if_true]

end Sys2Proof.Machine
end

section
/-! PROOFS. A fast trip pulls the gate down. -/

namespace Sys2Proof.Proofs
open Sys2Proof Sys2Proof.Machine

/-- Settles O55: above FAST the controller trips, and `trip` has each of the effects; else nothing happens. -/
theorem fastTripPullsTheGateDown : Obligations.FastTripPullsTheGateDown := by
  intro s sense us hq hd
  refine .run rfl ?_
  by_cases hs : s.dev.aboveFast sense.toNat = true
  · rw [if_pos (of_decide_eq_true hs), fastTrip_of_quiet hq hd hs]
    obtain ⟨-, hpgood, htimer, hfast, -⟩ := Dev.trip_tripsHsw hq true
      (if s.dev.hswState = 5 ∧ s.dev.get HSW_STAT_FT_RUN = 1 then s.dev.timerTime us else s.dev.driveTime us)
    exact ⟨Dev.trip_state_cases hq true _, htimer, (hfast rfl).1, hpgood, (hfast rfl).2⟩
  · rw [if_neg fun h => hs (decide_eq_true h), fastTrip, if_pos (by simpa using hs)]

end Sys2Proof.Proofs
end

section
/-! PROOFS. The feed inputs, the seat pins and the choice of feed. -/

namespace Sys2Proof.Machine
variable {d e : Dev}

/-! ### Validity -/

theorem Dev.feedValid_setValid (d : Dev) (x : Nat) (b : Bool) : (d.setValid x b).feedValid x = b := by
  unfold Dev.setValid Dev.feedValid Dev.flag
  split <;> cases b <;> simp [HSW_STAT_A_VALID, HSW_STAT_B_VALID, b2n]

theorem Dev.feedValid_setValid_other (d : Dev) {x y : Nat} (b : Bool) (h : (x = 0) ≠ (y = 0)) : (d.setValid x b).feedValid y = d.feedValid y := by
  unfold Dev.setValid Dev.feedValid Dev.flag
  by_cases hx : x = 0
  · have hy : y ≠ 0 := fun hy => h (by simp [hx, hy])
    rw [if_pos hx, if_neg hy, Dev.get_setB_ne _ _ (by decide)]
  · have hy : y = 0 := by_contra fun hy => h (by simp [hx, hy])
    rw [if_neg hx, if_pos hy, Dev.get_setB_ne _ _ (by decide)]

theorem Dev.setValid_get (d : Dev) (x : Nat) (b : Bool) {f : Fld} (h : f.key ∉ [HSW_STAT_A_VALID.key, HSW_STAT_B_VALID.key]) :
    (d.setValid x b).get f = d.get f := by
  simp only [List.mem_cons, List.not_mem_nil, or_false, not_or] at h
  unfold Dev.setValid
  split
  · exact d.get_setB_ne b h.1
  · exact d.get_setB_ne b h.2

theorem Dev.setValid_only (d : Dev) (x : Nat) (b : Bool) : d.only [HSW_STAT_A_VALID.key, HSW_STAT_B_VALID.key] (d.setValid x b) :=
  ⟨rfl, fun _ h => d.setValid_get x b h⟩

theorem Dev.feed_lt (d : Dev) : d.feed < 2 := d.get_lt _

/-- A feed at `v` becomes valid: it is enabled, not locked out, and within UV and OV (R490). -/
def Dev.becomesValid (x v : Nat) (d : Dev) : Bool :=
  d.flag (if x = 0 then HSW_CTL_A_EN else HSW_CTL_B_EN) && !d.flag (feedLock x) && decide (d.feedUv x ≤ v ∧ v ≤ d.feedOvLimit x)

theorem feedValid_eq (x v : Nat) (d : Dev) : feedValid x v d = if d.becomesValid x v then d.setValid x true else d := rfl

theorem feedValid_valid (x v : Nat) (d : Dev) : (feedValid x v d).feedValid x = (d.feedValid x || d.becomesValid x v) := by
  rw [feedValid_eq]
  cases d.becomesValid x v
  · simp
  · simp [Dev.feedValid_setValid]

theorem feedValid_only (x v : Nat) (d : Dev) : d.only [HSW_STAT_A_VALID.key, HSW_STAT_B_VALID.key] (feedValid x v d) := by
  rw [feedValid_eq]
  exact .ite (d.setValid_only x true) (.refl d _)

theorem feedValid_other {x : Nat} (hx : x < 2) (v : Nat) (d : Dev) : (feedValid x v d).feedValid (1 - x) = d.feedValid (1 - x) := by
  rw [feedValid_eq]
  cases d.becomesValid x v
  · rfl
  · exact d.feedValid_setValid_other true (by simp only [ne_eq, eq_iff_iff]; omega)

/-! ### A feed lost -/

theorem Dev.LosesFeed.tickEnd (h : d.LosesFeed e) (h5 : e.hswState ≠ 5) : d.LosesFeed e.tickEnd := by
  unfold Dev.LosesFeed at h ⊢
  split at h
  · next hv =>
    rw [if_pos hv]
    simpa (disch := decide) only [Dev.hswState, Dev.feed, Dev.tickEnd_get] using h
  · next hv =>
    rw [if_neg hv, Dev.tickEnd_pgood h5]
    simpa (disch := decide) only [Dev.hswState, Dev.tickEnd_get] using h

theorem Dev.LosesFeed.congr {d₁ : Dev} (h : d₁.LosesFeed e) (hget : ∀ f : Fld, f.key ≠ HSW_STAT_STATE.key → d₁.get f = d.get f) :
    d.LosesFeed e := by
  have hfeed : d₁.feed = d.feed := hget _ (by decide)
  have hvalid : d₁.feedValid (1 - d.feed) = d.feedValid (1 - d.feed) := by
    unfold Dev.feedValid Dev.flag
    rw [hget]
    split <;> decide
  have hselect : d₁.selectState = d.selectState := Dev.selectState_congr (by simp (disch := decide) [hget])
  unfold Dev.LosesFeed at h ⊢
  rwa [hfeed, hvalid, hselect, hget HSW_SWITCHOVERS_COUNT (by decide)] at h

theorem Dev.feedGone_hsw (d : Dev) : ∃ k, d.feedGone.hsw = { d.hsw with keepUv := k } := by
  unfold Dev.feedGone
  split
  · exact ⟨_, Dev.hswRaise_hsw _ 5⟩
  · exact ⟨none, by rw [Dev.enterSelect_eq, Dev.gatesOff_hsw, Dev.pgoodFall_hsw]⟩

/-- The end of a tick in which the selected feed has become invalid while it is driven. -/
theorem Dev.hswTick_of_feedLost (hq : d.quietTick) (hd : d.driving = true) (hv : d.feedValid d.feed = false) :
    d.hswTick = d.feedGone.tickEnd := by
  rw [Dev.hswTick_eq, hq]
  simp [HswMeet.none, Dev.tickFeed, hd, hv]

theorem Dev.hswTick_losesFeed (hq : d.quietTick) (hd : d.hswState = 4 ∨ d.hswState = 5) (hv : d.feedValid d.feed = false) :
    d.LosesFeed d.hswTick := by
  rw [Dev.hswTick_of_feedLost hq (Dev.driving_iff.mpr hd) hv]
  exact d.feedGone_losesFeed.tickEnd d.feedGone_state.2

theorem Dev.setValid_hsw (d : Dev) (x : Nat) (b : Bool) : (d.setValid x b).hsw = d.hsw := rfl

theorem Dev.hswTick_of_invalid (hq : d.quietTick) {x : Nat} (hfeed : d.feed = x) (hd : d.hswState = 4 ∨ d.hswState = 5) :
    (d.setValid x false).LosesFeed (d.setValid x false).hswTick := by
  refine Dev.hswTick_losesFeed hq ?_ ?_
  · rwa [Dev.hswState, Dev.setValid_get _ _ _ (by decide)]
  · have hsame : (d.setValid x false).feed = x := (Dev.setValid_get _ _ _ (by decide)).trans hfeed
    rw [hsame, Dev.feedValid_setValid]

theorem feedInvalid_effect {x : Nat} (hx : x < 2) (v : Nat) (he : feedInvalid x v d = e) :
    if v + 25 < d.feedUv x ∨ d.feedOvLimit x < v then
      e.feedValid x = false ∧ d.only [HSW_STAT_A_VALID.key, HSW_STAT_B_VALID.key] e ∧ e.feedValid (1 - x) = d.feedValid (1 - x)
        ∧ (d.quietTick → d.feed = x → d.hswState = 4 ∨ d.hswState = 5 → e.LosesFeed e.hswTick)
    else e = d := by
  subst he
  unfold feedInvalid
  split
  · exact ⟨d.feedValid_setValid x false, d.setValid_only x false,
      d.feedValid_setValid_other false (by simp only [ne_eq, eq_iff_iff]; omega), fun hq => Dev.hswTick_of_invalid hq⟩
  · rfl

/-! ### Over-voltage -/

/-- The end of a tick in which the selected feed rose above OV. -/
theorem Dev.hswTick_of_high (hq : d.quietTick) (hd : d.hswState = 4 ∨ d.hswState = 5) :
    (d.meet (fun m => { m with high := true })).hswTick
      = ((d.meet (fun m => { m with high := true })).pgoodFall.enterSelect.hswRaise 9).tickEnd := by
  have hdriving : (d.meet (fun m => { m with high := true })).driving = true := Dev.driving_iff.mpr hd
  generalize hm : d.meet (fun m => { m with high := true }) = m at hdriving ⊢
  have hmeets : m.hsw.meets = { HswMeet.none with tick := d.hsw.meets.tick, high := true } := by rw [← hm, Dev.meet_hsw, hq]
  have hst : (m.pgoodFall.enterSelect.hswRaise 9).hswState = m.pgoodFall.selectState := by
    rw [Dev.hswState, Dev.hswRaise_get _ 9 (by decide) (by decide)]
    exact m.pgoodFall.enterSelect_state
  have h4 : (m.pgoodFall.enterSelect.hswRaise 9).hswState ≠ 4 := by
    rw [hst]; rcases m.pgoodFall.selectState_cases with h | h | h <;> rw [h] <;> decide
  have h5 : (m.pgoodFall.enterSelect.hswRaise 9).hswState ≠ 5 := by
    rw [hst]; rcases m.pgoodFall.selectState_cases with h | h | h <;> rw [h] <;> decide
  rw [Dev.hswTick_eq, hmeets]
  simp [HswMeet.none, hdriving, Dev.tickFeed_of_parked h4 h5]

theorem Dev.hswTick_high (hq : d.quietTick) (hd : d.hswState = 4 ∨ d.hswState = 5) {t : Dev}
    (ht : (d.meet (fun m => { m with high := true })).hswTick = t) :
    t.hswState = d.selectState ∧ t.get HSW_EVT_FEED_OV = 1 ∧ t.get HSW_STAT_PGOOD = 0 ∧ t.get HSW_HIST_TRIPS = d.get HSW_HIST_TRIPS := by
  rw [Dev.hswTick_of_high hq hd] at ht
  generalize hm : d.meet (fun m => { m with high := true }) = m at ht
  have hget (f : Fld) : m.get f = d.get f := by rw [← hm, Dev.meet_get]
  have hselect : m.selectState = d.selectState := by rw [← hm]; rfl
  have hst : (m.pgoodFall.enterSelect.hswRaise 9).hswState = d.selectState := by
    rw [Dev.hswState, Dev.hswRaise_get _ 9 (by decide) (by decide), ← hselect, ← m.pgoodFall_selectState]
    exact m.pgoodFall.enterSelect_state
  subst ht
  refine ⟨?_, ?_, ?_, ?_⟩
  · rw [Dev.hswState, Dev.tickEnd_get (by decide) (by decide)]
    exact hst
  · rw [Dev.tickEnd_get (by decide) (by decide)]
    exact Dev.hswRaise_self _ 9 (by decide)
  · rw [Dev.tickEnd_pgood (by rw [hst]; rcases d.selectState_cases with h | h | h <;> rw [h] <;> decide),
      Dev.hswRaise_get _ 9 (by decide) (by decide), Dev.enterSelect_get _ (by decide), Dev.pgoodFall_pgood]
  · rw [Dev.tickEnd_get (by decide) (by decide), Dev.hswRaise_get _ 9 (by decide) (by decide), Dev.enterSelect_get _ (by decide),
      Dev.pgoodFall_get _ (by decide) (by decide), hget]

theorem feedOv_effect (v : Nat) (he : feedOv v d = e) :
    if (d.hswState = 4 ∨ d.hswState = 5) ∧ d.feedOvLimit d.feed < v then
      e.hsw.meets = { d.hsw.meets with high := true } ∧ e = { d with hsw := e.hsw }
        ∧ (d.quietTick → e.hswTick.hswState = d.selectState ∧ e.hswTick.get HSW_EVT_FEED_OV = 1 ∧ e.hswTick.get HSW_STAT_PGOOD = 0
          ∧ e.hswTick.get HSW_HIST_TRIPS = d.get HSW_HIST_TRIPS)
    else e = d := by
  subst he
  simp only [feedOv, Bool.and_eq_true, Dev.driving_iff, decide_eq_true_iff]
  split
  · next h => exact ⟨rfl, rfl, fun hq => Dev.hswTick_high hq h.1 rfl⟩
  · rfl

/-! ### Changes of feed -/

theorem feedRevertTimer_of_revert (h : d.get HSW_CTL_REVERT = 1 ∧ d.feed ≠ d.get HSW_CTL_PREF_B ∧ d.feedValid (d.get HSW_CTL_PREF_B) = true
    ∧ (d.hswState = 4 ∨ d.hswState = 5)) : feedRevertTimer d = d.switchover := by
  obtain ⟨hrevert, hfeed, hvalid, hst⟩ := h
  exact if_pos (by simpa [d.flag_eq_true (f := HSW_CTL_REVERT) rfl, hrevert, hvalid, hst] using hfeed)

theorem feedRevertTimer_else (h : ¬(d.get HSW_CTL_REVERT = 1 ∧ d.feed ≠ d.get HSW_CTL_PREF_B ∧ d.feedValid (d.get HSW_CTL_PREF_B) = true
    ∧ (d.hswState = 4 ∨ d.hswState = 5))) : feedRevertTimer d = d :=
  if_neg (by simpa [d.flag_eq_true (f := HSW_CTL_REVERT) rfl, and_assoc] using h)

theorem other_feed (h : d.feed ≠ d.get HSW_CTL_PREF_B) : 1 - d.feed = d.get HSW_CTL_PREF_B := by
  have hp : d.get HSW_CTL_PREF_B < 2 := d.get_lt HSW_CTL_PREF_B
  have hf := d.feed_lt
  omega

theorem Dev.gateDrive_hsw (us : Nat) (d : Dev) :
    (d.gateDrive us).hsw = { d.hsw with ramped := false, gateOn := false, driven := 0, driveAt := us } := rfl

theorem Dev.gateDrive_get (us : Nat) (d : Dev) (f : Fld) : (d.gateDrive us).get f = d.get f := rfl

theorem switchDeadTimeEnd_eq (us : Nat) (h : d.hswState = 6) : switchDeadTimeEnd us d =
    if d.feedValid d.feed then (d.set HSW_STAT_STATE 4).gateDrive us else ((d.set HSW_STAT_STATE 4).gateDrive us).feedGone := by
  have hget (f : Fld) (hf : f.key ≠ HSW_STAT_STATE.key) : ((d.set HSW_STAT_STATE 4).gateDrive us).get f = d.get f := d.get_set_ne 4 hf
  have hfeed : ((d.set HSW_STAT_STATE 4).gateDrive us).feed = d.feed := hget _ (by decide)
  have hvalid : ((d.set HSW_STAT_STATE 4).gateDrive us).feedValid d.feed = d.feedValid d.feed := by
    unfold Dev.feedValid Dev.flag
    rw [hget]
    split <;> decide
  simp only [switchDeadTimeEnd, if_pos h, hfeed, hvalid]

theorem switchDeadTimeEnd_ramps (us : Nat) (h : d.hswState = 6) (he : switchDeadTimeEnd us d = e) :
    e.hsw.ramped = false ∧ e.hsw.gateOn = false ∧ e.hsw.driven = 0 ∧ e.hsw.driveAt = us
      ∧ (if d.feedValid d.feed then e.hswState = 4 ∧ d.onlyHsw [HSW_STAT_STATE.key] e else d.LosesFeed e) := by
  have hget (f : Fld) (hf : f.key ≠ HSW_STAT_STATE.key) : ((d.set HSW_STAT_STATE 4).gateDrive us).get f = d.get f := d.get_set_ne 4 hf
  rw [switchDeadTimeEnd_eq us h] at he
  split at he <;> subst he
  · next hv =>
    rw [if_pos hv]
    exact ⟨rfl, rfl, rfl, rfl, d.get_set_same HSW_STAT_STATE 4, (Dev.onlyHsw.refl.set (by decide) 4).modHsw _⟩
  · next hv =>
    rw [if_neg hv]
    obtain ⟨k, hk⟩ := ((d.set HSW_STAT_STATE 4).gateDrive us).feedGone_hsw
    rw [hk]
    exact ⟨rfl, rfl, rfl, rfl, (Dev.feedGone_losesFeed _).congr hget⟩

theorem Dev.owedStart_counts (c : Dev) {a : Dev} (ho : a = if c.hsw.owed then (c.modHsw (fun h => { h with owed := false })).countRetry else c) :
    a.hsw = { c.hsw with owed := false } ∧ a.hswState = c.hswState ∧ a.feed = c.feed
      ∧ (if c.hsw.owed then a.get HSW_EVT_RETRY = 1 ∧ a.get HSW_RETRIES_COUNT = (c.get HSW_RETRIES_COUNT + 1) % 2 ^ 32
          ∧ a.get HSW_HIST_RETRIES = min 255 (c.get HSW_HIST_RETRIES + 1)
        else a.get HSW_RETRIES_COUNT = c.get HSW_RETRIES_COUNT) := by
  by_cases howed : c.hsw.owed = true
  · rw [if_pos howed] at ho
    rw [if_pos howed, ho]
    refine ⟨?_, ?_, ?_, Dev.countRetry_counts _⟩
    · rw [Dev.countRetry_hsw, Dev.modHsw_hsw]
    · exact Dev.countRetry_get _ (by decide) (by decide)
    · exact Dev.countRetry_get _ (by decide) (by decide)
  · rw [if_neg howed] at ho
    rw [if_neg howed, ho]
    exact ⟨by rw [← Bool.not_eq_true _ |>.mp howed], rfl, rfl, rfl⟩

/-- The feed that SELECT starts: the preferred one where it is valid (R491). -/
def Dev.chosenFeed (d : Dev) : Nat := if d.feedValid (d.get HSW_CTL_PREF_B) then d.get HSW_CTL_PREF_B else 1 - d.get HSW_CTL_PREF_B

theorem Dev.chosenFeed_lt (d : Dev) : d.chosenFeed < 2 := by
  have hp : d.get HSW_CTL_PREF_B < 2 := d.get_lt HSW_CTL_PREF_B
  unfold Dev.chosenFeed
  split <;> omega

theorem Dev.chosenFeed_valid (d : Dev) : d.feedValid d.chosenFeed = true ↔ d.feedValid 0 = true ∨ d.feedValid 1 = true := by
  have hp : d.get HSW_CTL_PREF_B < 2 := d.get_lt HSW_CTL_PREF_B
  have h01 : d.get HSW_CTL_PREF_B = 0 ∨ d.get HSW_CTL_PREF_B = 1 := by omega
  unfold Dev.chosenFeed
  rcases h01 with h | h <;> rw [h] <;> split <;> simp_all

theorem selectStart_eq (us : Nat) (d : Dev) : selectStart us d =
    if d.hswState = 3 ∧ d.hsw.offLeft = 0 ∧ (d.feedValid 0 = true ∨ d.feedValid 1 = true) then
      let c := ((d.gatesOff 4).set HSW_STAT_FEED d.chosenFeed).gateDrive us
      if c.hsw.owed then (c.modHsw (fun h => { h with owed := false })).countRetry else c
    else d := by
  simp only [← Dev.chosenFeed_valid]
  rfl

theorem selectStart_drives (us : Nat) (h : d.hswState = 3 ∧ d.hsw.offLeft = 0 ∧ (d.feedValid 0 = true ∨ d.feedValid 1 = true))
    (he : selectStart us d = e) :
    e.hswState = 4 ∧ e.feed = d.chosenFeed ∧ e.hsw.owed = false ∧ e.hsw.ramped = false ∧ e.hsw.gateOn = false ∧ e.hsw.driven = 0
      ∧ e.hsw.driveAt = us
      ∧ (if d.hsw.owed then e.get HSW_EVT_RETRY = 1 ∧ e.get HSW_RETRIES_COUNT = (d.get HSW_RETRIES_COUNT + 1) % 2 ^ 32
          ∧ e.get HSW_HIST_RETRIES = min 255 (d.get HSW_HIST_RETRIES + 1)
        else e.get HSW_RETRIES_COUNT = d.get HSW_RETRIES_COUNT) := by
  rw [selectStart_eq, if_pos h] at he
  generalize hc : ((d.gatesOff 4).set HSW_STAT_FEED d.chosenFeed).gateDrive us = c at he
  have hget {f : Fld} (hf : f.key ∉ [HSW_STAT_FEED.key, HSW_STAT_STATE.key, HSW_STAT_FT_RUN.key]) : c.get f = d.get f := by
    rw [List.mem_cons, not_or] at hf
    rw [← hc, Dev.gateDrive_get, Dev.get_set_ne _ _ hf.1, Dev.gatesOff_get _ _ hf.2]
  obtain ⟨hhsw, hst, hfeed, hcounts⟩ := Dev.owedStart_counts c he.symm
  have hcst : c.hswState = 4 := by
    rw [← hc, Dev.hswState, Dev.gateDrive_get, Dev.get_set_ne _ _ (by decide), Dev.gatesOff_state _ 4 (by decide)]
  have hcfeed : c.feed = d.chosenFeed := by
    rw [← hc, Dev.feed, Dev.gateDrive_get, Dev.get_set_same]
    exact Nat.mod_eq_of_lt d.chosenFeed_lt
  have hchsw : c.hsw = { d.hsw with keepUv := none, ramped := false, gateOn := false, driven := 0, driveAt := us } := by rw [← hc]; rfl
  rw [hget (f := HSW_RETRIES_COUNT) (by decide), hget (f := HSW_HIST_RETRIES) (by decide), hchsw] at hcounts
  rw [hhsw, hst, hfeed, hcst, hcfeed, hchsw]
  exact ⟨rfl, rfl, rfl, rfl, rfl, rfl, rfl, hcounts⟩

/-! ### Seats -/

theorem seatAssert_seats (he : seatAssert d = e) : e.get HSW_STAT_SEAT0 = 1 ∧ e.get HSW_STAT_SEAT1 = 1
    ∧ e.hswState = (if d.hswState = 1 then 2 else d.hswState)
    ∧ d.only [HSW_STAT_SEAT0.key, HSW_STAT_SEAT1.key, HSW_STAT_STATE.key] e := by
  have hst : ((d.set HSW_STAT_SEAT0 1).set HSW_STAT_SEAT1 1).hswState = d.hswState :=
    (Dev.get_set_ne _ _ (by decide)).trans (Dev.get_set_ne _ _ (by decide))
  have honly : d.only [HSW_STAT_SEAT0.key, HSW_STAT_SEAT1.key, HSW_STAT_STATE.key] ((d.set HSW_STAT_SEAT0 1).set HSW_STAT_SEAT1 1) :=
    ((Dev.only.refl d _).set (by decide) 1).set (by decide) 1
  have h0 : ((d.set HSW_STAT_SEAT0 1).set HSW_STAT_SEAT1 1).get HSW_STAT_SEAT0 = 1 :=
    (Dev.get_set_ne _ _ (by decide)).trans (Dev.get_set_same _ _ _)
  have h1 : ((d.set HSW_STAT_SEAT0 1).set HSW_STAT_SEAT1 1).get HSW_STAT_SEAT1 = 1 := Dev.get_set_same _ _ _
  simp only [seatAssert, hst] at he
  split at he <;> subst he
  · next h =>
    rw [if_pos h]
    exact ⟨(Dev.get_set_ne _ _ (by decide)).trans h0, (Dev.get_set_ne _ _ (by decide)).trans h1, Dev.get_set_same _ _ _, honly.set (by decide) 2⟩
  · next h =>
    rw [if_neg h]
    exact ⟨h0, h1, hst, honly⟩

theorem Dev.enterSelect_onlyHsw {l : List Nat} (h : d.onlyHsw l e) (hst : HSW_STAT_STATE.key ∈ l) (hft : HSW_STAT_FT_RUN.key ∈ l) :
    d.onlyHsw l e.enterSelect := by
  rw [Dev.enterSelect_eq]
  exact h.gatesOff hst hft _

theorem Dev.enterSelect_timer (d : Dev) : d.enterSelect.get HSW_STAT_FT_RUN = 0 := by rw [Dev.enterSelect_eq, Dev.gatesOff_timer]

theorem Dev.enterSelect_hsw (d : Dev) : d.enterSelect.hsw = { d.hsw with keepUv := none } := by rw [Dev.enterSelect_eq, Dev.gatesOff_hsw]

theorem Dev.seats_iff (d : Dev) : d.flag HSW_STAT_SEAT0 = true ∧ d.flag HSW_STAT_SEAT1 = true
    ↔ d.get HSW_STAT_SEAT0 = 1 ∧ d.get HSW_STAT_SEAT1 = 1 := by
  rw [d.flag_eq_true (f := HSW_STAT_SEAT0) rfl, d.flag_eq_true (f := HSW_STAT_SEAT1) rfl]

theorem seatDebounceDone_eq (d : Dev) : seatDebounceDone d =
    if d.hswState = 2 then (d.modHsw (fun h => { h with loose := false })).enterSelect
    else if d.hswState = 8 ∧ d.get HSW_STAT_SEAT0 = 1 ∧ d.get HSW_STAT_SEAT1 = 1 then d.modHsw (fun h => { h with loose := false })
    else d := by
  simp only [← Dev.seats_iff]
  rfl

/-- What a lost seat does in a state: nothing in OFF and UNSEATED, the new count owed in LATCHED, else the gate goes off (R492, R505). -/
def Dev.unseat (st : Nat) (ft : Bool) (d : Dev) : Dev :=
  if st = 0 ∨ st = 1 then d
  else if st = 8 then d.modHsw (fun h => { h with loose := true })
  else (d.pgoodFall.gatesOff 1).meet (fun m => { m with lost := some (st, ft), ended := false })

theorem Dev.unseat_get (st : Nat) (ft : Bool) {f : Fld} (h : f.key ∉ [HSW_STAT_PGOOD.key, TRK_BYP_CTL_STATE.key, HSW_EVT_PGOOD_FALL.key,
    HSW_STAT_STATE.key, HSW_STAT_FT_RUN.key]) (hlow : f.key < 8 * 0x10900400) : (d.unseat st ft).get f = d.get f := by
  simp only [List.mem_cons, List.not_mem_nil, or_false, not_or] at h
  obtain ⟨hpg, hbyp, hfall, hst, hft⟩ := h
  unfold Dev.unseat
  split
  · rfl
  · split
    · rfl
    · rw [Dev.meet_get, Dev.gatesOff_get _ _ (by simp [hst, hft]), Dev.pgoodFall_get _ (by simp [hpg, hbyp, hfall]) hlow]

theorem Dev.unseat_state (ft : Bool) (d : Dev) :
    (d.unseat d.hswState ft).hswState = if d.hswState = 0 ∨ d.hswState = 8 then d.hswState else 1 := by
  unfold Dev.unseat
  split
  · next h => rcases h with h | h <;> simp [h]
  · next h =>
    rw [not_or] at h
    split
    · next h8 =>
      rw [if_pos (.inr h8)]
      rfl
    · next h8 =>
      rw [if_neg (by simp [h.1, h8])]
      exact Dev.gatesOff_state _ 1 (by decide)

theorem Dev.unseat_stops {st : Nat} (h1 : 1 < st) (h8 : st ≠ 8) (ft : Bool) (d : Dev) :
    (d.unseat st ft).get HSW_STAT_PGOOD = 0 ∧ (d.unseat st ft).get HSW_STAT_FT_RUN = 0 := by
  rw [Dev.unseat, if_neg (by omega), if_neg h8, Dev.meet_get, Dev.meet_get, Dev.gatesOff_timer, Dev.gatesOff_get _ _ (by decide),
    Dev.pgoodFall_pgood]
  exact ⟨rfl, rfl⟩

theorem Dev.unseat_owed (st : Nat) (ft : Bool) (d : Dev) : (d.unseat st ft).hsw.owed = d.hsw.owed := by
  unfold Dev.unseat
  split
  · rfl
  · split
    · rfl
    · rw [Dev.meet_hsw, Dev.gatesOff_hsw, Dev.pgoodFall_hsw]

theorem Dev.unseat_loose (ft : Bool) (d : Dev) : (d.unseat 8 ft).hsw.loose = true := rfl

/-- Both seats were asserted before one was lost. -/
theorem seatLost_of_seated (pin : Nat) (h : d.get HSW_STAT_SEAT0 = 1 ∧ d.get HSW_STAT_SEAT1 = 1) :
    ∃ f : Fld, f = (if pin = 0 then HSW_STAT_SEAT0 else HSW_STAT_SEAT1) ∧ seatLost pin d =
      ((((d.set f 0).unseat d.hswState (d.flag HSW_STAT_FT_RUN)).modHsw (fun h => { h with owed := h.owed || decide (d.hswState ≠ 2) })).inc
        HSW_SEATLOSS_COUNT).hswRaise 8 := by
  refine ⟨_, rfl, ?_⟩
  have hseat (f : Fld) (hf : f = HSW_STAT_STATE ∨ f = HSW_STAT_FT_RUN) :
      (d.set (if pin = 0 then HSW_STAT_SEAT0 else HSW_STAT_SEAT1) 0).get f = d.get f :=
    Dev.get_set_ne _ _ (by rcases hf with rfl | rfl <;> split <;> decide)
  have hst : (d.set (if pin = 0 then HSW_STAT_SEAT0 else HSW_STAT_SEAT1) 0).hswState = d.hswState := hseat _ (.inl rfl)
  have hft : (d.set (if pin = 0 then HSW_STAT_SEAT0 else HSW_STAT_SEAT1) 0).flag HSW_STAT_FT_RUN = d.flag HSW_STAT_FT_RUN := by
    rw [Dev.flag, hseat _ (.inr rfl), Dev.flag]
  obtain ⟨h0, h1⟩ := d.seats_iff.mpr h
  simp only [seatLost, h0, h1, hst, hft, Dev.unseat, Bool.and_self, Bool.not_true, Bool.false_eq_true, if_false]

theorem seatLost_unseats {pin : Nat} (h : d.get HSW_STAT_SEAT0 = 1 ∧ d.get HSW_STAT_SEAT1 = 1) (he : seatLost pin d = e) :
    e.get (if pin = 0 then HSW_STAT_SEAT0 else HSW_STAT_SEAT1) = 0
      ∧ e.get HSW_EVT_SEAT_LOST = 1 ∧ e.get HSW_SEATLOSS_COUNT = (d.get HSW_SEATLOSS_COUNT + 1) % 2 ^ 32
      ∧ e.hswState = (if d.hswState = 0 ∨ d.hswState = 8 then d.hswState else 1)
      ∧ (d.hswState = 8 → e.hsw.loose = true) ∧ e.hsw.owed = (d.hsw.owed || d.hswState != 2)
      ∧ (1 < d.hswState → d.hswState ≠ 8 → e.get HSW_STAT_PGOOD = 0 ∧ e.get HSW_STAT_FT_RUN = 0)
      ∧ e.get HSW_HIST_TRIPS = d.get HSW_HIST_TRIPS ∧ e.get HSW_HIST_RETRIES = d.get HSW_HIST_RETRIES := by
  obtain ⟨f, hf, heq⟩ := seatLost_of_seated pin h
  have hkey : f = HSW_STAT_SEAT0 ∨ f = HSW_STAT_SEAT1 := by
    rw [hf]
    split
    · exact .inl rfl
    · exact .inr rfl
  have hne {g : Fld} (hg : g.key ∉ [HSW_STAT_SEAT0.key, HSW_STAT_SEAT1.key]) : (d.set f 0).get g = d.get g := by
    simp only [List.mem_cons, List.not_mem_nil, or_false, not_or] at hg
    rcases hkey with rfl | rfl
    · exact Dev.get_set_ne _ _ hg.1
    · exact Dev.get_set_ne _ _ hg.2
  have hst : (d.set f 0).hswState = d.hswState := hne (by decide)
  have hstate := (d.set f 0).unseat_state (d.flag HSW_STAT_FT_RUN)
  have hget {g : Fld} (hg : g.key ∉ [HSW_SEATLOSS_COUNT.key, HSW_EVT_SEAT_LOST.key]) (hlow : g.key < 8 * 0x10900400) :
      e.get g = ((d.set f 0).unseat d.hswState (d.flag HSW_STAT_FT_RUN)).get g := by
    simp only [List.mem_cons, List.not_mem_nil, or_false, not_or] at hg
    rw [← he, heq, Dev.hswRaise_get _ 8 hg.2 hlow, Dev.get_inc_ne _ hg.1, Dev.modHsw_get]
  have hhsw : e.hsw = { ((d.set f 0).unseat d.hswState (d.flag HSW_STAT_FT_RUN)).hsw with
      owed := ((d.set f 0).unseat d.hswState (d.flag HSW_STAT_FT_RUN)).hsw.owed || decide (d.hswState ≠ 2) } := by
    rw [← he, heq, Dev.hswRaise_hsw, Dev.inc_hsw, Dev.modHsw_hsw]
  rw [hst] at hstate
  rw [← hf]
  refine ⟨?_, ?_, ?_, ?_, fun h8 => ?_, ?_, fun h1 h8 => ?_, ?_, ?_⟩
  · rcases hkey with rfl | rfl <;>
      rw [hget (by decide) (by decide), Dev.unseat_get _ _ (by decide) (by decide), Dev.get_set_same] <;> rfl
  · rw [← he, heq]
    exact Dev.hswRaise_self _ 8 (by decide)
  · rw [← he, heq, Dev.hswRaise_get _ 8 (by decide) (by decide), Dev.get_inc_same, Dev.modHsw_get, Dev.unseat_get _ _ (by decide) (by decide),
      hne (by decide)]
    rfl
  · rw [← hstate]
    exact hget (by decide) (by decide)
  · rw [hhsw, h8, Dev.unseat_loose]
  · rw [hhsw, Dev.unseat_owed, Dev.set_hsw]
    by_cases h2 : d.hswState = 2 <;> simp [h2]
  · rw [hget (by decide) (by decide), hget (by decide) (by decide)]
    exact Dev.unseat_stops h1 h8 _ _
  · rw [hget (by decide) (by decide), Dev.unseat_get _ _ (by decide) (by decide), hne (by decide)]
  · rw [hget (by decide) (by decide), Dev.unseat_get _ _ (by decide) (by decide), hne (by decide)]

theorem seatLost_of_unseated {pin : Nat} (h : d.get HSW_STAT_SEAT0 = 0 ∨ d.get HSW_STAT_SEAT1 = 0) :
    seatLost pin d = d.set (if pin = 0 then HSW_STAT_SEAT0 else HSW_STAT_SEAT1) 0 := by
  have hhad : (d.flag HSW_STAT_SEAT0 && d.flag HSW_STAT_SEAT1) = false := by
    rcases h with h | h <;> simp [Dev.flag, h]
  simp only [seatLost, hhad, Bool.not_false, if_true]

theorem seatLost_effect {pin : Nat} (he : seatLost pin d = e) :
    e.get (if pin = 0 then HSW_STAT_SEAT0 else HSW_STAT_SEAT1) = 0
      ∧ (if d.get HSW_STAT_SEAT0 = 0 ∨ d.get HSW_STAT_SEAT1 = 0 then d.only [(if pin = 0 then HSW_STAT_SEAT0 else HSW_STAT_SEAT1).key] e
        else e.get HSW_EVT_SEAT_LOST = 1 ∧ e.get HSW_SEATLOSS_COUNT = (d.get HSW_SEATLOSS_COUNT + 1) % 2 ^ 32
          ∧ e.hswState = (if d.hswState = 0 ∨ d.hswState = 8 then d.hswState else 1)
          ∧ (d.hswState = 8 → e.hsw.loose = true) ∧ e.hsw.owed = (d.hsw.owed || d.hswState != 2)
          ∧ (1 < d.hswState → d.hswState ≠ 8 → e.get HSW_STAT_PGOOD = 0 ∧ e.get HSW_STAT_FT_RUN = 0)
          ∧ e.get HSW_HIST_TRIPS = d.get HSW_HIST_TRIPS ∧ e.get HSW_HIST_RETRIES = d.get HSW_HIST_RETRIES) := by
  by_cases h : d.get HSW_STAT_SEAT0 = 0 ∨ d.get HSW_STAT_SEAT1 = 0
  · rw [seatLost_of_unseated h] at he
    rw [if_pos h, ← he, Dev.get_set_same, Nat.zero_mod]
    exact ⟨rfl, (Dev.only.refl d _).set (List.mem_singleton_self _) 0⟩
  · rw [if_neg h]
    have h0 : d.get HSW_STAT_SEAT0 < 2 := d.get_lt HSW_STAT_SEAT0
    have h1 : d.get HSW_STAT_SEAT1 < 2 := d.get_lt HSW_STAT_SEAT1
    exact seatLost_unseats (by omega) he

/-! ### EN -/

theorem hswEnable_enables (he : hswEnable d = e) : e.get HSW_CTL_EN = 1
    ∧ e.hswState = (if d.hswState = 0 then (if d.get HSW_STAT_SEAT0 = 1 ∧ d.get HSW_STAT_SEAT1 = 1 then 2 else 1) else d.hswState)
    ∧ d.only [HSW_CTL_EN.key, HSW_STAT_STATE.key] e := by
  have hen : (d.set HSW_CTL_EN 1).get HSW_CTL_EN = 1 := Dev.get_set_same _ _ _
  have hst : (d.set HSW_CTL_EN 1).hswState = d.hswState := Dev.get_set_ne _ _ (by decide)
  have hseats : ((d.set HSW_CTL_EN 1).flag HSW_STAT_SEAT0 && (d.set HSW_CTL_EN 1).flag HSW_STAT_SEAT1) = true
      ↔ d.get HSW_STAT_SEAT0 = 1 ∧ d.get HSW_STAT_SEAT1 = 1 := by
    rw [Bool.and_eq_true, Dev.seats_iff, Dev.get_set_ne _ _ (by decide), Dev.get_set_ne _ _ (by decide)]
  simp only [hswEnable, hst, hseats] at he
  split at he <;> subst he
  · next h =>
    rw [if_pos h]
    refine ⟨(Dev.get_set_ne _ _ (by decide)).trans hen, ?_, ((Dev.only.refl d _).set (by decide) 1).set (by decide) _⟩
    rw [Dev.hswState, Dev.get_set_same]
    split <;> rfl
  · next h =>
    rw [if_neg h]
    exact ⟨hen, hst, (Dev.only.refl d _).set (by decide) 1⟩

theorem hswDisable_get {f : Fld} (h : f.key ∉ [HSW_STAT_PGOOD.key, TRK_BYP_CTL_STATE.key, HSW_EVT_PGOOD_FALL.key, HSW_STAT_STATE.key,
    HSW_STAT_FT_RUN.key]) (hlow : f.key < 8 * 0x10900400) : (hswDisable d).get f = (d.set HSW_CTL_EN 0).get f := by
  simp only [List.mem_cons, List.not_mem_nil, or_false, not_or] at h
  obtain ⟨hpg, hbyp, hfall, hst, hft⟩ := h
  rw [hswDisable, Dev.gatesOff_get _ _ (by simp [hst, hft]), Dev.pgoodFall_get _ (by simp [hpg, hbyp, hfall]) hlow]

end Sys2Proof.Machine

namespace Sys2Proof.Proofs
open Sys2Proof Sys2Proof.Machine

/-- Settles O42, command by command: each function of the controller in the cases that the statement names. -/
theorem feedSelectionAndSeatComplete : Obligations.FeedSelectionAndSeatComplete := by
  intro s
  refine ⟨fun x v => .run rfl ⟨?_, feedValid_only _ _ _, feedValid_other x.isLt _ _⟩, fun x v => .run rfl ?_, fun v => .run rfl ?_,
    .run rfl ?_, fun us => .run rfl ?_, .run rfl (seatAssert_seats rfl), .run rfl ?_, fun pin => .run rfl ?_, fun us => .run rfl ?_,
    .run rfl (hswEnable_enables rfl), .run rfl ?_⟩
  case refine_1 => match x with
    | 0 => exact feedValid_valid 0 _ _
    | 1 => exact feedValid_valid 1 _ _
  case refine_2 => match x with
    | 0 => exact feedInvalid_effect (x := 0) (by decide) _ rfl
    | 1 => exact feedInvalid_effect (x := 1) (by decide) _ rfl
  case refine_3 => exact feedOv_effect _ rfl
  case refine_4 =>
    split
    · next h =>
      rw [feedRevertTimer_of_revert h]
      exact ⟨Dev.switchover_state _, (Dev.switchover_feed _).trans (other_feed h.2.1), Dev.switchover_event _, Dev.switchover_count _,
        Dev.switchover_timer _, Dev.switchover_get _ (by decide) (by decide)⟩
    · next h => exact feedRevertTimer_else h
  case refine_5 =>
    split
    · next h => exact if_neg h
    · next h => exact switchDeadTimeEnd_ramps us (by_contra h) rfl
  case refine_6 =>
    rw [seatDebounceDone_eq]
    split
    · exact ⟨Dev.enterSelect_state _, Dev.enterSelect_timer _, Dev.enterSelect_hsw _,
        Dev.enterSelect_onlyHsw (.modHsw .refl _) (by decide) (by decide)⟩
    · split <;> rfl
  case refine_7 => match pin with
    | 0 => exact seatLost_effect rfl
    | 1 => exact seatLost_effect rfl
  case refine_8 =>
    split
    · next h => exact selectStart_drives us h rfl
    · next h => exact (selectStart_eq us s.dev).trans (if_neg h)
  case refine_9 =>
    refine ⟨(hswDisable_get (by decide) (by decide)).trans (Dev.get_set_same _ _ _), Dev.gatesOff_state _ 0 (by decide), ?_, ?_, ?_⟩
    · exact (Dev.gatesOff_get _ _ (by decide)).trans (Dev.pgoodFall_pgood _)
    all_goals
      unfold Dev.feedValid Dev.flag
      rw [hswDisable_get (by decide) (by decide), Dev.get_set_ne _ _ (by decide)]

end Sys2Proof.Proofs
end

section
/-! PROOFS. Ramps, trips, retries, commands and meters of the feed controller. -/

namespace Sys2Proof.Machine
variable {d e : Dev}

/-! ### ON -/

theorem Dev.enterOn_hsw (d : Dev) : ∃ k, d.enterOn.hsw = { d.hsw with keepUv := k } := by
  unfold Dev.enterOn
  split
  · exact ⟨none, rfl⟩
  · exact ⟨_, rfl⟩

theorem Dev.enterOn_onlyHsw (h : d.onlyHsw [HSW_STAT_STATE.key] e) : d.onlyHsw [HSW_STAT_STATE.key] e.enterOn := by
  unfold Dev.enterOn
  split
  · exact (h.set (by decide) 5).modHsw _
  · exact h

theorem Dev.enterOn_state (h : d.hswState = 4) : d.enterOn.hswState = if d.hsw.ramped = true ∧ d.hsw.gateOn = true then 5 else 4 := by
  simp only [Dev.enterOn, h, true_and]
  split
  · exact d.get_set_same HSW_STAT_STATE 5
  · exact h

theorem rampComplete_effect {vin vout : Nat} (he : rampComplete vin vout d = e) :
    if d.hswState = 4 ∧ vin ≤ vout + 50 then e.hsw.ramped = true ∧ e.hsw.gateOn = d.hsw.gateOn
      ∧ e.hswState = (if d.hsw.gateOn then 5 else 4) ∧ d.onlyHsw [HSW_STAT_STATE.key] e
    else e = d := by
  subst he
  unfold rampComplete
  split
  · next h =>
    obtain ⟨k, hk⟩ := (d.modHsw (fun h => { h with ramped := true })).enterOn_hsw
    rw [hk]
    exact ⟨rfl, rfl, (Dev.enterOn_state (d := d.modHsw _) h.1).trans (by simp), Dev.enterOn_onlyHsw (.modHsw .refl _)⟩
  · rfl

/-- The gate of a ramp has reached its on-threshold. -/
def Dev.gateReached (d : Dev) : Dev := if d.hswState = 4 then (d.modHsw (fun h => { h with gateOn := true })).enterOn else d

theorem Dev.gateReached_effect (he : d.gateReached = e) :
    if d.hswState = 4 then e.hsw.gateOn = true ∧ e.hsw.ramped = d.hsw.ramped ∧ e.hswState = (if d.hsw.ramped then 5 else 4)
      ∧ d.onlyHsw [HSW_STAT_STATE.key] e
    else e = d := by
  subst he
  unfold Dev.gateReached
  split
  · next h =>
    obtain ⟨k, hk⟩ := (d.modHsw (fun h => { h with gateOn := true })).enterOn_hsw
    rw [hk]
    exact ⟨rfl, rfl, (Dev.enterOn_state (d := d.modHsw _) h).trans (by simp), Dev.enterOn_onlyHsw (.modHsw .refl _)⟩
  · rfl

/-! ### Trips -/

theorem rampTimeout_effect {us : Nat} (he : rampTimeout us d = e) :
    if d.quietTick ∧ d.hswState = 4 ∧ d.hsw.ramped = false ∧ 400 * d.vinNow + 5000 * d.slew ≤ d.slew * d.driveTime us then
      d.TripsHsw false (d.driveTime us) e
    else d.quietTick → e = d := by
  have hif (hq : d.quietTick) : rampTimeout us d = if d.hswState = 4 ∧ d.hsw.ramped = false ∧ 400 * d.vinNow + 5000 * d.slew ≤ d.slew * d.driveTime us
      then d.trip false (d.driveTime us) else d := by
    simp only [rampTimeout, (Dev.tripState_of_quiet hq).1, Dev.rampLimitPassed, Bool.not_eq_true', decide_eq_true_iff]
  subst he
  split
  · next h =>
    rw [hif h.1, if_pos h.2]
    exact Dev.trip_tripsHsw h.1 _ _
  · next h =>
    intro hq
    rw [hif hq, if_neg fun hc => h ⟨hq, hc⟩]

theorem slowTrip_effect {us : Nat} (he : slowTrip us d = e) :
    if d.quietTick ∧ d.get HSW_STAT_FT_RUN = 1 ∧ (d.hswState = 4 ∨ d.hswState = 5) then
      d.TripsHsw false (max (100 * d.hsw.faultTo) (if d.hswState = 4 then d.driveTime us else 0)) e
    else d.quietTick → e = d := by
  have hif (hq : d.quietTick) : slowTrip us d = if d.get HSW_STAT_FT_RUN = 1 ∧ (d.hswState = 4 ∨ d.hswState = 5)
      then d.trip false (max (100 * d.hsw.faultTo) (if d.hswState = 4 then d.driveTime us else 0)) else d := by
    obtain ⟨hst, htimer⟩ := Dev.tripState_of_quiet hq
    simp only [slowTrip, Bool.and_eq_true, Dev.canTrip_of_quiet hq, hst, htimer, d.flag_eq_true (f := HSW_STAT_FT_RUN) rfl]
  subst he
  split
  · next h =>
    rw [hif h.1, if_pos h.2]
    exact Dev.trip_tripsHsw h.1 _ _
  · next h =>
    intro hq
    rw [hif hq, if_neg fun hc => h ⟨hq, hc⟩]

theorem fastTrip_of_below {sense : Nat} (h : d.aboveFast sense = false) (us : Nat) : fastTrip sense us d = d := by
  simp [fastTrip, h]

theorem fastTrip_of_joins {sense : Nat} (hs : d.aboveFast sense = true) (us : Nat) (hlost : d.hsw.meets.lost = none) (h4 : d.hswState ≠ 4)
    (h5 : d.hswState ≠ 5) : fastTrip sense us d = if d.hsw.meets.slow then d.countFast else d := by
  simp [fastTrip, hs, Dev.canTrip, Dev.tripState, hlost, h4, h5]

theorem fastTrip_effect {sense us : Nat} (he : fastTrip sense us d = e) :
    if sense ≤ max (4 * d.get HSW_ILIM_FAST) (5 * d.get HSW_ILIM_SLOW) then e = d
    else if d.quietTick ∧ (d.hswState = 4 ∨ d.hswState = 5) then
      d.TripsHsw true (if d.hswState = 5 ∧ d.get HSW_STAT_FT_RUN = 1 then d.timerTime us else d.driveTime us) e
    else (d.hsw.meets.lost = none → d.hswState ≠ 4 → d.hswState ≠ 5 →
      if d.hsw.meets.slow then e.get HSW_FAST_TRIPS_COUNT = (d.get HSW_FAST_TRIPS_COUNT + 1) % 2 ^ 32 ∧ e.get HSW_EVT_FAST_TRIP = 1
        ∧ e.hsw.meets.slow = false ∧ e.hswState = d.hswState ∧ e.get HSW_HIST_TRIPS = d.get HSW_HIST_TRIPS
      else e = d) := by
  subst he
  by_cases hs : sense ≤ max (4 * d.get HSW_ILIM_FAST) (5 * d.get HSW_ILIM_SLOW)
  · rw [if_pos hs]
    exact fastTrip_of_below (decide_eq_false (Nat.not_lt.mpr hs)) us
  rw [if_neg hs]
  have habove : d.aboveFast sense = true := decide_eq_true (Nat.not_le.mp hs)
  by_cases hq : d.quietTick ∧ (d.hswState = 4 ∨ d.hswState = 5)
  · rw [if_pos hq, fastTrip_of_quiet hq.1 hq.2 habove]
    exact Dev.trip_tripsHsw hq.1 _ _
  · rw [if_neg hq]
    intro hlost h4 h5
    rw [fastTrip_of_joins habove us hlost h4 h5]
    split
    · refine ⟨d.countFast_count, d.countFast_event, by rw [Dev.countFast_hsw], ?_, d.countFast_get (by decide) (by decide)⟩
      exact d.countFast_get (by decide) (by decide)
    · rfl

/-! ### A gate that does not rise -/

theorem feedLock_cases (x : Nat) : feedLock x = HSW_STAT_LOCK_A ∨ feedLock x = HSW_STAT_LOCK_B := by
  unfold feedLock
  split
  · exact .inl rfl
  · exact .inr rfl

/-- The selected feed locked out, up to the choice of the next one (R494). -/
def Dev.lockFeed (d : Dev) : Dev := (((d.set (feedLock d.feed) 1).setValid d.feed false).hswRaise 4).pgoodFall.enterSelect

theorem Dev.lockFeed_get {f : Fld} (h : f.key ∉ [HSW_STAT_A_VALID.key, HSW_STAT_B_VALID.key, HSW_EVT_FET_DAMAGED.key, HSW_STAT_PGOOD.key,
    TRK_BYP_CTL_STATE.key, HSW_EVT_PGOOD_FALL.key, HSW_STAT_STATE.key, HSW_STAT_FT_RUN.key]) (hlow : f.key < 8 * 0x10900400) :
    d.lockFeed.get f = (d.set (feedLock d.feed) 1).get f := by
  simp only [List.mem_cons, List.not_mem_nil, or_false, not_or] at h
  obtain ⟨ha, hb, hev, hpg, hbyp, hfall, hst, hft⟩ := h
  rw [Dev.lockFeed, Dev.enterSelect_get _ (by simp [hst, hft]), Dev.pgoodFall_get _ (by simp [hpg, hbyp, hfall]) hlow,
    Dev.hswRaise_get _ 4 hev hlow, Dev.setValid_get _ _ _ (by simp [ha, hb])]

theorem Dev.lockFeed_event (d : Dev) : d.lockFeed.get HSW_EVT_FET_DAMAGED = 1 := by
  rw [Dev.lockFeed, Dev.enterSelect_get _ (by decide), Dev.pgoodFall_get _ (by decide) (by decide)]
  exact Dev.hswRaise_self _ 4 (by decide)

theorem Dev.lockFeed_lock (d : Dev) : d.lockFeed.get (feedLock d.feed) = 1 := by
  rcases feedLock_cases d.feed with h | h <;> rw [h, Dev.lockFeed_get (by decide) (by decide), h] <;> exact Dev.get_set_same _ _ _

theorem Dev.lockFeed_feed (d : Dev) : d.lockFeed.feed = d.feed := by
  rw [Dev.feed, Dev.lockFeed_get (by decide) (by decide)]
  exact Dev.get_set_ne _ _ (by rcases feedLock_cases d.feed with h | h <;> rw [h] <;> decide)

theorem Dev.feedValid_congr {d e : Dev} {x : Nat} (h : ∀ f ∈ [HSW_STAT_A_VALID, HSW_STAT_B_VALID], e.get f = d.get f) :
    e.feedValid x = d.feedValid x := by
  unfold Dev.feedValid Dev.flag
  rw [h]
  split <;> simp

/-- Which feeds are valid is what the lockout wrote. -/
theorem Dev.lockFeed_valid (d : Dev) (x : Nat) : d.lockFeed.feedValid x = ((d.set (feedLock d.feed) 1).setValid d.feed false).feedValid x := by
  refine Dev.feedValid_congr ?_
  simp (disch := decide) [Dev.lockFeed, Dev.enterSelect_get, Dev.pgoodFall_get, Dev.hswRaise_get]

theorem Dev.lockFeed_valid_self (d : Dev) : d.lockFeed.feedValid d.feed = false := by rw [Dev.lockFeed_valid, Dev.feedValid_setValid]

theorem Dev.lockFeed_valid_other (d : Dev) : d.lockFeed.feedValid (1 - d.feed) = d.feedValid (1 - d.feed) := by
  have hfeed := d.feed_lt
  rw [Dev.lockFeed_valid, Dev.feedValid_setValid_other _ _ (by simp only [ne_eq, eq_iff_iff]; omega)]
  refine Dev.feedValid_congr ?_
  rcases feedLock_cases d.feed with h | h <;> simp (disch := decide) [h, Dev.get_set_ne]

theorem Dev.lockFeed_state (d : Dev) : d.lockFeed.hswState = (d.set (feedLock d.feed) 1).selectState := by
  rw [Dev.lockFeed, Dev.enterSelect_state, Dev.pgoodFall_selectState]
  refine Dev.selectState_congr ?_
  simp (disch := decide) [Dev.hswRaise_get, Dev.setValid_get]

theorem Dev.lockOut_eq (h : d.hswState = 4 ∧ d.hsw.ramped = true ∧ d.hsw.gateOn = false) : d.lockOut =
    if d.feedValid (1 - d.feed) then ((d.lockFeed.set HSW_STAT_FEED (1 - d.feed)).inc HSW_SWITCHOVERS_COUNT).hswRaise 5 else d.lockFeed := by
  have hc : d.hswState = 4 ∧ d.hsw.ramped = true ∧ (!d.hsw.gateOn) = true := by simp [h]
  rw [← d.lockFeed_valid_other]
  simp only [Dev.lockOut, if_pos hc]
  rfl

theorem Dev.lockOut_get (h : d.hswState = 4 ∧ d.hsw.ramped = true ∧ d.hsw.gateOn = false) {f : Fld}
    (hf : f.key ∉ [HSW_STAT_FEED.key, HSW_SWITCHOVERS_COUNT.key, HSW_EVT_SWITCHOVER.key]) (hlow : f.key < 8 * 0x10900400) :
    d.lockOut.get f = d.lockFeed.get f := by
  simp only [List.mem_cons, List.not_mem_nil, or_false, not_or] at hf
  obtain ⟨hfeed, hcount, hev⟩ := hf
  rw [Dev.lockOut_eq h]
  split
  · rw [Dev.hswRaise_get _ 5 hev hlow, Dev.get_inc_ne _ hcount, Dev.get_set_ne _ _ hfeed]
  · rfl

theorem Dev.lockOut_feed (h : d.hswState = 4 ∧ d.hsw.ramped = true ∧ d.hsw.gateOn = false) :
    d.lockOut.feed = if d.feedValid (1 - d.feed) then 1 - d.feed else d.feed := by
  rw [Dev.lockOut_eq h]
  split
  · rw [Dev.feed, Dev.hswRaise_get _ 5 (by decide) (by decide), Dev.get_inc_ne _ (by decide), Dev.get_set_same]
    exact Nat.mod_eq_of_lt (Nat.lt_succ_of_le (Nat.sub_le _ _))
  · exact d.lockFeed_feed

theorem Dev.hswTick_of_rise (hq : d.quietTick) (h : d.hswState = 4 ∧ d.hsw.ramped = true ∧ d.hsw.gateOn = false) :
    (d.meet (fun m => { m with rise := true })).hswTick = (d.meet (fun m => { m with rise := true })).lockOut.tickEnd := by
  have hm : (d.meet (fun m => { m with rise := true })).hswState = 4 ∧ (d.meet (fun m => { m with rise := true })).hsw.ramped = true
      ∧ (d.meet (fun m => { m with rise := true })).hsw.gateOn = false := h
  have hmeets : (d.meet (fun m => { m with rise := true })).hsw.meets = { HswMeet.none with tick := d.hsw.meets.tick, rise := true } := by
    rw [Dev.meet_hsw, hq]
  generalize d.meet (fun m => { m with rise := true }) = m at hm hmeets ⊢
  have hst : m.lockOut.hswState = (m.set (feedLock m.feed) 1).selectState := by
    rw [Dev.hswState, Dev.lockOut_get hm (by decide) (by decide)]
    exact m.lockFeed_state
  have h4 : m.lockOut.hswState ≠ 4 := by
    rw [hst]; rcases (m.set (feedLock m.feed) 1).selectState_cases with h | h | h <;> rw [h] <;> decide
  have h5 : m.lockOut.hswState ≠ 5 := by
    rw [hst]; rcases (m.set (feedLock m.feed) 1).selectState_cases with h | h | h <;> rw [h] <;> decide
  rw [Dev.hswTick_eq, hmeets]
  simp [HswMeet.none, Dev.tickFeed_of_parked h4 h5]

theorem Dev.hswTick_rise (hq : d.quietTick) (h : d.hswState = 4 ∧ d.hsw.ramped = true ∧ d.hsw.gateOn = false) {t : Dev}
    (ht : (d.meet (fun m => { m with rise := true })).hswTick = t) :
    t.get (feedLock d.feed) = 1 ∧ t.feedValid d.feed = false ∧ t.hswState = (d.set (feedLock d.feed) 1).selectState
      ∧ t.get HSW_EVT_FET_DAMAGED = 1 ∧ t.feed = (if d.feedValid (1 - d.feed) then 1 - d.feed else d.feed) := by
  rw [Dev.hswTick_of_rise hq h] at ht
  have hm : (d.meet (fun m => { m with rise := true })).hswState = 4 ∧ (d.meet (fun m => { m with rise := true })).hsw.ramped = true
      ∧ (d.meet (fun m => { m with rise := true })).hsw.gateOn = false := h
  have hfeed : (d.meet (fun m => { m with rise := true })).feed = d.feed := rfl
  have hother (x : Nat) : (d.meet (fun m => { m with rise := true })).feedValid x = d.feedValid x := rfl
  have hselect : ((d.meet (fun m => { m with rise := true })).set (feedLock d.feed) 1).selectState = (d.set (feedLock d.feed) 1).selectState := rfl
  generalize d.meet (fun m => { m with rise := true }) = m at hm hfeed hother hselect ht
  rw [← hfeed] at hselect ⊢
  rw [← hselect, ← hother]
  subst ht
  refine ⟨?_, ?_, ?_, ?_, ?_⟩
  · rw [← m.lockFeed_lock]
    rcases feedLock_cases m.feed with hl | hl <;>
      rw [hl, Dev.tickEnd_get (by decide) (by decide), Dev.lockOut_get hm (by decide) (by decide)]
  · rw [← m.lockFeed_valid_self]
    refine Dev.feedValid_congr ?_
    simp (disch := decide) [Dev.tickEnd_get, Dev.lockOut_get hm]
  · rw [Dev.hswState, Dev.tickEnd_get (by decide) (by decide), Dev.lockOut_get hm (by decide) (by decide)]
    exact m.lockFeed_state
  · rw [Dev.tickEnd_get (by decide) (by decide), Dev.lockOut_get hm (by decide) (by decide), m.lockFeed_event]
  · rw [Dev.feed, Dev.tickEnd_get (by decide) (by decide)]
    exact Dev.lockOut_feed hm

theorem gateRiseTimeout_effect (he : gateRiseTimeout d = e) :
    if d.hswState = 4 ∧ d.hsw.ramped = true ∧ d.hsw.gateOn = false then
      e.hsw.meets = { d.hsw.meets with rise := true } ∧ e = { d with hsw := e.hsw }
        ∧ (d.quietTick → e.hswTick.get (feedLock d.feed) = 1 ∧ e.hswTick.feedValid d.feed = false
          ∧ e.hswTick.hswState = (d.set (feedLock d.feed) 1).selectState
          ∧ e.hswTick.get HSW_EVT_FET_DAMAGED = 1 ∧ e.hswTick.feed = (if d.feedValid (1 - d.feed) then 1 - d.feed else d.feed))
    else e = d := by
  subst he
  simp only [gateRiseTimeout, Bool.not_eq_true']
  split
  · next h => exact ⟨rfl, rfl, fun hq => Dev.hswTick_rise hq h rfl⟩
  · rfl

/-! ### The fault timer -/

theorem faultTimerStart_effect {sense us : Nat} (he : faultTimerStart sense us d = e) :
    if (d.hswState = 4 ∨ d.hswState = 5) ∧ d.get HSW_STAT_FT_RUN = 0 ∧ 4 * d.get HSW_ILIM_SLOW < sense then
      e.get HSW_STAT_FT_RUN = 1 ∧ e.hsw = { d.hsw with faultTo := max 1 (min 500 (d.get HSW_TIMER_FAULT_TO)), timed := 0, timedAt := us }
        ∧ d.onlyHsw [HSW_STAT_FT_RUN.key] e
    else e = d := by
  subst he
  simp only [faultTimerStart, Bool.and_eq_true, Dev.driving_iff, Bool.not_eq_true', d.flag_eq_false, Dev.aboveSlow, decide_eq_true_iff,
    and_assoc]
  split
  · exact ⟨d.get_set_same HSW_STAT_FT_RUN 1, by simp, (Dev.onlyHsw.refl.set (by decide) 1).modHsw _⟩
  · rfl

/-- The end of a tick in which the fault timer was to reset. -/
theorem Dev.hswTick_of_calm (hq : d.quietTick) :
    (d.meet (fun m => { m with calm := true })).hswTick = ((d.meet (fun m => { m with calm := true })).set HSW_STAT_FT_RUN 0).tickFeed.tickEnd := by
  have hmeets : (d.meet (fun m => { m with calm := true })).hsw.meets = { HswMeet.none with tick := d.hsw.meets.tick, calm := true } := by
    rw [Dev.meet_hsw, hq]
  rw [Dev.hswTick_eq, hmeets]
  simp [HswMeet.none]

theorem Dev.feedGone_timer (d : Dev) : d.feedGone.get HSW_STAT_FT_RUN = 0 := by
  unfold Dev.feedGone
  split
  · exact d.switchover_timer
  · exact Dev.enterSelect_timer _

theorem faultTimerReset_effect {sense : Nat} (he : faultTimerReset sense d = e) :
    if d.get HSW_STAT_FT_RUN = 1 ∧ 10 * sense < 36 * d.get HSW_ILIM_SLOW then
      e.hsw.meets = { d.hsw.meets with calm := true } ∧ e = { d with hsw := e.hsw } ∧ (d.quietTick → e.hswTick.get HSW_STAT_FT_RUN = 0)
    else e = d := by
  subst he
  simp only [faultTimerReset, Bool.and_eq_true, d.flag_eq_true (f := HSW_STAT_FT_RUN) rfl, Dev.belowSlow, decide_eq_true_iff]
  split
  · refine ⟨rfl, rfl, fun hq => ?_⟩
    rw [Dev.hswTick_of_calm hq, Dev.tickEnd_get (by decide) (by decide), Dev.tickFeed]
    split
    · exact Dev.feedGone_timer _
    · exact Dev.get_set_same _ _ _
  · rfl

/-! ### Retries -/

/-- The end of a tick in which the off time of RETRY_WAIT ended. -/
theorem Dev.hswTick_of_ended {t : Nat} (hm : d.hsw.meets = { HswMeet.none with tick := t, ended := true }) (h7 : d.hswState = 7) :
    d.hswTick = d.countRetry.enterSelect.tickEnd := by
  have hfeed : d.tickFeed = d := Dev.tickFeed_of_parked (by rw [h7]; decide) (by rw [h7]; decide)
  rw [Dev.hswTick_eq, hm]
  simp [HswMeet.none, hfeed, h7]

theorem Dev.hswTick_ended {t : Nat} (hm : d.hsw.meets = { HswMeet.none with tick := t, ended := true }) (h7 : d.hswState = 7) :
    d.hswTick.hswState = d.selectState ∧ d.hswTick.get HSW_EVT_RETRY = 1
      ∧ d.hswTick.get HSW_RETRIES_COUNT = (d.get HSW_RETRIES_COUNT + 1) % 2 ^ 32 ∧ d.hswTick.get HSW_HIST_RETRIES = min 255 (d.get HSW_HIST_RETRIES + 1) := by
  have hselect : d.countRetry.selectState = d.selectState := Dev.selectState_congr (by simp (disch := decide) [Dev.countRetry_get])
  rw [Dev.hswTick_of_ended hm h7]
  refine ⟨?_, ?_⟩
  · rw [← hselect, ← Dev.enterSelect_state]
    exact Dev.tickEnd_get (by decide) (by decide)
  · rw [Dev.tickEnd_get (by decide) (by decide), Dev.tickEnd_get (by decide) (by decide), Dev.tickEnd_get (by decide) (by decide),
      Dev.enterSelect_get _ (by decide), Dev.enterSelect_get _ (by decide), Dev.enterSelect_get _ (by decide)]
    exact d.countRetry_counts

/-- The off time over: the shown wait is 0. -/
def Dev.offOver (d : Dev) : Dev := (d.modHsw (fun h => { h with offLeft := 0 })).showWait

theorem Dev.offOver_get {f : Fld} (h : f.key ≠ HSW_HIST_WAIT.key) : d.offOver.get f = d.get f := Dev.get_set_ne _ _ h

theorem Dev.offOver_onlyHsw : d.onlyHsw [HSW_HIST_WAIT.key] d.offOver := (Dev.onlyHsw.refl.modHsw _).set (by decide) _

theorem Dev.offOver_wait (d : Dev) : d.offOver.get HSW_HIST_WAIT = 0 := by
  rw [Dev.offOver, Dev.showWait, Dev.get_set_same]
  exact (by decide : min 0xFFFF ((0 + 99) / 100) % 2 ^ 16 = 0)

theorem retryWaitEnd_eq (d : Dev) :
    retryWaitEnd d = if d.hswState = 7 then d.offOver.meet (fun m => { m with ended := true }) else d.offOver := by
  have hst : d.offOver.hswState = d.hswState := Dev.offOver_get (by decide)
  rw [← hst]
  rfl

theorem retryWaitEnd_effect (he : retryWaitEnd d = e) :
    e.hsw.offLeft = 0 ∧ e.get HSW_HIST_WAIT = 0 ∧ e.hswState = d.hswState ∧ d.onlyHsw [HSW_HIST_WAIT.key] e
      ∧ (if d.hswState = 7 then e.hsw.meets.ended = true ∧ (d.quietTick → e.hswTick.hswState = d.selectState ∧ e.hswTick.get HSW_EVT_RETRY = 1
          ∧ e.hswTick.get HSW_RETRIES_COUNT = (d.get HSW_RETRIES_COUNT + 1) % 2 ^ 32 ∧ e.hswTick.get HSW_HIST_RETRIES = min 255 (d.get HSW_HIST_RETRIES + 1))
        else e.hsw.meets = d.hsw.meets) := by
  have hst : d.offOver.hswState = d.hswState := Dev.offOver_get (by decide)
  rw [retryWaitEnd_eq] at he
  by_cases h7 : d.hswState = 7
  · rw [if_pos h7] at he ⊢
    subst he
    refine ⟨rfl, d.offOver_wait, hst, Dev.offOver_onlyHsw.modHsw _, rfl, fun hq => ?_⟩
    have hmeets : (d.offOver.meet (fun m => { m with ended := true })).hsw.meets = { HswMeet.none with tick := d.hsw.meets.tick, ended := true } := by
      rw [Dev.meet_hsw, Dev.offOver, Dev.showWait, Dev.set_hsw, Dev.modHsw_hsw, hq]
    have hselect : (d.offOver.meet (fun m => { m with ended := true })).selectState = d.selectState :=
      Dev.selectState_congr (by simp (disch := decide) [Dev.offOver_get])
    obtain ⟨hstate, hev, hcount, hretries⟩ := Dev.hswTick_ended hmeets (hst.trans h7)
    rw [hselect] at hstate
    rw [Dev.meet_get, Dev.offOver_get (by decide)] at hcount hretries
    exact ⟨hstate, hev, hcount, hretries⟩
  · rw [if_neg h7] at he ⊢
    subst he
    exact ⟨rfl, d.offOver_wait, hst, Dev.offOver_onlyHsw, rfl⟩

/-! ### Commands -/

theorem Dev.clearHistory_hsw (d : Dev) : d.clearHistory.hsw = { d.hsw with offLeft := 0, owed := false } := rfl

theorem Dev.clearHistory_history (d : Dev) : d.clearHistory.get HSW_HIST_TRIPS = 0 ∧ d.clearHistory.get HSW_HIST_RETRIES = 0
    ∧ d.clearHistory.get HSW_HIST_WAIT = 0 := by
  refine ⟨?_, ?_, ?_⟩ <;>
    simp (disch := decide) only [Dev.clearHistory, Dev.modHsw_get, Dev.get_set_ne, Dev.get_set_same] <;> rfl

theorem Dev.clearHistory_onlyHsw (d : Dev) : d.onlyHsw [HSW_HIST_TRIPS.key, HSW_HIST_RETRIES.key, HSW_HIST_WAIT.key] d.clearHistory :=
  (((Dev.onlyHsw.refl.set (by decide) 0).set (by decide) 0).set (by decide) 0).modHsw _

theorem historyClearTimer_effect (he : historyClearTimer d = e) :
    if d.get HSW_STAT_PGOOD = 1 ∧ d.get HSW_STAT_FT_RUN = 0 then e.get HSW_HIST_TRIPS = 0 ∧ e.get HSW_HIST_RETRIES = 0 ∧ e.get HSW_HIST_WAIT = 0
      ∧ e.hsw.offLeft = 0 ∧ e.get HSW_EVT_HIST_CLEAR = 1
    else e = d := by
  subst he
  simp only [historyClearTimer, d.flag_eq_true (f := HSW_STAT_PGOOD) rfl, Bool.not_eq_true', d.flag_eq_false]
  split
  · obtain ⟨htrips, hretries, hwait⟩ := d.clearHistory_history
    rw [Dev.hswRaise_get _ 10 (by decide) (by decide), Dev.hswRaise_get _ 10 (by decide) (by decide),
      Dev.hswRaise_get _ 10 (by decide) (by decide), Dev.hswRaise_hsw, Dev.clearHistory_hsw]
    exact ⟨htrips, hretries, hwait, rfl, Dev.hswRaise_self _ 10 (by decide)⟩
  · rfl

theorem hswClrLatch_effect (he : hswClrLatch d = e) :
    e.hsw.meets = { d.hsw.meets with unlatched := true }
      ∧ e.hswState = (if d.hswState ≠ 8 then d.hswState
        else if d.hsw.loose = true ∧ d.get HSW_STAT_SEAT0 = 1 ∧ d.get HSW_STAT_SEAT1 = 1 then 2 else d.selectState)
      ∧ e.hsw.offLeft = d.hsw.offLeft ∧ d.onlyHsw [HSW_STAT_STATE.key, HSW_STAT_FT_RUN.key] e := by
  subst he
  simp only [hswClrLatch, Dev.leaveLatched, Dev.seats_iff]
  split
  · exact ⟨rfl, rfl, rfl, Dev.onlyHsw.refl.modHsw _⟩
  · split
    · exact ⟨rfl, d.gatesOff_state 2 (by decide), rfl, (Dev.onlyHsw.refl.gatesOff (by decide) (by decide) 2).modHsw _⟩
    · rw [Dev.meet_hsw, Dev.enterSelect_hsw]
      exact ⟨rfl, d.enterSelect_state, rfl, (Dev.enterSelect_onlyHsw .refl (by decide) (by decide)).modHsw _⟩

theorem hswClrLock_effect {x : Nat} (he : hswClrLock x d = e) :
    e.get (feedLock x) = 0 ∧ (if d.hswState = 9 then e.hswState = (d.set (feedLock x) 0).selectState
        ∧ d.onlyHsw [(feedLock x).key, HSW_STAT_STATE.key, HSW_STAT_FT_RUN.key] e
      else d.only [(feedLock x).key] e) := by
  have hst : (d.set (feedLock x) 0).hswState = d.hswState := Dev.get_set_ne _ _ (by rcases feedLock_cases x with h | h <;> rw [h] <;> decide)
  have hlock : (d.set (feedLock x) 0).get (feedLock x) = 0 := by rw [Dev.get_set_same, Nat.zero_mod]
  subst he
  simp only [hswClrLock, hst]
  split
  · refine ⟨?_, Dev.enterSelect_state _, Dev.enterSelect_onlyHsw (Dev.onlyHsw.refl.set List.mem_cons_self 0) (by simp) (by simp)⟩
    rw [Dev.enterSelect_get _ (by rcases feedLock_cases x with h | h <;> rw [h] <;> decide), hlock]
  · exact ⟨hlock, (Dev.only.refl d _).set List.mem_cons_self 0⟩

theorem hswClrHist_effect (he : hswClrHist d = e) :
    e.get HSW_HIST_TRIPS = 0 ∧ e.get HSW_HIST_RETRIES = 0 ∧ e.get HSW_HIST_WAIT = 0
      ∧ e.hsw = { d.hsw with offLeft := 0, owed := false, meets := { d.hsw.meets with cleared := true } }
      ∧ d.onlyHsw [HSW_HIST_TRIPS.key, HSW_HIST_RETRIES.key, HSW_HIST_WAIT.key] e := by
  subst he
  obtain ⟨htrips, hretries, hwait⟩ := d.clearHistory_history
  exact ⟨htrips, hretries, hwait, rfl, d.clearHistory_onlyHsw.modHsw _⟩

/-! ### Meters -/

theorem hswSnap_effect (he : hswSnap d = e) :
    e.get HSW_E_LO_UJ = d.hsw.energy % 2 ^ 32 ∧ e.get HSW_E_HI_UJ = d.hsw.energy / 2 ^ 32 % 2 ^ 32
      ∧ d.only [HSW_E_LO_UJ.key, HSW_E_HI_UJ.key] e := by
  subst he
  refine ⟨?_, ?_, ((Dev.only.refl d _).set (by decide) _).set (by decide) _⟩
  · rw [hswSnap, Dev.get_set_ne _ _ (by decide), Dev.get_set_same]
    rfl
  · rw [hswSnap, Dev.get_set_same]
    rfl

/-- What PGOOD does at the end of a sample leaves the controller's own part and the means. -/
theorem Dev.pgoodFallIf_hsw (p : Prop) [Decidable p] (d : Dev) : (if p then d.pgoodFall else d).hsw = d.hsw := by
  split
  · exact d.pgoodFall_hsw
  · rfl

theorem Dev.pgoodFallIf_get (p : Prop) [Decidable p] (d : Dev) {f : Fld}
    (h : f.key ∉ [HSW_STAT_PGOOD.key, TRK_BYP_CTL_STATE.key, HSW_EVT_PGOOD_FALL.key]) (hlow : f.key < 8 * 0x10900400) :
    (if p then d.pgoodFall else d).get f = d.get f := by
  split
  · exact d.pgoodFall_get h hlow
  · rfl

theorem hswAdcSample_effect {va vb vout sense : Nat} (he : hswAdcSample va vb vout sense d = e) :
    e.hsw.samples = ((va, vb, vout, sense) :: d.hsw.samples).take 100
      ∧ e.hsw.energy = (d.hsw.energy + (d.hsw.frac + (if d.get HSW_RSENSE_UOHM = 0 then 0
          else ((vout * sense * 5 : Nat) : Rat) / ((d.get HSW_RSENSE_UOHM : Nat) : Rat))).floor.toNat) % 2 ^ 64
      ∧ e.hsw.offLeft = d.hsw.offLeft - 1 ∧ e.get HSW_VA_V = meanOf (e.hsw.samples.map (·.1)) % 2 ^ HSW_VA_V.w
      ∧ e.get HSW_VB_V = meanOf (e.hsw.samples.map (·.2.1)) % 2 ^ HSW_VB_V.w := by
  subst he
  rw [hswAdcSample]
  rw [Dev.pgoodFallIf_hsw, Dev.pgoodFallIf_get _ _ (by decide) (by decide), Dev.pgoodFallIf_get _ _ (by decide) (by decide)]
  simp (disch := decide) only [Dev.get_set_ne, Dev.get_set_same, Dev.set_hsw, Dev.showWait, Dev.modHsw_hsw]
  exact ⟨trivial, trivial, trivial, trivial, trivial⟩

end Sys2Proof.Machine

namespace Sys2Proof.Proofs
open Sys2Proof Sys2Proof.Machine

/-- Settles O43, command by command: each function of the controller in the cases that the statement names. -/
theorem hotSwapTripsAndMetersComplete : Obligations.HotSwapTripsAndMetersComplete := by
  intro s
  refine ⟨fun vin vout => .run rfl (rampComplete_effect rfl), .run rfl (Dev.gateReached_effect rfl), fun us => .run rfl (rampTimeout_effect rfl),
    .run rfl (gateRiseTimeout_effect rfl), fun sense us => .run rfl (fastTrip_effect rfl), fun sense us => .run rfl (faultTimerStart_effect rfl),
    fun sense => .run rfl (faultTimerReset_effect rfl), fun us => .run rfl (slowTrip_effect rfl), .run rfl (retryWaitEnd_effect rfl),
    .run rfl (historyClearTimer_effect rfl), .run rfl (hswClrLatch_effect rfl), .run rfl (hswClrLock_effect (x := 0) rfl),
    .run rfl (hswClrLock_effect (x := 1) rfl), .run rfl (hswClrHist_effect rfl), .run rfl rfl, .run rfl (hswSnap_effect rfl),
    fun va vb vout sense => .run rfl ?_, .run rfl ⟨Dev.get_set_same _ _ _, (Dev.only.refl _ _).set (by decide) 0⟩⟩
  exact hswAdcSample_effect rfl

end Sys2Proof.Proofs
end

section
/-! PROOFS. The frames of the commands that touch no memory. -/

namespace Sys2Proof.Machine

/-! ### Commands of a power domain -/

/-- A command of a power domain: what holds where nothing happens and where its function acts holds of it. -/
theorem Does.frameOn {c : Instr} {s : State} {n : Nat} {f : Dev → Dev} {P : Dev → Dev → Prop} (hexec : exec c s = s.runOn n f)
    (hrefl : P s.dev s.dev) (h : P s.dev (f s.dev)) : Does c s P := by
  refine .run hexec ?_
  split
  · exact h
  · exact hrefl

theorem Does.framePins {c : Instr} {s : State} {n : Nat} {f : Dev → Dev} {P : Dev → Dev → Prop} (hexec : exec c s = s.runPins n f)
    (hrefl : P s.dev s.dev) (h : P s.dev (f s.dev)) : Does c s P := by
  refine .run hexec ?_
  split
  · exact h
  · exact hrefl

/-! ### Indirect windows -/

variable (d : Dev)

/-- Only register fields differ. -/
def Dev.OnlyFlds (d e : Dev) : Prop := e = { d with flds := e.flds }

variable {d} in
theorem Dev.OnlyFlds.set {e : Dev} {f : Fld} {v : Nat} (h : d.OnlyFlds e) : d.OnlyFlds (e.set f v) :=
  congrArg (fun x : Dev => x.set f v) h

theorem Dev.OnlyFlds.refl : d.OnlyFlds d := rfl

variable {d} in
theorem Dev.OnlyFlds.forAll {α : Type} {f : α → Dev → Dev} (hf : ∀ x e, d.OnlyFlds e → d.OnlyFlds (f x e)) {l : List α} {e : Dev}
    (h : d.OnlyFlds e) : d.OnlyFlds (forAll l f e) := by
  induction l generalizing e with
  | nil => exact h
  | cons x l ih => exact ih (hf x e h)

variable {d} in
theorem Dev.OnlyFlds.cycle {e e' : Dev} (h : d.OnlyFlds e) (he : e' = { e with flds := e'.flds, cycle := e'.cycle }) :
    e' = { d with flds := e'.flds, cycle := e'.cycle } :=
  he.trans (congrArg (fun x : Dev => { x with flds := e'.flds, cycle := e'.cycle }) h)

/-- A command of a window whose operation writes register fields only. -/
theorem Dev.winRun_frame (done : Fld) {f : Dev → Dev} (h : d.OnlyFlds (f d)) :
    d.winRun done f = { d with flds := (d.winRun done f).flds, cycle := (d.winRun done f).cycle } := by
  unfold Dev.winRun
  split
  · rfl
  · exact h.cycle rfl

theorem ctxReadOp_flds : d.OnlyFlds (ctxReadOp d) := (Dev.OnlyFlds.forAll (fun _ _ h => h.set) (.refl d)).set.set

theorem ctxWriteOp_flds : d.OnlyFlds (ctxWriteOp d) := by
  unfold ctxWriteOp
  dsimp only
  split
  · exact (Dev.OnlyFlds.refl d).set.set
  · exact (Dev.OnlyFlds.refl d).set.set.set.set.set.set.set.set.set.set.set.set.set.set.set.set.set

theorem ctxClrcntOp_flds : d.OnlyFlds (ctxClrcntOp d) := (Dev.OnlyFlds.forAll (fun _ _ h => h.set) (.refl d)).set.set

theorem swcQReadOp_flds : d.OnlyFlds (swcQReadOp d) := by
  unfold swcQReadOp
  dsimp only
  split
  · exact (Dev.OnlyFlds.refl d).set.set
  · exact (Dev.OnlyFlds.forAll (fun _ _ h => h.set) (.refl d)).set.set

theorem swcQWriteOp_flds : d.OnlyFlds (swcQWriteOp d) := by
  unfold swcQWriteOp
  dsimp only
  split
  · exact (Dev.OnlyFlds.refl d).set.set
  · exact (Dev.OnlyFlds.refl d).set.set.set.set.set

theorem swcQClrcntOp_flds : d.OnlyFlds (swcQClrcntOp d) := by
  unfold swcQClrcntOp
  dsimp only
  split
  · exact (Dev.OnlyFlds.refl d).set.set
  · exact (Dev.OnlyFlds.refl d).set.set.set.set.set.set

theorem gwReadOp_flds : d.OnlyFlds (gwReadOp d) := (Dev.OnlyFlds.refl d).set.set.set.set

theorem gwWriteOp_flds : d.OnlyFlds (gwWriteOp d) := by
  unfold gwWriteOp
  dsimp only
  split
  · exact (Dev.OnlyFlds.refl d).set.set
  · exact (Dev.OnlyFlds.refl d).set.set.set.set.set

theorem qsClrcntOp_flds : d.OnlyFlds (qsClrcntOp d) := (Dev.OnlyFlds.refl d).set.set.set.set.set.set.set.set.set.set

theorem psClrcntOp_flds : d.OnlyFlds (psClrcntOp d) := (Dev.OnlyFlds.refl d).set.set.set.set.set

theorem keySlotReadOp_flds : d.OnlyFlds (keySlotReadOp d) := (Dev.OnlyFlds.forAll (fun _ _ h => h.set) (.refl d)).set

/-! ### The switch, the threads and USB -/

theorem refillStart_frame (q : Nat) : refillStart q d = { d with flds := (refillStart q d).flds, sw := (refillStart q d).sw } := by
  unfold refillStart
  split <;> rfl

theorem servoSrcWrite_frame (q : Nat) : servoSrcWrite q d = { d with flds := (servoSrcWrite q d).flds } := by
  unfold servoSrcWrite
  split <;> rfl

theorem evqCfgWrite_frame (q v : Nat) : evqCfgWrite q v d = { d with flds := (evqCfgWrite q v d).flds } := by
  unfold evqCfgWrite
  dsimp only
  split
  · rfl
  · split <;> rfl

theorem pqCfgWrite_frame (q v : Nat) : pqCfgWrite q v d = { d with flds := (pqCfgWrite q v d).flds } := by
  unfold pqCfgWrite
  dsimp only
  split
  · rfl
  · split <;> rfl

theorem perfSnapshot_frame (v : Nat) : perfSnapshot v d = { d with flds := (perfSnapshot v d).flds, freeCtr := (perfSnapshot v d).freeCtr, syn := (perfSnapshot v d).syn } := by
  unfold perfSnapshot Dev.perfCatchUp
  dsimp only
  split <;> rfl

theorem ethTsfPop_frame (n : Nat) : ethTsfPop n d = { d with flds := (ethTsfPop n d).flds, eth := (ethTsfPop n d).eth } := by
  unfold ethTsfPop Dev.showTsf
  split <;> rfl

theorem ctrlAck_frame (n : Nat) : ctrlAck n d = { d with usb := (ctrlAck n d).usb } := by
  unfold ctrlAck
  split <;> rfl

theorem ctrlStall_frame (n : Nat) : ctrlStall n d = { d with flds := (ctrlStall n d).flds, usb := (ctrlStall n d).usb } := by
  unfold ctrlStall
  split <;> rfl

theorem audFeedbackRead_frame : audFeedbackRead d = { d with flds := (audFeedbackRead d).flds, usb := (audFeedbackRead d).usb } := by
  unfold audFeedbackRead Dev.traffic
  split <;> rfl

theorem audTrimUpdate_frame (n : Nat) : audTrimUpdate n d = { d with flds := (audTrimUpdate n d).flds } := by
  unfold audTrimUpdate
  split <;> rfl

theorem lpmL1Request_frame : lpmL1Request d = { d with flds := (lpmL1Request d).flds, usb := (lpmL1Request d).usb } := by
  unfold lpmL1Request
  split
  · rfl
  · split
    · rfl
    · split <;> rfl

theorem Dev.wakeReason_frame (r : Nat) : d.wakeReason r = { d with flds := (d.wakeReason r).flds } := by
  unfold Dev.wakeReason
  split <;> rfl

theorem Dev.latchWake_frame : d.latchWake = { d with flds := d.latchWake.flds } := by
  unfold Dev.latchWake
  split
  · exact Dev.wakeReason_frame _ 2
  · rfl

theorem usbWakeWrite_frame : usbWakeWrite d = { d with flds := (usbWakeWrite d).flds } := Dev.latchWake_frame _

theorem remoteWakeSignal_frame : remoteWakeSignal d = { d with flds := (remoteWakeSignal d).flds, usb := (remoteWakeSignal d).usb } := by
  unfold remoteWakeSignal Dev.traffic
  split
  · rfl
  · split
    · rfl
    · split <;> rfl

theorem Dev.portChange_frame (e b : Nat) (v : Bool) : d.portChange e b v = { d with usb := (d.portChange e b v).usb } := rfl

theorem hubPortConnect_frame (e what speed : Nat) :
    hubPortConnect e what speed d = { d with flds := (hubPortConnect e what speed d).flds, usb := (hubPortConnect e what speed d).usb } := by
  unfold hubPortConnect Dev.wakeReason
  repeat' split
  all_goals rfl

theorem usbLinkIdleTimer_frame (u2 host : Bool) :
    usbLinkIdleTimer u2 host d = { d with flds := (usbLinkIdleTimer u2 host d).flds, usb := (usbLinkIdleTimer u2 host d).usb } := by
  unfold usbLinkIdleTimer
  dsimp only
  repeat' split
  all_goals rfl

/-! ### The feed controller -/

theorem feedValid_frame (x v : Nat) : feedValid x v d = { d with flds := (feedValid x v d).flds } := by
  rw [feedValid_eq]
  split <;> rfl

theorem feedInvalid_frame (x v : Nat) : feedInvalid x v d = { d with flds := (feedInvalid x v d).flds } := by
  unfold feedInvalid
  split <;> rfl

theorem seatAssert_frame : seatAssert d = { d with flds := (seatAssert d).flds } := by
  unfold seatAssert
  dsimp only
  split <;> rfl

theorem Dev.enterOn_frame : d.enterOn = { d with flds := d.enterOn.flds, hsw := d.enterOn.hsw } := by
  unfold Dev.enterOn
  split <;> rfl

theorem rampComplete_frame (vin vout : Nat) :
    rampComplete vin vout d = { d with flds := (rampComplete vin vout d).flds, hsw := (rampComplete vin vout d).hsw } := by
  unfold rampComplete
  split
  · exact Dev.enterOn_frame _
  · rfl

theorem gateRiseTimeout_frame : gateRiseTimeout d = { d with hsw := (gateRiseTimeout d).hsw } := by
  unfold gateRiseTimeout
  split <;> rfl

theorem faultTimerStart_frame (sense us : Nat) :
    faultTimerStart sense us d = { d with flds := (faultTimerStart sense us d).flds, hsw := (faultTimerStart sense us d).hsw } := by
  unfold faultTimerStart
  split <;> rfl

theorem faultTimerReset_frame (sense : Nat) : faultTimerReset sense d = { d with hsw := (faultTimerReset sense d).hsw } := by
  unfold faultTimerReset
  split <;> rfl

theorem retryWaitEnd_frame : retryWaitEnd d = { d with flds := (retryWaitEnd d).flds, hsw := (retryWaitEnd d).hsw } := by
  unfold retryWaitEnd
  dsimp only
  split <;> rfl

theorem hswEnable_frame : hswEnable d = { d with flds := (hswEnable d).flds } := by
  unfold hswEnable
  dsimp only
  split <;> rfl

theorem hswSnap_frame : d.OnlyFlds (hswSnap d) := (Dev.OnlyFlds.refl d).set.set

/-! ### Pads -/

theorem Dev.holdPads_frame (n : Nat) : d.holdPads n = { d with flds := (d.holdPads n).flds, power := (d.holdPads n).power } := by
  unfold Dev.holdPads
  split <;> rfl

theorem padRelease_frame (n : Nat) : padRelease n d = { d with flds := (padRelease n d).flds, power := (padRelease n d).power } := by
  unfold padRelease
  split <;> rfl

/-! ### Power -/

/-- The device but for its register fields and its power part. -/
def Dev.sansPower (d : Dev) : Dev := { d with flds := [], power := PowerPart.reset }

variable {d} in
theorem Dev.eq_of_sansPower {e : Dev} (h : e.sansPower = d.sansPower) : e = { d with flds := e.flds, power := e.power } :=
  congrArg (fun x : Dev => { x with flds := e.flds, power := e.power }) h

variable {d} in
theorem Dev.eq_of_sansPower_boot {e : Dev} {b : BootPart} (h : e.sansPower = { d.sansPower with boot := b }) :
    e = { d with flds := e.flds, power := e.power, boot := e.boot } :=
  congrArg (fun x : Dev => { x with flds := e.flds, power := e.power, boot := e.boot }) h

theorem Dev.avsAsk_sansPower (mv : Nat) (low : Bool) : (d.avsAsk mv low).sansPower = d.sansPower := by
  unfold Dev.avsAsk
  dsimp only
  split <;> rfl

theorem Dev.wakeOne_sansPower (n : Nat) : (d.wakeOne n).sansPower = d.sansPower := by
  unfold Dev.wakeOne
  split <;> rfl

theorem Dev.askRail_sansPower (k : Nat) : (d.askRail k).sansPower = d.sansPower := by
  unfold Dev.askRail
  dsimp only
  split <;> rfl

theorem forAll_sansPower {α : Type} {f : α → Dev → Dev} (hf : ∀ x e, (f x e).sansPower = e.sansPower) (l : List α) :
    (forAll l f d).sansPower = d.sansPower := by
  induction l generalizing d with
  | nil => rfl
  | cons x l ih => exact (ih (f x d)).trans (hf x d)

variable {d} in
theorem sansPower_ite {p : Prop} [Decidable p] {a b : Dev} (ha : a.sansPower = d.sansPower) (hb : b.sansPower = d.sansPower) :
    (if p then a else b).sansPower = d.sansPower := by
  split
  · exact ha
  · exact hb

theorem Dev.wakeGo_sansPower : d.wakeGo.sansPower = d.sansPower :=
  sansPower_ite rfl (sansPower_ite (d.avsAsk_sansPower _ _) (sansPower_ite rfl (forAll_sansPower d (fun n e => e.wakeOne_sansPower n) _)))

theorem Dev.bootIf_sansPower (p : Prop) [Decidable p] (b : BootPart) :
    (if p then { d with boot := b } else d).sansPower = { d.sansPower with boot := if p then b else d.boot } := by
  split <;> rfl

theorem avsAck_frame : avsAck d = { d with flds := (avsAck d).flds, power := (avsAck d).power, boot := (avsAck d).boot } := by
  unfold avsAck
  cases d.power.avs with
  | none => rfl
  | some r => exact Dev.eq_of_sansPower_boot ((Dev.wakeGo_sansPower _).trans (Dev.bootIf_sansPower _ _ _))

theorem Dev.askRail_power (k : Nat) : d.askRail k = { d with power := (d.askRail k).power } := by
  unfold Dev.askRail
  dsimp only
  split <;> rfl

theorem Dev.askRails_power (l : List Nat) (d : Dev) :
    (forAll l (fun k (d : Dev) => d.askRail k) d) = { d with power := (forAll l (fun k (d : Dev) => d.askRail k) d).power } := by
  induction l generalizing d with
  | nil => rfl
  | cons k l ih =>
    exact (ih (d.askRail k)).trans
      (congrArg (fun x : Dev => { x with power := (forAll l (fun k (d : Dev) => d.askRail k) (d.askRail k)).power }) (d.askRail_power k))

theorem railEntryWrite_frame (k v : Nat) : railEntryWrite k v d = { d with flds := (railEntryWrite k v d).flds, power := (railEntryWrite k v d).power } :=
  Dev.eq_of_sansPower (Dev.askRail_sansPower _ k)

theorem Dev.avsRetry_frame (p : Prop) [Decidable p] (mv : Nat) : (if p then d.avsAsk mv false else d)
    = { d with flds := (if p then d.avsAsk mv false else d).flds, power := (if p then d.avsAsk mv false else d).power } := by
  refine Dev.eq_of_sansPower ?_
  split
  · exact d.avsAsk_sansPower _ _
  · rfl

/-! ### Start-up -/
theorem Dev.otpSense_flds : d.OnlyFlds d.otpSense := by
  unfold Dev.otpSense
  dsimp only
  split
  · exact (Dev.OnlyFlds.refl d).set.set.set.set.set.set.set
  · exact (Dev.OnlyFlds.refl d).set.set.set.set.set.set.set.set.set

variable {d} in
theorem Dev.OnlyFlds.boot {e e' : Dev} (h : d.OnlyFlds e) (he : e' = { e with flds := e'.flds, boot := e'.boot }) :
    e' = { d with flds := e'.flds, boot := e'.boot } :=
  he.trans (congrArg (fun x : Dev => { x with flds := e'.flds, boot := e'.boot }) h)

theorem porstRelease_frame : porstRelease d = { d with flds := (porstRelease d).flds, boot := (porstRelease d).boot } := by
  unfold porstRelease
  split
  · exact d.otpSense_flds.boot rfl
  · rfl

theorem wdogCtlWrite_frame (en : Bool) (v : Nat) :
    wdogCtlWrite en v d = { d with flds := (wdogCtlWrite en v d).flds, boot := (wdogCtlWrite en v d).boot } := by
  unfold wdogCtlWrite
  dsimp only
  split
  · rfl
  · split <;> rfl

end Sys2Proof.Machine

namespace Sys2Proof.Proofs
open Sys2Proof Sys2Proof.Machine

/-- Settles O60, each command by the frame of its function. -/
theorem quietCommandsFrame : Obligations.QuietCommandsFrame := by
  intro s
  refine ⟨
    .frameOn (n := 3) (f := fun d => if d.flag STN_ID_VALID then d else d.modEnq (fun e => { e with slow := true, silent := true })) rfl rfl ?helloSilence,
    .frameOn rfl rfl (Dev.winRun_frame _ _ (ctxReadOp_flds _)), .frameOn rfl rfl (Dev.winRun_frame _ _ (ctxWriteOp_flds _)),
    .frameOn rfl rfl (Dev.winRun_frame _ _ (ctxClrcntOp_flds _)), fun a => .frameOn rfl rfl (refillStart_frame _ _),
    .frameOn rfl rfl (Dev.winRun_frame _ _ (swcQReadOp_flds _)), .frameOn rfl rfl (Dev.winRun_frame _ _ (swcQWriteOp_flds _)),
    .frameOn rfl rfl (Dev.winRun_frame _ _ (swcQClrcntOp_flds _)), .frameOn rfl rfl rfl, .frameOn rfl rfl rfl,
    fun a => .frameOn rfl rfl (servoSrcWrite_frame _ _), .frameOn rfl rfl rfl, fun a => .frameOn rfl rfl rfl,
    .frameOn rfl rfl (Dev.winRun_frame _ _ (gwReadOp_flds _)), .frameOn rfl rfl (Dev.winRun_frame _ _ (gwWriteOp_flds _)),
    .frameOn rfl rfl (Dev.winRun_frame _ _ (qsClrcntOp_flds _)), .frameOn rfl rfl (Dev.winRun_frame _ _ (psClrcntOp_flds _)),
    fun a b => .run rfl (evqCfgWrite_frame _ _ _), fun a b => .run rfl (pqCfgWrite_frame _ _ _),
    fun a => .run rfl (perfSnapshot_frame _ _), fun n => .frameOn (n := 9) (f := fun d => d.set (ETH_STAT_PAUSED n) 0) rfl rfl rfl,
    fun a => .frameOn rfl rfl (ethTsfPop_frame _ _), fun a => .frameOn rfl rfl (ctrlAck_frame _ _),
    fun a => .frameOn rfl rfl (ctrlStall_frame _ _), .framePins rfl rfl (audFeedbackRead_frame _),
    fun a => .frameOn rfl rfl (audTrimUpdate_frame _ _), .framePins rfl rfl (lpmL1Request_frame _),
    .frameOn rfl rfl (usbWakeWrite_frame _), .frameOn rfl rfl (remoteWakeSignal_frame _), fun a b => .run rfl (feedValid_frame _ _ _),
    fun a b => .run rfl (feedInvalid_frame _ _ _), .run rfl (seatAssert_frame _), fun a b => .run rfl (rampComplete_frame _ _ _),
    .run rfl ?gateOn, .run rfl (gateRiseTimeout_frame _), fun a b => .run rfl (faultTimerStart_frame _ _ _),
    fun a => .run rfl (faultTimerReset_frame _ _), .run rfl (retryWaitEnd_frame _), .run rfl (hswEnable_frame _), .run rfl rfl,
    .run rfl rfl, .run rfl (hswSnap_frame _), .run rfl rfl, fun a => .run rfl ?clockstopDone, fun a => .run rfl ?holdDone,
    fun a => .run rfl ?saveDone, fun a => .run rfl (padRelease_frame _ _), .run rfl (avsAck_frame _),
    .run rfl (Dev.avsRetry_frame _ _ _), .run rfl (Dev.askRails_power _ _), fun a b => .run rfl (railEntryWrite_frame _ _ _),
    .frameOn (n := 4) (f := fun d => d.inc KEY_BADSUB_COUNT) rfl rfl rfl,
    .frameOn rfl rfl (Dev.winRun_frame _ _ (keySlotReadOp_flds _)), .frameOn rfl rfl rfl, .frameOn rfl rfl ?ddrTrainingDone,
    .frameOn rfl rfl rfl, .run rfl (porstRelease_frame _), fun a b => .run rfl (wdogCtlWrite_frame _ _ _),
    fun a b c => .framePins rfl rfl (hubPortConnect_frame _ _ _ _), fun a b => .framePins rfl rfl (usbLinkIdleTimer_frame _ _ _),
    .run rfl ?powerDiePorRelease⟩
  case helloSilence => split <;> rfl
  case gateOn =>
    split
    · exact Dev.enterOn_frame _
    · rfl
  case clockstopDone => split <;> rfl
  case holdDone =>
    split
    · exact congrArg (fun x : Dev => x.setPhase a (if s.dev.aim a = 1 then 5 else 6)) (s.dev.holdPads_frame a)
    · rfl
  case saveDone => split <;> rfl
  case ddrTrainingDone =>
    unfold ddrTrainingDone
    split <;> rfl
  case powerDiePorRelease => split <;> rfl

end Sys2Proof.Proofs
end

section
/-! PROOFS. In-service BIST: why O49 fails as it stands. Its clause on GO asks that after a granted slice of a core the core's first thread is
OFF. But a slice stops the threads that run or wait, as STOP does (R572), and a thread in HALT does neither: it keeps its state. -/

namespace Sys2Proof.Machine

/-- The device after reset, but that thread 0, the first of core 0, has halted. -/
def haltedThread : Dev := Dev.reset.set (SYN_THn_STAT_STATE 0) 3

/-- Thread 4, of core 1, may start a slice of core 0 there: CORE is ON and nothing speaks against it (R572). -/
theorem haltedThread_grants_slice : haltedThread.domOn 3 = true ∧ haltedThread.get REL_BIST_TGT_TARGET = 0
    ∧ haltedThread.bistReason (4 : Fin 32) 0 = 0 := by decide

theorem bistSliceGo_keeps_haltedThread : (bistSliceGo (4 : Fin 32) haltedThread).tstate 0 = 3 := by decide

end Sys2Proof.Machine

namespace Sys2Proof.Proofs
open Sys2Proof Sys2Proof.Machine

/-- Refutes O49: at `haltedThread` a slice of core 0 is granted and thread 0 stays in state 3, where the clause on GO asks for 0. -/
theorem not_reliabilityCommandsComplete : ¬ Obligations.ReliabilityCommandsComplete := by
  unfold Obligations.ReliabilityCommandsComplete
  intro h
  obtain ⟨-, -, -, -, -, -, -, hgo, -⟩ := h ⟨haltedThread, []⟩
  obtain ⟨hon, htarget, hreason⟩ := haltedThread_grants_slice
  have hclause := (hgo 4).of_exec (State.run_eq _ _)
  dsimp only at hclause
  rw [if_neg (by simp [hon]), htarget, if_neg (not_not.mpr hreason), if_pos hon] at hclause
  obtain ⟨-, -, -, hstopped⟩ := hclause
  exact absurd ((bistSliceGo_keeps_haltedThread).symm.trans (hstopped (by decide))) (by decide)

end Sys2Proof.Proofs
end

section
/-! PROOFS. The hub's ports: why O41 fails as it stands. Its clause on a device that appears asks that WAKE.PEND stays as it was while the link is
not suspended. But a connection is a wake reason also while only the function is suspended (R477), and latches bit 3 then. -/

namespace Sys2Proof.Machine

/-- The device after reset with hub port 1 powered and the function suspended on a link that is not. -/
def suspendedFunction : Dev := (Dev.reset.set (USB_HPp_PWR 0) 1).modFn (fun f => { f with fsusp := true })

/-- The state meets what the clause asks for before it speaks of PEND: the pads reach the hub, and the port is powered and shown. -/
theorem suspendedFunction_takes_connection : suspendedFunction.reached 12 = true ∧ suspendedFunction.portLive (0 : Fin 15) = true
    ∧ suspendedFunction.get (USB_HPp_HIDE (0 : Fin 15)) = 0 ∧ suspendedFunction.get USB_STAT_SUSPENDED = 0
    ∧ suspendedFunction.get USB_WAKE_PEND = 0 := by decide

theorem hubPortConnect_latches_wake :
    (hubPortConnect (0 : Fin 15) (1 : Fin 3) (0 : Fin 3) suspendedFunction).get USB_WAKE_PEND = 8 := by decide

end Sys2Proof.Machine

namespace Sys2Proof.Proofs
open Sys2Proof Sys2Proof.Machine

/-- Refutes O41: at `suspendedFunction` the connection of a device latches wake reason 3, where the clause asks that none does. -/
theorem not_usbEndpointsAndPowerComplete : ¬ Obligations.UsbEndpointsAndPowerComplete := by
  unfold Obligations.UsbEndpointsAndPowerComplete
  intro h
  obtain ⟨-, -, -, -, -, -, -, -, -, -, -, -, -, hconnect, -⟩ := h ⟨suspendedFunction, []⟩
  obtain ⟨hreached, hlive, hshown, hawake, hpend⟩ := suspendedFunction_takes_connection
  have hclause := (hconnect 0 1 0).of_exec (State.run_eq _ _)
  dsimp only at hclause
  rw [if_neg (by simp [hreached]), if_neg (by simp), if_neg (by decide), if_neg (by rw [hlive, hshown]; decide), if_pos rfl, if_pos hreached] at hclause
  obtain ⟨-, -, -, hkeeps⟩ := hclause
  rw [if_neg (by simp [hawake]), hpend, hubPortConnect_latches_wake] at hkeeps
  exact absurd hkeeps (by decide)

end Sys2Proof.Proofs
end

section
/-! PROOFS. Deltas: why O39 fails as it stands. Its clause on a RECT out of bounds asks that memory stays as it was. But such a RECT asks a
refresh (R443, R445), a context without an allotment cannot send it and raises NOALLOT (R164), an enabled flag posts an event record
(R616), and a record is written into the ring of its queue, which lies in memory (R333). -/

namespace Sys2Proof.Machine

/-- A RECT of one pixel for layer 0: OP 1, ENC 0, width and height 1, no body. -/
def onePixelRect : List Byte := natBE 1 1 ++ natBE 1 0 ++ natBE 2 0 ++ natBE 4 0 ++ natBE 2 1 ++ natBE 2 1 ++ natBE 4 0

/-- That RECT from context 0, as it stands at the port. -/
def rectInbound : Inbound := ⟨0, ⟨1, 1, false, 0, 0, 0, 0, false, false, 0, 0, false, 0, 0⟩, onePixelRect⟩

/-- The device after reset with the ingest on, layer 0 of engine 0 enabled at size 0, and the RECT at the front for output 0; context 0 is of
class 1, and no allotment belongs to it. -/
def rectWaiting : Dev :=
  (((Dev.reset.set DSO_IN_CTL_EN 1).set (DSO_Dn_Ll_CFG_EN 0 0) 1).set (CTX_W0_CLASS 0) 1).modPort
    (fun p => { p with inq := p.inq.set 1152 [rectInbound] [] })

/-- The same with NOALLOT enabled, and the tunnel's records (source 0x10) routed to event queue 0, whose ring of 16 records begins at
address 0 (R164, R348, R349). -/
def rectWaitingRouted : Dev :=
  ((((rectWaiting.set TNL_EVT_EN_NOALLOT 1).set (SYN_EVROUTEk_QUEUE0 4) 0).set (SYN_EVROUTEk_EN0 4) 1).set
    (SYN_EVQq_CFG_EN 0) 1).set (SYN_EVQq_CFG_LOG2 0) 4

/-- The state meets what the clause asks for before it speaks of memory: the RECT stands at the front, may be taken, passes the first checks
and does not fit its layer. -/
theorem rectWaitingRouted_front : rectWaitingRouted.domOn 10 = true
    ∧ rectWaitingRouted.port.inq.get (1152 + (0 : Fin 2)) [] = [rectInbound] ∧ rectWaitingRouted.enginesIdle := by decide

theorem rectWaitingRouted_taken : ¬(rectWaitingRouted.flag DSO_IN_CTL_EN = false
    ∨ (beNat (onePixelRect.take 1) ≠ 1 ∧ beNat (onePixelRect.take 1) ≠ 0 ∧ beNat (onePixelRect.take 1) ≤ 3)
    ∨ (rectWaitingRouted.ingest (0 : Fin 2)).holds onePixelRect = true) := by decide

theorem rectWaitingRouted_checked : ¬(rectWaitingRouted.paired = true ∧ (0 : Fin 2).val = 1)
    ∧ ¬(onePixelRect.length < 16 ∨ beNat (onePixelRect.take 1) = 0 ∨ 3 < beNat (onePixelRect.take 1)
      ∨ (if beNat (onePixelRect.take 1) = 1 then 2 else 0) < (parseDelta onePixelRect).enc
      ∨ (beNat (onePixelRect.take 1) ≠ 2 ∧ 3 < (parseDelta onePixelRect).layer))
    ∧ ¬(beNat (onePixelRect.take 1) ≠ 2 ∧ rectWaitingRouted.flag (DSO_Dn_Ll_CFG_EN (0 : Fin 2) (parseDelta onePixelRect).layer) = false) := by
  decide

theorem rectWaitingRouted_outside :
    rectWaitingRouted.get (DSO_Dn_Ll_SIZE_W (0 : Fin 2) (parseDelta onePixelRect).layer)
        < (parseDelta onePixelRect).rect.x + (parseDelta onePixelRect).rect.w
      ∨ rectWaitingRouted.get (DSO_Dn_Ll_SIZE_H (0 : Fin 2) (parseDelta onePixelRect).layer)
        < (parseDelta onePixelRect).rect.y + (parseDelta onePixelRect).rect.h := by decide

/-- The RECT then puts the record of NOALLOT, code 0x0109, at the ring's first slot, which held 0. -/
theorem deltaRect_writes_noAllot_record :
    (deltaRect (0 : Fin 2) rectWaitingRouted).byte 1 = 1 ∧ rectWaitingRouted.byte 1 = 0 := by decide +kernel

theorem exec_deltaRect (n : Fin 2) (s : State) :
    exec (.deltaRect n) s = .next ⟨if s.dev.domOn 10 then deltaRect n s.dev else s.dev, s.pending⟩ := rfl

end Sys2Proof.Machine

namespace Sys2Proof.Proofs
open Sys2Proof Sys2Proof.Machine

/-- Refutes O39: at `rectWaitingRouted` the clause on RECT asks that memory stays as it was, but the refresh that cannot be sent writes the
record of NOALLOT into its event queue's ring. -/
theorem not_deltasAndRefreshComplete : ¬ Obligations.DeltasAndRefreshComplete := by
  unfold Obligations.DeltasAndRefreshComplete
  intro h
  obtain ⟨hrect, -⟩ := h ⟨rectWaitingRouted, []⟩
  clear h
  obtain ⟨hon, hfront, hidle⟩ := rectWaitingRouted_front
  obtain ⟨hlocked, hwhole, henabled⟩ := rectWaitingRouted_checked
  have hclause := (hrect 0).of_exec (exec_deltaRect 0 _)
  dsimp only at hclause
  rw [if_neg (by simp [hon]), if_pos hon] at hclause
  simp only [Dev.TakesDelta, hfront, show rectInbound.payload = onePixelRect from rfl] at hclause
  rw [if_neg rectWaitingRouted_taken] at hclause
  obtain ⟨-, -, -, hchecked⟩ := hclause
  rw [if_neg hlocked, if_neg hwhole, if_neg henabled, if_pos rectWaitingRouted_outside] at hchecked
  obtain ⟨-, -, hmem⟩ := hchecked
  obtain ⟨hafter, hbefore⟩ := deltaRect_writes_noAllot_record
  rw [Dev.byte, hmem hidle, ← Dev.byte, hbefore] at hafter
  exact absurd hafter (by decide)

end Sys2Proof.Proofs
end

section
/-! PROOFS. PMBus: why O45 fails as it stands. Its clause on a transaction that fails for good asks that the port's count of Hard Resets goes up by
one. But a Hard Reset ends the port's Tirrun mode (R427), the link in that mode fails, and the packet open on it is cut: a state in which that
packet names a cell of a bank that does not exist counts the freed cell where the Hard Resets are counted. -/

namespace Sys2Proof.Machine

/-- A bank number that the packet buffer does not have: its count of free cells would stand where C0's Hard Resets are counted. -/
def hresetBank : Nat := (PDC_Pn_HRESET_A 0 - SWC_BANKn_FREE_A 0) / 4

/-- The transaction of C0's regulator that waits for its outcome, retried already. -/
def retriedReq : PmbReq := ⟨0, 0, 0, 0, true⟩

/-- C0 attached in Tirrun mode, a packet of one cell of that bank open on its link, and the transaction in front. -/
def failedRegulator : Dev :=
  let d := Dev.reset.inTirrunService 0 3
  { d with
    power := { d.power with pmb := [retriedReq] }
    sw := { d.sw with
      pkts := [(0, { strayPkt with cells := [⟨16384 * hresetBank, .shared, [], false⟩] })], opens := [(2, [⟨0, 0, 0, 0, none⟩])] } }

theorem failedRegulator_front : failedRegulator.power.pmb = [retriedReq] ∧ failedRegulator.attached retriedReq.owner = true
    ∧ failedRegulator.get (PDC_Pn_HRESET_COUNT retriedReq.owner) = 0 := by decide

/-- The Hard Reset is counted, and then the cell freed is counted there too. -/
theorem pmbTransactionDone_failedRegulator :
    (pmbTransactionDone false false failedRegulator).get (PDC_Pn_HRESET_COUNT retriedReq.owner) = 2 := by decide +kernel

theorem exec_pmbTransactionDone (ok fault : Bool) (s : State) :
    exec (.pmbTransactionDone ok fault) s = .next ⟨pmbTransactionDone ok fault s.dev, s.pending⟩ := rfl

end Sys2Proof.Machine

namespace Sys2Proof.Proofs
open Sys2Proof Sys2Proof.Machine

/-- Refutes O45: at `failedRegulator` the second failure of C0's transaction takes its count of Hard Resets from 0 to 2, where the clause asks
for 1. -/
theorem not_regulatorsAndRailsComplete : ¬ Obligations.RegulatorsAndRailsComplete := by
  unfold Obligations.RegulatorsAndRailsComplete
  intro h
  obtain ⟨-, -, -, -, hdone, -⟩ := h ⟨failedRegulator, []⟩
  clear h
  obtain ⟨hfront, hattached, hzero⟩ := failedRegulator_front
  have hclause := (hdone false false).of_exec (exec_pmbTransactionDone _ _ _)
  dsimp only at hclause
  simp only [hfront] at hclause
  rw [if_neg (by decide)] at hclause
  obtain ⟨-, -, hfails⟩ := hclause
  obtain ⟨-, -, hreset⟩ := hfails trivial
  obtain ⟨-, hcount⟩ := hreset (by decide) hattached rfl
  rw [hzero, pmbTransactionDone_failedRegulator] at hcount
  exact absurd hcount (by decide)

end Sys2Proof.Proofs
end

section
/-! PROOFS. ROTATE: why O46 fails as it stands. Its clause asks that the operations that run are those that ran before, with the ROTATE behind them.
But a ROTATE invalidates what stands below its slot (R543), and a LOAD in progress below it is refused and runs no longer (R544). -/

namespace Sys2Proof.Machine

/-- An operation on a slot, with a DST in CTL SRAM that a flacon fits into. -/
def flaconOp (op slot : Nat) : KeyOp := ⟨1, op, slot, 0, 0, 0, 0, 0, 112, 0, 0, 0, 0⟩

/-- The LOAD in progress of slot 3. -/
def loadBelow : KeyRun := ⟨flaconOp 1 3, 0, [], some 3⟩

/-- RK held in slot 0, a WRAP key of its own in slot 2, a LOAD in progress below slot 2, and a ROTATE of slot 2 in front of the queue. -/
def rotateOverLoad : Dev :=
  let d := Dev.reset
  let d := (d.set (KSLOT_W0_STATE 0) 2).set (KSLOT_W0_USAGE 0) 1
  let d := (d.set (KSLOT_W0_STATE 2) 2).set (KSLOT_W0_USAGE 2) 1
  let d := (d.set (KSLOT_W0_STATE 3) 1).set (KSLOT_W0_PSLOT 3) 2
  d.modKey (fun k => { k with root := some [], fresh := false, queue := [flaconOp 3 2], running := [loadBelow] })

/-- The device from which that ROTATE goes on, once the expiry check is past; kept folded, for its 64 slots unfold too deep to look at. -/
@[irreducible] def rotateStart : Dev := keyExpiryCheck (rotateOverLoad.setKeyQueue [])

/-- The device in which the ROTATE has found its slot and the slot's parent usable. -/
def rotateParent : Dev := ((rotateStart.reload 2).2.useParent 2).2

theorem rotateOverLoad_takes : rotateOverLoad.domOn 4 = true ∧ rotateOverLoad.key.queue = [flaconOp 3 2]
    ∧ rotateOverLoad.key.root = some [] ∧ rotateOverLoad.keyWaits (flaconOp 3 2) = false := by decide +kernel

theorem flaconOp_op (op slot : Nat) : (flaconOp op slot).op = op := rfl
theorem flaconOp_slot (op slot : Nat) : (flaconOp op slot).slot = slot := rfl
theorem rotateStart_eq : keyExpiryCheck (rotateOverLoad.setKeyQueue []) = rotateStart := by unfold rotateStart; rfl
theorem rotateParent_eq : ((rotateStart.reload 2).2.useParent 2).2 = rotateParent := rfl

/-- No refusal meets the ROTATE: its slot and the parent are LOADED, the random source is healthy, and its output fits. -/
theorem rotateStart_usable : (rotateStart.reload 2).1 = 0 ∧ (rotateStart.reload 2).2.slotOf 2 = 2
    ∧ ((rotateStart.reload 2).2.useParent 2).1 = 0 := by decide +kernel

theorem rotateParent_usable : rotateParent.key.rngBad = false ∧ rotateParent.dstFits (flaconOp 3 2) 112 = true
    ∧ rotateParent.key.running = [loadBelow] := by decide +kernel

/-- The ROTATE alone runs afterwards. -/
theorem keyRotate_rotateOverLoad_running : (keyRotate rotateOverLoad).key.running.length = 1 := by decide +kernel

theorem exec_keyRotate (s : State) : s.dev.domOn 4 = true → exec .keyRotate s = .next ⟨keyRotate s.dev, s.pending⟩ := by
  intro hon
  show s.runOn 4 keyRotate = _
  simp [State.runOn, State.run, hon]

end Sys2Proof.Machine

namespace Sys2Proof.Proofs
open Sys2Proof Sys2Proof.Machine

/-- Refutes O46: at `rotateOverLoad` the LOAD below slot 2 runs before the ROTATE and not after it, where the clause asks that it still runs. -/
theorem not_keyOperationsComplete : ¬ Obligations.KeyOperationsComplete := by
  unfold Obligations.KeyOperationsComplete
  intro h
  obtain ⟨-, -, hrotate, -⟩ := h ⟨rotateOverLoad, []⟩
  clear h
  obtain ⟨hon, hqueue, hroot, hwaits⟩ := rotateOverLoad_takes
  obtain ⟨hreload, hslot, hparent⟩ := rotateStart_usable
  obtain ⟨hrng, hfits, hrunning⟩ := rotateParent_usable
  have hclause := hrotate.of_exec (exec_keyRotate _ hon)
  dsimp only at hclause
  simp only [hon, Dev.KeyTakes, hqueue, hwaits] at hclause
  rw [hroot] at hclause
  simp only [flaconOp_op, reduceCtorEq, and_false, ne_eq, not_true, or_self, if_false, rotateStart_eq] at hclause
  obtain ⟨-, hstarts⟩ := hclause
  rw [if_neg (by decide), flaconOp_slot, hreload, hslot, hparent, rotateParent_eq, hrng, hfits, hrunning,
    if_neg (by decide), if_neg (by decide), if_neg (by decide), if_neg (by decide), if_neg (by decide), if_neg (by decide),
    if_neg (by decide)] at hstarts
  obtain ⟨-, hdrop, -⟩ := hstarts
  have hlength := congrArg List.length hdrop
  rw [List.length_dropLast, keyRotate_rotateOverLoad_running] at hlength
  exact absurd hlength (by decide)

end Sys2Proof.Proofs
end

section
/-! PROOFS. The scanout engines' operations: what each reads as afterwards, and what it leaves as it was. -/

namespace Sys2Proof.Machine
variable (d : Dev)

/-! ### Panels -/

@[simp] theorem Dev.panel_set (f : Fld) (v m : Nat) : (d.set f v).panel m = d.panel m := rfl
@[simp] theorem Dev.panel_setB (f : Fld) (b : Bool) (m : Nat) : (d.setB f b).panel m = d.panel m := rfl
@[simp] theorem Dev.panel_inc (f : Fld) (m : Nat) : (d.inc f).panel m = d.panel m := rfl
@[simp] theorem Dev.panel_raise (f : Fld) (m : Nat) : (d.raise f).panel m = d.panel m := by
  unfold Dev.panel; rw [(d.raise_core f).scan]
@[simp] theorem Dev.panel_modPanel_same (n : Nat) (f : Panel → Panel) : (d.modPanel n f).panel n = f (d.panel n) := Tab.get_set_same ..
theorem Dev.panel_modPanel_ne {n m : Nat} (f : Panel → Panel) (h : m ≠ n) : (d.modPanel n f).panel m = d.panel m := Tab.get_set_ne h ..
@[simp] theorem Dev.panel_setIngest (n m : Nat) (g : Ingest) : (d.setIngest n g).panel m = d.panel m := rfl
@[simp] theorem Dev.dso_modPanel (n m : Nat) (f : Panel → Panel) : (d.modPanel n f).dso m = d.dso m := rfl

/-- A field of a display engine, or one that no event queue holds. -/
theorem Dev.get_raise_ne (g : Fld) {f : Fld} (h : f.key ≠ g.key) (hf : notEvq f) : (d.raise g).get f = d.get f := d.raise_get g hf h

/-- A field of one bit reads what its flag says. -/
theorem Dev.get_eq_b2n_flag {f : Fld} (hw : f.w = 1) : d.get f = b2n (d.flag f) := by
  have := d.get_lt f
  rw [hw] at this
  unfold Dev.flag b2n
  simp only [bne_iff_ne]
  split <;> omega

/-! ### States entered -/

theorem Dev.setDso_get (n st : Nat) {f : Fld} (h : f.key ∉ [(DSO_Dn_STAT_STATE n).key, (DSO_Dn_COVER_NS n).key]) :
    (d.setDso n st).get f = d.get f := by
  simp only [List.mem_cons, List.not_mem_nil, or_false, not_or] at h
  exact (Dev.get_set_ne _ _ h.2).trans (Dev.get_set_ne _ _ h.1)

theorem state_ne_cover (n m : Nat) : (DSO_Dn_STAT_STATE n).key ≠ (DSO_Dn_COVER_NS m).key := by
  simp only [DSO_Dn_STAT_STATE, DSO_Dn_STAT_A, DSO_Dn_COVER_NS, DSO_Dn_COVER_A]; omega

theorem state_ne_state {n m : Nat} (h : n ≠ m) : (DSO_Dn_STAT_STATE n).key ≠ (DSO_Dn_STAT_STATE m).key := by
  simp only [DSO_Dn_STAT_STATE, DSO_Dn_STAT_A]; omega

theorem Dev.setDso_dso (n st : Nat) : (d.setDso n st).dso n = st % 8 :=
  (Dev.get_set_ne _ _ (state_ne_cover n n)).trans (Dev.get_set_same _ _ _)

theorem Dev.setDso_dso_ne {n m : Nat} (st : Nat) (h : m ≠ n) : (d.setDso n st).dso m = d.dso m :=
  d.setDso_get n st (by simpa using ⟨state_ne_state h, state_ne_cover m n⟩)

@[simp] theorem Dev.setDso_panel (n st m : Nat) : (d.setDso n st).panel m = d.panel m := rfl

/-! ### Video stopped -/

/-- A panel whose video has stopped; `t`: it waits to start with the other half. -/
def Panel.stopped (p : Panel) (t : Bool) : Panel := { p with sending := false, late := false, trained := t, gap := none, shown := false }

/-- An engine whose own video has stopped, before what follows for the other half. -/
def Dev.stopOwn (n st : Nat) (d : Dev) : Dev :=
  (((d.modPanel n (fun p => p.stopped false)).setDso n st).set (DSO_Dn_STAT_LANES_ACT n) 0).set (DSO_Dn_STAT_RATE_ACT n) 0

/-- The fields that an engine's video stopping writes. -/
def stopKeys (n : Nat) : List Nat :=
  [(DSO_Dn_STAT_STATE n).key, (DSO_Dn_COVER_NS n).key, (DSO_Dn_STAT_LANES_ACT n).key, (DSO_Dn_STAT_RATE_ACT n).key]

theorem Dev.stopOwn_get (n st : Nat) {f : Fld} (h : f.key ∉ stopKeys n) : (d.stopOwn n st).get f = d.get f := by
  simp only [stopKeys, List.mem_cons, List.not_mem_nil, or_false, not_or] at h
  obtain ⟨hstate, hcover, hlanes, hrate⟩ := h
  unfold Dev.stopOwn
  rw [Dev.get_set_ne _ _ hrate, Dev.get_set_ne _ _ hlanes, Dev.setDso_get _ _ _ (by simp [hstate, hcover]), Dev.modPanel_get]

theorem lock_notMem_stopKeys : ∀ n : Fin 2, DSO_CTL_LOCK.key ∉ stopKeys n := by decide

theorem Dev.stopVideo_eq (n : Fin 2) (st : Nat) : d.stopVideo n st = if d.paired = true ∧ (d.dso n = 2 ∨ d.dso n = 3)
    ∧ (d.dso (1 - n.val) = 2 ∨ d.dso (1 - n.val) = 3)
    then ((d.stopOwn n st).modPanel (1 - n.val) (fun p => p.stopped true)).setDso (1 - n.val) 1 else d.stopOwn n st := by
  have hother : (d.stopOwn n st).dso (1 - n.val) = d.dso (1 - n.val) := d.stopOwn_get _ _ (by decide +revert)
  have hpaired : (d.stopOwn n st).paired = d.paired := by
    simp only [Dev.paired, Dev.flag, d.stopOwn_get _ _ (lock_notMem_stopKeys n)]
  rw [← hpaired, ← hother]
  rfl

theorem Dev.stopVideo_get (n : Fin 2) (st : Nat) {f : Fld} (h : f.key ∉ stopKeys n) (ho : f.key ∉ stopKeys (1 - n.val)) :
    (d.stopVideo n st).get f = d.get f := by
  rw [d.stopVideo_eq]
  split
  · rw [Dev.setDso_get, Dev.modPanel_get, d.stopOwn_get _ _ h]
    simp only [stopKeys, List.mem_cons, List.not_mem_nil, or_false, not_or] at ho ⊢
    exact ⟨ho.1, ho.2.1⟩
  · exact d.stopOwn_get _ _ h

theorem other_notMem_stopKeys : ∀ n : Fin 2, ∀ k ∈ stopKeys n, k ∉ stopKeys (1 - n.val) := by decide

/-- What the engine itself reads as is what its own part of the stop leaves. -/
theorem Dev.stopVideo_own (n : Fin 2) (st : Nat) {f : Fld} (h : f.key ∈ stopKeys n) : (d.stopVideo n st).get f = (d.stopOwn n st).get f := by
  rw [d.stopVideo_eq]
  split
  · have ho := other_notMem_stopKeys n _ h
    rw [Dev.setDso_get, Dev.modPanel_get]
    simp only [stopKeys, List.mem_cons, List.not_mem_nil, or_false, not_or] at ho ⊢
    exact ⟨ho.1, ho.2.1⟩
  · rfl

theorem Dev.stopVideo_dso (n : Fin 2) (st : Nat) : (d.stopVideo n st).dso n = st % 8 := by
  have key : ∀ n : Fin 2, (DSO_Dn_STAT_STATE n).key ≠ (DSO_Dn_STAT_RATE_ACT n).key ∧ (DSO_Dn_STAT_STATE n).key ≠ (DSO_Dn_STAT_LANES_ACT n).key := by
    decide
  rw [Dev.dso, d.stopVideo_own n st (by simp [stopKeys]), Dev.stopOwn, Dev.get_set_ne _ _ (key n).1, Dev.get_set_ne _ _ (key n).2]
  exact Dev.setDso_dso _ _ _

theorem Dev.stopVideo_lanes (n : Fin 2) (st : Nat) : (d.stopVideo n st).get (DSO_Dn_STAT_LANES_ACT n) = 0 := by
  rw [d.stopVideo_own n st (by simp [stopKeys]), Dev.stopOwn, Dev.get_set_ne _ _ (by decide +revert)]
  exact Dev.get_set_same _ _ _

theorem Dev.stopVideo_rate (n : Fin 2) (st : Nat) : (d.stopVideo n st).get (DSO_Dn_STAT_RATE_ACT n) = 0 := by
  rw [d.stopVideo_own n st (by simp [stopKeys]), Dev.stopOwn]
  exact Dev.get_set_same _ _ _

theorem Dev.stopOwn_panel (n st : Nat) : (d.stopOwn n st).panel n = (d.panel n).stopped false := d.panel_modPanel_same n (fun p => p.stopped false)

theorem Dev.stopVideo_panel (n : Fin 2) (st : Nat) : (d.stopVideo n st).panel n = (d.panel n).stopped false := by
  rw [d.stopVideo_eq]
  split
  · rw [Dev.setDso_panel, Dev.panel_modPanel_ne _ _ (by omega), d.stopOwn_panel]
  · exact d.stopOwn_panel _ _

/-- The other half of a running locked pair trains again with the engine. -/
theorem Dev.stopVideo_other (n : Fin 2) (st : Nat) (hp : d.paired = true) (hn : d.dso n = 2 ∨ d.dso n = 3)
    (ho : d.dso (1 - n.val) = 2 ∨ d.dso (1 - n.val) = 3) :
    (d.stopVideo n st).dso (1 - n.val) = 1 ∧ ((d.stopVideo n st).panel (1 - n.val)).trained = true := by
  rw [d.stopVideo_eq, if_pos ⟨hp, hn, ho⟩, Dev.setDso_dso, Dev.setDso_panel, Dev.panel_modPanel_same]
  exact ⟨rfl, rfl⟩

theorem Dev.stopVideo_mem (n : Fin 2) (st : Nat) : (d.stopVideo n st).mem = d.mem := by
  rw [d.stopVideo_eq]
  split <;> rfl

theorem Dev.stopVideo_hpd (n : Fin 2) (st : Nat) : (d.stopVideo n st).scan.hpd = d.scan.hpd := by
  rw [d.stopVideo_eq]
  split <;> rfl

/-! ### What an output carries -/

section
variable {d} {e : Dev} {n : Nat}

theorem Dev.domOn_congr {k : Nat} (hstate : e.get (PWR_Dd_STAT_STATE k) = d.get (PWR_Dd_STAT_STATE k))
    (hphase : e.get (PWR_Dd_STAT_PHASE k) = d.get (PWR_Dd_STAT_PHASE k)) : e.domOn k = d.domOn k := by
  simp only [Dev.domOn, hstate, hphase]

/-- Whether a field lies below the display's registers and in no event queue. -/
def beforeDso (f : Fld) : Prop := f.key < 8 * 0x10D00000 ∧ notEvq f

theorem Dev.carries_congr (hroute : e.get (DSO_Dn_CTL_ROUTE n) = d.get (DSO_Dn_CTL_ROUTE n))
    (hget : ∀ f, beforeDso f → e.get f = d.get f) : e.carries n = d.carries n := by
  have hdom : ∀ k, e.domOn (laneDomain k) = d.domOn (laneDomain k) := fun k => by
    have hlane : laneDomain k = 7 ∨ laneDomain k = 8 := by unfold laneDomain; split <;> simp
    obtain hl | hl := hlane <;> rw [hl] <;> refine Dev.domOn_congr (hget _ ?_) (hget _ ?_) <;> unfold beforeDso notEvq <;> decide
  by_cases hr : d.get (DSO_Dn_CTL_ROUTE n) ≤ 8
  · have halt : e.get (PDC_Pn_STAT_ALT (d.get (DSO_Dn_CTL_ROUTE n) - 1)) = d.get (PDC_Pn_STAT_ALT (d.get (DSO_Dn_CTL_ROUTE n) - 1)) :=
      hget _ (by simp only [beforeDso, notEvq, PDC_Pn_STAT_ALT, PDC_Pn_STAT_A]; omega)
    simp only [Dev.carries, hroute, hdom, halt]
  · simp only [Dev.carries, hroute, decide_eq_false hr, Bool.false_and]

theorem Dev.hpdIn_congr (hroute : e.get (DSO_Dn_CTL_ROUTE n) = d.get (DSO_Dn_CTL_ROUTE n))
    (hget : ∀ f, beforeDso f → e.get f = d.get f) (hpin : e.scan.hpd = d.scan.hpd) : e.hpdIn n = d.hpdIn n := by
  have hport : e.get (PDC_Pn_STAT_HPD (d.get (DSO_Dn_CTL_ROUTE n) - 1)) = d.get (PDC_Pn_STAT_HPD (d.get (DSO_Dn_CTL_ROUTE n) - 1)) := by
    have := d.get_lt (DSO_Dn_CTL_ROUTE n)
    exact hget _ (by simp only [beforeDso, notEvq, PDC_Pn_STAT_HPD, PDC_Pn_STAT_A, DSO_Dn_CTL_ROUTE] at *; omega)
  simp only [Dev.hpdIn, hroute, hpin, Dev.carries_congr hroute hget, Dev.flag, hport]

end

/-! ### Hot plug detect seen -/

/-- The level of HPD shown, and a change of it raised. -/
def Dev.noteHpd (n : Nat) (d : Dev) : Dev :=
  if d.flag (DSO_Dn_STAT_HPD n) != d.hpdIn n then (d.setB (DSO_Dn_STAT_HPD n) (d.hpdIn n)).raise (DSO_Dn_EVT_HPD_CHANGE n) else d

theorem Dev.noteHpd_get (n : Nat) {f : Fld} (hf : notEvq f) (h : f.key ≠ (DSO_Dn_STAT_HPD n).key) (he : f.key ≠ (DSO_Dn_EVT_HPD_CHANGE n).key) :
    (d.noteHpd n).get f = d.get f := by
  unfold Dev.noteHpd
  split
  · rw [Dev.raise_get _ _ hf he, Dev.get_setB_ne _ _ h]
  · rfl

theorem Dev.noteHpd_scan (n : Nat) : (d.noteHpd n).scan = d.scan := by
  unfold Dev.noteHpd
  split
  · exact (Dev.raise_core _ _).scan
  · rfl

theorem Dev.noteHpd_panel (n m : Nat) : (d.noteHpd n).panel m = d.panel m := by
  unfold Dev.panel; rw [d.noteHpd_scan]

theorem hpd_notEvq (n : Nat) : notEvq (DSO_Dn_STAT_HPD n) ∧ notEvq (DSO_Dn_EVT_HPD_CHANGE n) := by
  constructor <;> refine .inr ?_ <;> simp only [DSO_Dn_STAT_HPD, DSO_Dn_STAT_A, DSO_Dn_EVT_HPD_CHANGE, DSO_Dn_EVT_A] <;> omega

theorem Dev.noteHpd_hpd (n : Fin 2) : (d.noteHpd n).get (DSO_Dn_STAT_HPD n) = b2n (d.hpdIn n) := by
  unfold Dev.noteHpd
  split
  · rw [Dev.raise_get _ _ (hpd_notEvq n).1 (by clear * -; decide +revert), Dev.get_setB_same]
    exact Nat.mod_eq_of_lt (b2n_lt _)
  · next h =>
    have hflag : d.flag (DSO_Dn_STAT_HPD n) = d.hpdIn n := by simpa using h
    rw [← hflag, d.get_eq_b2n_flag rfl]

theorem Dev.noteHpd_change (n : Nat) (h : d.flag (DSO_Dn_STAT_HPD n) ≠ d.hpdIn n) : (d.noteHpd n).get (DSO_Dn_EVT_HPD_CHANGE n) = 1 := by
  rw [Dev.noteHpd, if_pos (by simpa using h)]
  exact Dev.raise_self _ _ (hpd_notEvq n).2 (by simp [DSO_Dn_EVT_HPD_CHANGE])

theorem Dev.noteHpd_dso (n : Fin 2) (m : Nat) : (d.noteHpd n).dso m = d.dso m :=
  d.noteHpd_get n (.inr (by simp only [DSO_Dn_STAT_STATE, DSO_Dn_STAT_A]; omega))
    (by simp only [DSO_Dn_STAT_STATE, DSO_Dn_STAT_A, DSO_Dn_STAT_HPD]; omega)
    (by simp only [DSO_Dn_STAT_STATE, DSO_Dn_STAT_A, DSO_Dn_EVT_HPD_CHANGE, DSO_Dn_EVT_A]; omega)

theorem Dev.noteHpd_carries (n : Fin 2) : (d.noteHpd n).carries n = d.carries n := by
  refine Dev.carries_congr (d.noteHpd_get n (.inr ?_) ?_ ?_) fun f hf => d.noteHpd_get n hf.2 ?_ ?_
  · decide +revert
  · decide +revert
  · decide +revert
  all_goals
    have := hf.1
    simp only [DSO_Dn_STAT_HPD, DSO_Dn_STAT_A, DSO_Dn_EVT_HPD_CHANGE, DSO_Dn_EVT_A]; omega

theorem Dev.hpdSync_eq (n : Fin 2) : d.hpdSync n =
    if d.carries n = false ∧ (d.dso n = 1 ∨ d.dso n = 2 ∨ d.dso n = 3) then (d.noteHpd n).stopVideo n 4
    else if d.hpdIn n = true ∧ d.dso n = 4 then (d.noteHpd n).setDso n 1 else d.noteHpd n := by
  simp only [← d.noteHpd_dso n n, ← d.noteHpd_carries n]
  unfold Dev.hpdSync
  simp only [Bool.not_eq_true']
  rfl

/-- The fields that an engine's sight of HPD may write. -/
def hpdKeys (n : Nat) : List Nat := [(DSO_Dn_STAT_HPD n).key, (DSO_Dn_EVT_HPD_CHANGE n).key]

theorem Dev.hpdSync_of_note (n : Fin 2) {f : Fld} (h : f.key ∉ stopKeys n) (ho : f.key ∉ stopKeys (1 - n.val)) :
    (d.hpdSync n).get f = (d.noteHpd n).get f := by
  rw [d.hpdSync_eq]
  split
  · exact Dev.stopVideo_get _ n 4 h ho
  · split
    · refine Dev.setDso_get _ _ _ fun hmem => h ?_
      simp only [stopKeys, List.mem_cons, List.not_mem_nil, or_false] at hmem ⊢
      tauto
    · rfl

theorem Dev.hpdSync_get (n : Fin 2) {f : Fld} (hf : notEvq f) (h : f.key ∉ stopKeys n ++ stopKeys (1 - n.val) ++ hpdKeys n) :
    (d.hpdSync n).get f = d.get f := by
  simp only [List.mem_append, not_or, hpdKeys, List.mem_cons, List.not_mem_nil, or_false] at h
  obtain ⟨⟨hown, hother⟩, hhpd, hchange⟩ := h
  rw [d.hpdSync_of_note n hown hother, d.noteHpd_get n hf hhpd hchange]

theorem Dev.hpdSync_hpd (n : Fin 2) : (d.hpdSync n).get (DSO_Dn_STAT_HPD n) = b2n (d.hpdIn n) := by
  rw [d.hpdSync_of_note n (by decide +revert) (by decide +revert), d.noteHpd_hpd]

theorem Dev.hpdSync_change (n : Fin 2) (h : d.flag (DSO_Dn_STAT_HPD n) ≠ d.hpdIn n) : (d.hpdSync n).get (DSO_Dn_EVT_HPD_CHANGE n) = 1 := by
  have key : ∀ n : Fin 2, (DSO_Dn_EVT_HPD_CHANGE n).key ∉ stopKeys n ∧ (DSO_Dn_EVT_HPD_CHANGE n).key ∉ stopKeys (1 - n.val) := by decide
  rw [d.hpdSync_of_note n (key n).1 (key n).2, d.noteHpd_change n h]

theorem Dev.dso_lt (n : Nat) : d.dso n < 8 := d.get_lt _

theorem Dev.hpdSync_dso (n : Fin 2) : (d.hpdSync n).dso n = d.stateFor n (d.hpdIn n) := by
  rw [d.hpdSync_eq]
  unfold Dev.stateFor
  split
  · exact Dev.stopVideo_dso _ n 4
  · split
    · exact Dev.setDso_dso _ _ _
    · exact d.noteHpd_dso n n

/-- Where an engine's video has not stopped, its panel is as it was; else it is stopped. -/
theorem Dev.hpdSync_panel (n : Fin 2) : (d.hpdSync n).panel n =
    if d.carries n = false ∧ (d.dso n = 1 ∨ d.dso n = 2 ∨ d.dso n = 3) then (d.panel n).stopped false else d.panel n := by
  rw [d.hpdSync_eq]
  split
  · rw [Dev.stopVideo_panel, d.noteHpd_panel]
  · split
    · exact d.noteHpd_panel n n
    · exact d.noteHpd_panel n n

theorem Dev.hpdSync_pin (n : Fin 2) : (d.hpdSync n).scan.hpd = d.scan.hpd := by
  rw [d.hpdSync_eq]
  split
  · rw [Dev.stopVideo_hpd, d.noteHpd_scan]
  · split
    · exact congrArg ScanPart.hpd (d.noteHpd_scan n)
    · exact congrArg ScanPart.hpd (d.noteHpd_scan n)

end Sys2Proof.Machine
end

section
/-! PROOFS. Commits: the pending set of an engine, and what leaves it as it was. -/

namespace Sys2Proof.Machine

/-! ### The pending set -/

theorem Tab.filter_erase {α : Type} {p : Nat → Bool} {k : Nat} (h : p k = false) (t : Tab α) :
    (Tab.erase k t).filter (fun x => p x.1) = t.filter (fun x => p x.1) := by
  induction t with
  | nil => rfl
  | cons x t ih =>
    obtain ⟨k', v⟩ := x
    by_cases e : k' = k
    · subst e; simp [Tab.erase, ih, h]
    · simp [Tab.erase, e, List.filter_cons, ih]

theorem Tab.filter_insert {α : Type} {p : Nat → Bool} {k : Nat} (h : p k = false) (v : α) (t : Tab α) :
    (Tab.insert k v t).filter (fun x => p x.1) = t.filter (fun x => p x.1) := by
  induction t with
  | nil => simp [Tab.insert, h]
  | cons x t ih =>
    obtain ⟨k', v'⟩ := x
    by_cases e : k < k'
    · simp [Tab.insert, e, List.filter_cons, h]
    · simp [Tab.insert, e, List.filter_cons, ih]

theorem Tab.filter_set {α : Type} [DecidableEq α] {p : Nat → Bool} {k : Nat} (h : p k = false) (t : Tab α) (v dflt : α) :
    (Tab.set t k v dflt).filter (fun x => p x.1) = t.filter (fun x => p x.1) := by
  unfold Tab.set
  split
  · exact Tab.filter_erase h t
  · rw [Tab.filter_insert h, Tab.filter_erase h]

/-- The pending set of an engine (R447). -/
def Dev.pendingSet (d : Dev) (n : Nat) : Tab Nat := d.flds.filter (fun x => inSet n x.1)

/-- Whether a field is none of the display's. -/
def besideDso (f : Fld) : Prop := f.key < 8 * 0x10D00000 ∨ 8 * 0x10D10000 ≤ f.key

theorem inSet_of_beside (n : Fin 2) {f : Fld} (h : besideDso f) : inSet n f.key = false := by
  have hn := n.isLt
  unfold besideDso at h
  simp only [inSet, Bool.or_eq_false_iff, Bool.and_eq_false_iff, beq_eq_false_iff_ne, decide_eq_false_iff_not]
  omega

/-- Whether two devices agree on what a commit reads beside the display's own fields: what software has written in the present cycle, and the
pending sets. -/
def Dev.SamePending (d e : Dev) : Prop := e.cycle.words = d.cycle.words ∧ ∀ n : Fin 2, e.pendingSet n = d.pendingSet n

theorem Dev.SamePending.refl (d : Dev) : d.SamePending d := ⟨rfl, fun _ => rfl⟩

theorem Dev.SamePending.trans {d e f : Dev} (h : d.SamePending e) (k : e.SamePending f) : d.SamePending f :=
  ⟨k.1.trans h.1, fun n => (k.2 n).trans (h.2 n)⟩

theorem Dev.samePending_set (d : Dev) {f : Fld} (h : besideDso f) (v : Nat) : d.SamePending (d.set f v) :=
  ⟨rfl, fun n => Tab.filter_set (inSet_of_beside n h) _ _ _⟩

theorem Dev.store_pending (d : Dev) (a n v : Nat) : d.SamePending (d.store a n v) := by
  have hwords := congrArg (fun x : Dev => x.cycle.words) (Dev.putBytes_rest (natLE n v) d a)
  refine ⟨hwords, fun k => ?_⟩
  rw [Dev.pendingSet, Dev.store_flds, Dev.pendingSet]

theorem Dev.evqWrite_pending (d : Dev) (q : Nat) (r : EvRec) (hq : q < 32) : d.SamePending (d.evqWrite q r) := by
  have hidx : besideDso (SYN_EVQq_WR_IDX q) := .inl (by simp only [SYN_EVQq_WR_IDX, SYN_EVQq_WR_A]; omega)
  unfold Dev.evqWrite
  dsimp only
  refine .trans ?_ (Dev.samePending_set _ hidx _)
  split
  · exact d.store_pending _ _ _
  · exact .refl d

theorem Dev.postQ_pending (d : Dev) (q : Nat) (r : EvRec) (hq : q < 32) : d.SamePending (d.postQ q r) := by
  unfold Dev.postQ
  split
  · split
    · exact d.samePending_set (.inl (by simp only [SYN_EVQq_DROP_COUNT, SYN_EVQq_DROP_A]; omega)) _
    · exact d.evqWrite_pending q r hq
  · exact d.samePending_set (.inl (by decide)) _

theorem Dev.route_lt (d : Dev) {src q : Nat} (h : d.route src = some q) : q < 32 := by
  simp only [Dev.route] at h
  split at h
  · injection h with h; exact h ▸ d.get_lt _
  · cases h

theorem Dev.post_pending (d : Dev) (r : EvRec) : d.SamePending (d.post r) := by
  unfold Dev.post
  split
  · split
    · next q hq =>
      refine d.postQ_pending q r ?_
      split at hq
      · injection hq with hq; exact hq ▸ d.get_lt USB_CTL_EVQ
      · split at hq
        · injection hq with hq; exact hq ▸ d.get_lt KEY_CTL_EVQ
        · exact d.route_lt hq
    · exact d.samePending_set (.inl (by decide)) _
  · exact .refl d

theorem Dev.raise_pending (d : Dev) {f : Fld} (h : besideDso f) : d.SamePending (d.raise f) := by
  unfold Dev.raise Dev.setFlag
  dsimp only
  split
  · exact d.samePending_set h 1
  · split
    · exact (d.samePending_set h 1).trans (Dev.post_pending _ _)
    · exact d.samePending_set h 1

theorem Dev.silPost_pending (d : Dev) (src code args : Nat) : d.SamePending (d.silPost src code args) := by
  have hcount : d.SamePending { d.inc SIL_DROP_COUNT with sil := { d.sil with lost := d.sil.lost + 1 } } :=
    d.samePending_set (f := SIL_DROP_COUNT) (.inr (by decide)) (d.get SIL_DROP_COUNT + 1)
  have hdrop : d.SamePending d.silDrop := by
    unfold Dev.silDrop
    exact hcount.trans (Dev.raise_pending _ (.inr (by decide)))
  have htaken (l : List SilEntry) : d.SamePending (if d.sil.fifo.length < 256 then { d with sil := { d.sil with fifo := l } } else d.silDrop) := by
    split
    · exact ⟨rfl, fun _ => rfl⟩
    · exact hdrop
  unfold Dev.silPost
  dsimp only
  generalize (if src < 32 then (d.get SIL_SRC_EN_LO_MASK).testBit src else (d.get SIL_SRC_EN_HI_MASK).testBit (src - 32)) = en
  split
  · exact htaken _
  · exact .refl d

/-! ### A read of a memory -/

/-- Whether two devices agree on all that the display reads. -/
structure Dev.SameDisplay (d e : Dev) : Prop where
  scan : e.scan = d.scan
  time : e.time = d.time
  power : e.power = d.power
  pending : d.SamePending e
  get : ∀ f : Fld, ¬besideDso f → e.get f = d.get f

theorem Dev.SameDisplay.refl (d : Dev) : d.SameDisplay d := ⟨rfl, rfl, rfl, .refl d, fun _ _ => rfl⟩

theorem Dev.SameDisplay.trans {d e f : Dev} (h : d.SameDisplay e) (k : e.SameDisplay f) : d.SameDisplay f :=
  ⟨k.scan.trans h.scan, k.time.trans h.time, k.power.trans h.power, h.pending.trans k.pending, fun g hg => (k.get g hg).trans (h.get g hg)⟩

theorem Dev.raise_display (d : Dev) {g : Fld} (h : besideDso g) : d.SameDisplay (d.raise g) where
  scan := (d.raise_core g).scan
  time := (d.raise_core g).time
  power := (d.raise_core g).power
  pending := d.raise_pending h
  get f hf := d.raise_get g (.inr (by unfold besideDso at hf; omega)) fun heq => hf (by unfold besideDso at h ⊢; omega)

theorem Dev.silPost_display (d : Dev) (src code args : Nat) : d.SameDisplay (d.silPost src code args) where
  scan := (d.silPost_core src code args).scan
  time := (d.silPost_core src code args).time
  power := (d.silPost_core src code args).power
  pending := d.silPost_pending src code args
  get f hf := d.silPost_get src code args ⟨.inr (by unfold besideDso at hf; omega), .inl (by unfold besideDso at hf; omega)⟩

theorem Dev.setBank_display (d : Dev) (mem b : Nat) (x : BankSt) : d.SameDisplay (d.setBank mem b x) :=
  ⟨rfl, rfl, rfl, .refl d, fun _ _ => rfl⟩

theorem Dev.addFlaw_display (d : Dev) (w : Nat) : d.SameDisplay (d.addFlaw w) := by
  unfold Dev.addFlaw
  split
  · exact .refl d
  · exact ⟨rfl, rfl, rfl, .refl d, fun _ _ => rfl⟩

/-- A word read found in error is reported beside the display. -/
theorem Dev.memRead_display (d : Dev) (mem b word : Nat) (ecc : Ecc) : d.SameDisplay (d.memRead mem b word ecc) := by
  cases ecc with
  | ok => exact .refl d
  | ce => exact (d.setBank_display _ _ _).trans (Dev.raise_display _ (.inr (by decide)))
  | ue =>
    have hflaw : d.SameDisplay (if flawCounts mem then d.addFlaw (flawKey mem b word) else d) := by
      split
      · exact d.addFlaw_display _
      · exact .refl d
    exact ((hflaw.trans (Dev.setBank_display _ _ _ _)).trans (Dev.raise_display _ (.inr (by decide)))).trans (Dev.silPost_display _ _ _ _)

/-! ### A commit -/

/-- The fields that a commit writes. -/
def commitKeys (n : Nat) : List Nat := [(DSO_Dn_COMMIT_GO n).key, (DSO_Dn_APPLIED_COUNT n).key, (DSO_Dn_FLIPTS_SEC_SEC n).key,
  (DSO_Dn_FLIPTS_NS_NS n).key, (DSO_Dn_EVT_FLIP n).key]

/-- The fields that a commit leaves of a count, of GO and of a FLIP's stamp. -/
def commitFlds (n : Nat) : List Fld :=
  [DSO_Dn_COMMIT_GO n, DSO_Dn_APPLIED_COUNT n, DSO_Dn_FLIPTS_SEC_SEC n, DSO_Dn_FLIPTS_NS_NS n, DSO_Dn_EVT_FLIP n]

/-- The layers whose FRONT a commit changes. -/
def Dev.turned (n : Nat) (d : Dev) : List Nat :=
  (List.range 4).filter (fun l => (d.panel n).active.get (DSO_Dn_Ll_CFG_FRONT n l).key 0 != d.get (DSO_Dn_Ll_CFG_FRONT n l))

/-- The pending set made active, with GO and the count, before the FLIPs are served. -/
def Dev.commitActive (n : Nat) (d : Dev) : Dev :=
  ((d.modPanel n (fun p => { p with active := d.pendingSet n })).update (DSO_Dn_COMMIT_GO n) 0).inc (DSO_Dn_APPLIED_COUNT n)

theorem Dev.update_scan (d : Dev) (f : Fld) (v : Nat) : (d.update f v).scan = d.scan := by
  unfold Dev.update; split <;> rfl

theorem Dev.update_time (d : Dev) (f : Fld) (v : Nat) : (d.update f v).time = d.time := by
  unfold Dev.update; split <;> rfl

theorem Dev.get_update_ne (d : Dev) {f g : Fld} (v : Nat) (h : g.key ≠ f.key) : (d.update f v).get g = d.get g := by
  unfold Dev.update; split
  · rfl
  · exact d.get_set_ne v h

/-- The ingest of an engine whose FLIPs that set has served: the catch-up copies start. -/
def Dev.servedIngest (n : Nat) (d : Dev) : Ingest :=
  let x := d.commitActive n
  let g := x.ingest n
  let copy := (d.turned n).filter (fun l => x.flag (DSO_Dn_Ll_CFG_DBL n l) && g.damage.get l [] != [])
  { g with flipped := [], notBefore := [], copying := g.copying.filter (fun l => !copy.contains l) ++ copy }

def Dev.commitServed (n : Nat) (d : Dev) : Dev := (d.commitActive n).setIngest n (d.servedIngest n)

theorem Dev.commitServed_get_ne (n : Nat) (d : Dev) {f : Fld} (hgo : f.key ≠ (DSO_Dn_COMMIT_GO n).key) (happ : f.key ≠ (DSO_Dn_APPLIED_COUNT n).key) :
    (d.commitServed n).get f = d.get f :=
  (Dev.get_inc_ne _ happ).trans (Dev.get_update_ne _ 0 hgo)

theorem Dev.commitServed_tb (n k : Nat) (d : Dev) : (d.commitServed n).tb k = d.tb k := by
  have htime : (d.commitServed n).time = d.time := Dev.update_time _ _ _
  rw [Dev.tb, htime, Dev.tb]

theorem Dev.commitServed_scan (n : Nat) (d : Dev) :
    (d.commitServed n).scan = ((d.modPanel n (fun p => { p with active := d.pendingSet n })).setIngest n (d.servedIngest n)).scan := by
  have hscan : (d.commitActive n).scan = (d.modPanel n (fun p => { p with active := d.pendingSet n })).scan := Dev.update_scan _ _ _
  change ({ (d.commitActive n).scan with ingests := (d.commitActive n).scan.ingests.set n (d.servedIngest n) Ingest.reset } : ScanPart) = _
  rw [hscan]
  rfl

/-- A change of FRONT is stamped with its event. -/
theorem Dev.commitSet_eq (n : Nat) (d : Dev) : d.commitSet n = if d.turned n = [] then d.commitServed n
    else (((d.commitServed n).set (DSO_Dn_FLIPTS_SEC_SEC n) (d.tb 0).sec).set (DSO_Dn_FLIPTS_NS_NS n) (d.tb 0).ns).raise (DSO_Dn_EVT_FLIP n) := by
  rw [← d.commitServed_tb n 0]
  rfl

theorem Dev.commitSet_scan (n : Nat) (d : Dev) : (d.commitSet n).scan = (d.commitServed n).scan := by
  rw [d.commitSet_eq]
  split
  · rfl
  · exact (Dev.raise_core _ _).scan

theorem Dev.commitSet_panel (n : Nat) (d : Dev) : (d.commitSet n).panel n = { d.panel n with active := d.pendingSet n } := by
  rw [Dev.panel, d.commitSet_scan, d.commitServed_scan]
  exact d.panel_modPanel_same n (fun p => { p with active := d.pendingSet n })

theorem Dev.commitSet_panel_ne {n m : Nat} (d : Dev) (h : m ≠ n) : (d.commitSet n).panel m = d.panel m := by
  rw [Dev.panel, d.commitSet_scan, d.commitServed_scan]
  exact d.panel_modPanel_ne (fun p => { p with active := d.pendingSet n }) h

theorem Dev.commitSet_ingest (n : Nat) (d : Dev) : ((d.commitSet n).ingest n).flipped = [] ∧ ((d.commitSet n).ingest n).notBefore = [] := by
  have hserved : (d.commitSet n).ingest n = d.servedIngest n := by
    rw [Dev.ingest, d.commitSet_scan, d.commitServed_scan]
    exact Tab.get_set_same ..
  rw [hserved]
  exact ⟨rfl, rfl⟩

theorem Dev.commitSet_get (n : Nat) (d : Dev) {f : Fld} (hf : notEvq f) (h : f.key ∉ commitKeys n) : (d.commitSet n).get f = d.get f := by
  simp only [commitKeys, List.mem_cons, List.not_mem_nil, or_false, not_or] at h
  obtain ⟨hgo, happ, hsec, hns, hevt⟩ := h
  rw [d.commitSet_eq]
  split
  · exact d.commitServed_get_ne n hgo happ
  · rw [Dev.raise_get _ _ hf hevt, Dev.get_set_ne _ _ hns, Dev.get_set_ne _ _ hsec, d.commitServed_get_ne n hgo happ]

/-- GO and the count of commits are as the active set leaves them. -/
theorem Dev.commitSet_served (n : Fin 2) (d : Dev) {f : Fld} (h : f ∈ [DSO_Dn_COMMIT_GO n, DSO_Dn_APPLIED_COUNT n]) :
    (d.commitSet n).get f = (d.commitServed n).get f := by
  have key : ∀ n : Fin 2, ∀ f ∈ [DSO_Dn_COMMIT_GO n, DSO_Dn_APPLIED_COUNT n], 8 * 0x10900800 ≤ f.key ∧ f.key ≠ (DSO_Dn_EVT_FLIP n).key
    ∧ f.key ≠ (DSO_Dn_FLIPTS_NS_NS n).key ∧ f.key ≠ (DSO_Dn_FLIPTS_SEC_SEC n).key := by decide
  obtain ⟨hhigh, hevt, hns, hsec⟩ := key n f h
  rw [d.commitSet_eq]
  split
  · rfl
  · rw [Dev.raise_get _ _ (.inr hhigh) hevt, Dev.get_set_ne _ _ hns, Dev.get_set_ne _ _ hsec]

theorem Dev.commitSet_applied (n : Fin 2) (d : Dev) :
    (d.commitSet n).get (DSO_Dn_APPLIED_COUNT n) = (d.get (DSO_Dn_APPLIED_COUNT n) + 1) % 2 ^ 32 := by
  have key : ∀ n : Fin 2, (DSO_Dn_APPLIED_COUNT n).key ≠ (DSO_Dn_COMMIT_GO n).key := by decide
  rw [d.commitSet_served n (by simp)]
  refine (Dev.get_inc_same _ _).trans ?_
  rw [Dev.get_update_ne _ _ (key n)]
  rfl

theorem Dev.commitSet_go (n : Fin 2) (d : Dev) (h : d.writtenNow (DSO_Dn_COMMIT_GO n) = false) : (d.commitSet n).get (DSO_Dn_COMMIT_GO n) = 0 := by
  have key : ∀ n : Fin 2, (DSO_Dn_COMMIT_GO n).key ≠ (DSO_Dn_APPLIED_COUNT n).key := by decide
  have hwritten : (d.modPanel n (fun p => { p with active := d.pendingSet n })).writtenNow (DSO_Dn_COMMIT_GO n) = false := h
  rw [d.commitSet_served n (by simp)]
  refine (Dev.get_inc_ne _ (key n)).trans ?_
  rw [Dev.update, if_neg (by simp [hwritten]), Dev.get_set_same]
  rfl

theorem Dev.commitSet_flip (n : Fin 2) (d : Dev) (h : d.turned n ≠ []) : (d.commitSet n).get (DSO_Dn_EVT_FLIP n) = 1
    ∧ (d.commitSet n).get (DSO_Dn_FLIPTS_SEC_SEC n) = (d.tb 0).sec % 2 ^ 32
    ∧ (d.commitSet n).get (DSO_Dn_FLIPTS_NS_NS n) = (d.tb 0).ns % 2 ^ (DSO_Dn_FLIPTS_NS_NS n).w := by
  have key : ∀ n : Fin 2, (∀ f ∈ [DSO_Dn_FLIPTS_SEC_SEC n, DSO_Dn_FLIPTS_NS_NS n], 8 * 0x10900800 ≤ f.key ∧ f.key ≠ (DSO_Dn_EVT_FLIP n).key)
    ∧ (DSO_Dn_FLIPTS_SEC_SEC n).key ≠ (DSO_Dn_FLIPTS_NS_NS n).key ∧ 8 * 0x10900800 ≤ (DSO_Dn_EVT_FLIP n).key := by decide
  obtain ⟨hstamp, hne, hevt⟩ := key n
  have hsec := hstamp (DSO_Dn_FLIPTS_SEC_SEC n) (by simp)
  have hns := hstamp (DSO_Dn_FLIPTS_NS_NS n) (by simp)
  rw [d.commitSet_eq, if_neg h]
  refine ⟨Dev.raise_self _ _ (.inr hevt) Nat.one_pos, ?_, ?_⟩
  · rw [Dev.raise_get _ _ (.inr hsec.1) hsec.2, Dev.get_set_ne _ _ hne, Dev.get_set_same]
    rfl
  · rw [Dev.raise_get _ _ (.inr hns.1) hns.2, Dev.get_set_same]

theorem Dev.turned_ne_nil (n : Nat) (d : Dev) :
    d.turned n ≠ [] ↔ (List.range 4).any (fun l => (d.panel n).active.get (DSO_Dn_Ll_CFG_FRONT n l).key 0 != d.get (DSO_Dn_Ll_CFG_FRONT n l)) = true := by
  rw [Dev.turned, ne_eq, List.filter_eq_nil_iff, List.any_eq_true]
  push Not
  exact Iff.rfl

theorem Dev.commitSet_commits (n : Fin 2) (d : Dev) : d.Commits n (d.commitSet n) := by
  obtain ⟨hflipped, hnotBefore⟩ := d.commitSet_ingest n
  refine ⟨?_, d.commitSet_applied n, d.commitSet_go n, hflipped, hnotBefore, fun hturned => d.commitSet_flip n ((d.turned_ne_nil n).2 hturned)⟩
  rw [d.commitSet_panel]
  rfl

/-- A commit stays one over what changes nothing of what it leaves. -/
theorem Dev.Commits.congr_right {d e e' : Dev} {n : Nat} (h : d.Commits n e) (hactive : (e'.panel n).active = (e.panel n).active)
    (hingest : e'.ingest n = e.ingest n) (hget : ∀ f ∈ commitFlds n, e'.get f = e.get f) : d.Commits n e' := by
  obtain ⟨hset, happ, hgo, hflipped, hnotBefore, hflip⟩ := h
  simp only [commitFlds, List.forall_mem_cons] at hget
  obtain ⟨ggo, gapp, gsec, gns, gevt, -⟩ := hget
  rw [Dev.Commits, hactive, hingest, ggo, gapp, gsec, gns, gevt]
  exact ⟨hset, happ, hgo, hflipped, hnotBefore, hflip⟩

end Sys2Proof.Machine
end

section
/-! PROOFS. The scanout engines' state machine. -/

namespace Sys2Proof.Machine
variable (d : Dev)

/-- A command of a domain does nothing where the domain is not ON. -/
theorem Does.onDomain {c : Instr} {s : State} {n : Nat} {f : Dev → Dev} {P : Dev → Dev → Prop} (hexec : exec c s = s.runOn n f)
    (h : P s.dev (f s.dev)) : Does c s (fun d d' => if d.domOn n = false then d' = d else P d d') := by
  refine .run hexec ?_
  cases hon : s.dev.domOn n <;> simp [h]

theorem Does.onPins {c : Instr} {s : State} {n : Nat} {f : Dev → Dev} {P : Dev → Dev → Prop} (hexec : exec c s = s.runPins n f)
    (h : P s.dev (f s.dev)) : Does c s (fun d d' => if d.reached n = false then d' = d else P d d') := by
  refine .run hexec ?_
  cases hon : s.dev.reached n <;> simp [h]

/-! ### Off, and bad link status -/

theorem dsoDisable_clause (n : Fin 2) :
    (dsoDisable n d).get (DSO_Dn_CTL_EN n) = 0 ∧ (dsoDisable n d).dso n = 0 ∧ (dsoDisable n d).mem = d.mem := by
  unfold dsoDisable
  exact ⟨(Dev.stopVideo_get _ n 0 (by decide +revert) (by decide +revert)).trans (Dev.get_set_same _ _ _), Dev.stopVideo_dso _ n 0,
    Dev.stopVideo_mem _ n 0⟩

theorem dsoIrqHpd_clause (n : Fin 2) (bad : Bool) :
    if bad = true ∧ (d.dso n = 2 ∨ d.dso n = 3) then dsoIrqHpd n bad d = d.stopVideo n 1 ∧ (dsoIrqHpd n bad d).dso n = 1
      ∧ (dsoIrqHpd n bad d).get (DSO_Dn_STAT_LANES_ACT n) = 0 ∧ (dsoIrqHpd n bad d).get (DSO_Dn_STAT_RATE_ACT n) = 0
      ∧ ((dsoIrqHpd n bad d).panel n).sending = false ∧ ((dsoIrqHpd n bad d).panel n).trained = false
      ∧ (d.paired = true → d.dso (1 - n) = 2 ∨ d.dso (1 - n) = 3 →
          (dsoIrqHpd n bad d).dso (1 - n) = 1 ∧ ((dsoIrqHpd n bad d).panel (1 - n)).trained = true)
    else dsoIrqHpd n bad d = d := by
  split
  · next h =>
    rw [dsoIrqHpd, if_pos h, d.stopVideo_panel]
    exact ⟨rfl, d.stopVideo_dso n 1, d.stopVideo_lanes n 1, d.stopVideo_rate n 1, rfl, rfl, fun hp ho => d.stopVideo_other n 1 hp h.2 ho⟩
  · next h => exact if_neg h

/-! ### Hot plug detect -/

theorem Dev.setPin_get (n : Nat) (b : Bool) (f : Fld) : (d.setPin n b).get f = d.get f := by
  unfold Dev.setPin; split <;> rfl

theorem Dev.setPin_dso (n m : Nat) (b : Bool) : (d.setPin n b).dso m = d.dso m := d.setPin_get n b _

theorem Dev.setPin_carries (n : Nat) (b : Bool) : (d.setPin n b).carries n = d.carries n :=
  Dev.carries_congr (d.setPin_get n b _) fun f _ => d.setPin_get n b f

/-- The pin counts where the route goes to the panel; else the port controller's level stands. -/
theorem Dev.setPin_hpdIn (n : Nat) (b : Bool) :
    (d.setPin n b).hpdIn n = if d.get (DSO_Dn_CTL_ROUTE n) = 0 then b else d.hpdIn n := by
  unfold Dev.setPin
  split
  · next h => exact (if_pos h).trans (Tab.get_set_same ..)
  · rfl

theorem Dev.setPin_stateFor (n : Nat) (b h : Bool) : (d.setPin n b).stateFor n h = d.stateFor n h := by
  simp only [Dev.stateFor, d.setPin_carries, d.setPin_dso]

/-- An engine's HPD as a change of its pin leaves it. -/
theorem Dev.setPin_hpdSync (n : Fin 2) (b : Bool) {h : Bool} (hin : (d.setPin n b).hpdIn n = h) :
    ((d.setPin n b).hpdSync n).get (DSO_Dn_STAT_HPD n) = b2n h ∧ ((d.setPin n b).hpdSync n).dso n = d.stateFor n h
      ∧ (d.get (DSO_Dn_STAT_HPD n) ≠ b2n h → ((d.setPin n b).hpdSync n).get (DSO_Dn_EVT_HPD_CHANGE n) = 1) := by
  refine ⟨?_, ?_, fun hne => Dev.hpdSync_change _ n fun heq => hne ?_⟩
  · rw [Dev.hpdSync_hpd, hin]
  · rw [Dev.hpdSync_dso, hin, d.setPin_stateFor]
  · rw [← hin, ← heq, Dev.flag, d.setPin_get]
    exact d.get_eq_b2n_flag rfl

theorem dsoHpdHigh_clause (n : Fin 2) :
    let h := if d.get (DSO_Dn_CTL_ROUTE n) = 0 then true else d.hpdIn n
    (dsoHpdHigh n d).get (DSO_Dn_STAT_HPD n) = b2n h ∧ (dsoHpdHigh n d).dso n = d.stateFor n h
      ∧ (d.get (DSO_Dn_STAT_HPD n) ≠ b2n h → (dsoHpdHigh n d).get (DSO_Dn_EVT_HPD_CHANGE n) = 1) :=
  d.setPin_hpdSync n true (d.setPin_hpdIn n true)

theorem Dev.hpdSync_hpdIn (n : Fin 2) : (d.hpdSync n).hpdIn n = d.hpdIn n := by
  have key : ∀ n : Fin 2, (DSO_Dn_CTL_ROUTE n).key ∉ stopKeys n ++ stopKeys (1 - n.val) ++ hpdKeys n
      ∧ ∀ k ∈ stopKeys n ++ stopKeys (1 - n.val) ++ hpdKeys n, 8 * 0x10D00000 ≤ k := by decide
  refine Dev.hpdIn_congr (d.hpdSync_get n (.inr (by clear key; decide +revert)) (key n).1) (fun f hf => d.hpdSync_get n hf.2 fun hk => ?_)
    (d.hpdSync_pin n)
  exact absurd ((key n).2 _ hk) (by have := hf.1; omega)

theorem dsoHpdLow_clause (n : Fin 2) :
    let h := if d.get (DSO_Dn_CTL_ROUTE n) = 0 then false else d.hpdIn n
    (dsoHpdLow n d).get (DSO_Dn_STAT_HPD n) = b2n h ∧ (d.get (DSO_Dn_STAT_HPD n) ≠ b2n h → (dsoHpdLow n d).get (DSO_Dn_EVT_HPD_CHANGE n) = 1)
      ∧ (dsoHpdLow n d).dso n = (if h = false ∧ (d.dso n = 2 ∨ d.dso n = 3) then 4 else d.stateFor n h) := by
  intro h
  have hin : (d.setPin n false).hpdIn n = h := d.setPin_hpdIn n false
  clear_value h
  obtain ⟨hhpd, hdso, hchange⟩ := d.setPin_hpdSync n false hin
  have hsync : ((d.setPin n false).hpdSync n).hpdIn n = h := by rw [Dev.hpdSync_hpdIn, hin]
  have key : ∀ n : Fin 2, ∀ k ∈ hpdKeys n, k ∉ stopKeys n ∧ k ∉ stopKeys (1 - n.val) := by decide
  unfold dsoHpdLow
  simp only [hsync, hdso]
  cases h with
  | true => exact ⟨hhpd, hchange, hdso⟩
  | false =>
    have hstate : d.stateFor n false = if d.carries n = false ∧ (d.dso n = 1 ∨ d.dso n = 2 ∨ d.dso n = 3) then 4 else d.dso n := by
      simp [Dev.stateFor]
    simp only [Bool.false_eq_true, if_false, true_and]
    by_cases hrun : d.stateFor n false = 2 ∨ d.stateFor n false = 3
    · have hcarries : ¬(d.carries n = false ∧ (d.dso n = 1 ∨ d.dso n = 2 ∨ d.dso n = 3)) := fun hc => by
        rw [hstate, if_pos hc] at hrun; omega
      rw [if_pos hrun, Dev.stopVideo_dso, if_pos (by rwa [hstate, if_neg hcarries] at hrun)]
      refine ⟨?_, fun hne => ?_, rfl⟩
      · rw [Dev.stopVideo_get _ _ _ (key n _ (by simp [hpdKeys])).1 (key n _ (by simp [hpdKeys])).2, hhpd]
      · rw [Dev.stopVideo_get _ _ _ (key n _ (by simp [hpdKeys])).1 (key n _ (by simp [hpdKeys])).2, hchange hne]
    · rw [if_neg hrun, hdso]
      refine ⟨hhpd, hchange, ?_⟩
      by_cases hdso2 : d.dso n = 2 ∨ d.dso n = 3
      · have hcarries : d.carries n = false ∧ (d.dso n = 1 ∨ d.dso n = 2 ∨ d.dso n = 3) := by_contra fun hc => by
          rw [hstate, if_neg hc] at hrun; exact hrun hdso2
        rw [if_pos hdso2, hstate, if_pos hcarries]
      · rw [if_neg hdso2]

/-! ### Link training -/

/-- What an engine that has trained shows of its lanes. -/
def Dev.showTrained (n lanes rate : Nat) (d : Dev) : Dev :=
  (d.set (DSO_Dn_STAT_LANES_ACT n) (min lanes (min (d.get (DSO_Dn_CTL_LANES n)) (d.laneCap n)))).set (DSO_Dn_STAT_RATE_ACT n)
    (min rate (d.get (DSO_Dn_CTL_RATE n)))

theorem Dev.showTrained_get (n lanes rate : Nat) {f : Fld} (h : f.key ∉ [(DSO_Dn_STAT_LANES_ACT n).key, (DSO_Dn_STAT_RATE_ACT n).key]) :
    (d.showTrained n lanes rate).get f = d.get f := by
  simp only [List.mem_cons, List.not_mem_nil, or_false, not_or] at h
  unfold Dev.showTrained
  rw [Dev.get_set_ne _ _ h.2, Dev.get_set_ne _ _ h.1]

theorem Dev.showTrained_lanes (n : Nat) (lanes : Fin 3) (rate : Nat) :
    (d.showTrained n lanes rate).get (DSO_Dn_STAT_LANES_ACT n) = min lanes.val (min (d.get (DSO_Dn_CTL_LANES n)) (d.laneCap n)) := by
  unfold Dev.showTrained
  rw [Dev.get_set_ne _ _ (by simp only [DSO_Dn_STAT_LANES_ACT, DSO_Dn_STAT_RATE_ACT]; omega), Dev.get_set_same]
  exact Nat.mod_eq_of_lt (lt_of_le_of_lt (min_le_left _ _) (lanes.isLt.trans (by simp only [DSO_Dn_STAT_LANES_ACT]; omega)))

theorem Dev.showTrained_rate (n lanes : Nat) (rate : Fin 4) :
    (d.showTrained n lanes rate).get (DSO_Dn_STAT_RATE_ACT n) = min rate.val (d.get (DSO_Dn_CTL_RATE n)) :=
  (Dev.get_set_same _ _ _).trans (Nat.mod_eq_of_lt (lt_of_le_of_lt (min_le_left _ _) rate.isLt))

theorem Dev.startRaster_get (n : Nat) {f : Fld} (h : f.key ∉ [(DSO_Dn_STAT_STATE n).key, (DSO_Dn_COVER_NS n).key]) :
    (d.startRaster n).get f = d.get f := Dev.setDso_get _ n 2 h

theorem Dev.startRaster_dso (n : Nat) : (d.startRaster n).dso n = 2 := Dev.setDso_dso _ n 2
theorem Dev.startRaster_dso_ne {n m : Nat} (h : m ≠ n) : (d.startRaster n).dso m = d.dso m := Dev.setDso_dso_ne _ 2 h

theorem Dev.startRaster_panel (n : Nat) :
    (d.startRaster n).panel n = { d.panel n with trained := false, sending := d.teMode n, gap := none, shown := false } :=
  d.panel_modPanel_same n (fun p => { p with trained := false, sending := d.teMode n, gap := none, shown := false })

/-- Once trained the engine's raster starts, or it waits for the other half of its locked pair. -/
theorem linkTrainingDone_eq (n : Fin 2) (ok : Bool) (lanes rate : Nat) : linkTrainingDone n ok lanes rate d =
    if d.dso n ≠ 1 ∨ (d.panel n).trained = true then d
    else if ok = false ∨ d.carries n = false then (d.stopVideo n 4).raise (DSO_Dn_EVT_TRAIN_FAIL n)
    else if d.paired = true then
      if d.dso (1 - n.val) = 1 ∧ (d.panel (1 - n.val)).trained = true then
        ((d.showTrained n lanes rate).startRaster n).startRaster (1 - n.val)
      else (d.showTrained n lanes rate).modPanel n (fun p => { p with trained := true })
    else (d.showTrained n lanes rate).startRaster n := by
  have hlock : (d.showTrained n lanes rate).paired = d.paired := by
    simp only [Dev.paired, Dev.flag, d.showTrained_get n lanes rate (f := DSO_CTL_LOCK) (by clear * -; decide +revert)]
  have hdso : (d.showTrained n lanes rate).dso (1 - n.val) = d.dso (1 - n.val) :=
    d.showTrained_get n lanes rate (by clear * -; decide +revert)
  have hrate : (d.set (DSO_Dn_STAT_LANES_ACT n) (min lanes (min (d.get (DSO_Dn_CTL_LANES n)) (d.laneCap n)))).get (DSO_Dn_CTL_RATE n)
      = d.get (DSO_Dn_CTL_RATE n) := Dev.get_set_ne _ _ (by clear * -; decide +revert)
  rw [← hlock, ← hdso]
  unfold linkTrainingDone Dev.showTrained
  simp only [hrate, Bool.or_eq_true, Bool.not_eq_true']
  rfl

theorem linkTrainingDone_clause (n : Fin 2) (ok : Bool) (lanes : Fin 3) (rate : Fin 4) {d' : Dev}
    (he : linkTrainingDone n ok lanes rate d = d') :
    if d.dso n ≠ 1 ∨ (d.panel n).trained = true then d' = d
    else if ok = false ∨ d.carries n = false then d'.dso n = 4 ∧ d'.get (DSO_Dn_EVT_TRAIN_FAIL n) = 1
      ∧ d'.get (DSO_Dn_STAT_LANES_ACT n) = 0 ∧ d'.get (DSO_Dn_STAT_RATE_ACT n) = 0
    else d'.get (DSO_Dn_STAT_LANES_ACT n) = min lanes.val (min (d.get (DSO_Dn_CTL_LANES n)) (d.laneCap n))
      ∧ d'.get (DSO_Dn_STAT_RATE_ACT n) = min rate.val (d.get (DSO_Dn_CTL_RATE n))
      ∧ (d.paired = false → d'.dso n = 2 ∧ (d'.panel n).sending = d.teMode n ∧ (d'.panel n).shown = false ∧ (d'.panel n).gap = none)
      ∧ (d.paired = true → d.dso (1 - n) = 1 → (d.panel (1 - n)).trained = true → d'.dso n = 2 ∧ d'.dso (1 - n) = 2)
      ∧ (d.paired = true → d.dso (1 - n) ≠ 1 ∨ (d.panel (1 - n)).trained = false → d'.dso n = 1 ∧ (d'.panel n).trained = true) := by
  subst he
  rw [linkTrainingDone_eq]
  split
  · rfl
  next hwaiting =>
  have hdso1 : d.dso n = 1 := by
    by_contra hne; exact hwaiting (.inl hne)
  split
  · refine ⟨?_, Dev.raise_self _ _ ?_ ?_, ?_, ?_⟩
    · exact (Dev.raise_get _ _ (.inr (by clear * -; decide +revert)) (by clear * -; decide +revert)).trans (d.stopVideo_dso n 4)
    · exact .inr (by clear * -; decide +revert)
    · exact Nat.one_pos
    · exact (Dev.raise_get _ _ (.inr (by clear * -; decide +revert)) (by clear * -; decide +revert)).trans (d.stopVideo_lanes n 4)
    · exact (Dev.raise_get _ _ (.inr (by clear * -; decide +revert)) (by clear * -; decide +revert)).trans (d.stopVideo_rate n 4)
  have hlanes := d.showTrained_lanes n lanes rate
  have hrate := d.showTrained_rate n lanes rate
  have hte : (d.showTrained n lanes rate).teMode n = d.teMode n := by
    simp only [Dev.teMode, Dev.flag, d.showTrained_get n lanes rate (f := DSO_Dn_CTL_UPD n) (by clear * -; decide +revert)]
    rfl
  have key : ∀ n m : Fin 2, (DSO_Dn_STAT_LANES_ACT n).key ∉ [(DSO_Dn_STAT_STATE m).key, (DSO_Dn_COVER_NS m).key]
      ∧ (DSO_Dn_STAT_RATE_ACT n).key ∉ [(DSO_Dn_STAT_STATE m).key, (DSO_Dn_COVER_NS m).key] := by decide
  split
  · next hp =>
    split
    · next hboth =>
      have ho : (1 - n.val) = (1 - n : Fin 2).val := by clear * -; decide +revert
      refine ⟨?_, ?_, fun hnp => absurd hp (by simp [hnp]), fun _ _ _ => ⟨?_, Dev.startRaster_dso _ _⟩, fun _ hne => ?_⟩
      · rw [ho, Dev.startRaster_get _ _ (key n _).1, Dev.startRaster_get _ _ (key n n).1, hlanes]
      · rw [ho, Dev.startRaster_get _ _ (key n _).2, Dev.startRaster_get _ _ (key n n).2, hrate]
      · rw [Dev.startRaster_dso_ne _ (by omega), Dev.startRaster_dso]
      · simp [hboth.1, hboth.2] at hne
    · next hboth =>
      refine ⟨hlanes, hrate, fun hnp => absurd hp (by simp [hnp]), fun _ h1 ht => absurd ⟨h1, ht⟩ hboth, fun _ _ => ⟨?_, ?_⟩⟩
      · exact (d.showTrained_get n lanes rate (by clear * -; decide +revert)).trans hdso1
      · rw [Dev.panel_modPanel_same]
  · next hp =>
    refine ⟨?_, ?_, fun _ => ⟨Dev.startRaster_dso _ _, ?_⟩, fun hp' => absurd hp' hp, fun hp' => absurd hp' hp⟩
    · rw [Dev.startRaster_get _ _ (key n n).1, hlanes]
    · rw [Dev.startRaster_get _ _ (key n n).2, hrate]
    · rw [Dev.startRaster_panel, hte]
      exact ⟨rfl, rfl, rfl⟩

/-! ### EN written 1 -/

/-- An engine whose UPD = TE fails its test runs as UPD = VBLANK (R448). -/
def Dev.teUnfit (n : Nat) (psr : Bool) (d : Dev) : Bool := d.flag (DSO_Dn_CTL_UPD n) && !(psr && d.get (DSO_Dn_CTL_ROUTE n) == 0)

theorem Dev.checkTe_get (n : Nat) (psr : Bool) {f : Fld} (hf : notEvq f) (h : f.key ≠ (DSO_Dn_EVT_CFG_ERR n).key) :
    (d.checkTe n psr).get f = d.get f := by
  unfold Dev.checkTe
  dsimp only
  split
  · exact Dev.raise_get _ _ hf h
  · rfl

theorem Dev.checkTe_panel (n : Nat) (psr : Bool) : (d.checkTe n psr).panel n = { d.panel n with noTe := d.teUnfit n psr } := by
  unfold Dev.checkTe
  dsimp only
  split
  · rw [Dev.panel_raise]
    exact d.panel_modPanel_same n (fun p => { p with noTe := d.teUnfit n psr })
  · exact d.panel_modPanel_same n (fun p => { p with noTe := d.teUnfit n psr })

theorem cfgErr_notEvq (n : Nat) : notEvq (DSO_Dn_EVT_CFG_ERR n) :=
  .inr (by simp only [DSO_Dn_EVT_CFG_ERR, DSO_Dn_EVT_A]; omega)

theorem Dev.checkTe_err (n : Nat) (psr : Bool) (h : d.teUnfit n psr = true) : (d.checkTe n psr).get (DSO_Dn_EVT_CFG_ERR n) = 1 := by
  have hfit : d.checkTe n psr = (d.modPanel n (fun p => { p with noTe := d.teUnfit n psr })).raise (DSO_Dn_EVT_CFG_ERR n) := if_pos h
  rw [hfit]
  exact Dev.raise_self _ _ (cfgErr_notEvq n) Nat.one_pos

/-- Whether an engine leaves RUN for PSR (R437). -/
def Dev.psrDue (n : Nat) (d : Dev) : Prop :=
  d.dso n = 2 ∧ d.teMode n = true ∧ (d.panel n).shown = true ∧ (d.panel n).sending = false ∧ d.get (DSO_Dn_COMMIT_GO (d.surface n)) = 0

theorem Dev.enterPsr_eq (n : Nat) [Decidable (d.psrDue n)] :
    d.enterPsr n = if d.psrDue n then (d.modPanel n (fun p => { p with late := false })).setDso n 3 else d := by
  unfold Dev.enterPsr
  refine if_congr ?_ rfl rfl
  simp [Dev.psrDue, Dev.flag]

theorem Dev.enterPsr_get (n : Nat) {f : Fld} (h : f.key ∉ [(DSO_Dn_STAT_STATE n).key, (DSO_Dn_COVER_NS n).key]) :
    (d.enterPsr n).get f = d.get f := by
  unfold Dev.enterPsr
  split
  · exact Dev.setDso_get _ n 3 h
  · rfl

theorem Dev.enterPsr_dso (n : Nat) [Decidable (d.psrDue n)] : (d.enterPsr n).dso n = if d.psrDue n then 3 else d.dso n := by
  rw [d.enterPsr_eq]
  split
  · exact Dev.setDso_dso _ n 3
  · rfl

/-- Entering PSR changes nothing of a panel but whether its frame is late. -/
theorem Dev.enterPsr_panel (n : Nat) : ∃ b, (d.enterPsr n).panel n = { d.panel n with late := b } := by
  unfold Dev.enterPsr
  split
  · exact ⟨false, d.panel_modPanel_same n (fun p => { p with late := false })⟩
  · exact ⟨(d.panel n).late, rfl⟩

section
variable {d} {e : Dev}

/-- The fields that EN written 1 may write before the configuration is checked. -/
def enableKeys (n : Nat) : List Nat :=
  stopKeys n ++ stopKeys (1 - n) ++ hpdKeys n ++ [(DSO_Dn_CTL_EN n).key, DSO_CTL_LOCK_OK.key]

theorem Dev.surface_congr (n : Nat) (h : e.get DSO_CTL_LOCK = d.get DSO_CTL_LOCK) : e.surface n = d.surface n := by
  have hpaired : e.paired = d.paired := by simp only [Dev.paired, Dev.flag, h]
  simp only [Dev.surface, hpaired]

theorem Dev.surface_cases (d : Dev) (n : Fin 2) : d.surface n = (0 : Fin 2).val ∨ d.surface n = n.val := by
  unfold Dev.surface; split <;> simp

theorem Dev.laneCap_congr {n : Nat} (hroute : e.get (DSO_Dn_CTL_ROUTE n) = d.get (DSO_Dn_CTL_ROUTE n))
    (hget : ∀ f, beforeDso f → e.get f = d.get f) : e.laneCap n = d.laneCap n := by
  have hpin : e.get (PDC_Pn_STAT_PIN (d.get (DSO_Dn_CTL_ROUTE n) - 1)) = d.get (PDC_Pn_STAT_PIN (d.get (DSO_Dn_CTL_ROUTE n) - 1)) := by
    have : d.get (DSO_Dn_CTL_ROUTE n) < 16 := d.get_lt _
    exact hget _ (by simp only [beforeDso, notEvq, PDC_Pn_STAT_PIN, PDC_Pn_STAT_A]; omega)
  simp only [Dev.laneCap, hroute, hpin]

/-- What an engine's configuration is checked against is none of what EN written 1 has changed. -/
theorem Dev.dsoSound_congr (n : Fin 2) (hget : ∀ f, notEvq f → f.key ∉ enableKeys n → e.get f = d.get f) : e.dsoSound n = d.dsoSound n := by
  have key : ∀ n : Fin 2, (∀ f ∈ [DSO_CTL_LOCK, DSO_Dn_CTL_ROUTE n, DSO_Dn_CTL_LANES n, DSO_Dn_CTL_RATE n, DSO_Dn_CTL_BPC10 n,
        DSO_Dn_CTL_EN (1 - n.val), DSO_Dn_CTL_ROUTE (1 - n.val), DSO_Dn_PCLK_KHZ n, DSO_Dn_PCLK_KHZ (0 : Fin 2).val],
        8 * 0x10900800 ≤ f.key ∧ f.key ∉ enableKeys n)
      ∧ ∀ k ∈ enableKeys n, 8 * 0x10D00000 ≤ k := by decide
  obtain ⟨hfields, hhigh⟩ := key n
  have same : ∀ f ∈ [DSO_CTL_LOCK, DSO_Dn_CTL_ROUTE n, DSO_Dn_CTL_LANES n, DSO_Dn_CTL_RATE n, DSO_Dn_CTL_BPC10 n,
      DSO_Dn_CTL_EN (1 - n.val), DSO_Dn_CTL_ROUTE (1 - n.val), DSO_Dn_PCLK_KHZ n, DSO_Dn_PCLK_KHZ (0 : Fin 2).val], e.get f = d.get f :=
    fun f hf => hget f (.inr (hfields f hf).1) (hfields f hf).2
  have hpclk : e.get (DSO_Dn_PCLK_KHZ (e.surface n)) = d.get (DSO_Dn_PCLK_KHZ (d.surface n)) := by
    rw [Dev.surface_congr n (same _ (by simp))]
    obtain h | h := d.surface_cases n <;> rw [h] <;> exact same _ (by simp)
  have hcap : e.laneCap n = d.laneCap n := Dev.laneCap_congr (same _ (by simp)) fun f hf => hget f hf.2 fun hk =>
    absurd (hhigh _ hk) (by have := hf.1; omega)
  unfold Dev.dsoSound Dev.flag
  simp only [hpclk, hcap, same (DSO_Dn_CTL_ROUTE n) (by simp), same (DSO_Dn_CTL_LANES n) (by simp), same (DSO_Dn_CTL_RATE n) (by simp),
    same (DSO_Dn_CTL_BPC10 n) (by simp), same (DSO_Dn_CTL_EN (1 - n.val)) (by simp), same (DSO_Dn_CTL_ROUTE (1 - n.val)) (by simp)]

end

/-- EN written 1 before the configuration is checked: LOCK_OK follows, and HPD is seen. -/
def Dev.enableSeen (n : Nat) (d : Dev) : Dev := ((d.set (DSO_Dn_CTL_EN n) 1).syncLock).hpdSync n

theorem Dev.enable_syncLock_get (n : Nat) {f : Fld} (h : f.key ∉ [(DSO_Dn_CTL_EN n).key, DSO_CTL_LOCK_OK.key]) :
    ((d.set (DSO_Dn_CTL_EN n) 1).syncLock).get f = d.get f := by
  simp only [List.mem_cons, List.not_mem_nil, or_false, not_or] at h
  rw [Dev.syncLock, Dev.get_setB_ne _ _ h.2, Dev.get_set_ne _ _ h.1]

theorem Dev.enableSeen_get (n : Fin 2) {f : Fld} (hf : notEvq f) (h : f.key ∉ enableKeys n) : (d.enableSeen n).get f = d.get f := by
  rw [enableKeys, List.mem_append, not_or] at h
  rw [Dev.enableSeen, Dev.hpdSync_get _ n hf h.1, d.enable_syncLock_get n h.2]

theorem Dev.enable_syncLock_stateFor (n : Fin 2) :
    ((d.set (DSO_Dn_CTL_EN n) 1).syncLock).hpdIn n = d.hpdIn n ∧ ((d.set (DSO_Dn_CTL_EN n) 1).syncLock).carries n = d.carries n := by
  have key : ∀ n : Fin 2, (DSO_Dn_CTL_ROUTE n).key ∉ [(DSO_Dn_CTL_EN n).key, DSO_CTL_LOCK_OK.key]
      ∧ ∀ k ∈ [(DSO_Dn_CTL_EN n).key, DSO_CTL_LOCK_OK.key], 8 * 0x10D00000 ≤ k := by decide
  have hroute := d.enable_syncLock_get n (key n).1
  have hget : ∀ f, beforeDso f → ((d.set (DSO_Dn_CTL_EN n) 1).syncLock).get f = d.get f := fun f hf =>
    d.enable_syncLock_get n fun hk => absurd ((key n).2 _ hk) (by have := hf.1; omega)
  exact ⟨Dev.hpdIn_congr hroute hget rfl, Dev.carries_congr hroute hget⟩

theorem Dev.enable_syncLock_dso (n : Fin 2) : ((d.set (DSO_Dn_CTL_EN n) 1).syncLock).dso n = d.dso n :=
  d.enable_syncLock_get n (by decide +revert)

theorem Dev.enableSeen_dso (n : Fin 2) : (d.enableSeen n).dso n = d.stateFor n (d.hpdIn n) := by
  obtain ⟨hin, hcarries⟩ := d.enable_syncLock_stateFor n
  rw [Dev.enableSeen, Dev.hpdSync_dso, hin]
  simp only [Dev.stateFor, hcarries, d.enable_syncLock_dso n]

theorem Dev.enableSeen_hpd (n : Fin 2) : (d.enableSeen n).get (DSO_Dn_STAT_HPD n) = b2n (d.hpdIn n) := by
  rw [Dev.enableSeen, Dev.hpdSync_hpd, (d.enable_syncLock_stateFor n).1]

theorem Dev.enableSeen_change (n : Fin 2) (h : d.flag (DSO_Dn_STAT_HPD n) ≠ d.hpdIn n) :
    (d.enableSeen n).get (DSO_Dn_EVT_HPD_CHANGE n) = 1 := by
  refine Dev.hpdSync_change _ n ?_
  have key : ∀ n : Fin 2, (DSO_Dn_STAT_HPD n).key ∉ [(DSO_Dn_CTL_EN n).key, DSO_CTL_LOCK_OK.key] := by decide
  rwa [Dev.flag, d.enable_syncLock_get n (key n), (d.enable_syncLock_stateFor n).1]

theorem Dev.enableSeen_en (n : Fin 2) : (d.enableSeen n).get (DSO_Dn_CTL_EN n) = 1 := by
  have key : ∀ n : Fin 2, (DSO_Dn_CTL_EN n).key ∉ stopKeys n ++ stopKeys (1 - n.val) ++ hpdKeys n ∧ (DSO_Dn_CTL_EN n).key ≠ DSO_CTL_LOCK_OK.key
    ∧ 8 * 0x10900800 ≤ (DSO_Dn_CTL_EN n).key := by decide
  rw [Dev.enableSeen, Dev.hpdSync_get _ n (.inr (key n).2.2) (key n).1, Dev.syncLock, Dev.get_setB_ne _ _ (key n).2.1, Dev.get_set_same]
  rfl

theorem Dev.enableSeen_lockOk (n : Fin 2) (hp : d.paired = true) : (d.enableSeen n).flag DSO_CTL_LOCK_OK =
    (d.get (DSO_Dn_CTL_LANES 0) == d.get (DSO_Dn_CTL_LANES 1) && d.get (DSO_Dn_CTL_RATE 0) == d.get (DSO_Dn_CTL_RATE 1)) := by
  have key : ∀ n : Fin 2, (DSO_CTL_LOCK_OK.key ∉ stopKeys n ++ stopKeys (1 - n.val) ++ hpdKeys n)
    ∧ ∀ f ∈ [DSO_CTL_LOCK, DSO_Dn_CTL_LANES 0, DSO_Dn_CTL_LANES 1, DSO_Dn_CTL_RATE 0, DSO_Dn_CTL_RATE 1], f.key ≠ (DSO_Dn_CTL_EN n).key := by
    decide
  have same : ∀ f ∈ [DSO_CTL_LOCK, DSO_Dn_CTL_LANES 0, DSO_Dn_CTL_LANES 1, DSO_Dn_CTL_RATE 0, DSO_Dn_CTL_RATE 1],
      (d.set (DSO_Dn_CTL_EN n) 1).get f = d.get f := fun f hf => Dev.get_set_ne _ _ ((key n).2 f hf)
  have hpaired : (d.set (DSO_Dn_CTL_EN n) 1).paired = true := by
    rw [← hp]; simp only [Dev.paired, Dev.flag, same DSO_CTL_LOCK (by simp)]
  rw [Dev.flag, Dev.enableSeen, Dev.hpdSync_get _ n (.inr (by clear * -; decide)) (key n).1, Dev.syncLock, Dev.get_setB_same, hpaired,
    same (DSO_Dn_CTL_LANES 0) (by simp), same (DSO_Dn_CTL_LANES 1) (by simp), same (DSO_Dn_CTL_RATE 0) (by simp),
    same (DSO_Dn_CTL_RATE 1) (by simp)]
  cases h : (d.get (DSO_Dn_CTL_LANES 0) == d.get (DSO_Dn_CTL_LANES 1) && d.get (DSO_Dn_CTL_RATE 0) == d.get (DSO_Dn_CTL_RATE 1)) <;>
    simp [h, b2n, DSO_CTL_LOCK_OK]

theorem Dev.enableSeen_panel (n : Fin 2) : (d.enableSeen n).panel n =
    if d.carries n = false ∧ (d.dso n = 1 ∨ d.dso n = 2 ∨ d.dso n = 3) then (d.panel n).stopped false else d.panel n := by
  rw [Dev.enableSeen, Dev.hpdSync_panel, (d.enable_syncLock_stateFor n).2, d.enable_syncLock_dso n]
  rfl

/-- The fields that the clauses on an engine's enabling read; none of them is one that the branches past the checks write. -/
theorem dsoEnable_eq (n : Fin 2) (psr : Bool) : dsoEnable n psr d =
    if d.get (DSO_Dn_CTL_EN n) = 1 ∧ d.stateFor n (d.hpdIn n) ≠ 0 then ((d.enableSeen n).checkTe n psr).enterPsr n
    else if d.paired = true ∧ (d.get (DSO_Dn_CTL_LANES 0) ≠ d.get (DSO_Dn_CTL_LANES 1) ∨ d.get (DSO_Dn_CTL_RATE 0) ≠ d.get (DSO_Dn_CTL_RATE 1)) then
      ((d.enableSeen n).raise (DSO_Dn_EVT_CFG_ERR 0)).raise (DSO_Dn_EVT_CFG_ERR 1)
    else if d.dsoSound n = false then (d.enableSeen n).raise (DSO_Dn_EVT_CFG_ERR n)
    else (((d.enableSeen n).checkTe n psr).modPanel n (fun p => { p with trained := false })).setDso n (if d.hpdIn n = true then 1 else 4) := by
  have key : ∀ n : Fin 2, DSO_CTL_LOCK.key ∉ enableKeys n ∧ (DSO_Dn_STAT_HPD n).key ≠ (DSO_Dn_EVT_CFG_ERR n).key
    ∧ 8 * 0x10900800 ≤ (DSO_Dn_STAT_HPD n).key := by decide
  have hpaired : (d.enableSeen n).paired = d.paired := by
    simp only [Dev.paired, Dev.flag, d.enableSeen_get n (f := DSO_CTL_LOCK) (.inr (by clear * -; decide)) (key n).1]
  have hsound : (d.enableSeen n).dsoSound n = d.dsoSound n := Dev.dsoSound_congr n fun f hf hk => d.enableSeen_get n hf hk
  have hhpd : (((d.enableSeen n).checkTe n psr).modPanel n (fun p => { p with trained := false })).flag (DSO_Dn_STAT_HPD n) = d.hpdIn n := by
    rw [Dev.modPanel_flag, Dev.flag, Dev.checkTe_get _ _ _ (.inr (key n).2.2) (key n).2.1, d.enableSeen_hpd]
    cases d.hpdIn n <;> rfl
  have hlt : d.get (DSO_Dn_CTL_EN n) < 2 := d.get_lt _
  have hwas : d.flag (DSO_Dn_CTL_EN n) = true ↔ d.get (DSO_Dn_CTL_EN n) = 1 := by
    simp only [Dev.flag, bne_iff_ne]; omega
  have hshape : dsoEnable n psr d = if d.flag (DSO_Dn_CTL_EN n) = true ∧ (d.enableSeen n).dso n ≠ 0 then ((d.enableSeen n).checkTe n psr).enterPsr n
      else if (d.enableSeen n).paired = true ∧ (!(d.enableSeen n).flag DSO_CTL_LOCK_OK) = true then
        ((d.enableSeen n).raise (DSO_Dn_EVT_CFG_ERR 0)).raise (DSO_Dn_EVT_CFG_ERR 1)
      else if (!(d.enableSeen n).dsoSound n) = true then (d.enableSeen n).raise (DSO_Dn_EVT_CFG_ERR n)
      else (((d.enableSeen n).checkTe n psr).modPanel n (fun p => { p with trained := false })).setDso n
        (if (((d.enableSeen n).checkTe n psr).modPanel n (fun p => { p with trained := false })).flag (DSO_Dn_STAT_HPD n) = true then 1 else 4) := rfl
  rw [hshape, hhpd, hpaired, hsound, d.enableSeen_dso]
  refine if_congr (by rw [hwas]) rfl (if_congr (and_congr_right fun hp => ?_) rfl (if_congr (by simp) rfl rfl))
  rw [d.enableSeen_lockOk n hp]
  simp only [Bool.not_and, Bool.or_eq_true, Bool.not_eq_true', beq_eq_false_iff_ne, ne_eq]

theorem dsoEnable_get (n : Fin 2) (psr : Bool) {f : Fld} (hf : notEvq f) (h : f.key ∉ [(DSO_Dn_STAT_STATE n).key, (DSO_Dn_COVER_NS n).key])
    (he : ∀ m : Fin 2, f.key ≠ (DSO_Dn_EVT_CFG_ERR m).key) : (dsoEnable n psr d).get f = (d.enableSeen n).get f := by
  rw [dsoEnable_eq]
  split
  · rw [Dev.enterPsr_get _ _ h, Dev.checkTe_get _ _ _ hf (he n)]
  · split
    · exact (Dev.raise_get _ _ hf (he 1)).trans (Dev.raise_get _ _ hf (he 0))
    · split
      · rw [Dev.raise_get _ _ hf (he n)]
      · rw [Dev.setDso_get _ _ _ h, Dev.modPanel_get, Dev.checkTe_get _ _ _ hf (he n)]

theorem Dev.enableSeen_teUnfit (n : Fin 2) (psr : Bool) : (d.enableSeen n).teUnfit n psr = d.teUnfit n psr := by
  have key : ∀ n : Fin 2, ∀ f ∈ [DSO_Dn_CTL_UPD n, DSO_Dn_CTL_ROUTE n], 8 * 0x10900800 ≤ f.key ∧ f.key ∉ enableKeys n := by decide
  have same : ∀ f ∈ [DSO_Dn_CTL_UPD n, DSO_Dn_CTL_ROUTE n], (d.enableSeen n).get f = d.get f := fun f hf =>
    d.enableSeen_get n (.inr (key n f hf).1) (key n f hf).2
  simp only [Dev.teUnfit, Dev.flag, same (DSO_Dn_CTL_UPD n) (by simp), same (DSO_Dn_CTL_ROUTE n) (by simp)]

theorem Dev.checkTe_dso (n : Fin 2) (psr : Bool) : (d.checkTe n psr).dso n = d.dso n :=
  d.checkTe_get n psr (.inr (by clear * -; decide +revert)) (by clear * -; decide +revert)

/-- An engine that stays in RUN over its enabling has the panel that it had. -/
theorem Dev.enableSeen_panel_of_run (n : Fin 2) (h : d.stateFor n (d.hpdIn n) = 2) : (d.enableSeen n).panel n = d.panel n := by
  rw [d.enableSeen_panel, if_neg fun hc => ?_]
  rw [Dev.stateFor, if_pos hc] at h
  cases h

/-- An engine already on goes to PSR where its test lets it and it has nothing to send. -/
theorem Dev.enableSeen_psrDue (n : Fin 2) (psr : Bool) : ((d.enableSeen n).checkTe n psr).psrDue n ↔
    d.stateFor n (d.hpdIn n) = 2 ∧ d.flag (DSO_Dn_CTL_UPD n) = true ∧ d.teUnfit n psr = false ∧ (d.panel n).shown = true
      ∧ (d.panel n).sending = false ∧ d.get (DSO_Dn_COMMIT_GO (d.surface n)) = 0 := by
  have key : ∀ n : Fin 2, ∀ f ∈ [DSO_CTL_LOCK, DSO_Dn_CTL_UPD n, DSO_Dn_COMMIT_GO n, DSO_Dn_COMMIT_GO (0 : Fin 2).val],
      8 * 0x10900800 ≤ f.key ∧ f.key ∉ enableKeys n ∧ f.key ≠ (DSO_Dn_EVT_CFG_ERR n).key := by decide
  have same : ∀ f ∈ [DSO_CTL_LOCK, DSO_Dn_CTL_UPD n, DSO_Dn_COMMIT_GO n, DSO_Dn_COMMIT_GO (0 : Fin 2).val],
      ((d.enableSeen n).checkTe n psr).get f = d.get f := fun f hf => by
    obtain ⟨hlow, hkeys, herr⟩ := key n f hf
    rw [Dev.checkTe_get _ _ _ (.inr hlow) herr, d.enableSeen_get n (.inr hlow) hkeys]
  have hgo : ((d.enableSeen n).checkTe n psr).get (DSO_Dn_COMMIT_GO (((d.enableSeen n).checkTe n psr).surface n))
      = d.get (DSO_Dn_COMMIT_GO (d.surface n)) := by
    rw [Dev.surface_congr n (same _ (by simp))]
    obtain h | h := d.surface_cases n <;> rw [h] <;> exact same _ (by simp)
  have hdso : ((d.enableSeen n).checkTe n psr).dso n = d.stateFor n (d.hpdIn n) := by rw [Dev.checkTe_dso, d.enableSeen_dso]
  unfold Dev.psrDue
  rw [hdso, hgo]
  refine and_congr_right fun h2 => ?_
  simp only [Dev.teMode, Dev.flag, same (DSO_Dn_CTL_UPD n) (by simp), Dev.checkTe_panel, d.enableSeen_teUnfit, d.enableSeen_panel_of_run n h2,
    Bool.and_eq_true, Bool.not_eq_true', and_assoc]

theorem dsoEnable_clause (n : Fin 2) (psr : Bool) {d' : Dev} (he : dsoEnable n psr d = d') :
    let st := d.stateFor n (d.hpdIn n)
    let noTe := d.flag (DSO_Dn_CTL_UPD n) && !(psr && d.get (DSO_Dn_CTL_ROUTE n) == 0)
    d'.get (DSO_Dn_CTL_EN n) = 1 ∧ d'.get (DSO_Dn_STAT_HPD n) = b2n (d.hpdIn n)
    ∧ (d.flag (DSO_Dn_STAT_HPD n) ≠ d.hpdIn n → d'.get (DSO_Dn_EVT_HPD_CHANGE n) = 1)
    ∧ (if d.get (DSO_Dn_CTL_EN n) = 1 ∧ st ≠ 0 then (d'.panel n).noTe = noTe ∧ (noTe = true → d'.get (DSO_Dn_EVT_CFG_ERR n) = 1)
        ∧ d'.dso n = (if st = 2 ∧ d.flag (DSO_Dn_CTL_UPD n) = true ∧ noTe = false ∧ (d.panel n).shown = true ∧ (d.panel n).sending = false
            ∧ d.get (DSO_Dn_COMMIT_GO (d.surface n)) = 0 then 3 else st)
      else if d.paired = true ∧ (d.get (DSO_Dn_CTL_LANES 0) ≠ d.get (DSO_Dn_CTL_LANES 1) ∨ d.get (DSO_Dn_CTL_RATE 0) ≠ d.get (DSO_Dn_CTL_RATE 1)) then
        d'.get (DSO_Dn_EVT_CFG_ERR 0) = 1 ∧ d'.get (DSO_Dn_EVT_CFG_ERR 1) = 1 ∧ d'.dso n = st
      else if d.dsoSound n = false then d'.get (DSO_Dn_EVT_CFG_ERR n) = 1 ∧ d'.dso n = st
      else d'.dso n = (if d.hpdIn n = true then 1 else 4) ∧ (d'.panel n).trained = false ∧ (d'.panel n).noTe = noTe
        ∧ (noTe = true → d'.get (DSO_Dn_EVT_CFG_ERR n) = 1)) := by
  intro st noTe
  have hst : (d.enableSeen n).dso n = st := d.enableSeen_dso n
  have hunfit : d.teUnfit n psr = noTe := rfl
  have key : ∀ n m : Fin 2, (∀ f ∈ [DSO_Dn_CTL_EN n, DSO_Dn_STAT_HPD n, DSO_Dn_EVT_HPD_CHANGE n],
        8 * 0x10900800 ≤ f.key ∧ f.key ≠ (DSO_Dn_EVT_CFG_ERR m).key ∧ f.key ∉ [(DSO_Dn_STAT_STATE n).key, (DSO_Dn_COVER_NS n).key])
      ∧ (8 * 0x10900800 ≤ (DSO_Dn_STAT_STATE n).key ∧ (DSO_Dn_STAT_STATE n).key ≠ (DSO_Dn_EVT_CFG_ERR m).key)
      ∧ (DSO_Dn_EVT_CFG_ERR n).key ∉ [(DSO_Dn_STAT_STATE n).key, (DSO_Dn_COVER_NS n).key] := by decide
  have seen : ∀ f ∈ [DSO_Dn_CTL_EN n, DSO_Dn_STAT_HPD n, DSO_Dn_EVT_HPD_CHANGE n], d'.get f = (d.enableSeen n).get f := fun f hf => by
    rw [← he]
    exact dsoEnable_get d n psr (.inr ((key n n).1 f hf).1) ((key n n).1 f hf).2.2 fun m => ((key n m).1 f hf).2.1
  refine ⟨?_, ?_, fun hchange => ?_, ?_⟩
  · rw [seen _ (by simp), d.enableSeen_en]
  · rw [seen _ (by simp), d.enableSeen_hpd]
  · rw [seen _ (by simp), d.enableSeen_change n hchange]
  rw [dsoEnable_eq] at he
  obtain ⟨-, hstate, hcfg⟩ := key n n
  split
  · next hon =>
    rw [if_pos hon] at he
    subst he
    refine ⟨?_, fun hbad => ?_, ?_⟩
    · obtain ⟨b, hpanel⟩ := Dev.enterPsr_panel ((d.enableSeen n).checkTe n psr) n
      rw [hpanel, Dev.checkTe_panel, d.enableSeen_teUnfit]
      rfl
    · rw [Dev.enterPsr_get _ _ hcfg, Dev.checkTe_err _ _ _ (by rw [d.enableSeen_teUnfit, hunfit, hbad])]
    · have := Classical.dec (((d.enableSeen n).checkTe n psr).psrDue n)
      rw [Dev.enterPsr_dso, Dev.checkTe_dso, hst]
      exact if_congr (d.enableSeen_psrDue n psr) rfl rfl
  next hoff =>
  rw [if_neg hoff] at he
  split
  · next hpair =>
    rw [if_pos hpair] at he
    subst he
    refine ⟨?_, Dev.raise_self _ _ (cfgErr_notEvq 1) Nat.one_pos, ?_⟩
    · rw [Dev.raise_get _ _ (cfgErr_notEvq 0) (by clear * -; decide)]
      exact Dev.raise_self _ _ (cfgErr_notEvq 0) Nat.one_pos
    · obtain ⟨-, h0, -⟩ := key n 0
      obtain ⟨-, h1, -⟩ := key n 1
      exact ((Dev.raise_get _ _ (.inr h1.1) h1.2).trans (Dev.raise_get _ _ (.inr h0.1) h0.2)).trans hst
  next hpair =>
  rw [if_neg hpair] at he
  split
  · next hbad =>
    rw [if_pos hbad] at he
    subst he
    exact ⟨Dev.raise_self _ _ (cfgErr_notEvq n) Nat.one_pos, (Dev.raise_get _ _ (.inr hstate.1) hstate.2).trans hst⟩
  · next hsound =>
    rw [if_neg hsound] at he
    subst he
    refine ⟨?_, ?_, ?_, fun hbad => ?_⟩
    · rw [Dev.setDso_dso]
      split <;> rfl
    · rw [Dev.setDso_panel, Dev.panel_modPanel_same]
    · rw [Dev.setDso_panel, Dev.panel_modPanel_same, Dev.checkTe_panel, d.enableSeen_teUnfit]
      rfl
    · rw [Dev.setDso_get _ _ _ hcfg, Dev.modPanel_get, Dev.checkTe_err _ _ _ (by rw [d.enableSeen_teUnfit, hunfit, hbad])]

end Sys2Proof.Machine
end

section
/-! PROOFS. Frames: tearing effect, vertical blank and pixels not fetched. -/

namespace Sys2Proof.Machine
variable (d : Dev)

/-! ### A frame sent -/

/-- A frame of an engine begins. -/
def Dev.sendFrame (n : Nat) (d : Dev) : Dev := (d.modPanel n (fun p => { p with sending := true, late := false })).setDso n 2

theorem Dev.sendFrame_get (n : Nat) {f : Fld} (h : f.key ∉ [(DSO_Dn_STAT_STATE n).key, (DSO_Dn_COVER_NS n).key]) :
    (d.sendFrame n).get f = d.get f := Dev.setDso_get _ n 2 h

theorem Dev.sendFrame_dso (n : Nat) : (d.sendFrame n).dso n = 2 := Dev.setDso_dso _ n 2

theorem Dev.sendFrame_dso_ne {n m : Nat} (h : m ≠ n) : (d.sendFrame n).dso m = d.dso m := Dev.setDso_dso_ne _ 2 h

theorem Dev.sendFrame_panel (n : Nat) : (d.sendFrame n).panel n = { d.panel n with sending := true, late := false } :=
  d.panel_modPanel_same n (fun p => { p with sending := true, late := false })

theorem Dev.sendFrame_panel_ne {n m : Nat} (h : m ≠ n) : (d.sendFrame n).panel m = d.panel m :=
  d.panel_modPanel_ne (fun p => { p with sending := true, late := false }) h

theorem Dev.sendFrame_active (n m : Nat) : ((d.sendFrame n).panel m).active = (d.panel m).active := by
  by_cases h : m = n
  · subst h; rw [d.sendFrame_panel]
  · rw [d.sendFrame_panel_ne h]

/-- Engine 1 of a locked pair follows a frame of engine 0. -/
def Dev.bothSend (n : Nat) (d : Dev) : Bool := d.paired && n == 0 && d.teMode 1 && (d.dso 1 == 2 || d.dso 1 == 3)

theorem Dev.teSend_eq (n : Nat) : d.teSend n = if (d.sendFrame n).bothSend n = true then (d.sendFrame n).sendFrame 1 else d.sendFrame n := rfl

theorem Dev.bothSend_zero {n : Nat} (h : d.bothSend n = true) : n = 0 := by
  simp only [Dev.bothSend, Bool.and_eq_true, beq_iff_eq] at h
  exact h.1.1.2

theorem Dev.teSend_get (n : Nat) {f : Fld} (h : f.key ∉ [(DSO_Dn_STAT_STATE n).key, (DSO_Dn_COVER_NS n).key])
    (h1 : f.key ∉ [(DSO_Dn_STAT_STATE 1).key, (DSO_Dn_COVER_NS 1).key]) : (d.teSend n).get f = d.get f := by
  rw [d.teSend_eq]
  split
  · rw [Dev.sendFrame_get _ 1 h1, d.sendFrame_get n h]
  · exact d.sendFrame_get n h

theorem Dev.teSend_dso (n : Nat) : (d.teSend n).dso n = 2 := by
  rw [d.teSend_eq]
  split
  · next h =>
    have h0 := Dev.bothSend_zero _ h
    subst h0
    rw [Dev.sendFrame_dso_ne _ (by decide), d.sendFrame_dso]
  · exact d.sendFrame_dso n

theorem Dev.teSend_panel (n : Nat) : (d.teSend n).panel n = { d.panel n with sending := true, late := false } := by
  rw [d.teSend_eq]
  split
  · next h =>
    have h0 := Dev.bothSend_zero _ h
    subst h0
    rw [Dev.sendFrame_panel_ne _ (by decide), d.sendFrame_panel]
  · exact d.sendFrame_panel n

theorem Dev.teSend_active (n m : Nat) : ((d.teSend n).panel m).active = (d.panel m).active := by
  rw [d.teSend_eq]
  split
  · rw [Dev.sendFrame_active, Dev.sendFrame_active]
  · exact d.sendFrame_active n m

theorem Dev.teSend_ingest (n m : Nat) : (d.teSend n).ingest m = d.ingest m := by
  rw [d.teSend_eq]
  split <;> rfl

/-! ### Tearing effect -/

theorem stateKeys_lock : ∀ n : Fin 2, DSO_CTL_LOCK.key ∉ [(DSO_Dn_STAT_STATE n).key, (DSO_Dn_COVER_NS n).key]
    ∧ DSO_CTL_LOCK.key ∉ commitKeys n := by decide

theorem Dev.commitSet_paired (n : Fin 2) : (d.commitSet n).paired = d.paired := by
  simp only [Dev.paired, Dev.flag, Dev.commitSet_get n d (f := DSO_CTL_LOCK) (.inr (by decide)) (stateKeys_lock n).2]

theorem Dev.commitSet_dso (n m : Fin 2) : (d.commitSet n).dso m = d.dso m := by
  have key : ∀ n m : Fin 2, (DSO_Dn_STAT_STATE m).key ∉ commitKeys n ∧ 8 * 0x10900800 ≤ (DSO_Dn_STAT_STATE m).key := by decide
  exact Dev.commitSet_get n d (.inr (key n m).2) (key n m).1

theorem Dev.sendFrame_paired (n : Fin 2) : (d.sendFrame n).paired = d.paired := by
  simp only [Dev.paired, Dev.flag, d.sendFrame_get n (stateKeys_lock n).1]

theorem commitFlds_notMem_state : ∀ n m : Fin 2, ∀ f ∈ commitFlds n, f.key ∉ [(DSO_Dn_STAT_STATE m).key, (DSO_Dn_COVER_NS m).key] := by
  decide

/-- A commit stays one over the frame that it starts. -/
theorem Dev.Commits.teSend {d e : Dev} {n : Fin 2} (h : d.Commits n e) : d.Commits n (e.teSend n) :=
  h.congr_right (e.teSend_active n n) (e.teSend_ingest n n)
    fun f hf => e.teSend_get n (commitFlds_notMem_state n n f hf) (commitFlds_notMem_state n 1 f hf)

theorem Dev.teMode_congr {d e : Dev} {n : Nat} (hget : e.get (DSO_Dn_CTL_UPD n) = d.get (DSO_Dn_CTL_UPD n))
    (hpanel : (e.panel n).noTe = (d.panel n).noTe) : e.teMode n = d.teMode n := by
  simp only [Dev.teMode, Dev.flag, hget, hpanel]

theorem teEdge_clause (n : Fin 2) {d' : Dev} (he : teEdge n d = d') :
    if d.teMode n = true ∧ (d.dso n = 2 ∨ d.dso n = 3) ∧ (d.panel n).sending = false ∧ d.commitDue n = true then
      d'.dso n = 2 ∧ (d'.panel n).sending = true ∧ (d'.panel n).late = false ∧ d' = (d.commitSet n).teSend n ∧ d.Commits n d'
      ∧ (d.paired = false → d' = ((d.commitSet n).modPanel n (fun p => { p with sending := true, late := false })).setDso n 2)
      ∧ (d.paired = true → (d.commitSet n).teMode 1 = true → d.dso 1 = 2 ∨ d.dso 1 = 3 → d'.dso 1 = 2 ∧ (d'.panel 1).sending = true)
    else d' = d := by
  subst he
  unfold teEdge
  simp only [Bool.and_eq_true, Bool.or_eq_true, beq_iff_eq, Bool.not_eq_true', and_assoc]
  split
  · next h =>
    obtain ⟨hte, hrun, hsending, hdue⟩ := h
    have hpanel := (d.commitSet n).teSend_panel n
    refine ⟨Dev.teSend_dso _ n, by rw [hpanel], by rw [hpanel], rfl, (Dev.commitSet_commits n d).teSend, fun hp => ?_, fun hp hte1 hrun1 => ?_⟩
    · refine if_neg ?_
      change ¬ ((d.commitSet n).sendFrame n).bothSend n = true
      simp [Dev.bothSend, Dev.sendFrame_paired, d.commitSet_paired, hp]
    · have hn0 : n = 0 := by
        have hn1 : ¬ n.val = 1 := fun h1 => by simp [Dev.commitDue, hp, h1] at hdue
        omega
      subst hn0
      have key : (DSO_Dn_CTL_UPD 1).key ∉ [(DSO_Dn_STAT_STATE 0).key, (DSO_Dn_COVER_NS 0).key] := by decide
      have hte1' : ((d.commitSet 0).sendFrame 0).teMode 1 = true := by
        rw [← hte1]
        exact Dev.teMode_congr (Dev.sendFrame_get _ 0 key) (by rw [Dev.sendFrame_panel_ne _ (by decide)]; rfl)
      have hboth : ((d.commitSet 0).sendFrame 0).bothSend 0 = true := by
        have hdso1 : ((d.commitSet 0).sendFrame 0).dso 1 = d.dso 1 := (Dev.sendFrame_dso_ne _ (by decide)).trans (d.commitSet_dso 0 1)
        have hpaired : ((d.commitSet 0).sendFrame 0).paired = true := ((Dev.sendFrame_paired _ 0).trans (d.commitSet_paired 0)).trans hp
        simp [Dev.bothSend, hpaired, hdso1, hte1', hrun1]
      have hsend : (d.commitSet 0).teSend 0 = ((d.commitSet 0).sendFrame 0).sendFrame 1 := if_pos hboth
      change ((d.commitSet 0).teSend 0).dso 1 = 2 ∧ (((d.commitSet 0).teSend 0).panel 1).sending = true
      rw [hsend, Dev.sendFrame_panel]
      exact ⟨Dev.sendFrame_dso _ 1, rfl⟩
  · rfl

theorem teFrameSent_clause (n : Fin 2) {d' : Dev} (he : teFrameSent n d = d') :
    if d.dso n = 2 ∧ (d.panel n).sending = true then (d'.panel n).sending = false ∧ (d'.panel n).shown = true
      ∧ d'.dso n = (if d.teMode n = true ∧ d.get (DSO_Dn_COMMIT_GO (d.surface n)) = 0 then 3 else 2)
      ∧ d'.get (DSO_Dn_FCOUNT_COUNT n) = (d.get (DSO_Dn_FCOUNT_COUNT n) + 1) % 2 ^ 32
    else d' = d := by
  subst he
  unfold teFrameSent
  split
  · next h =>
    obtain ⟨hrun, hsending⟩ := h
    have key : ∀ n : Fin 2, (∀ f ∈ [DSO_CTL_LOCK, DSO_Dn_CTL_UPD n, DSO_Dn_STAT_STATE n, DSO_Dn_COMMIT_GO n, DSO_Dn_COMMIT_GO (0 : Fin 2).val],
        f.key ≠ (DSO_Dn_FCOUNT_COUNT n).key) ∧ (DSO_Dn_FCOUNT_COUNT n).key ∉ [(DSO_Dn_STAT_STATE n).key, (DSO_Dn_COVER_NS n).key] := by decide
    generalize hx : (d.modPanel n (fun p => { p with sending := false, shown := true })).inc (DSO_Dn_FCOUNT_COUNT n) = x
    have same : ∀ f ∈ [DSO_CTL_LOCK, DSO_Dn_CTL_UPD n, DSO_Dn_STAT_STATE n, DSO_Dn_COMMIT_GO n, DSO_Dn_COMMIT_GO (0 : Fin 2).val],
        x.get f = d.get f := fun f hf => by
      rw [← hx, Dev.get_inc_ne _ ((key n).1 f hf), Dev.modPanel_get]
    have hpanel : x.panel n = { d.panel n with sending := false, shown := true } := by
      rw [← hx, Dev.panel_inc, Dev.panel_modPanel_same]
    have hte : x.teMode n = d.teMode n := Dev.teMode_congr (same _ (by simp)) (by rw [hpanel])
    have hdso : x.dso n = 2 := (same _ (by simp)).trans hrun
    have hgo : x.get (DSO_Dn_COMMIT_GO (x.surface n)) = d.get (DSO_Dn_COMMIT_GO (d.surface n)) := by
      rw [Dev.surface_congr n (same _ (by simp))]
      obtain h | h := d.surface_cases n <;> rw [h] <;> exact same _ (by simp)
    obtain ⟨b, hlate⟩ := x.enterPsr_panel n
    have hcount : x.get (DSO_Dn_FCOUNT_COUNT n) = (d.get (DSO_Dn_FCOUNT_COUNT n) + 1) % 2 ^ 32 := by
      rw [← hx]; exact Dev.get_inc_same _ _
    have := Classical.dec (x.psrDue n)
    refine ⟨by rw [hlate, hpanel], by rw [hlate, hpanel], ?_, (x.enterPsr_get n (key n).2).trans hcount⟩
    rw [x.enterPsr_dso, hdso]
    refine if_congr ?_ rfl rfl
    simp [Dev.psrDue, hdso, hte, hpanel, hgo]
  · rfl

theorem teTimeout_clause (n : Fin 2) {d' : Dev} (he : teTimeout n d = d') :
    if d.teMode n = true ∧ (d.dso n = 2 ∨ d.dso n = 3) ∧ d.get (DSO_Dn_COMMIT_GO n) = 1 ∧ (d.paired = true → n.val = 0) then
      d'.get (DSO_Dn_EVT_TE_LOST n) = 1 ∧ d'.dso n = 2 ∧ (d'.panel n).late = true
    else d' = d := by
  subst he
  have hgo : d.flag (DSO_Dn_COMMIT_GO n) = true ↔ d.get (DSO_Dn_COMMIT_GO n) = 1 := by
    have : d.get (DSO_Dn_COMMIT_GO n) < 2 := d.get_lt _
    simp only [Dev.flag, bne_iff_ne]; omega
  have hpair : (d.paired && n.val == 1) = false ↔ (d.paired = true → n.val = 0) := by
    have := n.isLt
    cases d.paired <;> simp; omega
  have key : ∀ n : Fin 2, 8 * 0x10900800 ≤ (DSO_Dn_EVT_TE_LOST n).key ∧ 8 * 0x10900800 ≤ (DSO_Dn_STAT_STATE n).key
    ∧ (DSO_Dn_STAT_STATE n).key ≠ (DSO_Dn_EVT_TE_LOST n).key ∧ (DSO_Dn_STAT_STATE n).key ≠ (DSO_Dn_TELOST_COUNT n).key := by decide
  obtain ⟨hevt, hstate, hne, hcount⟩ := key n
  unfold teTimeout
  simp only [Bool.and_eq_true, Bool.or_eq_true, beq_iff_eq, Bool.not_eq_true', and_assoc, hgo, hpair]
  split
  · refine ⟨Dev.raise_self _ _ (.inr hevt) Nat.one_pos, ?_, ?_⟩
    · exact (Dev.raise_get _ _ (.inr hstate) hne).trans ((Dev.get_inc_ne _ hcount).trans (Dev.setDso_dso _ n 2))
    · rw [Dev.panel_raise, Dev.panel_inc, Dev.setDso_panel, Dev.panel_modPanel_same]
  · rfl

/-! ### The cover of a full line buffer -/

/-- The fields that an engine's cover is reckoned from. -/
def coverFlds (m : Nat) : List Fld :=
  [DSO_CTL_LOCK, DSO_Dn_HTIM0_HACTIVE m, DSO_Dn_HTIM0_HFP m, DSO_Dn_HTIM1_HSYNC m, DSO_Dn_HTIM1_HBP m, DSO_Dn_PCLK_KHZ m]

theorem Dev.fullCover_congr {d e : Dev} (n : Fin 2) (hactive : ∀ m, (e.panel m).active = (d.panel m).active)
    (hget : ∀ m : Fin 2, ∀ f ∈ coverFlds m, e.get f = d.get f) : e.fullCover n = d.fullCover n := by
  have hlock := hget 0 DSO_CTL_LOCK (by simp [coverFlds])
  have hpaired : e.paired = d.paired := by simp only [Dev.paired, Dev.flag, hlock]
  have hsurface := Dev.surface_congr n.val hlock
  have htiming : ∀ f ∈ coverFlds (d.surface n), e.get f = d.get f := by
    obtain h | h := d.surface_cases n <;> rw [h] <;> exact hget _
  simp only [coverFlds, List.forall_mem_cons] at htiming
  obtain ⟨-, hactiveW, hfp, hsync, hbp, hpclk, -⟩ := htiming
  have hleft : e.get (DSO_Dn_HTIM0_HACTIVE 0) = d.get (DSO_Dn_HTIM0_HACTIVE 0) := hget 0 _ (by simp [coverFlds])
  have hcolumns : e.columns n = d.columns n := by
    funext l
    simp only [Dev.columns, hsurface, hactive, hpaired, hleft]
  simp only [Dev.fullCover, hsurface, hactive, hcolumns, hactiveW, hfp, hsync, hbp, hpclk]

theorem Dev.fullCover_lt (n : Nat) : d.fullCover n < 2 ^ 20 := by
  unfold Dev.fullCover
  dsimp only
  split
  · decide
  · exact lt_of_le_of_lt (min_le_left _ _) (by decide)

/-! ### Vertical blank -/

/-- A device at the blank of an engine, its line buffer read and the gaps of the last frame closed. -/
def Dev.atBlank (n word : Nat) (ecc : Ecc) (d : Dev) : Dev := (d.memRead 8 n word ecc).modPanel n (fun p => { p with gap := none })

/-- The commit that is due at that blank, and the frame that it starts. -/
def Dev.blankCommit (n : Nat) (te late due : Bool) (x : Dev) : Dev :=
  let x := if (due && (!te || late)) = true then x.commitSet n else x
  if (late && due) = true then x.teSend n else x

/-- The frame of a raster counted. -/
def Dev.blankCount (n : Nat) (te : Bool) (x : Dev) : Dev :=
  if te = true then x else (x.inc (DSO_Dn_FCOUNT_COUNT n)).modPanel n (fun p => { p with shown := true })

/-- The cover is that of a full line buffer again. -/
def Dev.blankCover (n : Nat) (x : Dev) : Dev := (x.set (DSO_Dn_COVER_NS n) (x.fullCover n)).raise (DSO_Dn_EVT_VBLANK n)

theorem vblankStart_eq (n word : Nat) (ecc : Ecc) : vblankStart n word ecc d = if d.dso n ≠ 2 then d
    else (((d.atBlank n word ecc).blankCommit n ((d.atBlank n word ecc).teMode n) ((d.atBlank n word ecc).panel n).late
      ((d.atBlank n word ecc).commitDue n)).blankCount n ((d.atBlank n word ecc).teMode n)).blankCover n := rfl

section
variable {d} {x : Dev} {n : Fin 2}

theorem atBlank_same (d : Dev) (n word : Nat) (ecc : Ecc) :
    (∀ f : Fld, ¬besideDso f → (d.atBlank n word ecc).get f = d.get f) ∧ (d.atBlank n word ecc).panel n = { d.panel n with gap := none }
      ∧ (d.atBlank n word ecc).time = d.time ∧ (d.atBlank n word ecc).power = d.power ∧ d.SamePending (d.atBlank n word ecc)
      ∧ (∀ m, (d.atBlank n word ecc).ingest m = d.ingest m) := by
  have hread := d.memRead_display 8 n word ecc
  refine ⟨hread.get, ?_, hread.time, hread.power, hread.pending, fun m => ?_⟩
  · refine (Dev.panel_modPanel_same _ n _).trans ?_
    rw [Dev.panel, hread.scan, ← Dev.panel]
  · change (d.memRead 8 n word ecc).ingest m = _
    rw [Dev.ingest, hread.scan, ← Dev.ingest]

/-- A commit from the blank is one from the device before it. -/
theorem Dev.Commits.of_atBlank {d e : Dev} {n : Fin 2} {word : Nat} {ecc : Ecc} (h : (d.atBlank n word ecc).Commits n e) : d.Commits n e := by
  obtain ⟨hget, hpanel, htime, hpower, ⟨hwords, hpending⟩, -⟩ := atBlank_same d n word ecc
  obtain ⟨hset, happ, hgo, hflipped, hnotBefore, hflip⟩ := h
  have hwritten : (d.atBlank n word ecc).writtenNow (DSO_Dn_COMMIT_GO n) = d.writtenNow (DSO_Dn_COMMIT_GO n) := by
    unfold Dev.writtenNow Dev.sameCycle
    rw [hwords, hpower]
  have htb : (d.atBlank n word ecc).tb 0 = d.tb 0 := by rw [Dev.tb, htime, ← Dev.tb]
  have hfront : ∀ l ∈ List.range 4, (d.atBlank n word ecc).get (DSO_Dn_Ll_CFG_FRONT n l) = d.get (DSO_Dn_Ll_CFG_FRONT n l) := fun l hl => by
    have := n.isLt
    simp only [List.mem_range] at hl
    exact hget _ (by simp only [besideDso, DSO_Dn_Ll_CFG_FRONT, DSO_Dn_Ll_CFG_A]; omega)
  have happlied := hget (DSO_Dn_APPLIED_COUNT n) (by have := n.isLt; simp only [besideDso, DSO_Dn_APPLIED_COUNT, DSO_Dn_APPLIED_A]; omega)
  refine ⟨hset.trans (hpending n), by rw [← happlied]; exact happ, by rw [← hwritten]; exact hgo, hflipped, hnotBefore, fun hturned => ?_⟩
  rw [← htb]
  refine hflip ?_
  rw [List.any_eq_true] at hturned ⊢
  obtain ⟨l, hl, hne⟩ := hturned
  refine ⟨l, hl, ?_⟩
  rw [hfront l hl, hpanel]
  exact hne

/-- What a blank's commit and frame write. -/
def blankKeys (n : Nat) : List Nat :=
  commitKeys n ++ [(DSO_Dn_STAT_STATE n).key, (DSO_Dn_COVER_NS n).key] ++ [(DSO_Dn_STAT_STATE 1).key, (DSO_Dn_COVER_NS 1).key]

theorem Dev.blankCommit_get (te late due : Bool) {f : Fld} (hf : notEvq f) (h : f.key ∉ blankKeys n) :
    (x.blankCommit n te late due).get f = x.get f := by
  simp only [blankKeys, List.mem_append, not_or] at h
  obtain ⟨⟨hcommit, hstate⟩, hstate1⟩ := h
  have hset : (if (due && (!te || late)) = true then x.commitSet n else x).get f = x.get f := by
    split
    · exact Dev.commitSet_get n x hf hcommit
    · rfl
  unfold Dev.blankCommit
  dsimp only
  split
  · rw [Dev.teSend_get _ n hstate hstate1, hset]
  · exact hset

theorem Dev.blankCommit_dso (te late due : Bool) (h : x.dso n = 2) : (x.blankCommit n te late due).dso n = 2 := by
  have hset : (if (due && (!te || late)) = true then x.commitSet n else x).dso n = 2 := by
    split
    · rw [Dev.commitSet_dso, h]
    · exact h
  unfold Dev.blankCommit
  dsimp only
  split
  · exact Dev.teSend_dso _ n
  · exact hset

theorem Dev.blankCommit_gap (te late due : Bool) : ((x.blankCommit n te late due).panel n).gap = (x.panel n).gap := by
  have hset : ((if (due && (!te || late)) = true then x.commitSet n else x).panel n).gap = (x.panel n).gap := by
    split
    · rw [Dev.commitSet_panel]
    · rfl
  unfold Dev.blankCommit
  dsimp only
  split
  · rw [Dev.teSend_panel, ← hset]
  · exact hset

theorem Dev.blankCommit_sends (te : Bool) : ((x.blankCommit n te true true).panel n).sending = true ∧ ((x.blankCommit n te true true).panel n).late = false := by
  have hsend : x.blankCommit n te true true = (if (true && (!te || true)) = true then x.commitSet n else x).teSend n := rfl
  rw [hsend, Dev.teSend_panel]
  exact ⟨rfl, rfl⟩

theorem Dev.blankCommit_commits {te late due : Bool} (h : due = true ∧ (te = false ∨ late = true)) : x.Commits n (x.blankCommit n te late due) := by
  have hc : (due && (!te || late)) = true := by simpa using h
  unfold Dev.blankCommit
  dsimp only
  rw [if_pos hc]
  split
  · exact (Dev.commitSet_commits n x).teSend
  · exact Dev.commitSet_commits n x

theorem Dev.blankCommit_of_not {te late due : Bool} (h : ¬(due = true ∧ (te = false ∨ late = true))) : x.blankCommit n te late due = x := by
  have hc : (due && (!te || late)) = false := by simpa using h
  have hs : (late && due) = false := by
    revert h; cases due <;> cases late <;> simp
  unfold Dev.blankCommit
  simp [hc, hs]

theorem Dev.blankCount_get (te : Bool) {f : Fld} (h : f.key ≠ (DSO_Dn_FCOUNT_COUNT n).key) : (x.blankCount n te).get f = x.get f := by
  unfold Dev.blankCount
  split
  · rfl
  · exact Dev.get_inc_ne _ h

theorem Dev.blankCount_count (te : Bool) :
    (x.blankCount n te).get (DSO_Dn_FCOUNT_COUNT n) = (x.get (DSO_Dn_FCOUNT_COUNT n) + (if te then 0 else 1)) % 2 ^ 32 := by
  cases te with
  | true => exact (Nat.mod_eq_of_lt (x.get_lt (DSO_Dn_FCOUNT_COUNT n))).symm
  | false => exact Dev.get_inc_same _ _

/-- Counting a frame changes nothing of a panel but that an image has been shown. -/
theorem Dev.blankCount_panel (te : Bool) : (x.blankCount n te).panel n = { x.panel n with shown := !te || (x.panel n).shown } := by
  cases te with
  | true => rfl
  | false => exact (x.inc (DSO_Dn_FCOUNT_COUNT n)).panel_modPanel_same n (fun p => { p with shown := true })

theorem Dev.blankCount_ingest (te : Bool) (m : Nat) : (x.blankCount n te).ingest m = x.ingest m := by
  cases te <;> rfl

theorem Dev.blankCover_scan : (x.blankCover n).scan = x.scan := (Dev.raise_core _ _).scan

theorem Dev.blankCover_get {f : Fld} (hf : notEvq f) (hevt : f.key ≠ (DSO_Dn_EVT_VBLANK n).key) (hcover : f.key ≠ (DSO_Dn_COVER_NS n).key) :
    (x.blankCover n).get f = x.get f := by
  rw [Dev.blankCover, Dev.raise_get _ _ hf hevt, Dev.get_set_ne _ _ hcover]

/-- The cover shown is that of the engine as the blank leaves it. -/
theorem Dev.blankCover_cover : (x.blankCover n).get (DSO_Dn_COVER_NS n) = (x.blankCover n).fullCover n := by
  have key : ∀ n : Fin 2, ((DSO_Dn_COVER_NS n).key ≠ (DSO_Dn_EVT_VBLANK n).key ∧ 8 * 0x10900800 ≤ (DSO_Dn_COVER_NS n).key)
      ∧ ∀ m : Fin 2, ∀ f ∈ coverFlds m, 8 * 0x10900800 ≤ f.key ∧ f.key ≠ (DSO_Dn_EVT_VBLANK n).key ∧ f.key ≠ (DSO_Dn_COVER_NS n).key := by
    decide
  obtain ⟨⟨hevt, hhigh⟩, hflds⟩ := key n
  have hfull : (x.blankCover n).fullCover n = x.fullCover n := by
    refine Dev.fullCover_congr n (fun m => ?_) fun m f hf => ?_
    · rw [Dev.panel, Dev.blankCover_scan, ← Dev.panel]
    · obtain ⟨hlow, hne, hc⟩ := hflds m f hf
      exact Dev.blankCover_get (.inr hlow) hne hc
  rw [hfull, Dev.blankCover, Dev.raise_get _ _ (.inr hhigh) hevt, Dev.get_set_same]
  exact Nat.mod_eq_of_lt (x.fullCover_lt n)

end

theorem Dev.atBlank_commitDue (n : Fin 2) (word : Nat) (ecc : Ecc) : (d.atBlank n word ecc).commitDue n = d.commitDue n := by
  obtain ⟨hget, -, htime, -, -, hingest⟩ := atBlank_same d n word ecc
  have hgo := hget (DSO_Dn_COMMIT_GO n) (by have := n.isLt; simp only [besideDso, DSO_Dn_COMMIT_GO, DSO_Dn_COMMIT_A]; omega)
  have hlock := hget DSO_CTL_LOCK (by simp only [besideDso, DSO_CTL_LOCK, DSO_CTL_A]; omega)
  have hstamp : (d.atBlank n word ecc).stamp = d.stamp := by
    simp only [Dev.stamp, Dev.now, Dev.tb, htime]
  simp only [Dev.commitDue, Dev.flipsDue, Dev.paired, Dev.flag, hgo, hlock, hingest, hstamp]

theorem vblankStart_clause (n : Fin 2) (word : Nat) (ecc : Ecc) {d' : Dev} (he : vblankStart n word ecc d = d') :
    if d.dso n ≠ 2 then d' = d
    else let due := d.flag (DSO_Dn_COMMIT_GO n) && d.flipsDue n && !(d.paired && n.val == 1)
      let late := (d.panel n).late
      d'.get (DSO_Dn_EVT_VBLANK n) = 1 ∧ (d'.panel n).gap = none ∧ d'.get (DSO_Dn_COVER_NS n) = d'.fullCover n ∧ d'.dso n = 2
      ∧ d'.get (DSO_Dn_FCOUNT_COUNT n) = (d.get (DSO_Dn_FCOUNT_COUNT n) + (if d.teMode n then 0 else 1)) % 2 ^ 32
      ∧ (d.teMode n = false → (d'.panel n).shown = true)
      ∧ (if due = true ∧ (d.teMode n = false ∨ late = true) then d.Commits n d'
        else (d'.panel n).active = (d.panel n).active ∧ d'.get (DSO_Dn_APPLIED_COUNT n) = d.get (DSO_Dn_APPLIED_COUNT n)
          ∧ d'.get (DSO_Dn_COMMIT_GO n) = d.get (DSO_Dn_COMMIT_GO n))
      ∧ (late = true → due = true → (d'.panel n).sending = true ∧ (d'.panel n).late = false) := by
  rw [vblankStart_eq] at he
  split
  · next hne =>
    rw [if_pos hne] at he
    exact he.symm
  next hrun =>
  rw [if_neg hrun] at he
  intro due late
  obtain ⟨hget, hpanel, -⟩ := atBlank_same d n word ecc
  have key : ∀ n : Fin 2, (∀ f ∈ [DSO_Dn_CTL_UPD n, DSO_Dn_STAT_STATE n, DSO_Dn_FCOUNT_COUNT n, DSO_Dn_APPLIED_COUNT n, DSO_Dn_COMMIT_GO n],
        8 * 0x10D00000 ≤ f.key ∧ f.key < 8 * 0x10D10000 ∧ f.key ≠ (DSO_Dn_EVT_VBLANK n).key ∧ f.key ≠ (DSO_Dn_COVER_NS n).key)
      ∧ (∀ f ∈ DSO_Dn_STAT_STATE n :: commitFlds n, 8 * 0x10D00000 ≤ f.key ∧ f.key ≠ (DSO_Dn_FCOUNT_COUNT n).key ∧ f.key ≠ (DSO_Dn_EVT_VBLANK n).key
        ∧ f.key ≠ (DSO_Dn_COVER_NS n).key)
      ∧ (DSO_Dn_FCOUNT_COUNT n).key ∉ blankKeys n ∧ 8 * 0x10D00000 ≤ (DSO_Dn_EVT_VBLANK n).key := by decide
  obtain ⟨hread, hkept, hcount, hevt⟩ := key n
  have blank : ∀ f ∈ [DSO_Dn_CTL_UPD n, DSO_Dn_STAT_STATE n, DSO_Dn_FCOUNT_COUNT n, DSO_Dn_APPLIED_COUNT n, DSO_Dn_COMMIT_GO n],
      (d.atBlank n word ecc).get f = d.get f := fun f hf => hget f (by
    obtain ⟨h1, h2, -⟩ := hread f hf
    unfold besideDso; omega)
  have hte : (d.atBlank n word ecc).teMode n = d.teMode n := Dev.teMode_congr (blank _ (by simp)) (by rw [hpanel])
  have hdue : (d.atBlank n word ecc).commitDue n = due := d.atBlank_commitDue n word ecc
  have hlate : ((d.atBlank n word ecc).panel n).late = late := by rw [hpanel]
  have hdso : (d.atBlank n word ecc).dso n = 2 := (blank _ (by simp)).trans (not_not.mp hrun)
  rw [hte, hdue, hlate] at he
  generalize hx : (d.atBlank n word ecc).blankCommit n (d.teMode n) late due = x at he
  subst he
  have hcover_panel : ((x.blankCount n (d.teMode n)).blankCover n).panel n = { x.panel n with shown := !d.teMode n || (x.panel n).shown } := by
    rw [Dev.panel, Dev.blankCover_scan, ← Dev.panel, Dev.blankCount_panel]
  have kept : ∀ f ∈ DSO_Dn_STAT_STATE n :: commitFlds n, ((x.blankCount n (d.teMode n)).blankCover n).get f = x.get f := fun f hf => by
    obtain ⟨hlow, hc, he, hcov⟩ := hkept f hf
    rw [Dev.blankCover_get (.inr (by omega)) he hcov, Dev.blankCount_get _ hc]
  refine ⟨Dev.raise_self _ _ (.inr (by omega)) Nat.one_pos, ?_, Dev.blankCover_cover, ?_, ?_, fun hnote => ?_, ?_, fun hl hd => ?_⟩
  · rw [hcover_panel, ← hx, Dev.blankCommit_gap, hpanel]
  · exact (kept _ (by simp)).trans (by rw [← hx]; exact Dev.blankCommit_dso _ _ _ hdso)
  · obtain ⟨hlow, -, he, hcov⟩ := hread (DSO_Dn_FCOUNT_COUNT n) (by simp)
    rw [Dev.blankCover_get (.inr (by omega)) he hcov, Dev.blankCount_count, ← hx, Dev.blankCommit_get _ _ _ (.inr (by omega)) hcount, blank _ (by simp)]
  · rw [hcover_panel]
    simp [hnote]
  · split
    · next hc =>
      have hcommits : d.Commits n x := by rw [← hx]; exact (Dev.blankCommit_commits hc).of_atBlank
      refine hcommits.congr_right (by rw [hcover_panel]) ?_ fun f hf => kept f (List.mem_cons_of_mem _ hf)
      rw [Dev.ingest, Dev.blankCover_scan, ← Dev.ingest, Dev.blankCount_ingest]
    · next hc =>
      have hsame : x = d.atBlank n word ecc := by rw [← hx]; exact Dev.blankCommit_of_not hc
      rw [hcover_panel, kept _ (by simp [commitFlds]), kept _ (by simp [commitFlds]), hsame, hpanel, blank _ (by simp), blank _ (by simp)]
      exact ⟨rfl, rfl, rfl⟩
  · obtain ⟨hsending, hnotLate⟩ := Dev.blankCommit_sends (x := d.atBlank n word ecc) (n := n) (d.teMode n)
    rw [hl, hd] at hx
    rw [hx] at hsending hnotLate
    rw [hcover_panel]
    exact ⟨hsending, hnotLate⟩

/-! ### A pixel not fetched -/

theorem Dev.pixel_of_gap (n x y : Nat) (h : (d.panel (d.surface n)).gap = some (x, y)) :
    d.pixel n x y = (pixelOf 2 ((d.panel (d.surface n)).active.get (DSO_Dn_BG_RGB (d.surface n)).key 0)).1 := by
  have hgiven : d.givenUp n x y = true := by simp [Dev.givenUp, h]
  exact if_pos hgiven

theorem pixelUnderrun_clause (n : Fin 2) (x y : Nat) {d' : Dev} (he : pixelUnderrun n x y d = d') :
    if d.dso n ≠ 2 then d' = d
    else d'.get (DSO_Dn_COVER_NS n) = 0
      ∧ (if d.paired = false then (if (d.panel n).gap.any (fun g => g.2 == y) = true then d.only [(DSO_Dn_COVER_NS n).key] d'
          else d'.get (DSO_Dn_EVT_UNDERRUN n) = 1 ∧ d'.get (DSO_Dn_UNDERRUN_COUNT n) = (d.get (DSO_Dn_UNDERRUN_COUNT n) + 1) % 2 ^ 32
            ∧ (d'.panel n).gap = some (x, y)
            ∧ d'.pixel n x y = (pixelOf 2 ((d.panel n).active.get (DSO_Dn_BG_RGB n).key 0)).1)
        else if (d.panel 0).gap.isSome = true then d.only [(DSO_Dn_COVER_NS n).key] d'
        else d'.get (DSO_Dn_EVT_ABORT 0) = 1 ∧ (d'.panel 0).gap = some (x, y)
          ∧ d'.get (DSO_Dn_ABORTS_COUNT 0) = (d.get (DSO_Dn_ABORTS_COUNT 0) + 1) % 2 ^ 32) := by
  subst he
  unfold pixelUnderrun
  split
  · rfl
  have key : ∀ n : Fin 2, (∀ g ∈ [DSO_Dn_UNDERRUN_COUNT n, DSO_Dn_EVT_UNDERRUN n, DSO_Dn_ABORTS_COUNT 0, DSO_Dn_EVT_ABORT 0],
        (DSO_Dn_COVER_NS n).key ≠ g.key ∧ DSO_CTL_LOCK.key ≠ g.key ∧ 8 * 0x10900800 ≤ g.key)
      ∧ DSO_CTL_LOCK.key ≠ (DSO_Dn_COVER_NS n).key ∧ 8 * 0x10900800 ≤ (DSO_Dn_COVER_NS n).key ∧ (DSO_Dn_UNDERRUN_COUNT n).key ≠ (DSO_Dn_EVT_UNDERRUN n).key
      ∧ (DSO_Dn_ABORTS_COUNT 0).key ≠ (DSO_Dn_EVT_ABORT 0).key ∧ 8 * 0x10900800 ≤ DSO_CTL_LOCK.key := by decide
  obtain ⟨hother, hlock, hcover, hunder, habort, hlockHigh⟩ := key n
  have hpaired : (d.set (DSO_Dn_COVER_NS n) 0).paired = d.paired := by
    simp only [Dev.paired, Dev.flag, d.get_set_ne 0 hlock]
  have honly : d.only [(DSO_Dn_COVER_NS n).key] (d.set (DSO_Dn_COVER_NS n) 0) := (Dev.only.refl d _).set (by simp) 0
  have hzero : (d.set (DSO_Dn_COVER_NS n) 0).get (DSO_Dn_COVER_NS n) = 0 := Dev.get_set_same _ _ _
  simp only [hpaired]
  cases hp : d.paired with
  | false =>
    have hsurface : d.surface n = n := by simp [Dev.surface, hp]
    simp only [hsurface, if_true, Bool.false_eq_true, if_false]
    split
    · exact ⟨hzero, honly⟩
    · have hu := hother (DSO_Dn_UNDERRUN_COUNT n) (by simp)
      have hev := hother (DSO_Dn_EVT_UNDERRUN n) (by simp)
      generalize hx : (((d.set (DSO_Dn_COVER_NS n) 0).modPanel n (fun p => { p with gap := some (x, y) })).inc (DSO_Dn_UNDERRUN_COUNT n)).raise
        (DSO_Dn_EVT_UNDERRUN n) = e
      have hpanel : e.panel n = { d.panel n with gap := some (x, y) } := by
        rw [← hx, Dev.panel_raise, Dev.panel_inc]
        exact Dev.panel_modPanel_same _ n _
      have hsurf : e.surface n = n := by
        refine (Dev.surface_congr n ?_).trans hsurface
        rw [← hx, Dev.raise_get _ _ (.inr hlockHigh) hev.2.1, Dev.get_inc_ne _ hu.2.1, Dev.modPanel_get, d.get_set_ne 0 hlock]
      refine ⟨?_, ?_, ?_, by rw [hpanel], ?_⟩
      · rw [← hx, Dev.raise_get _ _ (.inr hcover) hev.1, Dev.get_inc_ne _ hu.1, Dev.modPanel_get, hzero]
      · rw [← hx]
        exact Dev.raise_self _ _ (.inr hev.2.2) Nat.one_pos
      · rw [← hx, Dev.raise_get _ _ (.inr hu.2.2) hunder, Dev.get_inc_same, Dev.modPanel_get, d.get_set_ne 0 hu.1.symm]
        rfl
      · rw [e.pixel_of_gap n x y (by rw [hsurf, hpanel]), hsurf, hpanel]
  | true =>
    have hsurface : d.surface n = 0 := by simp [Dev.surface, hp]
    simp only [hsurface, if_true, Bool.true_eq_false, if_false]
    split
    · exact ⟨hzero, honly⟩
    · have ha := hother (DSO_Dn_ABORTS_COUNT 0) (by simp)
      have hev := hother (DSO_Dn_EVT_ABORT 0) (by simp)
      refine ⟨?_, Dev.raise_self _ _ (.inr hev.2.2) Nat.one_pos, ?_, ?_⟩
      · rw [Dev.raise_get _ _ (.inr hcover) hev.1, Dev.get_inc_ne _ ha.1, Dev.modPanel_get, hzero]
      · rw [Dev.panel_raise, Dev.panel_inc, Dev.panel_modPanel_same]
      · rw [Dev.raise_get _ _ (.inr ha.2.2) habort, Dev.get_inc_same, Dev.modPanel_get, d.get_set_ne 0 ha.1.symm]
        rfl

end Sys2Proof.Machine

namespace Sys2Proof.Proofs
open Sys2Proof Sys2Proof.Machine

/-- Settles O38: the clause of each command, a command of the display's domain or of its pins. -/
theorem scanoutStateMachineComplete : Obligations.ScanoutStateMachineComplete := by
  unfold Obligations.ScanoutStateMachineComplete
  intro s
  refine ⟨fun n psr => ?_, fun n => ?_, fun n ok lanes rate => ?_, fun n => ?_, fun n => ?_, fun n bad => ?_, fun n word ecc => ?_, fun n => ?_,
    fun n => ?_, fun n => ?_, fun n x y => ?_⟩
  · exact .onDomain rfl (dsoEnable_clause s.dev n psr rfl)
  · exact .onDomain rfl (dsoDisable_clause s.dev n)
  · exact .onPins rfl (linkTrainingDone_clause s.dev n ok lanes rate rfl)
  · exact .onPins rfl (dsoHpdHigh_clause s.dev n)
  · exact .onPins rfl (dsoHpdLow_clause s.dev n)
  · exact .onPins rfl (dsoIrqHpd_clause s.dev n bad)
  · exact .onDomain rfl (vblankStart_clause s.dev n word.toNat ecc rfl)
  · exact .onPins rfl (teEdge_clause s.dev n rfl)
  · exact .onDomain rfl (teFrameSent_clause s.dev n rfl)
  · exact .onDomain rfl (teTimeout_clause s.dev n rfl)
  · exact .onDomain rfl (pixelUnderrun_clause s.dev n x.toNat y.toNat rfl)

end Sys2Proof.Proofs
end

section
/-! PROOFS. Only time passing moves the power die's clock. -/

namespace Sys2Proof.Machine

@[simp] theorem osc_ite (c : Prop) [Decidable c] (a b : Dev) :
    (if c then a else b).power.osc = if c then a.power.osc else b.power.osc := by
  split <;> rfl

@[simp] theorem osc_ite_snd {α : Type} (c : Prop) [Decidable c] (a b : α × Dev) :
    (if c then a else b).2.power.osc = if c then a.2.power.osc else b.2.power.osc := by
  split <;> rfl

@[simp] theorem osc_forAll {α : Type} (l : List α) (f : α → Dev → Dev) (h : ∀ x d, (f x d).power.osc = d.power.osc) (d : Dev) :
    (forAll l f d).power.osc = d.power.osc := by
  induction l generalizing d with
  | nil => rfl
  | cons x l ih => exact (ih (f x d)).trans (h x d)

theorem osc_foldl {α β : Type} {f : α × Dev → β → α × Dev} (h : ∀ x b, (f x b).2.power.osc = x.2.power.osc) (l : List β) (x : α × Dev) :
    (l.foldl f x).2.power.osc = x.2.power.osc := by
  induction l generalizing x with
  | nil => rfl
  | cons b l ih => exact (ih (f x b)).trans (h x b)

@[simp] theorem Dev.set_osc (d : Dev) (f : Fld) (v : Nat) : (d.set f v).power.osc = d.power.osc := (rfl)
@[simp] theorem Dev.incBy_osc (d : Dev) (f : Fld) (n : Nat) : (d.incBy f n).power.osc = d.power.osc := (rfl)
@[simp] theorem Dev.inc_osc (d : Dev) (f : Fld) : (d.inc f).power.osc = d.power.osc := (rfl)
@[simp] theorem Dev.incSatBy_osc (d : Dev) (f : Fld) (n : Nat) : (d.incSatBy f n).power.osc = d.power.osc := (rfl)
@[simp] theorem Dev.decBy_osc (d : Dev) (f : Fld) (n : Nat) : (d.decBy f n).power.osc = d.power.osc := (rfl)
@[simp] theorem Dev.fresh_osc (d : Dev) : d.fresh.2.power.osc = d.power.osc := (rfl)

@[simp] theorem Dev.putBytes_osc (d : Dev) (a : Nat) (l : List Byte) : (d.putBytes a l).power.osc = d.power.osc := by
  conv_rhs => rw [← (d.putBytes_sameButMem a l).rest]

@[simp] theorem Dev.store_osc (d : Dev) (a n v : Nat) : (d.store a n v).power.osc = d.power.osc := by
  simp [Dev.store]

@[simp] theorem Dev.evqWrite_osc (d : Dev) (q : Nat) (r : EvRec) : (d.evqWrite q r).power.osc = d.power.osc := by
  simp [Dev.evqWrite]

@[simp] theorem Dev.postQ_osc (d : Dev) (q : Nat) (r : EvRec) : (d.postQ q r).power.osc = d.power.osc := by
  simp [Dev.postQ]

@[simp] theorem Dev.post_osc (d : Dev) (r : EvRec) : (d.post r).power.osc = d.power.osc := by
  unfold Dev.post
  repeat' split
  all_goals simp

@[simp] theorem Dev.event_osc (d : Dev) (src code arg : Nat) : (d.event src code arg).power.osc = d.power.osc := by
  simp [Dev.event]

@[simp] theorem Dev.busEvent_osc (d : Dev) (code a thr : Nat) : (d.busEvent code a thr).power.osc = d.power.osc := by
  simp [Dev.busEvent]

@[simp] theorem Dev.postAon_osc (d : Dev) (r : EvRec) : (d.postAon r).power.osc = d.power.osc := by
  simp [Dev.postAon]

@[simp] theorem Dev.noteWrite_osc (a : Nat) (d : Dev) : (d.noteWrite a).power.osc = d.power.osc := (rfl)

@[simp] theorem Dev.update_osc (f : Fld) (v : Nat) (d : Dev) : (d.update f v).power.osc = d.power.osc := by
  simp [Dev.update]

theorem Dev.setFlag_osc (f en : Fld) (mk : Dev → EvRec) {post : Dev → EvRec → Dev} (h : ∀ d r, (post d r).power.osc = d.power.osc) (d : Dev) :
    (d.setFlag f en mk post).power.osc = d.power.osc := by
  simp only [Dev.setFlag]
  repeat' split
  all_goals simp [h]

@[simp] theorem Dev.raise_osc (d : Dev) (f : Fld) : (d.raise f).power.osc = d.power.osc := by
  unfold Dev.raise
  exact Dev.setFlag_osc _ _ _ (fun d r => d.post_osc r) d

@[simp] theorem Dev.winEnd_osc (d : Dev) : d.winEnd.power.osc = d.power.osc := by
  unfold Dev.winEnd
  rw [osc_forAll _ _ (by simp)]

@[simp] theorem Dev.silDrop_osc (d : Dev) : d.silDrop.power.osc = d.power.osc := by
  simp [Dev.silDrop]

@[simp] theorem Dev.silPost_osc (d : Dev) (src code args : Nat) : (d.silPost src code args).power.osc = d.power.osc := by
  simp [Dev.silPost]

@[simp] theorem Dev.perfAdd_osc (d : Dev) (t ev : Nat) : (d.perfAdd t ev).power.osc = d.power.osc := (rfl)

@[simp] theorem Dev.putStartPc_osc (d : Dev) (t pc : Nat) : (d.putStartPc t pc).power.osc = d.power.osc := by
  simp [Dev.putStartPc]

@[simp] theorem Dev.stopIfAsked_osc (d : Dev) (t : Nat) : (d.stopIfAsked t).power.osc = d.power.osc := by
  simp [Dev.stopIfAsked]

@[simp] theorem Dev.retire_osc (d : Dev) (t len : Nat) : (d.retire t len).power.osc = d.power.osc := by
  simp [Dev.retire]

@[simp] theorem Dev.fenceDone_osc (d : Dev) (t : Nat) : (d.fenceDone t).power.osc = d.power.osc := by
  simp [Dev.fenceDone]

@[simp] theorem Dev.slotState_osc (d : Dev) (n st code : Nat) : (d.slotState n st code).power.osc = d.power.osc := by
  simp only [Dev.slotState]
  repeat' split
  all_goals simp

@[simp] theorem Dev.accordDone_osc (d : Dev) (n code : Nat) : (d.accordDone n code).power.osc = d.power.osc := by
  simp [Dev.accordDone]

@[simp] theorem Dev.noteAbort_osc (d : Dev) (id code : Nat) : (d.noteAbort id code).power.osc = d.power.osc := by
  simp [Dev.noteAbort]

@[simp] theorem Dev.abortReport_osc (d : Dev) (id kind code slot : Nat) : (d.abortReport id kind code slot).power.osc = d.power.osc := by
  simp [Dev.abortReport]

@[simp] theorem Dev.abortSlot_osc (d : Dev) (n code : Nat) : (d.abortSlot n code).power.osc = d.power.osc := by
  simp [Dev.abortSlot]

@[simp] theorem Dev.memTouched_osc (d : Dev) (a n own : Nat) : (d.memTouched a n own).power.osc = d.power.osc := by
  simp [Dev.memTouched]

@[simp] theorem Dev.addFlaw_osc (d : Dev) (w : Nat) : (d.addFlaw w).power.osc = d.power.osc := by
  simp [Dev.addFlaw]

@[simp] theorem Dev.mend_osc (d : Dev) (a n : Nat) : (d.mend a n).power.osc = d.power.osc := by
  simp [Dev.mend]

@[simp] theorem Dev.mendIn_osc (mem b lo n : Nat) (d : Dev) : (d.mendIn mem b lo n).power.osc = d.power.osc := by
  simp [Dev.mendIn]

@[simp] theorem Dev.dropLines_osc (d : Dev) (a n : Nat) : (d.dropLines a n).power.osc = d.power.osc := by
  simp [Dev.dropLines]

@[simp] theorem Dev.engWrite_osc (d : Dev) (a : Nat) (l : List Byte) : (d.engWrite a l).power.osc = d.power.osc := by
  unfold Dev.engWrite
  split <;> simp

@[simp] theorem Dev.wakeReason_osc (d : Dev) (r : Nat) : (d.wakeReason r).power.osc = d.power.osc := by
  simp [Dev.wakeReason]

@[simp] theorem Dev.notify_osc (code src arg : Nat) (d : Dev) : (d.notify code src arg).power.osc = d.power.osc := by
  simp [Dev.notify]

@[simp] theorem Dev.dropGateway_osc (g : Nat) (d : Dev) : (d.dropGateway g).power.osc = d.power.osc := by
  simp [Dev.dropGateway]

@[simp] theorem Dev.syncPools_osc (d : Dev) : d.syncPools.power.osc = d.power.osc := by
  simp [Dev.syncPools]

@[simp] theorem Dev.memCe_osc (d : Dev) (mem b word : Nat) : (d.memCe mem b word).power.osc = d.power.osc := by
  simp [Dev.memCe]

@[simp] theorem Dev.memUe_osc (d : Dev) (mem b word : Nat) : (d.memUe mem b word).power.osc = d.power.osc := by
  simp [Dev.memUe]

@[simp] theorem Dev.memRead_osc (d : Dev) (mem b word : Nat) (x : Ecc) : (d.memRead mem b word x).power.osc = d.power.osc := by
  unfold Dev.memRead
  split <;> simp

theorem Dev.hitFlaw_osc (mem b lo n : Nat) (d : Dev) : ∀ e ∈ Dev.hitFlaw mem b lo n d, e.power.osc = d.power.osc := by
  simp [Dev.hitFlaw]

@[simp] theorem Dev.erasePkt_osc (d : Dev) (i : Nat) : (d.erasePkt i).power.osc = d.power.osc := (rfl)
@[simp] theorem Dev.setQueue_osc (d : Dev) (q : Nat) (l : List Nat) : (d.setQueue q l).power.osc = d.power.osc := (rfl)
@[simp] theorem Dev.returnCredit_osc (d : Dev) (p c : Nat) : (d.returnCredit p c).power.osc = d.power.osc := (rfl)
@[simp] theorem Dev.rsvUse_osc (d : Dev) (p : Nat) (up : Bool) : (d.rsvUse p up).power.osc = d.power.osc := (rfl)
@[simp] theorem Dev.setOld_osc (d : Dev) (p n : Nat) : (d.setOld p n).power.osc = d.power.osc := (rfl)

@[simp] theorem Dev.charge_osc (d : Dev) (x : Pool) : (d.charge x).power.osc = d.power.osc := by
  unfold Dev.charge
  split <;> simp

@[simp] theorem Dev.discharge_osc (d : Dev) (lead : Bool) (cls : Nat) (x : Pool) : (d.discharge lead cls x).power.osc = d.power.osc := by
  unfold Dev.discharge
  split <;> simp

theorem Dev.alloc_osc (d : Dev) (ing : Nat) (data : List Byte) (pool : Pool) :
    ∀ x ∈ Dev.alloc d ing data pool, x.2.power.osc = d.power.osc := by
  unfold Dev.alloc
  split <;> simp

@[simp] theorem Dev.readCell_osc (c : Cell) (ecc : Ecc) (d : Dev) : (d.readCell c ecc).2.power.osc = d.power.osc := by
  simp [Dev.readCell]

@[simp] theorem Dev.freeChip_osc (d : Dev) (n : Nat) : (d.freeChip n).power.osc = d.power.osc := (rfl)

@[simp] theorem Dev.freeCell_osc (d : Dev) (lead : Bool) (cls : Nat) (c : Cell) : (d.freeCell lead cls c).power.osc = d.power.osc := by
  unfold Dev.freeCell
  split <;> simp

@[simp] theorem Dev.occAdd_osc (d : Dev) (q n : Nat) : (d.occAdd q n).power.osc = d.power.osc := (rfl)
@[simp] theorem Dev.spillMove_osc (d : Dev) : d.spillMove.power.osc = d.power.osc := (rfl)

@[simp] theorem Dev.spillFullCheck_osc (d : Dev) : d.spillFullCheck.power.osc = d.power.osc := by
  simp [Dev.spillFullCheck]

@[simp] theorem Dev.spillCell_osc (d : Dev) (q : Nat) (data : List Byte) : (d.spillCell q data).2.power.osc = d.power.osc := by
  simp [Dev.spillCell]

theorem mapCells_osc {f : Cell → Dev → Cell × Dev} (h : ∀ c d, (f c d).2.power.osc = d.power.osc) (l : List Cell) (d : Dev) :
    (mapCells f l d).2.power.osc = d.power.osc := by
  induction l generalizing d with
  | nil => rfl
  | cons c l ih => exact (ih (f c d).2).trans (h c d)

@[simp] theorem Dev.toShared_osc (d : Dev) (ing : Nat) (lead : Bool) (cls : Nat) (c : Cell) :
    (d.toShared ing lead cls c).2.power.osc = d.power.osc := by
  unfold Dev.toShared
  split
  · split
    · next x h => exact Dev.alloc_osc _ _ _ _ _ h
    · rfl
  · simp
  · rfl

@[simp] theorem Dev.toSpill_osc (d : Dev) (q : Nat) (lead : Bool) (cls : Nat) (c : Cell) :
    (d.toSpill q lead cls c).2.power.osc = d.power.osc := by
  simp [Dev.toSpill]

@[simp] theorem Dev.takeOff_osc (d : Dev) (i : Nat) (k : Pkt) : (d.takeOff i k).power.osc = d.power.osc := by
  simp [Dev.takeOff]

@[simp] theorem Dev.releasePkt_osc (d : Dev) (i : Nat) : (d.releasePkt i).power.osc = d.power.osc := by
  unfold Dev.releasePkt
  split <;> simp

@[simp] theorem Dev.hostDropped_osc (d : Dev) (i : Nat) : (d.hostDropped i).power.osc = d.power.osc := by
  unfold Dev.hostDropped
  split <;> simp

@[simp] theorem Dev.dropPkt_osc (d : Dev) (i : Nat) : (d.dropPkt i).power.osc = d.power.osc := by
  simp [Dev.dropPkt]

@[simp] theorem Dev.dropAdmission_osc (d : Dev) (i : Nat) : (d.dropAdmission i).power.osc = d.power.osc := by
  unfold Dev.dropAdmission
  split <;> simp

@[simp] theorem Dev.holdPkt_osc (d : Dev) (i : Nat) (k : Pkt) : (d.holdPkt i k).power.osc = d.power.osc := by
  simp [Dev.holdPkt]

@[simp] theorem Dev.enqueue_osc (d : Dev) (i : Nat) (k : Pkt) : (d.enqueue i k).power.osc = d.power.osc := (rfl)

@[simp] theorem Dev.takeShared_osc (d : Dev) (k : Pkt) : (d.takeShared k).2.power.osc = d.power.osc := by
  refine mapCells_osc (fun c d => ?_) _ d
  split <;> simp

@[simp] theorem Dev.spillCells_osc (q : Nat) (lead : Bool) (cls : Nat) (l : List Cell) (d : Dev) :
    (d.spillCells q lead cls l).2.power.osc = d.power.osc := by
  induction l generalizing d with
  | nil => rfl
  | cons c t ih =>
    simp only [Dev.spillCells]
    split
    · exact ih d
    · split
      · exact (ih _).trans (Dev.toSpill_osc ..)
      · exact Dev.spillFullCheck_osc _

@[simp] theorem Dev.admitChip_osc (d : Dev) (i : Nat) (k : Pkt) : (d.admitChip i k).power.osc = d.power.osc := by
  simp [Dev.admitChip]

@[simp] theorem Dev.admitSpill_osc (d : Dev) (i : Nat) (k : Pkt) : (d.admitSpill i k).power.osc = d.power.osc := by
  simp [Dev.admitSpill]

@[simp] theorem Dev.admitToStore_osc (d : Dev) (i : Nat) (k : Pkt) : (d.admitToStore i k).power.osc = d.power.osc := by
  simp [Dev.admitToStore]

@[simp] theorem Dev.admission_osc (d : Dev) (i : Nat) : (d.admission i).power.osc = d.power.osc := by
  unfold Dev.admission
  split <;> simp

@[simp] theorem Dev.admitNew_osc (d : Dev) (i : Nat) : (d.admitNew i).power.osc = d.power.osc := by
  unfold Dev.admitNew
  split <;> simp

@[simp] theorem Dev.newPkt_osc (d : Dev) (k : Pkt) : (d.newPkt k).2.power.osc = d.power.osc := (rfl)
@[simp] theorem Dev.modSch_osc (d : Dev) (f : SchedPart → SchedPart) : (d.modSch f).power.osc = d.power.osc := (rfl)
@[simp] theorem Dev.setQs_osc (d : Dev) (q : Nat) (x : QSched) : (d.setQs q x).power.osc = d.power.osc := (rfl)
@[simp] theorem Dev.refreshShaper_osc (d : Dev) (q : Nat) : (d.refreshShaper q).power.osc = d.power.osc := (rfl)

@[simp] theorem Dev.gateSwitch_osc (p b : Nat) (en : Bool) (d : Dev) : (d.gateSwitch p b en).power.osc = d.power.osc := by
  simp [Dev.gateSwitch]

@[simp] theorem Dev.gateApply_osc (d : Dev) (p : Nat) : (d.gateApply p).power.osc = d.power.osc := by
  simp [Dev.gateApply]

@[simp] theorem Dev.gateCommit_osc (p : Nat) (d : Dev) : (d.gateCommit p).power.osc = d.power.osc := by
  simp [Dev.gateCommit]

@[simp] theorem Dev.retag_osc (e q : Nat) (d : Dev) : (d.retag e q).power.osc = d.power.osc := by
  unfold Dev.retag
  split <;> simp

@[simp] theorem Dev.retagAll_osc (e : Nat) (d : Dev) : (d.retagAll e).power.osc = d.power.osc := by
  simp [Dev.retagAll]

@[simp] theorem Dev.retagTrunks_osc (d : Dev) : d.retagTrunks.power.osc = d.power.osc := by
  simp [Dev.retagTrunks]

@[simp] theorem Dev.noteStart_osc (d : Dev) (e q : Nat) (k : Pkt) : (d.noteStart e q k).power.osc = d.power.osc := by
  simp only [Dev.noteStart, osc_ite, Dev.inc_osc, Dev.set_osc, Dev.modSch_osc, Dev.setQs_osc, Dev.refreshShaper_osc, ite_self]

@[simp] theorem Dev.dropOversize_osc (e q : Nat) (d : Dev) : (d.dropOversize e q).power.osc = d.power.osc := by
  unfold Dev.dropOversize
  split <;> simp

@[simp] theorem Dev.noteLost_osc (c : Cell) (d : Dev) : (d.noteLost c).power.osc = d.power.osc := by
  simp [Dev.noteLost]

@[simp] theorem Dev.dropFlawed_osc (q : Nat) (d : Dev) : (d.dropFlawed q).power.osc = d.power.osc := by
  unfold Dev.dropFlawed
  repeat' split
  all_goals simp

@[simp] theorem Dev.prepare_osc (e : Nat) (d : Dev) : (d.prepare e).power.osc = d.power.osc := by
  simp [Dev.prepare]

@[simp] theorem Dev.sample_osc (q lag : Nat) (d : Dev) : (d.sample q lag).power.osc = d.power.osc := by
  simp [Dev.sample]

@[simp] theorem Dev.visitDue_osc (l : List Nat) (d : Dev) : (d.visitDue l).power.osc = d.power.osc := by
  induction l generalizing d with
  | nil => rfl
  | cons q t ih =>
    unfold Dev.visitDue
    split
    · rfl
    · exact (ih _).trans (by simp)

@[simp] theorem Dev.passOn_osc (d : Dev) : d.passOn.power.osc = d.power.osc := by
  simp [Dev.passOn]

@[simp] theorem Dev.setPol_osc (d : Dev) (c : Nat) (x : Policer) : (d.setPol c x).power.osc = d.power.osc := (rfl)

@[simp] theorem Dev.polCommit_osc (c : Nat) (old : Policer) (modeChanged : Bool) (d : Dev) :
    (d.polCommit c old modeChanged).power.osc = d.power.osc := (rfl)

@[simp] theorem Dev.shaperCommit_osc (q : Nat) (d : Dev) : (d.shaperCommit q).power.osc = d.power.osc := (rfl)

@[simp] theorem Dev.swapWord_osc (a v : Nat) (d : Dev) : (d.swapWord a v).power.osc = d.power.osc := by
  unfold Dev.swapWord
  split
  · rw [osc_forAll _ _ (by simp), Dev.noteWrite_osc]
  · rfl

@[simp] theorem Dev.tmtCommitted_osc (s : Nat) (keepEpoch : Bool) (d : Dev) : (d.tmtCommitted s keepEpoch).power.osc = d.power.osc := by
  simp [Dev.tmtCommitted]

theorem Dev.withConfig_osc (l : List Nat) {change : Dev → Dev} (h : ∀ d, (change d).power.osc = d.power.osc) (d : Dev) :
    (d.withConfig l change).power.osc = d.power.osc := by
  unfold Dev.withConfig
  rw [osc_forAll _ _ (fun _ _ => by split <;> simp), osc_forAll _ _ (fun _ _ => by simp), osc_forAll _ _ (fun _ _ => by simp),
    osc_forAll _ _ (fun _ _ => by simp), h, osc_forAll _ _ (fun _ _ => by simp)]

@[simp] theorem Dev.swapWords_osc (l : Tab Nat) (d : Dev) : (d.swapWords l).power.osc = d.power.osc := by
  unfold Dev.swapWords
  rw [osc_forAll _ _ (by simp), Dev.withConfig_osc _ (osc_forAll _ _ (by simp)), osc_forAll _ _ (by simp)]

@[simp] theorem Dev.swapsDone_osc (t : Nat) (d : Dev) : (d.swapsDone t).power.osc = d.power.osc := by
  simp [Dev.swapsDone]

@[simp] theorem Dev.swapsDue_osc (d : Dev) : d.swapsDue.power.osc = d.power.osc := by
  simp [Dev.swapsDue]

@[simp] theorem Dev.modServo_osc (d : Dev) (f : Servo → Servo) : (d.modServo f).power.osc = d.power.osc := (rfl)
@[simp] theorem Dev.putTb_osc (d : Dev) (n : Nat) (t : Ts) : (d.putTb n t).power.osc = d.power.osc := (rfl)

@[simp] theorem Dev.elapseTb_osc (k n : Nat) (d : Dev) : (d.elapseTb k n).power.osc = d.power.osc := by
  simp [Dev.elapseTb]

@[simp] theorem Dev.countOn_osc (k : Nat) (d : Dev) : (d.countOn k).power.osc = d.power.osc := by
  simp [Dev.countOn]

@[simp] theorem Dev.tickOn_osc (n : Nat) (d : Dev) : (d.tickOn n).power.osc = d.power.osc := by
  unfold Dev.tickOn
  split
  · exact osc_forAll _ _ (fun _ _ => Dev.putTb_osc ..) d
  · rfl

@[simp] theorem Dev.showBackoffs_osc (d : Dev) : d.showBackoffs.power.osc = d.power.osc := by
  exact osc_forAll _ _ (fun _ _ => by split <;> simp) d

@[simp] theorem Dev.ageRtt_osc (d : Dev) : d.ageRtt.power.osc = d.power.osc := by
  refine osc_forAll _ _ (fun _ _ => ?_) d
  repeat' split
  all_goals simp

@[simp] theorem Dev.showCap_osc (d : Dev) : d.showCap.power.osc = d.power.osc := by
  unfold Dev.showCap
  split <;> simp

@[simp] theorem Dev.putPin_osc (d : Dev) (k : Nat) (p : TioPin) : (d.putPin k p).power.osc = d.power.osc := by
  simp [Dev.putPin]

@[simp] theorem Dev.pulseOn_osc (d : Dev) (k : Nat) : (d.pulseOn k).power.osc = d.power.osc := by
  simp [Dev.pulseOn]

@[simp] theorem Dev.tioAct_osc (d : Dev) (k : Nat) (e : TioEvent) : (d.tioAct k e).power.osc = d.power.osc := by
  simp [Dev.tioAct]

@[simp] theorem Dev.tioLate_osc (k : Nat) (e : TioEvent) (d : Dev) : (d.tioLate k e).power.osc = d.power.osc := by
  simp [Dev.tioLate]

@[simp] theorem Dev.passOver_osc (n : Nat) (d : Dev) : (d.passOver n).power.osc = d.power.osc := by
  simp [Dev.passOver]

@[simp] theorem Dev.gateResync_osc (step : Int) (d : Dev) : (d.gateResync step).power.osc = d.power.osc := by
  simp [Dev.gateResync]

@[simp] theorem Dev.stepTb_osc (d : Dev) (n : Nat) (goal : Ts) : (d.stepTb n goal).power.osc = d.power.osc := by
  simp [Dev.stepTb]

@[simp] theorem Dev.srvGo_osc (d : Dev) (st : Nat) : (d.srvGo st).power.osc = d.power.osc := by
  simp [Dev.srvGo]

@[simp] theorem Dev.setF_osc (d : Dev) (fnum : Int) (period : Nat) : (d.setF fnum period).power.osc = d.power.osc := (rfl)
@[simp] theorem Dev.steer_osc (d : Dev) (e : Int) : (d.steer e).power.osc = d.power.osc := (rfl)

@[simp] theorem Dev.servoSample_osc (d : Dev) (e : Int) (source : Option Nat) : (d.servoSample e source).power.osc = d.power.osc := by
  unfold Dev.servoSample
  cases source <;> simp only [osc_ite, Dev.inc_osc, Dev.set_osc, Dev.srvGo_osc, Dev.silPost_osc, Dev.raise_osc, Dev.steer_osc, Dev.modServo_osc,
    Dev.setF_osc, Dev.stepTb_osc, ite_self]

@[simp] theorem Dev.settleSample_osc (d : Dev) : d.settleSample.power.osc = d.power.osc := by
  unfold Dev.settleSample
  split <;> simp

theorem Dev.pass_osc (k : Nat) (d : Dev) : (d.pass k).power.osc = d.power.osc + k := by
  simp [Dev.pass]

theorem Dev.passTo_osc (goal : Nat) (d : Dev) : (d.passTo goal).power.osc = max goal d.power.osc := by
  unfold Dev.passTo
  split
  · rw [Dev.pass_osc]; omega
  · omega

theorem osc_instants {l : List Nat} {goal : Nat} (h : ∀ t ∈ l, t ≤ goal) {d : Dev} (hd : d.power.osc ≤ goal) :
    (forAll l (fun t d => (d.passTo t).swapsDue) d).power.osc ≤ goal := by
  induction l generalizing d with
  | nil => exact hd
  | cons t l ih =>
    refine ih (fun u hu => h u (.tail _ hu)) (d := (d.passTo t).swapsDue) ?_
    rw [Dev.swapsDue_osc, Dev.passTo_osc]
    exact max_le (h t (.head _)) hd

theorem Dev.swapInstants_le (d : Dev) (k : Nat) : ∀ t ∈ d.swapInstants k, t ≤ d.power.osc + k := by
  have key : ∀ (l : List Swap), (∀ x ∈ l, x.due ≤ d.power.osc + k) → ∀ t : Tab Unit, (∀ p ∈ t, p.1 ≤ d.power.osc + k) →
      ∀ p ∈ l.foldl (fun (t : Tab Unit) x => Tab.insert x.due () (Tab.erase x.due t)) t, p.1 ≤ d.power.osc + k := by
    intro l
    induction l with
    | nil => exact fun _ _ h => h
    | cons x l ih =>
      refine fun hl t ht => ih (fun y hy => hl y (.tail _ hy)) _ fun p hp => ?_
      obtain rfl | hp := Tab.mem_insert hp
      · exact hl x (.head _)
      · exact ht p (Tab.mem_erase hp)
  intro t ht
  obtain ⟨p, hp, rfl⟩ := List.mem_map.mp ht
  exact key _ (fun x hx => by simpa using (List.mem_filter.mp hx).2) [] (by simp) p hp

theorem Dev.elapse_osc (k : Nat) (d : Dev) : (d.elapse k).power.osc = d.power.osc + k := by
  simp only [Dev.elapse]
  rw [Dev.passTo_osc, max_eq_left]
  have hw : (if k = 0 then d else d.winEnd).power.osc = d.power.osc := by
    rw [osc_ite, Dev.winEnd_osc, ite_self]
  refine osc_instants (fun t ht => ?_) (hw.le.trans (Nat.le_add_right ..))
  exact hw ▸ Dev.swapInstants_le _ k t ht

@[simp] theorem Dev.countDrop_osc (d : Dev) (x : Path) : (d.countDrop x).power.osc = d.power.osc := by
  unfold Dev.countDrop
  split <;> simp

@[simp] theorem Dev.avsAsk_osc (mv : Nat) (low : Bool) (d : Dev) : (d.avsAsk mv low).power.osc = d.power.osc := by
  unfold Dev.avsAsk
  simp only []
  split <;> simp

@[simp] theorem Dev.modCtx_osc (d : Dev) (c : Nat) (f : CtxSt → CtxSt) : (d.modCtx c f).power.osc = d.power.osc := (rfl)
@[simp] theorem Dev.incSeq_osc (d : Dev) (f : Fld) (n : Nat) : (d.incSeq f n).power.osc = d.power.osc := (rfl)

@[simp] theorem Dev.txDone_osc (d : Dev) (tag : Option (Nat × Nat)) (refused : Bool) : (d.txDone tag refused).power.osc = d.power.osc := by
  unfold Dev.txDone
  split <;> simp

@[simp] theorem Dev.inject_osc (d : Dev) (ing q sq : Nat) (h : THdr) (bytes : List Byte) (frame dataW : Bool) (term : Option Nat) :
    (d.inject ing q sq h bytes frame dataW term).power.osc = d.power.osc := by
  simp [Dev.inject]

@[simp] theorem Dev.emit_osc (d : Dev) (ing p sq : Nat) (h : THdr) (payload : List Byte) :
    (d.emit ing p sq h payload).power.osc = d.power.osc := by
  unfold Dev.emit
  repeat' split
  all_goals simp

@[simp] theorem Dev.noAllot_osc (d : Dev) : d.noAllot.power.osc = d.power.osc := by
  simp [Dev.noAllot]

@[simp] theorem Dev.sendControl_osc (d : Dev) (c kind : Nat) (akv : Bool) (aux : Nat) (payload : List Byte) :
    (d.sendControl c kind akv aux payload).power.osc = d.power.osc := by
  unfold Dev.sendControl
  split <;> simp

@[simp] theorem Dev.sendAck_osc (c : Nat) (d : Dev) :
    (d.sendAck c).power.osc = d.power.osc := (Dev.sendControl_osc ..).trans (d.modCtx_osc ..)

@[simp] theorem Dev.sendRefresh_osc (d : Dev) (c : Nat) (r : Refresh) : (d.sendRefresh c r).power.osc = d.power.osc := by
  simp [Dev.sendRefresh]

@[simp] theorem Dev.askRefresh_osc (d : Dev) (c : Nat) (r : Refresh) : (d.askRefresh c r).power.osc = d.power.osc := by
  simp [Dev.askRefresh]

@[simp] theorem Dev.pqSlots_osc (d : Dev) (q s : Nat) (l : List (List Byte)) : (d.pqSlots q s l).power.osc = d.power.osc := by
  induction l generalizing d s with
  | nil => rfl
  | cons b t ih => exact (ih _ _).trans (d.engWrite_osc ..)

theorem Dev.pqTake_osc (d : Dev) (q : Nat) (desc payload : List Byte) : ∀ e ∈ Dev.pqTake d q desc payload, e.power.osc = d.power.osc := by
  simp [Dev.pqTake]

@[simp] theorem Dev.toEngine_osc (d : Dev) (q : Nat) (x : Inbound) : (d.toEngine q x).power.osc = d.power.osc := (rfl)

theorem Dev.handOver_osc (d : Dev) (c : Nat) (h : THdr) (payload : List Byte) (lat : Nat) :
    ∀ e ∈ Dev.handOver d c h payload lat, e.power.osc = d.power.osc := by
  intro e he
  simp only [Dev.handOver] at he
  split at he
  · exact Dev.pqTake_osc _ _ _ _ _ he
  · repeat' split at he
    all_goals cases he
    all_goals simp

@[simp] theorem Dev.deliver_osc (d : Dev) (c : Nat) (h : THdr) (payload : List Byte) (stamp : Nat) :
    (d.deliver c h payload stamp).2.power.osc = d.power.osc := by
  unfold Dev.deliver
  extract_lets lat
  split
  · next e he => simp only [Dev.inc_osc, Dev.set_osc, d.handOver_osc _ _ _ _ e he]
  · simp only [Dev.inc_osc]

@[simp] theorem Dev.syncHeld_osc (c : Nat) (d : Dev) : (d.syncHeld c).power.osc = d.power.osc := (rfl)

@[simp] theorem Dev.freeHold_osc (d : Dev) (cells : List Nat) : (d.freeHold cells).power.osc = d.power.osc := by
  simp [Dev.freeHold]

@[simp] theorem Dev.keepCells_osc (cells : List Cell) (d : Dev) : (d.keepCells cells).2.power.osc = d.power.osc := by
  simp [Dev.keepCells]

@[simp] theorem Dev.deliverHeld_osc (c : Nat) (x : Nat) (d : Dev) : (d.deliverHeld c x).power.osc = d.power.osc := by
  induction x generalizing d with
  | zero => rfl
  | succ n ih =>
    simp only [Dev.deliverHeld]
    split
    · rfl
    · next h payload cells _ =>
      have hd := Dev.deliver_osc ((d.modCtx c (fun x => { x with held := Tab.erase (d.get (CTX_W5_RX_EXP c)) x.held })).freeHold cells) c h payload h.aux
      split
      · next heq => rw [heq] at hd; exact (ih _).trans (by simpa using hd)
      · next heq => rw [heq] at hd; simpa using hd

@[simp] theorem Dev.ackIfDue_osc (c : Nat) (d : Dev) : (d.ackIfDue c).power.osc = d.power.osc := by
  simp [Dev.ackIfDue]

@[simp] theorem Dev.holdBack_osc (d : Dev) (c : Nat) (h : THdr) (payload : List Byte) (stamp : Nat) (cells : List Cell) :
    (d.holdBack c h payload stamp cells).power.osc = d.power.osc := by
  simp [Dev.holdBack]

@[simp] theorem Dev.receiveData_osc (d : Dev) (c : Nat) (h : THdr) (payload : List Byte) (stamp : Nat) (cells : List Cell) :
    (d.receiveData c h payload stamp cells).2.power.osc = d.power.osc := by
  unfold Dev.receiveData
  extract_lets e x d2
  have h2 : d2.power.osc = d.power.osc := by
    unfold d2; split <;> simp only [Dev.askRefresh_osc]
  have hd := Dev.deliver_osc d c h payload stamp
  have hd2 := Dev.deliver_osc d2 c h payload stamp
  clear_value d2 x
  simp only [osc_ite_snd, Dev.inc_osc, Dev.holdBack_osc, Dev.sendAck_osc, ite_self]
  split
  · rfl
  · split
    · split
      · rcases hk : d.deliver c h payload stamp with ⟨_ | _, k⟩ <;> rw [hk] at hd
        · exact hd
        · simp only [osc_ite, Dev.ackIfDue_osc, Dev.sendAck_osc, Dev.syncHeld_osc, Dev.deliverHeld_osc, Dev.modCtx_osc, Dev.set_osc, ite_self]
          exact hd
      · rfl
    · split
      · rcases hk : d2.deliver c h payload stamp with ⟨_ | _, k⟩ <;> rw [hk] at hd2
        · exact hd2.trans h2
        · simp only [Dev.set_osc, Dev.incSeq_osc]
          exact hd2.trans h2
      · rfl

@[simp] theorem Dev.rsFull_osc (d : Dev) : d.rsFull.power.osc = d.power.osc := by
  simp [Dev.rsFull]

@[simp] theorem Dev.rsRelease_osc (d : Dev) (cells : Nat) : (d.rsRelease cells).power.osc = d.power.osc := by
  simp [Dev.rsRelease]

@[simp] theorem Dev.rsWrite_osc (d : Dev) (cells : List Nat) (l : List Byte) : (d.rsWrite cells l).power.osc = d.power.osc := by
  simp [Dev.rsWrite]

@[simp] theorem Dev.keepCopy_osc (d : Dev) (c : Nat) (h : THdr) (payload : List Byte) :
    (d.keepCopy c h payload).power.osc = d.power.osc := by
  simp [Dev.keepCopy]

@[simp] theorem Dev.colourAt_osc (d : Dev) (c : Nat) (x : LocalPkt) (b : Nat) : (d.colourAt c x b).2.power.osc = d.power.osc := by
  simp only [Dev.colourAt]
  repeat' split
  all_goals simp

@[simp] theorem Dev.launch_osc (d : Dev) (c : Nat) (x : LocalPkt) (sq colour : Nat) : (d.launch c x sq colour).power.osc = d.power.osc := by
  unfold Dev.launch
  rw [osc_forAll _ _ (fun _ _ => Dev.emit_osc ..), Dev.txDone_osc]
  generalize THdr.mk _ _ _ _ _ _ _ _ _ _ _ _ _ _ = h
  split <;> split <;> simp

@[simp] theorem Dev.ctxBreak_osc (c : Nat) (d : Dev) : (d.ctxBreak c).power.osc = d.power.osc := by
  simp [Dev.ctxBreak]

@[simp] theorem Dev.ctxSeen_osc (c : Nat) (d : Dev) : (d.ctxSeen c).power.osc = d.power.osc := by
  unfold Dev.ctxSeen
  split
  · rfl
  · cases h : Dev.hitFlaw 4 0 (8 * c) 8 d with
    | none => rfl
    | some e => simpa using Dev.hitFlaw_osc _ _ _ _ d e h

@[simp] theorem Dev.enter_osc (d : Dev) (x : LocalPkt) : (d.enter x).2.power.osc = d.power.osc := by
  unfold Dev.enter
  extract_lets c n rel d1
  have h1 : d1.power.osc = d.power.osc := Dev.ctxSeen_osc ..
  have hc := d1.colourAt_osc c x (16 + x.payload.length + 8)
  clear_value n d1
  repeat' split
  all_goals simp_all

@[simp] theorem Dev.offer_osc (d : Dev) (x : LocalPkt) : (d.offer x).power.osc = d.power.osc := by
  unfold Dev.offer
  have he := d.enter_osc x
  repeat' split
  all_goals simp_all

@[simp] theorem Dev.sendPkt_osc (t a v : Nat) (d : Dev) : (d.sendPkt t a v).power.osc = d.power.osc := by
  simp [Dev.sendPkt]

@[simp] theorem Dev.sendGo_osc (d : Dev) (t : Nat) : (d.sendGo t).power.osc = d.power.osc := by
  unfold Dev.sendGo
  split <;> simp

@[simp] theorem Dev.retryWaits_osc (d : Dev) : d.retryWaits.power.osc = d.power.osc := by
  unfold Dev.retryWaits
  rw [osc_forAll _ _ (fun _ _ => by simp), osc_forAll]
  intro x d
  have he := d.enter_osc x
  repeat' split
  all_goals simp_all

@[simp] theorem Dev.ackRx_osc (c una : Nat) (sack : Option Nat) (d : Dev) : (d.ackRx c una sack).power.osc = d.power.osc := by
  simp [Dev.ackRx]

@[simp] theorem Dev.poisonSet_osc (d : Dev) (already bad : Bool) : (d.poisonSet already bad).power.osc = d.power.osc := by
  simp [Dev.poisonSet]

@[simp] theorem Dev.terminate_osc (d : Dev) (c : Nat) (k : Pkt) : (d.terminate c k).2.power.osc = d.power.osc := by
  unfold Dev.terminate
  extract_lets h payload bad d1 sack d2 lat
  have h1 : d1.power.osc = d.power.osc := Dev.ctxSeen_osc ..
  have h2 : d2.power.osc = d.power.osc := by
    unfold d2; split <;> simp only [Dev.ackRx_osc, h1]
  repeat' split
  case h_1 e he => simp only [Dev.set_osc, d2.handOver_osc _ _ _ _ e he, h2]
  all_goals simp only [Dev.inc_osc, Dev.raise_osc, Dev.poisonSet_osc, Dev.receiveData_osc, h1, h2]

@[simp] theorem Dev.toAgent_osc (d : Dev) (k : Pkt) : (d.toAgent k).power.osc = d.power.osc := by
  simp only [Dev.toAgent]
  split
  · simp
  · cases h : d.pqTake (d.get (CTX_W1_LQ 0)) (deliveryDesc 0 k.hdr ((d.stamp + 2 ^ 32 - beNat (k.tail.drop 4)) % 2 ^ 32)) ((k.data.drop 16).take k.hdr.len) with
    | none => rfl
    | some e => exact d.pqTake_osc _ _ _ e h

@[simp] theorem Dev.readCells_osc (l : List Cell) (x : Ecc) (d : Dev) : (d.readCells l x).2.power.osc = d.power.osc := by
  induction l generalizing x d with
  | nil => rfl
  | cons c t ih => exact (ih _ _).trans (Dev.readCell_osc ..)

@[simp] theorem Dev.readOut_osc (d : Dev) (k : Pkt) (ecc : Ecc) : (d.readOut k ecc).2.power.osc = d.power.osc := by
  simp [Dev.readOut]

@[simp] theorem Dev.countSent_osc (d : Dev) (cut : Bool) : (d.countSent cut).power.osc = d.power.osc := (rfl)

@[simp] theorem Dev.leaveEngine_osc (d : Dev) (i : Nat) (k : Pkt) (ecc : Ecc) : (d.leaveEngine i k ecc).power.osc = d.power.osc := by
  simp only [Dev.leaveEngine]
  rw [Dev.syncPools_osc, osc_forAll _ _ (by simp)]
  split <;> simp

@[simp] theorem Dev.engineStep_osc (e : Nat) (x : Ecc × Dev) : (Dev.engineStep e x).2.power.osc = x.2.power.osc := by
  simp only [Dev.engineStep]
  repeat' split
  all_goals simp

@[simp] theorem Dev.drainLocal_osc (d : Dev) (ecc : Ecc) : (d.drainLocal ecc).power.osc = d.power.osc := by
  unfold Dev.drainLocal
  exact osc_foldl (fun x e => osc_foldl (fun x _ => Dev.engineStep_osc e x) _ x) _ (ecc, d)

@[simp] theorem Dev.setDso_osc (d : Dev) (n st : Nat) : (d.setDso n st).power.osc = d.power.osc := (rfl)

@[simp] theorem Dev.enterPsr_osc (n : Nat) (d : Dev) : (d.enterPsr n).power.osc = d.power.osc := by
  simp [Dev.enterPsr]

@[simp] theorem Dev.bypSync_osc (d : Dev) : d.bypSync.power.osc = d.power.osc := (rfl)

@[simp] theorem Dev.hswRaise_osc (b : Nat) (d : Dev) : (d.hswRaise b).power.osc = d.power.osc := by
  unfold Dev.hswRaise
  exact Dev.setFlag_osc _ _ _ (fun d r => d.postAon_osc r) d

@[simp] theorem Dev.setValid_osc (x : Nat) (b : Bool) (d : Dev) : (d.setValid x b).power.osc = d.power.osc := (rfl)

@[simp] theorem Dev.pgoodRise_osc (d : Dev) : d.pgoodRise.power.osc = d.power.osc := by
  simp [Dev.pgoodRise]

@[simp] theorem Dev.pgoodFall_osc (d : Dev) : d.pgoodFall.power.osc = d.power.osc := by
  simp [Dev.pgoodFall]

@[simp] theorem Dev.gatesOff_osc (st : Nat) (d : Dev) : (d.gatesOff st).power.osc = d.power.osc := (rfl)

@[simp] theorem Dev.enterSelect_osc (d : Dev) : d.enterSelect.power.osc = d.power.osc := by
  simp [Dev.enterSelect]

@[simp] theorem Dev.switchover_osc (d : Dev) : d.switchover.power.osc = d.power.osc := by
  simp [Dev.switchover]

@[simp] theorem Dev.feedGone_osc (d : Dev) : d.feedGone.power.osc = d.power.osc := by
  simp [Dev.feedGone]

@[simp] theorem Dev.countRetry_osc (d : Dev) : d.countRetry.power.osc = d.power.osc := by
  simp [Dev.countRetry]

@[simp] theorem Dev.lockOut_osc (d : Dev) : d.lockOut.power.osc = d.power.osc := by
  simp [Dev.lockOut]

@[simp] theorem Dev.countSlow_osc (d : Dev) : d.countSlow.power.osc = d.power.osc := by
  simp [Dev.countSlow]

@[simp] theorem Dev.hswTick_osc (d : Dev) : d.hswTick.power.osc = d.power.osc := by
  simp [Dev.hswTick]

@[simp] theorem Dev.hswTicks_osc (d : Dev) : d.hswTicks.power.osc = d.power.osc := by
  simp [Dev.hswTicks]

@[simp] theorem Dev.traffic_osc (d : Dev) : d.traffic.power.osc = d.power.osc := by
  simp [Dev.traffic]

@[simp] theorem Dev.stall_osc (d : Dev) : d.stall.power.osc = d.power.osc := (rfl)

@[simp] theorem Dev.imageStall_osc (d : Dev) : d.imageStall.power.osc = d.power.osc := by
  simp [Dev.imageStall]

@[simp] theorem Dev.sendErdys_osc (d : Dev) : d.sendErdys.power.osc = d.power.osc := by
  simp [Dev.sendErdys]

@[simp] theorem Dev.sendNbr_osc (m : EnqMsg) (p : Nat) (d : Dev) : (d.sendNbr m p).power.osc = d.power.osc := by
  simp [Dev.sendNbr]

@[simp] theorem Dev.sendMsg_osc (m : EnqMsg) (d : Dev) : (d.sendMsg m).power.osc = d.power.osc := by
  simp [Dev.sendMsg]

@[simp] theorem Dev.awaitAnswer_osc (m : EnqMsg) (d : Dev) : (d.awaitAnswer m).power.osc = d.power.osc := (rfl)

@[simp] theorem Dev.flushMsg_osc (m : EnqMsg) (d : Dev) : (d.flushMsg m).power.osc = d.power.osc := by
  unfold Dev.flushMsg
  split <;> simp

@[simp] theorem Dev.admitEnd_osc (a : Nat × Nat × Nat) (d : Dev) : (d.admitEnd a).power.osc = d.power.osc := by
  simp [Dev.admitEnd]

@[simp] theorem Dev.admitDone_osc (d : Dev) : d.admitDone.power.osc = d.power.osc := by
  simp [Dev.admitDone]

@[simp] theorem Dev.flushAgent_osc (d : Dev) : d.flushAgent.power.osc = d.power.osc := by
  simp [Dev.flushAgent]

theorem idle_osc (s : State) : ∃ d : Dev, idle s = .next { s with dev := d } ∧ d.power.osc = s.dev.power.osc + 1 := by
  refine ⟨_, rfl, ?_⟩
  rw [Dev.imageStall_osc, Dev.sendErdys_osc, Dev.enterPsr_osc, Dev.enterPsr_osc, Dev.drainLocal_osc, Dev.flushAgent_osc, Dev.hswTicks_osc,
    Dev.elapse_osc]

end Sys2Proof.Machine

namespace Sys2Proof.Proofs
open Sys2Proof Sys2Proof.Machine

/-- Settles O2: of all that an idle step does, only the passing of the cycle moves the clock. -/
theorem emptyQueuePassesOneCycle : Obligations.EmptyQueuePassesOneCycle := by
  rintro ⟨d, queue⟩ rfl
  obtain ⟨e, he, hosc⟩ := idle_osc ⟨d, []⟩
  exact ⟨_, he, rfl, hosc⟩

end Sys2Proof.Proofs

end


section
/-! PROOFS. What no operation of the other blocks changes: the power controller, and the control registers of the TCL lanes. -/

namespace Sys2Proof.Machine

/-- Whether a register field lies in the power controller's block. -/
def inPwr (key : Nat) : Bool := decide (8 * 0x10100000 ≤ key ∧ key < 8 * 0x10108000)

/-- Whether a register field is one of the control registers of a TCL's lanes. -/
def inTcl (key : Nat) : Bool := decide (8 * 0x10480000 ≤ key ∧ key < 8 * 0x10500000 ∧ key / 8 % 0x10000 < 0x100)

/-- The fields kept: of the power controller and of the TCL lanes. -/
def kept (key : Nat) : Bool := inPwr key || inTcl key

def keptFlds (t : Tab Nat) : Tab Nat := t.filter (fun x => kept x.1)

/-- Nothing of the power controller and of the TCL lanes' control has changed. -/
abbrev Dev.Keeps (d e : Dev) : Prop := e.power = d.power ∧ keptFlds e.flds = keptFlds d.flds

theorem kept_of_ble {k : Nat}
    (h : (Nat.ble (8 * 0x10500000) k || (Nat.ble (8 * 0x10108000) k && Nat.ble k (8 * 0x1047FFFF))) = true) : kept k = false := by
  simp only [Bool.or_eq_true, Bool.and_eq_true, Nat.ble_eq] at h
  simp only [kept, inPwr, inTcl, Bool.or_eq_false_iff, decide_eq_false_iff_not]
  omega

theorem kept_far {b : Nat} (x y : Nat) (h : Nat.ble 0x10500000 b = true) : kept (8 * (b + x) + y) = false := by
  have := Nat.le_of_ble_eq_true h
  simp only [kept, inPwr, inTcl, Bool.or_eq_false_iff, decide_eq_false_iff_not]
  omega

/-- The registers of a link lie above those of its lanes. -/
theorem kept_link {b y : Nat} (p : Nat) (hb : Nat.ble 0x10400100 b = true) (hb' : Nat.ble b 0x1040FF00 = true) (hy : Nat.ble y 31 = true) :
    kept (8 * (b + portOfs p) + y) = false := by
  have := Nat.le_of_ble_eq_true hb
  have := Nat.le_of_ble_eq_true hb'
  have := Nat.le_of_ble_eq_true hy
  simp only [kept, inPwr, inTcl, Bool.or_eq_false_iff, decide_eq_false_iff_not]
  unfold portOfs
  split <;> omega

theorem keptFlds_set (t : Tab Nat) {k : Nat} (v r : Nat) (h : kept k = false) : keptFlds (t.set k v r) = keptFlds t := Tab.filter_set h t v r

@[simp] theorem Dev.ite_power (c : Prop) [Decidable c] (a b : Dev) : (if c then a else b).power = if c then a.power else b.power := by
  split <;> rfl

@[simp] theorem Dev.ite_flds (c : Prop) [Decidable c] (a b : Dev) : (if c then a else b).flds = if c then a.flds else b.flds := by
  split <;> rfl

@[simp] theorem keptFlds_ite (c : Prop) [Decidable c] (a b : Tab Nat) : keptFlds (if c then a else b) = if c then keptFlds a else keptFlds b := by
  split <;> rfl

@[simp] theorem ite_snd {α β : Type} (c : Prop) [Decidable c] (a b : α × β) : (if c then a else b).2 = if c then a.2 else b.2 := by
  split <;> rfl

section
variable {d e e' : Dev}

theorem Dev.Keeps.refl (d : Dev) : d.Keeps d := ⟨rfl, rfl⟩

theorem Dev.Keeps.trans (h : d.Keeps e) (k : e.Keeps e') : d.Keeps e' := ⟨k.1.trans h.1, k.2.trans h.2⟩

end

@[simp] theorem forAll_keeps {α : Type} {f : α → Dev → Dev} (h : ∀ x d, Dev.Keeps d (f x d)) (l : List α) (d : Dev) :
    d.Keeps (forAll l f d) := by
  induction l generalizing d with
  | nil => exact .refl d
  | cons x l ih => exact (h x d).trans (ih (f x d))

theorem foldl_keeps {α β : Type} {f : α × Dev → β → α × Dev} (h : ∀ x b, Dev.Keeps x.2 (f x b).2) (l : List β) (x : α × Dev) :
    Dev.Keeps x.2 (l.foldl f x).2 := by
  induction l generalizing x with
  | nil => exact .refl x.2
  | cons b l ih => exact (h x b).trans (ih (f x b))

@[simp] theorem Dev.set_keeps (d : Dev) (f : Fld) (v : Nat) (hf : kept f.key = false) : d.Keeps (d.set f v) := ⟨rfl, keptFlds_set _ _ _ hf⟩
@[simp] theorem Dev.setB_keeps (d : Dev) (f : Fld) (b : Bool) (hf : kept f.key = false) : d.Keeps (d.setB f b) := d.set_keeps _ _ hf
@[simp] theorem Dev.incBy_keeps (d : Dev) (f : Fld) (n : Nat) (hf : kept f.key = false) : d.Keeps (d.incBy f n) := d.set_keeps _ _ hf
@[simp] theorem Dev.inc_keeps (d : Dev) (f : Fld) (hf : kept f.key = false) : d.Keeps (d.inc f) := d.set_keeps _ _ hf
@[simp] theorem Dev.decBy_keeps (d : Dev) (f : Fld) (n : Nat) (hf : kept f.key = false) : d.Keeps (d.decBy f n) := d.set_keeps _ _ hf
@[simp] theorem Dev.fresh_keeps (d : Dev) : d.Keeps d.fresh.2 := ⟨rfl, rfl⟩

@[simp] theorem Dev.putBytes_keeps (d : Dev) (a : Nat) (l : List Byte) : d.Keeps (d.putBytes a l) := by
  refine ⟨?_, congrArg keptFlds (d.putBytes_sameButMem a l).flds⟩
  conv_rhs => rw [← (d.putBytes_sameButMem a l).rest]

@[simp] theorem Dev.store_keeps (d : Dev) (a n v : Nat) : d.Keeps (d.store a n v) := by
  simp [Dev.Keeps, Dev.store]

@[simp] theorem Dev.evqWrite_keeps (d : Dev) (q : Nat) (r : EvRec) : d.Keeps (d.evqWrite q r) := by
  simp (disch := first | with_unfolding_all exact id (kept_of_ble rfl) | with_unfolding_all exact id (kept_far _ _ rfl) | assumption)
      [Dev.Keeps, Dev.evqWrite]

@[simp] theorem Dev.postQ_keeps (d : Dev) (q : Nat) (r : EvRec) : d.Keeps (d.postQ q r) := by
  simp (disch := first | with_unfolding_all exact id (kept_of_ble rfl) | with_unfolding_all exact id (kept_far _ _ rfl)) [Dev.Keeps, Dev.postQ]

@[simp] theorem Dev.post_keeps (d : Dev) (r : EvRec) : d.Keeps (d.post r) := by
  simp only [Dev.post]
  repeat' split
  all_goals simp (disch := with_unfolding_all exact id (kept_of_ble rfl)) [Dev.Keeps]

@[simp] theorem Dev.event_keeps (d : Dev) (src code arg : Nat) : d.Keeps (d.event src code arg) := by
  simp [Dev.Keeps, Dev.event]

@[simp] theorem Dev.busEvent_keeps (d : Dev) (code a thr : Nat) : d.Keeps (d.busEvent code a thr) := by
  simp [Dev.Keeps, Dev.busEvent]

@[simp] theorem Dev.postAon_keeps (d : Dev) (r : EvRec) : d.Keeps (d.postAon r) := by
  simp [Dev.Keeps, Dev.postAon]

@[simp] theorem Dev.deliverAon_keeps (d : Dev) : d.Keeps d.deliverAon := by
  simp [Dev.Keeps, Dev.deliverAon]

@[simp] theorem Dev.update_keeps (f : Fld) (v : Nat) (d : Dev) (hf : kept f.key = false) : d.Keeps (d.update f v) := by
  simp (disch := assumption) [Dev.Keeps, Dev.update]

theorem Dev.setFlag_keeps {f : Fld} (en : Fld) (mk : Dev → EvRec) {post : Dev → EvRec → Dev} (h : ∀ d r, Dev.Keeps d (post d r)) (d : Dev)
    (hf : kept f.key = false) : d.Keeps (d.setFlag f en mk post) := by
  simp only [Dev.setFlag]
  repeat' split
  all_goals simp [Dev.Keeps, h, hf]

@[simp] theorem Dev.raise_keeps (d : Dev) (f : Fld) (hf : kept f.key = false) : d.Keeps (d.raise f) := by
  unfold Dev.raise
  exact Dev.setFlag_keeps _ _ (fun d r => d.post_keeps r) d hf

/-! A change made after others. -/

section
variable {d e e' : Dev} {f : Fld} (h : d.Keeps e)
include h

theorem Dev.Keeps.set (v : Nat) (hf : kept f.key = false) : d.Keeps (e.set f v) := h.trans (e.set_keeps f v hf)
theorem Dev.Keeps.setB (b : Bool) (hf : kept f.key = false) : d.Keeps (e.setB f b) := h.trans (e.set_keeps f _ hf)
theorem Dev.Keeps.inc (hf : kept f.key = false) : d.Keeps (e.inc f) := h.trans (e.set_keeps f _ hf)
theorem Dev.Keeps.incBy (n : Nat) (hf : kept f.key = false) : d.Keeps (e.incBy f n) := h.trans (e.set_keeps f _ hf)
theorem Dev.Keeps.raise (hf : kept f.key = false) : d.Keeps (e.raise f) := h.trans (e.raise_keeps f hf)
theorem Dev.Keeps.withAon (a : AonQueue) : d.Keeps { e with aon := a } := ⟨h.1, h.2⟩
theorem Dev.Keeps.withSw (w : SwitchPart) : d.Keeps { e with sw := w } := ⟨h.1, h.2⟩

theorem Dev.Keeps.when {c : Prop} [Decidable c] (k : e.Keeps e') : d.Keeps (if c then e' else e) := by
  split
  · exact h.trans k
  · exact h

theorem Dev.Keeps.unless {c : Prop} [Decidable c] (k : e.Keeps e') : d.Keeps (if c then e else e') := by
  split
  · exact h
  · exact h.trans k

theorem Dev.Keeps.each {α : Type} {g : α → Dev → Dev} (k : ∀ x d, Dev.Keeps d (g x d)) (l : List α) : d.Keeps (forAll l g e) :=
  h.trans (forAll_keeps k l e)

end

@[simp] theorem Dev.silDrop_keeps (d : Dev) : d.Keeps d.silDrop := by
  simp (disch := with_unfolding_all exact id (kept_of_ble rfl)) [Dev.Keeps, Dev.silDrop]

@[simp] theorem Dev.silPost_keeps (d : Dev) (src code args : Nat) : d.Keeps (d.silPost src code args) := by
  simp [Dev.Keeps, Dev.silPost]

@[simp] theorem Dev.perfAdd_keeps (d : Dev) (t ev : Nat) : d.Keeps (d.perfAdd t ev) := ⟨rfl, rfl⟩

@[simp] theorem Dev.putStartPc_keeps (d : Dev) (t pc : Nat) : d.Keeps (d.putStartPc t pc) := by
  simp (disch := with_unfolding_all exact id (kept_far _ _ rfl)) [Dev.Keeps, Dev.putStartPc]

@[simp] theorem Dev.stopIfAsked_keeps (d : Dev) (t : Nat) : d.Keeps (d.stopIfAsked t) := by
  simp (disch := with_unfolding_all exact id (kept_far _ _ rfl)) [Dev.Keeps, Dev.stopIfAsked]

@[simp] theorem Dev.stopThread_keeps (d : Dev) (t : Nat) : d.Keeps (d.stopThread t) := by
  simp only [Dev.stopThread]
  repeat' split
  all_goals simp (disch := with_unfolding_all exact id (kept_far _ _ rfl)) [Dev.Keeps]

@[simp] theorem Dev.dropThread_keeps (d : Dev) (t : Nat) : d.Keeps (d.dropThread t) := by
  simp (disch := with_unfolding_all exact id (kept_far _ _ rfl)) [Dev.Keeps, Dev.dropThread]

@[simp] theorem Dev.retire_keeps (d : Dev) (t len : Nat) : d.Keeps (d.retire t len) := by
  simp (disch := with_unfolding_all exact id (kept_far _ _ rfl)) [Dev.Keeps, Dev.retire]

@[simp] theorem Dev.fenceDone_keeps (d : Dev) (t : Nat) : d.Keeps (d.fenceDone t) := by
  simp [Dev.Keeps, Dev.fenceDone]

@[simp] theorem Dev.slotState_keeps (d : Dev) (n st code : Nat) : d.Keeps (d.slotState n st code) := by
  simp only [Dev.slotState]
  repeat' split
  all_goals simp (disch := first | with_unfolding_all exact id (kept_of_ble rfl) | with_unfolding_all exact id (kept_far _ _ rfl)) [Dev.Keeps]

@[simp] theorem Dev.accordDone_keeps (d : Dev) (n code : Nat) : d.Keeps (d.accordDone n code) := by
  simp [Dev.Keeps, Dev.accordDone]

@[simp] theorem Dev.noteAbort_keeps (d : Dev) (id code : Nat) : d.Keeps (d.noteAbort id code) := by
  simp [Dev.Keeps, Dev.noteAbort]

@[simp] theorem Dev.abortReport_keeps (d : Dev) (id kind code slot : Nat) : d.Keeps (d.abortReport id kind code slot) := by
  unfold Dev.abortReport
  exact (((((d.inc_keeps _ (kept_far _ _ rfl)).when (Dev.noteAbort_keeps ..)).when (Dev.raise_keeps _ _ (kept_of_ble rfl))).when
    (Dev.raise_keeps _ _ (kept_of_ble rfl))).when (Dev.raise_keeps _ _ (kept_of_ble rfl))).trans (Dev.silPost_keeps ..)

@[simp] theorem Dev.abortSlot_keeps (d : Dev) (n code : Nat) : d.Keeps (d.abortSlot n code) := by
  simp [Dev.Keeps, Dev.abortSlot]

@[simp] theorem Dev.memTouched_keeps (d : Dev) (a n own : Nat) : d.Keeps (d.memTouched a n own) := by
  simp [Dev.Keeps, Dev.memTouched]

@[simp] theorem Dev.addFlaw_keeps (d : Dev) (w : Nat) : d.Keeps (d.addFlaw w) := by
  simp [Dev.Keeps, Dev.addFlaw]

@[simp] theorem Dev.mend_keeps (d : Dev) (a n : Nat) : d.Keeps (d.mend a n) := by
  simp [Dev.Keeps, Dev.mend]

@[simp] theorem Dev.mendIn_keeps (mem b lo n : Nat) (d : Dev) : d.Keeps (d.mendIn mem b lo n) := by
  simp [Dev.Keeps, Dev.mendIn]

@[simp] theorem Dev.dropLines_keeps (d : Dev) (a n : Nat) : d.Keeps (d.dropLines a n) := by
  simp [Dev.Keeps, Dev.dropLines]

@[simp] theorem Dev.engWrite_keeps (d : Dev) (a : Nat) (l : List Byte) : d.Keeps (d.engWrite a l) := by
  unfold Dev.engWrite
  split <;> simp [Dev.Keeps]

@[simp] theorem Dev.modUsb_keeps (d : Dev) (f : UsbPart → UsbPart) : d.Keeps (d.modUsb f) := ⟨rfl, rfl⟩

@[simp] theorem Dev.wakeReason_keeps (d : Dev) (r : Nat) : d.Keeps (d.wakeReason r) := by
  simp (disch := with_unfolding_all exact id (kept_of_ble rfl)) [Dev.Keeps, Dev.wakeReason]

@[simp] theorem Dev.notify_keeps (code src arg : Nat) (d : Dev) : d.Keeps (d.notify code src arg) := by
  simp (disch := first | with_unfolding_all exact id (kept_of_ble rfl) | assumption) [Dev.Keeps, Dev.notify]

@[simp] theorem Dev.dropGateway_keeps (g : Nat) (d : Dev) : d.Keeps (d.dropGateway g) := by
  simp (disch := first | with_unfolding_all exact id (kept_of_ble rfl) | with_unfolding_all exact id (kept_far _ _ rfl) | assumption)
      [Dev.Keeps, Dev.dropGateway]

@[simp] theorem Dev.syncPools_keeps (d : Dev) : d.Keeps d.syncPools := by
  simp (disch := first | with_unfolding_all exact id (kept_of_ble rfl) | assumption) [Dev.Keeps, Dev.syncPools]

@[simp] theorem Dev.memCe_keeps (d : Dev) (mem b word : Nat) : d.Keeps (d.memCe mem b word) := by
  simp (disch := with_unfolding_all exact id (kept_of_ble rfl)) [Dev.Keeps, Dev.memCe]

@[simp] theorem Dev.memUe_keeps (d : Dev) (mem b word : Nat) : d.Keeps (d.memUe mem b word) := by
  simp (disch := with_unfolding_all exact id (kept_of_ble rfl)) [Dev.Keeps, Dev.memUe]

@[simp] theorem Dev.memRead_keeps (d : Dev) (mem b word : Nat) (x : Ecc) : d.Keeps (d.memRead mem b word x) := by
  unfold Dev.memRead
  split <;> simp [Dev.Keeps]

theorem Dev.hitFlaw_keeps (mem b lo n : Nat) (d : Dev) : ∀ e ∈ Dev.hitFlaw mem b lo n d, d.Keeps e := by
  simp [Dev.Keeps, Dev.hitFlaw]

@[simp] theorem scrubEnd_keeps (result read : Nat) (ces ues : List Nat) (d : Dev) : d.Keeps (scrubEnd result read ces ues d) := by
  unfold scrubEnd
  exact ((((((((Dev.Keeps.refl d).each (fun _ _ => Dev.memCe_keeps ..) ces).each (fun _ _ => Dev.memUe_keeps ..) ues).set _ (kept_of_ble rfl)).set _
    (kept_of_ble rfl)).set _ (kept_of_ble rfl)).each (fun _ d => d.set_keeps _ _ (kept_far _ _ rfl)) _).set _ (kept_of_ble rfl)).set _
        (kept_of_ble rfl) |>.raise (kept_of_ble rfl)

@[simp] theorem markTarget_keeps (t : Nat) (d : Dev) : d.Keeps (markTarget t d) := by
  unfold markTarget
  split
  · exact (d.set_keeps _ _ (kept_of_ble rfl)).each (fun _ _ => Dev.dropThread_keeps ..) _
  · split
    · exact ((d.set_keeps _ _ (kept_of_ble rfl)).trans (Dev.decBy_keeps _ _ _ (kept_of_ble rfl))).trans (Dev.syncPools_keeps _)
    · exact .refl d

@[simp] theorem bistFail_keeps (t misr : Nat) (d : Dev) : d.Keeps (bistFail t misr d) := by
  simp (disch := with_unfolding_all exact id (kept_of_ble rfl)) [Dev.Keeps, bistFail]

@[simp] theorem Dev.restartThread_keeps (d : Dev) (t : Nat) : d.Keeps (d.restartThread t) := by
  simp (disch := with_unfolding_all exact id (kept_far _ _ rfl)) [Dev.Keeps, Dev.restartThread]

@[simp] theorem bistSliceDone_keeps (misr : Nat) (res : BistEnd) (d : Dev) : d.Keeps (bistSliceDone misr res d) := by
  unfold bistSliceDone
  split
  · exact .refl d
  · next x _ =>
    extract_lets rel d1 d2 free sw d3 d4 d5 d6 d7
    have h2 : d.Keeps d2 := forAll_keeps (fun y e => by
      split
      · exact Dev.restartThread_keeps ..
      · exact .refl e) _ d1
    have hfree : d.Keeps free := h2.incBy _ (kept_far _ _ rfl)
    have h3 : d.Keeps d3 := by
      unfold d3
      split
      · exact (hfree.withSw _).trans (Dev.syncPools_keeps _)
      · exact h2
    have h6 : d.Keeps d6 := ((h3.set _ (kept_of_ble rfl)).set _ (kept_of_ble rfl)).unless ((Dev.set_keeps _ _ _ (kept_of_ble rfl)).set _
        (kept_of_ble rfl))
    exact (h6.when ((bistFail_keeps ..).trans (markTarget_keeps ..))).raise (kept_of_ble rfl)

@[simp] theorem Dev.dramLost_keeps (d : Dev) : d.Keeps (d.dramLost) := ⟨rfl, rfl⟩
@[simp] theorem Dev.modLnk_keeps (d : Dev) (p : Nat) (f : LinkSt → LinkSt) : d.Keeps (d.modLnk p f) := ⟨rfl, rfl⟩
@[simp] theorem Dev.modSeq_keeps (d : Dev) (p : Nat) (f : SeqSt → SeqSt) : d.Keeps (d.modSeq p f) := ⟨rfl, rfl⟩
@[simp] theorem Dev.modSw_keeps (d : Dev) (f : SwitchPart → SwitchPart) : d.Keeps (d.modSw f) := ⟨rfl, rfl⟩
@[simp] theorem Dev.putPkt_keeps (d : Dev) (i : Nat) (k : Pkt) : d.Keeps (d.putPkt i k) := ⟨rfl, rfl⟩
@[simp] theorem Dev.erasePkt_keeps (d : Dev) (i : Nat) : d.Keeps (d.erasePkt i) := ⟨rfl, rfl⟩

@[simp] theorem Dev.modPkt_keeps (d : Dev) (i : Nat) (f : Pkt → Pkt) : d.Keeps (d.modPkt i f) := by
  unfold Dev.modPkt
  split <;> simp [Dev.Keeps]

@[simp] theorem Dev.setQueue_keeps (d : Dev) (q : Nat) (l : List Nat) : d.Keeps (d.setQueue q l) := ⟨rfl, rfl⟩
@[simp] theorem Dev.returnCredit_keeps (d : Dev) (p c : Nat) : d.Keeps (d.returnCredit p c) := ⟨rfl, rfl⟩
@[simp] theorem Dev.rsvUse_keeps (d : Dev) (p : Nat) (up : Bool) : d.Keeps (d.rsvUse p up) := ⟨rfl, rfl⟩
@[simp] theorem Dev.setOld_keeps (d : Dev) (p n : Nat) : d.Keeps (d.setOld p n) := ⟨rfl, rfl⟩

@[simp] theorem Dev.charge_keeps (d : Dev) (x : Pool) : d.Keeps (d.charge x) := by
  unfold Dev.charge
  split <;> simp (disch := with_unfolding_all exact id (kept_of_ble rfl)) [Dev.Keeps]

@[simp] theorem Dev.discharge_keeps (d : Dev) (lead : Bool) (cls : Nat) (x : Pool) : d.Keeps (d.discharge lead cls x) := by
  unfold Dev.discharge
  split <;> simp (disch := first | with_unfolding_all exact id (kept_of_ble rfl) | assumption) [Dev.Keeps]

theorem Dev.alloc_keeps (d : Dev) (ing : Nat) (data : List Byte) (pool : Pool) : ∀ x ∈ Dev.alloc d ing data pool, d.Keeps x.2 := by
  unfold Dev.alloc
  split <;> simp (disch := first | with_unfolding_all exact id (kept_of_ble rfl) | with_unfolding_all exact id (kept_far _ _ rfl) | assumption)
      [Dev.Keeps]

@[simp] theorem Dev.readCell_keeps (c : Cell) (ecc : Ecc) (d : Dev) : d.Keeps (d.readCell c ecc).2 := by
  simp (disch := first | with_unfolding_all exact id (kept_of_ble rfl) | assumption) [Dev.Keeps, Dev.readCell]

@[simp] theorem Dev.freeChip_keeps (d : Dev) (n : Nat) : d.Keeps (d.freeChip n) := by
  simp (disch := with_unfolding_all exact id (kept_far _ _ rfl)) [Dev.Keeps, Dev.freeChip]

@[simp] theorem Dev.freeCell_keeps (d : Dev) (lead : Bool) (cls : Nat) (c : Cell) : d.Keeps (d.freeCell lead cls c) := by
  unfold Dev.freeCell
  split <;> simp [Dev.Keeps]

@[simp] theorem Dev.occAdd_keeps (d : Dev) (q n : Nat) : d.Keeps (d.occAdd q n) := by
  simp (disch := first | with_unfolding_all exact id (kept_of_ble rfl) | with_unfolding_all exact id (kept_far _ _ rfl) | assumption)
      [Dev.Keeps, Dev.occAdd]

@[simp] theorem Dev.spillMove_keeps (d : Dev) : d.Keeps (d.spillMove) := ⟨rfl, rfl⟩

@[simp] theorem Dev.spillFullCheck_keeps (d : Dev) : d.Keeps d.spillFullCheck := by
  simp (disch := first | with_unfolding_all exact id (kept_of_ble rfl) | assumption) [Dev.Keeps, Dev.spillFullCheck]

@[simp] theorem Dev.spillCell_keeps (d : Dev) (q : Nat) (data : List Byte) : d.Keeps (d.spillCell q data).2 := by
  simp (disch := first | with_unfolding_all exact id (kept_of_ble rfl) | with_unfolding_all exact id (kept_far _ _ rfl)) [Dev.Keeps, Dev.spillCell]

theorem mapCells_keeps {f : Cell → Dev → Cell × Dev} (h : ∀ c d, Dev.Keeps d (f c d).2) (l : List Cell) (d : Dev) :
    d.Keeps (mapCells f l d).2 := by
  induction l generalizing d with
  | nil => exact .refl d
  | cons c l ih => exact (h c d).trans (ih (f c d).2)

@[simp] theorem Dev.toShared_keeps (d : Dev) (ing : Nat) (lead : Bool) (cls : Nat) (c : Cell) : d.Keeps (d.toShared ing lead cls c).2 := by
  unfold Dev.toShared
  split
  · split
    · next x h => exact Dev.alloc_keeps _ _ _ _ _ h
    · exact .refl d
  · exact (Dev.discharge_keeps ..).trans (Dev.charge_keeps ..)
  · exact .refl d

@[simp] theorem Dev.toSpill_keeps (d : Dev) (q : Nat) (lead : Bool) (cls : Nat) (c : Cell) : d.Keeps (d.toSpill q lead cls c).2 := by
  simp [Dev.Keeps, Dev.toSpill]

@[simp] theorem Dev.takeOff_keeps (d : Dev) (i : Nat) (k : Pkt) : d.Keeps (d.takeOff i k) := by
  simp (disch := with_unfolding_all exact id (kept_far _ _ rfl)) [Dev.Keeps, Dev.takeOff]

@[simp] theorem Dev.releasePkt_keeps (d : Dev) (i : Nat) : d.Keeps (d.releasePkt i) := by
  unfold Dev.releasePkt
  split <;> simp [Dev.Keeps]

@[simp] theorem Dev.hostDropped_keeps (d : Dev) (i : Nat) : d.Keeps (d.hostDropped i) := by
  unfold Dev.hostDropped
  split <;> simp [Dev.Keeps]

@[simp] theorem Dev.dropPkt_keeps (d : Dev) (i : Nat) : d.Keeps (d.dropPkt i) := by
  simp [Dev.Keeps, Dev.dropPkt]

@[simp] theorem Dev.dropAdmission_keeps (d : Dev) (i : Nat) : d.Keeps (d.dropAdmission i) := by
  unfold Dev.dropAdmission
  split <;> simp (disch := first | with_unfolding_all exact id (kept_of_ble rfl) | with_unfolding_all exact id (kept_far _ _ rfl)) [Dev.Keeps]

@[simp] theorem Dev.holdPkt_keeps (d : Dev) (i : Nat) (k : Pkt) : d.Keeps (d.holdPkt i k) := by
  simp [Dev.Keeps, Dev.holdPkt]

@[simp] theorem Dev.enqueue_keeps (d : Dev) (i : Nat) (k : Pkt) : d.Keeps (d.enqueue i k) := by
  simp (disch := first | with_unfolding_all exact id (kept_of_ble rfl) | with_unfolding_all exact id (kept_far _ _ rfl)) [Dev.Keeps, Dev.enqueue]

@[simp] theorem Dev.takeShared_keeps (d : Dev) (k : Pkt) : d.Keeps (d.takeShared k).2 := by
  refine mapCells_keeps (fun c d => ?_) _ d
  split
  · exact Dev.toShared_keeps ..
  · exact .refl d

@[simp] theorem Dev.spillCells_keeps (q : Nat) (lead : Bool) (cls : Nat) (l : List Cell) (d : Dev) :
    d.Keeps (d.spillCells q lead cls l).2 := by
  induction l generalizing d with
  | nil => exact .refl d
  | cons c t ih =>
    simp only [Dev.spillCells]
    split
    · exact ih d
    · split
      · exact (Dev.toSpill_keeps ..).trans (ih _)
      · exact Dev.spillFullCheck_keeps _

@[simp] theorem Dev.admitChip_keeps (d : Dev) (i : Nat) (k : Pkt) : d.Keeps (d.admitChip i k) := by
  simp (disch := first | with_unfolding_all exact id (kept_of_ble rfl) | with_unfolding_all exact id (kept_far _ _ rfl) | assumption)
      [Dev.Keeps, Dev.admitChip]

@[simp] theorem Dev.admitSpill_keeps (d : Dev) (i : Nat) (k : Pkt) : d.Keeps (d.admitSpill i k) := by
  simp (disch := with_unfolding_all exact id (kept_far _ _ rfl)) [Dev.Keeps, Dev.admitSpill]

@[simp] theorem Dev.admitToStore_keeps (d : Dev) (i : Nat) (k : Pkt) : d.Keeps (d.admitToStore i k) := by
  simp [Dev.Keeps, Dev.admitToStore]

@[simp] theorem Dev.admission_keeps (d : Dev) (i : Nat) : d.Keeps (d.admission i) := by
  unfold Dev.admission
  split <;> simp [Dev.Keeps]

@[simp] theorem Dev.cutShort_keeps (d : Dev) (i : Nat) (k : Pkt) : d.Keeps (d.cutShort i k) := by
  simp (disch := with_unfolding_all exact id (kept_of_ble rfl)) [Dev.Keeps, Dev.cutShort]

@[simp] theorem Dev.waitCell_keeps (d : Dev) (k : Pkt) (data : List Byte) : d.Keeps (d.waitCell k data).2 := by
  unfold Dev.waitCell
  split
  · split
    · next x h => exact d.alloc_keeps _ _ _ _ h
    · exact Dev.returnCredit_keeps ..
  · exact .refl d

@[simp] theorem Dev.addCell_keeps (d : Dev) (i : Nat) (data : List Byte) : d.Keeps (d.addCell i data) := by
  unfold Dev.addCell
  split
  · exact .refl d
  · next k _ =>
    extract_lets ahead credit wait
    have hcredit : ∀ e : Dev, e.Keeps (credit e) := fun e => by
      unfold credit
      split
      · exact Dev.returnCredit_keeps ..
      · exact .refl e
    have hwait : ∀ e : Dev, e.Keeps (wait e) := fun e => by
      unfold wait
      exact ((e.waitCell_keeps k data).trans (Dev.occAdd_keeps ..)).trans ((Dev.putPkt_keeps ..).trans (Dev.syncPools_keeps _))
    clear_value wait credit
    split
    · split
      · have hs := d.spillCell_keeps k.queue data
        rcases hk : d.spillCell k.queue data with ⟨c, e⟩
        rw [hk] at hs
        refine .trans ?_ (Dev.syncPools_keeps _)
        refine .trans ?_ (Dev.putPkt_keeps ..)
        exact hs.trans (hcredit e)
      · exact d.spillFullCheck_keeps.trans (hwait _)
    · exact hwait d
    · split
      · next c e heq =>
        split at heq
        · have ha := d.alloc_keeps _ _ _ _ heq
          refine .trans ?_ (Dev.syncPools_keeps _)
          refine .trans ?_ (Dev.putPkt_keeps ..)
          exact (ha.trans (hcredit _)).trans (Dev.occAdd_keeps ..)
        · cases heq
      · split
        · exact hwait d
        · exact Dev.cutShort_keeps ..

@[simp] theorem Dev.admitNew_keeps (d : Dev) (i : Nat) : d.Keeps (d.admitNew i) := by
  unfold Dev.admitNew
  split <;> simp [Dev.Keeps]

@[simp] theorem Dev.newPkt_keeps (d : Dev) (k : Pkt) : d.Keeps (d.newPkt k).2 := ⟨rfl, rfl⟩

@[simp] theorem Dev.dropClaim_keeps (d : Dev) (p : Nat) : d.Keeps (d.dropClaim p) := by
  simp [Dev.Keeps, Dev.dropClaim]

@[simp] theorem Dev.modSch_keeps (d : Dev) (f : SchedPart → SchedPart) : d.Keeps (d.modSch f) := ⟨rfl, rfl⟩
@[simp] theorem Dev.setQs_keeps (d : Dev) (q : Nat) (x : QSched) : d.Keeps (d.setQs q x) := ⟨rfl, rfl⟩
@[simp] theorem Dev.refreshShaper_keeps (d : Dev) (q : Nat) : d.Keeps (d.refreshShaper q) := ⟨rfl, rfl⟩

@[simp] theorem Dev.retag_keeps (e q : Nat) (d : Dev) : d.Keeps (d.retag e q) := by
  unfold Dev.retag
  split <;> simp [Dev.Keeps]

@[simp] theorem Dev.retagAll_keeps (e : Nat) (d : Dev) : d.Keeps (d.retagAll e) := by
  simp [Dev.Keeps, Dev.retagAll]

@[simp] theorem Dev.noteStart_keeps (d : Dev) (e q : Nat) (k : Pkt) : d.Keeps (d.noteStart e q k) := by
  unfold Dev.noteStart
  refine .trans ?_ ((Dev.Keeps.refl _).when (Dev.inc_keeps _ _ (kept_far _ _ rfl)))
  refine ((Dev.Keeps.inc ?_ (kept_far _ _ rfl)).set _ (kept_far _ _ rfl)).set _ (kept_far _ _ rfl)
  split
  · exact ((Dev.refreshShaper_keeps ..).trans (Dev.setQs_keeps ..)).trans (Dev.modSch_keeps ..)
  · exact ((Dev.refreshShaper_keeps ..).trans (Dev.setQs_keeps ..)).trans (Dev.modSch_keeps ..)

@[simp] theorem Dev.dropOversize_keeps (e q : Nat) (d : Dev) : d.Keeps (d.dropOversize e q) := by
  simp only [Dev.dropOversize]
  repeat' split
  all_goals simp (disch := first | with_unfolding_all exact id (kept_of_ble rfl) | with_unfolding_all exact id (kept_far _ _ rfl)) [Dev.Keeps]

@[simp] theorem Dev.noteLost_keeps (c : Cell) (d : Dev) : d.Keeps (d.noteLost c) := by
  simp (disch := with_unfolding_all exact id (kept_of_ble rfl)) [Dev.Keeps, Dev.noteLost]

@[simp] theorem Dev.dropFlawed_keeps (q : Nat) (d : Dev) : d.Keeps (d.dropFlawed q) := by
  simp only [Dev.dropFlawed]
  repeat' split
  all_goals simp [Dev.Keeps]

@[simp] theorem Dev.prepare_keeps (e : Nat) (d : Dev) : d.Keeps (d.prepare e) := by
  simp [Dev.Keeps, Dev.prepare]

@[simp] theorem Dev.setPol_keeps (d : Dev) (c : Nat) (x : Policer) : d.Keeps (d.setPol c x) := ⟨rfl, rfl⟩
@[simp] theorem Dev.modServo_keeps (d : Dev) (f : Servo → Servo) : d.Keeps (d.modServo f) := ⟨rfl, rfl⟩

@[simp] theorem Dev.srvGo_keeps (d : Dev) (st : Nat) : d.Keeps (d.srvGo st) := by
  unfold Dev.srvGo
  split <;> simp (disch := with_unfolding_all exact id (kept_of_ble rfl)) [Dev.Keeps]

@[simp] theorem Dev.setF_keeps (d : Dev) (fnum : Int) (period : Nat) : d.Keeps (d.setF fnum period) := by
  simp (disch := first | with_unfolding_all exact id (kept_of_ble rfl) | assumption) [Dev.Keeps, Dev.setF]

@[simp] theorem Dev.dropSample_keeps (p : Nat) (d : Dev) : d.Keeps (d.dropSample p) := by
  simp [Dev.Keeps, Dev.dropSample]

@[simp] theorem Dev.owe_keeps (d : Dev) (code : Nat) (body : List Nat) (port : Option Nat) : d.Keeps (d.owe code body port) := ⟨rfl, rfl⟩
@[simp] theorem Dev.segReport_keeps (d : Dev) (p ev : Nat) : d.Keeps (d.segReport p ev) := ⟨rfl, rfl⟩
@[simp] theorem Dev.sendCtl_keeps (d : Dev) (p : Nat) (b : Body) : d.Keeps (d.sendCtl p b) := ⟨rfl, rfl⟩

@[simp] theorem Dev.showLine_keeps (d : Dev) (id : Nat) (r : LineSt) : d.Keeps (d.showLine id r) := by
  unfold Dev.showLine
  exact (((((d.set_keeps _ _ (kept_of_ble rfl)).set _ (kept_of_ble rfl)).setB _ (kept_of_ble rfl)).set _ (kept_of_ble rfl)).set _
      (kept_of_ble rfl)).setB _ (kept_of_ble rfl)

@[simp] theorem Dev.reshowLine_keeps (d : Dev) : d.Keeps d.reshowLine := by
  unfold Dev.reshowLine
  split <;> simp [Dev.Keeps]

@[simp] theorem Dev.accordsFenced_keeps (d : Dev) : d.Keeps d.accordsFenced := by
  simp [Dev.Keeps, Dev.accordsFenced]

@[simp] theorem Dev.fenceFlag_keeps (cause : Nat) (d : Dev) : d.Keeps (d.fenceFlag cause) := by
  unfold Dev.fenceFlag
  extract_lets was d1 body d2
  have h := (d.set_keeps STN_STAT_FENCED 1 (kept_of_ble rfl)).each (fun p d => Dev.set_keeps d (LNK_CTL_ADMIT p) 0 (kept_link _ rfl rfl rfl)) ports
  split
  · exact h
  · exact (((h.raise (kept_of_ble rfl)).trans (Dev.accordsFenced_keeps _)).trans (Dev.owe_keeps ..)).each (fun _ _ => Dev.owe_keeps ..) _

@[simp] theorem Dev.setLink_keeps (d : Dev) (p st : Nat) : d.Keeps (d.setLink p st) := by
  simp (disch := first | with_unfolding_all exact id (kept_of_ble rfl) | with_unfolding_all exact id (kept_link _ rfl rfl rfl) | assumption)
      [Dev.Keeps, Dev.setLink]

@[simp] theorem Dev.countDrop_keeps (d : Dev) (x : Path) : d.Keeps (d.countDrop x) := by
  unfold Dev.countDrop
  split <;> simp (disch := with_unfolding_all exact id (kept_link _ rfl rfl rfl)) [Dev.Keeps]

@[simp] theorem Dev.movePkt_keeps (d : Dev) (i : Nat) (k : Pkt) (q : Nat) (dataW : Bool) : d.Keeps (d.movePkt i k q dataW) := by
  unfold Dev.movePkt
  split <;> simp (disch := with_unfolding_all exact id (kept_far _ _ rfl)) [Dev.Keeps]

@[simp] theorem Dev.reroute_keeps (p i : Nat) (d : Dev) : d.Keeps (d.reroute p i) := by
  simp only [Dev.reroute]
  repeat' split
  all_goals simp (disch := with_unfolding_all exact id (kept_of_ble rfl)) [Dev.Keeps]

@[simp] theorem Dev.rerouteAll_keeps (p : Nat) (d : Dev) : d.Keeps (d.rerouteAll p) := by
  simp [Dev.Keeps, Dev.rerouteAll]

@[simp] theorem Dev.truncate_keeps (p i : Nat) (d : Dev) : d.Keeps (d.truncate p i) := by
  unfold Dev.truncate
  split <;> simp (disch := with_unfolding_all exact id (kept_link _ rfl rfl rfl)) [Dev.Keeps]

@[simp] theorem Dev.cutSent_keeps (p : Nat) (keep : Pkt → Bool) (d : Dev) : d.Keeps (d.cutSent p keep) := by
  simp [Dev.Keeps, Dev.cutSent]

@[simp] theorem Dev.sendNotice_keeps (d : Dev) (p : Nat) (unwrap : Bool) (cause : Nat) : d.Keeps (d.sendNotice p unwrap cause) := by
  simp [Dev.Keeps, Dev.sendNotice]

@[simp] theorem Dev.wrapOn_keeps (d : Dev) (p cause : Nat) : d.Keeps (d.wrapOn p cause) := by
  simp (disch := with_unfolding_all exact id (kept_link _ rfl rfl rfl)) [Dev.Keeps, Dev.wrapOn]

@[simp] theorem Dev.putLine_keeps (d : Dev) (id : Nat) (r : LineSt) : d.Keeps (d.putLine id r) := by
  simp [Dev.Keeps, Dev.putLine]

@[simp] theorem Dev.dropLine_keeps (d : Dev) (id : Nat) (r : LineSt) : d.Keeps (d.dropLine id r) := by
  simp [Dev.Keeps, Dev.dropLine]

@[simp] theorem Dev.remember_keeps (d : Dev) (id out : Nat) : d.Keeps (d.remember id out) := ⟨rfl, rfl⟩

@[simp] theorem Dev.flood_keeps (d : Dev) (l : List Nat) (m : AcMsg) : d.Keeps (d.flood l m) := by
  simp [Dev.Keeps, Dev.flood]

@[simp] theorem Dev.abortLine_keeps (d : Dev) (id code : Nat) : d.Keeps (d.abortLine id code) := by
  simp [Dev.Keeps, Dev.abortLine]

@[simp] theorem Dev.voteNo_keeps (d : Dev) (id : Nat) (r : LineSt) (code : Nat) : d.Keeps (d.voteNo id r code).2 := by
  unfold Dev.voteNo
  exact (d.abortLine_keeps id code).raise (kept_of_ble rfl)

@[simp] theorem Dev.settle_keeps (d : Dev) (id : Nat) (r : LineSt) (go : Bool) (fin : AcMsg) (arrival : Option Nat) :
    d.Keeps (d.settle id r go fin arrival) := by
  unfold Dev.settle
  extract_lets r1 d1 d2 d3 d4 code d5
  have h4 : d.Keeps d4 := (((d.remember_keeps _ _).trans (Dev.flood_keeps ..)).set _ (kept_of_ble rfl)).trans (Dev.silPost_keeps ..)
  split
  · exact h4.trans (Dev.putLine_keeps ..)
  · exact (h4.unless (Dev.abortLine_keeps ..)).trans (Dev.dropLine_keeps ..)

@[simp] theorem Dev.decideLine_keeps (d : Dev) (id : Nat) (r : LineSt) (go : Bool) (v : AcMsg) : d.Keeps (d.decideLine id r go v) := by
  unfold Dev.decideLine
  exact (((d.set_keeps _ _ (kept_of_ble rfl)).set _ (kept_of_ble rfl)).set _ (kept_of_ble rfl)).trans (Dev.settle_keeps ..)

@[simp] theorem Dev.lineStep_keeps (d : Dev) (id : Nat) : d.Keeps (d.lineStep id) := by
  unfold Dev.lineStep
  split
  · exact .refl d
  · split
    · exact .refl d
    · extract_lets v all d1 d2 d3
      split
      · split
        · exact Dev.decideLine_keeps ..
        · split
          · exact .refl d
          · split <;> exact Dev.decideLine_keeps ..
      · split
        · have h1 : d.Keeps d1 := by
            unfold d1
            split
            · exact Dev.flood_keeps ..
            · exact .refl d
          exact ((((h1.set _ (kept_of_ble rfl)).set _ (kept_of_ble rfl)).set _ (kept_of_ble rfl)).trans (Dev.silPost_keeps ..)).trans
              (Dev.putLine_keeps ..)
        · exact .refl d

@[simp] theorem Dev.accordLinkLost_keeps (p : Nat) (d : Dev) : d.Keeps (d.accordLinkLost p) := by
  refine forAll_keeps (fun id d => ?_) _ d
  split
  · exact .refl d
  · split
    · extract_lets r1
      split
      next r2 d2 heq =>
      have h2 : d.Keeps d2 := by
        split at heq
        · simpa only [heq] using d.voteNo_keeps id r1 7
        · split at heq <;> cases heq <;> exact .refl d
      exact (h2.trans (Dev.putLine_keeps ..)).trans (Dev.lineStep_keeps ..)
    · exact .refl d

@[simp] theorem Dev.modCtx_keeps (d : Dev) (c : Nat) (f : CtxSt → CtxSt) : d.Keeps (d.modCtx c f) := ⟨rfl, rfl⟩

@[simp] theorem Dev.incSeq_keeps (d : Dev) (f : Fld) (n : Nat) (hf : kept f.key = false) : d.Keeps (d.incSeq f n) := by
  simp (disch := assumption) [Dev.Keeps, Dev.incSeq]

@[simp] theorem Dev.txDone_keeps (d : Dev) (tag : Option (Nat × Nat)) (refused : Bool) : d.Keeps (d.txDone tag refused) := by
  unfold Dev.txDone
  split <;> simp [Dev.Keeps]

@[simp] theorem Dev.inject_keeps (d : Dev) (ing q sq : Nat) (h : THdr) (bytes : List Byte) (frame dataW : Bool) (term : Option Nat) :
    d.Keeps (d.inject ing q sq h bytes frame dataW term) := by
  simp [Dev.Keeps, Dev.inject]

@[simp] theorem Dev.emit_keeps (d : Dev) (ing p sq : Nat) (h : THdr) (payload : List Byte) : d.Keeps (d.emit ing p sq h payload) := by
  simp only [Dev.emit]
  repeat' split
  all_goals simp (disch := with_unfolding_all exact id (kept_of_ble rfl)) [Dev.Keeps]

@[simp] theorem Dev.noAllot_keeps (d : Dev) : d.Keeps d.noAllot := by
  simp (disch := with_unfolding_all exact id (kept_of_ble rfl)) [Dev.Keeps, Dev.noAllot]

@[simp] theorem Dev.sendControl_keeps (d : Dev) (c kind : Nat) (akv : Bool) (aux : Nat) (payload : List Byte) :
    d.Keeps (d.sendControl c kind akv aux payload) := by
  unfold Dev.sendControl
  split <;> simp [Dev.Keeps]

@[simp] theorem Dev.sendAck_keeps (c : Nat) (d : Dev) : d.Keeps (d.sendAck c) := (d.modCtx_keeps ..).trans (Dev.sendControl_keeps ..)

@[simp] theorem Dev.sendRefresh_keeps (d : Dev) (c : Nat) (r : Refresh) : d.Keeps (d.sendRefresh c r) := by
  simp (disch := with_unfolding_all exact id (kept_far _ _ rfl)) [Dev.Keeps, Dev.sendRefresh]

@[simp] theorem Dev.askRefresh_keeps (d : Dev) (c : Nat) (r : Refresh) : d.Keeps (d.askRefresh c r) := by
  simp [Dev.Keeps, Dev.askRefresh]

@[simp] theorem Dev.pqSlots_keeps (d : Dev) (q s : Nat) (l : List (List Byte)) : d.Keeps (d.pqSlots q s l) := by
  induction l generalizing d s with
  | nil => exact .refl d
  | cons b t ih => exact (d.engWrite_keeps ..).trans (ih _ _)

theorem Dev.pqTake_keeps (d : Dev) (q : Nat) (desc payload : List Byte) : ∀ e ∈ Dev.pqTake d q desc payload, d.Keeps e := by
  simp (disch := first | with_unfolding_all exact id (kept_of_ble rfl) | with_unfolding_all exact id (kept_far _ _ rfl) | assumption)
      [Dev.Keeps, Dev.pqTake]

@[simp] theorem Dev.toEngine_keeps (d : Dev) (q : Nat) (x : Inbound) : d.Keeps (d.toEngine q x) := ⟨rfl, rfl⟩

theorem Dev.handOver_keeps (d : Dev) (c : Nat) (h : THdr) (payload : List Byte) (lat : Nat) :
    ∀ e ∈ Dev.handOver d c h payload lat, d.Keeps e := by
  intro e he
  simp only [Dev.handOver] at he
  split at he
  · exact Dev.pqTake_keeps _ _ _ _ _ he
  · repeat' split at he
    all_goals cases he
    all_goals simp [Dev.Keeps]

@[simp] theorem Dev.deliver_keeps (d : Dev) (c : Nat) (h : THdr) (payload : List Byte) (stamp : Nat) :
    d.Keeps (d.deliver c h payload stamp).2 := by
  unfold Dev.deliver
  extract_lets lat
  split
  · next e he => exact ((d.handOver_keeps _ _ _ _ e he).set _ (kept_far _ _ rfl)).inc (kept_far _ _ rfl)
  · exact d.inc_keeps _ (kept_far _ _ rfl)

@[simp] theorem Dev.syncHeld_keeps (c : Nat) (d : Dev) : d.Keeps (d.syncHeld c) := by
  simp (disch := first | with_unfolding_all exact id (kept_of_ble rfl) | with_unfolding_all exact id (kept_far _ _ rfl) | assumption)
      [Dev.Keeps, Dev.syncHeld]

@[simp] theorem Dev.freeHold_keeps (d : Dev) (cells : List Nat) : d.Keeps (d.freeHold cells) := by
  simp [Dev.Keeps, Dev.freeHold]

@[simp] theorem Dev.keepCells_keeps (cells : List Cell) (d : Dev) : d.Keeps (d.keepCells cells).2 := by
  simp [Dev.Keeps, Dev.keepCells]

@[simp] theorem Dev.deliverHeld_keeps (c : Nat) (x : Nat) (d : Dev) : d.Keeps (d.deliverHeld c x) := by
  induction x generalizing d with
  | zero => exact .refl d
  | succ n ih =>
    simp only [Dev.deliverHeld]
    split
    · exact .refl d
    · next h payload cells _ =>
      have hfree := (d.modCtx_keeps c (fun x => { x with held := Tab.erase (d.get (CTX_W5_RX_EXP c)) x.held })).trans (Dev.freeHold_keeps _ cells)
      have hd := hfree.trans (Dev.deliver_keeps _ c h payload h.aux)
      split
      · next heq => rw [heq] at hd; exact ((hd.set _ (kept_far _ _ rfl)).trans (Dev.modCtx_keeps ..)).trans (ih _)
      · next heq => rw [heq] at hd; exact hd

@[simp] theorem Dev.ackIfDue_keeps (c : Nat) (d : Dev) : d.Keeps (d.ackIfDue c) := by
  simp [Dev.Keeps, Dev.ackIfDue]

@[simp] theorem Dev.holdBack_keeps (d : Dev) (c : Nat) (h : THdr) (payload : List Byte) (stamp : Nat) (cells : List Cell) :
    d.Keeps (d.holdBack c h payload stamp cells) := by
  simp (disch := first | with_unfolding_all exact id (kept_of_ble rfl) | with_unfolding_all exact id (kept_far _ _ rfl)) [Dev.Keeps, Dev.holdBack]

@[simp] theorem Dev.receiveData_keeps (d : Dev) (c : Nat) (h : THdr) (payload : List Byte) (stamp : Nat) (cells : List Cell) :
    d.Keeps (d.receiveData c h payload stamp cells).2 := by
  unfold Dev.receiveData
  extract_lets e x d2
  have hd := Dev.deliver_keeps d c h payload stamp
  have hd2 : d.Keeps (d2.deliver c h payload stamp).2 := ((Dev.Keeps.refl d).when (Dev.askRefresh_keeps ..)).trans (Dev.deliver_keeps ..)
  clear_value d2 x
  split
  · exact .refl d
  · split
    · split
      · rcases hk : d.deliver c h payload stamp with ⟨_ | _, k⟩ <;> rw [hk] at hd
        · exact hd
        · have hk' := (((hd.set (f := CTX_W5_RX_EXP c) ((e + 1) % 2 ^ 32) (kept_far _ _ rfl)).trans
              (Dev.modCtx_keeps _ c (fun x => { x with unacked := x.unacked + 1 }))).trans
            (Dev.deliverHeld_keeps c 16 _)).trans (Dev.syncHeld_keeps c _)
          dsimp only
          split
          · exact hk'.trans (Dev.ackIfDue_keeps ..)
          · exact hk'.trans (Dev.sendAck_keeps ..)
      · split
        · split
          · exact d.inc_keeps _ (kept_far _ _ rfl)
          · exact Dev.holdBack_keeps ..
        · split
          · exact d.inc_keeps _ (kept_far _ _ rfl)
          · exact (d.inc_keeps _ (kept_far _ _ rfl)).trans (Dev.sendAck_keeps ..)
    · split
      · rcases hk : d2.deliver c h payload stamp with ⟨_ | _, k⟩ <;> rw [hk] at hd2
        · exact hd2
        · exact (hd2.trans (Dev.incSeq_keeps _ _ _ (kept_far _ _ rfl))).set _ (kept_far _ _ rfl)
      · exact d.inc_keeps _ (kept_far _ _ rfl)

@[simp] theorem Dev.rsFull_keeps (d : Dev) : d.Keeps d.rsFull := by
  simp (disch := with_unfolding_all exact id (kept_of_ble rfl)) [Dev.Keeps, Dev.rsFull]

@[simp] theorem Dev.rsRelease_keeps (d : Dev) (cells : Nat) : d.Keeps (d.rsRelease cells) := by
  simp (disch := with_unfolding_all exact id (kept_of_ble rfl)) [Dev.Keeps, Dev.rsRelease]

@[simp] theorem Dev.rsWrite_keeps (d : Dev) (cells : List Nat) (l : List Byte) : d.Keeps (d.rsWrite cells l) := by
  simp [Dev.Keeps, Dev.rsWrite]

@[simp] theorem Dev.keepCopy_keeps (d : Dev) (c : Nat) (h : THdr) (payload : List Byte) : d.Keeps (d.keepCopy c h payload) := by
  simp (disch := first | with_unfolding_all exact id (kept_of_ble rfl) | assumption) [Dev.Keeps, Dev.keepCopy]

@[simp] theorem Dev.colourAt_keeps (d : Dev) (c : Nat) (x : LocalPkt) (b : Nat) : d.Keeps (d.colourAt c x b).2 := by
  simp only [Dev.colourAt]
  repeat' split
  all_goals simp (disch := first | with_unfolding_all exact id (kept_of_ble rfl) | with_unfolding_all exact id (kept_far _ _ rfl)) [Dev.Keeps]

@[simp] theorem Dev.launch_keeps (d : Dev) (c : Nat) (x : LocalPkt) (sq colour : Nat) : d.Keeps (d.launch c x sq colour) := by
  unfold Dev.launch
  generalize THdr.mk _ _ _ _ _ _ _ _ _ _ _ _ _ _ = h
  exact (((((d.incSeq_keeps _ _ (kept_far _ _ rfl)).inc (kept_far _ _ rfl)).when (Dev.modCtx_keeps ..)).when (Dev.keepCopy_keeps ..)).trans
    (Dev.txDone_keeps ..)).each (fun _ _ => Dev.emit_keeps ..) _

@[simp] theorem Dev.ctxBreak_keeps (c : Nat) (d : Dev) : d.Keeps (d.ctxBreak c) := by
  simp (disch := first | with_unfolding_all exact id (kept_of_ble rfl) | with_unfolding_all exact id (kept_far _ _ rfl)) [Dev.Keeps, Dev.ctxBreak]

@[simp] theorem Dev.ctxSeen_keeps (c : Nat) (d : Dev) : d.Keeps (d.ctxSeen c) := by
  unfold Dev.ctxSeen
  split
  · exact .refl d
  · cases h : Dev.hitFlaw 4 0 (8 * c) 8 d with
    | none => exact .refl d
    | some e => exact (Dev.hitFlaw_keeps _ _ _ _ d e h).trans (Dev.ctxBreak_keeps ..)

@[simp] theorem Dev.enter_keeps (d : Dev) (x : LocalPkt) : d.Keeps (d.enter x).2 := by
  unfold Dev.enter
  extract_lets c n rel d1
  have h1 : d.Keeps d1 := Dev.ctxSeen_keeps ..
  have hc := h1.trans (d1.colourAt_keeps c x (16 + x.payload.length + 8))
  clear_value n d1
  split
  · exact h1
  split
  · exact ((h1.inc (kept_of_ble rfl)).raise (kept_of_ble rfl)).trans (Dev.txDone_keeps ..)
  split
  · exact h1.trans (Dev.txDone_keeps ..)
  split
  · exact h1
  split
  · split
    · exact h1.inc (kept_of_ble rfl)
    · exact h1
  split
  · exact h1
  split
  · exact h1.trans (Dev.rsFull_keeps ..)
  split
  · exact (h1.trans (Dev.noAllot_keeps _)).trans (Dev.txDone_keeps ..)
  · split
    · next heq => rw [heq] at hc; exact hc.trans (Dev.launch_keeps ..)
    · next heq =>
      rw [heq] at hc
      split
      · exact hc
      · exact hc.trans (Dev.txDone_keeps ..)

@[simp] theorem Dev.offer_keeps (d : Dev) (x : LocalPkt) : d.Keeps (d.offer x) := by
  unfold Dev.offer
  have he := d.enter_keeps x
  split
  · exact ⟨rfl, rfl⟩
  · split <;> next heq => rw [heq] at he; exact he

@[simp] theorem Dev.sendPkt_keeps (t a v : Nat) (d : Dev) : d.Keeps (d.sendPkt t a v) := by
  simp [Dev.Keeps, Dev.sendPkt]

@[simp] theorem Dev.sendGo_keeps (d : Dev) (t : Nat) : d.Keeps (d.sendGo t) := by
  unfold Dev.sendGo
  split <;> simp [Dev.Keeps]

@[simp] theorem Dev.retryWaits_keeps (d : Dev) : d.Keeps d.retryWaits := by
  unfold Dev.retryWaits
  refine .each (.each (e := { d with waits := [] }) ⟨rfl, rfl⟩ (fun x d => ?_) _) (fun _ _ => Dev.sendGo_keeps ..) _
  have he := d.enter_keeps x
  split
  · exact ⟨rfl, rfl⟩
  · split <;> next heq => rw [heq] at he; exact he

@[simp] theorem Dev.ackRx_keeps (c una : Nat) (sack : Option Nat) (d : Dev) : d.Keeps (d.ackRx c una sack) := by
  simp (disch := first | with_unfolding_all exact id (kept_of_ble rfl) | with_unfolding_all exact id (kept_far _ _ rfl) | assumption)
      [Dev.Keeps, Dev.ackRx]

@[simp] theorem Dev.planOut_keeps (d : Dev) (p sq : Nat) (h : THdr) (dataW : Bool) : d.Keeps (d.planOut p sq h dataW).2 := by
  unfold Dev.planOut
  split <;> simp [Dev.Keeps]

@[simp] theorem Dev.planEntry_keeps (d : Dev) (i sq : Nat) (h : THdr) (dataW : Bool) : d.Keeps (d.planEntry i sq h dataW).2 := by
  simp (disch := first | with_unfolding_all exact id (kept_of_ble rfl) | assumption) [Dev.Keeps, Dev.planEntry]

@[simp] theorem Dev.planGroup_keeps (d : Dev) (p sq : Nat) (h : THdr) : d.Keeps (d.planGroup p sq h).2 := by
  simp (disch := first | with_unfolding_all exact id (kept_of_ble rfl) | assumption) [Dev.Keeps, Dev.planGroup]

@[simp] theorem Dev.planOwn_keeps (d : Dev) (p sq : Nat) (h : THdr) (dataW : Bool) : d.Keeps (d.planOwn p sq h dataW).2 := by
  simp only [Dev.planOwn]
  repeat' split
  all_goals simp (disch := with_unfolding_all exact id (kept_of_ble rfl)) [Dev.Keeps]

@[simp] theorem Dev.plan_keeps (d : Dev) (p sq : Nat) (h : THdr) (dataW : Bool) : d.Keeps (d.plan p sq h dataW).2 := by
  simp only [Dev.plan]
  repeat' split
  all_goals simp (disch := with_unfolding_all exact id (kept_of_ble rfl)) [Dev.Keeps]

@[simp] theorem Dev.tmtSeen_keeps (h : THdr) (d : Dev) : d.Keeps (d.tmtSeen h) := by
  unfold Dev.tmtSeen
  split
  · exact .refl d
  · exact forAll_keeps (fun _ d => (d.memUe_keeps ..).inc (kept_of_ble rfl)) _ d

@[simp] theorem Dev.copyIn_keeps (d : Dev) (p : Nat) (hd : BlkHdr) (h : THdr) (l : List Byte) (q sq : Nat) (dataW lead poison : Bool)
    (term : Option Nat) :
    d.Keeps (d.copyIn p hd h l q sq dataW lead poison term).2 := by
  simp [Dev.Keeps, Dev.copyIn]

@[simp] theorem Dev.copiesIn_keeps (d : Dev) (p : Nat) (hd : BlkHdr) (h : THdr) (l : List Byte) (poison : Bool) (pl : Plan) :
    d.Keeps (d.copiesIn p hd h l poison pl).2 := by
  unfold Dev.copiesIn
  exact foldl_keeps (α := List Nat) (fun x _ => x.2.copyIn_keeps ..) _ ([], d)

@[simp] theorem Dev.poisonSet_keeps (d : Dev) (already bad : Bool) : d.Keeps (d.poisonSet already bad) := by
  simp (disch := with_unfolding_all exact id (kept_of_ble rfl)) [Dev.Keeps, Dev.poisonSet]

@[simp] theorem Dev.setOpen_keeps (d : Dev) (key : Nat) (v : Option (List Nat)) : d.Keeps (d.setOpen key v) := ⟨rfl, rfl⟩

@[simp] theorem Dev.firstBlock_keeps (p : Nat) (hd : BlkHdr) (l : List Byte) (d : Dev) : d.Keeps (d.firstBlock p hd l) := by
  unfold Dev.firstBlock
  extract_lets h key k0 bad
  split
  next pl e heq =>
  have he : d.Keeps e := by
    split at heq
    · cases heq
      exact d.inc_keeps _ (kept_link _ rfl rfl rfl)
    · split at heq
      · cases heq
        exact d.inc_keeps _ (kept_of_ble rfl)
      · simpa only [heq] using (d.tmtSeen_keeps h).trans (Dev.plan_keeps (d.tmtSeen h) p hd.sq h (hd.ty == 1))
  extract_lets e1
  have h1 : d.Keeps e1 := he.unless (Dev.poisonSet_keeps ..)
  split
  next is e2 heq2 =>
  have h2 : d.Keeps e2 := by simpa only [heq2] using h1.trans (e1.copiesIn_keeps p hd h l (hd.last && (hd.poison || bad)) pl)
  extract_lets e3
  have h3 : d.Keeps e3 := h2.when (Dev.returnCredit_keeps ..)
  split <;> exact h3.trans (Dev.setOpen_keeps ..)

@[simp] theorem Dev.blockFor_keeps (hd : BlkHdr) (l : List Byte) (poison : Bool) (i : Nat) (d : Dev) :
    d.Keeps (d.blockFor hd l poison i) := by
  simp only [Dev.blockFor]
  repeat' split
  all_goals simp (disch := first | with_unfolding_all exact id (kept_of_ble rfl) | with_unfolding_all exact id (kept_link _ rfl rfl rfl) | assumption)
      [Dev.Keeps]

@[simp] theorem Dev.laterBlock_keeps (p : Nat) (hd : BlkHdr) (l : List Byte) (d : Dev) : d.Keeps (d.laterBlock p hd l) := by
  simp [Dev.Keeps, Dev.laterBlock]

@[simp] theorem Dev.terminate_keeps (d : Dev) (c : Nat) (k : Pkt) : d.Keeps (d.terminate c k).2 := by
  unfold Dev.terminate
  extract_lets h payload bad d1 sack d2 lat
  have h1 : d.Keeps d1 := Dev.ctxSeen_keeps ..
  have h2 : d.Keeps d2 := h1.when (Dev.ackRx_keeps ..)
  split
  · exact (h1.inc (kept_of_ble rfl)).raise (kept_of_ble rfl)
  split
  · exact (h1.trans (Dev.poisonSet_keeps ..)).inc (kept_far _ _ rfl)
  split
  · exact h2.trans (Dev.receiveData_keeps ..)
  split
  · split
    · next e he => exact (h2.trans (d2.handOver_keeps _ _ _ _ e he)).set _ (kept_far _ _ rfl)
    · exact h2.inc (kept_far _ _ rfl)
  · exact h2

@[simp] theorem Dev.toAgent_keeps (d : Dev) (k : Pkt) : d.Keeps (d.toAgent k) := by
  simp only [Dev.toAgent]
  split
  · exact Dev.poisonSet_keeps ..
  · cases h : d.pqTake (d.get (CTX_W1_LQ 0)) (deliveryDesc 0 k.hdr ((d.stamp + 2 ^ 32 - beNat (k.tail.drop 4)) % 2 ^ 32))
      ((k.data.drop 16).take k.hdr.len) with
    | none => exact .refl d
    | some e => exact d.pqTake_keeps _ _ _ e h

@[simp] theorem Dev.readCells_keeps (l : List Cell) (x : Ecc) (d : Dev) : d.Keeps (d.readCells l x).2 := by
  induction l generalizing x d with
  | nil => exact .refl d
  | cons c t ih => exact (Dev.readCell_keeps ..).trans (ih _ _)

@[simp] theorem Dev.readOut_keeps (d : Dev) (k : Pkt) (ecc : Ecc) : d.Keeps (d.readOut k ecc).2 := by
  simp [Dev.Keeps, Dev.readOut]

@[simp] theorem Dev.countSent_keeps (d : Dev) (cut : Bool) : d.Keeps (d.countSent cut) := by
  unfold Dev.countSent
  split <;> simp (disch := with_unfolding_all exact id (kept_of_ble rfl)) [Dev.Keeps]

@[simp] theorem Dev.leaveEngine_keeps (d : Dev) (i : Nat) (k : Pkt) (ecc : Ecc) : d.Keeps (d.leaveEngine i k ecc) := by
  simp only [Dev.leaveEngine]
  repeat' split
  all_goals simp [Dev.Keeps]

@[simp] theorem Dev.engineStep_keeps (e : Nat) (x : Ecc × Dev) : Dev.Keeps x.2 (Dev.engineStep e x).2 := by
  simp only [Dev.engineStep]
  repeat' split
  all_goals simp [Dev.Keeps]

@[simp] theorem Dev.drainLocal_keeps (d : Dev) (ecc : Ecc) : d.Keeps (d.drainLocal ecc) := by
  unfold Dev.drainLocal
  exact foldl_keeps (fun x e => foldl_keeps (fun x _ => Dev.engineStep_keeps e x) _ x) _ (ecc, d)

@[simp] theorem Dev.setDso_keeps (d : Dev) (n st : Nat) : d.Keeps (d.setDso n st) := by
  simp (disch := with_unfolding_all exact id (kept_far _ _ rfl)) [Dev.Keeps, Dev.setDso]

@[simp] theorem Dev.stopVideo_keeps (n st : Nat) (d : Dev) : d.Keeps (d.stopVideo n st) := by
  simp (disch := first | with_unfolding_all exact id (kept_of_ble rfl) | with_unfolding_all exact id (kept_far _ _ rfl) | assumption)
      [Dev.Keeps, Dev.stopVideo]

@[simp] theorem Dev.hpdSync_keeps (n : Nat) (d : Dev) : d.Keeps (d.hpdSync n) := by
  simp (disch := with_unfolding_all exact id (kept_far _ _ rfl)) [Dev.Keeps, Dev.hpdSync]

@[simp] theorem Dev.passHpd_keeps (n : Nat) (d : Dev) : d.Keeps (d.passHpd n) := by
  simp [Dev.Keeps, Dev.passHpd]

@[simp] theorem Dev.lineSync_keeps (d : Dev) : d.Keeps d.lineSync := by
  simp (disch := with_unfolding_all exact id (kept_of_ble rfl)) [Dev.Keeps, Dev.lineSync]

@[simp] theorem Dev.slotGo_keeps (n st : Nat) (d : Dev) : d.Keeps (d.slotGo n st) := by
  simp (disch := with_unfolding_all exact id (kept_far _ _ rfl)) [Dev.Keeps, Dev.slotGo]

@[simp] theorem Dev.slotEmpty_keeps (n : Nat) (d : Dev) : d.Keeps (d.slotEmpty n) := by
  simp (disch := with_unfolding_all exact id (kept_far _ _ rfl)) [Dev.Keeps, Dev.slotEmpty]

@[simp] theorem Dev.keyRefuse_keeps (tag st : Nat) (d : Dev) : d.Keeps (d.keyRefuse tag st) := by
  simp (disch := with_unfolding_all exact id (kept_of_ble rfl)) [Dev.Keeps, Dev.keyRefuse]

@[simp] theorem Dev.headersKept_keeps (d : Dev) : d.Keeps d.headersKept := by
  simp [Dev.Keeps, Dev.headersKept]

@[simp] theorem Dev.lanesIdle_keeps (p : Nat) (d : Dev) : d.Keeps (d.lanesIdle p) := ⟨rfl, rfl⟩
@[simp] theorem Dev.phyStart_keeps (p : Nat) (eq : Option (Nat → Nat)) (d : Dev) : d.Keeps (d.phyStart p eq) := ⟨rfl, rfl⟩

@[simp] theorem Dev.closeCopy_keeps (p i : Nat) (d : Dev) : d.Keeps (d.closeCopy p i) := by
  unfold Dev.closeCopy
  split <;> simp (disch := with_unfolding_all exact id (kept_link _ rfl rfl rfl)) [Dev.Keeps]

@[simp] theorem Dev.takeWhole_keeps (p : Nat) (d : Dev) : d.Keeps (d.takeWhole p) := by
  simp [Dev.Keeps, Dev.takeWhole]

@[simp] theorem Dev.closePacket_keeps (p : Nat) (is : List Nat) (d : Dev) : d.Keeps (d.closePacket p is) := by
  simp [Dev.Keeps, Dev.closePacket]

@[simp] theorem Dev.closeOpen_keeps (p : Nat) (d : Dev) : d.Keeps (d.closeOpen p) := by
  unfold Dev.closeOpen
  exact ((((d.incBy_keeps _ _ (kept_link _ rfl rfl rfl)).trans (Dev.modLnk_keeps ..)).each (fun _ _ => Dev.closePacket_keeps ..) _).trans
      (Dev.modSw_keeps ..))

@[simp] theorem Dev.mreqEnd_keeps (d : Dev) (p result : Nat) : d.Keeps (d.mreqEnd p result) := by
  simp (disch := first | with_unfolding_all exact id (kept_of_ble rfl) | with_unfolding_all exact id (kept_link _ rfl rfl rfl))
      [Dev.Keeps, Dev.mreqEnd]

@[simp] theorem Dev.linkFail_keeps (p cause : Nat) (d : Dev) : d.Keeps (d.linkFail p cause) := by
  unfold Dev.linkFail
  extract_lets st d1 d2 d3 asked d4 d5 d6 d7 d8
  split
  · have h3 : d.Keeps d3 := (((((d.takeWhole_keeps p).set _ (kept_link _ rfl rfl rfl)).trans
        (Dev.setLink_keeps ..)).set _ (kept_link _ rfl rfl rfl)).inc (kept_link _ rfl rfl rfl)).set _
        (kept_link _ rfl rfl rfl) |>.raise (kept_link _ rfl rfl rfl)
    have h6 : d.Keeps d6 := ((((((h3.trans (Dev.modLnk_keeps ..)).set _ (kept_link _ rfl rfl rfl)).trans (Dev.lanesIdle_keeps ..)).trans
        (Dev.closeOpen_keeps ..)).trans
      (Dev.dropClaim_keeps ..)).trans (Dev.cutSent_keeps ..)).trans (Dev.rerouteAll_keeps ..)
    exact (((h6.when (Dev.wrapOn_keeps ..)).when (Dev.mreqEnd_keeps ..)).trans (Dev.accordLinkLost_keeps ..)).trans (Dev.segReport_keeps ..)
  · exact .refl d

@[simp] theorem Dev.modSeg_keeps (d : Dev) (p : Nat) (f : SegAuth → SegAuth) : d.Keeps (d.modSeg p f) := ⟨rfl, rfl⟩

@[simp] theorem Dev.keyFail_keeps (p : Nat) (d : Dev) : d.Keeps (d.keyFail p) := by
  simp (disch := first | with_unfolding_all exact id (kept_of_ble rfl) | with_unfolding_all exact id (kept_far _ _ rfl)) [Dev.Keeps, Dev.keyFail]

@[simp] theorem Dev.modPc_keeps (d : Dev) (n : Nat) (f : PdcPort → PdcPort) : d.Keeps (d.modPc n f) := ⟨rfl, rfl⟩

@[simp] theorem Dev.pdSend_keeps (n : Nat) (m : PdMsg) (d : Dev) : d.Keeps (d.pdSend n m) := by
  simp (disch := with_unfolding_all exact id (kept_far _ _ rfl)) [Dev.Keeps, Dev.pdSend]

@[simp] theorem Dev.bypSync_keeps (d : Dev) : d.Keeps d.bypSync := by
  simp (disch := with_unfolding_all exact id (kept_of_ble rfl)) [Dev.Keeps, Dev.bypSync]

@[simp] theorem Dev.cutFrame_keeps (n : Nat) (d : Dev) : d.Keeps (d.cutFrame n) := by
  simp only [Dev.cutFrame]
  repeat' split
  all_goals simp (disch := with_unfolding_all exact id (kept_far _ _ rfl)) [Dev.Keeps]

@[simp] theorem ethLinkDown_keeps (n : Nat) (cut : Bool) (d : Dev) : d.Keeps (ethLinkDown n cut d) := by
  simp (disch := with_unfolding_all exact id (kept_far _ _ rfl)) [Dev.Keeps, ethLinkDown]

@[simp] theorem Dev.setKeyQueue_keeps (l : List KeyOp) (d : Dev) : d.Keeps (d.setKeyQueue l) := by
  simp (disch := with_unfolding_all exact id (kept_of_ble rfl)) [Dev.Keeps, Dev.setKeyQueue]

@[simp] theorem Dev.keyQuiesce_keeps (d : Dev) : d.Keeps d.keyQuiesce := by
  simp [Dev.Keeps, Dev.keyQuiesce]

@[simp] theorem Dev.segmentsFail_keeps (d : Dev) : d.Keeps d.segmentsFail := by
  simp [Dev.Keeps, Dev.segmentsFail]

@[simp] theorem Dev.reply_keeps (c : Nat) (l : List Byte) (d : Dev) : d.Keeps (d.reply c l) := by
  simp [Dev.Keeps, Dev.reply]

@[simp] theorem Dev.complete_keeps (b : Nat) (r : StoReq) (status nvstat : Nat) (data : List Byte) (d : Dev) :
    d.Keeps (d.complete b r status nvstat data) := by
  simp (disch := with_unfolding_all exact id (kept_far _ _ rfl)) [Dev.Keeps, Dev.complete]

@[simp] theorem Dev.driveLost_keeps (n : Nat) (d : Dev) : d.Keeps (d.driveLost n) := by
  simp [Dev.Keeps, Dev.driveLost]

@[simp] theorem driveDisable_keeps (n : Nat) (d : Dev) : d.Keeps (driveDisable n d) := by
  simp (disch := with_unfolding_all exact id (kept_far _ _ rfl)) [Dev.Keeps, driveDisable]

@[simp] theorem Dev.busState_keeps (x : Nat) (d : Dev) : d.Keeps (d.busState x) := by
  simp [Dev.Keeps, Dev.busState]

@[simp] theorem Dev.wakeNotice_keeps (d : Dev) : d.Keeps d.wakeNotice := by
  simp [Dev.Keeps, Dev.wakeNotice]

@[simp] theorem Dev.abandon_keeps (cause : Nat) (d : Dev) : d.Keeps (d.abandon cause) := by
  unfold Dev.abandon
  extract_lets d1 d2 d3
  have h := (Dev.Keeps.refl d).each (fun n d => Dev.abortSlot_keeps d n 9) d.heldSlots
  split
  · exact (((((h.each (fun _ d => d.set_keeps _ _ (kept_far _ _ rfl)) _).set _ (kept_of_ble rfl)).set _ (kept_of_ble rfl)).trans
        (Dev.modUsb_keeps ..)).raise (kept_of_ble rfl)).trans
      (Dev.event_keeps ..)
  · exact h

@[simp] theorem Dev.configure_keeps (v : Bool) (d : Dev) : d.Keeps (d.configure v) := by
  unfold Dev.configure
  extract_lets was d1 d2 d3 d4
  have h2 : d.Keeps d2 := ((d.setB_keeps _ _ (kept_of_ble rfl)).trans (Dev.modUsb_keeps ..)).set _ (kept_of_ble rfl)
  have h3 : d.Keeps d3 := h2.unless (forAll_keeps (fun _ _ => Dev.dropGateway_keeps ..) ..)
  have h4 : d.Keeps d4 := h3.unless (Dev.raise_keeps _ _ (kept_of_ble rfl))
  split
  · exact (h4.trans (Dev.busState_keeps ..)).trans (Dev.wakeNotice_keeps _)
  · exact h4

@[simp] theorem Dev.busClear_keeps (cause : Nat) (d : Dev) : d.Keeps (d.busClear cause) := by
  unfold Dev.busClear
  exact (((((((((d.abandon_keeps cause).trans (Dev.configure_keeps ..)).set _ (kept_of_ble rfl)).set _ (kept_of_ble rfl)).set _
      (kept_of_ble rfl)).set _ (kept_of_ble rfl)).set _ (kept_of_ble rfl)).each
    (fun _ d => (d.set_keeps _ _ (kept_far _ _ rfl)).set _ (kept_far _ _ rfl)) _).trans (Dev.modUsb_keeps ..))

@[simp] theorem usbDisconnect_keeps (vbus : Bool) (d : Dev) : d.Keeps (usbDisconnect vbus d) := by
  simp (disch := with_unfolding_all exact id (kept_of_ble rfl)) [Dev.Keeps, usbDisconnect]

@[simp] theorem Dev.keyLost_keeps (ret : Bool) (d : Dev) : d.Keeps (d.keyLost ret) := by
  simp [Dev.Keeps, Dev.keyLost]

@[simp] theorem Dev.partsReset_keeps (dom : Nat) (ret : Bool) (d : Dev) : d.Keeps (d.partsReset dom ret) := by
  unfold Dev.partsReset
  split <;> simp [Dev.Keeps]

@[simp] theorem Dev.otpSense_keeps (d : Dev) : d.Keeps d.otpSense := by
  simp (disch := with_unfolding_all exact id (kept_of_ble rfl)) [Dev.Keeps, Dev.otpSense]

@[simp] theorem Dev.remark_keeps (old : Dev) (cores banks : Bool) (d : Dev) : d.Keeps (Dev.remark old cores banks d) := by
  simp [Dev.Keeps, Dev.remark]

@[simp] theorem Dev.abortOpen_keeps (n : Nat) (d : Dev) : d.Keeps (d.abortOpen n) := by
  simp [Dev.Keeps, Dev.abortOpen]

@[simp] theorem Dev.testsEnd_keeps (n : Nat) (d : Dev) : d.Keeps (d.testsEnd n) := by
  simp only [Dev.testsEnd]
  repeat' split
  all_goals simp [Dev.Keeps]

end Sys2Proof.Machine
end


section
/-! PROOFS. What the lanes' sequencers, a quiesce, a start and a reset of a domain leave: the power controller as it was. -/

namespace Sys2Proof.Machine

theorem Tab.find_filter {α : Type} {p : Nat → Bool} {k : Nat} (h : p k = true) (t : Tab α) :
    Tab.find k (t.filter (fun x => p x.1)) = Tab.find k t := by
  induction t with
  | nil => rfl
  | cons x t ih =>
    obtain ⟨j, v⟩ := x
    by_cases hj : j = k
    · subst hj; simp [Tab.find, h]
    · cases hp : p j <;> simp [Tab.find, hp, hj, ih]

theorem Tab.find_filter_none {α : Type} {p : Nat → Bool} {k : Nat} (h : p k = false) (t : Tab α) :
    Tab.find k (t.filter (fun x => p x.1)) = none := by
  induction t with
  | nil => rfl
  | cons x t ih =>
    obtain ⟨j, v⟩ := x
    cases hp : p j
    · simp [hp, ih]
    · have hj : j ≠ k := fun hj => by simp [hj, h] at hp
      simp [Tab.find, hp, hj, ih]

/-- The power controller's own state and registers are the same. -/
def Dev.SamePwr (d e : Dev) : Prop := e.power = d.power ∧ ∀ f : Fld, inPwr f.key = true → e.get f = d.get f

section
variable {d e e' : Dev}

theorem Dev.Keeps.get (h : d.Keeps e) {f : Fld} (hf : kept f.key = true) : e.get f = d.get f := by
  have hfind : Tab.find f.key e.flds = Tab.find f.key d.flds :=
    (Tab.find_filter hf e.flds).symm.trans ((congrArg (Tab.find f.key) h.2).trans (Tab.find_filter hf d.flds))
  simp only [Dev.get, Tab.get, hfind]

theorem Dev.Keeps.pwr (h : d.Keeps e) : d.SamePwr e := ⟨h.1, fun _ hf => h.get (by simp [kept, hf])⟩

theorem Dev.SamePwr.refl (d : Dev) : d.SamePwr d := ⟨rfl, fun _ _ => rfl⟩
theorem Dev.SamePwr.trans (h : d.SamePwr e) (k : e.SamePwr e') : d.SamePwr e' :=
  ⟨k.1.trans h.1, fun f hf => (k.2 f hf).trans (h.2 f hf)⟩

theorem Dev.set_samePwr (d : Dev) (f : Fld) (v : Nat) (hf : inPwr f.key = false) : d.SamePwr (d.set f v) :=
  ⟨rfl, fun g hg => d.get_set_ne v (fun h => by rw [h, hf] at hg; cases hg)⟩

theorem Dev.SamePwr.set (h : d.SamePwr e) {f : Fld} (v : Nat) (hf : inPwr f.key = false) : d.SamePwr (e.set f v) :=
  h.trans (e.set_samePwr f v hf)

theorem Dev.SamePwr.when (h : d.SamePwr e) {c : Prop} [Decidable c] (k : e.SamePwr e') : d.SamePwr (if c then e' else e) := by
  split
  · exact h.trans k
  · exact h

end

theorem forAll_samePwr {α : Type} {f : α → Dev → Dev} (h : ∀ x d, Dev.SamePwr d (f x d)) (l : List α) (d : Dev) :
    d.SamePwr (forAll l f d) := by
  induction l generalizing d with
  | nil => exact .refl d
  | cons x l ih => exact (h x d).trans (ih (f x d))

/-! ### The lanes -/

/-- A register of the sequencers, of a trunk port or of a TCL. -/
theorem inPwr_lanes {b : Nat} (x y : Nat) (h : Nat.ble 0x10108000 b = true) : inPwr (8 * (b + x) + y) = false := by
  have := Nat.le_of_ble_eq_true h
  simp only [inPwr, decide_eq_false_iff_not]
  omega

theorem inPwr_lane {b : Nat} (x y z : Nat) (h : Nat.ble 0x10108000 b = true) : inPwr (8 * (b + x + y) + z) = false := by
  rw [Nat.add_assoc b]
  exact inPwr_lanes _ _ h

variable (d : Dev)

theorem Dev.setSeqState_samePwr (p st : Nat) : d.SamePwr (d.setSeqState p st) := by
  have h : d.SamePwr (d.set (if p < 2 then TRK_STAT_STATE p else TCL_STAT_STATE (p - 2)) st) :=
    d.set_samePwr _ _ (by split <;> exact inPwr_lanes _ _ rfl)
  exact h.when (Dev.pdSend_keeps ..).pwr

theorem Dev.putLmap_samePwr (p : Nat) : d.SamePwr (d.putLmap p) :=
  (Dev.SamePwr.refl d).when (d.set_samePwr _ _ (inPwr_lanes _ _ rfl))

theorem Dev.putAligned_samePwr (p n : Nat) (b : Bool) : d.SamePwr (d.putAligned p n b) :=
  (d.set_samePwr (TRK_LnSTAT_ALIGNED p n) _ (inPwr_lane _ _ _ rfl)).set _ (by split <;> exact inPwr_lanes _ _ rfl)

theorem Dev.retarget_samePwr (p st target : Nat) : d.SamePwr (d.retarget p st target) := by
  refine .trans ?_ (Dev.putLmap_samePwr _ p)
  refine .trans ?_ (Dev.setSeqState_samePwr _ p st)
  exact (forAll_samePwr (fun n d => d.putAligned_samePwr p n false) _ d).trans ((Dev.phyStart_keeps ..).trans (Dev.modSeq_keeps ..)).pwr

theorem Dev.tclStart_samePwr (p : Nat) : d.SamePwr (d.tclStart p) := by
  unfold Dev.tclStart
  extract_lets d1 x d2 d3
  have h2 : d.SamePwr d2 := d.set_samePwr (TCL_CTL_RESTEP (p - 2)) 0 (inPwr_lanes _ _ rfl)
  have h3 : d.SamePwr d3 := h2.trans (forAll_samePwr (fun n e =>
    ((((e.set_samePwr (TRK_LnBERR_COUNT p n) 0 (inPwr_lane _ _ _ rfl)).set 0 (inPwr_lane _ _ _ rfl)).set 0 (inPwr_lane _ _ _ rfl)).set 0
      (inPwr_lane _ _ _ rfl)).set 0 (inPwr_lane _ _ _ rfl)) _ d2)
  exact h3.trans (Dev.retarget_samePwr ..)

theorem Dev.seqOff_samePwr (p : Nat) : d.SamePwr (d.seqOff p) := by
  unfold Dev.seqOff
  extract_lets d1 d2
  have h1 : d.SamePwr d1 := (Dev.SamePwr.refl d).when (d.linkFail_keeps p 3).pwr
  have h2 : d.SamePwr d2 := h1.trans (forAll_samePwr (fun n d => d.putAligned_samePwr p n false) _ d1)
  exact (h2.trans ((Dev.modSeq_keeps ..).trans (Dev.lanesIdle_keeps ..)).pwr).trans (Dev.setSeqState_samePwr _ p 0)

theorem seqDisable_samePwr (p : Nat) : d.SamePwr (seqDisable p d) :=
  (d.set_samePwr (TRK_CTL_EN p) 0 (inPwr_lanes _ _ rfl)).trans (Dev.seqOff_samePwr _ p)

theorem Dev.startLanes_samePwr (n : Nat) : d.SamePwr (d.startLanes n) := by
  unfold Dev.startLanes
  extract_lets d1 d2
  have h1 : d.SamePwr d1 := (d.modPc_keeps n (fun x => { x with lanes := true })).pwr
  have h2 : d.SamePwr d2 := h1.set (f := TCL_CFG_ALLOW n) _ (inPwr_lanes _ _ rfl)
  split
  · split
    · exact h2
    · exact h2.trans (Dev.tclStart_samePwr ..)
  · exact h1

theorem Dev.lanesOn_samePwr (dom : Nat) : d.SamePwr (d.lanesOn dom) :=
  (forAll_keeps (fun n e => Dev.passHpd_keeps n e) _ d).pwr.trans (forAll_samePwr (fun n e => e.startLanes_samePwr n) _ _)

end Sys2Proof.Machine
end

section
/-! PROOFS. What a quiesce, a start and a reset of a domain leave: the power controller as it was. -/

namespace Sys2Proof.Machine
variable (d : Dev)

theorem Dev.quiesce_samePwr (n : Nat) (ret : Bool) : d.SamePwr (d.quiesce n ret) := by
  have h := (d.testsEnd_keeps n).pwr
  unfold Dev.quiesce
  extract_lets d0
  split
  · exact h.trans (((forAll_keeps (fun t e => Dev.stopThread_keeps e t) _ d0).withAon _).trans (Dev.bypSync_keeps _)).pwr
  · exact h.when (d0.set_keeps DDR_STAT_SELFREF 1 (kept_of_ble rfl)).pwr
  · exact h.trans ((forAll_keeps (fun k e => Dev.abortSlot_keeps e k 9) _ d0).withSw _).pwr
  · exact h.trans ((d0.segmentsFail_keeps).trans (Dev.keyQuiesce_keeps _)).pwr
  · exact h.trans (seqDisable_samePwr ..)
  · exact h.trans (seqDisable_samePwr ..)
  · exact h.trans (forAll_samePwr (fun p e => e.seqOff_samePwr p) _ d0)
  · exact h.trans (forAll_samePwr (fun p e => e.seqOff_samePwr p) _ d0)
  · exact h.trans (forAll_keeps (fun k e => ethLinkDown_keeps k false e) _ d0).pwr
  · exact h.trans (forAll_keeps (fun k e => Dev.stopVideo_keeps k 0 e) _ d0).pwr
  · exact h.trans (forAll_keeps (fun k e => driveDisable_keeps k e) _ d0).pwr
  · exact h.trans (usbDisconnect_keeps ..).pwr
  · exact h

theorem Dev.domStarts_samePwr (n : Nat) (ret : Bool) : d.SamePwr (d.domStarts n ret) := by
  unfold Dev.domStarts
  split
  · exact ((((Dev.Keeps.refl d).withAon _).trans (Dev.bypSync_keeps _)).trans (Dev.deliverAon_keeps _)).pwr
  · exact (Dev.SamePwr.refl d).when (((d.set_keeps (TMB_TBn_STAT_OWNED 0) 1 (kept_of_ble rfl)).trans (Dev.setF_keeps ..)).trans
        (Dev.srvGo_keeps ..)).pwr
  · split
    · exact .refl d
    · exact d.set_samePwr _ _ rfl
  · exact d.lanesOn_samePwr 7
  · exact d.lanesOn_samePwr 8
  · exact .refl d

/-! ### A domain's registers reset -/

theorem fieldDomain_of_inPwr {k : Nat} (h : inPwr k = true) : fieldDomain k = 0 := by
  simp only [inPwr, decide_eq_true_eq] at h
  have hk : (k / 8 - 0x10000000) / 0x100000 = 1 := by omega
  have ho : k / 8 % 0x100000 < 0x8000 := by omega
  have ha : k / 8 < 2 ^ 40 := by omega
  rw [fieldDomain, if_pos ha]
  simp [powerDomain, hk, ho]

/-- A reset domain's register is at its reset value, unless RET keeps it; another domain's is as it was. -/
theorem Dev.regsReset_get (dom : Nat) (ret : Bool) (f : Fld) :
    (d.regsReset dom ret).get f = if fieldDomain f.key != dom || (ret && keptInRet f.key) then d.get f else f.rst % 2 ^ f.w := by
  unfold Dev.regsReset Dev.get Tab.get
  dsimp only
  cases h : fieldDomain f.key != dom || (ret && keptInRet f.key)
  · rw [Tab.find_filter_none (p := fun k => fieldDomain k != dom || (ret && keptInRet k)) h]
    rfl
  · rw [Tab.find_filter (p := fun k => fieldDomain k != dom || (ret && keptInRet k)) h]
    rfl

theorem Dev.regsReset_samePwr {dom : Nat} (hdom : dom ≠ 0) (ret : Bool) : d.SamePwr (d.regsReset dom ret) :=
  ⟨rfl, fun f hf => by rw [Dev.regsReset_get, fieldDomain_of_inPwr hf]; simp [hdom.symm]⟩

/-- All of a domain's reset but its registers. -/
theorem Dev.domReset_keeps (dom : Nat) (ret : Bool) : (d.regsReset dom ret).Keeps (d.domReset dom ret) :=
  (((((d.regsReset dom ret).partsReset_keeps dom ret).trans (Dev.remark_keeps ..)).trans (Dev.otpSense_keeps _)).trans
    (Dev.lineSync_keeps _)).trans (Dev.bypSync_keeps _)

theorem Dev.domReset_samePwr {dom : Nat} (hdom : dom ≠ 0) (ret : Bool) : d.SamePwr (d.domReset dom ret) :=
  (d.regsReset_samePwr hdom ret).trans (d.domReset_keeps dom ret).pwr

theorem Dev.domReset_power (dom : Nat) (ret : Bool) : (d.domReset dom ret).power = d.power := (d.domReset_keeps dom ret).1

end Sys2Proof.Machine
end


section
/-! PROOFS. The power controller's own operations: an event flag raised, a refusal, a voltage asked for, the wakes that go on. -/

namespace Sys2Proof.Machine

/-- The registers of a domain's entry, by their bit addresses. -/
theorem PWR_Dd_key (n : Nat) : (PWR_Dd_REQ_TARGET n).key = 8 * 0x10100100 + 64 * n
    ∧ (PWR_Dd_STAT_STATE n).key = 8 * 0x10100104 + 64 * n ∧ (PWR_Dd_STAT_PHASE n).key = 8 * 0x10100104 + 64 * n + 2
    ∧ (PWR_Dd_STAT_HELD n).key = 8 * 0x10100104 + 64 * n + 5 ∧ (PWR_Dd_STAT_NEXT n).key = 8 * 0x10100104 + 64 * n + 8
    ∧ (PWR_Dd_STAT_ERR n).key = 8 * 0x10100104 + 64 * n + 12 := by
  refine ⟨?_, ?_, ?_, ?_, ?_, ?_⟩ <;>
    simp only [PWR_Dd_STAT_STATE, PWR_Dd_STAT_PHASE, PWR_Dd_STAT_HELD, PWR_Dd_STAT_NEXT, PWR_Dd_STAT_ERR, PWR_Dd_REQ_TARGET, PWR_Dd_STAT_A,
      PWR_Dd_REQ_A] <;> omega

theorem inPwr_iff {k : Nat} : inPwr k = true ↔ 8 * 0x10100000 ≤ k ∧ k < 8 * 0x10108000 := decide_eq_true_iff

variable (d : Dev)

/-! ### An event flag raised -/

section
variable (b arg : Nat)

/-- Raising a flag is setting it, as far as the power controller goes. -/
theorem Dev.pwrRaise_samePwr : (d.set ⟨PWR_EVT_DRY_DONE.key + b, 1, 0⟩ 1).SamePwr (d.pwrRaise b arg) := by
  have hn : ∀ (e : Dev) (k : Nat) (r : Option EvRec), e.SamePwr (e.noteSet k r) := fun _ _ _ => ⟨rfl, fun _ _ => rfl⟩
  unfold Dev.pwrRaise Dev.setFlag
  dsimp only
  split
  · exact hn ..
  · split
    · exact (Dev.postAon_keeps ..).pwr.trans (hn ..)
    · exact hn ..

theorem Dev.pwrRaise_core : d.SameCore (d.pwrRaise b arg) := by
  have hset := d.sameCore_set ⟨PWR_EVT_DRY_DONE.key + b, 1, 0⟩ 1
  have hn : ∀ (e : Dev) (k : Nat) (r : Option EvRec), e.SameCore (e.noteSet k r) := fun _ _ _ => by constructor <;> rfl
  have hpost : ∀ (e : Dev) (r : EvRec), e.SameCore (e.postAon r) := fun e r => by
    unfold Dev.postAon
    split
    · exact e.post_core r
    · split <;> constructor <;> rfl
  unfold Dev.pwrRaise Dev.setFlag
  dsimp only
  split
  · exact hset.trans (hn ..)
  · split
    · exact hset.trans ((hpost ..).trans (hn ..))
    · exact hset.trans (hn ..)

theorem Dev.pwrRaise_power : (d.pwrRaise b arg).power = d.power := (d.pwrRaise_core b arg).power

theorem Dev.pwrRaise_get {f : Fld} (hf : inPwr f.key = true) (hne : f.key ≠ PWR_EVT_DRY_DONE.key + b) :
    (d.pwrRaise b arg).get f = d.get f :=
  ((d.pwrRaise_samePwr b arg).2 f hf).trans (d.get_set_ne 1 hne)

theorem Dev.pwrRaise_self (hb : b < 32) : (d.pwrRaise b arg).get ⟨PWR_EVT_DRY_DONE.key + b, 1, 0⟩ = 1 :=
  ((d.pwrRaise_samePwr b arg).2 _ (inPwr_iff.2 (by simp only [PWR_EVT_DRY_DONE, PWR_EVT_A]; omega))).trans (d.get_set_same _ _)

/-- A field of another block reads the same, unless the record's queue is written there. -/
theorem Dev.pwrRaise_get_far {f : Fld} (hf : notEvq f) (hne : f.key ≠ PWR_EVT_DRY_DONE.key + b) : (d.pwrRaise b arg).get f = d.get f := by
  have hset : (d.set ⟨PWR_EVT_DRY_DONE.key + b, 1, 0⟩ 1).get f = d.get f := d.get_set_ne 1 hne
  unfold Dev.pwrRaise Dev.setFlag
  dsimp only
  split
  · exact hset
  · split
    · exact (Dev.postAon_get _ _ hf).trans hset
    · exact hset

end

/-! ### Memory above the queues -/

/-- Every byte that memory lists lies below DRAM. -/
def Dev.noDram (d : Dev) : Prop := d.mem.all (fun c => decide (c.1 < 0x8000000000)) = true

theorem Dev.noDram.of_mem {d e : Dev} (h : d.noDram) (hm : e.mem = d.mem) : e.noDram := by
  rw [Dev.noDram, hm]
  exact h

theorem Dev.noDram.putByte {d : Dev} (h : d.noDram) {a : Nat} (ha : a < 0x8000000000) (v : Byte) : (d.putByte a v).noDram := by
  simp only [Dev.noDram, List.all_eq_true, decide_eq_true_eq] at h ⊢
  intro c hc
  rw [Dev.putByte_mem] at hc
  unfold Tab.set at hc
  split at hc
  · exact h c (Tab.mem_erase hc)
  · rcases Tab.mem_insert hc with rfl | hc
    · exact ha
    · exact h c (Tab.mem_erase hc)

theorem Dev.noDram.putBytes (l : List Byte) : ∀ {d : Dev}, d.noDram → ∀ {a : Nat}, a + l.length ≤ 0x8000000000 →
    (d.putBytes a l).noDram := by
  induction l with
  | nil => exact fun h _ _ => h
  | cons v l ih =>
    intro d h a ha
    rw [List.length_cons] at ha
    exact ih (h.putByte (by omega) v) (by omega)

theorem Dev.noDram.evqWrite {d : Dev} (h : d.noDram) (q : Nat) (r : EvRec) : (d.evqWrite q r).noDram := by
  unfold Dev.evqWrite
  extract_lets wr a d1
  refine Dev.noDram.of_mem (d := d1) ?_ (Dev.set_mem ..)
  unfold d1
  split
  · exact Dev.noDram.putBytes _ h (by rw [natLE_length]; omega)
  · exact h

theorem Dev.noDram.post {d : Dev} (h : d.noDram) (r : EvRec) : (d.post r).noDram := by
  have hq : ∀ q, (d.postQ q r).noDram := fun q => by
    unfold Dev.postQ
    split
    · split
      · exact h.of_mem rfl
      · exact h.evqWrite q r
    · exact h.of_mem rfl
  unfold Dev.post
  split
  · split
    · exact hq _
    · exact h.of_mem rfl
  · exact h

theorem Dev.noDram.postAon {d : Dev} (h : d.noDram) (r : EvRec) : (d.postAon r).noDram := by
  unfold Dev.postAon
  split
  · exact h.post r
  · split <;> exact h.of_mem rfl

theorem Dev.noDram.pwrRaise {d : Dev} (h : d.noDram) (b arg : Nat) : (d.pwrRaise b arg).noDram := by
  have hset : (d.set ⟨PWR_EVT_DRY_DONE.key + b, 1, 0⟩ 1).noDram := h.of_mem (Dev.set_mem ..)
  have hnote : ∀ {e : Dev} (k : Nat) (r : Option EvRec), e.noDram → (e.noteSet k r).noDram := fun _ _ he => he.of_mem rfl
  unfold Dev.pwrRaise Dev.setFlag
  dsimp only
  split
  · exact hnote _ _ hset
  · split
    · exact hnote _ _ (hset.postAon _)
    · exact hnote _ _ hset

end Sys2Proof.Machine
end

section
/-! PROOFS. The wakes of the power controller: what a voltage asked for and the wakes that go on change, and when a domain starts to wake. -/

namespace Sys2Proof.Machine

/-- Whether nothing changes but the voltage requests, BUSY, and PHASE of domains that start to wake. -/
structure Dev.Wakes (d e : Dev) : Prop where
  frame : e = { d with flds := e.flds, power := { d.power with avs := e.power.avs, avsNext := e.power.avsNext } }
  get : ∀ f : Fld, f.key ≠ PWR_AVS_STAT_BUSY.key → (∀ k < 13, f.key ≠ (PWR_Dd_STAT_PHASE k).key) → e.get f = d.get f
  phase : ∀ k < 13, e.phaseOf k = d.phaseOf k ∨ (e.phaseOf k = 7 ∧ d.domState k ≠ 0 ∧ d.phaseOf k = 0)

section
variable {d e e' : Dev}

theorem Dev.Wakes.refl (d : Dev) : d.Wakes d := ⟨rfl, fun _ _ _ => rfl, fun _ _ => .inl rfl⟩

theorem Dev.Wakes.get_state (h : d.Wakes e) (k : Nat) : e.get (PWR_Dd_STAT_STATE k) = d.get (PWR_Dd_STAT_STATE k) :=
  h.get _ (by have := PWR_Dd_key k; simp only [PWR_AVS_STAT_BUSY, PWR_AVS_STAT_A]; omega)
    (fun j _ => by have := PWR_Dd_key k; have := PWR_Dd_key j; omega)

theorem Dev.Wakes.domState (h : d.Wakes e) (k : Nat) : e.domState k = d.domState k := by
  simp only [Dev.domState, h.get_state]

theorem Dev.Wakes.get_next (h : d.Wakes e) (k : Nat) : e.get (PWR_Dd_STAT_NEXT k) = d.get (PWR_Dd_STAT_NEXT k) :=
  h.get _ (by have := PWR_Dd_key k; simp only [PWR_AVS_STAT_BUSY, PWR_AVS_STAT_A]; omega)
    (fun j _ => by have := PWR_Dd_key k; have := PWR_Dd_key j; omega)

/-- A field that lies outside the domains' entries. -/
theorem Dev.Wakes.get_of_far (h : d.Wakes e) {f : Fld} (hb : f.key ≠ PWR_AVS_STAT_BUSY.key)
    (hf : f.key < 8 * 0x10100104 ∨ 8 * 0x10108000 ≤ f.key) : e.get f = d.get f :=
  h.get f hb (fun k hk => by have := PWR_Dd_key k; omega)

theorem Dev.Wakes.power (h : d.Wakes e) : e.power = { d.power with avs := e.power.avs, avsNext := e.power.avsNext } :=
  congrArg Dev.power h.frame

theorem Dev.Wakes.waking (h : d.Wakes e) : e.power.waking = d.power.waking := by
  have := congrArg PowerPart.waking h.power
  exact this
theorem Dev.Wakes.aims (h : d.Wakes e) : e.power.aims = d.power.aims := by
  have := congrArg PowerPart.aims h.power
  exact this
theorem Dev.Wakes.latched (h : d.Wakes e) : e.power.latched = d.power.latched := by
  have := congrArg PowerPart.latched h.power
  exact this

theorem Dev.Wakes.parts (h : d.Wakes e) : e.mem = d.mem ∧ e.syn = d.syn ∧ e.eth = d.eth ∧ e.sto = d.sto ∧ e.usb = d.usb := by
  refine ⟨?_, ?_, ?_, ?_, ?_⟩ <;> rw [h.frame]

theorem Dev.Wakes.trans (h : d.Wakes e) (k : e.Wakes e') : d.Wakes e' := by
  refine ⟨?_, fun f hb hp => (k.get f hb hp).trans (h.get f hb hp), fun j hj => ?_⟩
  · rw [k.frame, h.frame]
  · have hstate := h.domState j
    rcases h.phase j hj, k.phase j hj with ⟨h1 | h1, h2 | h2⟩
    · exact .inl (h2.trans h1)
    · exact .inr ⟨h2.1, hstate ▸ h2.2.1, h1 ▸ h2.2.2⟩
    · exact .inr ⟨h2.trans h1.1, h1.2⟩
    · exact absurd (h1.1.symm.trans h2.2.2) (by decide)

/-- A domain that is ON and in no transition stays so. -/
theorem Dev.Wakes.steady (h : d.Wakes e) {k : Nat} (hk : k < 13) (hs : d.steady k = true) : e.steady k = true := by
  simp only [Dev.steady, Bool.or_eq_true, Bool.and_eq_true, beq_iff_eq] at hs ⊢
  refine hs.imp id fun ⟨hstate, hphase⟩ => ⟨(h.domState k).trans hstate, ?_⟩
  rcases h.phase k hk with hp | ⟨_, hne, _⟩
  · exact hp.trans hphase
  · exact absurd hstate hne

/-- A domain that wakes goes on waking. -/
theorem Dev.Wakes.phase_seven (h : d.Wakes e) {k : Nat} (hk : k < 13) (hp : d.phaseOf k = 7) : e.phaseOf k = 7 := by
  rcases h.phase k hk with hs | ⟨hs, _⟩
  · exact hs.trans hp
  · exact hs

end

variable (d : Dev)

theorem Dev.avsAsk_wakes (mv : Nat) (low : Bool) : d.Wakes (d.avsAsk mv low) := by
  have hset : ∀ {f : Fld}, f.key ≠ PWR_AVS_STAT_BUSY.key → (d.avsAsk mv low).get f = d.get f := d.avsAsk_get mv low
  refine ⟨?_, fun f hb _ => hset hb, fun k _ => .inl (hset ?_)⟩
  · unfold Dev.avsAsk
    dsimp only
    split <;> rfl
  · have := PWR_Dd_key k
    simp only [PWR_AVS_STAT_BUSY, PWR_AVS_STAT_A]
    omega

theorem Dev.wakeOne_phase {n : Nat} (hstate : d.domState n ≠ 0) (hphase : d.phaseOf n = 0) (hreq : (requires n).all d.steady = true) :
    (d.wakeOne n).phaseOf n = 7 := by
  rw [Dev.wakeOne, if_pos ⟨hstate, hphase, hreq⟩]
  exact d.get_set_same _ 7

theorem Dev.wakeOne_phase_ne {n k : Nat} (h : k ≠ n) : (d.wakeOne k).phaseOf n = d.phaseOf n := by
  unfold Dev.wakeOne
  split
  · exact d.get_set_ne 7 (by have := PWR_Dd_key k; have := PWR_Dd_key n; omega)
  · rfl

theorem Dev.wakeOne_wakes {n : Nat} (hn : n < 13) : d.Wakes (d.wakeOne n) := by
  unfold Dev.wakeOne
  split
  · next h =>
    obtain ⟨hstate, hphase, -⟩ := h
    refine ⟨rfl, fun f _ hp => d.get_set_ne 7 (hp n hn), fun k _ => ?_⟩
    by_cases hk : k = n
    · subst hk
      exact .inr ⟨d.get_set_same _ 7, hstate, hphase⟩
    · exact .inl (d.get_set_ne 7 (by have := PWR_Dd_key k; have := PWR_Dd_key n; omega))
  · exact .refl d

theorem wakeAll_wakes {l : List Nat} (hl : ∀ k ∈ l, k < 13) : ∀ d : Dev, d.Wakes (forAll l (fun n d => d.wakeOne n) d) := by
  induction l with
  | nil => exact fun d => .refl d
  | cons k l ih =>
    exact fun d => (d.wakeOne_wakes (hl k List.mem_cons_self)).trans (ih (fun j hj => hl j (List.mem_cons_of_mem _ hj)) _)

theorem Dev.wakeGo_wakes : d.Wakes d.wakeGo := by
  unfold Dev.wakeGo
  split
  · exact .refl d
  · extract_lets falling l
    split
    · exact d.avsAsk_wakes ..
    · split
      · exact .refl d
      · exact wakeAll_wakes (fun k hk => List.mem_range.1 (List.mem_of_mem_filter hk)) d

theorem Dev.lowIf_wakes : d.Wakes d.lowIf := by
  unfold Dev.lowIf
  split
  · exact d.avsAsk_wakes ..
  · exact .refl d

theorem Dev.wakeGo_of_none (h : d.power.waking = []) : d.wakeGo = d := if_pos h

theorem requires_lt {n k : Nat} (hk : k ∈ requires n) : k < 13 := by
  unfold requires at hk
  split at hk
  · cases hk
  · split at hk
    · simp_all
    · split at hk <;> simp only [List.mem_cons, List.not_mem_nil, or_false] at hk <;> omega

/-- A domain whose requirements are met starts to wake where it stands among those due. -/
theorem wakeAll_phase {n : Nat} (hn : n < 13) {l : List Nat} (hl : ∀ k ∈ l, k < 13) (hmem : n ∈ l) :
    ∀ d : Dev, d.domState n ≠ 0 → d.phaseOf n = 0 → (requires n).all d.steady = true →
      (forAll l (fun n d => d.wakeOne n) d).phaseOf n = 7 := by
  induction l with
  | nil => cases hmem
  | cons k l ih =>
    intro d hstate hphase hreq
    have hl' : ∀ j ∈ l, j < 13 := fun j hj => hl j (List.mem_cons_of_mem _ hj)
    have hw := d.wakeOne_wakes (hl k List.mem_cons_self)
    by_cases hk : k = n
    · subst hk
      exact (wakeAll_wakes hl' _).phase_seven hn (d.wakeOne_phase hstate hphase hreq)
    · refine ih hl' ((List.mem_cons.1 hmem).resolve_left (Ne.symm hk)) _ (hw.domState n ▸ hstate) ((d.wakeOne_phase_ne hk).trans hphase) ?_
      exact List.all_eq_true.2 fun j hj => hw.steady (requires_lt hj) (List.all_eq_true.1 hreq j hj)

theorem Dev.wakeGo_phase {n : Nat} (hn : n < 13) (hmem : n ∈ d.power.waking) (havs : d.power.avs = none) (hlow : d.get PWR_AVS_STAT_LOW = 0)
    (hstate : d.domState n ≠ 0) (hphase : d.phaseOf n = 0) (hreq : (requires n).all d.steady = true) : d.wakeGo.phaseOf n = 7 := by
  have hne : d.power.waking ≠ [] := fun h => by rw [h] at hmem; cases hmem
  have hflag : d.flag PWR_AVS_STAT_LOW = false := Dev.flag_eq_false d |>.2 hlow
  simp only [Dev.wakeGo, if_neg hne, havs, hflag, Bool.or_self, Bool.false_and, Bool.false_eq_true, if_false, ne_eq, not_true_eq_false, or_self]
  refine wakeAll_phase hn (fun k hk => List.mem_range.1 (List.mem_of_mem_filter hk)) ?_ d hstate hphase hreq
  refine List.mem_filter.2 ⟨List.mem_range.2 hn, List.contains_iff_mem.2 (List.mem_eraseDups.2 ?_)⟩
  exact List.mem_flatMap.2 ⟨n, hmem, List.mem_append_right _ List.mem_cons_self⟩

end Sys2Proof.Machine
end


section
/-! PROOFS. What a quiesce leaves of the domain itself (R516). -/

namespace Sys2Proof.Machine

/-- A field that every pass of a loop leaves. -/
theorem forAll_get {α : Type} {g : α → Dev → Dev} {f : Fld} (l : List α) (h : ∀ x ∈ l, ∀ d : Dev, (g x d).get f = d.get f) :
    ∀ d : Dev, (forAll l g d).get f = d.get f := by
  induction l with
  | nil => exact fun _ => rfl
  | cons x l ih =>
    exact fun d => (ih (fun y hy => h y (List.mem_cons_of_mem _ hy)) _).trans (h x List.mem_cons_self d)

variable (d : Dev)

/-! ### The lane sequencers -/

theorem inTcl_state {q : Nat} (hq : q < 8) : kept (TCL_STAT_STATE q).key = true := by
  have : inTcl (TCL_STAT_STATE q).key = true := by
    refine decide_eq_true ?_
    simp only [TCL_STAT_STATE, TCL_STAT_A]
    omega
  simp [kept, this]

theorem TCL_state_ne {p q : Nat} (h : q ≠ p) : (TCL_STAT_STATE q).key ≠ (TCL_STAT_STATE p).key := by
  simp only [TCL_STAT_STATE, TCL_STAT_A]
  omega

theorem Dev.setSeqState_trk {p : Nat} (hp : p < 2) (st : Nat) : (d.setSeqState p st).get (TRK_STAT_STATE p) = st % 8 := by
  unfold Dev.setSeqState
  dsimp only
  rw [if_pos hp, if_neg (fun h => absurd h.1 (by omega))]
  exact d.get_set_same _ st

/-- The state register of a TCL after the sequencer of a port has entered a state. -/
theorem Dev.setSeqState_tcl (p st : Nat) {q : Nat} (hq : q < 8) :
    (d.setSeqState (p + 2) st).get (TCL_STAT_STATE q) = if q = p then st % 8 else d.get (TCL_STAT_STATE q) := by
  have hset : (d.set (TCL_STAT_STATE p) st).get (TCL_STAT_STATE q) = if q = p then st % 8 else d.get (TCL_STAT_STATE q) := by
    split
    · next h => subst h; exact d.get_set_same _ st
    · next h => exact d.get_set_ne st (TCL_state_ne h)
  unfold Dev.setSeqState
  dsimp only
  rw [if_neg (by omega : ¬ p + 2 < 2), Nat.add_sub_cancel]
  split
  · exact ((Dev.pdSend_keeps ..).get (inTcl_state hq)).trans hset
  · exact hset

theorem Dev.putAligned_tcl {p n : Nat} (b : Bool) (q : Nat) :
    (d.putAligned (p + 2) n b).get (TCL_STAT_STATE q) = d.get (TCL_STAT_STATE q) := by
  unfold Dev.putAligned
  dsimp only
  rw [if_neg (by omega : ¬ p + 2 < 2), Nat.add_sub_cancel]
  refine (Dev.get_set_ne _ _ ?_).trans (Dev.get_set_ne _ _ ?_)
  · simp only [TCL_STAT_STATE, TCL_STAT_LOCK, TCL_STAT_A]
    omega
  · simp only [TCL_STAT_STATE, TCL_STAT_A, TRK_LnSTAT_ALIGNED, TRK_LnSTAT_A, portOfs]
    rw [if_neg (by omega : ¬ p + 2 < 2)]
    omega

/-- A sequencer turned off shows OFF, and no other's state changes. -/
theorem Dev.seqOff_tcl {p q : Nat} (hq : q < 8) :
    (d.seqOff (p + 2)).get (TCL_STAT_STATE q) = if q = p then 0 else d.get (TCL_STAT_STATE q) := by
  unfold Dev.seqOff
  extract_lets d1 d2
  have h1 : d1.get (TCL_STAT_STATE q) = d.get (TCL_STAT_STATE q) := by
    unfold d1
    split
    · exact (d.linkFail_keeps (p + 2) 3).get (inTcl_state hq)
    · rfl
  have h2 : d2.get (TCL_STAT_STATE q) = d.get (TCL_STAT_STATE q) :=
    (forAll_get _ (fun n _ e => e.putAligned_tcl false q) d1).trans h1
  rw [Dev.setSeqState_tcl _ _ _ hq, Nat.zero_mod]
  split
  · rfl
  · exact (((Dev.modSeq_keeps ..).trans (Dev.lanesIdle_keeps ..)).get (inTcl_state hq)).trans h2

/-- Several sequencers turned off. -/
theorem seqsOff_tcl {q : Nat} (hq : q < 8) (l : List Nat) : ∀ d : Dev,
    (forAll (l.map (· + 2)) (fun p e => e.seqOff p) d).get (TCL_STAT_STATE q) = if q ∈ l then 0 else d.get (TCL_STAT_STATE q) := by
  induction l with
  | nil => exact fun _ => rfl
  | cons p l ih =>
    intro d
    refine (ih (d.seqOff (p + 2))).trans ?_
    rw [Dev.seqOff_tcl _ hq]
    by_cases hl : q ∈ l <;> by_cases hp : q = p <;> simp [hl, hp]

theorem seqDisable_off {p : Nat} (hp : p < 2) : (seqDisable p d).get (TRK_STAT_STATE p) = 0 := Dev.setSeqState_trk _ hp 0

/-! ### Video -/

theorem stopBoth_dso : (forAll [0, 1] (fun k e => e.stopVideo k 0) d).dso 0 = 0 ∧ (forAll [0, 1] (fun k e => e.stopVideo k 0) d).dso 1 = 0 := by
  have hboth : forAll [0, 1] (fun k e => Dev.stopVideo k 0 e) d = Dev.stopVideo 1 0 (Dev.stopVideo 0 0 d) := by
    simp only [forAll, List.foldl]
  have h0 : (Dev.stopVideo 0 0 d).dso 0 = 0 := d.stopVideo_dso (0 : Fin 2) 0
  have heq := (Dev.stopVideo 0 0 d).stopVideo_eq (1 : Fin 2) 0
  rw [if_neg (by rintro ⟨-, -, h | h⟩ <;> exact absurd (h0.symm.trans h) (by decide))] at heq
  rw [hboth]
  exact ⟨(congrArg (Dev.dso · 0) heq).trans ((Dev.stopOwn_get _ _ _ (by decide)).trans h0), Dev.stopVideo_dso _ (1 : Fin 2) 0⟩

/-! ### The USB device -/

theorem Dev.wakeReason_get (r : Nat) {f : Fld} (h : f.key ≠ USB_WAKE_PEND.key) : (d.wakeReason r).get f = d.get f := by
  unfold Dev.wakeReason
  split
  · exact d.get_set_ne _ h
  · rfl

theorem Dev.notify_configured (code src arg : Nat) : (d.notify code src arg).get USB_STAT_CONFIGURED = d.get USB_STAT_CONFIGURED := by
  unfold Dev.notify
  split
  · exact (Dev.raise_get _ _ (.inr (by decide)) (by decide)).trans (Dev.get_inc_ne _ (by decide))
  · exact (Dev.wakeReason_get _ _ (by decide)).trans (Dev.get_set_ne _ _ (by decide))

theorem Dev.dropGateway_configured {g : Nat} (hg : g < 8) : (d.dropGateway g).get USB_STAT_CONFIGURED = d.get USB_STAT_CONFIGURED := by
  unfold Dev.dropGateway
  extract_lets q k d1
  split
  · rfl
  · refine (Dev.notify_configured ..).trans (Dev.get_incBy_ne _ _ ?_)
    simp only [USB_STAT_CONFIGURED, USB_STAT_A, USB_GWg_DROPS_COUNT, USB_GWg_DROPS_A]
    omega

theorem Dev.configure_configured : (d.configure false).get USB_STAT_CONFIGURED = 0 := by
  unfold Dev.configure
  extract_lets was d1 d2 d3 d4
  have h2 : d2.get USB_STAT_CONFIGURED = 0 := (Dev.get_set_ne _ _ (by decide)).trans (d.get_setB_same USB_STAT_CONFIGURED false)
  have h3 : d3.get USB_STAT_CONFIGURED = 0 :=
    (forAll_get _ (fun g hg e => e.dropGateway_configured (List.mem_range.1 hg)) d2).trans h2
  show d4.get USB_STAT_CONFIGURED = 0
  unfold d4
  split
  · exact h3
  · exact (Dev.raise_get _ _ (.inr (by decide)) (by decide)).trans h3

theorem Dev.busClear_configured (cause : Nat) : (d.busClear cause).get USB_STAT_CONFIGURED = 0 := by
  unfold Dev.busClear
  extract_lets d1 d2 d3 d4
  have h1 : d1.get USB_STAT_CONFIGURED = 0 := Dev.configure_configured _
  have h3 : d3.get USB_STAT_CONFIGURED = d1.get USB_STAT_CONFIGURED :=
    (Dev.get_set_ne _ _ (by decide)).trans ((Dev.get_set_ne _ _ (by decide)).trans ((Dev.get_set_ne _ _ (by decide)).trans
      ((Dev.get_set_ne _ _ (by decide)).trans (Dev.get_set_ne _ _ (by decide)))))
  have h4 : d4.get USB_STAT_CONFIGURED = d3.get USB_STAT_CONFIGURED := by
    refine forAll_get _ (fun e he x => (Dev.get_set_ne _ _ ?_).trans (Dev.get_set_ne _ _ ?_)) d3 <;>
    · have := List.mem_range.1 he
      simp only [USB_STAT_CONFIGURED, USB_STAT_A, USB_HPp_SUSP, USB_HPp_ENABLED, USB_HPp_A]
      omega
  exact (d4.modUsb_get _ _).trans (h4.trans (h3.trans h1))

theorem usbDisconnect_off (vbus : Bool) : (usbDisconnect vbus d).get USB_STAT_SPEED = 0
    ∧ (d.get USB_STAT_SPEED ≠ 0 → (usbDisconnect vbus d).get USB_STAT_CONFIGURED = 0) := by
  unfold usbDisconnect
  extract_lets was d1
  split
  · next h => exact ⟨(d.get_setB_ne _ (by decide)).trans h, fun hne => absurd h hne⟩
  · exact ⟨(Dev.event_get _ _ _ _ (.inr (by decide))).trans (Dev.get_set_same _ _ _),
      fun _ => ((Dev.event_get _ _ _ _ (.inr (by decide))).trans (Dev.get_set_ne _ _ (by decide))).trans (d1.busClear_configured 2)⟩

/-- Tests that end in the USB domain leave the bus speed: no target of a slice lies in it. -/
theorem Dev.testsEnd_speed : (d.testsEnd 12).get USB_STAT_SPEED = d.get USB_STAT_SPEED := by
  have hscrub : ∀ (e : Dev) (read : Nat), (scrubEnd 1 read [] [] e).get USB_STAT_SPEED = e.get USB_STAT_SPEED := fun e read => by
    unfold scrubEnd
    refine (Dev.raise_get _ _ (.inr (by decide)) (by decide)).trans ?_
    refine (Dev.get_set_ne _ _ (by decide)).trans ((Dev.get_set_ne _ _ (by decide)).trans ?_)
    refine (forAll_get _ (fun k hk x => x.get_set_ne _ ?_) _).trans ?_
    · have := List.mem_range.1 hk
      simp only [USB_STAT_SPEED, USB_STAT_A, REL_SCR_UEAk_WORD, REL_SCR_UEAk_A]
      omega
    · exact (Dev.get_set_ne _ _ (by decide)).trans ((Dev.get_set_ne _ _ (by decide)).trans (Dev.get_set_ne _ _ (by decide)))
  have hdom : ∀ t, bistDomain t ≠ 12 := fun t => by unfold bistDomain; split <;> decide
  unfold Dev.testsEnd
  extract_lets d1
  have h1 : d1.get USB_STAT_SPEED = d.get USB_STAT_SPEED := by
    unfold d1
    split
    · exact hscrub _ _
    · rfl
  split
  · rw [if_neg (hdom _)]
    exact h1
  · exact h1

/-! ### A quiesce -/

theorem Dev.quiesce_quiesced (n : Nat) (ret : Bool) : d.Quiesced n ret (d.quiesce n ret) := by
  refine ⟨?_, ?_, ?_, ?_, ?_, ?_, ?_, ?_, ?_⟩ <;> rintro rfl
  · rfl
  · rintro rfl
    exact (d.testsEnd 2).get_set_same DDR_STAT_SELFREF 1
  · rfl
  · exact seqDisable_off _ (by decide)
  · exact seqDisable_off _ (by decide)
  · intro k hk
    have hk4 := List.mem_range.1 hk
    exact (seqsOff_tcl (by omega) (List.range' 0 4) (d.testsEnd 7)).trans (if_pos (List.mem_range'_1.2 (by omega)))
  · intro k hk
    have hk4 := List.mem_range.1 hk
    exact (seqsOff_tcl (by omega) (List.range' 4 4) (d.testsEnd 8)).trans (if_pos (List.mem_range'_1.2 (by omega)))
  · exact stopBoth_dso _
  · have h := usbDisconnect_off (d.testsEnd 12) ((d.testsEnd 12).flag USB_STAT_VBUS)
    rwa [d.testsEnd_speed] at h

/-- What a quiesce leaves of a domain does not show in the power controller. -/
theorem Dev.Quiesced.congr {d d' e e' : Dev} {n : Nat} {ret : Bool} (h : d.Quiesced n ret e) (haon : e'.aon = e.aon) (hsw : e'.sw = e.sw)
    (hget : ∀ f : Fld, inPwr f.key = false → e'.get f = e.get f) (hd : d'.get USB_STAT_SPEED = d.get USB_STAT_SPEED) : d'.Quiesced n ret e' := by
  obtain ⟨h1, h2, h3, h5, h6, h7, h8, h10, h12⟩ := h
  have hfar : ∀ (b x y : Nat), Nat.ble 0x10108000 b = true → inPwr (8 * (b + x) + y) = false := fun b x y hb => inPwr_lanes x y hb
  refine ⟨fun hn => haon ▸ h1 hn, fun hn hr => (hget _ rfl).trans (h2 hn hr), fun hn => hsw ▸ h3 hn, fun hn => (hget _ rfl).trans (h5 hn),
    fun hn => (hget _ rfl).trans (h6 hn), fun hn k hk => (hget _ (hfar _ _ _ rfl)).trans (h7 hn k hk),
    fun hn k hk => (hget _ (hfar _ _ _ rfl)).trans (h8 hn k hk),
    fun hn => ⟨(hget _ rfl).trans (h10 hn).1, (hget _ rfl).trans (h10 hn).2⟩, fun hn => ?_⟩
  rw [hd, hget _ rfl, hget _ rfl]
  exact h12 hn

end Sys2Proof.Machine
end


section
/-! PROOFS. Power requests (R513, R515, R518, R521). -/

namespace Sys2Proof.Machine

/-- The fields of the power controller that lie before the domains' entries, by their bit addresses. -/
theorem PWR_keys : PWR_EVT_DRY_DONE.key = 8 * 0x10100000 ∧ PWR_EVT_WAKE_DONE.key = 8 * 0x10100000 + 1
    ∧ PWR_EVT_REFUSED.key = 8 * 0x10100000 + 2 ∧ PWR_EVT_DRAIN_FORCED.key = 8 * 0x10100000 + 3
    ∧ PWR_AVS_STAT_BUSY.key = 8 * 0x10100014 + 16 ∧ PWR_WLATCH_PEND.key = 8 * 0x10100040 := ⟨rfl, rfl, rfl, rfl, rfl, rfl⟩

theorem PWR_Dd_inPwr {n : Nat} (hn : n < 13) : inPwr (PWR_Dd_REQ_TARGET n).key = true ∧ inPwr (PWR_Dd_STAT_STATE n).key = true
    ∧ inPwr (PWR_Dd_STAT_PHASE n).key = true ∧ inPwr (PWR_Dd_STAT_HELD n).key = true ∧ inPwr (PWR_Dd_STAT_NEXT n).key = true
    ∧ inPwr (PWR_Dd_STAT_ERR n).key = true := by
  have := PWR_Dd_key n
  simp only [inPwr_iff]
  omega

theorem mem_bitList {n v k : Nat} (h : k ∈ bitList n v) : k < n := List.mem_range.1 (List.mem_of_mem_filter h)

variable (d : Dev)

/-! ### A refusal -/

theorem Dev.pwrRefuse_get (n err : Nat) {f : Fld} (hf : inPwr f.key = true) (he : f.key ≠ (PWR_Dd_STAT_ERR n).key)
    (hev : f.key ≠ PWR_EVT_REFUSED.key) : (d.pwrRefuse n err).get f = d.get f :=
  (Dev.pwrRaise_get _ 2 n hf hev).trans (d.get_set_ne err he)

theorem Dev.pwrRefuse_refused (n err : Nat) : (d.pwrRefuse n err).get PWR_EVT_REFUSED = 1 := Dev.pwrRaise_self _ 2 n (by decide)

theorem Dev.pwrRefuse_err {n : Nat} (hn : n < 13) {err : Nat} (he : err < 4) : (d.pwrRefuse n err).get (PWR_Dd_STAT_ERR n) = err := by
  obtain ⟨-, -, -, -, -, herr⟩ := PWR_Dd_inPwr hn
  have := PWR_Dd_key n
  have := PWR_keys
  refine (Dev.pwrRaise_get _ 2 n herr (by omega)).trans ?_
  rw [Dev.get_set_same]
  exact Nat.mod_eq_of_lt he

/-! ### QUIESCE acts -/

theorem Dev.quiesceIf_eq (n : Nat) : d.quiesceIf n = if (d.power.aims.get n (0, false)).2 || d.heldUp n then d
    else (d.quiesce n ((d.power.aims.get n (0, false)).1 == 1)).modPower
      (fun p => { p with aims := p.aims.set n ((d.power.aims.get n (0, false)).1, true) (0, false) }) := rfl

theorem Dev.quiesceIf_of_done {n : Nat} (h : (d.power.aims.get n (0, false)).2 = true) : d.quiesceIf n = d := by
  rw [d.quiesceIf_eq, h]
  rfl

theorem Dev.quiesceIf_of_held {n : Nat} (h : d.heldUp n = true) : d.quiesceIf n = d := by
  rw [d.quiesceIf_eq, h, Bool.or_true]
  rfl

theorem Dev.quiesceIf_get (n : Nat) {f : Fld} (hf : inPwr f.key = true) : (d.quiesceIf n).get f = d.get f := by
  rw [d.quiesceIf_eq]
  split
  · rfl
  · exact (d.quiesce_samePwr n _).2 f hf

theorem Dev.quiesceIf_aim (n : Nat) : ((d.quiesceIf n).power.aims.get n (0, false)).1 = (d.power.aims.get n (0, false)).1 := by
  rw [d.quiesceIf_eq]
  split
  · rfl
  · have h := Tab.get_set_same (d.quiesce n ((d.power.aims.get n (0, false)).1 == 1)).power.aims n ((d.power.aims.get n (0, false)).1, true)
        (0, false)
    exact (congrArg Prod.fst h :)

/-- A quiesce that nothing holds up acts. -/
theorem Dev.quiesceIf_acts {n : Nat} (hdone : (d.power.aims.get n (0, false)).2 = false) (hheld : d.heldUp n = false) :
    ((d.quiesceIf n).power.aims.get n (0, false)) = ((d.power.aims.get n (0, false)).1, true)
    ∧ d.Quiesced n ((d.power.aims.get n (0, false)).1 == 1) (d.quiesceIf n) := by
  rw [d.quiesceIf_eq, if_neg (by simp [hdone, hheld])]
  exact ⟨Tab.get_set_same _ n _ _, (d.quiesce_quiesced n _).congr rfl rfl (fun _ _ => rfl) rfl⟩

/-! ### A drydown starts -/

/-- A drydown enters QUIESCE with its target. -/
def Dev.dryStart (n target : Nat) (d : Dev) : Dev :=
  (d.setPhase n 1).modPower (fun p => { p with aims := p.aims.set n (target, false) (0, false) })

theorem Dev.dryStart_phase (n target : Nat) : (d.dryStart n target).phaseOf n = 1 := d.get_set_same (PWR_Dd_STAT_PHASE n) 1

theorem Dev.dryStart_aims (n target : Nat) : (d.dryStart n target).power.aims.get n (0, false) = (target, false) := Tab.get_set_same _ n _ _

theorem Dev.dryStart_get (n target : Nat) {f : Fld} (h : f.key ≠ (PWR_Dd_STAT_PHASE n).key) : (d.dryStart n target).get f = d.get f :=
  d.get_set_ne 1 h

theorem ACD_state_ne {k n : Nat} (hn : n < 13) : (ACD_SLOTn_STAT_STATE k).key ≠ (PWR_Dd_STAT_PHASE n).key
    ∧ (ACD_SLOTn_STAT_STATE k).key ≠ (PWR_Dd_REQ_TARGET n).key := by
  have := PWR_Dd_key n
  simp only [ACD_SLOTn_STAT_STATE, ACD_SLOTn_STAT_A]
  omega

/-- With no accord pending nothing aborts and nothing holds a drydown up. -/
theorem Dev.abortOpen_of_none {n : Nat} (h : d.pendingSlots = []) : d.abortOpen n = d := by
  unfold Dev.abortOpen
  rw [h]
  rfl

theorem Dev.heldUp_of_none {n : Nat} (h : d.pendingSlots = []) : d.heldUp n = false := by
  unfold Dev.heldUp
  rw [h]
  rfl

/-- A drydown that starts: QUIESCE, with the target as its aim. -/
theorem Dev.dryStart_quiesces {n : Nat} (hn : n < 13) (target : Nat) :
    (((d.dryStart n target).abortOpen n).quiesceIf n).phaseOf n = 1
    ∧ ((((d.dryStart n target).abortOpen n).quiesceIf n).power.aims.get n (0, false)).1 = target := by
  have habort := ((d.dryStart n target).abortOpen_keeps n).pwr
  obtain ⟨-, -, hphase, -⟩ := PWR_Dd_inPwr hn
  constructor
  · exact (Dev.quiesceIf_get _ n hphase).trans ((habort.2 _ hphase).trans (d.dryStart_phase n target))
  · rw [Dev.quiesceIf_aim, habort.1, d.dryStart_aims]

/-- A drydown that starts with no accord pending quiesces at once. -/
theorem Dev.dryStart_acts {n : Nat} (hn : n < 13) (target : Nat) (h : d.pendingSlots = []) :
    ((((d.dryStart n target).abortOpen n).quiesceIf n).power.aims.get n (0, false)).2 = true
    ∧ d.Quiesced n (target == 1) (((d.dryStart n target).abortOpen n).quiesceIf n) := by
  have hnone : (d.dryStart n target).pendingSlots = [] := by
    rw [← h]
    unfold Dev.pendingSlots
    exact List.filter_congr fun k _ => by rw [d.dryStart_get n target (ACD_state_ne hn).1]
  rw [Dev.abortOpen_of_none _ hnone]
  obtain ⟨haims, hq⟩ := (d.dryStart n target).quiesceIf_acts (congrArg Prod.snd (d.dryStart_aims n target)) (Dev.heldUp_of_none _ hnone)
  rw [d.dryStart_aims] at haims hq
  refine ⟨congrArg Prod.snd haims, hq.congr rfl rfl (fun _ _ => rfl) (d.dryStart_get n target ?_).symm⟩
  have := PWR_Dd_key n
  simp only [USB_STAT_SPEED, USB_STAT_A]
  omega

/-! ### A request -/

/-- A domain no longer waits to wake. -/
def Dev.noWake (n : Nat) (d : Dev) : Dev := d.modPower (fun p => { p with waking := p.waking.filter (· != n) })

theorem Dev.noWake_waking (n : Nat) : n ∉ (d.noWake n).power.waking := fun h => by
  have := List.of_mem_filter h
  simp at this

theorem Dev.pwrRequest_eq (n target : Nat) : d.pwrRequest n target =
    if target = 0 then (if d.domState n = 0 then d else (d.wake n).wakeGo)
    else if d.wakeLatched n then d.pwrRefuse n 2
    else if d.domState n = 0 then
      (if d.dependent n then (d.noWake n).pwrRefuse n 1 else (((d.noWake n).dryStart n target).abortOpen n).quiesceIf n)
    else if d.domState n = 1 ∧ target = 2 then (((d.noWake n).set (PWR_Dd_STAT_STATE n) 2).domReset n false).pwrRaise 0 n
    else d.noWake n := rfl

theorem Dev.wake_get (n : Nat) (f : Fld) : (d.wake n).get f = d.get f := by
  unfold Dev.wake
  split <;> rfl

theorem Dev.wake_domState (n k : Nat) : (d.wake n).domState k = d.domState k := by
  simp only [Dev.domState, Dev.wake_get]

theorem Dev.wake_waking {n : Nat} (hn : n ≠ 0) : n ∈ (d.wake n).power.waking := by
  unfold Dev.wake
  split
  · next h => exact List.contains_iff_mem.1 (h.resolve_left hn)
  · exact List.mem_append_right _ List.mem_cons_self

theorem Dev.wake_avs (n : Nat) : (d.wake n).power.avs = d.power.avs := by
  unfold Dev.wake
  split <;> rfl

theorem Dev.domState_of_ne {n : Nat} (hn : n ≠ 0) : d.domState n = d.get (PWR_Dd_STAT_STATE n) := if_neg hn

/-- A request leaves every field of the power controller but the entry's STATE, PHASE and ERR, the other domains' PHASE, BUSY and the
event flags. -/
theorem Dev.pwrRequest_get {n : Nat} (hn : n < 13) (target : Nat) {f : Fld} (hf : inPwr f.key = true)
    (hp : ∀ k < 13, f.key ≠ (PWR_Dd_STAT_PHASE k).key) (hs : f.key ≠ (PWR_Dd_STAT_STATE n).key) (he : f.key ≠ (PWR_Dd_STAT_ERR n).key)
    (hb : f.key ≠ PWR_AVS_STAT_BUSY.key) (hdry : f.key ≠ PWR_EVT_DRY_DONE.key) (href : f.key ≠ PWR_EVT_REFUSED.key) :
    (d.pwrRequest n target).get f = d.get f := by
  rw [d.pwrRequest_eq]
  split
  · split
    · rfl
    · exact ((d.wake n).wakeGo_wakes.get f hb hp).trans (d.wake_get n f)
  · split
    · exact d.pwrRefuse_get n 2 hf he href
    · split
      · split
        · exact (d.noWake n).pwrRefuse_get n 1 hf he href
        · exact (Dev.quiesceIf_get _ n hf).trans ((Dev.abortOpen_keeps ..).pwr.2 f hf |>.trans ((d.noWake n).dryStart_get n target (hp n hn)))
      · split
        · next hst =>
          have hn0 : n ≠ 0 := fun h0 => by rw [Dev.domState, if_pos h0] at hst; exact absurd hst.1 (by decide)
          exact (Dev.pwrRaise_get _ 0 n hf hdry).trans (((Dev.domReset_samePwr _ hn0 false).2 f hf).trans ((d.noWake n).get_set_ne 2 hs))
        · rfl

/-- A drydown shown as done stays shown. -/
theorem Dev.pwrRequest_dryDone {n : Nat} (target : Nat) (h : d.get PWR_EVT_DRY_DONE = 1) :
    (d.pwrRequest n target).get PWR_EVT_DRY_DONE = 1 := by
  have hkey := PWR_Dd_key n
  have hkeys := PWR_keys
  have hf : inPwr PWR_EVT_DRY_DONE.key = true := rfl
  rw [d.pwrRequest_eq]
  split
  · split
    · exact h
    · refine ((d.wake n).wakeGo_wakes.get _ (by omega) (fun k _ => ?_)).trans ((d.wake_get n _).trans h)
      have := PWR_Dd_key k
      omega
  · split
    · exact (d.pwrRefuse_get n 2 hf (by omega) (by omega)).trans h
    · split
      · split
        · exact ((d.noWake n).pwrRefuse_get n 1 hf (by omega) (by omega)).trans h
        · exact (Dev.quiesceIf_get _ n hf).trans (((Dev.abortOpen_keeps ..).pwr.2 _ hf).trans
            (((d.noWake n).dryStart_get n target (by omega)).trans h))
      · split
        · exact Dev.pwrRaise_self _ 0 n (by decide)
        · exact h

end Sys2Proof.Machine
end

section
/-! PROOFS. A power request written (R512, R513, R515, R518, R529): what each of its branches leaves. -/

namespace Sys2Proof.Machine
variable (d : Dev)

/-! ### What is asked of a domain reads the same in every other field -/

/-- A domain's TARGET written. -/
def Dev.asked (n target : Nat) (d : Dev) : Dev := d.set (PWR_Dd_REQ_TARGET n) target

theorem Dev.asked_get (n target : Nat) {f : Fld} (h : f.key ≠ (PWR_Dd_REQ_TARGET n).key) : (d.asked n target).get f = d.get f :=
  d.get_set_ne target h

theorem Dev.asked_target (n : Nat) {target : Nat} (h : target < 4) : (d.asked n target).get (PWR_Dd_REQ_TARGET n) = target :=
  (d.get_set_same _ target).trans (Nat.mod_eq_of_lt h)

theorem Dev.asked_phaseOf (n target k : Nat) : (d.asked n target).phaseOf k = d.phaseOf k :=
  d.asked_get n target (by have := PWR_Dd_key n; have := PWR_Dd_key k; omega)

theorem Dev.asked_domState (n target k : Nat) : (d.asked n target).domState k = d.domState k := by
  simp only [Dev.domState]
  rw [d.asked_get n target (by have := PWR_Dd_key n; have := PWR_Dd_key k; omega)]

theorem Dev.asked_steady (n target k : Nat) : (d.asked n target).steady k = d.steady k := by
  simp only [Dev.steady, Dev.asked_phaseOf, Dev.asked_domState]

theorem Dev.asked_dependent (n target k : Nat) : (d.asked n target).dependent k = d.dependent k := by
  simp only [Dev.dependent, Dev.asked_phaseOf, Dev.asked_domState]

theorem Dev.asked_wakeLatched (n target k : Nat) : (d.asked n target).wakeLatched k = d.wakeLatched k := by
  have hkey := PWR_Dd_key n
  have hkeys := PWR_keys
  unfold Dev.wakeLatched
  rw [d.asked_get n target (by omega : PWR_WLATCH_PEND.key ≠ _), Bool.eq_iff_iff, List.any_eq_true, List.any_eq_true]
  refine exists_congr fun x => and_congr_right fun hx => ?_
  have := mem_bitList hx
  rw [d.asked_get n target (by simp only [PWR_WSRCs_DOMS, PWR_WSRCs_A]; omega)]

theorem Dev.asked_pendingSlots {n : Nat} (hn : n < 13) (target : Nat) : (d.asked n target).pendingSlots = d.pendingSlots := by
  unfold Dev.pendingSlots
  exact List.filter_congr fun k _ => by rw [d.asked_get n target (ACD_state_ne hn).2]

/-- The request acts on a domain in no transition. -/
theorem domainRequestWrite_acts {n target : Nat} (hn : n ≠ 0) (ht : target ≠ 3) (hp : d.phaseOf n = 0) :
    domainRequestWrite n target d = (d.asked n target).pwrRequest n target := by
  simp only [domainRequestWrite, if_neg ht, if_neg hn]
  exact if_neg (not_not_intro ((d.asked_phaseOf n target n).trans hp))

/-! ### The branches -/

/-- A domain that is not ON waits to wake, and starts at once where the voltage is up and what it requires is ON. -/
theorem Dev.wake_waits {n : Nat} (hn : n < 13) (hn0 : n ≠ 0) (hstate : d.domState n ≠ 0) (hphase : d.phaseOf n = 0) :
    n ∈ (d.wake n).wakeGo.power.waking ∧ (d.wake n).wakeGo.domState n = d.domState n
    ∧ (d.power.avs = none → d.get PWR_AVS_STAT_LOW = 0 → (requires n).all d.steady = true → (d.wake n).wakeGo.phaseOf n = 7) := by
  have hw := (d.wake n).wakeGo_wakes
  refine ⟨hw.waking ▸ d.wake_waking hn0, (hw.domState n).trans (d.wake_domState n n), fun havs hlow hreq => ?_⟩
  refine (d.wake n).wakeGo_phase hn (d.wake_waking hn0) ((d.wake_avs n).trans havs) ((d.wake_get n _).trans hlow)
    ((d.wake_domState n n).symm ▸ hstate) ((d.wake_get n _).trans hphase) ?_
  rw [← hreq]
  exact congrArg (List.all (requires n)) (funext fun k => by simp only [Dev.steady, Dev.phaseOf, Dev.wake_get, Dev.wake_domState])

/-- A refused domain keeps its state and its phase. -/
theorem Dev.pwrRefuse_idle {n : Nat} (hn : n < 13) (hn0 : n ≠ 0) (err : Nat) (hphase : d.phaseOf n = 0) :
    (d.pwrRefuse n err).domState n = d.domState n ∧ (d.pwrRefuse n err).phaseOf n = 0 := by
  obtain ⟨-, hstate, hph, -⟩ := PWR_Dd_inPwr hn
  have := PWR_Dd_key n
  have := PWR_keys
  rw [Dev.domState_of_ne _ hn0, Dev.domState_of_ne _ hn0]
  exact ⟨d.pwrRefuse_get n err hstate (by omega) (by omega), (d.pwrRefuse_get n err hph (by omega) (by omega)).trans hphase⟩

/-- A domain in RET goes OFF at once. -/
theorem Dev.retOff_state {n : Nat} (hn : n < 13) (hn0 : n ≠ 0) :
    (((d.set (PWR_Dd_STAT_STATE n) 2).domReset n false).pwrRaise 0 n).domState n = 2 := by
  obtain ⟨-, hstate, -⟩ := PWR_Dd_inPwr hn
  have := PWR_Dd_key n
  have := PWR_keys
  rw [Dev.domState_of_ne _ hn0]
  refine (Dev.pwrRaise_get _ 0 n hstate (by omega)).trans ?_
  exact ((Dev.domReset_samePwr _ hn0 false).2 _ hstate).trans (d.get_set_same _ 2)

/-- A request that asks for nothing new only ends the wait to wake. -/
theorem Dev.noWake_only (n target : Nat) :
    Dev.only { d with power := ((d.asked n target).noWake n).power } [(PWR_Dd_REQ_TARGET n).key] ((d.asked n target).noWake n) :=
  ⟨rfl, fun _ hf => d.asked_get n target (fun h => hf (h ▸ List.mem_cons_self))⟩

/-- The request of a domain in no transition, by its target, the latched wakes, and the domain's state (R513, R515, R521). -/
theorem Dev.asked_acts {n target : Nat} (hn : n < 13) (hn0 : n ≠ 0) (ht : target < 3) (hp : d.phaseOf n = 0) :
    let d' := (d.asked n target).pwrRequest n target
    d'.get (PWR_Dd_REQ_TARGET n) = target
    ∧ (if target = 0 then (if d.domState n = 0 then d.only [(PWR_Dd_REQ_TARGET n).key] d'
        else n ∈ d'.power.waking ∧ d'.domState n = d.domState n
          ∧ (d.power.avs = none → d.get PWR_AVS_STAT_LOW = 0 → (requires n).all d.steady = true → d'.phaseOf n = 7))
      else if d.wakeLatched n = true then d'.get (PWR_Dd_STAT_ERR n) = 2 ∧ d'.get PWR_EVT_REFUSED = 1 ∧ d'.domState n = d.domState n
          ∧ d'.phaseOf n = 0
      else if d.domState n = 0 then
        (if d.dependent n = true then d'.get (PWR_Dd_STAT_ERR n) = 1 ∧ d'.get PWR_EVT_REFUSED = 1 ∧ d'.phaseOf n = 0
        else d'.phaseOf n = 1 ∧ (d'.power.aims.get n (0, false)).1 = target
          ∧ (d.pendingSlots = [] → (d'.power.aims.get n (0, false)).2 = true ∧ d.Quiesced n (target == 1) d'))
      else if d.domState n = 1 ∧ target = 2 then d'.domState n = 2 ∧ d'.get PWR_EVT_DRY_DONE = 1
      else Dev.only { d with power := d'.power } [(PWR_Dd_REQ_TARGET n).key] d' ∧ n ∉ d'.power.waking) := by
  have hkey := PWR_Dd_key n
  have hkeys := PWR_keys
  obtain ⟨htarget, -⟩ := PWR_Dd_inPwr hn
  intro d'
  refine ⟨?_, ?_⟩
  · refine (Dev.pwrRequest_get _ hn target htarget (fun k _ => ?_) ?_ ?_ ?_ ?_ ?_).trans (d.asked_target n (by omega))
    · have := PWR_Dd_key k
      omega
    all_goals omega
  have hphase : (d.asked n target).phaseOf n = 0 := (d.asked_phaseOf n target n).trans hp
  have heq : d' = (d.asked n target).pwrRequest n target := rfl
  clear_value d'
  rw [Dev.pwrRequest_eq, d.asked_domState, d.asked_wakeLatched, d.asked_dependent] at heq
  split
  · split
    · next h0 hs =>
      rw [if_pos h0, if_pos hs] at heq
      exact heq ▸ (Dev.only.refl d _).set List.mem_cons_self target
    · next h0 hs =>
      rw [if_pos h0, if_neg hs] at heq
      have h := (d.asked n target).wake_waits hn hn0 ((d.asked_domState n target n).symm ▸ hs) hphase
      rw [← heq, d.asked_domState, d.asked_get n target (by simp only [PWR_AVS_STAT_LOW, PWR_AVS_STAT_A]; omega)] at h
      rwa [show (d.asked n target).steady = d.steady from funext (d.asked_steady n target)] at h
  · next h0 =>
    rw [if_neg h0] at heq
    split
    · next hl =>
      rw [if_pos hl] at heq
      obtain ⟨hstate, hph⟩ := (d.asked n target).pwrRefuse_idle hn hn0 2 hphase
      subst heq
      exact ⟨Dev.pwrRefuse_err _ hn (by decide), Dev.pwrRefuse_refused .., hstate.trans (d.asked_domState n target n), hph⟩
    · next hl =>
      rw [if_neg hl] at heq
      split
      · next hs =>
        rw [if_pos hs] at heq
        split
        · next hd =>
          rw [if_pos hd] at heq
          subst heq
          exact ⟨Dev.pwrRefuse_err _ hn (by decide), Dev.pwrRefuse_refused ..,
            (Dev.pwrRefuse_idle ((d.asked n target).noWake n) hn hn0 1 hphase).2⟩
        · next hd =>
          rw [if_neg hd] at heq
          subst heq
          obtain ⟨hph, haim⟩ := ((d.asked n target).noWake n).dryStart_quiesces hn target
          refine ⟨hph, haim, fun hnone => ?_⟩
          obtain ⟨hdone, hq⟩ := ((d.asked n target).noWake n).dryStart_acts hn target ((d.asked_pendingSlots hn target).trans hnone)
          exact ⟨hdone, hq.congr rfl rfl (fun _ _ => rfl) (d.asked_get n target (by simp only [USB_STAT_SPEED, USB_STAT_A]; omega)).symm⟩
      · next hs =>
        rw [if_neg hs] at heq
        split
        · next ho =>
          rw [if_pos ho] at heq
          subst heq
          exact ⟨Dev.retOff_state _ hn hn0, Dev.pwrRaise_self _ 0 n (by decide)⟩
        · next ho =>
          rw [if_neg ho] at heq
          subst heq
          exact ⟨d.noWake_only n target, Dev.noWake_waking _ n⟩

end Sys2Proof.Machine
end


section
/-! PROOFS. What a domain's reset leaves of its engines and its memory (R511, R512). -/

namespace Sys2Proof.Machine
variable (d : Dev)

theorem Dev.remark_none (old : Dev) {dom : Nat} (h1 : dom ≠ 1) (h3 : dom ≠ 3) : Dev.remark old (dom == 1) (dom == 3) d = d := by
  rw [beq_false_of_ne h1, beq_false_of_ne h3]
  rfl

/-- What follows the reset of a domain's engines writes register fields only, where no target is marked again. -/
theorem Dev.domReset_flds {dom : Nat} (h1 : dom ≠ 1) (h3 : dom ≠ 3) (ret : Bool) :
    ((d.regsReset dom ret).partsReset dom ret).OnlyFlds (d.domReset dom ret) := by
  unfold Dev.domReset
  rw [Dev.remark_none _ _ h1 h3]
  exact (Dev.otpSense_flds _).set.set

theorem Dev.domReset_eth (ret : Bool) : (d.domReset 9 ret).eth = EthPart.reset :=
  congrArg Dev.eth (d.domReset_flds (dom := 9) (by decide) (by decide) ret)
theorem Dev.domReset_sto (ret : Bool) : (d.domReset 11 ret).sto = StoPart.reset :=
  congrArg Dev.sto (d.domReset_flds (dom := 11) (by decide) (by decide) ret)
theorem Dev.domReset_usb (ret : Bool) : (d.domReset 12 ret).usb = UsbPart.reset :=
  congrArg Dev.usb (d.domReset_flds (dom := 12) (by decide) (by decide) ret)

/-- DRAM that is not to be kept lists nothing any more. -/
theorem Dev.domReset_noDram : (d.domReset 2 false).noDram := by
  have hmem : (d.domReset 2 false).mem = d.mem.filter (fun c => decide (c.1 < 0x8000000000)) :=
    congrArg Dev.mem (d.domReset_flds (dom := 2) (by decide) (by decide) false)
  rw [Dev.noDram, hmem, List.all_filter]
  simp

/-! ### The threads -/

/-- Whether a thread is as it is after a reset. -/
def Dev.idleThr (d : Dev) (t : Nat) : Prop := d.thr t = Thr.reset ∧ d.tstate t = 0

theorem tstate_ne {t : Nat} (ht : t < 32) : (SYN_THn_STAT_STATE t).key < 8 * 0x10900400 ∧ 8 * 0x1090010c ≤ (SYN_THn_STAT_STATE t).key := by
  simp only [SYN_THn_STAT_STATE, SYN_THn_STAT_A]
  omega

variable {d}

theorem Dev.idleThr.set {t : Nat} (h : d.idleThr t) {f : Fld} (v : Nat) (hf : (SYN_THn_STAT_STATE t).key ≠ f.key) : (d.set f v).idleThr t :=
  ⟨h.1, (d.get_set_ne v hf).trans h.2⟩

theorem Dev.idleThr.dropThread {t : Nat} (h : d.idleThr t) (u : Nat) : (d.dropThread u).idleThr t := by
  constructor
  · have hthr : (d.dropThread u).thr t = (d.modThr u (fun x => { x with wait := .none, stop := false, shadow := Ahead.reset })).thr t := rfl
    rw [hthr]
    by_cases hu : t = u
    · subst hu
      rw [Dev.thr, Dev.modThr, Tab.get_set_same, h.1]
      rfl
    · rw [Dev.thr, Dev.modThr, Tab.get_set_ne hu]
      exact h.1
  · unfold Dev.tstate Dev.dropThread
    by_cases hu : t = u
    · subst hu
      exact Dev.get_set_same _ _ 0
    · refine (Dev.get_set_ne _ _ ?_).trans ((Dev.get_set_ne _ _ ?_).trans h.2) <;>
      · simp only [SYN_THn_STAT_STATE, SYN_THn_STAT_RUNAHEAD, SYN_THn_STAT_A]
        omega

theorem idleThr_forAll {α : Type} {t : Nat} {g : α → Dev → Dev} (hg : ∀ x (e : Dev), e.idleThr t → (g x e).idleThr t) (l : List α) :
    ∀ {d : Dev}, d.idleThr t → (forAll l g d).idleThr t := by
  induction l with
  | nil => exact id
  | cons x l ih => exact fun h => ih (hg x _ h)

theorem Dev.idleThr.markTarget {t : Nat} (ht : t < 32) (h : d.idleThr t) {k : Nat} (hk : k < 8) : (markTarget k d).idleThr t := by
  have := tstate_ne ht
  unfold Machine.markTarget
  rw [if_pos hk]
  exact idleThr_forAll (fun u _ he => he.dropThread u) _ (h.set _ (by simp only [SYN_STAT_CORE_OK, SYN_STAT_A]; omega))

theorem Dev.idleThr.otpSense {t : Nat} (ht : t < 32) (h : d.idleThr t) : d.otpSense.idleThr t := by
  have hlow : ∀ {f : Fld}, 8 * 0x10900400 ≤ f.key ∨ f.key < 8 * 0x1090010c → (SYN_THn_STAT_STATE t).key ≠ f.key := fun hf => by
    have := tstate_ne ht
    omega
  unfold Dev.otpSense
  dsimp only
  split
  · exact ((((((h.set _ (hlow (.inl (by decide)))).set _ (hlow (.inl (by decide)))).set _ (hlow (.inl (by decide)))).set _
      (hlow (.inl (by decide)))).set _ (hlow (.inl (by decide)))).set _ (hlow (.inr (by decide)))).set _ (hlow (.inr (by decide)))
  · exact ((((((((h.set _ (hlow (.inl (by decide)))).set _ (hlow (.inl (by decide)))).set _ (hlow (.inl (by decide)))).set _
      (hlow (.inl (by decide)))).set _ (hlow (.inl (by decide)))).set _ (hlow (.inl (by decide)))).set _ (hlow (.inl (by decide)))).set _
      (hlow (.inr (by decide)))).set _ (hlow (.inr (by decide)))

theorem tstate_lost (ret : Bool) :
    ∀ t : Fin 32, (fieldDomain (SYN_THn_STAT_STATE t).key != 1 || (ret && keptInRet (SYN_THn_STAT_STATE t).key)) = false := by
  cases ret <;> decide

variable (d) in
/-- CTL's reset stops every thread. -/
theorem Dev.domReset_idleThr (ret : Bool) {t : Nat} (ht : t < 32) : (d.domReset 1 ret).idleThr t := by
  have h0 : ((d.regsReset 1 ret).partsReset 1 ret).idleThr t := by
    refine ⟨rfl, ?_⟩
    show (d.regsReset 1 ret).get (SYN_THn_STAT_STATE t) = 0
    rw [Dev.regsReset_get, tstate_lost ret ⟨t, ht⟩]
    rfl
  have hmark : (Dev.remark d (1 == 1) (1 == 3) ((d.regsReset 1 ret).partsReset 1 ret)).idleThr t := by
    unfold Dev.remark
    dsimp only
    rw [if_neg (by decide), if_pos (by decide)]
    generalize (d.regsReset 1 ret).partsReset 1 ret = e at h0
    have hl : ∀ k ∈ (List.range 8).filter (fun k => !(d.get SYN_STAT_CORE_OK).testBit k), k < 8 :=
      fun k hk => List.mem_range.1 (List.mem_of_mem_filter hk)
    generalize (List.range 8).filter (fun k => !(d.get SYN_STAT_CORE_OK).testBit k) = l at hl
    induction l generalizing e with
    | nil => exact h0
    | cons k l ih => exact ih _ (h0.markTarget ht (hl k List.mem_cons_self)) (fun j hj => hl j (List.mem_cons_of_mem _ hj))
  have := tstate_ne ht
  exact ((hmark.otpSense ht).set _ (by simp only [KEY_LINE_VALID, KEY_LINE_A]; omega)).set _
    (by simp only [TRK_BYP_CTL_STATE, TRK_BYP_CTL_A]; omega)

end Sys2Proof.Machine
end

section
/-! PROOFS. A transition ends (R511, R512, R515, R518): the supply off, a waking domain ON. -/

namespace Sys2Proof.Machine
variable (d : Dev)

/-! ### The next target acts -/

theorem Dev.settled_of_idle {n : Nat} (h : d.get (PWR_Dd_STAT_NEXT n) = 3) : d.settled n = d.wakeGo := by
  rw [d.settled_eq, if_pos h]

/-- NEXT shows no target once a transition has ended. -/
theorem Dev.settled_next {n : Nat} (hn : n < 13) : (d.settled n).get (PWR_Dd_STAT_NEXT n) = 3 := by
  have hkey := PWR_Dd_key n
  have hkeys := PWR_keys
  obtain ⟨-, -, -, -, hnext, -⟩ := PWR_Dd_inPwr hn
  rw [d.settled_eq]
  split
  · next h => exact (d.wakeGo_wakes.get_next n).trans h
  · refine ((Dev.wakeGo_wakes _).get_next n).trans ?_
    refine (Dev.pwrRequest_get _ hn _ hnext (fun k _ => ?_) ?_ ?_ ?_ ?_ ?_).trans (d.get_set_same _ 3)
    · have := PWR_Dd_key k
      omega
    all_goals omega

theorem Dev.settled_dryDone {n : Nat} (h : d.get PWR_EVT_DRY_DONE = 1) : (d.settled n).get PWR_EVT_DRY_DONE = 1 := by
  have hkey := PWR_Dd_key n
  have hkeys := PWR_keys
  have hgo : ∀ e : Dev, e.wakeGo.get PWR_EVT_DRY_DONE = e.get PWR_EVT_DRY_DONE := fun e =>
    e.wakeGo_wakes.get_of_far (by omega) (by omega)
  rw [d.settled_eq]
  split
  · exact (hgo _).trans h
  · exact (hgo _).trans (Dev.pwrRequest_dryDone _ _ ((d.get_set_ne 3 (by omega)).trans h))

theorem Dev.settled_wakeDone {n : Nat} (hn : n < 13) : (d.settled n).get PWR_EVT_WAKE_DONE = d.get PWR_EVT_WAKE_DONE := by
  have hkey := PWR_Dd_key n
  have hkeys := PWR_keys
  have hgo : ∀ e : Dev, e.wakeGo.get PWR_EVT_WAKE_DONE = e.get PWR_EVT_WAKE_DONE := fun e =>
    e.wakeGo_wakes.get_of_far (by omega) (by omega)
  rw [d.settled_eq]
  split
  · exact hgo _
  · refine (hgo _).trans ((Dev.pwrRequest_get _ hn _ rfl (fun k _ => ?_) ?_ ?_ ?_ ?_ ?_).trans (d.get_set_ne 3 (by omega)))
    · have := PWR_Dd_key k
      omega
    all_goals omega

/-- No request takes an ON domain out of ON at once. -/
theorem Dev.pwrRequest_on {n : Nat} (hn : n < 13) (hn0 : n ≠ 0) (target : Nat) (h : d.domState n = 0) : (d.pwrRequest n target).domState n = 0 := by
  have hkey := PWR_Dd_key n
  have hkeys := PWR_keys
  obtain ⟨-, hstate, -⟩ := PWR_Dd_inPwr hn
  rw [d.pwrRequest_eq]
  simp only [if_pos h]
  rw [Dev.domState_of_ne _ hn0] at h ⊢
  split
  · exact h
  · split
    · exact (d.pwrRefuse_get n 2 hstate (by omega) (by omega)).trans h
    · split
      · exact ((d.noWake n).pwrRefuse_get n 1 hstate (by omega) (by omega)).trans h
      · exact (Dev.quiesceIf_get _ n hstate).trans (((Dev.abortOpen_keeps ..).pwr.2 _ hstate).trans
          (((d.noWake n).dryStart_get n target (by omega)).trans h))

theorem Dev.settled_on {n : Nat} (hn : n < 13) (hn0 : n ≠ 0) (h : d.domState n = 0) : (d.settled n).domState n = 0 := by
  rw [d.settled_eq]
  split
  · exact (d.wakeGo_wakes.domState n).trans h
  · refine ((Dev.wakeGo_wakes _).domState n).trans (Dev.pwrRequest_on _ hn hn0 _ ?_)
    rw [Dev.domState_of_ne _ hn0] at h ⊢
    exact (d.get_set_ne 3 (by have := PWR_Dd_key n; omega)).trans h

theorem Dev.lowIf_get {f : Fld} (h : f.key ≠ PWR_AVS_STAT_BUSY.key) : d.lowIf.get f = d.get f := by
  unfold Dev.lowIf
  split
  · exact d.avsAsk_get _ _ h
  · rfl

/-! ### The supply is off -/

/-- A domain in the state asked for, with what it does not keep lost. -/
def Dev.dryReset (n : Nat) (d : Dev) : Dev :=
  ((d.set (PWR_Dd_STAT_STATE n) (d.aim n)).set (PWR_Dd_STAT_PHASE n) 0).domReset n (d.aim n == 1)

/-- The aim of a drydown forgotten. -/
def Dev.aimless (n : Nat) (d : Dev) : Dev := d.modPower (fun p => { p with aims := p.aims.set n (0, false) (0, false) })

theorem Dev.aimless_get (n : Nat) (f : Fld) : (d.aimless n).get f = d.get f := rfl
theorem Dev.aimless_parts (n : Nat) : (d.aimless n).mem = d.mem ∧ (d.aimless n).syn = d.syn ∧ (d.aimless n).eth = d.eth
    ∧ (d.aimless n).sto = d.sto ∧ (d.aimless n).usb = d.usb := ⟨rfl, rfl, rfl, rfl, rfl⟩
theorem Dev.aimless_power (n : Nat) : (d.aimless n).power = { d.power with aims := d.power.aims.set n (0, false) (0, false) } := rfl

/-- A domain's supply off, before the next target acts. -/
def Dev.supplyOff (n : Nat) (d : Dev) : Dev :=
  ((d.dryReset n).aimless n).pwrRaise 0 n

theorem Dev.supplyOff_parts (n : Nat) : (d.supplyOff n).syn = (d.dryReset n).syn ∧ (d.supplyOff n).eth = (d.dryReset n).eth
    ∧ (d.supplyOff n).sto = (d.dryReset n).sto ∧ (d.supplyOff n).usb = (d.dryReset n).usb := by
  have h := ((d.dryReset n).aimless n).pwrRaise_core 0 n
  obtain ⟨-, hsyn, heth, hsto, husb⟩ := (d.dryReset n).aimless_parts n
  exact ⟨h.syn.trans hsyn, h.eth.trans heth, h.sto.trans hsto, h.usb.trans husb⟩

theorem Dev.supplyOff_noDram {d : Dev} {n : Nat} (h : (d.dryReset n).noDram) : (d.supplyOff n).noDram :=
  (h.of_mem ((d.dryReset n).aimless_parts n).1).pwrRaise 0 n

theorem Dev.supplyOff_get_of_ne {n : Nat} {f : Fld} (hf : inPwr f.key = true ∨ notEvq f) (hne : f.key ≠ PWR_EVT_DRY_DONE.key) :
    (d.supplyOff n).get f = (d.dryReset n).get f := by
  rcases hf with hf | hf
  · exact (((d.dryReset n).aimless n).pwrRaise_get 0 n hf hne).trans (Dev.aimless_get ..)
  · exact (((d.dryReset n).aimless n).pwrRaise_get_far 0 n hf hne).trans (Dev.aimless_get ..)

theorem Dev.supplyOff_dryDone (n : Nat) : (d.supplyOff n).get PWR_EVT_DRY_DONE = 1 := ((d.dryReset n).aimless n).pwrRaise_self 0 n (by decide)

theorem dryDone_eq {n : Nat} (h : d.phaseOf n = 6) : dryDone n d = ((d.supplyOff n).settled n).lowIf := if_pos h

theorem dryDone_events {n : Nat} (hn : n < 13) (h : d.phaseOf n = 6) :
    (dryDone n d).get PWR_EVT_DRY_DONE = 1 ∧ (dryDone n d).get (PWR_Dd_STAT_NEXT n) = 3 := by
  have hkey := PWR_Dd_key n
  have hkeys := PWR_keys
  rw [dryDone_eq d h]
  exact ⟨(Dev.lowIf_get _ (by omega)).trans (Dev.settled_dryDone _ (d.supplyOff_dryDone n)),
    (Dev.lowIf_get _ (by omega)).trans (Dev.settled_next _ hn)⟩

/-- A domain's entry as its supply goes off: a field other than STATE and PHASE that shows its reset value, shows it. -/
theorem Dev.supplyOff_get {n : Nat} {f : Fld} (hf : inPwr f.key = true) (hdry : f.key ≠ PWR_EVT_DRY_DONE.key)
    (hv : ((d.set (PWR_Dd_STAT_STATE n) (d.aim n)).set (PWR_Dd_STAT_PHASE n) 0).get f = f.rst % 2 ^ f.w ∨ n ≠ 0) :
    (d.supplyOff n).get f = ((d.set (PWR_Dd_STAT_STATE n) (d.aim n)).set (PWR_Dd_STAT_PHASE n) 0).get f := by
  refine (d.supplyOff_get_of_ne (.inl hf) hdry).trans (((Dev.domReset_keeps _ n _).pwr.2 f hf).trans ?_)
  rw [Dev.regsReset_get, fieldDomain_of_inPwr hf]
  rcases hv with hv | hn0
  · rw [hv, ite_self]
  · simp [Ne.symm hn0]

theorem Dev.supplyOff_next {n : Nat} (hn : n < 13) (h : d.get (PWR_Dd_STAT_NEXT n) = 3) : (d.supplyOff n).get (PWR_Dd_STAT_NEXT n) = 3 := by
  have hkey := PWR_Dd_key n
  have hkeys := PWR_keys
  obtain ⟨-, -, -, -, hnext, -⟩ := PWR_Dd_inPwr hn
  have hset : ((d.set (PWR_Dd_STAT_STATE n) (d.aim n)).set (PWR_Dd_STAT_PHASE n) 0).get (PWR_Dd_STAT_NEXT n) = 3 :=
    (Dev.get_set_ne _ 0 (by omega)).trans ((d.get_set_ne _ (by omega)).trans h)
  exact (d.supplyOff_get hnext (by omega) (.inl hset)).trans hset

theorem Dev.supplyOff_phase {n : Nat} (hn : n < 13) : (d.supplyOff n).phaseOf n = 0 := by
  have hkey := PWR_Dd_key n
  have hkeys := PWR_keys
  obtain ⟨-, -, hphase, -⟩ := PWR_Dd_inPwr hn
  have hset : ((d.set (PWR_Dd_STAT_STATE n) (d.aim n)).set (PWR_Dd_STAT_PHASE n) 0).get (PWR_Dd_STAT_PHASE n) = 0 := Dev.get_set_same _ _ 0
  exact (d.supplyOff_get hphase (by omega) (.inl hset)).trans hset

theorem Dev.supplyOff_state {n : Nat} (hn : n < 13) (hn0 : n ≠ 0) : (d.supplyOff n).domState n = d.aim n % 4 := by
  have hkey := PWR_Dd_key n
  have hkeys := PWR_keys
  obtain ⟨-, hstate, -⟩ := PWR_Dd_inPwr hn
  rw [Dev.domState_of_ne _ hn0]
  exact (d.supplyOff_get hstate (by omega) (.inr hn0)).trans ((Dev.get_set_ne _ 0 (by omega)).trans (d.get_set_same _ _))

theorem Dev.supplyOff_power (n : Nat) : (d.supplyOff n).power = { d.power with aims := d.power.aims.set n (0, false) (0, false) } := by
  have h : (d.dryReset n).power = d.power := Dev.domReset_power _ n _
  rw [Dev.supplyOff, Dev.pwrRaise_power, Dev.aimless_power, h]

/-- With no next target, only wakes and the retention voltage follow. -/
theorem dryDone_wakes {n : Nat} (hn : n < 13) (h : d.phaseOf n = 6) (hnext : d.get (PWR_Dd_STAT_NEXT n) = 3) :
    (d.supplyOff n).Wakes (dryDone n d) := by
  rw [dryDone_eq d h, Dev.settled_of_idle _ (d.supplyOff_next hn hnext)]
  exact (Dev.wakeGo_wakes _).trans (Dev.lowIf_wakes _)

theorem dryDone_aims {n : Nat} (hn : n < 13) (h : d.phaseOf n = 6) (hnext : d.get (PWR_Dd_STAT_NEXT n) = 3) :
    (dryDone n d).power.aims.get n (0, false) = (0, false) := by
  rw [(dryDone_wakes d hn h hnext).aims, d.supplyOff_power]
  exact Tab.get_set_same d.power.aims n (0, false) (0, false)

theorem dryDone_threads (h : d.phaseOf 1 = 6) (hnext : d.get (PWR_Dd_STAT_NEXT 1) = 3) {t : Nat} (ht : t < 32) : (dryDone 1 d).idleThr t := by
  have hw := dryDone_wakes d (by decide) h hnext
  have hlow := tstate_ne ht
  have hkeys := PWR_keys
  have hidle : (d.dryReset 1).idleThr t := Dev.domReset_idleThr _ _ ht
  obtain ⟨-, hsyn, -⟩ := hw.parts
  obtain ⟨hsyn', -⟩ := d.supplyOff_parts 1
  refine ⟨?_, (hw.get_of_far (by omega) (.inr (by omega))).trans ((d.supplyOff_get_of_ne (.inr (.inl hlow.1)) (by omega)).trans hidle.2)⟩
  rw [Dev.thr, hsyn, hsyn']
  exact hidle.1

theorem dryDone_noDram (h : d.phaseOf 2 = 6) (hnext : d.get (PWR_Dd_STAT_NEXT 2) = 3) (haim : d.aim 2 ≠ 1) : (dryDone 2 d).noDram := by
  obtain ⟨hmem, -⟩ := (dryDone_wakes d (by decide) h hnext).parts
  have hreset : (d.dryReset 2).noDram := by
    rw [Dev.dryReset, beq_false_of_ne haim]
    exact Dev.domReset_noDram _
  rw [Dev.noDram, hmem]
  exact Dev.supplyOff_noDram hreset

theorem dryDone_eth (h : d.phaseOf 9 = 6) (hnext : d.get (PWR_Dd_STAT_NEXT 9) = 3) : (dryDone 9 d).eth = EthPart.reset := by
  obtain ⟨-, -, heth, -⟩ := (dryDone_wakes d (by decide) h hnext).parts
  obtain ⟨-, heth', -⟩ := d.supplyOff_parts 9
  exact heth.trans (heth'.trans (Dev.domReset_eth _ _))

theorem dryDone_sto (h : d.phaseOf 11 = 6) (hnext : d.get (PWR_Dd_STAT_NEXT 11) = 3) : (dryDone 11 d).sto = StoPart.reset := by
  obtain ⟨-, -, -, hsto, -⟩ := (dryDone_wakes d (by decide) h hnext).parts
  obtain ⟨-, -, hsto', -⟩ := d.supplyOff_parts 11
  exact hsto.trans (hsto'.trans (Dev.domReset_sto _ _))

theorem dryDone_usb (h : d.phaseOf 12 = 6) (hnext : d.get (PWR_Dd_STAT_NEXT 12) = 3) : (dryDone 12 d).usb = UsbPart.reset := by
  obtain ⟨-, -, -, -, husb⟩ := (dryDone_wakes d (by decide) h hnext).parts
  obtain ⟨-, -, -, husb'⟩ := d.supplyOff_parts 12
  exact husb.trans (husb'.trans (Dev.domReset_usb _ _))

/-- With no next target and no wake that waits, the domain is in the state asked for and in no transition. -/
theorem dryDone_idle {n : Nat} (hn : n < 13) (h : d.phaseOf n = 6) (hnext : d.get (PWR_Dd_STAT_NEXT n) = 3) (hwake : d.power.waking = []) :
    (n ≠ 0 → (dryDone n d).domState n = d.aim n % 4) ∧ (dryDone n d).phaseOf n = 0 := by
  have hkey := PWR_Dd_key n
  have hkeys := PWR_keys
  have hnone : (d.supplyOff n).power.waking = [] := by rw [d.supplyOff_power]; exact hwake
  refine ⟨fun hn0 => ((dryDone_wakes d hn h hnext).domState n).trans (d.supplyOff_state hn hn0), ?_⟩
  rw [dryDone_eq d h, Dev.settled_of_idle _ (d.supplyOff_next hn hnext), Dev.wakeGo_of_none _ hnone]
  exact (Dev.lowIf_get _ (by omega)).trans (d.supplyOff_phase hn)

/-! ### A waking domain reaches ON -/

theorem Dev.wakeRecords_get {f : Fld} (hf : inPwr f.key = true) (hp : f.key ≠ PWR_WLATCH_PEND.key) (hc : f.key ≠ PWR_WAKES_COUNT.key) :
    d.wakeRecords.get f = d.get f := by
  unfold Dev.wakeRecords
  extract_lets ready
  split
  · refine forAll_get _ (fun x _ e => ?_) d
    exact (Dev.get_set_ne _ _ hp).trans ((Dev.get_inc_ne _ hc).trans ((e.postAon_keeps _).pwr.2 f hf))
  · rfl

/-- A waking domain as it comes ON, before it is told. -/
def Dev.comeOn (n : Nat) (d : Dev) : Dev :=
  ((((d.domReset n (d.domState n == 1)).set (PWR_Dd_STAT_STATE n) 0).setPhase n 0).modPower
    (fun p => { p with waking := p.waking.filter (· != n) })).domStarts n (d.domState n == 1)

theorem domainWakeDone_eq {n : Nat} (h : d.phaseOf n = 7) :
    domainWakeDone n d = (((d.comeOn n).pwrRaise 1 n).settled n).wakeRecords := if_pos h

theorem Dev.comeOn_state {n : Nat} (hn : n < 13) : (d.comeOn n).get (PWR_Dd_STAT_STATE n) = 0 := by
  obtain ⟨-, hstate, -⟩ := PWR_Dd_inPwr hn
  have hkey := PWR_Dd_key n
  have hset : ∀ (e : Dev) (g : PowerPart → PowerPart),
      (((e.set (PWR_Dd_STAT_STATE n) 0).setPhase n 0).modPower g).get (PWR_Dd_STAT_STATE n) = 0 := fun e _ =>
    (Dev.get_set_ne (f := PWR_Dd_STAT_PHASE n) _ 0 (by omega)).trans (e.get_set_same _ 0)
  exact ((Dev.domStarts_samePwr _ n _).2 _ hstate).trans (hset _ _)

theorem domainWakeDone_on {n : Nat} (hn : n < 13) (h : d.phaseOf n = 7) : (domainWakeDone n d).get PWR_EVT_WAKE_DONE = 1
    ∧ (domainWakeDone n d).get (PWR_Dd_STAT_NEXT n) = 3 ∧ (domainWakeDone n d).domState n = 0 := by
  have hkey := PWR_Dd_key n
  have hkeys := PWR_keys
  have hcount : PWR_WAKES_COUNT.key = 8 * 0x101000a0 := rfl
  obtain ⟨-, hstate, -, -, hnext, -⟩ := PWR_Dd_inPwr hn
  have hdone : ((d.comeOn n).pwrRaise 1 n).get PWR_EVT_WAKE_DONE = 1 := (d.comeOn n).pwrRaise_self 1 n (by decide)
  have hon : ((d.comeOn n).pwrRaise 1 n).get (PWR_Dd_STAT_STATE n) = 0 :=
    ((d.comeOn n).pwrRaise_get 1 n hstate (by omega)).trans (d.comeOn_state hn)
  rw [domainWakeDone_eq d h]
  generalize (d.comeOn n).pwrRaise 1 n = e at hdone hon
  refine ⟨?_, ?_, ?_⟩
  · exact (Dev.wakeRecords_get _ rfl (by omega) (by omega)).trans ((e.settled_wakeDone hn).trans hdone)
  · exact (Dev.wakeRecords_get _ hnext (by omega) (by omega)).trans (e.settled_next hn)
  · by_cases hn0 : n = 0
    · exact if_pos hn0
    · have h3 := e.settled_on hn hn0 ((e.domState_of_ne hn0).trans hon)
      rw [Dev.domState_of_ne _ hn0] at h3 ⊢
      exact (Dev.wakeRecords_get _ hstate (by omega) (by omega)).trans h3

end Sys2Proof.Machine
end

section
/-! PROOFS. The phases of a drydown between QUIESCE and POWER, pads held and released, and wake events (R515, R517, R519, R520). -/

namespace Sys2Proof.Machine
variable (d : Dev)

theorem Dev.setPhase_only (n x : Nat) : d.only [(PWR_Dd_STAT_PHASE n).key] (d.setPhase n x) :=
  (Dev.only.refl d _).set List.mem_cons_self x

theorem Dev.setPhase_phaseOf (n : Nat) {x : Nat} (hx : x < 8) : (d.setPhase n x).phaseOf n = x :=
  (d.get_set_same (PWR_Dd_STAT_PHASE n) x).trans (Nat.mod_eq_of_lt hx)

/-! ### DRAIN cut short -/

theorem Dev.postedGone_parts (t : Nat) : (d.postedGone t).posted = d.posted ∧ (d.postedGone t).key = d.key := by
  unfold Dev.postedGone
  split
  · obtain ⟨heq, -⟩ := (Dev.onlySyn.of_syn (d := d) (e := d) (l := retireKeys t) rfl).retire 4
    constructor <;> rw [heq]
  · exact ⟨rfl, rfl⟩

theorem postedGoneAll_parts (l : List Nat) : ∀ d : Dev, (forAll l (fun t d => d.postedGone t) d).posted = d.posted
    ∧ (forAll l (fun t d => d.postedGone t) d).key = d.key := by
  induction l with
  | nil => exact fun _ => ⟨rfl, rfl⟩
  | cons t l ih =>
    intro d
    obtain ⟨hposted, hkey⟩ := d.postedGone_parts t
    obtain ⟨hposted', hkey'⟩ := ih (d.postedGone t)
    exact ⟨hposted'.trans hposted, hkey'.trans hkey⟩

/-- What is in flight to a domain goes. -/
def Dev.drainCut (n : Nat) (d : Dev) : Dev :=
  forAll ((d.posted.filter (postedTo n)).map (·.thr)) (fun t d => d.postedGone t)
    (({ d with posted := d.posted.filter (fun w => !postedTo n w) } : Dev).modKey (fun k => if n = 4 then { k with running := [] } else k))

theorem drainTimeout_eq {n : Nat} (h : d.phaseOf n = 2 ∧ n ≠ 11) : drainTimeout n d = ((d.drainCut n).setPhase n 3).pwrRaise 3 n := if_pos h

theorem drainTimeout_cuts {n : Nat} (hn : n < 13) (h : d.phaseOf n = 2 ∧ n ≠ 11) :
    (drainTimeout n d).phaseOf n = 3 ∧ (drainTimeout n d).get PWR_EVT_DRAIN_FORCED = 1
    ∧ (drainTimeout n d).posted = d.posted.filter (fun w => !postedTo n w)
    ∧ (drainTimeout n d).key.running = (if n = 4 then [] else d.key.running) := by
  have hkey := PWR_Dd_key n
  have hkeys := PWR_keys
  obtain ⟨-, -, hphase, -⟩ := PWR_Dd_inPwr hn
  obtain ⟨hposted, hk⟩ := postedGoneAll_parts ((d.posted.filter (postedTo n)).map (·.thr))
    (({ d with posted := d.posted.filter (fun w => !postedTo n w) } : Dev).modKey (fun k => if n = 4 then { k with running := [] } else k))
  have hcore := Dev.pwrRaise_core ((d.drainCut n).setPhase n 3) 3 n
  rw [drainTimeout_eq d h]
  refine ⟨?_, Dev.pwrRaise_self _ 3 n (by decide), hcore.posted.trans hposted, ?_⟩
  · exact (Dev.pwrRaise_get _ 3 n hphase (by omega)).trans (Dev.setPhase_phaseOf _ n (by decide))
  · rw [hcore.key]
    refine (congrArg KeyPart.running hk).trans ?_
    show (if n = 4 then { d.key with running := [] } else d.key).running = _
    split <;> rfl

/-! ### Pads -/

/-- HOLD ends: the pads keep what the registers drive, and SAVE or POWER follows. -/
def holdDone (n : Nat) (d : Dev) : Dev := (d.holdPads n).setPhase n (if d.aim n = 1 then 5 else 6)

theorem Dev.holdPads_only (n : Nat) :
    Dev.only { d with power := (d.holdPads n).power } [(PWR_Dd_STAT_PHASE n).key, (PWR_Dd_STAT_HELD n).key] (d.holdPads n) := by
  unfold Dev.holdPads
  split
  · exact .refl d _
  · exact (Dev.only.refl (d.modPower _) _).set (f := PWR_Dd_STAT_HELD n) (List.mem_cons_of_mem _ List.mem_cons_self) 1

theorem holdDone_only (n : Nat) :
    Dev.only { d with power := (holdDone n d).power } [(PWR_Dd_STAT_PHASE n).key, (PWR_Dd_STAT_HELD n).key] (holdDone n d) :=
  (d.holdPads_only n).set (f := PWR_Dd_STAT_PHASE n) List.mem_cons_self _

theorem holdDone_phase (n : Nat) : (holdDone n d).phaseOf n = if d.aim n = 1 then 5 else 6 :=
  Dev.setPhase_phaseOf _ n (by split <;> decide)

theorem holdDone_held (n : Nat) : (holdDone n d).get (PWR_Dd_STAT_HELD n) = 1 := by
  have hkey := PWR_Dd_key n
  unfold holdDone Dev.holdPads
  refine (Dev.get_set_ne _ _ (by omega)).trans ?_
  split
  · next h => exact (d.flag_eq_true rfl).1 h
  · exact Dev.get_set_same _ _ 1

theorem holdDone_pads (n m : Nat) : (holdDone n d).power.pads.get m [] =
    if m = n ∧ d.get (PWR_Dd_STAT_HELD n) = 0 then d.flds.filter (fun x => fieldDomain x.1 == n) else d.power.pads.get m [] := by
  unfold holdDone Dev.holdPads
  show (Dev.power (if _ then _ else _)).pads.get m [] = _
  split
  · next h =>
    have h1 := (d.flag_eq_true rfl).1 h
    rw [if_neg (fun hc => absurd (h1.symm.trans hc.2) (by decide))]
  · next h =>
    have h0 := (d.flag_eq_false).1 (Bool.eq_false_iff.2 h)
    by_cases hm : m = n
    · subst hm
      rw [if_pos ⟨rfl, h0⟩]
      exact Tab.get_set_same d.power.pads m _ []
    · rw [if_neg (fun hc => hm hc.1)]
      exact Tab.get_set_ne hm d.power.pads _ [] []

/-- A field of another block drives at the pads what it drove. -/
theorem holdDone_padLevel {n : Nat} (hn : n < 13) {f : Fld} (hf : inPwr f.key = false) : (holdDone n d).padLevel f = d.padLevel f := by
  have hget : ∀ g : Fld, g.key ≠ (PWR_Dd_STAT_PHASE n).key → g.key ≠ (PWR_Dd_STAT_HELD n).key → (holdDone n d).get g = d.get g :=
    fun g hp hh => (holdDone_only d n).2 g (by simp [hp, hh])
  obtain ⟨-, -, hphase, hheld, -⟩ := PWR_Dd_inPwr hn
  have hfget : (holdDone n d).get f = d.get f :=
    hget f (fun h => by rw [h, hphase] at hf; cases hf) (fun h => by rw [h, hheld] at hf; cases hf)
  unfold Dev.padLevel
  dsimp only
  rw [holdDone_pads, hfget]
  by_cases hm : fieldDomain f.key = n
  · have hnew : (holdDone n d).flag (PWR_Dd_STAT_HELD (fieldDomain f.key)) = true := by
      rw [hm]
      exact ((holdDone n d).flag_eq_true rfl).2 (holdDone_held d n)
    rw [if_pos hnew]
    cases hold : d.flag (PWR_Dd_STAT_HELD (fieldDomain f.key))
    · have h0 : d.get (PWR_Dd_STAT_HELD n) = 0 := hm ▸ (d.flag_eq_false).1 hold
      rw [if_pos ⟨hm, h0⟩, if_neg (by decide)]
      simp only [Dev.get, Tab.get]
      rw [Tab.find_filter (p := fun k => fieldDomain k == n) (by simpa using hm)]
    · have h1 : d.get (PWR_Dd_STAT_HELD n) = 1 := hm ▸ (d.flag_eq_true rfl).1 hold
      rw [if_neg (fun hc => absurd (h1.symm.trans hc.2) (by decide)), if_pos rfl]
  · have hflag : (holdDone n d).flag (PWR_Dd_STAT_HELD (fieldDomain f.key)) = d.flag (PWR_Dd_STAT_HELD (fieldDomain f.key)) := by
      have := PWR_Dd_key n
      have := PWR_Dd_key (fieldDomain f.key)
      simp only [Dev.flag]
      rw [hget _ (by omega) (by omega)]
    have hne : ¬ (fieldDomain f.key = n ∧ d.get (PWR_Dd_STAT_HELD n) = 0) := fun hc => hm hc.1
    rw [hflag, if_neg hne]

theorem padRelease_frees (n : Nat) (h : d.domState n = 0 ∧ d.phaseOf n < 4) : (padRelease n d).get (PWR_Dd_STAT_HELD n) = 0
    ∧ (padRelease n d).power.pads.get n [] = [] ∧ Dev.only { d with power := (padRelease n d).power } [(PWR_Dd_STAT_HELD n).key]
        (padRelease n d) := by
  rw [padRelease, if_pos h]
  exact ⟨Dev.get_set_same _ _ 0, Tab.get_set_same d.power.pads n [] [], (Dev.only.refl (d.modPower _) _).set
      (f := PWR_Dd_STAT_HELD n) List.mem_cons_self 0⟩

/-! ### Wake events -/

theorem wakeAll_get (l : List Nat) (f : Fld) (d : Dev) : (forAll l (fun k d => d.wake k) d).get f = d.get f :=
  forAll_get l (fun k _ e => e.wake_get k f) d

theorem wakeAll_latched (l : List Nat) : ∀ d : Dev, (forAll l (fun k d => d.wake k) d).power.latched = d.power.latched := by
  induction l with
  | nil => exact fun _ => rfl
  | cons k l ih =>
    intro d
    refine (ih (d.wake k)).trans ?_
    unfold Dev.wake
    split <;> rfl

/-- The domains that a source wakes. -/
def Dev.toWake (d : Dev) (x : Nat) : List Nat := (bitList 13 (d.get (PWR_WSRCs_DOMS x))).filter d.notOn

theorem Dev.wakeEvent_of_idle {x : Nat} (h : d.get (PWR_WSRCs_EN x) = 0 ∨ d.toWake x = []) : d.wakeEvent x = d := by
  unfold Dev.wakeEvent
  refine if_neg fun hc => ?_
  simp only [Bool.and_eq_true, bne_iff_ne] at hc
  exact h.elim (fun h0 => absurd ((d.flag_eq_false).2 h0) (by simp [hc.1])) hc.2

/-- A source's event latches, counted up to 255. -/
theorem Dev.wakeEvent_latches {x : Nat} (h : ¬ (d.get (PWR_WSRCs_EN x) = 0 ∨ d.toWake x = [])) :
    (d.wakeEvent x).get PWR_WLATCH_PEND = (d.get PWR_WLATCH_PEND ||| 2 ^ x) % 2 ^ PWR_WLATCH_PEND.w
    ∧ ((d.wakeEvent x).power.latched.get x (0, 0)).1 = min 255 ((d.power.latched.get x (0, 0)).1 + 1) := by
  have hkeys := PWR_keys
  obtain ⟨hen, hl⟩ := not_or.1 h
  have hen' : d.flag (PWR_WSRCs_EN x) = true := Bool.not_eq_false _ ▸ fun hc => hen ((d.flag_eq_false).1 hc)
  unfold Dev.wakeEvent
  dsimp only
  rw [if_pos (by simpa [hen', Dev.toWake] using hl)]
  constructor
  · exact ((Dev.wakeGo_wakes _).get_of_far (by omega) (by omega)).trans ((wakeAll_get ..).trans (Dev.get_set_same ..))
  · rw [(Dev.wakeGo_wakes _).latched, wakeAll_latched]
    refine (congrArg Prod.fst (Tab.get_set_same d.power.latched x _ (0, 0)) :)

end Sys2Proof.Machine
end


section
/-! PROOFS. The commands of the power domains. -/

namespace Sys2Proof.Proofs
open Sys2Proof Sys2Proof.Machine

/-- Settles O44, a command at a time: the requests by their branches, the drydown's phases, the endings, the wake sources and the pads. -/
theorem powerDomainsComplete : Obligations.PowerDomainsComplete := by
  intro s
  refine ⟨fun n target => .run rfl ?request, fun n => .run rfl ?quiesce, fun n => .run rfl ?drain, fun n => .run rfl ?timeout,
    fun n => .run rfl ?clocks, fun n => .run rfl ?hold, fun n => .run rfl ?save, fun n => .run rfl ?dry, fun n => .run rfl ?wake,
    fun src => .run rfl ?source, .run (f := fun d => if d.get PWR_WTIMER_TICKS = 0 then d else d.wakeEvent 0) rfl ?timer,
    .run rfl ?software, fun n => .run rfl ?pads⟩
  all_goals generalize s.dev = d
  case request =>
    split
    · next h =>
      rcases h with h | ⟨hn, ht⟩
      · exact if_pos (congrArg Fin.val h)
      · subst hn ht
        rfl
    · next h =>
      obtain ⟨ht, hn⟩ := not_or.1 h
      have ht' : target.val ≠ 3 := fun h3 => ht (Fin.ext h3)
      split
      · next h0 =>
        subst h0
        have ht0 : target.val ≠ 0 := fun h0 => hn ⟨rfl, Fin.ext h0⟩
        have heq : domainRequestWrite 0 target d = d.pwrRefuse 0 3 := by
          rw [domainRequestWrite, if_neg ht', if_pos rfl, if_neg ht0]
        exact ⟨heq ▸ Dev.pwrRefuse_err d (by decide) (by decide), heq ▸ Dev.pwrRefuse_refused d 0 3, heq⟩
      · next hn0 =>
        have hn0' : n.val ≠ 0 := fun h0 => hn0 (Fin.ext h0)
        have hkey := PWR_Dd_key n
        by_cases hp : d.phaseOf n = 0
        · obtain ⟨htarget, hacts⟩ := d.asked_acts (target := target) n.isLt hn0' (by omega) hp
          rw [← domainRequestWrite_acts d hn0' ht' hp] at htarget hacts
          refine ⟨htarget, ?_⟩
          rw [if_neg (not_not_intro hp)]
          have h0 : target = 0 ↔ target.val = 0 := Fin.ext_iff
          have h1 : (target == 1) = (target.val == 1) := Bool.eq_iff_iff.2 (beq_iff_eq.trans (Fin.ext_iff.trans beq_iff_eq.symm))
          have h2 : target = 2 ↔ target.val = 2 := Fin.ext_iff
          simpa only [h0, h1, h2] using hacts
        · have heq := domainRequestWrite_of_transition hn0' ht' hp
          refine ⟨?_, ?_⟩
          · rw [heq]
            exact (Dev.get_set_ne _ _ (by omega)).trans ((d.get_set_same _ _).trans (Nat.mod_eq_of_lt target.isLt))
          · rw [if_pos hp, heq]
            exact ⟨(Dev.get_set_same _ _ _).trans (Nat.mod_eq_of_lt target.isLt),
              ((Dev.only.refl d _).set (f := PWR_Dd_REQ_TARGET n) List.mem_cons_self _).set (f := PWR_Dd_STAT_NEXT n)
                (List.mem_cons_of_mem _ List.mem_cons_self) _⟩
  case quiesce =>
    split
    · next h => exact if_neg h
    · next h =>
      have h1 : d.phaseOf n = 1 := not_not.1 h
      split
      · next hdone =>
        have heq : quiesceDone n d = d.setPhase n 2 := by
          rw [quiesceDone, if_pos h1, d.quiesceIf_of_done hdone]
          exact if_pos hdone
        exact heq ▸ ⟨d.setPhase_only n 2, d.setPhase_phaseOf n (by decide)⟩
      · next hdone =>
        split
        · next hheld =>
          rw [quiesceDone, if_pos h1, d.quiesceIf_of_held hheld]
          exact if_neg hdone
        · next hheld =>
          obtain ⟨haims, hq⟩ := d.quiesceIf_acts (Bool.eq_false_iff.2 hdone) (Bool.eq_false_iff.2 hheld)
          have heq : quiesceDone n d = (d.quiesceIf n).setPhase n 2 := by
            rw [quiesceDone, if_pos h1]
            exact if_pos (congrArg Prod.snd haims)
          rw [heq]
          refine ⟨rfl, Dev.setPhase_phaseOf _ n (by decide), haims, hq.congr rfl rfl (fun f hf => Dev.get_set_ne _ _ fun hk => ?_) rfl⟩
          obtain ⟨-, -, hphase, -⟩ := PWR_Dd_inPwr n.isLt
          rw [hk, hphase] at hf
          cases hf
  case drain =>
    simp only [Bool.not_eq_true']
    split
    · exact ⟨d.setPhase_phaseOf n (by decide), d.setPhase_only n 3⟩
    · rfl
  case timeout =>
    split
    · next h =>
      obtain ⟨hphase, hforced, hposted, hrunning⟩ := drainTimeout_cuts d n.isLt ⟨h.1, fun h11 => h.2 (Fin.ext h11)⟩
      exact ⟨hphase, hforced, hposted, hrunning.trans (if_congr (Fin.ext_iff (b := 4)).symm rfl rfl)⟩
    · next h => exact if_neg fun hc => h ⟨hc.1, fun h11 => hc.2 (congrArg Fin.val h11)⟩
  case clocks =>
    split
    · exact ⟨d.setPhase_phaseOf n (by decide), d.setPhase_only n 4⟩
    · rfl
  case hold =>
    split
    · refine ⟨holdDone_held d n, holdDone_phase d n, holdDone_only d n, (holdDone_pads d n n).trans ?_, holdDone_padLevel d n.isLt rfl,
        holdDone_padLevel d n.isLt rfl⟩
      have hbit : d.get (PWR_Dd_STAT_HELD n) < 2 := d.get_lt (PWR_Dd_STAT_HELD n)
      have h01 : d.get (PWR_Dd_STAT_HELD n) = 0 ↔ ¬ d.get (PWR_Dd_STAT_HELD n) = 1 := by omega
      simp only [h01, true_and, ite_not]
    · rfl
  case save =>
    split
    · exact ⟨d.setPhase_phaseOf n (by decide), d.setPhase_only n 6⟩
    · rfl
  case dry =>
    split
    · next h => exact if_neg h
    · next h =>
      have h6 : d.phaseOf n = 6 := not_not.1 h
      obtain ⟨hdone, hnone⟩ := dryDone_events d n.isLt h6
      refine ⟨hdone, hnone, fun hnext => ⟨dryDone_aims d n.isLt h6 hnext, ?_, ?_, ?_, ?_, ?_⟩, fun hnext hwake => ?_, if_pos h6⟩
      · rintro rfl t ht
        exact dryDone_threads d h6 hnext (List.mem_range.1 ht)
      · rintro rfl haim
        exact dryDone_noDram d h6 hnext haim
      · rintro rfl
        exact dryDone_eth d h6 hnext
      · rintro rfl
        exact dryDone_sto d h6 hnext
      · rintro rfl
        exact dryDone_usb d h6 hnext
      · obtain ⟨hstate, hphase⟩ := dryDone_idle d n.isLt h6 hnext hwake
        exact ⟨fun hn => hstate fun h0 => hn (Fin.ext h0), hphase⟩
  case wake =>
    split
    · next h => exact if_neg h
    · next h => exact domainWakeDone_on d n.isLt (not_not.1 h)
  case source =>
    split
    · next h => exact d.wakeEvent_of_idle h
    · next h => exact d.wakeEvent_latches h
  case timer =>
    split
    · next h =>
      split
      · rfl
      · next ht => exact d.wakeEvent_of_idle (h.resolve_left ht)
    · next h =>
      obtain ⟨ht, hw⟩ := not_or.1 h
      rw [if_neg ht]
      exact d.wakeEvent_latches hw
  case software =>
    split
    · next h => exact d.wakeEvent_of_idle h
    · next h => exact d.wakeEvent_latches h
  case pads =>
    split
    · next h => exact padRelease_frees d n h
    · next h => exact if_neg h

end Sys2Proof.Proofs
end
